-- ==== Sys2Proof/Word.lean ====
section
/-!
DEFINITION. The word of the KR-1856 and the byte its containers carry (00_scope R7, R9).
-/

namespace Sys2Proof

/-- The 18-bit word of the address space and of every container; bit 17 is the most significant (R7). -/
abbrev Word := BitVec 18

/-- One byte of frame or key data (R7). -/
abbrev Byte := BitVec 8

end Sys2Proof
end

