-- ==== Sys2Proof/Syntax.lean ====
section
/-!
DEFINITION. The commands of the KR-1856: one constructor per row of spec/opcode_table.json, in the table's order,
with the facts from outside the block that the row's rule needs as operands.
-/

namespace Sys2Proof

/-- What the device reads of the SPI NOR at step 6 (R67, R69, R103, R104): whether its SFDP tables name a usable part and a
4 KiB erase, its size, the boot record (none when its nine bytes are 0xFF) and the valid lease records with the sectors that
hold them (DESIGN CHOICE, notes/assumptions/8). -/
structure NorRead where
  usable : Bool
  erase4k : Bool
  sizeMib : Nat
  boot : Option (List Word)
  journal : List (Nat × List Word)
  deriving DecidableEq, Repr

/-- A power-up state of the PUF array (R132): 4,608 cells, cell 0 the most significant. -/
abbrev PufState := BitVec 4608

/-- What a host rail does as the supply monitor resets the host section (R45, R47): it comes back above its threshold, it stays
below it, or host power is lost with every rail, and returns by the sequence of Table 2.8. -/
inductive RailFall where
  | recovers
  | stays
  | powerLost
  deriving DecidableEq, Repr

/-- How a run of OTP words ended that did not verify (R121): the words before it verified, and these fuses of this one are
blown. -/
structure OtpStop where
  word : Nat
  fuses : Word
  deriving DecidableEq, Repr

/-- Who sent a verb: an operator session, a tenant's session, or a request without a session (R428, R438). -/
inductive Caller where
  | operator (session : Fin 32)
  | tenant (t : Fin 16)
  | plain
  deriving DecidableEq, Repr

/-- A verified request that carries a verb: its sender and its condition, address and expected generation (R439). -/
structure VerbCall where
  caller : Caller
  cond : Option (Word × BitVec 5)
  deriving DecidableEq, Repr

/-- What the Junction loop shows over 0.1 s: phase error in 0.1 ns and y in 10^-12 (DEDUCED, notes/assumptions/31). -/
structure LoopSample where
  phaseErr : Int
  y : Int
  deriving DecidableEq, Repr

/-- Why a lane lost UP (R192), apart from the error threshold. -/
inductive LaneLoss where
  | signal
  | lock
  | localFault
  | remoteFault
  deriving DecidableEq, Repr

/-- What the ECC of a line says (R308, R322): clean, an error corrected, or one that cannot be. -/
inductive LineEcc where
  | clean
  | corrected
  | uncorrectable
  deriving DecidableEq, Repr

/-- A line as SDRAM gives it: its 512 bits, the tag that its tag line holds, and what its ECC says (DESIGN CHOICE,
notes/assumptions/46). -/
structure SdramLine where
  data : BitVec 512
  tag : BitVec 64
  ecc : LineEcc
  deriving DecidableEq, Repr

/-- What arrives on a trunk lane (R186, R257): in an Ethernet mode a whole frame, from its destination address to its FCS; on a
direct trunk a codeword, as the levels of its 7,875 PAM4 symbols of two bits, the first the most significant (DESIGN CHOICE,
notes/assumptions/8). -/
inductive TrunkRx where
  | frame (bytes : List Byte)
  | codeword (levels : BitVec 15750)
  deriving DecidableEq, Repr

/-- How a Causeway message arrives (R335): good, with a bad CRC or symbol, or with a TYPE or LEN that is not allowed. -/
inductive MsgFault where
  | good
  | crc
  | badType
  deriving DecidableEq, Repr

/-- The four ways of messages: host to Verge die, Verge die to host, Verge die to Tollhouse, Tollhouse to Verge die. -/
inductive Way where
  | down
  | up
  | thDown
  | thUp
  deriving DecidableEq, Repr

/-- The credited classes 1 to 3 (Table 14.1). -/
inductive MsgClass where
  | state
  | station
  | legal
  deriving DecidableEq, Repr

/-- The commands. Each is one indivisible happening at the block's boundary: an event on a pin or a supply, a frame
or message received, the end of a time or of an operation, or a verb of a verified request. -/
inductive Instr where
  | hostRstNRelease (nvmVsel : Bool) (railLow : BitVec 7) (capture : PufState) (programmed : List (Fin 3 × List Byte))
  | hostRstNAssertion (lowNs : Nat)
  | supplyWarning (rail : Fin 7)
  | supplyMonitorReset (rail : Fin 7) (fall : RailFall) (capture : PufState)
  | xoInRuns
  | rootApllLocked (failing : List Nat)
  | otpRead
  | forwardCompletion (fuses : List (Bool × Bool))
  | pufRereadout (capture : PufState)
  | rootDerived
  | sfdpDiscovery (nor : NorRead)
  | bootRecordCleared (refused : Bool) (readsBack : Bool)
  | slotVerified (readError : Option Nat)
  | imageApplied
  | sdramTrainingEnd (failed : BitVec 4)
  | outcomeRunning (upsets : List (Nat × BitVec 512))
  | memoryKeysDrawn
  | mportLinkUp
  | vf33Loss
  | vf33Release
  | fieldRstN (lowNs : Nat)
  | vergeClockLoss
  | vergeCdrLock
  | applyStaged (r : VerbCall)
  | applyVerificationDone (readError : Option Nat)
  | dSectionBoundary (type : Nat) (inst : Nat)
  | bootRecordWritten (refused : Bool) (readsBack : Bool) (capture : PufState)
  | commitCopyDone (refused : Bool) (worn : List (Nat × Byte)) (readError : Option Nat)
  | leaseJournalAppend (refused : Bool)
  | stageOpen (r : VerbCall)
  | stageData (r : VerbCall) (offset : Nat) (bytes : List Byte)
  | stageDataProgrammed (refused : Bool)
  | stageClose (r : VerbCall)
  | stagedSlotVerified (readError : Option Nat)
  | custBtnPress (releasedMs : Nat)
  | custBtnRelease
  | custJmpInstalled
  | custJmpRemoved
  | windowOpen
  | nojmpPress
  | windowTimeout
  | closeWindow (r : VerbCall)
  | enrol (r : VerbCall)
  | toProvision (r : VerbCall)
  | fuseAuthority (r : VerbCall) (hash : List Word)
  | toField (r : VerbCall)
  | toAnalysis (r : VerbCall)
  | retire (r : VerbCall)
  | restartWithStaged (r : VerbCall) (readError : Option Nat)
  | commitStagedToA (r : VerbCall)
  | commitStagedToB (r : VerbCall)
  | raiseImageRung (r : VerbCall) (n : BitVec 6)
  | registerDestroyDone (failing : List Nat)
  | enrolCapture (capture : PufState)
  | helperBankWritten (stop : Option OtpStop)
  | authorityBankWritten (stop : Option OtpStop)
  | intentPairWritten (a : Bool) (b : Bool)
  | donePairWritten (a : Bool) (b : Bool)
  | leaseLadderAdvance (ia ib : Bool) (a : Bool) (b : Bool)
  | stationKeyDerived (station : BitVec 16)
  | entropyWindowEnd (samples : BitVec 1024)
  | healthTestFailure (samples : List Bool)
  | retestEnd (samples : BitVec 1024)
  | reseedDue
  | entropyRequestTimeout
  | memoryKeyRetry (tenant : Fin 16)
  | refActivityLost (ref : Fin 4)
  | refActivityGood (ref : Fin 4)
  | frequencyResult (ref : Fin 4) (ppb : Int)
  | wtrExpiry (ref : Fin 4)
  | bwStageSettled (loop : List LoopSample)
  | lockedReached (loop : List LoopSample)
  | holdFreqUpdate (loop : List LoopSample)
  | holdLimitReached
  | xoFailure
  | laneFault (lane : Fin 16) (losses : List LaneLoss) (receiving : Bool)
  | laneErrorThreshold (lane : Fin 16) (corrected uncorrectable : Nat) (receiving : Bool)
  | laneUp (lane : Fin 16)
  | linkHoldExpiry (lane : Fin 16)
  | dampExpiry (lane : Fin 16)
  | clientFrameRx (lane : Fin 16) (bytes : List Byte)
  | trunkFrameRx (lane : Fin 16) (f : TrunkRx)
  | pauseFrameRx (lane : Fin 16) (quanta : BitVec 16)
  | pfcFrameRx (lane : Fin 16) (enable : Byte) (quanta : BitVec 128)
  | pauseTimerExpiry (lane : Fin 16) (prio : Option (Fin 8))
  | pauseRefresh (lane : Fin 16)
  | txFrameComplete (lane : Fin 16)
  | schedulerPick (lane : Fin 16) (engineWait : Nat)
  | degradedExpiry (tenant : Fin 16)
  | tenantReset (r : VerbCall) (tenant : Fin 16)
  | unfence (r : VerbCall) (tenant : Fin 16)
  | resetDrainEnd (tenant : Fin 16)
  | resetQueuesEmptied (tenant : Fin 16)
  | regionResetComplete (region : Fin 17)
  | resetWindowExpiry (tenant : Fin 16)
  | ackSeqWrite (r : VerbCall) (tenant : Fin 16) (value : Word)
  | notifyFrameSend (tenant : Fin 16)
  | spillAcceptTimeout (queue : Fin 16384) (ahead : Nat)
  | spillReadBack (queue : Fin 16384) (good : Bool)
  | drainTimeout (tenant : Fin 16)
  | delayQuietExpiry (queue : Fin 16384)
  | oldTxSlotDestroy (stream : Fin 16384)
  | noticeAckTimeout (stream : Fin 16384)
  | noticeWaitTimeout (stream : Fin 16384)
  | leaseQueryRx (lane : Fin 16) (words : List Word)
  | leaseNoticeRx (lane : Fin 16) (words : List Word)
  | noticeAckRx (lane : Fin 16) (words : List Word)
  | helloRx (lane : Fin 16) (words : List Word)
  | replyRx (lane : Fin 16) (words : List Word)
  | finishRx (lane : Fin 16) (words : List Word)
  | installedRx (lane : Fin 16) (words : List Word)
  | refuseRx (lane : Fin 16) (words : List Word)
  | handshakeRetransmit (group : Fin 16)
  | finishWaitTimeout (group : Fin 16)
  | pkOperationDone
  | linkKeysDerived (group : Fin 16)
  | backoffExpiry (group : Fin 16)
  | rekeyDue (group : Fin 16)
  | settleExpiry (group : Fin 16)
  | tableRead (r : VerbCall) (table first count : Word)
  | memoryReadComplete (region : Fin 17) (level : Fin 7) (index : Nat) (read : SdramLine) (latency : Nat)
  | reencryptionComplete (region : Fin 17) (level : Fin 8) (index : Nat) (siblings : List (Fin 24 × SdramLine))
  | directoryRequest (region : Fin 17) (line : Nat) (write : Option (BitVec 512)) (evict : Option (Fin 17 × Fin 7 × Nat))
  | snoop (engine : Fin 4) (region : Fin 17) (line : Nat) (evicting : Bool)
  | snoopAnswer (engine : Fin 4) (region : Fin 17) (line : Nat)
  | l0Release (engine : Fin 4) (region : Fin 17) (line : Nat) (dirty : Bool)
  | dapAccess (region : Fin 19) (line : Nat) (write : Option (BitVec 512)) (raw : SdramLine)
  | trainAligned
  | trainingTimeout
  | channelFail (channels : BitVec 4)
  | heartbeatRx (atVerge : Bool) (pair : Fin 2) (fault : MsgFault)
  | heartbeatDue (verge : Bool)
  | creditRx (way : Way) (cls : MsgClass) (words : Nat)
  | ackRx (way : Way) (cls : MsgClass)
  | nakRx (way : Way) (cls : MsgClass) (retrained : Bool)
  | gobackTimeout (way : Way) (cls : MsgClass) (retrained : Bool)
  | retrainTimer (success : Bool)
  | portConfigRx (fault : MsgFault)
  | portCmdRetry (fault : MsgFault)
  | portCmdClear (fault : MsgFault)
  | stateUpdateRx (fault : MsgFault)
  | stateQueryRx (fault : MsgFault)
  | cmdReplyRx (fault : MsgFault)
  | stationUpRx (fault : MsgFault)
  | stationDownRx (fault : MsgFault)
  | legalParamsRx
  | thAckRx
  | windowWriteRx (fault : MsgFault)
  | logEntryRx (fault : MsgFault)
  | thReplyRx (fault : MsgFault)
  | thHelloRx (fault : MsgFault)
  | meterSectionRx
  | linkMessageRelay (toTollhouse : Bool) (foreign : Option (BitVec 6)) (fault : MsgFault)
  | thLinkHeartbeatTimeout
  | tollhouseLinkUp
  | stationFrameRx (port : Fin 10) (bytes : List Byte)
  | gapAbort (port : Fin 10)
  | syncClockStop (port : Fin 10)
  | ctsAsserted (port : Fin 10)
  | ctsTimeout (port : Fin 10)
  | leadExpiry (port : Fin 10)
  | downstreamTxEnd (port : Fin 10)
  | tailExpiry (port : Fin 10)
  | dcdChange (port : Fin 10) (level : Bool)
  | portDownProbe (port : Fin 10)
  | fieldInputChange (input : Fin 8) (level : Bool)
  | vpFrameDequeue
  | thPowerOnReset (onVbat : Bool)
  | thSelfCheckDone (failed : Option (Fin 3))
  | thSwitchToVbat (mv : Word)
  | thReturnToVt33 (mv : Word)
  | vbatMeasurement (mv : Word)
  | crystalStopped
  | crystalResumed
  | timeSave (mramOk : Bool)
  | timeRangeEnd
  | sealLoopOpen
  | sealLoopClosed
  | thKeyPress
  | custodyOpen
  | custodyTimeout
  | thReadIdent
  | thReadPoint
  | thReadRecord (mramOk : Bool)
  | thAdjustTime
  | thDemandReset
  | thSetTime
  | thSetCal
  | thSetInterval
  | thInstallAuthority
  | thInstallMeterKey
  | thVerify
  | thCloseCustody
  | intervalChangeApply
  | pulseCount (input : Fin 8)
  | analogueSample (input : Fin 4) (code : Word)
  | meteringTick
  | intervalBoundary
  | reportSigned
  | statusWindowRefresh
  | displayCycle
  | thCommandWaitTimeout (session : Fin 32)
  | signpostOpen (lane : Option (Fin 16)) (bytes : List Byte)
  | request (lane : Option (Fin 16)) (bytes : List Byte)
  | plainRequest (lane : Option (Fin 16)) (bytes : List Byte)
  | openingTimeout (c : Caller)
  | sessionIdleTimeout (c : Caller)
  | authLockExpiry (tenant : Option (Fin 16))
  | read (r : VerbCall) (address count : Word)
  | write (r : VerbCall) (address : Word) (words : List Word)
  | thResult (r : VerbCall) (hostSeq : Word)
  | exportReports (r : VerbCall) (position : BitVec 36) (count : Word)
  | exportJournal (r : VerbCall) (position : BitVec 36) (count : Word)
  | close (r : VerbCall)
  | alarmAckEntry (r : VerbCall) (a0 : BitVec 16) (event kindNumber : Word)
  | alarmAckClass (r : VerbCall) (a0 : BitVec 16)
  | alarmAckAll (r : VerbCall)
  | alertHoldExpiry
  | milepostSelWrite (r : VerbCall) (block : Fin 36) (counter : Fin 32) (value : Word)
  | threshWrite (r : VerbCall) (block : Fin 36) (counter : Fin 32) (value : Word)
  | windowBoundary
  | snapNow (r : VerbCall)
  | runWrite (r : VerbCall) (on : Bool)
  | win100usWrite (r : VerbCall) (value : Word)
  | snapshotCopyDone
  | waymarkControlWrite (r : VerbCall) (value : Word)
  | waymarkRateWrite (r : VerbCall) (value : Word)
  | waymarkFilterWrite (r : VerbCall) (value : Word)
  | waymarkClear (r : VerbCall)
  | arm (r : VerbCall) (on : Bool)
  | freezeNow (r : VerbCall)
  | postBlocksWritten
  | baseCapture
  | checkpointCapture
  | gapRecord
  | go (r : VerbCall)
  | replayCycle
  | progressBoundExceeded (queue : Fin 16384)
  | fabricBoundExceeded (cls : Fin 4)
  | pauseMaxExceeded (lane : Fin 16)
  | requestPromotion (requester age conflicts : Nat)
  | thSupplyLoss
  | signalRegained (lane : Fin 16)
  | helperBankVoided (fuses : Word)
  | sofReceived (port : Fin 10)
  | thKeyRelease
  | mportLinkDown
  | fieldRstNRelease
  | thCommand (r : VerbCall) (args : List Word)
  | portCommand (r : VerbCall) (a0 : Word)
  | flapWindowExpiry (lane : Fin 16)
  | sec60sExpiry
  deriving DecidableEq, Repr

end Sys2Proof
end

