-- ==== Sys2Proof/Decode.lean ====
section
/-!
DEFINITION. The command that a word spells. The KR-1856 has no instruction words: spec/opcode_table.json gives no row any bits,
so no word spells a command.
-/

namespace Sys2Proof

/-- The command that `nbits` bits `w` of the table spell: none, since no row has bits (DESIGN CHOICE, notes/assumptions/1).
-/
def decodeTableWord (_nbits _w : Nat) : Option Instr := none

end Sys2Proof
end

