-- ==== Sys2Proof/Machine/Bits.lean ====
section
/-!
DEFINITION. Fields of words, quantities held in several words (00_scope R11), and counters that hold at
their largest value (R470 and each chapter's "Counters saturate").
-/

namespace Sys2Proof.Machine

/-- Bits [hi:lo] of a number. -/
def bits (v hi lo : Nat) : Nat := v / 2 ^ lo % 2 ^ (hi + 1 - lo)

/-- The value `v` placed in bits [hi:lo]. -/
def fld (hi lo v : Nat) : Nat := v % 2 ^ (hi + 1 - lo) * 2 ^ lo

/-- A flag placed at bit `i`. -/
def flag (i : Nat) (b : Bool) : Nat := if b then 2 ^ i else 0

/-- The value `v` shown in a field whose largest value is `2 ^ n - 1`, saturating. -/
def sat (n v : Nat) : Nat := min v (2 ^ n - 1)

/-- One more, saturating at `2 ^ n - 1`. -/
def satInc (n v : Nat) : Nat := min (v + 1) (2 ^ n - 1)

/-- `k` more, saturating at `2 ^ n - 1`. -/
def satAdd (n v k : Nat) : Nat := min (v + k) (2 ^ n - 1)

/-- Word `i` (0 is the most significant, at the lowest address) of a quantity held in `n` words (R11). -/
def wideWord (n v i : Nat) : Nat := v / 2 ^ (18 * (n - 1 - i)) % 2 ^ 18

/-- The quantity a run of words holds, the most significant word first (R11). -/
def wideOf (ws : List Word) : Nat := ws.foldl (fun a w => a * 2 ^ 18 + w.toNat) 0

/-- An offset of `n` bits in two's complement, of an integer that lies within its range. -/
def twos (n : Nat) (v : Int) : Nat := (v % (2 ^ n : Int)).toNat

/-- The integer that `n` bits in two's complement hold. -/
def ofTwos (n v : Nat) : Int := if v < 2 ^ (n - 1) then (v : Int) else (v : Int) - 2 ^ n

/-- Element `i` of a list of words, 0 beyond its end. -/
def wordAt (ws : List Word) (i : Nat) : Word := (ws[i]?).getD 0

/-- The list with element `i` replaced; a shorter list is first filled with `0`. -/
def wordsSet (ws : List Word) (i : Nat) (w : Word) : List Word :=
  (ws ++ List.replicate (i + 1 - ws.length) 0).set i w

/-- The set bits of a mask below `n`, rising. -/
def maskList (n m : Nat) : List Nat := (List.range n).filter (fun i => m.testBit i)

/-- The first number below `n` that satisfies `p`. -/
def firstBelow (n : Nat) (p : Nat → Bool) : Option Nat := (List.range n).find? p

/-- How many numbers below `n` satisfy `p`. -/
def countBelow (n : Nat) (p : Nat → Bool) : Nat := ((List.range n).filter p).length

/-- The mask of the numbers below `n` that satisfy `p`. -/
def maskOf (n : Nat) (p : Nat → Bool) : Nat := ((List.range n).filter p).foldl (fun a i => a + 2 ^ i) 0

/-! Times, in cycles of CK_CORE at its nominal 1.25 GHz (07_junction_clocking Table 7.1). -/

/-- Cycles of `n` nanoseconds, rounded up. -/
def ns (n : Nat) : Nat := (n * 5 + 3) / 4
def us (n : Nat) : Nat := n * 1250
def ms (n : Nat) : Nat := n * 1250000
def secs (n : Nat) : Nat := n * 1250000000

end Sys2Proof.Machine
end

