-- ==== Sys2Proof/Machine/Tab.lean ====
section
/-!
DEFINITION. Sparse tables: a list of (number, value) pairs with the numbers rising and no entry equal to
the value an unlisted number holds. Every numbered set of the spec (lanes, tenants, queues, streams, slots,
stations, points) is one; `d` is always the value of an unlisted number.
-/

namespace Sys2Proof.Machine

/-- A numbered set of like things, by number. -/
abbrev Tab (α : Type) := List (Nat × α)

/-- The value of number `k`. -/
def tabGet {α : Type} (d : α) : Tab α → Nat → α
  | [], _ => d
  | (j, v) :: t, k => if j = k then v else tabGet d t k

/-- Puts an entry before the first larger number. -/
def tabInsert {α : Type} (k : Nat) (v : α) : Tab α → Tab α
  | [] => [(k, v)]
  | (j, w) :: t => if k < j then (k, v) :: (j, w) :: t else (j, w) :: tabInsert k v t

/-- Gives number `k` the value `v`; a value equal to the unlisted one leaves no entry. -/
def tabPut {α : Type} [DecidableEq α] (d : α) (t : Tab α) (k : Nat) (v : α) : Tab α :=
  let u := t.filter (fun e => decide (e.1 ≠ k))
  if v = d then u else tabInsert k v u

/-- Changes number `k` by `f`. -/
def tabMod {α : Type} [DecidableEq α] (d : α) (t : Tab α) (k : Nat) (f : α → α) : Tab α :=
  tabPut d t k (f (tabGet d t k))

/-- Changes every listed number by `f`. -/
def tabMap {α : Type} [DecidableEq α] (d : α) (t : Tab α) (f : Nat → α → α) : Tab α :=
  (t.map (fun e => (e.1, f e.1 e.2))).filter (fun e => decide (e.2 ≠ d))

/-- The canonical form of a table. -/
def tabWf {α : Type} [DecidableEq α] (d : α) (t : Tab α) : Bool :=
  decide (t.Pairwise (fun a b => a.1 < b.1)) && t.all (fun e => decide (e.2 ≠ d))

end Sys2Proof.Machine
end

