-- ==== Sys2Proof/Machine/UnitCauseway.lean ====
section
/-!
DEFINITION. State of the Causeway and of the Tollhouse link (14_causeway Tables 14.1 to 14.8): the partner, and for each
way and class the messages that wait, that await their acknowledgement and that are on the wire.
-/

namespace Sys2Proof.Machine

/-- PARTNER (Table 14.3). -/
inductive Partner where
  | absent
  | training
  | up
  | single
  deriving DecidableEq, Repr

def Partner.code : Partner → Nat
  | .absent => 0
  | .training => 1
  | .up => 2
  | .single => 3

/-- A downstream frame of a station (R379): its port, its bytes, and the VP queue it left; a SYNC has left none. -/
structure DownFrame where
  port : Nat
  bytes : List Nat
  queue : Option Nat
  deriving DecidableEq, Repr

/-- The messages of classes 1 to 3 (Table 14.2). An event of the Verge die crosses with the STATE_UPDATE that shows its
change. -/
inductive Msg where
  | portConfig (port genBase : Nat) (v : List Word)
  | portCmd (port : Nat) (cond : Option Nat) (action : Nat)
  | stateUpdate (unit : Nat) (words : List Nat) (events : List (Nat × Nat))
  | stateQuery
  | cmdReply (port result : Nat)
  | stationUp (port : Nat) (bytes : List Nat)
  | stationDown (f : DownFrame)
  | legalParams (hostSeq : Nat) (words : List Word)
  | thCommand (hostSeq : Nat) (words : List Word)
  | thAck (seq : Nat)
  | windowWrite (seq offset : Nat) (words : List Word)
  | logEntry (seq : Nat) (words : List Word)
  | thReply (hostSeq result : Nat)
  | thHello (seq : Nat) (words : List Word)
  | meterSection (station port : Nat) (bytes : List Nat)
  deriving DecidableEq, Repr

/-- One class of one way (R337, R339) (DEDUCED, notes/assumptions/48). -/
structure Chan where
  credit : Nat := 0
  waiting : List Msg := []
  /-- Sent and not acknowledged, oldest first, each with its SEQ. -/
  unacked : List (Nat × Msg) := []
  next : Nat := 0
  goBacks : Nat := 0
  /-- Sent and not yet at the receiver. -/
  wire : List (Nat × Msg) := []
  /-- The receiver: the SEQ it expects, whether it has sent a NAK for it, and the words consumed whose credit it has not
  returned. -/
  expected : Nat := 0
  naked : Bool := false
  owed : Nat := 0
  deriving DecidableEq, Repr

structure CwayUnit where
  partner : Partner := .absent
  /-- TH: 0 no TH_HELLO since the last UP, 1 reporting, 2 absent, 3 silent. -/
  th : Nat := 0
  gen : Nat := 0
  /-- CH_OK: bits 0 D0, 1 D1, 2 U0, 3 U1. -/
  chOk : Nat := 0
  /-- TH_LINK of the last heartbeat from the Verge die. -/
  thLinkSeen : Bool := false
  absentEvents : Nat := 0
  crcErr : Nat := 0
  naks : Nat := 0
  retrains : Nat := 0
  badType : Nat := 0
  faRefused : Nat := 0
  /-- VERGE_RESTART (Table 2.11): cause of the last restart and their number. -/
  lastCause : Nat := 0
  restarts : Nat := 0
  /-- A heartbeat with RESET 1 has come since the host start; the reset that now shows has been recorded (SEEN). -/
  resetMet : Bool := false
  seen : Bool := false
  /-- Heartbeats sent by the host and by the Verge die, modulo 262,144. -/
  hbHost : Nat := 0
  hbVerge : Nat := 0
  /-- Chans by 3 × way + class. -/
  chans : Tab Chan := []
  /-- HOST_SEQ of the next message toward the Tollhouse, and those not answered, oldest first (R342). -/
  nextHostSeq : Nat := 1
  outstanding : List (Nat × Msg) := []
  /-- Last TH_SEQ taken, and those taken, newest first. -/
  thLast : Nat := 0
  taken : List Nat := []
  thBlocked : Nat := 0
  /-- Shadows of the Verge units, by unit number. -/
  shadow : Tab (List Nat) := []
  /-- The legal window as the host holds it, by offset (R424). -/
  window : Tab Nat := []
  /-- A status block has come since the host start. -/
  statusKnown : Bool := false
  /-- Reports taken since the host start, newest first, each TH_SEQ then p1 to p41, at most 16,384, and their number. -/
  reports : List (List Nat) := []
  reportCount : Nat := 0
  deriving DecidableEq, Repr

end Sys2Proof.Machine
end

