-- ==== Sys2Proof/Machine/UnitSignpost.lean ====
section
/-!
DEFINITION. State of the Signpost unit (17_operator_access Tables 17.4 and 17.11).
-/

namespace Sys2Proof.Machine

/-- A response as it leaves the device (R439): to whom, VERB, STATUS, the request's SEQ and the result words. -/
structure Response where
  dest : Caller
  verb : Nat
  status : Nat
  seq : Nat
  words : List Word
  deriving DecidableEq, Repr

/-- STATE of a session (Table 17.4). -/
inductive SessState where
  | idle
  | opening
  | opened
  deriving DecidableEq, Repr

def SessState.code : SessState → Nat
  | .idle => 0
  | .opening => 1
  | .opened => 2

/-- A session (R434, R436, R437). -/
structure Session where
  state : SessState := .idle
  peer : Nat := 0
  /-- Lane on which a tenant opened it. -/
  lane : Nat := 0
  /-- Time at which it closes without a further verified REQUEST. -/
  until_ : Nat := 0
  /-- SEQ and TAG of the last REQUEST accepted. -/
  rxSeq : Nat := 0
  rxTag : Nat := 0
  /-- SEQ of the next frame from the device. -/
  txSeq : Nat := 1
  /-- The verb of the last REQUEST has not been answered. -/
  busy : Bool := false
  stored : Option Response := none
  deriving DecidableEq, Repr

/-- A REQUEST that waits until its session's verb has been answered (R430): its session, SEQ and TAG, and its body words. -/
structure HeldRequest where
  caller : Caller
  seq : Nat
  tag : Nat
  body : List Nat
  deriving DecidableEq, Repr

/-- The Signpost unit. -/
structure SpUnit where
  oper : Tab Session := []
  ten : Tab Session := []
  unusedWrites : Nat := 0
  authFails : Nat := 0
  replayed : Nat := 0
  resent : Nat := 0
  malformed : Nat := 0
  notPermitted : Nat := 0
  openFails : Nat := 0
  sessionMiss : Nat := 0
  /-- (path, time) of the authentication failures of the last second; path 0 is the operator, 1 + t a tenant. -/
  failTimes : List (Nat × Nat) := []
  /-- Paths on which OPEN is discarded, with the end of the 10 s (R451). -/
  locks : List (Nat × Nat) := []
  /-- SEQ of the last plain request taken, which its response echoes (R438). -/
  plainSeq : Nat := 0
  /-- Source of that request, to which its response goes. -/
  plainPeer : Nat := 0
  /-- REQUESTs that wait for their session (R430), in order of arrival. -/
  held : List HeldRequest := []
  /-- The last 16 HOST_SEQ values, newest first, with their RESULT once answered. -/
  results : List (Nat × Option Nat) := []
  /-- Sessions waiting for a TH_REPLY: session, HOST_SEQ, and the end of the 1 s. -/
  thWaiting : List (Nat × Nat × Nat) := []
  /-- Sessions waiting for a CMD_REPLY: session, port, and action, 8 more when conditioned. -/
  portWaiting : List (Nat × Nat × Nat) := []
  deriving DecidableEq, Repr

end Sys2Proof.Machine
end

