-- ==== Sys2Proof/Machine/UnitZheac.lean ====
section
/-!
DEFINITION. State of the Zheac controller (12_zheac Tables 12.7 and 12.10) and of the public-key engine (R298).
-/

namespace Sys2Proof.Machine

/-- Neighbour states (Table 12.7). -/
inductive ZState where
  | idle
  | settle
  | active
  | keyed
  | backoff
  | unusable
  deriving DecidableEq, Repr

def ZState.code : ZState → Nat
  | .idle => 0
  | .settle => 1
  | .active => 2
  | .keyed => 3
  | .backoff => 4
  | .unusable => 5

/-- What a handshake waits for (Table 12.4). -/
inductive HsPhase where
  /-- Its ephemeral: the DRBG or the key generation. -/
  | ephemeral
  /-- The NONCE of its HELLO or REPLY. -/
  | nonce
  /-- Initiator: the REPLY. -/
  | helloSent
  /-- The verification of the peer's signature. -/
  | verifying
  | ecdh
  /-- The signing nonce, then the signature. -/
  | signNonce
  | signing
  /-- Initiator: INSTALLED. -/
  | finishSent
  /-- Responder: FINISH, for 70 ms. -/
  | replySent
  /-- Responder: the derivation of the keys. -/
  | keysPending
  /-- Responder: the initiator's INSTALLED. -/
  | installedSent
  deriving DecidableEq, Repr

/-- A stream list entry (R289): the AN that the listed transmit stream uses next, and the stream. -/
structure ListEntry where
  an : Nat
  stream : Nat
  deriving DecidableEq, Repr

/-- A handshake in flight. -/
structure Handshake where
  initiator : Bool
  hsId : Nat
  /-- Number of the handshake among all since power-up. -/
  number : Nat
  phase : HsPhase := .ephemeral
  /-- It is rekey-due (R298). -/
  urgent : Bool := false
  myStart : Bool := false
  peerStart : Bool := false
  mine : List ListEntry := []
  theirs : List ListEntry := []
  /-- ACCEPT bitmap of the own list, and of the peer's. -/
  acceptMine : List Bool := []
  acceptTheirs : List Bool := []
  /-- Times the message that awaits an answer has been sent, and when last. -/
  sends : Nat := 0
  sentAt : Nat := 0
  /-- Lane on which the last message of the peer came. -/
  lane : Nat := 0
  derived : Bool := false
  /-- The peer's INSTALLED bitmap, which waits for the own derivation. -/
  peerInstalled : Option (List Bool) := none
  /-- The receive slots installed for the peer's list. -/
  installed : List Bool := []
  /-- The NONCE of each side, the peer's EPH_PUB and node, and the x-coordinate Z (R292, R295). -/
  myNonce : Nat := 0
  peerNonce : Nat := 0
  peerEph : Nat := 0
  peerNode : Option Nat := none
  z : Nat := 0
  /-- The words of the HELLO, of the REPLY and of the FINISH up to its SIGNATURE (R292), and the SIGNATURE to verify. -/
  hello : List Nat := []
  reply : List Nat := []
  finish : List Nat := []
  peerSig : Nat := 0
  signNonce : Nat := 0
  /-- The message that is sent again until it is answered, or for a duplicate HELLO (R294, R299). -/
  message : List Nat := []
  deriving DecidableEq, Repr

/-- A neighbour group (Table 12.10), named by its lowest lane. -/
structure ZGroup where
  state : ZState := .idle
  lastReason : Nat := 0
  gen : Nat := 0
  consec : Nat := 0
  ok : Nat := 0
  failedCount : Nat := 0
  lastHsId : Nat := 0
  backoffUntil : Nat := 0
  settleFrom : Nat := 0
  settleUntil : Nat := 0
  peerStarts : Nat := 0
  lastCount : Nat := 0
  /-- No handshake with the group has succeeded since the start (R302). -/
  startOut : Bool := true
  /-- Slot position (0 to 31) of its ephemeral, once drawn, and whether the key is generated. -/
  eph : Option Nat := none
  ephReady : Bool := false
  /-- Its EPH_PUB. -/
  ephPub : Nat := 0
  hs : Option Handshake := none
  /-- The last handshake that ended with success: its HS_ID, the length of the own list and the INSTALLED bitmap sent (R299). -/
  done : Option (Nat × Nat × List Bool) := none
  deriving DecidableEq, Repr

/-- Word n0 of its record (Table 12.10). -/
def ZGroup.word (v : ZGroup) : Nat := fld 17 15 v.state.code + fld 14 10 v.lastReason + fld 9 5 v.gen + fld 4 0 v.consec

/-- An operation of the public-key engine (Table 12.6). -/
inductive PkOp where
  | generate
  | ecdh
  | sign
  | verify
  deriving DecidableEq, Repr

/-- An operation queued for a group's handshake, by the handshake's number (0 for none), rekey-due or not. -/
structure PkJob where
  group : Nat
  number : Nat
  op : PkOp
  urgent : Bool
  deriving DecidableEq, Repr

/-- The Zheac controller. -/
structure ZheacUnit where
  groups : Tab ZGroup := []
  malformed : Nat := 0
  tagFails : Nat := 0
  queries : Nat := 0
  notices : Nat := 0
  acks : Nat := 0
  /-- HELLOs since the start, from 1 (R288). -/
  hellos : Nat := 0
  /-- Handshakes since power-up. -/
  handshakes : Nat := 0
  /-- The operation that runs, and those that wait in arrival order. -/
  running : Option PkJob := none
  queue : List PkJob := []
  deriving DecidableEq, Repr

end Sys2Proof.Machine
end

