-- ==== Sys2Proof/Machine/Sent.lean ====
section
/-!
DEFINITION. What a command makes the block send: responses, frames, handshake messages and Causeway messages.
-/

namespace Sys2Proof.Machine

/-- One thing sent (DESIGN CHOICE, notes/assumptions/11). -/
inductive Sent where
  /-- A response to a principal (R439). -/
  | response (r : Response)
  /-- An OPEN_REPLY to a path (none for the operator) and its peer, with STATUS and session (R432). -/
  | openReply (tenant : Option Nat) (peer status session : Nat)
  /-- A frame starts to leave on a lane: its bytes, from its destination address to its FCS. -/
  | frame (lane : Nat) (bytes : List Nat)
  /-- A codeword leaves on a direct trunk: the levels of its PAM4 symbols (R186). -/
  | codeword (lane levels : Nat)
  /-- A lane in an Ethernet mode begins, or ends, to send remote fault (R191). -/
  | remoteFault (lane : Nat) (on : Bool)
  /-- A frame leaves on the M-port. -/
  | mport (bytes : List Nat)
  /-- A notification frame of a tenant with its records' SEQ values (R226). -/
  | notify (tenant lane : Nat) (seqs : List Nat)
  /-- The scheduler sends the head frame of a queue on a lane: its length on the lane, and stream, AN and packet number when it
  is protected (R240, R264). -/
  | picked (lane queue len : Nat) (stream : Option Nat) (an pn : Nat)
  /-- A lease message on a lane (R303): its TYPE, the transmit stream, the packet number and the challenge. -/
  | lease (lane type stream pn challenge : Nat)
  /-- A HELLO, REPLY, FINISH, INSTALLED or REFUSE of a group (R289): its TYPE, the lane it leaves on, HS_ID, START, the
  list, the bitmap and the reason, as far as the TYPE has them. -/
  | zheac (group type lane hsId : Nat) (start : Bool) (list : List ListEntry) (bitmap : List Bool) (reason : Nat)
  /-- The answer to a DAP access: the line read, or 0 of a write; none is a bus error (R324). -/
  | dap (answer : Option Nat)
  /-- A line of protected memory is written to SDRAM: its channel, channel line and 512 bits, and the byte address and value of its
  tag in the open region (R308, R312, R315). -/
  | line (channel place data tagAt tag : Nat)
  /-- A message leaves on a way, as its words (R332). -/
  | message (way : Way) (words : List Nat)
  /-- A downstream frame leaves on a field port (R362). -/
  | station (f : DownFrame)
  /-- A cycle of TH_DSP_TX (R427): METRO_STATE, TIME, and point, register and value of each register that is not zero. -/
  | display (metro time : Nat) (lines : List (Nat × Nat × Nat))
  deriving DecidableEq, Repr

end Sys2Proof.Machine
end

