-- ==== Sys2Proof/Machine/UnitAlarms.lean ====
section
/-!
DEFINITION. State of the alarm unit (18_alarms): the operator event ring, the 64-entry alarm table, ALERT_N
and the policy in force.
-/

namespace Sys2Proof.Machine

/-- STATE of an alarm entry (Table 18.3). -/
inductive AlarmState where
  | free
  | activeUnack
  | activeAck
  | clearedUnack
  deriving DecidableEq, Repr

/-- One of the 64 alarm entries (R460, Table 18.10). -/
structure AlarmEntry where
  state : AlarmState := .free
  event : Nat := 0
  kind : Nat := 0
  number : Nat := 0
  arg : Nat := 0
  /-- Occurrences since the entry was taken, saturating at 65,535. -/
  count : Nat := 0
  firstS : Nat := 0
  lastS : Nat := 0
  /-- Renewals since the acknowledgement, held against REASSERT. -/
  renewals : Nat := 0
  /-- Raised by an occurrence whose way of clearing is start-latched (R461). -/
  startLatched : Bool := false
  deriving DecidableEq, Repr

/-- One record of the operator event ring (Table 18.2). -/
structure EventRec where
  event : Nat
  kind : Nat
  number : Nat
  seq : Nat
  arg : Nat
  /-- CK_CORE cycles since the start, modulo 2^54. -/
  time : Nat
  latched : Bool
  deriving DecidableEq, Repr

/-- The alarm unit. -/
structure AlarmUnit where
  entries : Tab AlarmEntry := []
  overflow : Bool := false
  /-- EVENTS, 36 bits, saturating. -/
  events : Nat := 0
  alarmLost : Nat := 0
  /-- SEQ of the last record, modulo 262,144. -/
  eventSeq : Nat := 0
  acks : Nat := 0
  /-- The last 32 records, newest first. -/
  ring : List EventRec := []
  /-- P0 and P1, which live writes change (Table 18.9); the values without the section are R469's. -/
  p0 : Nat := 0o500000
  p1 : Nat := 0
  /-- P2 to P127 as the image sets them. -/
  body : List Word := []
  /-- ALERT_N is driven low. -/
  alertLow : Bool := true
  /-- Model time at which ALERT_N fell, until the 1 ms for which it stays low has ended (R462). -/
  alertHold : Option Nat := none
  deriving DecidableEq, Repr

namespace AlarmUnit

def tenantLatch (a : AlarmUnit) : Bool := a.p0.testBit 17
def tenantAlert (a : AlarmUnit) : Bool := a.p0.testBit 16
def legalAlert (a : AlarmUnit) : Bool := a.p0.testBit 15
def reassert (a : AlarmUnit) : Nat := bits a.p1 17 10
/-- The event words p16 to p79 that never alert (Table 18.9). -/
def quiet (a : AlarmUnit) : List Nat :=
  (((a.body.drop 14).take 64).map BitVec.toNat).filter (fun w => w ≠ 0)

end AlarmUnit

end Sys2Proof.Machine
end

