-- ==== Sys2Proof/Machine/UnitCustody.lean ====
section
/-!
DEFINITION. State of the custody controller and of the OTP (05_custody_and_life_cycle Tables 5.5 and 5.9).
-/

namespace Sys2Proof.Machine

/-- The life-cycle states (Table 5.2). -/
inductive LcState where
  | blank
  | test
  | provision
  | field
  | analysis
  | retired
  deriving DecidableEq, Repr

def LcState.code : LcState → Nat
  | .blank => 0
  | .test => 1
  | .provision => 2
  | .field => 3
  | .analysis => 4
  | .retired => 5

/-- The ladders of the OTP (Table 5.5). -/
inductive Ladder where
  | lc
  | image
  | lease
  deriving DecidableEq, Repr

/-- WIN_STATE (Table 5.9). -/
inductive WinState where
  | closed
  | arming
  | opened
  deriving DecidableEq, Repr

def WinState.code : WinState → Nat
  | .closed => 0
  | .arming => 1
  | .opened => 2

/-- What a running custodian command waits for. -/
inductive CusPhase where
  /-- Voiding the used helper banks in the list, first first (R119). -/
  | voiding (banks : List Nat)
  /-- The captures made so far, of the three from whose majority the helper data are computed. -/
  | capturing (captures : List Nat)
  /-- The words of a helper bank being written: the helper data and their CRC-18. -/
  | writingHelper (bank : Nat) (words : List Word)
  /-- The fourth capture, which must correct under the new bank. -/
  | checking (bank : Nat)
  /-- Voiding the new bank after the fourth capture failed. -/
  | voidingNew (bank : Nat)
  | writingAuthority (bank : Nat) (hash : List Word)
  /-- The whole-register destroy of step 2 of Table 5.4. -/
  | destroying
  | intent (l : Ladder) (rung : Nat)
  | done (l : Ladder) (rung : Nat)
  /-- The boot record of restart-with-staged is being written. -/
  | bootRecord
  /-- The copy of commit-staged runs, to slot 1 (A) or 2 (B). -/
  | copying (target : Nat)
  deriving DecidableEq, Repr

/-- Who asks for a lease ladder advance: the first lease of the start (R272), a stream whose band is used up, or the
station context unit (R380). -/
inductive Advance where
  | firstLease
  | band (stream : Nat)
  | downEpoch
  deriving DecidableEq, Repr

/-- The custody controller (DESIGN CHOICE, notes/assumptions/4; DEDUCED, notes/assumptions/27; DEDUCED,
notes/assumptions/28). -/
structure CustodyUnit where
  win : WinState := .closed
  jmp : Bool := false
  btn : Bool := false
  /-- The jumper has stayed installed since the press began (R109, R111). -/
  jmpThroughout : Bool := false
  /-- The button has been released for 100 ms since a press opened the window (R110). -/
  armed : Bool := true
  /-- A press is being timed: it began while OUTCOME was not 0o0, or OUTCOME has left 0o0 since (R82). -/
  timing : Bool := false
  /-- Model time from which the press is timed. -/
  pressAt : Nat := 0
  lastClose : Nat := 0
  /-- Model time at which the open window closes. -/
  closeAt : Nat := 0
  winCount : Nat := 0
  cmdLast : Nat := 0
  cmdResult : Nat := 0
  nojmp : Nat := 0
  /-- The command that runs: its CMD and what it waits for. -/
  running : Option (Nat × CusPhase) := none
  startState : LcState := .blank
  /-- A rung whose intent pair stands without its done pair (PEND_LADDER, PEND_RUNG). -/
  pend : Option (Ladder × Nat) := none
  /-- No OTP write is made before the next start (R122). -/
  otpStopped : Bool := false
  /-- Lease ladder advances asked and not yet granted or refused, in order (R127). -/
  advances : List Advance := []
  /-- The refused advance of this start has emitted 0o013010. -/
  exhReported : Bool := false
  /-- A transition has completed or stopped the device: no further command is accepted (R121). -/
  halted : Bool := false
  deriving DecidableEq, Repr

end Sys2Proof.Machine
end

