-- ==== Sys2Proof/Machine/UnitImage.lean ====
section
/-!
DEFINITION. State of the image loader (04_spango_image Table 4.13), the sections in force and pending, and what
the device has written to the SPI NOR (boot record, lease journal).
-/

namespace Sys2Proof.Machine

/-- A section of an image (R90): its type, instance, class, wrap, body words as the unit takes them (the unwrapped
plaintext packed nine bytes to four words for a secret section), the bytes of that plaintext (none for a public section, and for a
secret one that is not unwrapped), and the SHA-384 digest of that body (R100). -/
structure Section where
  type : Nat
  inst : Nat
  cls : Nat
  wrap : Bool
  body : List Word
  plain : Option Nat
  digest : Nat
  deriving DecidableEq, Repr

/-- An image that passed its checks: the header fields the status words show, and its sections. -/
structure Image where
  rung : Nat
  release : Nat
  buildDate : Nat
  bound : Nat
  nvmDiv : Nat
  digest : Nat
  sections : List Section
  deriving DecidableEq, Repr

/-- A change of one D section that waits for its unit's boundary (R97): the section, or its removal. -/
structure PendingSection where
  type : Nat
  inst : Nat
  new : Option Section
  deriving DecidableEq, Repr

/-- A staging write (R445): its session, the end of the last STAGE_DATA, the sectors erased, and the bytes of a STAGE_DATA
still being programmed or whether the closing verification runs (DESIGN CHOICE, notes/assumptions/13). -/
structure Staging where
  session : Nat
  next : Nat
  erased : List Nat
  programming : Option (List Nat)
  verifying : Bool
  deriving DecidableEq, Repr

/-- A lease record (Table 4.10) and the sector that holds it. -/
structure LeaseRec where
  sector : Nat
  stream : Nat
  first : Nat
  last : Nat
  ladder : Nat
  deriving DecidableEq, Repr

/-- What the device knows of the SPI NOR and has written to it (DESIGN CHOICE, notes/assumptions/3; DESIGN CHOICE,
notes/assumptions/13). -/
structure NorUnit where
  /-- SFDP signature and 1-4-4 fast read found (R67). -/
  usable : Bool := false
  /-- 4 KiB erase and at least 32 MiB (R86). -/
  writable : Bool := false
  sizeMib : Nat := 0
  /-- The bytes of slot A (1), slot B (2) and the staged slot (3) from their first on; a byte past the end reads 0xFF. -/
  slots : Tab (List Nat) := []
  /-- The boot record words as they stand, none when blank (R103). -/
  boot : Option (List Word) := none
  /-- Valid lease records, in the order written. -/
  journal : List LeaseRec := []
  /-- Sector and record at which the next lease record is appended (R104). -/
  appendSector : Nat := 0
  appendRecord : Nat := 0
  deriving DecidableEq, Repr

/-- The image loader. -/
structure ImageUnit where
  runSource : Nat := 0
  running : Option Image := none
  applyState : Nat := 0
  applyResult : Nat := 0
  applySlotCode : Nat := 0
  diffType : Nat := 0
  diffInst : Nat := 0
  pending : List PendingSection := []
  /-- The staged image whose sections are being applied live. -/
  applying : Option Image := none
  stagedState : Nat := 0
  stagedCode : Nat := 0
  staging : Option Staging := none
  /-- The image accepted at step 7, which step 8 applies. -/
  accepted : Option Image := none
  deriving DecidableEq, Repr

end Sys2Proof.Machine
end

