-- ==== Sys2Proof/Machine/UnitJunction.lean ====
section
/-!
DEFINITION. State of Junction (07_junction_clocking Tables 7.2 and 7.8).
-/

namespace Sys2Proof.Machine

/-- STATE (Table 7.2). -/
inductive JunState where
  | freeRun
  | acquiring
  | locked
  | holdover
  | lost
  deriving DecidableEq, Repr

def JunState.code : JunState → Nat
  | .freeRun => 0
  | .acquiring => 1
  | .locked => 2
  | .holdover => 3
  | .lost => 4

/-- One reference, REFA to REFD (Table 7.8). -/
structure JunRef where
  act : Bool := false
  freqOk : Bool := false
  /-- End of a running wait-to-restore. -/
  wtrUntil : Option Nat := none
  /-- Qualified at least once since the start. -/
  ever : Bool := false
  /-- Last result against XO in units of 0.001 ppm; none when no result exists. -/
  offset : Option Int := none
  /-- Model time of the next result of its frequency monitor at the earliest (R164). -/
  resultAt : Nat := 0
  disquals : Nat := 0
  deriving DecidableEq, Repr

/-- A reference is qualified while activity and frequency are good (R165). -/
def JunRef.qual (r : JunRef) : Bool := r.act && r.freqOk

/-- Junction. -/
structure JunctionUnit where
  state : JunState := .freeRun
  /-- SELECTED: 0 none, 1 REFA to 4 REFD. -/
  selected : Nat := 0
  bwStage : Nat := 0
  gen : Nat := 0
  hist : Bool := false
  xoFail : Bool := false
  /-- Phase error in units of 0.1 ns as last sampled; 0 with no selection. -/
  phaseErr : Int := 0
  /-- y in units of 10^-12 as last written. -/
  outFreq : Int := 0
  holdFreq : Int := 0
  /-- Model time of entry to the state. -/
  since : Nat := 0
  /-- Model time up to which the course of the loop has been told, and how many 0.1 s in a row, since the bandwidth stage began, its
  phase error has stayed below the limit of the stage (R170). -/
  told : Nat := 0
  quiet : Nat := 0
  /-- y over the last 600 times 0.1 s of a LOCKED stint, the newest first (R172). -/
  ys : List Int := []
  switches : Nat := 0
  refs : Tab JunRef := []
  deriving DecidableEq, Repr

/-- The state word 0o004000 (Table 7.8). -/
def JunctionUnit.word (j : JunctionUnit) : Nat :=
  fld 17 15 j.state.code + fld 14 12 j.selected + fld 11 9 j.bwStage + fld 8 4 j.gen + flag 3 j.hist + flag 2 j.xoFail

end Sys2Proof.Machine
end

