-- ==== Sys2Proof/Machine/Sha.lean ====
section
/-!
DEFINITION. Packing of words into bytes (00_scope R9, R10) and what the device computes with the Secure Hash Standard: SHA-256
(16_tollhouse R404, R405, R411, R416, R417), SHA-384 (03_start_of_day R70, 06_keys R133), HMAC, the counter-mode KDF (06_keys
R135) and HKDF (12_zheac R295). The hash functions are those of FIPS 180-4, which the spec names and does not repeat (PRESUMED,
notes/assumptions/80). A string of bytes is a list of numbers below 256.
-/

namespace Sys2Proof.Machine

/-! ## Bytes -/

/-- The bytes of a number, `n` of them, most significant first. -/
def beBytes (n v : Nat) : List Nat := (List.range n).map (fun i => v >>> (8 * (n - 1 - i)) % 256)

/-- The number that bytes hold, most significant first. -/
def ofBytes (b : List Nat) : Nat := b.foldl (fun a x => a <<< 8 ||| x) 0

/-- The ASCII bytes of a text. -/
def ascii (t : String) : List Nat := t.toList.map Char.toNat

/-- The bytes of groups of four words, a short last group completed with words of 0 (R9, R10). -/
def packWords : List Word → List Nat
  | [] => []
  | [a] => group a 0 0 0
  | [a, b] => group a b 0 0
  | [a, b, c] => group a b c 0
  | a :: b :: c :: d :: l => group a b c d ++ packWords l
where
  group (a b c d : Word) : List Nat := beBytes 9 (wideOf [a, b, c, d])

/-- A number of `n` words, the most significant first (R11). -/
def wide (n v : Nat) : List Word := (List.range n).map (fun i => BitVec.ofNat 18 (wideWord n v i))

/-- The words that whole groups of nine bytes hold (R9); a short last group holds none. -/
def unpackWords : List Nat → List Word
  | a :: b :: c :: d :: e :: f :: g :: h :: i :: l => wide 4 (ofBytes [a, b, c, d, e, f, g, h, i]) ++ unpackWords l
  | _ => []

/-- The words of plaintext whose last group may be short: it is completed with bytes of 0 (R9, R10). -/
def unpackPadded (b : List Nat) : List Word := unpackWords (b ++ List.replicate ((9 - b.length % 9) % 9) 0)

/-! ## The constants of the hash functions -/

/-- The primes below 420, which suffice for 80 round constants. -/
def hashPrimes : List Nat :=
  (List.range 420).filter (fun n => decide (2 ≤ n) && [2, 3, 5, 7, 11, 13, 17, 19].all (fun d => n == d || n % d != 0))

/-- The largest `r` below `2 ^ n` with `r ^ k ≤ v`, found from its highest bit down. -/
def rootBelow (k v : Nat) : Nat → Nat → Nat
  | 0, r => r
  | n + 1, r => rootBelow k v n (if (r + 2 ^ n) ^ k ≤ v then r + 2 ^ n else r)

/-- The first `w` bits of the fractional part of the `k`-th root of a prime. -/
def rootBits (k w p : Nat) : Nat := rootBelow k (p <<< (k * w)) (w + 5) 0 % 2 ^ w

/-! ## SHA-2 -/

/-- What tells one hash function of the family from another: the width of its words, its rounds, the rotations of its four mixing
functions (for the last two the third is a shift), its first chaining value, and how many words of the last one it gives. -/
structure HashKind where
  w : Nat
  rounds : Nat
  sumA : Nat × Nat × Nat
  sumE : Nat × Nat × Nat
  mixOld : Nat × Nat × Nat
  mixNew : Nat × Nat × Nat
  start : List Nat
  gives : Nat

def hash256 : HashKind :=
  { w := 32, rounds := 64, sumA := (2, 13, 22), sumE := (6, 11, 25), mixOld := (7, 18, 3), mixNew := (17, 19, 10)
    start := (hashPrimes.take 8).map (rootBits 2 32), gives := 8 }

def hash384 : HashKind :=
  { w := 64, rounds := 80, sumA := (28, 34, 39), sumE := (14, 18, 41), mixOld := (1, 8, 7), mixNew := (19, 61, 6)
    start := ((hashPrimes.drop 8).take 8).map (rootBits 2 64), gives := 6 }

namespace HashKind

def add (k : HashKind) (a b : Nat) : Nat := (a + b) % 2 ^ k.w
def rot (k : HashKind) (x n : Nat) : Nat := (x >>> n) ||| (x <<< (k.w - n)) % 2 ^ k.w
/-- Three rotations. -/
def turn (k : HashKind) (r : Nat × Nat × Nat) (x : Nat) : Nat := k.rot x r.1 ^^^ k.rot x r.2.1 ^^^ k.rot x r.2.2
/-- Two rotations and a shift. -/
def slide (k : HashKind) (r : Nat × Nat × Nat) (x : Nat) : Nat := k.rot x r.1 ^^^ k.rot x r.2.1 ^^^ x >>> r.2.2

/-- Bytes of one block. -/
def blockBytes (k : HashKind) : Nat := 2 * k.w

/-- The next `n` words of a block's schedule; `past` holds the words so far, the newest first. -/
def extend (k : HashKind) : Nat → List Nat → List Nat
  | 0, past => past
  | n + 1, past =>
    let back := fun i => (past[i]?).getD 0
    extend k n (k.add (k.add (k.slide k.mixNew (back 1)) (back 6)) (k.add (k.slide k.mixOld (back 14)) (back 15)) :: past)

/-- The working variables of a round. -/
structure Vars where
  a : Nat
  b : Nat
  c : Nat
  d : Nat
  e : Nat
  f : Nat
  g : Nat
  h : Nat

/-- One round with the sum of its constant and its word of the schedule. -/
def round (k : HashKind) (v : Vars) (kw : Nat) : Vars :=
  let choose := (v.e &&& v.f) ||| ((v.e ^^^ (2 ^ k.w - 1)) &&& v.g)
  let most := (v.a &&& v.b) ||| (v.c &&& (v.a ||| v.b))
  let t := v.h + k.turn k.sumE v.e + choose + kw
  { a := k.add t (k.turn k.sumA v.a + most), b := v.a, c := v.b, d := v.c, e := k.add v.d t, f := v.e, g := v.f, h := v.g }

/-- The chaining value after one block of words. -/
def compress (k : HashKind) (consts : List Nat) (chain block : List Nat) : List Nat :=
  let at_ := fun i => (chain[i]?).getD 0
  let words := (k.extend (k.rounds - 16) block.reverse).reverse
  let v := (List.zipWith (· + ·) consts words).foldl k.round
    { a := at_ 0, b := at_ 1, c := at_ 2, d := at_ 3, e := at_ 4, f := at_ 5, g := at_ 6, h := at_ 7 }
  List.zipWith k.add chain [v.a, v.b, v.c, v.d, v.e, v.f, v.g, v.h]

/-- `n` numbers of `m` bytes each. -/
def chop (m : Nat) : Nat → List Nat → List Nat
  | 0, _ => []
  | n + 1, b => ofBytes (b.take m) :: chop m n (b.drop m)

/-- `n` blocks from the front of padded bytes. -/
def blocks (k : HashKind) (consts : List Nat) : Nat → List Nat → List Nat → List Nat
  | 0, _, chain => chain
  | n + 1, b, chain => blocks k consts n (b.drop k.blockBytes) (k.compress consts chain (chop (k.w / 8) 16 b))

/-- The digest of bytes, as a number of `gives * w` bits. -/
def digest (k : HashKind) (b : List Nat) : Nat :=
  let m := k.blockBytes
  let lenBytes := k.w / 4
  let fill := (2 * m - 1 - lenBytes - b.length % m) % m
  let all := b ++ 0x80 :: List.replicate fill 0 ++ beBytes lenBytes (8 * b.length)
  let consts := (hashPrimes.take k.rounds).map (rootBits 3 k.w)
  ((k.blocks consts (all.length / m) all k.start).take k.gives).foldl (fun a x => a <<< k.w ||| x) 0

/-- The bytes of a digest. -/
def digestBytes (k : HashKind) (b : List Nat) : List Nat := beBytes (k.gives * k.w / 8) (k.digest b)

/-- HMAC under a key (FIPS 198-1), as a number. -/
def hmac (k : HashKind) (key msg : List Nat) : Nat :=
  let key := if key.length ≤ k.blockBytes then key else k.digestBytes key
  let whole := key ++ List.replicate (k.blockBytes - key.length) 0
  k.digest (whole.map (· ^^^ 0x5C) ++ k.digestBytes (whole.map (· ^^^ 0x36) ++ msg))

/-- Bits of a digest. -/
def bits (k : HashKind) : Nat := k.gives * k.w

/-- The KDF in counter mode of SP 800-108 with HMAC as its PRF: its first `len` bits (R135). -/
def kdf (k : HashKind) (key label context : List Nat) (len : Nat) : Nat :=
  let n := (len + k.bits - 1) / k.bits
  let out := (List.range n).foldl (fun a i =>
    a <<< k.bits ||| k.hmac key (beBytes 4 (i + 1) ++ label ++ 0 :: context ++ beBytes 4 len)) 0
  out >>> (n * k.bits - len)

end HashKind

/-- SHA-256 of bytes, as a number of 256 bits. -/
def sha256 (b : List Nat) : Nat := hash256.digest b

/-- SHA-384 of bytes, as a number of 384 bits. -/
def sha384 (b : List Nat) : Nat := hash384.digest b

/-- SHA-256 over the packed bytes of words. -/
def shaWords (w : List Word) : Nat := sha256 (packWords w)

/-- The first `n` bits of a SHA-256. -/
def shaTop (n h : Nat) : Nat := h / 2 ^ (256 - n)

/-- HMAC-SHA-384, as a number of 384 bits. -/
def hmac384 (key msg : List Nat) : Nat := hash384.hmac key msg

/-- The device's KDF: the first `len` bits under a key, a label and a context (R135). -/
def kdf384 (key : List Nat) (label : String) (context : List Nat) (len : Nat) : Nat := hash384.kdf key (ascii label) context len

/-- HKDF-Extract of RFC 5869 with SHA-384 (R295). -/
def hkdfExtract (salt ikm : List Nat) : Nat := hmac384 salt ikm

/-- HKDF-Expand of RFC 5869 with SHA-384, for outputs of at most 48 bytes: the first `len` bytes, as a number (R295). -/
def hkdfExpand (prk : Nat) (info : List Nat) (len : Nat) : Nat := hmac384 (beBytes 48 prk) (info ++ [1]) >>> (8 * (48 - len))

end Sys2Proof.Machine
end

