-- ==== Sys2Proof/Machine/Aes.lean ====
section
/-!
DEFINITION. What the device computes with AES-256: GCM (11_link_cipher R257, 13_protected_memory R311, 17_operator R435), CCM
(15_verge R367), key wrap with padding (04_spango_image R93, 16_tollhouse R411) and CTR_DRBG (06_keys R151). The cipher is that of
FIPS 197 and the modes those of SP 800-38C, -38D, -38F and SP 800-90A, which the spec names and does not repeat (PRESUMED,
notes/assumptions/80). A block is a number of 128 bits, its first byte the most significant.
-/

namespace Sys2Proof.Machine

/-! ## The cipher -/

/-- Multiplication by x in the field of AES. -/
def aesX (b : Nat) : Nat := if b < 128 then b <<< 1 else (b <<< 1 ^^^ 0x11B)

/-- Product in the field of AES, over the lowest `n` bits of `b`. -/
def aesMul : Nat → Nat → Nat → Nat
  | 0, _, _ => 0
  | n + 1, a, b => (if b % 2 = 1 then a else 0) ^^^ aesMul n (aesX a) (b / 2)

/-- The inverse in the field of AES, and 0 for 0: the 254th power. -/
def aesInv (b : Nat) : Nat :=
  let sq := fun x => aesMul 8 x x
  let b2 := sq b
  let b3 := aesMul 8 b2 b
  let b12 := sq (sq b3)
  let b15 := aesMul 8 b12 b3
  let b240 := sq (sq (sq (sq b15)))
  aesMul 8 (aesMul 8 b240 b12) b2

/-- The S-box in full: byte `b` of this number, the lowest first, is the inverse of `b` followed by the affine map. -/
def aesTable : Nat :=
  0x16bb54b00f2d99416842e6bf0d89a18cdf2855cee9871e9b948ed9691198f8e19e1dc186b95735610ef6034866b53e708a8bbd4b1f74dde8c6b4a61c2e2578ba08ae7a65eaf4566ca94ed58d6d37c8e779e4959162acd3c25c2406490a3a32e0db0b5ede14b8ee4688902a22dc4f816073195d643d7ea7c41744975fec130ccdd2f3ff1021dab6bcf5389d928f40a351a89f3c507f02f94585334d43fbaaefd0cf584c4a39becb6a5bb1fc20ed00d153842fe329b3d63b52a05a6e1b1a2c830975b227ebe28012079a059618c323c7041531d871f1e5a534ccf73f362693fdb7c072a49cafa2d4adf04759fa7dc982ca76abd7fe2b670130c56f6bf27b777c63

/-- The inverse S-box in full, laid out as the S-box is. -/
def aesUntable : Nat :=
  0x7d0c2155631469e126d677ba7e042b17619953833cbbebc8b0f52aae4d3be0a0ef9cc9939f7ae52d0d4ab519a97f51605fec8027591012b131c7078833a8dd1ff45acd78fec0db9a2079d2c64b3e56fc1bbe18aa0e62b76f89c5291d711af1476edf751ce837f9e28535ade72274ac9673e6b4f0cecff297eadc674f4111913a6b8a130103bdafc1020f3fca8f1e2cd00645b3b80558e4f70ad3bc8c00abd890849d8da75746155edab9edfd5048706c92b6655dcc5ca4d41698688664f6f87225d18b6d49a25b76b224d92866a12e084ec3fa420b954cee3d23c2a632947b54cbe9dec444438e3487ff2f9b8239e37cfbd7f3819ea340bf38a53630d56a0952

def aesSub (b : Nat) : Nat := aesTable >>> (8 * b) % 256
def aesUnsub (b : Nat) : Nat := aesUntable >>> (8 * b) % 256

/-- The S-box as FIPS 197 defines it: the inverse, then the affine map (Tests shows that the table holds it). -/
def aesSubDef (b : Nat) : Nat :=
  let i := aesInv b
  let d := i ||| i <<< 8
  (i ^^^ d >>> 7 ^^^ d >>> 6 ^^^ d >>> 5 ^^^ d >>> 4 ^^^ 0x63) % 256

/-- Byte `i` of a block, 0 the first. -/
def blockByte (v i : Nat) : Nat := v >>> (8 * (15 - i)) % 256

/-- The block of 16 bytes given by their places. -/
def blockOf (f : Nat → Nat) : Nat := (List.range 16).foldl (fun a i => a <<< 8 ||| f i) 0

/-- The bytes of a block by place, each computed once. -/
def blockMap (f : Nat → Nat) (v : Nat) : List Nat := (List.range 16).map (fun i => f (blockByte v i))

def nth (l : List Nat) (i : Nat) : Nat := (l[i]?).getD 0

/-- Round keys of 128 bits of AES-256, from the words of the key schedule, the newest first. -/
def aesWords : Nat → Nat → List Nat → List Nat
  | 0, _, past => past
  | n + 1, rcon, past =>
    let i := past.length
    let sub := fun x => (aesSub (x >>> 24) <<< 24) ||| (aesSub (x >>> 16 % 256) <<< 16) ||| (aesSub (x >>> 8 % 256) <<< 8) ||| aesSub (x % 256)
    let prev := nth past 0
    let t := if i % 8 = 0 then sub ((prev <<< 8 % 2 ^ 32) ||| prev >>> 24) ^^^ rcon <<< 24 else if i % 8 = 4 then sub prev else prev
    aesWords n (if i % 8 = 0 then aesX rcon else rcon) ((nth past 7 ^^^ t) :: past)

/-- The 15 round keys, in order. -/
def aesKeys (key : Nat) : List Nat :=
  let w := (aesWords 52 1 ((List.range 8).map (fun i => key >>> (32 * i) % 2 ^ 32))).reverse
  (List.range 15).map (fun r => (List.range 4).foldl (fun a j => a <<< 32 ||| nth w (4 * r + j)) 0)

/-- A round without the mixing of columns: bytes substituted and rows shifted. -/
def aesShift (v : Nat) : List Nat :=
  let b := blockMap aesSub v
  (List.range 16).map (fun i => nth b ((i + 4 * (i % 4)) % 16))

def aesRound (v rk : Nat) : Nat :=
  let b := aesShift v
  blockOf (fun i =>
    let at_ := fun k => nth b (4 * (i / 4) + (i + k) % 4)
    aesX (at_ 0) ^^^ aesX (at_ 1) ^^^ at_ 1 ^^^ at_ 2 ^^^ at_ 3) ^^^ rk

/-- AES-256 of a block under round keys. -/
def aesWith (keys : List Nat) (v : Nat) : Nat :=
  blockOf (nth (aesShift (((keys.drop 1).take 13).foldl aesRound (v ^^^ nth keys 0)))) ^^^ nth keys 14

/-- AES-256 of a block under a key of 256 bits. -/
def aes (key v : Nat) : Nat := aesWith (aesKeys key) v

/-- An inverse round: the round key, then columns unmixed, rows shifted back and bytes substituted back. -/
def aesUnround (v rk : Nat) : Nat :=
  let b := blockMap id (v ^^^ rk)
  let mixed := (List.range 16).map (fun i =>
    let at_ := fun k => nth b (4 * (i / 4) + (i + k) % 4)
    aesMul 4 (at_ 0) 14 ^^^ aesMul 4 (at_ 1) 11 ^^^ aesMul 4 (at_ 2) 13 ^^^ aesMul 4 (at_ 3) 9)
  blockOf (fun i => aesUnsub (nth mixed ((i + 12 * (i % 4)) % 16)))

/-- The inverse of AES-256 under round keys. -/
def aesBack (keys : List Nat) (v : Nat) : Nat :=
  let b := blockMap aesUnsub (v ^^^ nth keys 14)
  (((keys.drop 1).take 13).reverse.foldl aesUnround (blockOf (fun i => nth b ((i + 12 * (i % 4)) % 16)))) ^^^ nth keys 0

/-! ## Counter modes -/

/-- Blocks of 16 bytes of a string, as many as it has whole or begun, a short last one filled with bytes of 0. -/
def blocksOf (b : List Nat) : List Nat :=
  (List.range ((b.length + 15) / 16)).map (fun i =>
    let c := (b.drop (16 * i)).take 16
    ofBytes (c ++ List.replicate (16 - c.length) 0))

/-- A string XORed with the keystream whose block `i` is `f i`. -/
def xorStream (f : Nat → Nat) (b : List Nat) : List Nat :=
  (List.range ((b.length + 15) / 16)).flatMap (fun i =>
    List.zipWith (· ^^^ ·) ((b.drop (16 * i)).take 16) (beBytes 16 (f i)))

/-- Product in the field of GHASH: `z` so far, over `n` further bits of `x`, its most significant first. -/
def ghashMul (x : Nat) : Nat → Nat → Nat → Nat
  | 0, _, z => z
  | n + 1, v, z => ghashMul x n (if v % 2 = 0 then v >>> 1 else v >>> 1 ^^^ 0xE1 <<< 120) (if x.testBit n then z ^^^ v else z)

/-- GHASH of blocks under H. -/
def ghash (h : Nat) (blocks : List Nat) : Nat := blocks.foldl (fun y x => ghashMul (y ^^^ x) 128 h 0) 0

/-- GCM under a key and a 96-bit IV: the text XORed with its keystream. -/
def gcmText (key iv : Nat) (text : List Nat) : List Nat :=
  let keys := aesKeys key
  xorStream (fun i => aesWith keys (iv <<< 32 ||| (i + 2))) text

/-- The tag of GCM over additional data and ciphertext, as a number of 128 bits. -/
def gcmTag (key iv : Nat) (aad cipher : List Nat) : Nat :=
  let keys := aesKeys key
  ghash (aesWith keys 0) (blocksOf aad ++ blocksOf cipher ++ [(8 * aad.length) <<< 64 ||| 8 * cipher.length]) ^^^
    aesWith keys (iv <<< 32 ||| 1)

/-- CCM under a key with a 13-byte nonce and an 8-byte tag: the text XORed with its keystream. -/
def ccmText (key : Nat) (nonce text : List Nat) : List Nat :=
  let keys := aesKeys key
  xorStream (fun i => aesWith keys (ofBytes (1 :: nonce ++ beBytes 2 (i + 1)))) text

/-- The 8-byte tag of CCM with a 13-byte nonce over additional data and plaintext (SP 800-38C), as a number. -/
def ccmTag (key : Nat) (nonce aad text : List Nat) : Nat :=
  let keys := aesKeys key
  let first := ofBytes ((if aad.isEmpty then 0x19 else 0x59) :: nonce ++ beBytes 2 text.length)
  let front := if aad.isEmpty then [] else blocksOf (beBytes 2 aad.length ++ aad)
  let mac := (first :: front ++ blocksOf text).foldl (fun y x => aesWith keys (y ^^^ x)) 0
  (mac ^^^ aesWith keys (ofBytes (1 :: nonce ++ [0, 0]))) >>> 64

/-! ## Key wrap with padding -/

/-- The inverse of the wrapping function W over its register and semiblocks, from step `t` down to 1 (SP 800-38F). -/
def unwrapSteps (keys : List Nat) : Nat → Nat → List Nat → Nat × List Nat
  | 0, a, r => (a, r)
  | t + 1, a, r =>
    let v := aesBack keys (((a ^^^ (t + 1)) <<< 64) ||| r.getLast?.getD 0)
    unwrapSteps keys t (v >>> 64) ((v % 2 ^ 64) :: r.dropLast)

/-- The plaintext bytes that a wrapped string holds under a key; none when its integrity check fails (SP 800-38F, KWP-AD). -/
def kwpUnwrap (key : Nat) (c : List Nat) : Option (List Nat) :=
  let n := c.length / 8
  let semis := HashKind.chop 8 n c
  let keys := aesKeys key
  let (a, r) :=
    if n = 2 then
      let v := aesBack keys (ofBytes c)
      (v >>> 64, [v % 2 ^ 64])
    else unwrapSteps keys (6 * (n - 1)) (semis.headD 0) (semis.drop 1)
  let text := r.flatMap (beBytes 8)
  let len := a % 2 ^ 32
  if decide (c.length % 8 = 0 ∧ 2 ≤ n ∧ a >>> 32 = 0xA65959A6 ∧ 8 * (n - 2) < len ∧ len ≤ 8 * (n - 1)) &&
      (text.drop len).all (· == 0) then some (text.take len) else none

/-! ## CTR_DRBG with AES-256 and the derivation function (SP 800-90A) -/

/-- The working state of the DRBG: its key of 256 bits and its counter block V. -/
structure Drbg where
  key : Nat := 0
  v : Nat := 0
  deriving DecidableEq, Repr

/-- `n` blocks of output from the state, as one number, with V as it then stands. -/
def drbgBlocks (keys : List Nat) : Nat → Nat → Nat → Nat × Nat
  | 0, v, out => (out, v)
  | n + 1, v, out =>
    let v := (v + 1) % 2 ^ 128
    drbgBlocks keys n v (out <<< 128 ||| aesWith keys v)

/-- CTR_DRBG_Update with 384 bits of provided data. -/
def Drbg.update (d : Drbg) (data : Nat) : Drbg :=
  let t := (drbgBlocks (aesKeys d.key) 3 d.v 0).1 ^^^ data
  { key := t >>> 128, v := t % 2 ^ 128 }

/-- Block_Cipher_df: 384 bits from a string of bytes. -/
def drbgDf (input : List Nat) : Nat :=
  let s := beBytes 4 input.length ++ beBytes 4 48 ++ input ++ [0x80]
  let keys := aesKeys (ofBytes (List.range 32))
  let bcc := fun (i : Nat) => (i <<< 96 :: blocksOf s).foldl (fun y x => aesWith keys (y ^^^ x)) 0
  let k := bcc 0 <<< 128 ||| bcc 1
  let own := aesKeys k
  let x1 := aesWith own (bcc 2)
  let x2 := aesWith own x1
  x1 <<< 256 ||| x2 <<< 128 ||| aesWith own x2

/-- Instantiation from entropy input, nonce and personalisation, as bytes. -/
def Drbg.instantiate (entropy nonce pers : List Nat) : Drbg := Drbg.update {} (drbgDf (entropy ++ nonce ++ pers))

/-- Reseeding with entropy input. -/
def Drbg.reseed (d : Drbg) (entropy : List Nat) : Drbg := d.update (drbgDf entropy)

/-- A generate request of `bits` bits: the output, and the state after it. -/
def Drbg.generate (d : Drbg) (bits : Nat) : Nat × Drbg :=
  let n := (bits + 127) / 128
  let (out, v) := drbgBlocks (aesKeys d.key) n d.v 0
  (out >>> (128 * n - bits), Drbg.update { d with v := v } 0)

end Sys2Proof.Machine
end

