-- ==== Sys2Proof/Machine/UnitKeys.lean ====
section
/-!
DEFINITION. State of the key register, the station key cache, the TRNG and the DRBG
(06_keys_and_entropy Tables 6.2, 6.3, 6.6 and 6.11). No word of the address space reveals a key's value.
-/

namespace Sys2Proof.Machine

/-- STATE of a slot (R141). -/
inductive SlotState where
  | empty
  | valid
  | destroyed
  | fault
  deriving DecidableEq, Repr

def SlotState.code : SlotState → Nat
  | .empty => 0
  | .valid => 1
  | .destroyed => 2
  | .fault => 3

/-- A slot: its 384 bits (R139) with its metadata (Table 6.3). -/
structure Slot where
  state : SlotState := .empty
  kind : Nat := 0
  /-- GEN, modulo 32. -/
  gen : Nat := 0
  value : Nat := 0
  deriving DecidableEq, Repr

/-- The consumers of the DRBG (R151). -/
inductive Consumer where
  /-- The memory key of a tenant that resets. -/
  | tenantKey (t : Nat)
  /-- The memory keys of step 10. -/
  | startKeys
  /-- A Zheac group's ephemeral (0), NONCE (1) or signing nonce (2). -/
  | zheac (group : Nat) (kind : Nat)
  /-- The challenge of a lease query of a receive stream. -/
  | challenge (stream : Nat)
  /-- The nonce of an OPEN_REPLY on a path: none for the operator, a tenant otherwise; the lane, its peer's address, and the
  nonce NP of the OPEN. -/
  | opening (tenant : Option Nat) (lane peer np : Nat)
  deriving DecidableEq, Repr

/-- TRNG_STATE (Table 6.6). -/
inductive TrngState where
  | startup
  | ok
  | retest
  | failed
  deriving DecidableEq, Repr

def TrngState.code : TrngState → Nat
  | .startup => 0
  | .ok => 1
  | .retest => 2
  | .failed => 3

/-- The entropy unit. -/
structure TrngUnit where
  state : TrngState := .startup
  failRun : Nat := 0
  lastTest : Nat := 0
  healthFails : Nat := 0
  entUnavail : Nat := 0
  reseeds : Nat := 0
  /-- Samples in the pool, at most 2,048, the oldest first (R150). -/
  pool : List Bool := []
  /-- The last sample, and how many in a row had its value: the repetition count (R149). -/
  lastSample : Bool := false
  repeats : Nat := 0
  /-- The personalisation value of Table 6.1, 384 bits, once it is derived. -/
  pers : Option Nat := none
  /-- The working state of CTR_DRBG (R151). -/
  drbg : Drbg := {}
  /-- Model time of the last seeding. -/
  seededAt : Nat := 0
  /-- The DRBG has been instantiated since the start. -/
  instantiated : Bool := false
  /-- In STARTUP the start-up tests have passed; in RETEST the retest has passed (R151). -/
  firstPassed : Bool := false
  /-- A reseed waits for the pool. -/
  reseedDue : Bool := false
  /-- Generate requests since the last seeding. -/
  generates : Nat := 0
  /-- Requests waiting, in arrival order, with the time of their arrival (R153). -/
  waiting : List (Consumer × Nat) := []
  /-- The first failed request of this outage has emitted 0o041006. -/
  outageReported : Bool := false
  deriving DecidableEq, Repr

/-- What the derivation unit has still to compute: the key of a station (R148), or the link keys of a group's handshake
(R295). -/
inductive KeyJob where
  | station (station : Nat)
  | link (group : Nat)
  deriving DecidableEq, Repr

/-- The key register, the root register and the station key cache. -/
structure KeyUnit where
  slots : Tab Slot := []
  /-- What a slot the table does not list holds. -/
  base : Slot := {}
  /-- Slots whose cells do not read back zero after a destroy (R145): a physical condition of the part. -/
  defective : List Nat := []
  /-- The life-cycle state whose root the root register holds (R134). -/
  root : Option LcState := none
  /-- The 384 bits of that root. -/
  rootValue : Nat := 0
  /-- BIND_PUB and ZHEAC_PUB: the public halves of the image key and of the Zheac identity key (R92, R137). -/
  bindPub : Nat := 0
  zheacPub : Nat := 0
  /-- Slots whose destroy has begun and not yet ended its verification, with the model time of its end (R144). -/
  destroys : List (Nat × Nat) := []
  slotSel : Nat := 0
  destroyFails : Nat := 0
  cacheMiss : Nat := 0
  /-- Cache entries as (station, entry), the least recently used first (R147). -/
  cache : List (Nat × Nat) := []
  /-- The derivations that wait, in order of arrival (R148, R295). -/
  derivations : List KeyJob := []
  deriving DecidableEq, Repr

end Sys2Proof.Machine
end

