-- ==== Sys2Proof/Machine/UnitLanes.lean ====
section
/-!
DEFINITION. State of the 16 lanes (08_lanes Tables 8.4 and 8.10). What a lane is configured as stands in its LANE
section; a group lives at its lowest lane. The two ends of a direct trunk's line stand beside them (R186 to R188).
-/

namespace Sys2Proof.Machine

/-- STATE of a lane (Table 8.4). -/
inductive LaneState where
  | off
  | training
  | up
  | hold
  | down
  | damped
  deriving DecidableEq, Repr

def LaneState.code : LaneState → Nat
  | .off => 0
  | .training => 1
  | .up => 2
  | .hold => 3
  | .down => 4
  | .damped => 5

/-- The receiver of a direct trunk (R186 to R188): the last 58 scrambled bits, the good codewords in a row as far as 4, codeword
lock, which of the last 64 codewords failed to decode (the newest the lowest bit), frame sync, the RF bit received last, and the
bytes so far of the frame or idle unit in progress. -/
structure LineRx where
  history : Nat := 0
  good : Nat := 0
  lock : Bool := false
  failed : Nat := 0
  sync : Bool := false
  rf : Bool := false
  buf : List Nat := []
  deriving DecidableEq, Repr

/-- The transmitter of a direct trunk: the last 58 scrambled bits, the information bytes that fill the next codeword, and the
offsets among them at which a frame or idle unit begins (R186). -/
structure LineTx where
  history : Nat := 0
  buf : List Nat := []
  starts : List Nat := []
  deriving DecidableEq, Repr

/-- A lane, or the lane group whose lowest lane it is. -/
structure Lane where
  state : LaneState := .off
  /-- CAUSE of the last flap: 1 loss of signal, 2 loss of lock, 3 local fault, 4 remote fault, 5 error threshold. -/
  cause : Nat := 0
  gen : Nat := 0
  /-- A received PAUSE, and a received PFC of each priority (bit p), holds the lane. -/
  pauseRx : Bool := false
  pfcRx : Nat := 0
  /-- The lane holds its sender, whole or per priority. -/
  pauseTx : Bool := false
  pfcTx : Nat := 0
  /-- Model time since which a received PAUSE or PFC of each priority holds, and whether PAUSE_MAX_MS was reported. -/
  heldSince : Tab Nat := []
  /-- Model time at which a received PAUSE (8), or a received PFC of each priority, ends (R197). -/
  heldUntil : Tab Nat := []
  /-- Model time at which the lane last sent a PAUSE (8), or a PFC for each priority, that stands (R198). -/
  sentAt : Tab Nat := []
  holdReported : Bool := false
  flaps : Nat := 0
  /-- Flaps of the last 60 s: the model times at which they happened, oldest first (R192). -/
  window : List Nat := []
  /-- End of LINK_HOLD while it runs, in HOLD or in a TRAINING entered from HOLD (R566). -/
  holdUntil : Option Nat := none
  dampUntil : Nat := 0
  /-- Training runs while STATE shows DOWN (R566). -/
  trainingInDown : Bool := false
  /-- The CDR of its receiver is locked, and the model time at which the lane gated its recovered clock off last (R201). -/
  cdr : Bool := false
  clockEnd : Nat := 0
  /-- Uncorrectable codewords or FEC blocks of the last 1 s, with the model times at which they were counted (R195). -/
  errors : List (Nat × Nat) := []
  upSince : Nat := 0
  fecCorr : Nat := 0
  fecUncorr : Nat := 0
  lineErr : Nat := 0
  rxAbort : Nat := 0
  txAbort : Nat := 0
  oversize : Nat := 0
  ctlDropped : Nat := 0
  delinErr : Nat := 0
  ldRefused : Nat := 0
  lineRx : LineRx := {}
  lineTx : LineTx := {}
  deriving DecidableEq, Repr

/-- A lane in a state delivers its recovered clock (R201). -/
def clockIn (st : LaneState) (cdr : Bool) : Bool := st = .up || (st = .hold && cdr)

/-- The lane delivers its recovered clock. -/
def Lane.clock (v : Lane) : Bool := clockIn v.state v.cdr

end Sys2Proof.Machine
end

