-- ==== Sys2Proof/Machine/UnitMemory.lean ====
section
/-!
DEFINITION. State of protected memory (13_protected_memory Tables 13.4, 13.5 and 13.12): counter lines, the directory,
the metadata cache, regions and counts. What the SDRAM holds stands outside the block: its lines come with the commands.
-/

namespace Sys2Proof.Machine

/-- A counter line (Table 13.4) as it stands, wherever it is: OVERFLOWS and the minors that are not 0. Its EPOCH is its
region's, since a region reset leaves every line uninitialised. -/
structure CtrLine where
  overflows : Nat := 0
  minors : Tab Nat := []
  deriving DecidableEq, Repr

/-- A request of a master to the memory engine of a data line's channel (class F0): the plaintext that it writes, none when it reads;
its requester, which is the region's number or 18 for the DAP (DESIGN CHOICE, notes/assumptions/47); and the model time of its
issue. -/
structure MemReq where
  region : Nat
  line : Nat
  write : Option Nat
  requester : Nat
  issued : Nat
  deriving DecidableEq, Repr

/-- A level-1 line at the directory (R320): the engines that hold a copy; whether the one holder owns it; the engines to
which a snoop is on its way; those whose answer is on its way, with whether it is EVICTING; the requests held; and whether
the metadata cache recalls it to evict it. No holder is HOME. -/
structure DirLine where
  holders : List Nat := []
  owned : Bool := false
  snooped : List Nat := []
  answers : List (Nat × Bool) := []
  waiting : List MemReq := []
  evicting : Bool := false
  deriving DecidableEq, Repr

/-- A region (Table 13.12). -/
structure Region where
  epoch : Nat := 0
  fails : Nat := 0
  reenc : Nat := 0
  /-- The region is being reset. -/
  resetting : Bool := false
  /-- A counter line of a tenant's tree has failed: every spilled frame is refused until the reset (Table 13.8). -/
  broken : Bool := false
  /-- The station context unit has stopped all access to region 16 (R317). -/
  closed : Bool := false
  deriving DecidableEq, Repr

/-- A group re-encryption (R318): the counter line, the child whose write caused it, and the plaintext of that write when the child
is a data line. -/
structure Reenc where
  region : Nat
  level : Nat
  index : Nat
  child : Nat
  data : Option Nat := none
  deriving DecidableEq, Repr

/-- DESIGN CHOICE, notes/assumptions/13. -/
structure MemoryUnit where
  quarantined : Bool := false
  tagFails : Nat := 0
  ctrFails : Nat := 0
  eccUncorr : Nat := 0
  eccCorr : Nat := 0
  reenc : Nat := 0
  crossings : Nat := 0
  blocked : Nat := 0
  failRegion : Nat := 0
  failLevel : Nat := 0
  failIndex : Nat := 0
  /-- Model times of the security failures of the last 60 s, oldest first (R328). -/
  sec : List Nat := []
  regions : Tab Region := []
  /-- Counter lines, by region, level and index; a line not listed is uninitialised (R316). -/
  lines : Tab CtrLine := []
  /-- Lines in the metadata cache, counter lines and tag lines, the newest last; and the counter lines among them that SDRAM does not
  hold as they stand. -/
  cached : List Nat := []
  dirty : List Nat := []
  /-- Counter lines that the tree walker is reading from SDRAM (class F3). -/
  walks : List Nat := []
  /-- The directory, by region and level-1 index. -/
  dir : Tab DirLine := []
  reencs : List Reenc := []
  /-- Requests that wait for an F0 credit of their engine, in order of arrival, and the requester each engine served last. -/
  backlog : List MemReq := []
  served : Tab Nat := []
  deriving DecidableEq, Repr

end Sys2Proof.Machine
end

