-- ==== Sys2Proof/Machine/UnitMilepost.lean ====
section
/-!
DEFINITION. State of Milepost and Waymark (19_milepost Tables 19.4, 19.6, 19.9 and 19.10), and what a command tells them.
Counter c of block b has number 32 b + c.
-/

namespace Sys2Proof.Machine

/-- What a command tells the observers of the block: an occurrence of a counting event with its measure, `n` times (R474);
an event of a source; bytes of a frame on a port (R482); issue slots of an engine side, retired or wasted (R477); a journal
record with its place in the order of R495, its type and its content after r0 (DESIGN CHOICE, notes/assumptions/11). -/
inductive Note where
  | occ (block code measure n : Nat)
  | event (word : Nat)
  | bytes (rx : Bool) (port n : Nat)
  | slots (rx : Bool) (engine : Nat) (retired : Bool) (n : Nat)
  | rcd (rank type : Nat) (content : List Nat)
  | halt
  deriving DecidableEq, Repr

/-- A snapshot (Table 19.4). -/
structure Snapshot where
  seq : Nat
  time : Nat
  window : Nat
  short : Bool
  first : Bool
  changed : Nat
  counts : Tab Nat
  wraps : List Nat
  rx : Tab Nat
  tx : Tab Nat
  deriving DecidableEq, Repr

/-- What ends a window apart from its length (R479). -/
inductive Boundary where
  | snapNow
  | run (on : Bool)
  deriving DecidableEq, Repr

/-- Milepost. -/
structure MileUnit where
  sel : Tab Nat := []
  thresh : Tab Nat := []
  count : Tab Nat := []
  /-- Counters whose WRAP flag is set, and those that have emitted 0o171002, in the current window. -/
  wraps : List Nat := []
  reported : List Nat := []
  /-- Blocks of which a selection changed in the current window. -/
  changed : Nat := 0
  run : Bool := true
  /-- WIN_100US as written, and as it stands for the current window. -/
  win : Nat := 10000
  winNow : Nat := 10000
  /-- Model time at which the current window began; none before step 10 of the start. -/
  began : Option Nat := none
  /-- The current window is the first since the start or since RUN became 1. -/
  first : Bool := true
  rx : Tab Nat := []
  tx : Tab Nat := []
  /-- Issue slots by 4 × engine + side (0 transmit, 2 receive) + class (0 retired, 1 wasted), and the model time of step 2. -/
  slots : Tab Nat := []
  slotsFrom : Option Nat := none
  /-- SNAP_SEQ of the last snapshot begun, and of the last complete. -/
  seq : Nat := 0
  lastSeq : Nat := 0
  /-- The 8 slots. -/
  ring : Tab (Option Snapshot) := []
  /-- The snapshot being copied, and the boundaries that wait for it (Table 19.8). -/
  copying : Option Snapshot := none
  later : List Boundary := []
  deriving DecidableEq, Repr

/-- The settings that hold until the next draw (R484). -/
structure WaySet where
  rate : Nat := 1024
  dither : Nat := 0
  kind : Nat := 0
  val : Nat := 0
  deriving DecidableEq, Repr

/-- Waymark. -/
structure WayUnit where
  en : Bool := false
  stopWhenFull : Bool := false
  /-- As written, and as at the last draw. -/
  set : WaySet := {}
  drawn : WaySet := {}
  page : Nat := 0
  full : Bool := false
  wrIndex : Nat := 0
  total : Nat := 0
  skipped : Nat := 0
  lost : Nat := 0
  inFlight : Nat := 0
  lfsr : Nat := 0xACE1
  interval : Nat := 0
  count : Nat := 0
  /-- The first entry discarded since FULL has emitted 0o170001. -/
  stopped : Bool := false
  /-- The 4,096 entries of 8 words. -/
  entries : Tab (List Nat) := []
  deriving DecidableEq, Repr

end Sys2Proof.Machine
end

