-- ==== Sys2Proof/Machine/UnitStart.lean ====
section
/-!
DEFINITION. State of the start controller, of the supplies and straps and of the host pins
(02_package_and_barrier Table 2.11, 03_start_of_day Table 3.8).
-/

namespace Sys2Proof.Machine

/-- OUTCOME (Table 3.8). -/
inductive StartOutcome where
  | starting
  | running
  | stranded
  | transitionHalt
  | held
  deriving DecidableEq, Repr

def StartOutcome.code : StartOutcome → Nat
  | .starting => 0
  | .running => 1
  | .stranded => 2
  | .transitionHalt => 3
  | .held => 4

/-- MEM_STATE (Table 3.8, R73). -/
inductive MemState where
  | noneConfigured
  | ready
  | waiting
  | unavailable
  | training
  deriving DecidableEq, Repr

def MemState.code : MemState → Nat
  | .noneConfigured => 0
  | .ready => 1
  | .waiting => 2
  | .unavailable => 3
  | .training => 4

/-- What holds a start before its next event: the steps of Table 3.1 as far as they have ended. -/
structure StartUnit where
  /-- HOST_RST_N is high and a start has begun; false while the host section is in reset. -/
  begun : Bool := false
  outcome : StartOutcome := .starting
  /-- PHASE: the highest of steps 1 to 10 completed. -/
  phase : Nat := 0
  /-- CAUSE of the most recent start: 0 power-up, 1 HOST_RST_N, 2 supply monitor, 3 restart-with-staged. -/
  cause : Nat := 0
  /-- SLOT: 0 none, 1 A, 2 B, 3 staged. -/
  slot : Nat := 0
  /-- ROOT: 0 not attempted, 1 first capture, 2 after re-readout, 3 failed. -/
  root : Nat := 0
  resStaged : Nat := 0
  resA : Nat := 0
  resB : Nat := 0
  /-- Model time of step 1, and of the end of the start once it has ended. -/
  t0 : Nat := 0
  tEnd : Option Nat := none
  fwdDone : Bool := false
  bootReq : Bool := false
  bootBad : Bool := false
  bootStuck : Bool := false
  nvmDiv : Nat := 0
  memState : MemState := .noneConfigured
  /-- Two bits per channel: 0 not configured, 1 trained, 2 failed. -/
  channels : Tab Nat := []
  /-- Candidate slots not yet tried, in order: 1 A, 2 B, 3 staged (R69). -/
  cands : List Nat := []
  /-- The staged request found at step 6 waits for the boot record to be rewritten. -/
  clearing : Bool := false
  /-- Captures of the PUF array made for step 5 (R65). -/
  captures : Nat := 0
  /-- The holding buffer (R62): the raw power-up state captured last, 4,608 bits, cell 0 the most significant. -/
  capture : Option Nat := none
  /-- The last captured state failed to correct and the array is off for 10 ms. -/
  reReadout : Bool := false
  /-- Steps 2b and 2c. -/
  linkStarted : Bool := false
  mportUp : Bool := false
  deriving DecidableEq, Repr

/-- Supplies, straps and the levels of the host pins (R38, R47, R108) (DESIGN CHOICE, notes/assumptions/4). -/
structure Pins where
  hostRstLow : Bool := true
  /-- The host rails below their reset threshold, one bit per rail as in HOST_RAIL_WARN (R45, R47). -/
  railLow : Nat := 0o177
  /-- HOST_RAIL_WARN, one flag per rail (Table 2.11). -/
  railWarn : Nat := 0
  /-- NVM_VSEL as sampled at the last release of HOST_RST_N. -/
  nvmVsel : Bool := false
  /-- XO_IN shows edges. -/
  xoRuns : Bool := true
  /-- Why the host section is in reset: the CAUSE of the next start. -/
  resetCause : Nat := 0
  deriving DecidableEq, Repr

end Sys2Proof.Machine
end

