-- ==== Sys2Proof/Machine/UnitStreams.lean ====
section
/-!
DEFINITION. State of the link cipher (11_link_cipher Tables 11.2, 11.10, 11.11): transmit and receive streams, leases,
and counts per lane.
-/

namespace Sys2Proof.Machine

/-- TX_STATE (Table 11.10). -/
inductive TxState where
  | unbound
  | noKey
  | running
  | leaseWait
  | stuck
  | exhausted
  deriving DecidableEq, Repr

def TxState.code : TxState → Nat
  | .unbound => 0
  | .noKey => 1
  | .running => 2
  | .leaseWait => 3
  | .stuck => 4
  | .exhausted => 5

/-- RX_STATE (Table 11.10). -/
inductive RxState where
  | unbound
  | noKey
  | running
  | overlap
  | noticeWait
  | stuck
  deriving DecidableEq, Repr

def RxState.code : RxState → Nat
  | .unbound => 0
  | .noKey => 1
  | .running => 2
  | .overlap => 3
  | .noticeWait => 4
  | .stuck => 5

/-- A transmit stream. -/
structure TxStream where
  state : TxState := .unbound
  an : Nat := 0
  gen : Nat := 0
  frames : Nat := 0
  rekeys : Nat := 0
  nextPn : Nat := 0
  /-- The stream has had a key since the start (R296). -/
  everKeyed : Bool := false
  /-- Model time at which its current slot, or the one its next frame takes, was installed. -/
  keyedAt : Nat := 0
  /-- The slot of the next AN is installed: the next frame selected carries that AN (Table 11.5 step 4). -/
  newAn : Bool := false
  /-- The old AN, whose slot is still to be destroyed (Table 11.5 step 5). -/
  oldAn : Option Nat := none
  /-- An install for the stream failed: it is due at once (R297). -/
  failed : Bool := false
  /-- The STREAM_TABLE and PINNED_KEYS entries in force. -/
  entry : List Word := []
  pin : List Word := []
  /-- First and last packet number of the current lease; 0 when there is none. -/
  leaseStart : Nat := 0
  leaseEnd : Nat := 0
  /-- First packet number of a further lease that is journaled. -/
  ahead : Option Nat := none
  /-- A lease has been asked and is not yet journaled. -/
  asked : Bool := false
  /-- No further lease can be taken: ARG of 0o102004 (R274). -/
  denied : Option Nat := none
  /-- End of the 10 ms for which a lease notice waits for its acknowledgement (R276). -/
  noticeUntil : Option Nat := none
  /-- A LEASE_QUERY that arrived in LEASE-WAIT, with its challenge (R303). -/
  query : Option Nat := none
  deriving DecidableEq, Repr

/-- NEXT_RX and LOWEST_PN of a receive slot; LOWEST_PN is missing while RX_STATE is NOTICE-WAIT (Table 11.4). -/
structure RxPn where
  nextRx : Nat := 0
  lowest : Option Nat := none
  deriving DecidableEq, Repr

/-- A receive stream. -/
structure RxStream where
  state : RxState := .unbound
  /-- AN of the newest receive slot. -/
  an : Nat := 0
  gen : Nat := 0
  frames : Nat := 0
  bad : Nat := 0
  /-- The packet numbers of the slots of even and odd AN. -/
  even : RxPn := {}
  odd : RxPn := {}
  entry : List Word := []
  pin : List Word := []
  /-- The challenge of the last lease query: a draw of the DRBG. -/
  challenge : Option Nat := none
  /-- Model time of the entry into NOTICE-WAIT or of the last query's time-out, the time-outs since, and whether the
  first has emitted 0o101011. -/
  queriedAt : Nat := 0
  repeats : Nat := 0
  deriving DecidableEq, Repr

/-- Counts of a lane (Table 11.11). -/
structure LaneCipher where
  noStream : Nat := 0
  icvFails : Nat := 0
  replays : Nat := 0
  noKeyRx : Nat := 0
  protectedTx : Nat := 0
  verifiedRx : Nat := 0
  deriving DecidableEq, Repr

/-- The link cipher. -/
structure LinkUnit where
  tx : Tab TxStream := []
  rx : Tab RxStream := []
  lanes : Tab LaneCipher := []
  rekeysTotal : Nat := 0
  /-- The band in which every pinned stream takes its first lease of this start (R272). -/
  startBand : Option Nat := none
  leaseBand : Nat := 0
  leasesTaken : Nat := 0
  journalIgnored : Nat := 0
  /-- Leases whose journal record is still to be written, in order: stream and first packet number. -/
  journal : List (Nat × Nat) := []
  dirRx : Bool := false
  streamSel : Nat := 0
  deriving DecidableEq, Repr

end Sys2Proof.Machine
end

