-- ==== Sys2Proof/Machine/UnitTenants.lean ====
section
/-!
DEFINITION. State of the 16 tenants (09_tenants Tables 9.4 and 9.10): each one's state, reset in progress, event ring
and counts.
-/

namespace Sys2Proof.Machine

/-- STATE of a tenant (Table 9.4). -/
inductive TenState where
  | healthy
  | degraded
  | faulted
  | resetting
  | fenced
  deriving DecidableEq, Repr

def TenState.code : TenState → Nat
  | .healthy => 0
  | .degraded => 1
  | .faulted => 2
  | .resetting => 3
  | .fenced => 4

/-- Where a reset stands in Table 9.5. -/
inductive ResetPhase where
  /-- Step 2 of a drain-mode reset: queued frames keep leaving. -/
  | draining
  /-- Step 3: the queues are being emptied. -/
  | emptying
  /-- Step 4: the new memory key waits for the DRBG; `retry` while the request has failed and is to be repeated. -/
  | keyWait (retry : Bool)
  /-- Step 5: the region of the counter tree is being reset. -/
  | region
  deriving DecidableEq, Repr

/-- A reset in progress (R218). -/
structure TenReset where
  phase : ResetPhase
  started : Nat
  /-- Model time at which the wait for the key began, and the exempt wait so far. -/
  waitFrom : Nat := 0
  exempt : Nat := 0
  /-- The reset ends in FENCED (R221). -/
  fences : Bool := false
  deriving DecidableEq, Repr

/-- A record of a tenant's event ring (Table 9.6). -/
structure TenRec where
  event : Nat
  kind : Nat
  number : Nat
  seq : Nat
  arg : Nat
  time : Nat
  deriving DecidableEq, Repr

/-- A tenant. -/
structure Tenant where
  state : TenState := .healthy
  /-- DEG_CAUSE, bits [4:0] as W [13:9]. -/
  degCause : Nat := 0
  /-- Model time of the last refusal of a cause of R215. -/
  degAt : Nat := 0
  faultCause : Nat := 0
  gen : Nat := 0
  trigger : Nat := 0
  /-- Counted resets still in the sliding window of 10 min: the model times of their acceptance, oldest first. -/
  window : List Nat := []
  resetCount : Nat := 0
  resetDur : Nat := 0
  exemptDur : Nat := 0
  reset : Option TenReset := none
  /-- Fenced by R317: only the next start recovers it. -/
  fencedForStart : Bool := false
  /-- Records stored and not yet displaced, newest first, at most 256. -/
  ring : List TenRec := []
  produced : Nat := 0
  ackSeq : Nat := 0
  ringLost : Nat := 0
  /-- Events lost since the ring became full. -/
  lostRun : Nat := 0
  /-- SEQ of the last record notified, and the time of the last notification frame. -/
  notified : Nat := 0
  notifiedAt : Option Nat := none
  notifySent : Nat := 0
  /-- A notification frame became due by MODERATION values that have changed since (Table 9.9). -/
  notifyDue : Bool := false
  /-- MODERATION: the four words of Table 9.7 in force. -/
  moderation : List Word := []
  /-- REFUSED by code, 1 to 16. -/
  refused : Tab Nat := []
  deriving DecidableEq, Repr

/-- MODERATION without the section (R227). -/
def defaultModeration : List Word := [0o100000, 100, 100, 0o400000]

end Sys2Proof.Machine
end

