-- ==== Sys2Proof/Machine/UnitToll.lean ====
section
/-!
DEFINITION. State of the Tollhouse die (16_tollhouse). What its MRAM holds outlives every loss of supply; the rest starts
afresh at a power-up.
-/

namespace Sys2Proof.Machine

/-- METRO_STATE (Table 16.3). -/
inductive Metro where
  | blank
  | verified
  | unverified
  | custody
  | halted
  deriving DecidableEq, Repr

def Metro.code : Metro → Nat
  | .blank => 0
  | .verified => 1
  | .unverified => 2
  | .custody => 3
  | .halted => 4

/-- A metering point (R409, R414). -/
structure TollPoint where
  /-- The applied parameter set, 376 words; empty before the first. -/
  set : List Word := []
  /-- The accepted set that waits for VALID_FROM; empty for none. -/
  waiting : List Word := []
  tariff : Nat := 0
  /-- TARIFF_REG by number. -/
  regs : Tab Nat := []
  cur : Nat := 0
  peak : Nat := 0
  peakInterval : Nat := 0
  /-- INTERVAL_MIN and the tariff in force of the last 16 intervals, newest first. -/
  history : List (Nat × Nat) := []
  lastMseq : Option Nat := none
  /-- The last reading, once the applied set has its baseline. -/
  lastReading : Option Nat := none
  mismatched : Bool := false
  /-- The fraction below one unit of an analogue input, in parts of `flowUnit`. -/
  fraction : Nat := 0
  /-- A loop fault, a station tamper flag, has been logged in this interval. -/
  loopLogged : Bool := false
  tamperLogged : Bool := false
  deriving DecidableEq, Repr

/-- A log entry or a record whose report has not been acknowledged (R417 to R419). -/
structure TollReport where
  isRecord : Bool
  /-- e0 to e11. -/
  words : List Word
  /-- Its signature, once signed, and the TH_SEQ of its report, 0 before it has one. -/
  signature : List Word := []
  seq : Nat := 0
  deriving DecidableEq, Repr

/-- A parameter set being assembled: the next fragment, LAST_FRAG and the words so far (R403). -/
structure Assembly where
  next : Nat
  last : Nat
  words : List Word
  deriving DecidableEq, Repr

/-- The Tollhouse (DESIGN CHOICE, notes/assumptions/4; DEDUCED, notes/assumptions/53; DESIGN CHOICE, notes/assumptions/54).
-/
structure TollUnit where
  /-- A supply is at a working level; its power-up has ended; it runs from VBAT_T. -/
  powered : Bool := false
  booted : Bool := false
  onBackup : Bool := false
  /-- It has completed a power-up before. -/
  bootedOnce : Bool := false
  metro : Metro := .blank
  /-- UNV_CAUSE: bit 3 seal, 2 key, 1 low cell on backup, 0 clock. -/
  unvCause : Nat := 0
  sealClosed : Bool := false
  keyHeld : Bool := false
  /-- When the running hold of TH_KEY_N began with the seal open (R399). -/
  holdSince : Option Nat := none
  custodyEnd : Nat := 0
  verifyMark : Bool := false
  vbatMv : Nat := 0
  batLow : Bool := false
  /-- Model time of the last cell measurement, and the day on which a low cell was logged on VT_33. -/
  measuredAt : Nat := 0
  lowDay : Option Nat := none
  clockFault : Bool := false
  /-- TIME in cycles at the model time `timeAt`; TIME has reached its end. -/
  timeBase : Nat := 0
  timeAt : Nat := 0
  stopped : Bool := false
  /-- TIME as last stored, and when (R396). -/
  savedTime : Nat := 0
  savedAt : Nat := 0
  cal : Int := 0
  /-- Model time of the last ADJUST-TIME accepted. -/
  adjustedAt : Option Nat := none
  /-- INTERVAL in force; the one accepted, with the hour from which it applies; its boundary has been processed (R406). -/
  interval : Nat := 0
  pendInterval : Option (Nat × Nat) := none
  changeDue : Bool := false
  /-- INTERVAL_MIN at the last change of the interval length. -/
  changedMin : Nat := 0
  /-- Start of the open interval, in seconds; its FLAGS so far. -/
  curStart : Nat := 0
  flags : Nat := 0
  /-- INTERVAL_MIN and FLAGS of the intervals closed last, newest first; those marked for amendment, in rising order. -/
  closed : List (Nat × Nat) := []
  marked : List Nat := []
  points : Tab TollPoint := []
  authority : Option Nat := none
  /-- The fleet metering key, as bytes (R412). -/
  meterKey : Option (List Nat) := none
  assembly : Tab (Option Assembly) := []
  /-- METER_SECTION messages that wait for the next metering tick. -/
  arrived : List Msg := []
  sectionsOk : Nat := 0
  badTag : Nat := 0
  repeat_ : Nat := 0
  lateRefused : Nat := 0
  future : Nat := 0
  unknownStn : Nat := 0
  malformed : Nat := 0
  /-- Late sections and bad tags since the last close. -/
  lateRun : Nat := 0
  badRun : Nat := 0
  logSeq : Nat := 0
  recSeq : Nat := 0
  chainLog : Nat := 0
  chainRec : Nat := 0
  /-- Entries not written for want of space. -/
  logOverflow : Nat := 0
  /-- Unacknowledged log entries and records in the order they were written. -/
  reports : List TollReport := []
  /-- The stored records, by REC_SEQ modulo 65,536. -/
  ring : Tab (List Word) := []
  /-- Last TH_SEQ used, and the messages kept until a TH_ACK covers them, in the order they are sent (R347). -/
  thSeq : Nat := 0
  kept : List Msg := []
  /-- The last 8 requests with their HOST_SEQ, and their results, newest first (R401). -/
  results : List (Msg × Nat) := []
  /-- The status block last sent without TIME, and when. -/
  statusSent : List Word := []
  statusAt : Nat := 0
  deriving DecidableEq, Repr

end Sys2Proof.Machine
end

