-- ==== Sys2Proof/Machine/UnitTrip.lean ====
section
/-!
DEFINITION. State of the Trip Recorder (20_trip_recorder Tables 20.1, 20.3 and 20.9): the journal as region 17 holds it, the
block being filled, the run and its freezing, and replay.
-/

namespace Sys2Proof.Machine

/-- TR_STATE (Table 20.3). -/
inductive TripState where
  | off
  | recording
  | freezing
  | frozen
  | kept
  | replaying
  | replayDone
  deriving DecidableEq, Repr

def TripState.code : TripState → Nat
  | .off => 0
  | .recording => 1
  | .freezing => 2
  | .frozen => 3
  | .kept => 4
  | .replaying => 5
  | .replayDone => 6

/-- A record of a journal that is replayed: the block it stands in, its time, its TYPE and its content after r0. -/
structure TripRec where
  block : Nat
  time : Nat
  type : Nat
  body : List Nat
  deriving DecidableEq, Repr

/-- The Trip Recorder. -/
structure TripUnit where
  state : TripState := .off
  arm : Bool := false
  run : Nat := 0
  /-- LC_STATE of the run's BASE_BEGIN (R501). -/
  runState : Nat := 0
  cause : Nat := 0
  freezeEvent : Nat := 0
  /-- Region 17 by line, each its 64 bytes as a number: none where its contents are undefined (R501). -/
  region : Tab (Option Nat) := []
  /-- CHAIN of the block being filled. -/
  chain : Nat := 0
  /-- BLOCK_SEQ of the block being filled; its TIME, its records' words in order, and their number. -/
  blockSeq : Nat := 0
  blockTime : Nat := 0
  cur : List Nat := []
  records : Nat := 0
  /-- Time of the last record, since the start. -/
  lastTime : Nat := 0
  baseSeq : Nat := 0
  gaps : Nat := 0
  keptBad : Nat := 0
  checks : Nat := 0
  /-- BLOCK_SEQ at which recording stops while FREEZING. -/
  stopAt : Nat := 0
  /-- The 1 MiB staging buffer: what it held at a model time, in thirty-fifths of a byte; and the records lost while full. -/
  fill : Nat := 0
  fillAt : Nat := 0
  lost : Nat := 0
  /-- Model times of the last base capture and of the next CHECK. -/
  capturedAt : Nat := 0
  checkDue : Nat := 0
  /-- Replay (Table 20.9). -/
  result : Nat := 0
  reason : Nat := 0
  divGroups : Nat := 0
  replayFrom : Nat := 0
  divCheck : Nat := 0
  divTime : Nat := 0
  replayPos : Nat := 0
  /-- Capture time of the base that is being replayed, and the model time at which it was loaded. -/
  replayTime : Nat := 0
  replayAt : Nat := 0
  /-- Records of the span that are still to be applied (R505). -/
  span : List TripRec := []
  /-- Lines whose next access a MEM record makes fail (R505), each with its ECC bit. -/
  forced : List (Nat × Bool) := []
  deriving DecidableEq, Repr

end Sys2Proof.Machine
end

