-- ==== Sys2Proof/Machine/UnitTurnpike.lean ====
section
/-!
DEFINITION. State of Turnpike (10_turnpike Tables 10.8 to 10.10): queues, pools, token buckets, lane schedulers and
cipher engines.
-/

namespace Sys2Proof.Machine

/-- Where a queued frame's cells lie (R232 to R234). -/
inductive Place where
  | reserved
  | shared
  | spill
  deriving DecidableEq, Repr

/-- The Waymark mark of a sampled frame (R485, Table 19.6): it came from a trunk, it has been held in spill, and the model
times of its admission and of its selection. -/
structure Mark where
  decrypt : Bool
  spilled : Bool
  admitted : Nat
  picked : Nat
  deriving DecidableEq, Repr

/-- A frame in a queue: the client frame from its destination address to its last byte before the FCS. -/
structure QFrame where
  data : List Nat
  place : Place := .reserved
  tenant : Nat
  tc : Nat
  /-- The transmit stream that protects it; none for a frame that leaves unprotected. -/
  stream : Option Nat
  /-- Port of arrival: lane 0 to 15, 16 for VP. -/
  ingress : Nat
  /-- Model time of admission: PROGRESS measures the age of a head frame from it. -/
  since : Nat
  /-- The spill path has not yet accepted the frame (R234). -/
  unaccepted : Bool := false
  /-- It was admitted under the conditions of R520. -/
  eligible : Bool := false
  /-- CK_CORE cycles of its exempt waits so far (R521). -/
  exempt : Nat := 0
  mark : Option Mark := none
  deriving DecidableEq, Repr

/-- The length it is stored at: that of the client frame, its FCS counted (R232). -/
def QFrame.len (f : QFrame) : Nat := f.data.length + 4

/-- Cells a frame of a length occupies (R232). -/
def cellsOf (len : Nat) : Nat := (len + 255) / 256

/-- A queue (R233, R247). -/
structure Queue where
  frames : List QFrame := []
  /-- QREFUSED by code, 1 to 16. -/
  refused : Tab Nat := []
  /-- Model time of its last 0o070001, and of the release of its delay request while 0o070002 is still due. -/
  delayEventAt : Option Nat := none
  releasedAt : Option Nat := none
  /-- The frame that a lane is sending: its cells are freed when its last byte has left (R235). -/
  inFlight : Option QFrame := none
  deriving DecidableEq, Repr

/-- A token bucket: what it lacks of being full, in ten-thousandths of a byte, at a model time. A rate of r Mbit/s gives r
such units a CK_CORE cycle (DEDUCED, notes/assumptions/36). -/
structure Bucket where
  debt : Nat := 0
  time : Nat := 0
  deriving DecidableEq, Repr

/-- A management frame in the pool, by its kind (R232): 0 Signpost response, 1 notification, 2 Zheac. -/
structure MgmtFrame where
  kind : Nat
  bytes : List Nat
  deriving DecidableEq, Repr

def MgmtFrame.len (f : MgmtFrame) : Nat := f.bytes.length

/-- What waits in its sender until the management pool has cells for it (R232): a session frame of a tenant with its KIND and
body words, a notification frame of a tenant, whose records are taken when it is built, or a frame that needs nothing of its
session. -/
inductive MgmtItem where
  | session (tenant kind : Nat) (body : List Nat)
  | notify (tenant : Nat)
  | whole (f : MgmtFrame)
  deriving DecidableEq, Repr

/-- What a lane is sending. -/
inductive Sending where
  | mgmt (f : MgmtFrame)
  /-- The frame of a queue that is in flight there; its AN and packet number when protected. -/
  | data (q an pn : Nat)
  deriving DecidableEq, Repr

/-- A deficit round robin: the member it stands at, whether that visit has had its quantum, and the deficits in bytes. -/
structure Drr where
  cur : Nat := 0
  granted : Bool := false
  deficits : Tab Nat := []
  deriving DecidableEq, Repr

/-- A lane scheduler (R240). -/
structure Sched where
  sending : Option Sending := none
  mgmt : List MgmtFrame := []
  /-- Bytes the management queue has sent, with their times, in the last 1 ms. -/
  mgmtUsed : List (Nat × Nat) := []
  /-- The last tenant served for its commitment. -/
  lastCommit : Nat := 15
  /-- The excess round robin of the tenants, and each tenant's round robin of its queues for the lane. -/
  excess : Drr := {}
  queues : Tab Drr := []
  engineWaitMax : Nat := 0
  deriving DecidableEq, Repr

/-- A frame held unclassified by a D-section drain (R248). -/
structure HeldFrame where
  port : Nat
  trunk : Bool
  data : List Nat
  deriving DecidableEq, Repr

def HeldFrame.len (f : HeldFrame) : Nat := f.data.length + 4

/-- A tenant's drain (R248): when it began and the frames held. -/
structure Drain where
  since : Nat
  held : List HeldFrame := []
  deriving DecidableEq, Repr

/-- Turnpike. -/
structure TurnpikeUnit where
  queues : Tab Queue := []
  /-- Standing delay requests, as 8 × tenant + class (R243). -/
  delay : List Nat := []
  commitTok : Tab Bucket := []
  ceilTok : Tab Bucket := []
  policeTok : Tab Bucket := []
  lanes : Tab Sched := []
  /-- The lane of each engine that supplied the previous frame. -/
  engineLast : Tab Nat := []
  drains : Tab (Option Drain) := []
  /-- Round robin of the VP queues. -/
  vp : Drr := {}
  /-- Management frames that are not built for want of free cells of the pool, with their lanes, in the order in which they
  became due (R232). -/
  mgmtWait : List (Nat × MgmtItem) := []
  qsel : Nat := 0
  /-- Frames that selected no tenant, by port (R231). -/
  noTenant : Tab Nat := []
  deriving DecidableEq, Repr

end Sys2Proof.Machine
end

