-- ==== Sys2Proof/Machine/UnitVerge.lean ====
section
/-!
DEFINITION. State of the Verge die (15_verge_and_stations): its resets, ports, field inputs, duplicate records and metering
hold; and of the station context unit on the host.
-/

namespace Sys2Proof.Machine

/-- STATE of a port (Table 15.12). -/
inductive PortState where
  | off
  | idle
  | receiving
  | transmitting
  | waitCts
  | down
  deriving DecidableEq, Repr

def PortState.code : PortState → Nat
  | .off => 0
  | .idle => 1
  | .receiving => 2
  | .transmitting => 3
  | .waitCts => 4
  | .down => 5

/-- A field port. -/
structure Port where
  state : PortState := .off
  fwd : Bool := false
  rts : Bool := false
  cts : Bool := false
  dcd : Bool := false
  /-- BUSk_DE (R361). -/
  de : Bool := false
  gen : Nat := 0
  /-- GEN has been set by a PORT_CONFIG since the last Verge reset (R353). -/
  genSet : Bool := false
  framesRx : Nat := 0
  frameErr : Nat := 0
  gapAborts : Nat := 0
  duplicates : Nat := 0
  early : Nat := 0
  holdLost : Nat := 0
  framesTx : Nat := 0
  downQuota : Nat := 0
  downLd : Nat := 0
  /-- v0 to v5 of the last PORT_CONFIG, while retained (R364). -/
  config : List Word := []
  queue : List DownFrame := []
  /-- A frame is being received. -/
  inFrame : Bool := false
  /-- The LEAD time, or the TAIL time, runs. -/
  lead : Bool := false
  tail : Bool := false
  /-- Consecutive refusals with LANE-DOWN (R363). -/
  ldRun : Nat := 0
  deriving DecidableEq, Repr

/-- MODE of a port. -/
def Port.mode (p : Port) : Nat := bits (wordAt p.config 0).toNat 17 16
def Port.dcdGate (p : Port) : Bool := (wordAt p.config 0).toNat.testBit 15

/-- The Verge die (DESIGN CHOICE, notes/assumptions/4). -/
structure VergeUnit where
  /-- VF_33 is below its threshold; FIELD_RST_N is low; no clock is recovered. -/
  vf33Low : Bool := true
  rstLow : Bool := false
  clockLost : Bool := true
  /-- The recovered clock has locked since the last reset (R331). -/
  locked : Bool := false
  /-- RESET of its heartbeats, and the cause it carries (R340). -/
  resetFlag : Bool := true
  cause : Nat := 0
  ports : Tab Port := []
  levels : Nat := 0
  edges : Tab Nat := []
  finGen : Nat := 0
  /-- Duplicate records: STATION and SEQ at STATION mod 4,096 (R371). -/
  dups : Tab (Option (Nat × Nat)) := []
  /-- Metering hold: METER_SECTION messages (R370). -/
  hold : List Msg := []
  msSent : Nat := 0
  msDropped : Nat := 0
  /-- Events that have not yet left with a STATE_UPDATE: unit, event, ARG. -/
  events : List (Nat × Nat × Nat) := []
  /-- Events emitted once in a second for their key, with that second. -/
  once : List (Nat × Nat × Nat) := []
  /-- The Tollhouse link is up (R345). -/
  thLink : Bool := false
  deriving DecidableEq, Repr

/-- A station context (Table 15.6). -/
structure StnCtx where
  upSeq : Nat := 0
  downSeq : Nat := 0
  echoSeen : Nat := 0
  valid : Bool := false
  upCount : Nat := 0
  refused : Nat := 0
  lastS : Nat := 0
  deriving DecidableEq, Repr

/-- What waits in the host pipeline: a frame from a port, in a replay with the classifier result that is forced on it (Table
20.5), or a frame that has left VP queue `q` to become a COMMAND. -/
inductive StnItem where
  | up (port : Nat) (bytes : List Nat) (forced : Option (Option Nat))
  | down (q : Nat) (f : QFrame)
  deriving DecidableEq, Repr

/-- The station context unit. -/
structure StationUnit where
  contexts : Tab StnCtx := []
  downEpoch : Nat := 0
  downReady : Bool := false
  /-- The ladder refused the DOWN_EPOCH advance (R380). -/
  exhausted : Bool := false
  accepted : Nat := 0
  syncSent : Nat := 0
  /-- STN_REFUSED by code. -/
  refused : Tab Nat := []
  sel : Nat := 0
  /-- What waits in the host pipeline, in arrival order: for its station's key or for the end of a region 16 reset. -/
  pipeline : List StnItem := []
  /-- A context line whose check has just failed: the frame being handled is refused (Table 13.8). -/
  failedLine : Option Nat := none
  /-- Stations that still use the entries before a pending STATION_DIRECTORY (Table 4.7). -/
  oldDir : List Nat := []
  /-- Model time of the last SYNC of a station. -/
  syncAt : Tab Nat := []
  deriving DecidableEq, Repr

end Sys2Proof.Machine
end

