-- ==== Sys2Proof/Machine/State.lean ====
section
/-!
DEFINITION. The state of the block.
-/

namespace Sys2Proof.Machine

/-- Why the block can stop: never. Every command of the spec has an effect, and what the spec calls a fault (a failed check, a
lost clock, a worn part) is state and events of the block. -/
inductive Fault where
  deriving DecidableEq, Repr

/-- Why a command has no meaning here. -/
inductive Refusal where
  /-- Raised by `exec` for a command whose meaning is not written, under the name of its row; no arm of this model raises it.
  Safe: the run stops. -/
  | notModelled (mnemonic : String)
  deriving DecidableEq, Repr

/-- The state. -/
structure State where
  /-- CK_CORE cycles since power came on (DESIGN CHOICE, notes/assumptions/6). -/
  now : Nat := 0
  /-- VARIANT is -N (Table 0.1; DESIGN CHOICE, notes/assumptions/5). -/
  isN : Bool := false
  /-- How many free values have been taken (DESIGN CHOICE, notes/assumptions/9). -/
  free : Nat := 0
  /-- (event, subject number) pairs emitted once in a second, with that second. -/
  once : List (Nat × Nat × Nat) := []
  pins : Pins := {}
  start : StartUnit := {}
  nor : NorUnit := {}
  image : ImageUnit := {}
  cus : CustodyUnit := {}
  /-- The 4,096 OTP words of 18 fuses (Table 5.5); an unlisted word has no fuse blown (DESIGN CHOICE,
  notes/assumptions/3). -/
  otp : Tab Nat := []
  keys : KeyUnit := {}
  trng : TrngUnit := {}
  jun : JunctionUnit := {}
  lanes : Tab Lane := []
  tenants : Tab Tenant := []
  tp : TurnpikeUnit := {}
  link : LinkUnit := {}
  zheac : ZheacUnit := {}
  mem : MemoryUnit := {}
  cway : CwayUnit := {}
  verge : VergeUnit := {}
  stn : StationUnit := {}
  toll : TollUnit := {}
  alarm : AlarmUnit := {}
  sp : SpUnit := {}
  mile : MileUnit := {}
  way : WayUnit := {}
  trip : TripUnit := {}
  /-- Promoted F0 requests (R518): the model time of issue and the requester of each, in the order in which they are served. -/
  promoted : List (Nat × Nat) := []
  /-- What the running command has told the observers; empty between commands. -/
  notes : List Note := []
  /-- What the last command sent. -/
  sent : List Sent := []
  /-- Commands that wait, first in, first out (DESIGN CHOICE, notes/assumptions/1). -/
  pending : List Instr := []
  deriving DecidableEq, Repr

/-- The parts of the state: its fields, by name. -/
inductive Part where
  | now
  | isN
  | free
  | once
  | pins
  | start
  | nor
  | image
  | cus
  | otp
  | keys
  | trng
  | jun
  | lanes
  | tenants
  | tp
  | link
  | zheac
  | mem
  | cway
  | verge
  | stn
  | toll
  | alarm
  | sp
  | mile
  | way
  | trip
  | promoted
  | notes
  | sent
  | pending
  deriving DecidableEq, Repr

/-- The state `s` with the named parts of `t` (and what the observers hold, and what is sent, always of `t`). -/
def State.taking (ps : List Part) (s t : State) : State where
  now := if ps.contains .now then t.now else s.now
  isN := if ps.contains .isN then t.isN else s.isN
  free := if ps.contains .free then t.free else s.free
  once := if ps.contains .once then t.once else s.once
  pins := if ps.contains .pins then t.pins else s.pins
  start := if ps.contains .start then t.start else s.start
  nor := if ps.contains .nor then t.nor else s.nor
  image := if ps.contains .image then t.image else s.image
  cus := if ps.contains .cus then t.cus else s.cus
  otp := if ps.contains .otp then t.otp else s.otp
  keys := if ps.contains .keys then t.keys else s.keys
  trng := if ps.contains .trng then t.trng else s.trng
  jun := if ps.contains .jun then t.jun else s.jun
  lanes := if ps.contains .lanes then t.lanes else s.lanes
  tenants := if ps.contains .tenants then t.tenants else s.tenants
  tp := if ps.contains .tp then t.tp else s.tp
  link := if ps.contains .link then t.link else s.link
  zheac := if ps.contains .zheac then t.zheac else s.zheac
  mem := if ps.contains .mem then t.mem else s.mem
  cway := if ps.contains .cway then t.cway else s.cway
  verge := if ps.contains .verge then t.verge else s.verge
  stn := if ps.contains .stn then t.stn else s.stn
  toll := if ps.contains .toll then t.toll else s.toll
  alarm := t.alarm
  sp := if ps.contains .sp then t.sp else s.sp
  mile := t.mile
  way := if ps.contains .way then t.way else s.way
  trip := t.trip
  promoted := if ps.contains .promoted then t.promoted else s.promoted
  notes := t.notes
  sent := t.sent
  pending := if ps.contains .pending then t.pending else s.pending

/-- The state right after reset: power has just come on (DESIGN CHOICE where the spec gives no value, notes/assumptions/2 to 5). -/
def State.reset : State := {}

end Sys2Proof.Machine
end

