-- ==== Sys2Proof/Machine/Ops.lean ====
section
/-!
DEFINITION. Operations that several commands share: events and alarms (18_alarms R456 to R463), the section in force
for a unit, and free values.
-/

namespace Sys2Proof.Machine

namespace State

/-- Something leaves the block. -/
def send (s : State) (m : Sent) : State := { s with sent := s.sent ++ [m] }

/-- The observers are told. -/
def note (s : State) (n : Note) : State := { s with notes := s.notes ++ [n] }

/-- `n` occurrences of a counting event of a Milepost block (R474). -/
def occurs (s : State) (block code measure n : Nat) : State := s.note (.occ block code measure n)

/-- One occurrence of an event without a measure. -/
def occur (s : State) (block code : Nat) : State := s.occurs block code 0 1

/-- Whole seconds since the start (R470). -/
def seconds (s : State) : Nat := (s.now - s.start.t0) / secs 1

/-- The section in force for a unit (R97). -/
def inForce? (s : State) (type inst : Nat) : Option Section :=
  s.image.running.bind (fun i => i.sections.find? (fun c => c.type = type && c.inst = inst))

/-- Word `i` of the body in force for a unit; 0 without the section. -/
def cfg (s : State) (type inst i : Nat) : Nat :=
  match s.inForce? type inst with
  | some c => (wordAt c.body i).toNat
  | none => 0

/-- A unit has a section in force. -/
def hasSection (s : State) (type inst : Nat) : Bool := (s.inForce? type inst).isSome

end State

/-! ## Events -/

/-- Class of an event word (R456): 0 INFO, 1 WARNING, 2 TENANT, 3 DEVICE, 4 SECURITY, 5 LEGAL. -/
def evClass (e : Nat) : Nat := bits e 11 9

/-- The LEGAL events that latch whatever their ARG (R459). -/
def legalLatching : List Nat := [0o155004, 0o155006, 0o155011, 0o155024, 0o155025, 0o155030, 0o155031]

/-- An event raises or renews an alarm (R459). -/
def evLatches (a : AlarmUnit) (e arg : Nat) : Bool :=
  evClass e = 3 || evClass e = 4 || (evClass e = 2 && a.tenantLatch) || legalLatching.contains e ||
    (e = 0o155023 && (bits arg 2 0 = 2 || bits arg 2 0 = 4))

/-- How an alarm clears (R461). -/
inductive Clearing where
  | momentary
  | conditioned
  | startLatched
  deriving DecidableEq, Repr

/-- The way of clearing that Table 18.5 gives an event. -/
def clearing (e arg : Nat) : Clearing :=
  if e = 0o014011 then (if arg = 0 then .momentary else .startLatched)
  else if [0o014007, 0o114004, 0o114005, 0o124002, 0o123003, 0o124005, 0o203004, 0o213002].contains e then .momentary
  else if [0o014002, 0o013010, 0o023002, 0o044001, 0o044004, 0o044005, 0o033007, 0o102004, 0o104005, 0o123001,
      0o124004, 0o123006].contains e then .startLatched
  else .conditioned

/-- An entry whose condition has ended (Table 18.3). -/
def entryCleared (n : AlarmEntry) : AlarmEntry :=
  match n.state with
  | .activeUnack => { n with state := .clearedUnack }
  | .activeAck => {}
  | _ => n

/-- An entry acknowledged (Table 18.3). -/
def entryAcked (n : AlarmEntry) : AlarmEntry :=
  match n.state with
  | .activeUnack => { n with state := .activeAck, renewals := 0 }
  | .clearedUnack => {}
  | _ => n

/-- An entry is unacknowledged. -/
def entryUnack (n : AlarmEntry) : Bool := n.state = .activeUnack || n.state = .clearedUnack

/-- An entry renewed (R460, Table 18.3). -/
def entryRenewed (reassert : Nat) (n : AlarmEntry) (arg sec : Nat) : AlarmEntry :=
  let n := { n with count := satInc 16 n.count, lastS := sec, arg := arg }
  match n.state with
  | .activeAck =>
    let k := n.renewals + 1
    if reassert ≠ 0 && k ≥ reassert then { n with state := .activeUnack, renewals := 0 } else { n with renewals := k }
  | .clearedUnack => { n with state := .activeUnack }
  | _ => n

namespace State

def alarmEntry (s : State) (i : Nat) : AlarmEntry := tabGet {} s.alarm.entries i

def setAlarmEntry (s : State) (i : Nat) (n : AlarmEntry) : State :=
  { s with alarm := { s.alarm with entries := tabPut {} s.alarm.entries i n } }

/-- The entry that holds a pair of event word and subject (R460). -/
def findAlarm (s : State) (e kind number : Nat) : Option Nat :=
  firstBelow 64 (fun i =>
    let n := s.alarmEntry i
    decide (n.state ≠ .free) && n.event = e && n.kind = kind && n.number = number)

/-- An entry drives ALERT_N when its class alerts and its word is not QUIET (R462). -/
def entryAlerts (s : State) (n : AlarmEntry) : Bool :=
  entryUnack n && !s.alarm.quiet.contains n.event &&
    (evClass n.event = 3 || evClass n.event = 4 || (evClass n.event = 2 && s.alarm.tenantAlert) ||
      (evClass n.event = 5 && s.alarm.legalAlert))

/-- Some cause holds ALERT_N low (R462). -/
def alertCause (s : State) : Bool :=
  s.alarm.overflow || s.alarm.entries.any (fun e => s.entryAlerts e.2)

/-- ALERT_N after a change of its causes: R462 in RUNNING and HELD, R60 otherwise. -/
def settleAlert (s : State) : State :=
  { s with alarm :=
    match s.start.outcome with
    | .running | .held =>
      if s.alertCause then
        { s.alarm with alertLow := true, alertHold := if s.alarm.alertLow then s.alarm.alertHold else some s.now }
      else if s.alarm.alertHold.any (fun t => decide (s.now < t + ms 1)) then s.alarm
      else { s.alarm with alertLow := false, alertHold := none }
    | _ => { s.alarm with alertLow := true } }

/-- The condition of a pair has ended (R461). -/
def endAlarm (s : State) (e kind number : Nat) : State :=
  { s with alarm :=
    match s.findAlarm e kind number with
    | some i => (s.setAlarmEntry i (entryCleared (s.alarmEntry i))).settleAlert.alarm
    | none => s.alarm }

/-- Raises or renews the alarm of an event that latches (R460 to R462, R465). `ended` says that the condition of a
conditioned alarm has already ended. -/
def raiseAlarm (s : State) (e kind number arg : Nat) (ended : Bool) : State :=
  let place := match s.findAlarm e kind number with
    | some i => some i
    | none => firstBelow 64 (fun i => decide ((s.alarmEntry i).state = AlarmState.free))
  match place with
  | none => { s with alarm := { s.alarm with alarmLost := satInc 18 s.alarm.alarmLost, overflow := true } }
  | some i =>
    let old := s.alarmEntry i
    let n : AlarmEntry :=
      if old.state = AlarmState.free then
        { state := .activeUnack, event := e, kind := kind, number := number, arg := arg, count := 1,
          firstS := s.seconds, lastS := s.seconds }
      else entryRenewed s.alarm.reassert old arg s.seconds
    let latch := n.startLatched || decide (clearing e arg = Clearing.startLatched)
    let n := { n with startLatched := latch }
    let n := if (clearing e arg = Clearing.momentary && !latch) || ended then entryCleared n else n
    s.setAlarmEntry i n

/-- Frames that wait: requests whose verb has not been answered, those behind them, and OPENs that wait for their nonce (R430)
(DEDUCED, notes/assumptions/63). -/
def framesWaiting (s : State) : Nat :=
  (s.sp.oper.filter (fun e => e.2.busy)).length + (s.sp.ten.filter (fun e => e.2.busy)).length + s.sp.held.length +
    (s.trng.waiting.filter (fun w => match w.1 with
      | .opening _ _ _ _ => true
      | _ => false)).length

/-! ## Tenants' copies of events (R223 to R225) -/

def tenant (s : State) (t : Nat) : Tenant := tabGet {} s.tenants t

def setTenant (s : State) (t : Nat) (v : Tenant) : State := { s with tenants := tabPut {} s.tenants t v }

/-- The tenant has a TENANT_MAP section (R206). -/
def configured (s : State) (t : Nat) : Bool := s.hasSection 0o013 t

/-- First queue block and number of blocks of a tenant (Table 9.1). -/
def firstBlock (s : State) (t : Nat) : Nat := bits (s.cfg 0o013 t 1) 17 10
def blockCount (s : State) (t : Nat) : Nat := bits (s.cfg 0o013 t 1) 9 1
def clientLanes (s : State) (t : Nat) : Nat := bits (s.cfg 0o013 t 2) 15 0
def vpOwner (s : State) (t : Nat) : Bool := s.configured t && (s.cfg 0o013 t 0).testBit 17

/-- A number lies in a range of `n` from `a`. -/
def inRange (a n k : Nat) : Bool := decide (a ≤ k ∧ k < a + n)

/-- The tenant whose blocks hold a queue, whose ranges hold a stream (R206). -/
def tenantOfQueue (s : State) (q : Nat) : Option Nat :=
  firstBelow 16 (fun t => s.configured t && inRange (64 * s.firstBlock t) (64 * s.blockCount t) q)
def tenantOfTx (s : State) (x : Nat) : Option Nat :=
  firstBelow 16 (fun t => s.configured t && inRange (bits (s.cfg 0o013 t 24) 13 0) (bits (s.cfg 0o013 t 25) 14 0) x)
def tenantOfRx (s : State) (x : Nat) : Option Nat :=
  firstBelow 16 (fun t => s.configured t && inRange (bits (s.cfg 0o013 t 26) 13 0) (bits (s.cfg 0o013 t 27) 14 0) x)

/-- The tenants to which the subject of an event belongs, with the subject's KIND in their rings (R223, Table 9.6). -/
def ringSubjects (s : State) (kind number : Nat) : List (Nat × Nat) :=
  if kind = 1 then (if s.configured number then [(number, 0)] else [])
  else if kind = 2 then (s.tenantOfQueue number).toList.map (fun t => (t, 1))
  else if kind = 3 then (s.tenantOfTx number).toList.map (fun t => (t, 2))
  else if kind = 4 then (s.tenantOfRx number).toList.map (fun t => (t, 3))
  else if kind = 5 then
    ((List.range 16).filter (fun t => s.configured t && (s.clientLanes t).testBit number)).map (fun t => (t, 4))
  else if kind = 6 then (firstBelow 16 s.vpOwner).toList.map (fun t => (t, 5))
  else []

/-- A record is stored in a tenant's ring, or lost while 256 records stand unacknowledged (R225). -/
def storeRecord (s : State) (t e kind number arg : Nat) : State :=
  let v := s.tenant t
  if (v.produced + 2 ^ 18 - v.ackSeq) % 2 ^ 18 = 256 then
    s.setTenant t { v with ringLost := satInc 18 v.ringLost, lostRun := satInc 18 v.lostRun }
  else
    let seq := (v.produced + 1) % 2 ^ 18
    let r : TenRec := { event := e, kind := kind, number := number, seq := seq, arg := arg,
                        time := (s.now - s.start.t0) % 2 ^ 54 }
    s.setTenant t { v with produced := seq, ring := (r :: v.ring).take 256 }

/-- The copies of an event in the rings of the tenants it belongs to. An event of a frame that selected no tenant has
none (R228). -/
def copyToTenants (s : State) (e kind number arg : Nat) : State :=
  if evClass e < 3 && decide (e ≠ 0o061011) then
    (s.ringSubjects kind number).foldl (fun s d => s.storeRecord d.1 e d.2 number arg) s
  else s

/-- The alarms after an event of a source (R456 to R462): its record in the operator ring, and its alarm. -/
def alarmAfter (s : State) (e kind number arg : Nat) (ended : Bool) : AlarmUnit :=
  let seq := (s.alarm.eventSeq + 1) % 2 ^ 18
  let r : EventRec :=
    { event := e, kind := kind, number := number, seq := seq, arg := arg % 2 ^ 18,
      time := (s.now - s.start.t0) % 2 ^ 54, latched := evLatches s.alarm e arg }
  let s := { s with alarm := { s.alarm with
    eventSeq := seq, events := satInc 36 s.alarm.events, ring := (r :: s.alarm.ring).take 32 } }
  (if evLatches s.alarm e arg then s.raiseAlarm e kind number (arg % 2 ^ 18) ended else s).settleAlert.alarm

/-- An event whose subject belongs to no tenant (kinds 0, 7, 8 and 10 of Table 18.1). -/
def emitOwnWith (s : State) (e kind number arg : Nat) (ended : Bool) : State :=
  { s with alarm := s.alarmAfter e kind number arg ended, notes := s.notes ++ [.event e] }

def emitOwn (s : State) (e kind number arg : Nat) : State := s.emitOwnWith e kind number arg false

/-- An event with its subject and ARG, and its copies in the rings of the tenants it belongs to. -/
def emit (s : State) (e kind number arg : Nat) : State :=
  { s.emitOwn e kind number arg with tenants := (s.copyToTenants e kind number (arg % 2 ^ 18)).tenants }

/-- An event of the device with ARG 0. -/
def emitDev (s : State) (e : Nat) : State := s.emitOwn e 0 0 0

/-- An event that is emitted at most once in each second for its key. -/
def emitOnceKey (s : State) (key e kind number arg : Nat) : State :=
  if s.once.contains (e, key, s.seconds) then s
  else
    let rest := s.once.filter (fun o => !(o.1 == e && o.2.1 == key))
    { s with once := (e, key, s.seconds) :: rest }.emit e kind number arg

/-- An event that is emitted at most once in each second for its subject. -/
def emitOnce (s : State) (e kind number arg : Nat) : State := s.emitOnceKey number e kind number arg

end State

end Sys2Proof.Machine
end

