-- ==== Sys2Proof/Machine/Otp.lean ====
section
/-!
DEFINITION. The OTP: its ladders and banks (05_custody_and_life_cycle R119 to R127), and CRC-18 (04_spango_image
R88).
-/

namespace Sys2Proof.Machine

/-- One step of CRC-18: the register shifted by one bit (R88). -/
def crcStep (c : Nat) : Nat := if c.testBit 17 then (c * 2 % 2 ^ 18) ^^^ 0o012245 else c * 2 % 2 ^ 18

def iter (f : Nat → Nat) : Nat → Nat → Nat
  | 0, c => c
  | n + 1, c => iter f n (f c)

/-- CRC-18 of words in order, each with its most significant bit first (R88). -/
def crc18 (ws : List Word) : Word :=
  BitVec.ofNat 18 (ws.foldl (fun c w => iter crcStep 18 (c ^^^ w.toNat)) 0o777777)

/-- First OTP word of a ladder, and its highest rung (Table 5.5). -/
def Ladder.base : Ladder → Nat
  | .lc => 0
  | .image => 2
  | .lease => 18

def Ladder.top : Ladder → Nat
  | .lc => 5
  | .image => 63
  | .lease => 8191

def Ladder.code : Ladder → Nat
  | .lc => 1
  | .image => 2
  | .lease => 3

/-- The OTP word and position of a rung (R124). -/
def Ladder.word (l : Ladder) (k : Nat) : Nat := l.base + (k - 1) / 4

namespace State

def otpWord (s : State) (w : Nat) : Nat := tabGet 0 s.otp w

/-- Fuses of a word blown: a fuse never unblows (R123). -/
def blow (s : State) (w mask : Nat) : State := { s with otp := tabPut 0 s.otp w (s.otpWord w ||| mask) }

/-- Fuses of a rung: bit 3 intent A, 2 intent B, 1 done A, 0 done B. -/
def rungBits (s : State) (l : Ladder) (k : Nat) : Nat := s.otpWord (l.word k) / 2 ^ (4 * ((k - 1) % 4)) % 16

def rungIntent (s : State) (l : Ladder) (k : Nat) : Bool := decide (s.rungBits l k ≥ 4)
def rungDone (s : State) (l : Ladder) (k : Nat) : Bool := decide (s.rungBits l k % 4 ≠ 0)

/-- Blows fuses of a rung. -/
def blowRung (s : State) (l : Ladder) (k mask : Nat) : State := s.blow (l.word k) (mask * 2 ^ (4 * ((k - 1) % 4)))

/-- The rungs of a ladder whose word has some fuse blown, rising. -/
def rungsTouched (s : State) (l : Ladder) : List Nat :=
  (s.otp.filter (fun e => decide (l.base ≤ e.1 ∧ e.1 ≤ l.word l.top))).flatMap
    (fun e => (List.range 4).filterMap (fun p =>
      let k := 4 * (e.1 - l.base) + p + 1
      if k ≤ l.top then some k else none))

/-- The value of a ladder: its highest done rung, 0 when none is done (R124). A rung left pending counts only from the next
start (R122) (DEDUCED, notes/assumptions/28). -/
def ladderValue (s : State) (l : Ladder) : Nat :=
  ((s.rungsTouched l).filter (fun k => s.rungDone l k && decide (s.cus.pend ≠ some (l, k)))).foldl max 0

/-- The rungs whose intent pair stands without a done pair, in the order that R125 completes them. -/
def pendingRungs (s : State) : List (Ladder × Nat) :=
  [Ladder.lc, .image, .lease].flatMap (fun l =>
    ((s.rungsTouched l).filter (fun k => s.rungIntent l k && !s.rungDone l k)).map (fun k => (l, k)))

/-- The life-cycle state that the OTP holds (R124). -/
def lcState (s : State) : LcState :=
  if s.rungDone .lc 5 then .retired
  else match (([1, 2, 3, 4] : List Nat).filter (fun k => s.rungDone .lc k)).foldl max 0 with
    | 0 => .blank
    | 1 => .test
    | 2 => .provision
    | 3 => .field
    | _ => .analysis

def helperBase (b : Nat) : Nat := 2066 + 260 * b
def authBase (b : Nat) : Nat := 2586 + 24 * b

/-- Words `n` from an OTP word on. -/
def otpWords (s : State) (w n : Nat) : List Word := (List.range n).map (fun i => BitVec.ofNat 18 (s.otpWord (w + i)))

/-- Some listed OTP word from `w` on, `n` words, has a fuse blown. -/
def otpUsed (s : State) (w n : Nat) : Bool := s.otp.any (fun e => decide (w ≤ e.1 ∧ e.1 < w + n ∧ e.2 ≠ 0))

/-- A helper bank is used, void, valid (R119). -/
def helperUsed (s : State) (b : Nat) : Bool := s.otpUsed (helperBase b) 257
def helperVoid (s : State) (b : Nat) : Bool := decide (s.otpWord (helperBase b + 257) ≠ 0)
def helperValid (s : State) (b : Nat) : Bool :=
  s.helperUsed b && !s.helperVoid b &&
    decide (crc18 (s.otpWords (helperBase b) 256) = BitVec.ofNat 18 (s.otpWord (helperBase b + 256)))

/-- An authority bank is used, and valid (R120). -/
def authUsed (s : State) (b : Nat) : Bool := s.otpUsed (authBase b) 23
def authValid (s : State) (b : Nat) : Bool :=
  s.authUsed b && decide (crc18 (s.otpWords (authBase b) 22) = BitVec.ofNat 18 (s.otpWord (authBase b + 22)))

/-- The lowest bank that satisfies `p`. -/
def lowestBank (p : Nat → Bool) : Option Nat := if p 0 then some 0 else if p 1 then some 1 else none

/-- The fused image-authority hash, of the lowest valid bank. -/
def authHash (s : State) : Option Nat := (lowestBank s.authValid).map (fun b => wideOf (s.otpWords (authBase b) 22))

/-- The helper data of a bank, cell 0 the most significant (R132). -/
def helperBits (s : State) (b : Nat) : Nat := wideOf (s.otpWords (helperBase b) 256)

/-- Writes words into the OTP from word `w` on. -/
def blowWords (s : State) (w : Nat) (ws : List Word) : State :=
  { s with otp := ((List.range ws.length).zip ws).foldl (fun o e => tabPut 0 o (w + e.1) (tabGet 0 o (w + e.1) ||| e.2.toNat)) s.otp }

end State

/-- What a write of words leaves in the OTP: all of them, or those before the one that failed verification and the fuses of
that one which blew (R121). -/
def otpWritten (ws : List Word) (stop : Option OtpStop) : List Word :=
  match stop with
  | none => ws
  | some e => ws.take e.word ++ [wordAt ws e.word &&& e.fuses]

end Sys2Proof.Machine
end

