-- ==== Sys2Proof/Config.lean ====
section
/-!
DEFINITION. What one part fixes and what the spec leaves open: free values, of which nothing can be proved but that they
are what they are. The counter State.free numbers the values taken.
-/

namespace Sys2Proof

/-- A free truth value (R546: whether a low between 0.1 and 0.3 µs resets; R547: one between 0.1 and 1 µs) (DESIGN CHOICE,
notes/assumptions/9; DEDUCED, notes/assumptions/20). -/
opaque Config.freeBool : Nat → Bool

/-- A free number (DESIGN CHOICE, notes/assumptions/9). -/
opaque Config.freeNat : Nat → Nat

/-- SHA-256 of the Tollhouse's ROM contents (R389). -/
opaque Config.romDigest : Nat

/-- SERIAL of the Tollhouse die, fixed at manufacture (R389). -/
opaque Config.serial : Nat

/-- The number from which the Tollhouse's own PUF forms its P-256 signing key: the spec says of none how (R390; DESIGN CHOICE,
notes/assumptions/56). -/
opaque Config.thKey : Nat

/-- The eighteen messages of 71 bits whose codewords an enrolment takes: the spec says of none where it comes from (R132;
DESIGN CHOICE, notes/assumptions/81). -/
opaque Config.enrolMessages : Nat → Nat

/-- What the host units' state images hold in a base (Table 20.2: their layout belongs to the stepping): the content of each
BASE_UNIT record. -/
opaque Config.baseUnits : Nat → List (List Nat)

/-- What a base holds of a host unit (R496), in the terms of the units' own words: a lane, a tenant (and, while it
resets, the step of Table 9.5 it is at: 0 draining, 1 emptying, 2 waiting for its key, 3 region), a transmit and a receive
stream with their packet numbers, a key slot, a region's EPOCH, what a STATE record of a unit gives, the MODERATION of a tenant, what a token
bucket of a tenant on a lane lacks (0 commitment, 1 ceiling, 2 policer), and a station's context. -/
inductive BaseItem where
  | lane (n : Fin 16) (state : Fin 6) (cause : BitVec 3) (gen : BitVec 5)
  | tenant (t : Fin 16) (state : Fin 5) (gen : BitVec 5) (phase : Fin 4)
  | tx (stream : BitVec 14) (state : Fin 6) (an : BitVec 2) (gen : BitVec 5) (nextPn : BitVec 64)
  | rx (stream : BitVec 14) (state : Fin 6) (an : BitVec 2) (gen : BitVec 5) (lowEven lowOdd : Option (BitVec 64))
  | slot (n : BitVec 17) (state : Fin 4) (gen : BitVec 5)
  | epoch (region : Fin 17) (value : BitVec 24)
  | state (unit : Fin 7) (index : Fin 16) (value : Word)
  | moderation (t : Fin 16) (m : List Word)
  | bucket (kind : Fin 3) (tenant lane : Fin 16) (debt : Nat)
  | station (n : BitVec 16) (upSeq echo downSeq : BitVec 48) (valid : Bool)
  deriving DecidableEq, Repr

/-- What the BASE_UNIT bodies of a base give a unit of this stepping, to which their layout belongs (Table 20.2). -/
opaque Config.baseItems : List (List Nat) → List BaseItem

/-- How many of an engine side's issue slots, at a model time, were held back by its output, and how many are held with a
frame still in progress (R477) (DESIGN CHOICE, notes/assumptions/69). -/
opaque Config.backSlots : Nat → Nat → Nat
/-- DESIGN CHOICE, notes/assumptions/69. -/
opaque Config.openSlots : Nat → Nat → Nat

end Sys2Proof
end

