-- ==== Sys2Proof/Machine/Curve.lean ====
section
/-!
DEFINITION. What the public-key engine and the Tollhouse compute on the curves P-384 and P-256: public halves, ECDH, ECDSA (03_start
R70, 06_keys R137, 12_zheac R292, 16_tollhouse R404, R411, R419). The curves and ECDSA are those of FIPS 186, which the spec names
and does not repeat (PRESUMED, notes/assumptions/23).
-/

namespace Sys2Proof.Machine

/-- `b ^ e mod m` over the lowest `n` bits of the exponent. -/
def powMod (m : Nat) : Nat → Nat → Nat → Nat
  | 0, _, _ => 1 % m
  | n + 1, b, e => (if e % 2 = 1 then b else 1) * powMod m n (b * b % m) (e / 2) % m

/-- A curve `y² = x³ − 3x + b` over a prime field, of prime order `n`, with its base point and the bits of its numbers. -/
structure Curve where
  bits : Nat
  p : Nat
  b : Nat
  n : Nat
  gx : Nat
  gy : Nat

def p384 : Curve :=
  { bits := 384, p := 2 ^ 384 - 2 ^ 128 - 2 ^ 96 + 2 ^ 32 - 1
    b := 0xb3312fa7e23ee7e4988e056be3f82d19181d9c6efe8141120314088f5013875ac656398d8a2ed19d2a85c8edd3ec2aef
    n := 0xffffffffffffffffffffffffffffffffffffffffffffffffc7634d81f4372ddf581a0db248b0a77aecec196accc52973
    gx := 0xaa87ca22be8b05378eb1c71ef320ad746e1d3b628ba79b9859f741e082542a385502f25dbf55296c3a545e3872760ab7
    gy := 0x3617de4a96262c6f5d9e98bf9292dc29f8f41dbd289a147ce9da3113b5f0b8c00a60b1ce1d7e819d7a431d7c90ea0e5f }

def p256 : Curve :=
  { bits := 256, p := 2 ^ 256 - 2 ^ 224 + 2 ^ 192 + 2 ^ 96 - 1
    b := 0x5ac635d8aa3a93e7b3ebbd55769886bc651d06b0cc53b0f63bce3c3e27d2604b
    n := 0xffffffff00000000ffffffffffffffffbce6faada7179e84f3b9cac2fc632551
    gx := 0x6b17d1f2e12c4247f8bce6e563a440f277037d812deb33a0f4a13945d898c296
    gy := 0x4fe342e2fe1a7f9b8ee7eb4a7c0f9e162bce33576b315ececbb6406837bf51f5 }

/-- A point in Jacobian coordinates: `x / z²` and `y / z³`; `z` is 0 at infinity. -/
structure Point where
  x : Nat
  y : Nat
  z : Nat
  deriving DecidableEq, Repr

namespace Curve

/-- A pair of coordinates is a point of the curve. -/
def holds (c : Curve) (x y : Nat) : Bool :=
  decide (x < c.p ∧ y < c.p) && decide ((y * y + 3 * x) % c.p = (x * x * x + c.b) % c.p)

def sub (c : Curve) (a b : Nat) : Nat := (a + (c.p - b)) % c.p

def infinity : Point := { x := 1, y := 1, z := 0 }

/-- Twice a point. -/
def double (c : Curve) (a : Point) : Point :=
  let zz := a.z * a.z % c.p
  let yy := a.y * a.y % c.p
  let s := 4 * a.x * yy % c.p
  let m := 3 * (c.sub a.x zz * (a.x + zz)) % c.p
  let x := c.sub (m * m % c.p) (2 * s % c.p)
  { x := x, y := c.sub (m * c.sub s x % c.p) (8 * yy * yy % c.p), z := 2 * a.y * a.z % c.p }

/-- The sum of two points. -/
def plus (c : Curve) (a b : Point) : Point :=
  if a.z = 0 then b
  else if b.z = 0 then a
  else
    let za := a.z * a.z % c.p
    let zb := b.z * b.z % c.p
    let u := a.x * zb % c.p
    let v := a.y * b.z * zb % c.p
    let h := c.sub (b.x * za % c.p) u
    let r := c.sub (b.y * a.z * za % c.p) v
    if h = 0 then (if r = 0 then c.double a else infinity)
    else
      let hh := h * h % c.p
      let hhh := h * hh % c.p
      let uh := u * hh % c.p
      let x := c.sub (c.sub (r * r % c.p) hhh) (2 * uh % c.p)
      { x := x, y := c.sub (r * c.sub uh x % c.p) (v * hhh % c.p), z := h * a.z * b.z % c.p }

/-- `k` times a point, over the lowest `n` bits of `k`, the most significant first. -/
def timesFrom (c : Curve) (k : Nat) (a : Point) : Nat → Point → Point
  | 0, r => r
  | n + 1, r =>
    let d := c.double r
    timesFrom c k a n (if k.testBit n then c.plus d a else d)

def times (c : Curve) (k : Nat) (a : Point) : Point := c.timesFrom k a c.bits infinity

/-- The coordinates of a point; none at infinity. -/
def affine (c : Curve) (a : Point) : Option (Nat × Nat) :=
  if a.z = 0 then none
  else
    let i := powMod c.p c.bits a.z (c.p - 2)
    let ii := i * i % c.p
    some (a.x * ii % c.p, a.y * ii % c.p * i % c.p)

def base (c : Curve) : Point := { x := c.gx, y := c.gy, z := 1 }

/-- A point held as x then y. -/
def ofPub (c : Curve) (k : Nat) : Point := { x := k >>> c.bits, y := k % 2 ^ c.bits, z := 1 }

/-- A number of twice the curve's bits is a point, x then y. -/
def isPub (c : Curve) (k : Nat) : Bool := c.holds (k >>> c.bits) (k % 2 ^ c.bits)

/-- The public half of a private key, x then y (R137). -/
def pub (c : Curve) (d : Nat) : Nat :=
  match c.affine (c.times d c.base) with
  | some (x, y) => x <<< c.bits ||| y
  | none => 0

/-- The x-coordinate of the ECDH product of a private key and a public half; 0 at infinity. -/
def ecdh (c : Curve) (d k : Nat) : Nat := ((c.affine (c.times d (c.ofPub k))).map Prod.fst).getD 0

/-- The private key formed from a derived or drawn number (R137). -/
def privateKey (c : Curve) (k : Nat) : Nat := k % (c.n - 1) + 1

/-- The ECDSA signature, r then s, of a digest of as many bits as the curve has, with a nonce from 1 to n − 1. -/
def sign (c : Curve) (d nonce digest : Nat) : Nat :=
  match c.affine (c.times nonce c.base) with
  | some (x, _) =>
    let r := x % c.n
    (r <<< c.bits) ||| (powMod c.n c.bits nonce (c.n - 2) * (digest + r * d) % c.n)
  | none => 0

/-- The ECDSA signature, r then s, of a digest verifies under a public half. -/
def verify (c : Curve) (k digest signature : Nat) : Bool :=
  let r := signature >>> c.bits
  let s := signature % 2 ^ c.bits
  decide (0 < r ∧ r < c.n ∧ 0 < s ∧ s < c.n) && c.isPub k &&
    (let w := powMod c.n c.bits s (c.n - 2)
     match c.affine (c.plus (c.times (digest * w % c.n) c.base) (c.times (r * w % c.n) (c.ofPub k))) with
     | some (x, _) => decide (x % c.n = r)
     | none => false)

end Curve

end Sys2Proof.Machine
end

