-- ==== Sys2Proof/Machine/Keys.lean ====
section
/-!
DEFINITION. The key register (06_keys_and_entropy R139 to R147) and requests to the DRBG (R151 to R153).
-/

namespace Sys2Proof.Machine

/-! Slots of Table 6.2. -/
def slotTx (stream an : Nat) : Nat := 2 * stream + an % 2
def slotRx (stream an : Nat) : Nat := 32768 + 2 * stream + an % 2
def slotMem (t : Nat) : Nat := 65536 + t
def slotDevMem : Nat := 65552
def slotZheacId : Nat := 65568
def slotZheacEph (k : Nat) : Nat := 65569 + k
def slotOperator : Nat := 65601
def slotOperSession (n : Nat) : Nat := 65602 + n
def slotTenantKey (t : Nat) : Nat := 65634 + t
def slotTenSession (t : Nat) : Nat := 65650 + t
def slotFleet : Nat := 65666
def slotImageKey : Nat := 65667
def slotTrip : Nat := 65668
def slotCache (e : Nat) : Nat := 66048 + e

/-- KIND of the use Table 6.2 gives a slot (Table 6.11); 0 for the slots never written. -/
def slotUse (n : Nat) : Nat :=
  if n < 32768 then 0o01
  else if n < 65536 then 0o02
  else if n < 65553 then 0o03
  else if n = 65568 then 0o04
  else if 65569 ≤ n ∧ n ≤ 65600 then 0o05
  else if n = 65601 then 0o06
  else if 65602 ≤ n ∧ n ≤ 65633 then 0o07
  else if 65634 ≤ n ∧ n ≤ 65649 then 0o10
  else if 65650 ≤ n ∧ n ≤ 65665 then 0o11
  else if n = 65666 then 0o12
  else if n = 65667 then 0o13
  else if n = 65668 then 0o14
  else if 66048 ≤ n ∧ n ≤ 69631 then 0o15
  else 0

/-- A life-cycle state's byte in the context of its root (R134). -/
def rootContext : LcState → List Nat
  | .test => [1]
  | .provision => [2]
  | .field => [3]
  | .analysis => [4]
  | .blank | .retired => []

/-- A derivation of Table 6.1 from a root (R136). -/
def fromRoot (root : Nat) (label : String) (len : Nat) : Nat := kdf384 (beBytes 48 root) label [] len

/-- A key of 256 bits as its slot holds it, and the key of a slot (R139). -/
def slotValue (key : Nat) : Nat := key <<< 128
def slotKey (value : Nat) : Nat := value >>> 128

/-- A link slot: key, salt and SSCI. -/
def linkValue (key salt ssci : Nat) : Nat := key <<< 128 ||| salt <<< 32 ||| ssci
def slotSalt (value : Nat) : Nat := value >>> 32 % 2 ^ 96
def slotSsci (value : Nat) : Nat := value % 2 ^ 32

/-- The substitute of a key in ANALYSIS: SHA-256 of a name and what follows it (Table 20.4). -/
def substitute (name : String) (more : List Nat) : Nat := sha256 (ascii name ++ more)

/-- The substitute of a link key: key, salt and SSCI, from names and the bytes that follow them (Table 20.4). -/
def substituteLink (name : String) (more : List Nat) (ssci : Nat) : Nat :=
  linkValue (substitute name more) (substitute "KR1856-ANALYSIS-SALT" more >>> 160) ssci

/-- CK_CORE cycles of the destroy of one slot with its verification: 12.8 ns (Table 6.4) (DESIGN CHOICE, notes/assumptions/82). -/
def destroyCycles : Nat := 16

namespace State

/-- A slot; one that no writer aims at holds no key, whatever the register's others hold (R139). -/
def slot (s : State) (n : Nat) : Slot := tabGet (if slotUse n = 0 then {} else s.keys.base) s.keys.slots n

def setSlot (s : State) (n : Nat) (v : Slot) : State :=
  { s with keys := { s.keys with slots := tabPut s.keys.base s.keys.slots n v } }

/-- A lookup returns a key only from a VALID slot (R141). -/
def keyValid (s : State) (n : Nat) : Bool := decide ((s.slot n).state = SlotState.valid)

/-- The value that a lookup returns (R141). -/
def lookup (s : State) (n : Nat) : Option Nat := if s.keyValid n then some (s.slot n).value else none

/-- A whole-register destroy runs: it blocks installs from its first cycle (R146). -/
def registerDestroying (s : State) : Bool :=
  match s.cus.running with
  | some (_, .destroying) => true
  | _ => false

/-- The destroy of a slot has begun and has not ended its verification (R144). -/
def slotDestroying (s : State) (n : Nat) : Bool := s.keys.destroys.any (fun e => decide (e.1 = n ∧ s.now < e.2))

/-- An install into the slot succeeds: it is not in FAULT (R142), and no destroy wins (R144, R146). -/
def canInstall (s : State) (n : Nat) : Bool :=
  decide ((s.slot n).state ≠ SlotState.fault) && !s.slotDestroying n && !s.registerDestroying

/-- Content of the KEY record of a slot (Table 20.2). -/
def keyRecord (s : State) (n op : Nat) : State :=
  let v := s.slot n
  s.note (.rcd 4 0o07 [n, fld 17 16 op + fld 15 11 v.gen + fld 10 7 v.kind, 0])

/-- An install commits whole (R142), or fails and leaves the slot as it is. -/
def installKey (s : State) (n value : Nat) : State :=
  if s.canInstall n then
    ((s.setSlot n { state := .valid, kind := slotUse n, gen := ((s.slot n).gen + 1) % 32, value := value }).occur
      32 0o002).keyRecord n 0
  else s.keyRecord n 2

/-- A slot failed destruction verification (R145): FAULT until the next start. -/
def slotFails (s : State) (n : Nat) : State :=
  let v := s.slot n
  let s := s.setSlot n { v with state := .fault, gen := (v.gen + 1) % 32, value := 0 }
  let s := s.keyRecord n 3
  { s with keys := { s.keys with destroyFails := satInc 18 s.keys.destroyFails } }.emitOwn 0o044005 0 0 n

/-- The state of a slot after its destroy, whose cells all read back 0 unless the slot is defective (R145). A FAULT slot
stays FAULT. -/
def destroyed (v : Slot) : Slot :=
  if v.state = SlotState.fault then v else { v with state := .destroyed, gen := (v.gen + 1) % 32, value := 0 }

/-- A slot is destroyed (R145): FAULT when its cells do not read back zero. -/
def destroySlot (s : State) (n : Nat) : State :=
  let v := s.slot n
  if v.state = SlotState.fault then s
  else if s.keys.defective.contains n then s.slotFails n
  else
    let s := ((s.setSlot n (destroyed v)).occur 32 0o003).keyRecord n 1
    { s with keys := { s.keys with
      destroys := (n, s.now + destroyCycles) :: s.keys.destroys.filter (fun e => decide (s.now < e.2 ∧ e.1 ≠ n)) } }

/-- Every slot of the register after a whole-register destroy: those of a use are DESTROYED, the others stay EMPTY (R139); the
slots that fail are handled apart. -/
def destroyAll (s : State) : State :=
  let base := destroyed s.keys.base
  let bad := s.keys.defective.filter (fun n => decide (n < 69632) && decide ((s.slot n).state ≠ SlotState.fault))
  let slots := (s.keys.slots.map (fun e => (e.1, destroyed e.2))).filter (fun e => decide (e.2 ≠ base))
  let s := { s with keys := { s.keys with
    slots := slots, base := base, cache := [], derivations := [], root := none, rootValue := 0 } }
  bad.foldl (fun s n =>
    let v := s.slot n
    let s := s.setSlot n { v with state := .fault }
    { s with keys := { s.keys with destroyFails := satInc 18 s.keys.destroyFails } }.emitOwn 0o044005 0 0 n) s

/-- The wipe at step 2 of a start: every good slot EMPTY with GEN 0, every other FAULT (R146). -/
def wipeAll (s : State) (failing : List Nat) : State :=
  let s := { s with keys := { s.keys with
    slots := [], base := {}, cache := [], derivations := [], root := none, rootValue := 0, bindPub := 0, zheacPub := 0,
    destroys := [], defective := failing.filter (fun n => decide (n < 69632)) } }
  s.keys.defective.foldl (fun s n =>
    let s := s.setSlot n { state := .fault }
    { s with keys := { s.keys with destroyFails := satInc 18 s.keys.destroyFails } }.emitOwn 0o044005 0 0 n) s

/-- The root of the start's life-cycle state and the keys that Table 6.1 derives from it, from the PUF secret (R134, R136,
R137). -/
def deriveKeys (s : State) (secret : Nat) : State :=
  let st := s.cus.startState
  let root := kdf384 (beBytes 48 secret) "KR1856-ROOT" (rootContext st) 384
  let pair := fun (label : String) =>
    let d := p384.privateKey (fromRoot root label 448)
    (d, p384.pub d)
  let s := { s with
    keys := { s.keys with root := some st, rootValue := root }
    trng := { s.trng with pers := some (fromRoot root "KR1856-DRBG-PERS" 384) } }
  let s := if st = LcState.field then
      let k := pair "KR1856-IMAGE-KEY"
      { s with keys := { s.keys with bindPub := k.2 } }.installKey slotImageKey k.1
    else s
  if st = LcState.field ∨ st = LcState.analysis then
    let k := pair "KR1856-ZHEAC-ID"
    ({ s with keys := { s.keys with zheacPub := k.2 } }.installKey slotZheacId k.1).installKey slotTrip
      (slotValue (fromRoot root "KR1856-TRIP" 256))
  else s

/-! ## The DRBG -/

/-- A request failed with ENTROPY-UNAVAILABLE: the first of an outage emits 0o041006 (R153). -/
def entropyFailed (s : State) : State :=
  let s := { s with trng := { s.trng with entUnavail := satInc 18 s.trng.entUnavail } }
  if s.trng.outageReported then s
  else { s with trng := { s.trng with outageReported := true } }.emitDev 0o041006

end State

/-- Samples as bytes, the first the most significant bit of the first (DESIGN CHOICE, notes/assumptions/30). -/
def sampleBytes (l : List Bool) : List Nat := beBytes (l.length / 8) (l.foldl (fun v b => 2 * v + b.toNat) 0)

namespace State

/-- The DRBG reseeds from the 1,024 oldest samples of the pool (R151). -/
def reseedNow (s : State) : State :=
  { s with trng := { s.trng with
    reseedDue := false, pool := s.trng.pool.drop 1024, reseeds := satInc 36 s.trng.reseeds, generates := 0, seededAt := s.now
    drbg := s.trng.drbg.reseed (sampleBytes (s.trng.pool.take 1024)) } }

/-- A reseed that is due takes 1,024 samples when the pool has them (R151). -/
def tryReseed (s : State) : State :=
  if s.trng.reseedDue && decide (1024 ≤ s.trng.pool.length) then s.reseedNow else s

/-- A request is served: 1 to 512 bits; after 65,536 generate requests, or 1 s after the last seeding, a reseed is due
(R151). -/
def draw (s : State) (bits : Nat) : Nat × State :=
  let n := s.trng.generates + 1
  let out := s.trng.drbg.generate bits
  let s := { s with trng := { s.trng with drbg := out.2, generates := n } }
  (out.1, if n ≥ 65536 then { s with trng := { s.trng with reseedDue := true } }.tryReseed else s)

end State

/-- The bits that a consumer's request asks for: a memory key 256, an ephemeral or a signing nonce 448, a handshake nonce 256, a
challenge 64, a nonce of a session 256 (R137, R151; DEDUCED, notes/assumptions/30). -/
def Consumer.bits : Consumer → Nat
  | .tenantKey _ | .startKeys => 256
  | .zheac _ kind => if kind = 1 then 256 else 448
  | .challenge _ => 64
  | .opening _ _ _ _ => 256

/-- What a request to the DRBG meets. -/
inductive Draw where
  | granted (value : Nat)
  | waits
  | fails
  deriving DecidableEq, Repr

namespace State

/-- The DRBG serves a request at once. -/
def drbgServes (s : State) : Bool :=
  decide (s.trng.state = TrngState.ok) && !s.trng.reseedDue && s.trng.waiting.isEmpty

/-- A request to the DRBG (R151, R153): while 64 wait, a further one fails at once (Table 6.10). -/
def entropyAsk (s : State) (c : Consumer) : Draw × State :=
  if s.drbgServes then
    let d := s.draw c.bits
    (.granted d.1, d.2)
  else if s.trng.state = TrngState.failed || decide (64 ≤ s.trng.waiting.length) then (.fails, s.entropyFailed)
  else (.waits, { s with trng := { s.trng with waiting := s.trng.waiting ++ [(c, s.now)] } })

/-- Whether a consumer's request waits. -/
def entropyWaits (s : State) (c : Consumer) : Bool := s.trng.waiting.any (fun w => w.1 = c)

/-- The request of a consumer is withdrawn. -/
def entropyDrop (s : State) (c : Consumer) : State :=
  { s with trng := { s.trng with waiting := s.trng.waiting.filter (fun w => decide (w.1 ≠ c)) } }

end State

/-! ## Words -/

/-- The key and entropy words 0o006000 to 0o007777 (Table 6.11). -/
def readKeys (s : State) (a : Nat) : Nat :=
  let t := s.trng
  let k := s.keys
  let sel := s.slot k.slotSel
  if a = 0o006000 then
    fld 17 15 t.state.code + fld 14 13 t.failRun + fld 12 11 t.lastTest + fld 10 4 t.waiting.length
  else if a = 0o006001 then t.healthFails
  else if a = 0o006002 then t.entUnavail
  else if a = 0o006003 then wideWord 2 t.reseeds 0
  else if a = 0o006004 then wideWord 2 t.reseeds 1
  else if a = 0o006005 then fld 16 0 k.slotSel
  else if a = 0o006006 then fld 17 16 sel.state.code + fld 15 11 sel.gen + fld 10 7 sel.kind
  else if a = 0o006007 then sat 18 ((k.slots.filter (fun e => decide (e.1 < 32768 ∧ e.2.state = SlotState.valid))).length)
  else if a = 0o006010 then
    sat 18 ((k.slots.filter (fun e => decide (32768 ≤ e.1 ∧ e.1 < 65536 ∧ e.2.state = SlotState.valid))).length)
  else if a = 0o006011 then sat 18 ((k.slots.filter (fun e => decide (e.2.state = SlotState.fault))).length)
  else if a = 0o006012 then k.destroyFails
  else if a = 0o006013 then k.cache.length
  else if a = 0o006014 then wideWord 2 k.cacheMiss 0
  else if a = 0o006015 then wideWord 2 k.cacheMiss 1
  else if a = 0o006016 then flag 17 (s.keyValid slotFleet)
  else if 0o006100 ≤ a ∧ a ≤ 0o006152 then
    wideWord 43 k.zheacPub (a - 0o006100)
  else 0

end Sys2Proof.Machine
end

