-- ==== Sys2Proof/Machine/Image.lean ====
section
/-!
DEFINITION. Reading and checking a slot (03_start_of_day R70, 04_spango_image R87 to R95), the boot record (R103) and
the lease journal (R104).
-/

namespace Sys2Proof.Machine

/-- Class and wrap that Table 4.4 gives a type; none for an unknown TYPE. -/
def typeRow (type : Nat) : Option (Nat × Bool) :=
  if type = 0o002 ∨ type = 0o010 ∨ type = 0o011 then some (1, true)
  else if 1 ≤ type ∧ type ≤ 0o012 then some (1, false)
  else if type = 0o017 then some (2, true)
  else if 0o013 ≤ type ∧ type ≤ 0o021 then some (2, false)
  else if 0o022 ≤ type ∧ type ≤ 0o025 then some (3, false)
  else none

/-- How many instances a type has (Table 4.4). -/
def typeInstances (type : Nat) : Nat :=
  if type = 0o004 ∨ type = 0o013 ∨ type = 0o014 ∨ type = 0o015 ∨ type = 0o022 then 16
  else if type = 0o016 ∨ type = 0o017 then 512
  else if type = 0o020 then 10
  else 1

/-- Instance 0 of these types is required, and some instance of LANE and TENANT_MAP (Table 4.4). -/
def requiredTypes : List Nat := [0o001, 0o002, 0o003, 0o005, 0o006]

/-- A section as it stands in a slot: its header words and stored body. -/
structure RawSection where
  head : List Word
  body : List Word
  deriving DecidableEq, Repr

def RawSection.type (r : RawSection) : Nat := bits (wordAt r.head 0).toNat 17 9
def RawSection.cls (r : RawSection) : Nat := bits (wordAt r.head 0).toNat 8 6
def RawSection.wrap (r : RawSection) : Bool := (wordAt r.head 0).toNat.testBit 5
def RawSection.inst (r : RawSection) : Nat := (wordAt r.head 1).toNat
def RawSection.length (r : RawSection) : Nat := wideOf [wordAt r.head 2, wordAt r.head 3]
def RawSection.wrappedBytes (r : RawSection) : Nat := wideOf [wordAt r.head 5, wordAt r.head 6]

/-- `n` words from a position. -/
def wordsFrom (ws : List Word) (p n : Nat) : List Word := (ws.drop p).take n

/-- A slot as it is read: its bytes, and the byte at which an SPI read error falls, if one does. -/
structure SlotRead where
  bytes : List Nat
  readError : Option Nat

/-- The first `n` bytes of a slot; one that nothing was programmed into reads 0xFF. -/
def SlotRead.first (d : SlotRead) (n : Nat) : List Nat := d.bytes.take n ++ List.replicate (n - d.bytes.length) 0xFF

/-- The first `n` words of a slot, nine bytes to four of them (R87). -/
def SlotRead.words (d : SlotRead) (n : Nat) : List Word := unpackWords (d.first (9 * n / 4))

/-- The 64 words of the header. -/
def SlotRead.header (d : SlotRead) : List Word := d.words 64

/-- No read error falls before word `n`. -/
def SlotRead.reads (d : SlotRead) (n : Nat) : Bool :=
  match d.readError with
  | some k => decide (9 * n / 4 ≤ k)
  | none => true

/-- The sections that follow the header back to back, `n` of them, ending by word `stop`; none when check 2 of R70 fails
in one of them. -/
def sectionsFrom (d : SlotRead) (ws : List Word) (stop : Nat) : Nat → Nat → Option (List RawSection × Nat)
  | 0, p => some ([], p)
  | n + 1, p =>
    let head := wordsFrom ws p 8
    let len := wideOf [wordAt head 2, wordAt head 3]
    let body := wordsFrom ws (p + 8) len
    if p + 8 + len ≤ stop && len % 4 = 0 && d.reads (p + 8 + len) && body.length = len &&
        decide (crc18 (head.take 7) = wordAt head 7) && decide (crc18 body = wordAt head 4) then
      match sectionsFrom d ws stop n (p + 8 + len) with
      | some (l, e) => some (⟨head, body⟩ :: l, e)
      | none => none
    else none

/-- Check 1 of R70: the header is present (R89). -/
def headerPresent (h : List Word) : Bool :=
  let words := wideOf [wordAt h 4, wordAt h 5]
  let pages := (wordAt h 6).toNat
  decide (wordAt h 0 = 0o625162 ∧ wordAt h 1 = 0o010100 ∧ words % 4 = 0 ∧ 1 ≤ pages ∧ pages ≤ 32768 ∧
    9 * words / 4 ≤ pages * 256 ∧ (pages - 1) * 256 < 9 * words / 4)

/-- NVM_DIV of a header. -/
def headerDiv (h : List Word) : Nat := bits (wordAt h 3).toNat 9 0

/-- Check 3 of R70: the identity word in all 18 bits, and N in range. -/
def headerFits (identity : Nat) (h : List Word) : Bool :=
  decide ((wordAt h 2).toNat = identity ∧ 97 ≤ headerDiv h ∧ headerDiv h ≤ 800)

/-- IMAGE_WORDS of a header. -/
def headerWords (h : List Word) : Nat := wideOf [wordAt h 4, wordAt h 5]

/-- The sections and the trailer of a slot that pass the rest of check 2; none otherwise. -/
def slotSections (d : SlotRead) : Option (List RawSection × List Word) :=
  let h := d.header
  let words := headerWords h
  let stop := words - 88
  let ws := d.words words
  match sectionsFrom d ws stop (wordAt h 10).toNat 64 with
  | some (l, e) =>
    let t := wordsFrom ws e 88
    if e = stop && 88 ≤ words && d.reads words && decide (wordAt t 0 = 0o625163) &&
        decide (t.length = 88) && decide (crc18 (t.take 87) = wordAt t 87) then some (l, t)
    else none
  | none => none

/-- The image digest: SHA-384 of the packed bytes of the header and of every section (R95). -/
def slotDigest (d : SlotRead) : Nat := sha384 (d.first (9 * (headerWords d.header - 88) / 4))

/-- AUTH_PUB and SIGNATURE of a trailer (Table 4.5). -/
def trailerPub (t : List Word) : Nat := wideOf (wordsFrom t 1 43)
def trailerSig (t : List Word) : Nat := wideOf (wordsFrom t 44 43)

/-- What the OTP holds of an image authority: the SHA-384 of the 96 bytes of AUTH_PUB (R95). -/
def authorityHash (pub : Nat) : Nat := sha384 (beBytes 96 pub)

/-- Check 4 of R70. -/
def signatureOk (fused : Option Nat) (d : SlotRead) (t : List Word) : Bool :=
  decide (trailerPub t < 2 ^ 768 ∧ trailerSig t < 2 ^ 768) && decide (fused = some (authorityHash (trailerPub t))) &&
    p384.verify (trailerPub t) (slotDigest d) (trailerSig t)

/-- The conditions of R91 on the sections of an image (check 1 of Table 4.6). -/
def sectionsOk (isN : Bool) (l : List RawSection) : Bool :=
  l.all (fun r => typeRow r.type = some (r.cls, r.wrap) && decide (r.inst < typeInstances r.type)) &&
  decide ((l.map (fun r => (r.type, r.inst))).Nodup) &&
  requiredTypes.all (fun t => l.any (fun r => r.type = t)) &&
  l.any (fun r => r.type = 0o004) && l.any (fun r => r.type = 0o013) &&
  !(isN && l.any (fun r => r.type = 0o023))

/-- The stored form of a secret section (R564): its plaintext size must be one its owning chapter allows. Another section
has WRAPPED_BYTES 0 (Table 4.3) (DEDUCED, notes/assumptions/22). -/
def wrapFormOk (sizes : Nat → Bool) (r : RawSection) : Bool :=
  (!r.wrap && decide (r.wrappedBytes = 0)) ||
    (r.wrap && decide (16 ≤ r.wrappedBytes) && decide (r.wrappedBytes % 8 = 0) &&
      decide (r.length = 4 * ((r.wrappedBytes + 8) / 9)) && sizes (r.wrappedBytes - 8))

/-- Z of R93: the x-coordinate of the ECDH product of the image key and EPH_PUB; none without the key, or when EPH_PUB is no
point of the curve. -/
def imageSecret (key : Option Nat) (h : List Word) : Option Nat :=
  let eph := wideOf (wordsFrom h 14 43)
  match key with
  | some d => if eph < 2 ^ 768 ∧ p384.isPub eph = true then some (p384.ecdh d eph) else none
  | none => none

/-- The key-encryption key of a section (R93). -/
def sectionKek (z : Nat) (r : RawSection) : Nat :=
  kdf384 (beBytes 48 z) "KR1856-IMG-WRAP" (beBytes 5 (wideOf [wordAt r.head 0, wordAt r.head 1])) 256

/-- The plaintext bytes of a secret section; none when it does not unwrap (R93). -/
def unwrapSection (z : Option Nat) (r : RawSection) : Option (List Nat) :=
  z.bind (fun z => kwpUnwrap (sectionKek z r) ((packWords r.body).take r.wrappedBytes))

/-- A section as its unit takes it: the body as stored, or the plaintext of a secret section; in ANALYSIS a secret section
carries no plaintext (R564). -/
def takeSection (analysis : Bool) (z : Option Nat) (r : RawSection) : Section :=
  let plain := if r.wrap && !analysis then unwrapSection z r else none
  { type := r.type, inst := r.inst, cls := r.cls, wrap := r.wrap,
    body := if r.wrap then unpackPadded (plain.getD []) else r.body
    plain := plain.map List.length
    digest := sha384 (if r.wrap then plain.getD [] else packWords r.body) }

/-- Every secret section unwraps (check 6 of R70). -/
def unwrapsAll (z : Option Nat) (l : List RawSection) : Bool := l.all (fun r => !r.wrap || (unwrapSection z r).isSome)

/-- The image a slot holds. -/
def imageOf (analysis : Bool) (z : Option Nat) (d : SlotRead) (l : List RawSection) : Image :=
  let h := d.header
  { rung := bits (wordAt h 7).toNat 5 0
    release := wideOf [wordAt h 8, wordAt h 9]
    buildDate := (wordAt h 11).toNat
    bound := wideOf [wordAt h 12, wordAt h 13]
    nvmDiv := headerDiv h
    digest := slotDigest d
    sections := l.map (takeSection analysis z) }

/-- Size in MiB that the SPI NOR must have for a slot to lie wholly inside it: A, B, staged (Table 4.1). -/
def slotEndMib (slot : Nat) : Nat := 8 * slot

/-- A valid boot record (Table 4.9). -/
def bootValid (b : List Word) : Bool :=
  decide (wordAt b 0 = 0o625164) && decide (crc18 (b.take 3) = wordAt b 3)

/-- A boot record with a SEQ and a request. -/
def bootRecord (seq : Nat) (req : Bool) : List Word :=
  let b : List Word := [0o625164, BitVec.ofNat 18 seq, BitVec.ofNat 18 (flag 17 req)]
  b ++ [crc18 b]

/-- The lease record that twelve words hold, when its MAGIC and CRC pass (Table 4.10). -/
def leaseOf (sector : Nat) (ws : List Word) : Option LeaseRec :=
  if wordAt ws 0 = 0o625165 ∧ crc18 (ws.take 11) = wordAt ws 11 then
    some { sector := sector, stream := bits (wordAt ws 1).toNat 13 0, first := wideOf (wordsFrom ws 2 4),
           last := wideOf (wordsFrom ws 6 4), ladder := (wordAt ws 10).toNat }
  else none

namespace State

/-- The identity word (Table 0.2) (DESIGN CHOICE, notes/assumptions/5). -/
def identity (s : State) : Nat := if s.isN then 0o342011 else 0o341011

/-- Sectors of lease journal that the SPI NOR leaves (R84). -/
def journalSectors (s : State) : Nat := (s.nor.sizeMib * 256) - (24 * 256 + 16)

/-- A slot as the device reads it now. -/
def slotRead (s : State) (slot : Nat) (readError : Option Nat) : SlotRead :=
  { bytes := tabGet [] s.nor.slots slot, readError := readError }

/-- Bytes programmed into a slot from an offset on, once the sectors that they enter are erased as `erased` lists (R445). -/
def programSlot (s : State) (slot offset : Nat) (bytes : List Nat) (erased : List Nat) : State :=
  let old := tabGet [] s.nor.slots slot
  let wide := old ++ List.replicate (offset + bytes.length - old.length) 0xFF
  let clean := erased.foldl (fun (b : List Nat) k =>
    b.take (4096 * k) ++ ((b.drop (4096 * k)).take 4096).map (fun _ => 0xFF) ++ b.drop (4096 * (k + 1))) wide
  let new := clean.take offset ++ bytes ++ clean.drop (offset + bytes.length)
  { s with nor := { s.nor with slots := tabPut [] s.nor.slots slot new } }

/-- A slot overwritten whole with what another holds, but for bytes that the part did not take (R102). -/
def copySlot (s : State) (source target : Nat) (worn : List (Nat × Nat)) : State :=
  let b := tabGet [] s.nor.slots source
  let new := worn.foldl (fun (b : List Nat) e => b.set e.1 e.2) b
  { s with nor := { s.nor with slots := tabPut [] s.nor.slots target new } }

/-- Where the device appends lease records in this start (R104). Where every valid record has a LADDER above the ladder's value,
which the rule's steps leave out, it is the first sector (DESIGN CHOICE, notes/assumptions/18). -/
def journalStart (s : State) : Nat :=
  let m := ((s.nor.journal.filter (fun r => decide (r.ladder ≤ s.ladderValue .lease))).map LeaseRec.ladder).foldl max 0
  let hit := fun k => s.nor.journal.any (fun r => r.sector = k && r.ladder = m)
  let n := s.journalSectors
  if s.nor.journal.all (fun r => decide (r.ladder > s.ladderValue .lease)) then 0
  else
    match ((List.range n).filter (fun k => hit k && !hit ((k + 1) % n))).getLast? with
    | some k => (k + 1) % n
    | none => 0

/-- Writes are refused by an SPI NOR smaller than 32 MiB or without 4 KiB erase (R86). -/
def norRefuses (s : State) : Bool := !s.nor.writable

end State

end Sys2Proof.Machine
end

