-- ==== Sys2Proof/Machine/MileOps.lean ====
section
/-!
DEFINITION. Waymark's sampler (19_milepost R483 to R487), and the port bytes and occurrences that frames give Milepost.
-/

namespace Sys2Proof.Machine

/-- The value that a field of 18 bits shows of a larger one (R486). -/
def sat18 (n : Nat) : Nat := min n 0o777777

namespace State

/-- One step of the 16-bit shift register with taps 16, 14, 13 and 11 (R484) (DEDUCED, notes/assumptions/71). -/
def lfsrStep (l : Nat) : Nat :=
  l / 2 + (if (l.testBit 0 != l.testBit 2) != (l.testBit 3 != l.testBit 5) then 2 ^ 15 else 0)

/-- The sampler draws the next interval, under the settings as written (R484) (DEDUCED, notes/assumptions/71). -/
def wayDraw (w : WayUnit) : WayUnit :=
  let l := lfsrStep w.lfsr
  let d := w.set.dither
  { w with
    lfsr := l, count := 0, drawn := w.set
    interval := if d = 0 then w.set.rate else w.set.rate - 2 ^ (d - 1) + l % 2 ^ d }

/-- The filter in force accepts a frame (R483). -/
def wayAccepts (c : WaySet) (tenant port queue : Nat) : Bool :=
  if c.kind = 0 then true
  else if c.kind = 1 then decide (tenant = c.val)
  else if c.kind = 2 then decide (port = c.val)
  else decide (queue = c.val)

/-- An entry is written at WR_INDEX, or discarded (R487). -/
def wayWrite (s : State) (e : List Nat) : State :=
  let w := s.way
  if w.full && w.stopWhenFull then
    let s := { s with way := { w with lost := satInc 18 w.lost, stopped := true } }
    if w.stopped then s else s.emitDev 0o170001
  else
    { s with way := { w with
      entries := tabPut [] w.entries w.wrIndex e, wrIndex := (w.wrIndex + 1) % 4096
      full := w.full || decide (w.wrIndex = 4095), total := satInc 36 w.total } }

/-- CK_FAB cycles of a span of CK_CORE cycles. -/
def fabCycles (n : Nat) : Nat := n / 2

/-- The entry of a frame (Table 19.6). T_ADMIT is a time inside the pipeline: a free value (DEDUCED, notes/assumptions/71).
-/
def wayEntry (s : State) (q outPort : Nat) (f : QFrame) (m : Mark) (prot : Bool) (outcome : Nat) : List Nat :=
  let picked := if outcome = 0 then m.picked else s.now
  let wait := picked - m.admitted
  [fld 17 14 f.tenant + fld 13 9 f.ingress + fld 8 4 outPort + flag 3 prot + flag 2 m.decrypt + flag 1 m.spilled,
    fld 13 0 q, fld 13 0 f.len, fld 17 13 outcome + fld 12 10 f.tc, sat18 (Config.freeNat s.free),
    sat18 (fabCycles wait), if outcome = 0 then sat18 (fabCycles (s.now - m.picked)) else 0, sat18 (wait / us 1)]

/-- The outcome of a frame that may be marked is known: 0 when its last byte has left, else its refusal code (R485). -/
def wayEnd (s : State) (q outPort : Nat) (f : QFrame) (prot : Bool) (outcome : Nat) : State :=
  match f.mark with
  | some m =>
    let e := s.wayEntry q outPort f m prot outcome
    { s with free := s.free + 1, way := { s.way with inFlight := s.way.inFlight - 1 } }.wayWrite e
  | none => s

/-- A marked frame is cut short on its lane: it neither left nor was refused, so no entry tells of it (DEDUCED,
notes/assumptions/33). -/
def wayAbort (s : State) (f : QFrame) : State :=
  if f.mark.isSome then { s with way := { s.way with inFlight := s.way.inFlight - 1 } } else s

/-- The frame at an admission decision is the one to be sampled: a new interval is drawn, and the frame is marked unless 64
are in flight (R483 to R485). -/
def waySample (s : State) (tenant port queue : Nat) : Bool × State :=
  let w := s.way
  if w.en && wayAccepts w.drawn tenant port queue then
    let n := w.count + 1
    if n < w.interval then (false, { s with way := { w with count := n } })
    else if w.inFlight ≥ 64 then (false, { s with way := { wayDraw w with skipped := satInc 18 w.skipped } })
    else (true, { s with way := wayDraw w })
  else (false, s)

/-- A frame refused at its admission decision (R485). -/
def wayRefused (s : State) (sampled : Bool) (q outPort : Nat) (f : QFrame) (trunk : Bool) (prot : Bool) (code : Nat) : State :=
  if sampled then
    let m : Mark := { decrypt := trunk, spilled := false, admitted := s.now, picked := s.now }
    let e := s.wayEntry q outPort f m prot code
    { s with free := s.free + 1 }.wayWrite e
  else s

/-- A frame has arrived whole on a port, or left it (R482), with its occurrences at a lane's block (DEDUCED,
notes/assumptions/32). -/
def frameIn (s : State) (port len : Nat) : State :=
  let s := s.note (.bytes true port len)
  if port < 16 then (s.occur port 0o001).occurs port 0o012 len 1 else s

def frameOut (s : State) (port len : Nat) : State :=
  let s := s.note (.bytes false port len)
  if port < 16 then s.occur port 0o002 else s

/-- Issue slots of a protected frame (R477). -/
def slotsOf (len : Nat) : Nat := (len + 15) / 16

end State

end Sys2Proof.Machine
end

