-- ==== Sys2Proof/Machine/TripOps.lean ====
section
/-!
DEFINITION. The Trip Recorder's journal (20_trip_recorder R492 to R500): blocks, records, the staging buffer, bases, runs and
freezing.
-/

namespace Sys2Proof.Machine

/-- First `n` of the 384 bits of a digest of bytes. -/
def digestTop (n : Nat) (bytes : List Nat) : Nat := sha384 bytes >>> (384 - n)

/-- Words as packed bytes, completed with zero words to a whole group (R9, R10). -/
def packNats (ws : List Nat) : List Nat := packWords (ws.map (BitVec.ofNat 18))

/-- The line of 28 words of a block, its 64 bytes as a number: 7 groups of R9 and a zero byte (R492). -/
def journalLine (ws : List Nat) : Nat := ws.foldl (fun a w => a * 2 ^ 18 + w) 0 * 256

/-- The 28 words of a line. -/
def lineWords (d : Nat) : List Nat := (List.range 28).map (fun j => d / 2 ^ (8 + 18 * (27 - j)) % 2 ^ 18)

/-- The 64 lines of a block's 1,792 words. -/
def blockLines (ws : List Nat) : List Nat := (List.range 64).map (fun k => journalLine ((ws.drop (28 * k)).take 28))

/-- The 4,096 bytes of lines. -/
def linesBytes (l : List Nat) : List Nat := l.flatMap (beBytes 64)

/-- The 4,096 bytes of a block's words. -/
def blockBytes (ws : List Nat) : List Nat := linesBytes (blockLines ws)

/-- The words of a quantity, most significant first (R11). -/
def wideWords (n v : Nat) : List Nat := (List.range n).map (fun i => wideWord n v i)

/-- A record (R495): TYPE, GROUPS, DT and content, completed with zeros to whole groups. -/
def recordOf (type dt : Nat) (content : List Nat) : List Nat :=
  let groups := (content.length + 4) / 4
  let body := content ++ List.replicate (4 * groups - 1 - content.length) 0
  (fld 17 12 type + fld 11 8 (groups - 1) + fld 7 0 dt) :: body

/-- PAD records that fill `n` words, `n` a multiple of 4. -/
def padRecords : Nat → Nat → List Nat
  | 0, _ => []
  | fuel + 1, n =>
    if n = 0 then []
    else let k := min n 64
      recordOf 0 0 (List.replicate (k - 1) 0) ++ padRecords fuel (n - k)

/-- Words of the record area of a block (Table 20.1). -/
def blockRoom : Nat := 1772

/-- A block complete but for CHAIN, TAG and CRC. -/
def blockHead (t : TripUnit) : List Nat :=
  [0o625166, t.run] ++ wideWords 2 t.blockSeq ++ wideWords 3 t.blockTime ++ [t.records] ++ t.cur ++
    padRecords 32 (blockRoom - t.cur.length)

/-- The TAG over a block's words before it, under the Trip Recorder key. -/
def blockTag (key : Nat) (head : List Nat) : Nat :=
  hmac384 (beBytes 32 key) (blockBytes (head ++ List.replicate 9 0)) >>> 320

/-- The block as it is written (R492), under the Trip Recorder key. -/
def blockWords (key : Nat) (t : TripUnit) : List Nat :=
  let a := blockHead t ++ wideWords 3 t.chain
  let b := a ++ wideWords 4 (blockTag key a) ++ List.replicate 4 0
  b ++ [(crc18 (b.map (BitVec.ofNat 18))).toNat]

/-- A block of a journal as it was read: its words, and its 4,096 bytes' CHAIN value. -/
structure Block where
  words : List Nat
  lines : List Nat
  deriving DecidableEq, Repr

/-- `n` words of a block from word `i`, as one quantity. -/
def Block.wide (b : Block) (i n : Nat) : Nat := ((b.words.drop i).take n).foldl (fun a w => a * 2 ^ 18 + w) 0

def Block.seq (b : Block) : Nat := b.wide 2 2
def Block.time (b : Block) : Nat := b.wide 4 3
/-- The CHAIN that the block after it holds. -/
def Block.digest (b : Block) : Nat := digestTop 54 (linesBytes b.lines)
def Block.crcGood (b : Block) : Bool :=
  decide ((crc18 ((b.words.take 1791).map (BitVec.ofNat 18))).toNat = nth b.words 1791)
def Block.tagGood (b : Block) (key : Nat) : Bool := decide (b.wide 1783 4 = blockTag key (b.words.take 1783))

/-- A block passes its CRC, its CHAIN to the block before it when that one is held, and its TAG under a key, when one is given
(R501). -/
def Block.passes (b : Block) (before : Option Block) (key : Option Nat) : Bool :=
  b.crcGood &&
    (if b.seq = 0 then decide (b.wide 1780 3 = 0) else before.all (fun p => decide (b.wide 1780 3 = p.digest))) &&
    key.all b.tagGood

namespace State

def tripWord (s : State) (i : Nat) : Nat := s.cfg 0o012 0 i
def tripMode (s : State) : Nat := bits (s.tripWord 0) 17 16

/-- The unit runs in ANALYSIS with MODE 2: lanes carry nothing, and what arrives comes from records (R503). -/
def replayMode (s : State) : Bool := decide (s.cus.startState = LcState.analysis) && decide (s.tripMode = 2)

/-- Records are being injected (R505). -/
def replaying (s : State) : Bool := decide (s.trip.state = TripState.replaying)

/-- A replay that has ended holds every unit at its last cycle (Table 20.3). -/
def unitsHeld (s : State) : Bool := decide (s.trip.state = TripState.replayDone)

/-- Blocks of region 17 (R492): TRIP_64M units of 64 MiB. -/
def tripBlocks (s : State) : Nat := bits (s.cfg 0o005 0 1) 17 11 * 16384

/-- Oldest block held. -/
def oldestBlock (s : State) : Nat := s.trip.blockSeq - s.tripBlocks

/-- Records are written. -/
def recording (s : State) : Bool :=
  match s.trip.state with
  | .recording => true
  | .freezing => decide (s.trip.blockSeq < s.trip.stopAt)
  | _ => false

def sinceStart (s : State) : Nat := s.now - s.start.t0

/-- The Trip Recorder key (Table 6.1). -/
def tripKey (s : State) : Nat := ((s.lookup slotTrip).map slotKey).getD 0

/-- Block `i` of region 17 as it stands there: none where a line of it is undefined. -/
def regionBlock (s : State) (i : Nat) : Option Block :=
  let l := (List.range 64).map (fun k => tabGet none s.trip.region (64 * i + k))
  if l.all Option.isSome then
    let lines := l.map (fun d => d.getD 0)
    some { words := lines.flatMap lineWords, lines := lines }
  else none

/-- The journal's block with a BLOCK_SEQ (R492). -/
def journalBlock (s : State) (seq : Nat) : Option Block := s.regionBlock (seq % s.tripBlocks)

/-- The block being filled is written to its place, and the next one begins (R492). -/
def endBlock (s : State) : State :=
  let t := s.trip
  let ws := blockWords s.tripKey t
  let lines := blockLines ws
  let at_ := 64 * (t.blockSeq % s.tripBlocks)
  let region := (List.range 64).foldl (fun r k => tabPut none r (at_ + k) (some (nth lines k))) t.region
  { s with trip := { t with
    region := region, chain := digestTop 54 (linesBytes lines), blockSeq := t.blockSeq + 1, cur := [], records := 0 } }

/-- Words join the block being filled, which is written first when they do not fit; the first record of a block counts from
the block's TIME. -/
def putWords (s : State) (ws : List Nat) (n : Nat) : State :=
  let s := if s.trip.cur.length + ws.length ≤ blockRoom then s else s.endBlock
  let t := s.trip
  let t := if t.cur.isEmpty then { t with blockTime := s.sinceStart } else t
  { s with trip := { t with cur := t.cur ++ ws, records := t.records + n, lastTime := s.sinceStart } }

/-- Space that a record takes in the staging buffer, and what 48 Gbit/s have drained since (R498) (DESIGN CHOICE,
notes/assumptions/72). -/
def stagedNow (s : State) : Nat := s.trip.fill - 168 * (s.now - s.trip.fillAt)
/-- DESIGN CHOICE, notes/assumptions/72. -/
def stageFull (s : State) (words : Nat) : Bool := decide (35 * 2 ^ 20 < s.stagedNow + 80 * words)

/-- A record is written, or lost while the staging buffer is full (R495, R498). -/
def record (s : State) (type : Nat) (content : List Nat) : State :=
  if !s.recording then s
  else
    let dt := s.sinceStart - s.trip.lastTime
    let body := recordOf type (if dt ≤ 255 ∧ !s.trip.cur.isEmpty then dt else 0) content
    let late := decide (255 < dt) && !s.trip.cur.isEmpty &&
      decide (s.trip.cur.length + body.length + 4 ≤ blockRoom)
    let ws := if late then recordOf 1 0 (wideWords 3 (s.sinceStart % 2 ^ 54)) ++ body else body
    if s.trip.lost > 0 || s.stageFull ws.length then { s with trip := { s.trip with lost := s.trip.lost + 1 } }
    else
      let fits := decide (s.trip.cur.length + ws.length ≤ blockRoom)
      let ws := if fits then ws else recordOf type 0 content
      let s := { s with trip := { s.trip with fill := s.stagedNow + 80 * ws.length, fillAt := s.now } }
      s.putWords ws (if late && fits then 2 else 1)

/-- PUBLIC_DIGEST (Table 20.2): over the digests of the sections whose WRAP is 0, in image order. -/
def publicDigest (s : State) : Nat :=
  match s.image.running with
  | some i => digestTop 54 ((i.sections.filter (fun c => !c.wrap)).flatMap (fun c => beBytes 48 c.digest))
  | none => 0

/-- QUEUED records of the frames of a queue, in order. -/
def queuedOf (q : Nat) (v : Queue) : List (List Nat) :=
  (v.inFlight.toList ++ v.frames).map (fun f =>
    [q, fld 17 4 f.len, flag 17 f.stream.isSome + fld 13 0 (f.stream.getD 0), fld 17 13 f.ingress, 0, 0, 0])

/-- A base of the control state (R496): BASE_BEGIN, the units' images, a QUEUED record for every held frame, BASE_END. Its block is
that of its BASE_BEGIN (DEDUCED, notes/assumptions/73). -/
def captureBase (s : State) (atStart : Bool) : State :=
  let units := (Config.baseUnits s.free).map (fun c => (c.take 63))
  let queued := s.tp.queues.flatMap (fun e => queuedOf e.1 e.2)
  let node := s.cfg 0o001 0 0
  let begin_ := [s.identity, s.trip.run, fld 17 15 s.cus.startState.code, fld 17 17 (bits node 17 17) + fld 15 0 node] ++
    wideWords 3 s.publicDigest ++ wideWords 3 s.sinceStart ++ [flag 17 atStart, 0, 0, 0, 0]
  let s := { s with free := s.free + 1, trip := { s.trip with capturedAt := s.now } }
  let s := s.record 0o14 begin_
  let first := s.trip.blockSeq
  let s := units.foldl (fun s c => s.record 0o15 c) s
  let s := queued.foldl (fun s c => s.record 0o04 c) s
  let left : Nat := s.trip.lost
  let whole := decide (left = 0)
  let n := units.length + queued.length + 2
  let s := s.record 0o16 (wideWords 2 n ++ [flag 17 whole])
  if whole then { s with trip := { s.trip with baseSeq := first } } else s

/-- A run begins (R499): RUN rises, block 0, and a base. -/
def startRun (s : State) (atStart : Bool) : State :=
  let t := s.trip
  let run := (t.run + 1) % 2 ^ 18
  let s := { s with trip := {
    state := .recording, arm := t.arm, run := run, runState := s.cus.startState.code, blockTime := s.sinceStart, lastTime := s.sinceStart,
    fillAt := s.now, capturedAt := s.now, checkDue := s.now + ms (s.tripWord 2),
    region := t.region, replayFrom := t.replayFrom, keptBad := t.keptBad, result := t.result, reason := t.reason, divGroups := t.divGroups,
    divCheck := t.divCheck, divTime := t.divTime, replayPos := t.replayPos } }
  (s.captureBase atStart).emitOwn 0o200001 0 0 run

/-! ## Freezing (R500) -/

/-- FROZEN with its cause. -/
def freezeNow (s : State) : State :=
  { s with trip := { s.trip with state := .frozen } }.emitOwn 0o200003 0 0 s.trip.cause

/-- A trigger while RECORDING: FREEZING until POST_BLOCKS blocks have been written, counted from the block in which the
trigger falls (DEDUCED, notes/assumptions/73). -/
def trigger (s : State) (cause event : Nat) : State :=
  if s.trip.state = TripState.recording then
    let s := s.record 0o21 [fld 17 15 cause, event]
    { s with trip := { s.trip with
      state := .freezing, cause := cause, freezeEvent := event, stopAt := s.trip.blockSeq + max 1 (s.tripWord 3) } }
  else s

/-- Memory quarantine and a reset stop recording at the last complete block (DEDUCED, notes/assumptions/73). -/
def halt (s : State) (cause : Nat) : State :=
  match s.trip.state with
  | .recording => { s with trip := { s.trip with cause := cause, cur := [], records := 0 } }.freezeNow
  | .freezing => { s with trip := { s.trip with cur := [], records := 0 } }.freezeNow
  | _ => s

/-- The cause with which an event triggers: its class, or its word (R500); events of the recorder itself never do. -/
def triggerCause (s : State) (e : Nat) : Option Nat :=
  if bits e 17 12 = 0o20 then none
  else if (bits (s.tripWord 4) 17 12).testBit (evClass e) then some 1
  else if e ≠ 0 && ((List.range 4).any (fun i => decide (s.tripWord (5 + i) = e))) then some 2
  else none

end State

end Sys2Proof.Machine
end

