-- ==== Sys2Proof/Machine/Message.lean ====
section
/-!
DEFINITION. Causeway messages as words (14_causeway R332 to R340, Table 14.2).
-/

namespace Sys2Proof.Machine

/-- Bytes carried as words: only the words that hold at least one of their bits (R336). -/
def wordsOfBytes (b : List Nat) : List Nat :=
  let n := (8 * b.length + 17) / 18
  wideWords n (ofBytes b <<< (18 * n - 8 * b.length))

/-- TYPE of a message (Table 14.2). -/
def Msg.type : Msg → Nat
  | .portConfig _ _ _ => 0o10
  | .portCmd _ _ _ => 0o11
  | .stateUpdate _ _ _ => 0o12
  | .stateQuery => 0o13
  | .cmdReply _ _ => 0o14
  | .stationUp _ _ => 0o20
  | .stationDown _ => 0o21
  | .legalParams _ _ => 0o30
  | .thCommand _ _ => 0o31
  | .thAck _ => 0o32
  | .windowWrite _ _ _ => 0o33
  | .logEntry _ _ => 0o34
  | .thReply _ _ => 0o35
  | .thHello _ _ => 0o36
  | .meterSection _ _ _ => 0o37

/-- The words of STATION_UP and STATION_DOWN. -/
def stationWords (port : Nat) (b : List Nat) : List Nat := (fld 17 14 port + fld 10 0 b.length) :: wordsOfBytes b

/-- The payload words p0 on of a message (Table 14.2, R364, R370, R401, R419, R420). -/
def Msg.payload : Msg → List Nat
  | .portConfig p g v => (fld 17 14 p + fld 4 0 g) :: v.map BitVec.toNat
  | .portCmd p cond action => [fld 17 14 p + flag 5 cond.isSome + fld 4 0 (cond.getD 0), fld 17 15 action]
  | .stateUpdate u ws _ => fld 17 12 u :: ws
  | .stateQuery => [fld 17 12 0o77]
  | .cmdReply p result => [fld 17 12 p + fld 11 6 result]
  | .stationUp p b => stationWords p b
  | .stationDown f => stationWords f.port f.bytes
  | .legalParams n ws | .thCommand n ws | .logEntry n ws | .thHello n ws => n :: ws.map BitVec.toNat
  | .thAck n => [n]
  | .windowWrite n offset ws => n :: fld 9 0 offset :: ws.map BitVec.toNat
  | .thReply n result => [n, fld 17 12 result]
  | .meterSection station p b => station :: (fld 17 14 p + fld 7 0 b.length) :: wordsOfBytes b

/-- LEN of a message. -/
def Msg.len (m : Msg) : Nat := m.payload.length

/-- Words of credit a message costs (R337). -/
def Msg.cost (m : Msg) : Nat := m.len + 2

/-- Header, payload and CRC of a message (R332). -/
def messageWords (type seq : Nat) (payload : List Nat) : List Nat :=
  let w := (fld 17 12 type + fld 11 9 seq + fld 8 0 payload.length) :: payload
  w ++ [(crc18 (w.map (BitVec.ofNat 18))).toNat]

/-- A message as it is sent with a SEQ. -/
def Msg.words (m : Msg) (seq : Nat) : List Nat := messageWords m.type seq m.payload

/-- A HEARTBEAT: RESET, SEEN, CAUSE, TH_LINK, and its sender's count (R340). -/
def heartbeatWords (reset seen : Bool) (cause : Nat) (thLink : Bool) (count : Nat) : List Nat :=
  messageWords 0o01 0 [flag 17 reset + flag 16 seen + fld 15 13 cause + flag 12 thLink, count]

end Sys2Proof.Machine
end

