-- ==== Sys2Proof/Machine/MemoryOps.lean ====
section
/-!
DEFINITION. Protected memory: the regions and trees that a MEMORY section lays out (13_protected_memory R309 to R315,
Tables 13.1 and 13.2), where a line lies, and how it is encrypted, tagged and counted (R311 to R316).
-/

namespace Sys2Proof.Machine

/-! ## What a MEMORY body lays out -/

/-- Word `i` of a body as a number. -/
def bodyNat (b : List Word) (i : Nat) : Nat := (wordAt b i).toNat

/-- The configured channels. -/
def memChannels (b : List Word) : List Nat := maskList 4 (bits (bodyNat b 0) 17 14)

/-- Size of the configured SDRAM in MiB (R308). -/
def memMib (b : List Word) : Nat := (memChannels b).length * bits (bodyNat b 0) 13 9 * 1024

/-- Size in MiB of a region of Table 13.1 but the open one. -/
def regionMib (b : List Word) (r : Nat) : Nat :=
  if memChannels b = [] then 0
  else if r = 16 then 2
  else if r = 17 then 64 * bits (bodyNat b 1) 17 11
  else if r < 16 then 64 * bits (bodyNat b (3 + 2 * r)) 17 7
  else 0

/-- ROOT_COUNT of a region; the journal has none. -/
def rootCount (b : List Word) (r : Nat) : Nat :=
  if r = 16 then bits (bodyNat b 2) 17 8 else if r < 16 then bits (bodyNat b (4 + 2 * r)) 17 8 else 0

/-- The tree regions in the order in which they are allotted (R314). -/
def treeOrder : List Nat := 16 :: List.range 16

/-- Lines at the levels from that of `n` lines on, up to the first that does not exceed `c` (R314): at most `fuel`
further levels, none when they do not suffice. -/
def levelsFrom (c : Nat) : Nat → Nat → Option (List Nat)
  | 0, _ => none
  | fuel + 1, n =>
    let m := (n + 23) / 24
    if m ≤ c then some [n, m] else (levelsFrom c fuel m).map (fun l => n :: l)

/-- n_0, …, n_D of a region; none when the tree would be deeper than 7 levels or the region has none. -/
def regionLevels (b : List Word) (r : Nat) : Option (List Nat) :=
  if regionMib b r = 0 ∨ r ≥ 17 then none else levelsFrom (rootCount b r) 7 (16384 * regionMib b r)

/-- D of a region (R314); 0 for one without a tree. -/
def regionDepth (b : List Word) (r : Nat) : Nat := ((regionLevels b r).getD []).length - 1

/-- Lines at a level of a region. -/
def levelLines (b : List Word) (r k : Nat) : Nat := (((regionLevels b r).getD [])[k]?).getD 0

/-- The first root entry of a region: ROOT_COUNT entries each, in region order 16, 0, 1, …, 15 (R314) (DEDUCED,
notes/assumptions/45). -/
def rootFirst (b : List Word) (r : Nat) : Nat :=
  ((treeOrder.takeWhile (fun q => decide (q ≠ r))).map (rootCount b)).sum

/-- ROOT_USED: the root entries allotted. -/
def rootUsed (b : List Word) : Nat := (treeOrder.map (rootCount b)).sum

/-- Bytes of the metadata of a region (R315). -/
def regionMeta (b : List Word) (r : Nat) : Nat :=
  match regionLevels b r with
  | some l =>
    let sdram := l.dropLast
    64 * (sdram.drop 1).sum + (sdram.map (fun n => 64 * ((n + 7) / 8))).sum
  | none => 0

def metaBytes (b : List Word) : Nat := (treeOrder.map (regionMeta b)).sum

/-- Size of all regions but the open one, in MiB. -/
def closedMib (b : List Word) : Nat := (((List.range 18)).map (regionMib b)).sum

/-- OPEN_MIB. -/
def openMib (b : List Word) : Nat := memMib b - closedMib b

/-- First byte of a region: Table 13.1 in rising device address (R309), regions 16, 17, 0 to 15, 18. -/
def regionBase (b : List Word) (r : Nat) : Nat :=
  2 ^ 20 * (((16 :: 17 :: (List.range 16 ++ [18])).takeWhile (fun q => decide (q ≠ r))).map (regionMib b)).sum

/-- The engine of a data line: device line A lies on the A mod n-th configured channel (R308) (DEDUCED,
notes/assumptions/45). -/
def lineEngine (b : List Word) (r line : Nat) : Nat :=
  let ch := memChannels b
  (ch[(regionBase b r / 64 + line) % ch.length]?).getD 0

/-- The channel of a device line address, and its channel line (R308) (DEDUCED, notes/assumptions/45). -/
def lineChannel (b : List Word) (a : Nat) : Nat × Nat :=
  let ch := memChannels b
  ((ch[a % ch.length]?).getD 0, a / ch.length)

/-- ctr_base(r, k) or tag_base(r, k), in bytes (R315). -/
def metaFrom (b : List Word) (r : Nat) : Nat :=
  regionBase b 18 + ((treeOrder.takeWhile (fun q => decide (q ≠ r))).map (regionMeta b)).sum
def ctrBase (b : List Word) (r k : Nat) : Nat :=
  metaFrom b r + 64 * ((List.range (k - 1)).map (fun j => levelLines b r (j + 1))).sum
def tagBase (b : List Word) (r k : Nat) : Nat :=
  ctrBase b r (regionDepth b r) + ((List.range k).map (fun j => 64 * ((levelLines b r j + 7) / 8))).sum

/-- Byte address of a line of a tree region, and of its tag (R315). -/
def lineByte (b : List Word) (r k i : Nat) : Nat := (if k = 0 then regionBase b r else ctrBase b r k) + 64 * i
def tagByte (b : List Word) (r k i : Nat) : Nat := tagBase b r k + 8 * i

/-! ## Lines under their counters (R311 to R313) -/

/-- The counter block (Table 13.3): major counter of the parent, minor counter of the line, its index, the block, its region and
its level. -/
def counterBlock (major minor index block r k : Nat) : Nat :=
  fld 127 64 major + fld 63 46 minor + fld 45 16 index + fld 15 13 block + fld 12 8 r + fld 7 5 k

/-- The 16-byte blocks of a line, the first its most significant. -/
def lineBlocks (data : Nat) : List Nat := (List.range 4).map (fun j => data >>> (128 * (3 - j)) % 2 ^ 128)

/-- A line XORed with the keystream of its counter block (R312): its ciphertext, and its plaintext again. -/
def lineText (key : Nat) (block : Nat → Nat) (data : Nat) : Nat :=
  let keys := aesKeys key
  (List.range 4).foldl (fun a j => a <<< 128 ||| aesWith keys (block j)) 0 ^^^ data

/-- The 64-bit tag of a line as SDRAM holds it (R312). -/
def lineTag (key : Nat) (block : Nat → Nat) (data : Nat) : Nat :=
  let keys := aesKeys key
  (aesWith keys (block 4) ^^^ ghash (aesWith keys 0) (lineBlocks data ++ [512])) >>> 64

/-- A counter line's 512 bits (Table 13.4). -/
def ctrData (epoch r k : Nat) (v : CtrLine) : Nat :=
  (((epoch <<< 40 ||| v.overflows) <<< 432 ||| (List.range 24).foldl (fun a m => a <<< 18 ||| tabGet 0 v.minors m) 0) <<< 16) |||
    (fld 15 13 k + fld 12 8 r)

/-- The counters that 512 bits hold: their EPOCH is the region's where the tag matches (DEDUCED, notes/assumptions/46). -/
def ctrOf (data : Nat) : CtrLine :=
  { overflows := bits data 487 448
    minors := (List.range 24).foldl (fun t m => tabPut 0 t m (data >>> (430 - 18 * m) % 2 ^ 18)) [] }

/-- A counter line read from SDRAM has the layout of its place (R313). -/
def ctrLayoutOk (r k data : Nat) : Bool := decide (bits data 15 13 = k ∧ bits data 12 8 = r ∧ bits data 7 0 = 0)

namespace State

/-- The MEMORY body in force. -/
def memBody (s : State) : List Word := ((s.inForce? 0o005 0).map Section.body).getD []

def region (s : State) (r : Nat) : Region := tabGet {} s.mem.regions r
def setRegion (s : State) (r : Nat) (v : Region) : State :=
  { s with mem := { s.mem with regions := tabPut {} s.mem.regions r v } }

/-! ## Counter lines -/

/-- Key of a counter line. -/
def lineKey (r k i : Nat) : Nat := (8 * r + k) * 2 ^ 36 + i

/-- Region of a counter line's key. -/
def keyRegion (key : Nat) : Nat := key / 2 ^ 39

def ctrLine (s : State) (key : Nat) : CtrLine := tabGet {} s.mem.lines key
def setCtrLine (s : State) (key : Nat) (v : CtrLine) : State :=
  { s with mem := { s.mem with lines := tabPut {} s.mem.lines key v } }

/-- Key of a tag line: the tags of eight lines of a level. -/
def tagKey (r k i : Nat) : Nat := 2 ^ 52 + lineKey r k (i / 8)

/-- The counters under which a line stands: the major of its parent, and its minor there (R313, R316). -/
def majorOver (s : State) (r k i : Nat) : Nat :=
  (s.region r).epoch <<< 40 ||| (s.ctrLine (lineKey r (k + 1) (i / 24))).overflows
def minorOver (s : State) (r k i : Nat) : Nat := tabGet 0 (s.ctrLine (lineKey r (k + 1) (i / 24))).minors (i % 24)

/-- The memory key of a line: a tenant's own for its data lines, the device's for all others (R312); none while its slot is not
VALID. -/
def lineSecret (s : State) (r k : Nat) : Option Nat :=
  (s.lookup (if r < 16 && k = 0 then slotMem r else slotDevMem)).map slotKey

/-- What SDRAM gives for a line under some counters: its plaintext, none when it fails its check (R312, R313, R322). -/
def lineOpen (s : State) (r k i major minor data tag : Nat) : Option Nat :=
  let block := fun j => counterBlock major minor i j r k
  match s.lineSecret r k with
  | some key =>
    if lineTag key block data ≠ tag then none
    else if k = 0 then some (lineText key block data)
    else if ctrLayoutOk r k data then some data
    else none
  | none => none

/-- A line is written to SDRAM under the counters over it, with its tag (R308, R312, R315). -/
def lineStore (s : State) (r k i plain : Nat) : State :=
  let block := fun j => counterBlock (s.majorOver r k i) (s.minorOver r k i) i j r k
  match s.lineSecret r k with
  | some key =>
    let data := if k = 0 then lineText key block plain else plain
    let b := s.memBody
    let (channel, line) := lineChannel b (lineByte b r k i / 64)
    s.send (.line channel line data (tagByte b r k i) (lineTag key block data))
  | none => s

/-- The 512 bits of a counter line as it stands. -/
def ctrPlain (s : State) (r k i : Nat) : Nat := ctrData (s.region r).epoch r k (s.ctrLine (lineKey r k i))

/-- A region becomes uninitialised at step 4 of Table 13.5: its counter lines, and what the cache, the L0 buffers and the
directory hold of it, are gone; the accesses held stand. -/
def clearRegion (s : State) (r : Nat) (epoch : Nat) : State :=
  let g := s.region r
  let s := s.setRegion r { g with epoch := epoch, resetting := false, broken := false }
  { s with mem := { s.mem with
    lines := s.mem.lines.filter (fun e => decide (keyRegion e.1 ≠ r))
    cached := s.mem.cached.filter (fun k => decide (keyRegion (k % 2 ^ 52) ≠ r))
    dirty := s.mem.dirty.filter (fun k => decide (keyRegion k ≠ r))
    walks := s.mem.walks.filter (fun k => decide (keyRegion k ≠ r))
    dir := tabMap {} s.mem.dir (fun k d => if keyRegion k = r then { waiting := d.waiting } else d) } }

/-- Step 10 of a start: every region is reset with its epoch 0 (R317). -/
def resetRegions (s : State) : State :=
  { s with mem := { s.mem with
    regions := tabMap {} s.mem.regions (fun _ g => { g with epoch := 0, resetting := false, broken := false })
    lines := [], cached := [], dirty := [], walks := [], dir := [], reencs := [], backlog := [], served := [] } }

/-- A line of a tree region is checked for a read (R565). -/
def memAccess (s : State) (r : Nat) : Bool :=
  decide (s.start.memState = MemState.ready) && !s.mem.quarantined && !(s.region r).resetting

end State

end Sys2Proof.Machine
end

