-- ==== Sys2Proof/Machine/Bch.lean ====
section
/-!
DEFINITION. Binary BCH codes: that of the PUF's helper data (06_keys R132, R133) and that of the direct trunk (08_lanes R186). A word
is a number whose bit `i` is the coefficient of `x ^ i`; the first bit of a codeword is its highest coefficient.
-/

namespace Sys2Proof.Machine

/-- A BCH code over GF(2^m): the polynomial whose root α is, the length of a codeword and the errors it corrects. -/
structure Bch where
  m : Nat
  poly : Nat
  length : Nat
  corrects : Nat

namespace Bch

/-- The code of a PUF block (R132). The spec names the code (255, 71) and not its polynomial: x^8 + x^4 + x^3 + x^2 + 1 is the
usual one (PRESUMED, notes/assumptions/81). -/
def puf : Bch := { m := 8, poly := 0x11D, length := 255, corrects := 29 }

/-- The code of a direct trunk codeword: α is a root of x^14 + x^10 + x^6 + x + 1 (R186). -/
def trunk : Bch := { m := 14, poly := 0x4443, length := 15750, corrects := 4 }

/-! ## The field -/

/-- α times an element. -/
def byAlpha (c : Bch) (a : Nat) : Nat := if (2 * a).testBit c.m then 2 * a ^^^ c.poly else 2 * a

/-- Product, over the lowest `n` bits of `b`. -/
def mulFrom (c : Bch) : Nat → Nat → Nat → Nat
  | 0, _, _ => 0
  | n + 1, a, b => (if b % 2 = 1 then a else 0) ^^^ mulFrom c n (c.byAlpha a) (b / 2)

def mul (c : Bch) (a b : Nat) : Nat := c.mulFrom c.m a b

/-- A power, over the lowest `n` bits of the exponent. -/
def powFrom (c : Bch) : Nat → Nat → Nat → Nat
  | 0, _, _ => 1
  | n + 1, a, e => c.mul (if e % 2 = 1 then a else 1) (powFrom c n (c.mul a a) (e / 2))

def order (c : Bch) : Nat := 2 ^ c.m - 1
/-- α to a power. -/
def alpha (c : Bch) (e : Nat) : Nat := c.powFrom c.m 2 (e % c.order)
def inv (c : Bch) (a : Nat) : Nat := c.powFrom c.m a (c.order - 1)

/-- The value of a polynomial with coefficients in the field, the lowest first. -/
def valueAt (c : Bch) (p : List Nat) (x : Nat) : Nat := p.foldr (fun k a => k ^^^ c.mul x a) 0

/-- The value of a binary polynomial, over its lowest `n` bits. -/
def binaryAt (c : Bch) (w x : Nat) : Nat → Nat
  | 0 => 0
  | n + 1 => (if w % 2 = 1 then 1 else 0) ^^^ c.mul x (binaryAt c (w / 2) x n)

/-! ## The code -/

/-- The exponents of the generator's roots: those of α, α³, α⁵ … and of their conjugates. -/
def roots (c : Bch) : List Nat :=
  ((List.range c.corrects).flatMap (fun i => (List.range c.m).map (fun k => (2 * i + 1) * 2 ^ k % c.order))).eraseDups

/-- A polynomial with coefficients in the field, the lowest first, times `x + r`. -/
def timesRoot (c : Bch) (p : List Nat) (r : Nat) : List Nat :=
  List.zipWith (· ^^^ ·) (0 :: p) (p.map (c.mul r) ++ [0])

/-- The generator polynomial. -/
def generator (c : Bch) : Nat :=
  let p := c.roots.foldl (fun p e => c.timesRoot p (c.alpha e)) [1]
  p.foldr (fun k a => 2 * a + k % 2) 0

/-- Parity bits of a codeword. -/
def parity (c : Bch) : Nat := c.roots.length

/-- The remainder of a word's highest `n` bits after division by a generator of degree `k`; `r` is the remainder so far. -/
def rem (g k w : Nat) : Nat → Nat → Nat
  | 0, r => r
  | n + 1, r =>
    let s := 2 * r + (w >>> n) % 2
    rem g k w n (if s.testBit k then s ^^^ g else s)

/-- The codeword of a message: the message, then its parity. -/
def encode (c : Bch) (message : Nat) : Nat :=
  let w := message <<< c.parity
  w ^^^ rem c.generator c.parity w c.length 0

/-- What the search for an error locator holds (Berlekamp and Massey): the locator, the one before its last growth, its degree,
the discrepancy then, and how long ago it was. -/
structure Search where
  loc : List Nat := [1]
  old : List Nat := [1]
  deg : Nat := 0
  gap : Nat := 1
  disc : Nat := 1

/-- The sum of two polynomials. -/
def addPoly : List Nat → List Nat → List Nat
  | [], q => q
  | p, [] => p
  | a :: p, b :: q => (a ^^^ b) :: addPoly p q

/-- The search goes on to syndrome `n` (0 the first). -/
def searchStep (c : Bch) (syn : List Nat) (v : Search) (n : Nat) : Search :=
  let d := (List.range (v.deg + 1)).foldl (fun a i =>
    if i ≤ n then a ^^^ c.mul ((v.loc[i]?).getD 0) ((syn[n - i]?).getD 0) else a) 0
  if d = 0 then { v with gap := v.gap + 1 }
  else
    let k := c.mul d (c.inv v.disc)
    let loc := addPoly v.loc (List.replicate v.gap 0 ++ v.old.map (c.mul k))
    if 2 * v.deg ≤ n then { loc := loc, old := v.loc, deg := n + 1 - v.deg, gap := 1, disc := d }
    else { v with loc := loc, gap := v.gap + 1 }

/-- The bits of a received word that are in error; none when it is further from every codeword than the code corrects. -/
def errors (c : Bch) (w : Nat) : Option (List Nat) :=
  let r := rem c.generator c.parity w c.length 0
  if r = 0 then some []
  else
    let syn := (List.range (2 * c.corrects)).map (fun j => c.binaryAt r (c.alpha (j + 1)) c.parity)
    let v := (List.range (2 * c.corrects)).foldl (c.searchStep syn) {}
    let bad := (List.range c.length).filter (fun i => c.valueAt v.loc (c.alpha (c.order - i)) = 0)
    if v.deg ≤ c.corrects ∧ bad.length = v.deg then some bad else none

/-- The codeword that a received word stands for, and how many of its bits were in error. -/
def correct (c : Bch) (w : Nat) : Option (Nat × Nat) :=
  (c.errors w).bind (fun bad =>
    let v := bad.foldl (fun w i => w ^^^ 2 ^ i) w
    if rem c.generator c.parity v c.length 0 = 0 then some (v, bad.length) else none)

/-- The message of a codeword. -/
def message (c : Bch) (w : Nat) : Nat := w >>> c.parity

end Bch

end Sys2Proof.Machine
end

