-- ==== Sys2Proof/Machine/Line.lean ====
section
/-!
DEFINITION. The line of a direct trunk (08_lanes R186 to R188, Tables 8.2 and 8.3): codewords, scrambler, and the frames and idle
units that follow one another in their information fields.
-/

namespace Sys2Proof.Machine

/-- Bits of header and information, information bytes and parity bits of a codeword (Table 8.2). -/
def lineBits : Nat := 15694
def lineBytes : Nat := 1960

/-- The levels of PAM4 symbols from their Gray-coded bits, and the bits from the levels: within each pair the second bit is XORed
with the first (R186) (PRESUMED, notes/assumptions/83). -/
def pam4 (w : Nat) : Nat := w ^^^ (w >>> 1 &&& (2 ^ 15750 - 1) / 3)

/-- `n` bits pass through the descrambler after the last 58 of what came before (R186). -/
def descramble (history n w : Nat) : Nat :=
  let all := history <<< n ||| w
  (all ^^^ all >>> 39 ^^^ all >>> 58) % 2 ^ n

/-- Bits pass through the scrambler, 39 at a time from the first: the scrambled bits so far go on from the last 58 of them. -/
def scrambleFrom (w : Nat) : Nat → Nat → Nat → Nat
  | 0, _, out => out
  | fuel + 1, left, out =>
    let m := min 39 left
    let d := w >>> (left - m) % 2 ^ m
    scrambleFrom w fuel (left - m) (out <<< m ||| (d ^^^ out >>> (39 - m) % 2 ^ m ^^^ out >>> (58 - m) % 2 ^ m))

/-- `n` bits scrambled after the last 58 scrambled bits. -/
def scramble (history n w : Nat) : Nat := scrambleFrom w (n / 39 + 1) n history % 2 ^ n

/-! ## Units in the information field (R187) -/

/-- An idle unit. -/
def idleUnit : List Nat := List.replicate 12 0 ++ [0x80, 0x10, 0, 0]

def byteAt (b : List Nat) (i : Nat) : Nat := (b[i]?).getD 0
/-- Two bytes from a place, as a number. -/
def pairAt (b : List Nat) (i : Nat) : Nat := 256 * byteAt b i + byteAt b (i + 1)
/-- The bytes with two of them replaced. -/
def withPair (b : List Nat) (i v : Nat) : List Nat := (b.set i (v / 256)).set (i + 1) (v % 256)

/-- A length word is valid for its kind (Table 8.3). -/
def lengthWordOk (w : Nat) : Bool :=
  let len := w % 2 ^ 14
  match w / 2 ^ 14 with
  | 0 => decide (96 ≤ len ∧ len ≤ 9248)
  | 1 => decide (64 ≤ len ∧ len ≤ 9248)
  | 2 => decide (len = 16)
  | _ => false

/-- The unit that stands for a frame: its length word in the place of its EtherType. -/
def unitOf (frame : List Nat) : List Nat :=
  withPair frame 12 ((if pairAt frame 12 = 0x88B5 then 2 ^ 14 else 0) + frame.length)

/-- The frame that a unit stands for, its EtherType put back; none for an idle unit. -/
def frameOf (unit : List Nat) : Option (List Nat) :=
  match pairAt unit 12 / 2 ^ 14 with
  | 0 => some (withPair unit 12 0x88E5)
  | 1 => some (withPair unit 12 0x88B5)
  | _ => none

/-- The whole units at the front of some bytes, with what is left of them and whether every length word is valid. -/
def unitsOf : Nat → List Nat → List (List Nat) × List Nat × Bool
  | 0, b => ([], b, true)
  | fuel + 1, b =>
    if b.length < 14 then ([], b, true)
    else
      let w := pairAt b 12
      if !lengthWordOk w then ([], [], false)
      else if b.length < w % 2 ^ 14 then ([], b, true)
      else
        let r := unitsOf fuel (b.drop (w % 2 ^ 14))
        (b.take (w % 2 ^ 14) :: r.1, r.2)

/-- The length word of the unit in progress is known and valid. -/
def unitKnown (b : List Nat) : Bool := decide (14 ≤ b.length) && lengthWordOk (pairAt b 12)

/-! ## Receiving (R188) -/

/-- What a codeword gives: the receiver after it, the frames that it completes, whether it was corrected or failed to decode, and
whether a delineation error was met. -/
structure LineResult where
  rx : LineRx
  frames : List (List Nat) := []
  corrected : Bool := false
  failed : Bool := false
  misplaced : Bool := false

/-- How many of the last 64 codewords failed to decode. -/
def failures (v : LineRx) : Nat := countBelow 64 (fun i => v.failed.testBit i)

/-- The header and information bits of a codeword in lock. -/
def LineRx.take (v : LineRx) (plain : Nat) : LineResult :=
  let pointer := plain >>> (lineBits - 11)
  let info := beBytes lineBytes (plain % 2 ^ (8 * lineBytes))
  let v := { v with rf := plain.testBit (lineBits - 12) }
  let b :=
    if v.sync || !v.buf.isEmpty then some (v.buf ++ info)
    else if pointer = 2047 then none
    else some (info.drop pointer)
  match b with
  | none => { rx := v }
  | some b =>
    let (units, rest, ok) := unitsOf (b.length + 1) b
    { rx := { v with sync := ok && (v.sync || !units.isEmpty || unitKnown rest), buf := rest }
      frames := units.filterMap frameOf, misplaced := !ok }

/-- A codeword arrives, as its PAM4 levels. One that fails to decode is taken as it was received (DESIGN CHOICE,
notes/assumptions/83). -/
def LineRx.codeword (v : LineRx) (levels : Nat) : LineResult :=
  let w := pam4 levels
  let r := Bch.trunk.correct w
  let bits := Bch.trunk.message ((r.map Prod.fst).getD w)
  let plain := descramble v.history lineBits bits
  let v := { v with
    history := bits % 2 ^ 58, failed := (2 * v.failed + flag 0 r.isNone) % 2 ^ 64,
    good := if r.isSome then min 4 (v.good + 1) else 0 }
  let v :=
    if v.lock && decide (8 ≤ failures v) then { v with lock := false, sync := false, buf := [], good := 0 }
    else if !v.lock && decide (v.good = 4) then { v with lock := true, failed := 0 }
    else v
  let out := if v.lock then v.take plain else { rx := v }
  { out with corrected := decide (0 < (r.map Prod.snd).getD 0), failed := r.isNone }

/-! ## Sending -/

/-- A unit follows what is to be sent. -/
def LineTx.put (v : LineTx) (unit : List Nat) : LineTx :=
  { v with buf := v.buf ++ unit, starts := v.starts ++ [v.buf.length] }

/-- The codewords that are full, as PAM4 levels, with the RF bit. -/
def LineTx.full (rf : Bool) : Nat → LineTx → List Nat × LineTx
  | 0, v => ([], v)
  | fuel + 1, v =>
    if v.buf.length < lineBytes then ([], v)
    else
      let pointer := (v.starts.find? (fun i => decide (i < lineBytes))).getD 2047
      let plain := (pointer <<< 3 ||| flag 2 rf) <<< (8 * lineBytes) ||| ofBytes (v.buf.take lineBytes)
      let bits := scramble v.history lineBits plain
      let rest := LineTx.full rf fuel
        { history := bits % 2 ^ 58, buf := v.buf.drop lineBytes
          starts := (v.starts.filter (fun i => decide (lineBytes ≤ i))).map (fun i => i - lineBytes) }
      (pam4 (Bch.trunk.encode bits) :: rest.1, rest.2)

end Sys2Proof.Machine
end

