-- ==== Sys2Proof/Machine/Frames.lean ====
section
/-!
DEFINITION. Ethernet frames as bytes: the FCS, the headers that the classifier reads (09_tenants R208 to R212), and the MAC
control frames of a client lane (08_lanes R197, R198).
-/

namespace Sys2Proof.Machine

/-- Eight steps of the CRC-32 register, reflected as IEEE 802.3 has it (PRESUMED, notes/assumptions/80). -/
def crcByte : Nat → Nat → Nat
  | 0, c => c
  | n + 1, c => crcByte n (if c.testBit 0 then c >>> 1 ^^^ 0xEDB88320 else c >>> 1)

/-- CRC-32 of bytes. -/
def crc32 (b : List Nat) : Nat := b.foldl (fun c x => crcByte 8 (c ^^^ x)) 0xFFFFFFFF ^^^ 0xFFFFFFFF

/-- The four bytes of an FCS, the least significant byte of the CRC first. -/
def fcsBytes (b : List Nat) : List Nat := (beBytes 4 (crc32 b)).reverse

/-- Bytes with their FCS. -/
def withFcs (b : List Nat) : List Nat := b ++ fcsBytes b

/-- A frame without its FCS. -/
def frameData (f : List Nat) : List Nat := f.take (f.length - 4)

/-- The FCS of a frame is good. -/
def fcsGood (f : List Nat) : Bool := decide (4 ≤ f.length) && decide (withFcs (frameData f) = f)

/-- Bytes filled with 0x00 to a length. -/
def padTo (n : Nat) (b : List Nat) : List Nat := b ++ List.replicate (n - b.length) 0

def frameDa (f : List Nat) : Nat := ofBytes (f.take 6)
def frameSa (f : List Nat) : Nat := ofBytes ((f.drop 6).take 6)

/-- An EtherType that opens a VLAN tag (DEDUCED, notes/assumptions/84). -/
def isTag (e : Nat) : Bool := e = 0x8100 || e = 0x88A8

/-- TCI of the outer tag: none of an untagged frame. -/
def outerTag (f : List Nat) : Option Nat := if isTag (pairAt f 12) then some (pairAt f 14) else none

/-- VLAN ID of the outer tag, and PCP; an untagged frame counts as VLAN 0 and PCP 0 (R210). -/
def frameVlan (f : List Nat) : Nat := ((outerTag f).getD 0) % 2 ^ 12
def framePcp (f : List Nat) : Nat := ((outerTag f).getD 0) / 2 ^ 13

/-- Offset of the EtherType after the tags. -/
def typeOffset (f : List Nat) : Nat → Nat → Nat
  | 0, i => i
  | n + 1, i => if isTag (pairAt f i) then typeOffset f n (i + 4) else i

/-- EtherType after the tags (Table 9.3). -/
def frameType (f : List Nat) : Nat := pairAt f (typeOffset f (f.length / 4) 12)

/-- Bytes of an operand. -/
def bytesOf (b : List Byte) : List Nat := b.map BitVec.toNat

/-- A PAUSE (`prios` 256) or PFC frame of IEEE 802.3 Annex 31 with one quanta for every priority named. -/
def controlFrame (mac prios quanta : Nat) : List Nat :=
  let body :=
    if prios = 256 then beBytes 2 0x0001 ++ beBytes 2 quanta
    else beBytes 2 0x0101 ++ beBytes 2 prios ++
      (List.range 8).flatMap (fun p => beBytes 2 (if prios.testBit p then quanta else 0))
  withFcs (padTo 60 (beBytes 6 0x0180C2000001 ++ beBytes 6 mac ++ beBytes 2 0x8808 ++ body))

end Sys2Proof.Machine
end

