-- ==== Sys2Proof/Machine/LaneOps.lean ====
section
/-!
DEFINITION. What a lane is configured as (08_lanes Table 8.9), its rate and charges (10_turnpike Table 10.1), and the
flow control it sends.
-/

namespace Sys2Proof.Machine

/-- Lanes a MODE takes (Table 8.1). -/
def modeWidth (mode : Nat) : Nat := if mode = 4 then 2 else if mode = 5 then 4 else 1

/-- R_n of a MODE, in Mbit/s (Table 10.1). -/
def modeRate (mode : Nat) : Nat :=
  if mode = 1 then 10000 else if mode = 2 then 25000 else if mode = 3 then 50000 else if mode = 4 then 100000
  else if mode = 5 then 200000 else if mode = 6 then 56000 else 0

/-- What is received for a priority (8: the whole lane) holds it for some cycles from now, or with none releases it (R197). -/
def Lane.heldFor (v : Lane) (p now cycles : Nat) : Lane :=
  let on := decide (cycles ≠ 0)
  let was := if p = 8 then v.pauseRx else v.pfcRx.testBit p
  let pauseRx := if p = 8 then on else v.pauseRx
  let pfcRx := if p = 8 then v.pfcRx else maskOf 8 (fun k => if k = p then on else v.pfcRx.testBit k)
  { v with
    pauseRx := pauseRx, pfcRx := pfcRx, holdReported := v.holdReported && (pauseRx || decide (pfcRx ≠ 0))
    heldSince := if on then (if was then v.heldSince else tabPut 0 v.heldSince p (now + 1)) else tabPut 0 v.heldSince p 0
    heldUntil := tabPut 0 v.heldUntil p (if on then now + cycles else 0) }

namespace State

def lane (s : State) (n : Nat) : Lane := tabGet {} s.lanes n
def setLane (s : State) (n : Nat) (v : Lane) : State := { s with lanes := tabPut {} s.lanes n v }

/-- A MAC control frame that the lane does not act on (R197, R199). -/
def ctlDrop (s : State) (n : Nat) : State :=
  s.setLane n { s.lane n with ctlDropped := satInc 18 (s.lane n).ctlDropped }

def laneWord (s : State) (n i : Nat) : Nat := s.cfg 0o004 n i
def laneRole (s : State) (n : Nat) : Nat := bits (s.laneWord n 0) 17 16
def laneMode (s : State) (n : Nat) : Nat := bits (s.laneWord n 0) 15 13
def laneTrain (s : State) (n : Nat) : Bool := (s.laneWord n 0).testBit 10
def lanePauseEn (s : State) (n : Nat) : Bool := (s.laneWord n 0).testBit 9
def lanePfcEn (s : State) (n : Nat) : Bool := (s.laneWord n 0).testBit 8
/-- LINK_HOLD in ms. -/
def laneHold (s : State) (n : Nat) : Nat := bits (s.laneWord n 1) 17 8
def laneFlapMax (s : State) (n : Nat) : Nat := bits (s.laneWord n 2) 17 12
def laneDampS (s : State) (n : Nat) : Nat := bits (s.laneWord n 2) 11 0
def laneMaxFrame (s : State) (n : Nat) : Nat := bits (s.laneWord n 3) 13 0
def lanePfcPrio (s : State) (n : Nat) : Nat := bits (s.laneWord n 4) 17 10
def laneMac (s : State) (n : Nat) : Nat :=
  (s.laneWord n 5 * 2 ^ 36 + s.laneWord n 6 * 2 ^ 18 + s.laneWord n 7) % 2 ^ 48
def laneErrDown (s : State) (n : Nat) : Nat := s.laneWord n 8
def lanePeer (s : State) (n : Nat) : Option Nat :=
  if (s.laneWord n 9).testBit 17 then some (bits (s.laneWord n 9) 15 0) else none

def laneIsTrunk (s : State) (n : Nat) : Bool := decide (s.laneRole n = 2)
def laneIsClient (s : State) (n : Nat) : Bool := decide (s.laneRole n = 1)

/-- The lowest lane of the group that holds lane `n`, where a LANE section covers it (R184). -/
def laneLead (s : State) (n : Nat) : Option Nat :=
  firstBelow 16 (fun m => s.hasSection 0o004 m && decide (m ≤ n ∧ n < m + modeWidth (s.laneMode m)))

/-- A lane refuses frames as DOWN does: DOWN, DAMPED, a TRAINING not entered from a running LINK_HOLD, or off (Table 8.4,
R566). -/
def laneRefuses (s : State) (n : Nat) : Bool :=
  match (s.lane n).state with
  | .up | .hold => false
  | .training => (s.lane n).holdUntil.isNone
  | _ => true

def laneUpNow (s : State) (n : Nat) : Bool := decide ((s.lane n).state = LaneState.up)

/-- Length a frame has on a lane: 32 bytes more on a trunk (R23). -/
def laneLen (s : State) (n len : Nat) : Nat := if s.laneIsTrunk n then len + 32 else len

/-- Bytes charged for a frame on a lane (Table 10.1). -/
def charged (s : State) (n len : Nat) : Nat :=
  if s.laneMode n = 6 then len + 32 else if s.laneIsTrunk n then len + 52 else len + 20

def laneRate (s : State) (n : Nat) : Nat := modeRate (s.laneMode n)

/-- The lane sends remote fault: it is configured and not UP (R191). -/
def sendsFault (s : State) (n : Nat) : Bool := s.hasSection 0o004 n && !s.laneUpNow n

/-- What is to be sent on a direct trunk leaves as its codewords fill, with RF set while the lane is not UP (R186, R190). -/
def lineOut (s : State) (n : Nat) (v : LineTx) : State :=
  let out := v.full (s.sendsFault n) (v.buf.length / lineBytes + 1)
  out.1.foldl (fun s w => s.send (.codeword n w)) (s.setLane n { s.lane n with lineTx := out.2 })

/-- Idle units fill the codeword that is being sent. -/
def lineIdle (s : State) (n : Nat) : State :=
  let v := (s.lane n).lineTx
  s.lineOut n ((List.range ((lineBytes - v.buf.length + 15) / 16)).foldl (fun v _ => v.put idleUnit) v)

/-- A lane begins or ends to send remote fault (R191): on a direct trunk the codeword being sent shows it. -/
def lineFault (s : State) (n : Nat) : State :=
  if s.laneMode n = 6 then s.lineIdle n else s.send (.remoteFault n (s.sendsFault n))

/-- A frame starts on a lane. On a direct trunk it follows the idle units that time has called for since the last: how many is a
free value (DESIGN CHOICE, notes/assumptions/83). -/
def startFrame (s : State) (n : Nat) (bytes : List Nat) : State :=
  let s := s.send (.frame n bytes)
  if s.laneMode n = 6 then
    let v := (List.range (Config.freeNat s.free)).foldl (fun v _ => v.put idleUnit) (s.lane n).lineTx
    { s with free := s.free + 1 }.setLane n { s.lane n with lineTx := v.put (unitOf bytes) }
  else s

/-- The last byte of a frame leaves: the codewords that it fills are sent. -/
def frameLeaves (s : State) (n : Nat) : State := if s.laneMode n = 6 then s.lineOut n (s.lane n).lineTx else s

/-- A direct trunk stops a frame where it stands (R196): how much of what waits to fill codewords has left is a free value
(DESIGN CHOICE, notes/assumptions/83). -/
def lineCut (s : State) (n : Nat) : State :=
  if s.laneMode n = 6 then
    let v := (s.lane n).lineTx
    let k := Config.freeNat s.free % (v.buf.length + 1)
    { s with free := s.free + 1 }.setLane n { s.lane n with
      lineTx := { v with buf := v.buf.take k, starts := v.starts.filter (fun i => decide (i < k)) } }
  else s

/-- A lane enters a state: GEN rises by 1, modulo 32, at each change of STATE (R205). -/
def laneEnter (s : State) (n : Nat) (st : LaneState) (v : Lane) : State :=
  s.setLane n { v with
    state := st, gen := if v.state = st then v.gen else (v.gen + 1) % 32
    clockEnd := if (s.lane n).clock && !clockIn st v.cdr then s.now else v.clockEnd }

/-- PCP_TC: traffic class of a PCP for a tenant (Table 9.1). -/
def pcpTc (s : State) (t p : Nat) : Nat :=
  if p ≥ 4 then bits (s.cfg 0o013 t 28) (17 - 3 * (7 - p)) (15 - 3 * (7 - p))
  else bits (s.cfg 0o013 t 29) (17 - 3 * (3 - p)) (15 - 3 * (3 - p))

/-- A delay request stands for a tenant and class: Turnpike's own, or a D-section drain's for every class (R243, R248). -/
def delayStands (s : State) (t c : Nat) : Bool :=
  s.tp.delay.contains (8 * t + c) || (tabGet none s.tp.drains t).isSome

/-- Some delay request asks client lane `n` to delay its sender. -/
def laneAsked (s : State) (n : Nat) (p : Option Nat) : Bool :=
  (List.range 16).any (fun t => s.configured t && (s.clientLanes t).testBit n &&
    (List.range 8).any (fun c => s.delayStands t c && (match p with
      | some p => decide (s.pcpTc t p = c)
      | none => true)))

/-- CK_CORE cycles of `q` quanta of 512 bit times at the lane's MAC data rate (R197). -/
def quantaCycles (s : State) (n q : Nat) : Nat := q * 512 * 1250 / s.laneRate n

/-- A PAUSE (`prios` 256) or PFC frame leaves on a lane that is UP (R191, R198); while replaying, lanes carry nothing. -/
def sendFlow (s : State) (n prios quanta : Nat) : State :=
  if s.laneUpNow n && !s.replayMode then
    let v := s.lane n
    let hit := if prios = 256 then [8] else maskList 8 prios
    let s := s.setLane n { v with
      sentAt := hit.foldl (fun l p => tabPut 0 l p (if quanta = 0 then 0 else s.now + 1)) v.sentAt }
    ((s.send (.frame n (controlFrame (s.laneMac n) prios quanta))).frameOut n 64).occur n 0o007
  else s

/-- A client lane sends PAUSE or PFC as the standing requests have it, with quanta 65,535 for what it begins to hold and 0
for what it releases (R198, R213). -/
def laneFlow (s : State) (n : Nat) : State :=
  let v := s.lane n
  if s.lanePauseEn n then
    let on := s.laneAsked n none
    if on = v.pauseTx then s
    else (s.setLane n { v with pauseTx := on }).sendFlow n 256 (if on then 65535 else 0)
  else if s.lanePfcEn n then
    let m := maskOf 8 (fun p => s.laneAsked n (some p))
    if m = v.pfcTx then s
    else
      let s := s.setLane n { v with pfcTx := m }
      let begun := maskOf 8 (fun p => m.testBit p && !v.pfcTx.testBit p)
      let ended := maskOf 8 (fun p => !m.testBit p && v.pfcTx.testBit p)
      let s := if begun ≠ 0 then s.sendFlow n begun 65535 else s
      if ended ≠ 0 then s.sendFlow n ended 0 else s
  else s

/-- A lane that holds its sender sends its PAUSE or PFC (R198). -/
def sendHolds (s : State) (n : Nat) : State :=
  if (s.lane n).pauseTx then s.sendFlow n 256 65535
  else if (s.lane n).pfcTx ≠ 0 then s.sendFlow n (s.lane n).pfcTx 65535
  else s

/-- A PAUSE is received (R197, R199): a lane with PAUSE_EN acts on it, any other drops it. -/
def pauseReceived (s : State) (n quanta : Nat) : State :=
  if s.laneIsClient n && s.lanePauseEn n then
    let s := (s.occur n 0o006).note (.rcd 5 0o05 [fld 17 14 n, quanta, 0])
    s.setLane n ((s.lane n).heldFor 8 s.now (s.quantaCycles n quanta))
  else s.ctlDrop n

/-- A PFC is received (R197): acted on for the enabled priorities in PFC_PRIO, each for its own quanta; one that enables none of
them is dropped. The journal has a record for each value of the quanta (DEDUCED, notes/assumptions/32). -/
def pfcReceived (s : State) (n enable : Nat) (quanta : Nat → Nat) : State :=
  let l := (maskList 8 (s.lanePfcPrio n)).filter (fun p => enable.testBit p)
  if s.laneIsClient n && s.lanePfcEn n && !l.isEmpty then
    let s := s.occur n 0o006
    let s := ((l.map quanta).eraseDups).foldl (fun s q => s.note
      (.rcd 5 0o05 [fld 17 14 n + flag 13 true + fld 12 5 (maskOf 8 (fun p => l.contains p && decide (quanta p = q))), q, 0])) s
    s.setLane n (l.foldl (fun v p => v.heldFor p s.now (s.quantaCycles n (quanta p))) (s.lane n))
  else s.ctlDrop n

/-- A MAC control frame on a client lane is acted on or dropped, and never classified (R197). -/
def macControl (s : State) (n : Nat) (f : List Nat) : State :=
  if pairAt f 14 = 0x0001 then s.pauseReceived n (pairAt f 16)
  else if pairAt f 14 = 0x0101 then s.pfcReceived n (pairAt f 16 % 256) (fun p => pairAt f (18 + 2 * p))
  else s.ctlDrop n

/-- Flow control of every client lane after a change of the requests. -/
def flowAll (s : State) : State :=
  (List.range 16).foldl (fun s n => if s.laneIsClient n then s.laneFlow n else s) s

end State

end Sys2Proof.Machine
end

