-- ==== Sys2Proof/Machine/SpFrames.lean ====
section
/-!
DEFINITION. Signpost frames as bytes (17_operator_access R429, R431, R432, R435), a session and its end (R434, R436), and the
notification frames of a tenant (09_tenants R224, R226).
-/

namespace Sys2Proof.Machine

/-- Bytes of a frame without a session on the M-port with `n` body words (Table 17.1). -/
def plainFrame (n : Nat) : Nat := max 64 (27 + 9 * ((n + 3) / 4))

/-- Bytes of a session frame with `n` body words: on a tenant's lane, with its tag, or on the M-port (Table 17.1). -/
def sessionFrame (tenant : Bool) (n : Nat) : Nat := max 64 ((if tenant then 47 else 43) + 9 * ((n + 3) / 4))

/-- Words of a header (Table 17.2). -/
def spHeader (kind : Nat) (tenant : Bool) (session groups seq : Nat) : List Nat :=
  [fld 17 12 1 + fld 11 6 kind + flag 5 tenant + fld 4 0 session, fld 17 8 groups, wideWord 2 seq 0, wideWord 2 seq 1]

/-- The IV of a session frame: the direction, 0x01 toward the device and 0x02 from it, six bytes 0x00 and SEQ (R435). -/
def spIv (dir seq : Nat) : Nat := dir <<< 88 ||| seq % 2 ^ 40

/-- Header, sealed body and TAG of a session frame (R435). -/
def spSeal (key dir kind : Nat) (tenant : Bool) (session seq : Nat) (body : List Nat) : List Nat :=
  let h := packNats (spHeader kind tenant session ((body.length + 3) / 4) seq)
  let c := gcmText key (spIv dir seq) (packNats body)
  h ++ c ++ beBytes 16 (gcmTag key (spIv dir seq) h c)

/-- Header, body and TAG of an OPEN or OPEN_REPLY (R432). -/
def spSign (key kind : Nat) (tenant : Bool) (session : Nat) (body : List Nat) : List Nat :=
  let m := packNats (spHeader kind tenant session ((body.length + 3) / 4) 0 ++ body)
  m ++ beBytes 16 (hmac384 (beBytes 32 key) m / 2 ^ 256)

/-- A frame around a Signpost message: addresses, the tag of a tenant's MGMT_VLAN, EtherType, padding and FCS (Table 17.1). -/
def spFrame (da sa : Nat) (vlan : Option Nat) (etype : Nat) (m : List Nat) : List Nat :=
  let tag := match vlan with
    | some v => beBytes 2 0x8100 ++ beBytes 2 v
    | none => []
  withFcs (padTo 60 (beBytes 6 da ++ beBytes 6 sa ++ tag ++ beBytes 2 etype ++ m))

/-- A record of a tenant's ring as its 8 words (Table 9.6). -/
def TenRec.words (r : TenRec) : List Nat :=
  [r.event, fld 17 15 r.kind + fld 13 0 r.number, r.seq, r.arg] ++ (List.range 3).map (wideWord 3 r.time) ++ [0]

namespace State

/-! ## The paths (R428, R429) -/

/-- Step 8 of the start has ended. -/
def configuredYet (s : State) : Bool := decide (8 ≤ s.start.phase)

/-- The start has stopped without an image that runs, or the device has stopped running it (R78, R79). -/
def stopped (s : State) : Bool :=
  decide (s.start.outcome = StartOutcome.stranded) || decide (s.start.outcome = StartOutcome.transitionHalt) ||
    decide (s.start.outcome = StartOutcome.held)

/-- An image runs. -/
def imageRuns (s : State) : Bool := s.image.running.isSome && s.configuredYet && !s.stopped

/-- M-port MAC and EtherType in use (R429). -/
def mportMac (s : State) : Nat :=
  if s.imageRuns then (s.cfg 0o001 0 3 * 2 ^ 36 + s.cfg 0o001 0 4 * 2 ^ 18 + s.cfg 0o001 0 5) else 0x024B52000000
def mportEtype (s : State) : Nat := if s.imageRuns then bits (s.cfg 0o001 0 2) 15 0 else 0x88B6

/-- MGMT_VLAN, NOTIFY_LANE and NOTIFY_MAC of a tenant (Table 9.1). -/
def mgmtVlan (s : State) (t : Nat) : Nat := bits (s.cfg 0o013 t 3) 11 0
def notifyLane (s : State) (t : Nat) : Nat := bits (s.cfg 0o013 t 4) 17 14
def notifyMac (s : State) (t : Nat) : Nat := (s.cfg 0o013 t 5 * 2 ^ 36 + s.cfg 0o013 t 6 * 2 ^ 18 + s.cfg 0o013 t 7) % 2 ^ 48

/-- A message on a tenant's path, from a lane to a station (R428). -/
def tenantFrame (s : State) (t lane da : Nat) (m : List Nat) : List Nat :=
  spFrame da (s.laneMac lane) (some (s.mgmtVlan t)) 0x88B6 m

/-- A message on the M-port. -/
def mportFrame (s : State) (da : Nat) (m : List Nat) : List Nat := spFrame da s.mportMac none s.mportEtype m

/-! ## Sessions (R434) -/

/-- The session that a caller names; a plain request has none. -/
def session? (s : State) (c : Caller) : Option Session :=
  match c with
  | .operator n => some (tabGet {} s.sp.oper n)
  | .tenant t => some (tabGet {} s.sp.ten t)
  | .plain => none

def setSession (s : State) (c : Caller) (v : Session) : State :=
  match c with
  | .operator n => { s with sp := { s.sp with oper := tabPut {} s.sp.oper n v } }
  | .tenant t => { s with sp := { s.sp with ten := tabPut {} s.sp.ten t v } }
  | .plain => s

/-- The session of a caller is OPEN; a request without a session needs none here (R438 decides it). -/
def callerOpen (s : State) (c : Caller) : Bool :=
  match s.session? c with
  | some v => decide (v.state = SessState.opened)
  | none => true

def tenantCaller (t : Nat) : Caller := .tenant (Fin.ofNat 16 t)

/-- ARG of a Signpost event: the path (Table 17.8). -/
def pathArg : Caller → Nat
  | .tenant t => 0o20 + t
  | _ => 0

/-- Subject of a Signpost event (R451). -/
def pathKind : Caller → Nat
  | .tenant _ => 1
  | _ => 0

def pathNumber : Caller → Nat
  | .tenant t => t
  | _ => 0

/-- Whether a frame of a caller's session has TENANT set, and its SESSION (Table 17.2). -/
def callerTenant : Caller → Bool
  | .tenant _ => true
  | _ => false

def callerNumber : Caller → Nat
  | .operator n => n
  | .tenant t => t
  | .plain => 0

/-- ARG of a session event: the path and session, and the cause of a close (Table 17.8). -/
def sessArg (c : Caller) (cause : Nat) : Nat :=
  flag 5 (callerTenant c) + fld 4 0 (callerNumber c) + fld 8 6 cause

def sessSlot (c : Caller) : Nat :=
  match c with
  | .operator n => slotOperSession n
  | .tenant t => slotTenSession t
  | .plain => slotOperSession 0

/-- A frame of a session is built: its Signpost message, and the state after it has used the session's next SEQ. None when the
session has no key. -/
def sealFrame (s : State) (c : Caller) (kind : Nat) (body : List Nat) : Option (List Nat × State) :=
  match s.session? c, s.lookup (sessSlot c) with
  | some v, some value =>
    let m := spSeal (slotKey value) 0x02 kind (callerTenant c) (callerNumber c) v.txSeq body
    some (m, s.setSession c { v with txSeq := v.txSeq + 1 })
  | _, _ => none

/-- A frame of a tenant's session on a lane (R428). -/
def sealSession (s : State) (n t kind : Nat) (body : List Nat) : Option (MgmtFrame × State) :=
  (s.sealFrame (tenantCaller t) kind body).map (fun (m : List Nat × State) =>
    ({ kind := 0, bytes := s.tenantFrame t n (tabGet {} s.sp.ten t).peer m.1 }, m.2))

/-- The frames of a tenant's session that wait for cells are protected while its key still stands; its notifications stay in
the ring (Table 9.9) (DEDUCED, notes/assumptions/35). -/
def sealWaiting (s : State) (t : Nat) : State :=
  let r := s.tp.mgmtWait.foldl (fun (a : List (Nat × MgmtItem) × State) e =>
    match e.2 with
    | .session u kind body =>
      if u = t then
        match a.2.sealSession e.1 t kind body with
        | some (f, s) => (a.1 ++ [(e.1, .whole f)], s)
        | none => a
      else (a.1 ++ [e], a.2)
    | .notify u => if u = t then a else (a.1 ++ [e], a.2)
    | .whole _ => (a.1 ++ [e], a.2)) ([], s)
  { r.2 with tp := { r.2.tp with mgmtWait := r.1 } }

/-- A staging write of the session is abandoned (R445). -/
def abandonStaging (s : State) (n : Nat) : State :=
  match s.image.staging with
  | some g =>
    if g.session = n then
      { s with image := { s.image with staging := none, stagedState := 3, stagedCode := 3 } }.emitDev 0o021007
    else s
  | none => s

/-- Stands for a session that has closed. -/
def noSession : Nat := 32

/-- An OPEN session closes with a cause; an OPENING one that times out emits nothing (R434, R451). -/
def closeSession (s : State) (c : Caller) (cause : Nat) : State :=
  match s.session? c with
  | some v =>
    if v.state = SessState.idle then s
    else
      let s := match c with
        | .tenant t => s.sealWaiting t
        | _ => s
      let s := (s.setSession c {}).destroySlot (sessSlot c)
      let s := match c with
        | .operator n => s.abandonStaging n
        | _ => s
      let l := s.sp.held.filter (fun f => decide (f.caller = c))
      let s := { s with sp := { s.sp with
        held := s.sp.held.filter (fun f => decide (f.caller ≠ c)), sessionMiss := satAdd 18 s.sp.sessionMiss l.length } }
      let s := s.occurs 35 0o002 0 l.length
      let s := { s with sp := { s.sp with
        thWaiting := s.sp.thWaiting.filter (fun w => decide (some w.1 ≠ callerNo c))
        portWaiting := s.sp.portWaiting.map (fun w => if some w.1 = callerNo c then (noSession, w.2) else w) } }
      if v.state = SessState.opened then s.emit 0o160002 (pathKind c) (pathNumber c) (sessArg c cause) else s
  | none => s
where
  callerNo (c : Caller) : Option Nat :=
    match c with
    | .operator n => some n.val
    | _ => none

/-- A session whose counter would pass 2^36 - 1 in either direction closes after the frame that used it (R436). -/
def settleSeq (s : State) (c : Caller) : State :=
  match s.session? c with
  | some v => if 2 ^ 36 ≤ v.txSeq ∨ (2 ^ 36 ≤ v.rxSeq + 1 ∧ !v.busy) then s.closeSession c 3 else s
  | none => s

/-! ## Notifications (R224 to R227) -/

/-- A word of MODERATION in force (Table 9.7). -/
def modWord (s : State) (t i : Nat) : Nat := (wordAt (s.tenant t).moderation i).toNat
def coalesce (s : State) (t : Nat) : Nat := bits (s.modWord t 0) 17 12
def notifyEn (s : State) (t : Nat) : Bool := (s.modWord t 3).testBit 17

/-- Records produced and not yet notified, oldest first. -/
def unnotified (s : State) (t : Nat) : List TenRec :=
  let v := s.tenant t
  ((v.ring.take ((v.produced + 2 ^ 18 - v.notified) % 2 ^ 18)).reverse)

/-- The records of the next notification frame: at most the 63 that COUNT can name (DEDUCED, notes/assumptions/35). -/
def notifyRecords (s : State) (t : Nat) : List TenRec := (s.unnotified t).take 63

/-- When the next notification frame of a tenant becomes due by the values in force: COALESCE records have gathered, or
COALESCE_WAIT has passed since the first, and MIN_GAP since the previous frame (R226); none without a record. -/
def notifyDueAt (s : State) (t : Nat) : Option Nat :=
  let l := s.unnotified t
  l.head?.map (fun (first : TenRec) =>
    let due := if s.coalesce t ≤ l.length then 0 else s.start.t0 + first.time + us (10 * s.modWord t 1)
    let gap := match (s.tenant t).notifiedAt with
      | some at_ => at_ + us (10 * s.modWord t 2)
      | none => 0
    max due gap)

/-- MODERATION of a tenant changes: a frame that is due is sent by the old values (Table 9.9). -/
def setModeration (s : State) (t : Nat) (m : List Word) : State :=
  let due := s.callerOpen (tenantCaller t) && s.notifyEn t && (match s.notifyDueAt t with
    | some at_ => decide (at_ ≤ s.now)
    | none => false)
  s.setTenant t { s.tenant t with moderation := m, notifyDue := (s.tenant t).notifyDue || due }

/-- The words of a notification: COUNT, then the records (R226). -/
def notifyBody (l : List TenRec) : List Nat := l.length :: l.flatMap TenRec.words

/-- A notification frame of a tenant is built: it takes the records not yet sent, while the session is OPEN (R226). -/
def buildNotify (s : State) (t : Nat) : Option (List Nat × State) :=
  let l := s.notifyRecords t
  if l.isEmpty || !s.callerOpen (tenantCaller t) then none
  else (s.sealFrame (tenantCaller t) 0o05 (notifyBody l)).map (fun (m : List Nat × State) =>
    let v := m.2.tenant t
    let s := m.2.setTenant t { v with
      notified := (v.notified + l.length) % 2 ^ 18, notifiedAt := some s.now, notifyDue := false, notifySent := satInc 18 v.notifySent }
    (s.tenantFrame t (s.notifyLane t) (s.notifyMac t) m.1,
      ((s.occur 35 0o004).send (.notify t (s.notifyLane t) (l.map TenRec.seq))).settleSeq (tenantCaller t)))

/-- Bytes that a management frame has, or will have once it is built. -/
def itemLen (s : State) (m : MgmtItem) : Nat :=
  match m with
  | .session _ _ body => sessionFrame true body.length
  | .notify t => sessionFrame true (1 + 8 * (s.notifyRecords t).length)
  | .whole f => f.len

/-- A management frame is built (R232); none when its session has ended meanwhile (DEDUCED, notes/assumptions/35). -/
def buildItem (s : State) (n : Nat) (m : MgmtItem) : Option (MgmtFrame × State) :=
  match m with
  | .session t kind body =>
    (s.sealSession n t kind body).map (fun (m : MgmtFrame × State) => (m.1, m.2.settleSeq (tenantCaller t)))
  | .notify t => (s.buildNotify t).map (fun (m : List Nat × State) => ({ kind := 1, bytes := m.1 }, m.2))
  | .whole f => some (f, s)

end State

end Sys2Proof.Machine
end

