-- ==== Sys2Proof/Machine/TurnpikeOps.lean ====
section
/-!
DEFINITION. Turnpike's shared operations (10_turnpike): queues and pools, refusals, token buckets, delay requests and
admission.
-/

namespace Sys2Proof.Machine

/-! Refusal codes (Table 1.9). -/
def rcQuota : Nat := 0o001
def rcCeiling : Nat := 0o002
def rcNoStream : Nat := 0o003
def rcNoKey : Nat := 0o004
def rcTenantReset : Nat := 0o005
def rcFenced : Nat := 0o006
def rcOversize : Nat := 0o007
def rcIcv : Nat := 0o010
def rcReplay : Nat := 0o011
def rcIntegrity : Nat := 0o012
def rcQuarantine : Nat := 0o013
def rcPnExhausted : Nat := 0o014
def rcClassifyMiss : Nat := 0o015
def rcLaneDown : Nat := 0o016
def rcFieldAbsent : Nat := 0o017
def rcDuplicate : Nat := 0o020

/-- DEG_CAUSE bit of a refusal code (R215, Table 9.10): bit 4 NO-KEY or NO-STREAM down to bit 1 PN-EXHAUSTED; a
QUARANTINE counts only while memory is not ready. -/
def degBit (code : Nat) (memReady : Bool) : Nat :=
  if code = 0o003 ∨ code = 0o004 then 16
  else if code = 0o016 then 8
  else if code = 0o017 then 4
  else if code = 0o014 then 2
  else if code = 0o013 ∧ memReady = false then 1
  else 0

/-- Sum of RESERVE over the entries of a QUEUES body. -/
def sumReserve : List Word → Nat
  | a :: _ :: r :: _ :: _ :: _ :: _ :: _ :: t => (if a.toNat.testBit 17 then r.toNat else 0) + sumReserve t
  | _ => 0

namespace State

def queue (s : State) (q : Nat) : Queue := tabGet {} s.tp.queues q
def setQueue (s : State) (q : Nat) (v : Queue) : State := { s with tp := { s.tp with queues := tabPut {} s.tp.queues q v } }

/-- Word `j` of the QUEUES entry of queue `q` (Table 10.8). -/
def qWord (s : State) (q j : Nat) : Nat :=
  match s.tenantOfQueue q with
  | some t => s.cfg 0o015 t (8 * (q - 64 * s.firstBlock t) + j)
  | none => 0

def qValid (s : State) (q : Nat) : Bool := (s.qWord q 0).testBit 17
def qEgress (s : State) (q : Nat) : Nat := bits (s.qWord q 0) 16 12
def qTc (s : State) (q : Nat) : Nat := bits (s.qWord q 0) 11 9
def qFlow (s : State) (q : Nat) : Bool := (s.qWord q 0).testBit 8
def qSpillEn (s : State) (q : Nat) : Bool := (s.qWord q 0).testBit 7
def qWeight (s : State) (q : Nat) : Nat := bits (s.qWord q 1) 17 10

/-- Cells a queue holds in a place. -/
def held (v : Queue) (p : Place) : Nat :=
  (((v.inFlight.toList ++ v.frames).filter (fun f => f.place = p)).map (fun f => cellsOf f.len)).sum
def heldAll (v : Queue) : Nat := ((v.inFlight.toList ++ v.frames).map (fun f => cellsOf f.len)).sum

/-- Sum of RESERVE over all queues of the running image (R233). -/
def reservedTotal (s : State) : Nat :=
  match s.image.running with
  | some i => ((i.sections.filter (fun c => c.type = 0o015)).map (fun c => sumReserve c.body)).sum
  | none => 0

def sharedHeld (s : State) : Nat := (s.tp.queues.map (fun e => held e.2 .shared)).sum
def sharedFree (s : State) : Nat := 196096 - s.reservedTotal - s.sharedHeld

/-- The queues of a tenant that hold frames. -/
def tenantQueues (s : State) (t : Nat) : List Nat :=
  (s.tp.queues.map Prod.fst).filter (fun q => decide (s.tenantOfQueue q = some t))

def tenantHolds (s : State) (t : Nat) : Bool := (s.tenantQueues t).any (fun q => !(s.queue q).frames.isEmpty || (s.queue q).inFlight.isSome)

/-! ## The management pool (R232) -/

def sched (s : State) (n : Nat) : Sched := tabGet {} s.tp.lanes n
def setSched (s : State) (n : Nat) (v : Sched) : State := { s with tp := { s.tp with lanes := tabPut {} s.tp.lanes n v } }

/-- Cells of the management pool that a lane's frames hold. -/
def mgmtCells (c : Sched) : Nat :=
  (c.mgmt.map (fun f => cellsOf f.len)).sum +
    (match c.sending with
      | some (.mgmt f) => cellsOf f.len
      | _ => 0)

/-- Cells of the management pool in use. -/
def mgmtHeld (s : State) : Nat := (s.tp.lanes.map (fun e => mgmtCells e.2)).sum

/-- The waiting management frames that find cells are built and join their lanes' queues, in the order in which they became
due. -/
def mgmtAdmit (s : State) : List (Nat × MgmtItem) → State
  | [] => { s with tp := { s.tp with mgmtWait := [] } }
  | (n, m) :: rest =>
    if s.mgmtHeld + cellsOf (s.itemLen m) ≤ 512 then
      match s.buildItem n m with
      | some (f, s) =>
        let c := s.sched n
        (s.setSched n { c with mgmt := c.mgmt ++ [f] }).mgmtAdmit rest
      | none => s.mgmtAdmit rest
    else { s with tp := { s.tp with mgmtWait := (n, m) :: rest } }

/-- A management frame becomes due on a lane; in a replay only the records start any (R503, R505). -/
def queueMgmt (s : State) (n : Nat) (m : MgmtItem) : State :=
  if s.replayMode then s else s.mgmtAdmit (s.tp.mgmtWait ++ [(n, m)])

/-- Memory is ready for spill and station contexts (R73). -/
def memReady (s : State) : Bool := decide (s.start.memState = MemState.ready)

/-! ## Tenant states -/

/-- A tenant enters a state: GEN rises by 1, modulo 32 (R230). -/
def tenEnter (s : State) (t : Nat) (st : TenState) (v : Tenant) : State :=
  s.setTenant t { v with state := st, gen := if v.state = st then v.gen else (v.gen + 1) % 32 }

/-- A refusal of a cause of R215 degrades a HEALTHY tenant and keeps a DEGRADED one so. -/
def degrade (s : State) (t code : Nat) : State :=
  let b := degBit code s.memReady
  let v := s.tenant t
  if b = 0 then s
  else match v.state with
    | .healthy =>
      (s.tenEnter t .degraded { v with degCause := b, degAt := s.now }).emit 0o061002 1 t b
    | .degraded => s.setTenant t { v with degCause := v.degCause ||| b, degAt := s.now }
    | _ => s

/-- A frame of a tenant is refused with exactly one code, counted at a queue, at its tenant, and in 0o071003 once in each
second (R246, R247, R251). -/
def refuseCount (s : State) (t q code : Nat) : State :=
  let v := s.queue q
  let s := s.setQueue q { v with refused := tabPut 0 v.refused code (satInc 36 (tabGet 0 v.refused code)) }
  let w := s.tenant t
  let s := s.setTenant t { w with refused := tabPut 0 w.refused code (satInc 36 (tabGet 0 w.refused code)) }
  (s.emitOnceKey (32 * q + code) 0o071003 2 q code).degrade t code

/-- A frame that a queue's lane refuses with LANE-DOWN also counts at the lane (R205) (DEDUCED, notes/assumptions/39). -/
def refuse (s : State) (t q code : Nat) : State :=
  let s := if code = rcLaneDown && decide (s.qEgress q < 16) then
      let n := s.qEgress q
      s.setLane n { s.lane n with ldRefused := satInc 36 (s.lane n).ldRefused }
    else s
  s.refuseCount t q code

/-- A frame refused before a queue is chosen counts against its tenant's first queue (R247). -/
def refuseFirst (s : State) (t code : Nat) : State := s.refuse t (64 * s.firstBlock t) code

/-! ## Delay requests (R243) -/

/-- The FLOW queues of a tenant and class. -/
def flowQueues (s : State) (t c : Nat) : List Nat :=
  (s.tenantQueues t).filter (fun q => s.qValid q && s.qFlow q && decide (s.qTc q = c))

/-- Some queue of the class reaches DELAY_AT; every one is at or below RESUME_AT. -/
def delayReached (s : State) (t c : Nat) : Bool :=
  (s.flowQueues t c).any (fun q => decide (s.qWord q 5 ≤ heldAll (s.queue q)))
def delayResumed (s : State) (t c : Nat) : Bool :=
  (s.flowQueues t c).all (fun q => decide (heldAll (s.queue q) ≤ s.qWord q 6))

/-- The VP owner feeds the queues that its VALID classifier entries with DIR 0 and PORT 16 or 31 name (R244). -/
def fedByVp (entries : List Word) : List Nat :=
  ((List.range (entries.length / 16)).filter (fun i =>
    let c0 := (wordAt entries (16 * i)).toNat
    c0.testBit 17 && !c0.testBit 16 && (decide (bits c0 15 11 = 16) || decide (bits c0 15 11 = 31)))).map
      (fun i => bits (wordAt entries (16 * i + 12)).toNat 13 0)

/-- The queues that are fed through VP. -/
def vpFedQueues (s : State) (t : Nat) : List Nat :=
  if s.vpOwner t then fedByVp (((s.inForce? 0o014 t).map Section.body).getD []) else []

def vpFed (s : State) (t q : Nat) : Bool := (s.vpFedQueues t).contains q

/-- A delay request holds back VP: one that stands for a FLOW queue fed through it (R244), or the drain of its owner (R248). -/
def vpFlowStands (s : State) : Bool :=
  (List.range 16).any (fun t => s.vpOwner t && ((tabGet none s.tp.drains t).isSome ||
    (s.vpFedQueues t).any (fun q => s.qValid q && s.qFlow q && s.delayStands t (s.qTc q))))

/-- ARG of 0o070001: the lanes that send for the request, and bit 16 for a queue fed through VP. -/
def delayArg (s : State) (t q : Nat) : Nat :=
  maskOf 16 (fun n => (s.clientLanes t).testBit n && (s.lanePauseEn n || s.lanePfcEn n)) + flag 16 (s.vpFed t q)

/-- The release of some queues' delay requests is noted, or is over because they are asserted again (R251). -/
def markReleased (s : State) (l : List Nat) (at_ : Option Nat) : State :=
  l.foldl (fun s q =>
    if (s.queue q).delayEventAt.isSome then s.setQueue q { s.queue q with releasedAt := at_ } else s) s

/-- Queue `q` may have reached DELAY_AT: the delay request of its tenant and class is asserted (R243, R251). -/
def delayRises (s : State) (t c q : Nat) : State :=
  let key := 8 * t + c
  if s.tp.delay.contains key || !s.delayReached t c then s
  else
    let s := s.occur 25 0o007
    let s := { s with tp := { s.tp with delay := key :: s.tp.delay } }
    let s := s.markReleased (s.flowQueues t c) none
    let v := s.queue q
    let quiet := match v.delayEventAt with
      | some at_ => decide (at_ + secs 1 ≤ s.now)
      | none => true
    let s := s.setQueue q { v with delayEventAt := if quiet then some s.now else v.delayEventAt }
    let s := if quiet then s.emit 0o070001 2 q (s.delayArg t q) else s
    s.flowAll

/-- Cells of a queue have come free: the delay request of its tenant and class is released once every such queue is at or below
RESUME_AT; a drain keeps it standing (R243, R248). -/
def delayFalls (s : State) (t c : Nat) : State :=
  let key := 8 * t + c
  if s.tp.delay.contains key && s.delayResumed t c then
    let s := s.occur 25 0o010
    let s := { s with tp := { s.tp with delay := s.tp.delay.filter (fun k => decide (k ≠ key)) } }
    let s := if (tabGet none s.tp.drains t).isSome then s else s.markReleased (s.flowQueues t c) (some s.now)
    s.flowAll
  else s

/-- The delay request of a queue's tenant and class after cells of the queue came free (R235). -/
def freed (s : State) (q : Nat) : State :=
  match s.tenantOfQueue q with
  | some t => s.delayFalls t (s.qTc q)
  | none => s

/-- The queues of a tenant that hold no delay request of their own. -/
def undelayed (s : State) (t : Nat) : List Nat :=
  (s.tenantQueues t).filter (fun q => !s.tp.delay.contains (8 * t + s.qTc q))

/-- A tenant begins to drain: the delay request stands for every class (R248). -/
def beginDrain (s : State) (t : Nat) : State :=
  (({ s with tp := { s.tp with drains := tabPut none s.tp.drains t (some { since := s.now }) } }).markReleased
    (s.tenantQueues t) none).flowAll

/-- A tenant's drain ends: from then on delay follows R243 (R248). -/
def endDrain (s : State) (t : Nat) : State :=
  ({ s with tp := { s.tp with drains := tabPut none s.tp.drains t none } }).markReleased (s.undelayed t) (some s.now)

/-- A queue's frames leave protected. -/
def egressTrunk (s : State) (q : Nat) : Bool := s.laneIsTrunk (s.qEgress q) && decide (s.qEgress q < 16)

/-- The head frame leaves a queue: its cells are free (R235). -/
def dropHead (s : State) (q : Nat) : State :=
  let v := s.queue q
  (s.setQueue q { v with frames := v.frames.tail }).freed q

/-- The frame in flight from a queue has left its lane, or was cut short. -/
def endFlight (s : State) (q : Nat) : State := (s.setQueue q { s.queue q with inFlight := none }).freed q

/-- Every frame of a queue that satisfies `p` is refused with a code, and its cells freed. -/
def refuseQueued (s : State) (t q code : Nat) (p : QFrame → Bool) : State :=
  let v := s.queue q
  let hit := v.frames.filter p
  let s := s.setQueue q { v with frames := v.frames.filter (fun f => !p f) }
  let s := hit.foldl (fun s f => (s.refuse t q code).wayEnd q (s.qEgress q) f (s.egressTrunk q) code) s
  if hit.isEmpty then s else s.delayFalls t (s.qTc q)

/-- Every frame queued for a tenant is refused with a code. -/
def refuseTenant (s : State) (t code : Nat) : State :=
  (s.tenantQueues t).foldl (fun s q => s.refuseQueued t q code (fun _ => true)) s

/-- Every frame queued for a lane is refused with LANE-DOWN, spilled ones included (R192, Table 10.6). -/
def refuseLane (s : State) (n : Nat) : State :=
  ((s.tp.queues.map Prod.fst).filter (fun q => s.qValid q && decide (s.qEgress q = n))).foldl
    (fun s q => match s.tenantOfQueue q with
      | some t => s.refuseQueued t q rcLaneDown (fun _ => true)
      | none => s) s

/-! ## Token buckets -/

/-- COMMIT_n, WEIGHT_n and the ceiling rate of a tenant on a lane (R239). -/
def commitRate (s : State) (t n : Nat) : Nat := s.cfg 0o022 t (2 * n)
def tenWeight (s : State) (t n : Nat) : Nat := bits (s.cfg 0o022 t (2 * n + 1)) 17 10
def ceilRate (s : State) (t n : Nat) : Nat := bits (s.cfg 0o022 t (2 * n + 1)) 9 0 * s.laneRate n / 1000

/-- Depth of a bucket: the larger of 2 × MAX_FRAME and the bytes of a time at its rate, in ten-thousandths of a byte. -/
def bucketDepth (s : State) (n rate cycles : Nat) : Nat := max (20000 * s.laneMaxFrame n) (rate * cycles)

/-- What a bucket lacks now, with its rate (refilled lazily). -/
def bucketDebt (s : State) (b : Bucket) (rate : Nat) : Nat := b.debt - rate * (s.now - b.time)

/-- A bucket is at or above 0. -/
def bucketOk (s : State) (b : Bucket) (rate depth : Nat) : Bool := decide (s.bucketDebt b rate ≤ depth)

/-- DEDUCED, notes/assumptions/36. -/
def charge (s : State) (b : Bucket) (rate bytes : Nat) : Bucket :=
  { debt := s.bucketDebt b rate + 10000 * bytes, time := s.now }

def ceilOk (s : State) (t n : Nat) : Bool :=
  s.bucketOk (tabGet {} s.tp.ceilTok (16 * t + n)) (s.ceilRate t n) (s.bucketDepth n (s.ceilRate t n) (ms 1))
def commitOk (s : State) (t n : Nat) : Bool :=
  s.bucketOk (tabGet {} s.tp.commitTok (16 * t + n)) (s.commitRate t n) (s.bucketDepth n (s.commitRate t n) (us 100))
def policeOk (s : State) (t n : Nat) : Bool :=
  s.bucketOk (tabGet {} s.tp.policeTok (16 * t + n)) (s.ceilRate t n) (s.bucketDepth n (s.ceilRate t n) (us 10))

/-! ## Admission (R236) -/

/-- The field side is absent for frames bound for VP: PARTNER is neither UP nor SINGLE. -/
def fieldAbsent (s : State) : Bool :=
  match s.cway.partner with
  | .up | .single => false
  | _ => true

/-- FA_REFUSED counts a frame refused with FIELD-ABSENT (R342). -/
def countFieldAbsent (s : State) : State :=
  { s with cway := { s.cway with faRefused := satInc 36 s.cway.faRefused } }

/-- Where admission puts a frame of `c` cells, or the code that refuses it. -/
def placeFor (s : State) (q c : Nat) : Option Place :=
  let v := s.queue q
  let spillOk := s.qSpillEn q && s.memReady
  if held v .spill > 0 then
    if spillOk && decide (held v .spill + c ≤ 256 * s.qWord q 4) then some .spill else none
  else if held v .reserved + c ≤ s.qWord q 2 then some .reserved
  else if c ≤ s.sharedFree ∧ held v .shared + c ≤ s.qWord q 3 then some .shared
  else if spillOk && decide (c ≤ 256 * s.qWord q 4) then some .spill
  else none

/-- Admission would have put the frame into spill, had memory been ready (R234, 0o071004). -/
def spillWanted (s : State) (q c : Nat) : Bool :=
  let v := s.queue q
  s.qSpillEn q && !s.memReady && decide (held v .spill + c ≤ 256 * s.qWord q 4) &&
    (decide (held v .spill > 0) || !(decide (held v .reserved + c ≤ s.qWord q 2) ||
      decide (c ≤ s.sharedFree ∧ held v .shared + c ≤ s.qWord q 3)))

/-- TB of a tenant and egress, in ns (Table 21.9). -/
def boundTb (s : State) (t n : Nat) : Nat := s.cfg 0o006 0 (32 + 34 * t + 2 * n) * 2 ^ 18 + s.cfg 0o006 0 (33 + 34 * t + 2 * n)

/-- The eligibility of a frame that takes reserved cells (R520). -/
def eligibleNow (s : State) (t n : Nat) : Bool :=
  decide (n < 16) && decide (s.boundTb t n ≠ 0) && s.commitOk t n &&
    (s.tenantQueues t).all (fun q => decide (held (s.queue q) .shared = 0) && decide (held (s.queue q) .spill = 0))

/-- A frame that R236 refuses with a code. -/
def admitRefused (s : State) (t q code : Nat) (f : QFrame) (sampled trunk : Bool) : State :=
  let s := s.occur 25 0o006
  let s := if code = rcQuota then s.occur 25 0o004 else if code = rcCeiling then s.occur 25 0o005 else s
  (s.refuse t q code).wayRefused sampled q (s.qEgress q) f trunk (s.egressTrunk q) code

/-- Code of the event that counts an admission to a place (Table 19.2) (DEDUCED, notes/assumptions/39). -/
def placeCode (p : Place) : Nat :=
  match p with
  | .reserved => 0o001
  | .shared => 0o002
  | .spill => 0o003

/-- The policer of a queue without FLOW is charged for a frame that has been admitted to it (R236, R237). -/
def chargePolicer (s : State) (t q len : Nat) : State :=
  let n := s.qEgress q
  if n < 16 && !s.qFlow q then
    let b := s.charge (tabGet {} s.tp.policeTok (16 * t + n)) (s.ceilRate t n) (s.charged n len)
    { s with tp := { s.tp with policeTok := tabPut {} s.tp.policeTok (16 * t + n) b } }
  else s

/-- A frame has been admitted to a place: what follows from that. -/
def admitted (s : State) (t q : Nat) (f : QFrame) (p : Place) : State :=
  ((s.occur 25 (placeCode p)).chargePolicer t q f.len).delayRises t (s.qTc q) q

/-- A frame that R236 lets in takes cells in a place, at the end of its queue; one that goes to spill is admitted only once the
spill path accepts it (R234). -/
def admitTo (s : State) (t q : Nat) (f : QFrame) (p : Place) (sampled trunk : Bool) : State :=
  let n := s.qEgress q
  let spill := decide (p = Place.spill)
  let s := if spill then s else s.occurs 26 0o001 0 (cellsOf f.len)
  let s := if sampled then { s with way := { s.way with inFlight := s.way.inFlight + 1 } } else s
  let m : Mark := { decrypt := trunk, spilled := spill, admitted := s.now, picked := s.now }
  let v := s.queue q
  let s := s.setQueue q { v with
    frames := v.frames ++ [{ f with
      place := p, since := s.now, unaccepted := spill
      eligible := decide (p = Place.reserved) && s.eligibleNow t n, mark := if sampled then some m else none }] }
  if spill then s else s.admitted t q f p

/-- How many frames of a queue the spill path has accepted by now, because 1 µs has passed and none has been refused (R234)
(DEDUCED, notes/assumptions/38). -/
def spillDue (s : State) (q : Nat) : Nat :=
  ((s.queue q).frames.filter (fun f => f.unaccepted && decide (f.since + us 1 ≤ s.now))).length

/-- The oldest `k` frames of a queue that wait for the spill path, with the frames of the queue once it has accepted them. -/
def accepting : Nat → List QFrame → List QFrame × List QFrame
  | 0, l => ([], l)
  | _, [] => ([], [])
  | k + 1, f :: l =>
    if f.unaccepted then
      let r := accepting k l
      (f :: r.1, { f with unaccepted := false } :: r.2)
    else
      let r := accepting (k + 1) l
      (r.1, f :: r.2)

/-- The spill path accepts the oldest `k` frames of a queue that wait for it: they are admitted. -/
def acceptSpill (s : State) (t q k : Nat) : State :=
  let r := accepting k (s.queue q).frames
  if r.1.isEmpty then s
  else r.1.foldl (fun s f => s.admitted t q f .spill) (s.setQueue q { s.queue q with frames := r.2 })

/-- A frame that has passed classification and its tenant's state meets Turnpike's checks (R236). -/
def enter (s : State) (t q : Nat) (f : QFrame) (trunk : Bool) : State :=
  let n := s.qEgress q
  let toLane := decide (n < 16)
  let c := cellsOf f.len
  let s := s.acceptSpill t q (s.spillDue q)
  let (sampled, s) := s.waySample t f.ingress q
  if toLane && decide (s.laneLen n f.len > s.laneMaxFrame n) then s.admitRefused t q rcOversize f sampled trunk
  else if toLane && s.laneRefuses n then s.admitRefused t q rcLaneDown f sampled trunk
  else if !toLane && s.fieldAbsent then s.countFieldAbsent.admitRefused t q rcFieldAbsent f sampled trunk
  else if toLane && !s.qFlow q && !s.policeOk t n then s.admitRefused t q rcCeiling f sampled trunk
  else match s.placeFor q c with
    | none =>
      let s := if s.spillWanted q c then s.emitOnce 0o071004 2 q 1 else s
      s.admitRefused t q rcQuota f sampled trunk
    | some p => s.admitTo t q f p sampled trunk

/-! ## Classification (R208 to R212) -/

/-- What the classifier compares. -/
structure Key where
  port : Nat
  trunk : Bool
  vlan : Nat
  pcp : Nat
  etype : Nat
  dmac : Nat
  deriving DecidableEq, Repr

/-- What the classifier reads of a frame from a port (R210). -/
def keyOf (port : Nat) (trunk : Bool) (data : List Nat) : Key :=
  { port := port, trunk := trunk, vlan := frameVlan data, pcp := framePcp data, etype := frameType data, dmac := frameDa data }

/-- A classifier entry, sixteen words, matches (Table 9.3). -/
def entryMatches (e : List Word) (k : Key) : Bool :=
  let c0 := (wordAt e 0).toNat
  let c1 := (wordAt e 1).toNat
  let c2 := (wordAt e 2).toNat
  let mask := wideOf (wordsFrom' e 6 3)
  c0.testBit 17 && decide (c0.testBit 16 = k.trunk) &&
    (decide (bits c0 15 11 = 31) || decide (bits c0 15 11 = k.port)) &&
    (c1.testBit 17 || decide (bits c1 11 0 = k.vlan)) && (c1.testBit 16 || decide (bits c1 15 13 = k.pcp)) &&
    (c2.testBit 17 || decide (bits c2 15 0 = k.etype)) &&
    decide (wideOf (wordsFrom' e 3 3) &&& mask = k.dmac &&& mask)
where
  wordsFrom' (ws : List Word) (p n : Nat) : List Word := (ws.drop p).take n

/-- Queue, traffic class and stream that a classifier entry decides (Table 9.3). -/
def entryResult (e : List Word) : Nat × Nat × Option Nat :=
  let c13 := (wordAt e 13).toNat
  (bits (wordAt e 12).toNat 13 0, bits c13 17 15, if c13.testBit 14 then some (bits c13 13 0) else none)

/-- A tenant's classifier; a tenant without a CLASSIFIER section matches nothing (R212). -/
def classifier (s : State) (t : Nat) : List Word := ((s.inForce? 0o014 t).map Section.body).getD []

/-- Entry `i` of a classifier. -/
def classEntry (body : List Word) (i : Nat) : List Word := (body.drop (16 * i)).take 16

/-- The first entry that matches, in rising order. -/
def classify (s : State) (t : Nat) (k : Key) : Option Nat :=
  let b := s.classifier t
  firstBelow (b.length / 16) (fun i => entryMatches (classEntry b i) k)

/-- The code with which a tenant's state refuses every frame (Table 9.4). -/
def stateCode (st : TenState) : Option Nat :=
  match st with
  | .faulted => some rcQuarantine
  | .resetting => some rcTenantReset
  | .fenced => some rcFenced
  | _ => none

/-- Valid data VLANs of a tenant include an ID (R210). -/
def hasVlan (s : State) (t v : Nat) : Bool :=
  (List.range 16).any (fun i =>
    let w := s.cfg 0o013 t (8 + i)
    w.testBit 17 && decide (bits w 11 0 = v))

/-- The tenant that a client frame selects (R210). -/
def selectTenant (s : State) (lane vlan : Nat) : Option Nat :=
  firstBelow 16 (fun t => s.configured t && (s.clientLanes t).testBit lane && s.hasVlan t vlan)

/-- A frame that selects no tenant (R231). -/
def countNoTenant (s : State) (port vlan : Nat) : State :=
  let s := { s with tp := { s.tp with noTenant := tabPut 0 s.tp.noTenant port (satInc 18 (tabGet 0 s.tp.noTenant port)) } }
  s.emitOnceKey port 0o061011 (if port < 16 then 5 else 6) (if port < 16 then port else 0) vlan

/-- Reserved cells that the frames held in a drain of a tenant take (R248). -/
def parkedCells (s : State) (t : Nat) : Nat :=
  match tabGet none s.tp.drains t with
  | some d => (d.held.map (fun f => cellsOf f.len)).sum
  | none => 0

/-- Free reserved cells of a tenant, which a drain may take (R248). -/
def tenFreeReserved (s : State) (t : Nat) : Nat :=
  let total := match s.inForce? 0o015 t with
    | some c => sumReserve c.body
    | none => 0
  let used := ((s.tenantQueues t).map (fun q => held (s.queue q) .reserved)).sum
  total - used - s.parkedCells t

/-- Checks 4 to 6 of Table 9.2 for a frame whose tenant is known, with the entry that it matches (DEDUCED,
notes/assumptions/39). -/
def classified (s : State) (t port : Nat) (trunk : Bool) (data : List Nat) (entry : Option Nat) : State :=
  let s := s.occur 24 0o001
  match entry with
  | none => (s.occur 24 0o002).refuseFirst t rcClassifyMiss
  | some i =>
    let s := s.occurs 24 0o004 i 1
    let (q, tc, stream) := entryResult (classEntry (s.classifier t) i)
    match stateCode (s.tenant t).state with
    | some code => s.refuse t q code
    | none => s.enter t q { data := data, tenant := t, tc := tc, stream := stream, ingress := port, since := s.now } trunk

/-- Checks 4 to 6 of Table 9.2. -/
def classifyAdmit (s : State) (t port : Nat) (trunk : Bool) (data : List Nat) : State :=
  s.classified t port trunk data (s.classify t (keyOf port trunk data))

/-- A frame that selects tenant `t`, its bytes up to the FCS: tenants admit from step 10 of a start on (R77) (DEDUCED,
notes/assumptions/84); it is held unclassified while the tenant drains, classified otherwise (R248). -/
def offer (s : State) (t port : Nat) (trunk : Bool) (data : List Nat) : State :=
  if s.start.outcome ≠ StartOutcome.running then s
  else match tabGet none s.tp.drains t with
  | some d =>
    if (s.tenant t).state = TenState.healthy ∨ (s.tenant t).state = TenState.degraded then
      if cellsOf (data.length + 4) ≤ s.tenFreeReserved t then
        let f : HeldFrame := { port := port, trunk := trunk, data := data }
        { s with tp := { s.tp with drains := tabPut none s.tp.drains t (some { d with held := d.held ++ [f] }) } }.occur
          25 0o011
      else s.refuseFirst t rcQuota
    else s.classifyAdmit t port trunk data
  | none => s.classifyAdmit t port trunk data

end State

end Sys2Proof.Machine
end

