-- ==== Sys2Proof/Machine/Pending.lean ====
section
/-!
DEFINITION. D sections that wait for their boundary (04_spango_image R97, R98, Table 4.7) and the end of an apply.
-/

namespace Sys2Proof.Machine

/-- The sections with one of them replaced, added or removed. -/
def sectionsPut (l : List Section) (type inst : Nat) (new : Option Section) : List Section :=
  match new with
  | some c =>
    if l.any (fun d => d.type = type && d.inst = inst) then
      l.map (fun d => if d.type = type && d.inst = inst then c else d)
    else l ++ [c]
  | none => l.filter (fun d => !(d.type = type && d.inst = inst))

namespace State

def pending? (s : State) (type inst : Nat) : Option PendingSection :=
  s.image.pending.find? (fun p => p.type = type && p.inst = inst)

/-- A section takes effect for its unit. -/
def putSection (s : State) (type inst : Nat) (new : Option Section) : State :=
  { s with image := { s.image with
      running := s.image.running.map (fun i => { i with sections := sectionsPut i.sections type inst new }) } }

/-- The last boundary has been reached: the apply completes (Table 4.8 step 6) (DEDUCED, notes/assumptions/67). -/
def settleApply (s : State) : State :=
  match s.image.applying with
  | some i =>
    if s.image.pending.isEmpty && decide (s.image.applyState = 2) then
      { s with image := { s.image with
          applyState := 3, runSource := 4, applying := none,
          running := s.image.running.map (fun (r : Image) => { i with sections := r.sections }) } }.emitDev 0o020004
    else s
  | none => s

/-- A pending section reaches its boundary. -/
def takePending (s : State) (type inst : Nat) : State :=
  match s.pending? type inst with
  | some p =>
    let s := s.putSection type inst p.new
    { s with image := { s.image with
        pending := s.image.pending.filter (fun d => !(d.type = type && d.inst = inst)) } }
  | none => s

/-- A held frame is presented again, under the sections now in force (R248). -/
def presentHeld (s : State) (t : Nat) (f : HeldFrame) : State := s.classifyAdmit t f.port f.trunk f.data

/-- MODERATION as a section sets it for a tenant, or as R227 gives it without one. -/
def moderationOf (s : State) (t : Nat) : List Word :=
  match s.inForce? 0o025 0 with
  | some c => wordsFrom c.body (4 * t) 4
  | none => defaultModeration

/-- A tenant gets its first TENANT_MAP, or loses it: it begins, or is no longer, a configured tenant (R206, R214). -/
def tenantMapped (s : State) (t : Nat) : State :=
  if s.configured t then
    (if (s.tenant t).moderation.isEmpty then s.setTenant t { s.tenant t with moderation := s.moderationOf t } else s)
  else s.setTenant t {}

/-- All pending sections of a tenant apply together, the drain ends, and the frames it held are classified in arrival
order (R248, Table 4.7). -/
def applyTenant (s : State) (t : Nat) : State :=
  let s := (((s.takePending 0o013 t).takePending 0o014 t).takePending 0o015 t).tenantMapped t
  let d := tabGet none s.tp.drains t
  let s := s.endDrain t
  let s := match d with
    | some d => d.held.foldl (fun (s : State) f => s.presentHeld t f) s
    | none => s
  s.flowAll.settleApply

/-- Some TENANT_MAP, CLASSIFIER or QUEUES section of a tenant is pending. -/
def tenantPending (s : State) (t : Nat) : Bool :=
  s.image.pending.any (fun p => (p.type = 0o013 || p.type = 0o014 || p.type = 0o015) && p.inst = t)

end State

end Sys2Proof.Machine
end

