-- ==== Sys2Proof/Machine/Respond.lean ====
section
/-!
DEFINITION. Serving a verb (17_operator_access R434 to R444): the session it came from, its condition, and its
response; sessions that close.
-/

namespace Sys2Proof.Machine

/-! STATUS codes (Table 17.5). -/
def stDone : Nat := 0o00
def stNotWritable : Nat := 0o01
def stNotLive : Nat := 0o02
def stBadValue : Nat := 0o03
def stStale : Nat := 0o04
def stNotPermitted : Nat := 0o05
def stWrongState : Nat := 0o06
def stPrecondition : Nat := 0o07
def stBusy : Nat := 0o10
def stNoWindow : Nat := 0o11
def stInProgress : Nat := 0o12
def stFenced : Nat := 0o13
def stEntropy : Nat := 0o14
def stOtpFail : Nat := 0o15
def stPending : Nat := 0o16
def stAccepted : Nat := 0o17
def stSDiff : Nat := 0o20
def stVerify : Nat := 0o21

/-- What serving a verb gives: the state, the STATUS and the result words. -/
structure Served where
  st : State
  status : Nat
  words : List Word := []

/-- The least and most argument words of a verb (Table 17.6); none for an unknown verb. -/
def verbWords (verb : Nat) : Option (Nat × Nat) :=
  match verb with
  | 0o01 => some (2, 2)
  | 0o02 => some (3, 18)
  | 0o04 => some (3, 3)
  | 0o05 => some (0, 0)
  | 0o06 => some (7, 459)
  | 0o07 => some (0, 0)
  | 0o10 => some (0, 0)
  | 0o11 => some (1, 23)
  | 0o12 => some (1, 1)
  | 0o13 => some (1, 1)
  | 0o14 => some (1, 253)
  | 0o15 => some (1, 1)
  | 0o16 => some (4, 4)
  | 0o17 => some (1, 3)
  | 0o20 => some (1, 1)
  | 0o21 => some (0, 0)
  | _ => none

/-- VERB is known, b0 [10] is 0, and WORDS is one of the verb's lengths and fills the groups of the body (R10, R439, R441). -/
def requestForm (body : List Nat) : Bool :=
  let b0 := body.headD 0
  let words := bits b0 9 0
  match verbWords (bits b0 17 12) with
  | some (lo, hi) =>
    let k := if b0.testBit 11 then 3 else 1
    !b0.testBit 10 && decide (k + lo ≤ words ∧ words ≤ k + hi) && decide (4 * ((words + 3) / 4) = body.length)
  | none => false

/-- The body of a response (R439). -/
def Response.body (r : Response) : List Nat :=
  (fld 17 12 r.verb + fld 11 6 r.status) :: wideWord 2 r.seq 0 :: wideWord 2 r.seq 1 :: (4 + r.words.length) ::
    r.words.map BitVec.toNat

namespace State

/-- A frame of a session leaves for its principal: a tenant's through the management queue of the lane on which it opened the
session (R232, R428). -/
def toPrincipal (s : State) (c : Caller) (kind : Nat) (body : List Nat) : State :=
  match c with
  | .tenant t => s.queueMgmt (tabGet {} s.sp.ten t).lane (.session t kind body)
  | _ =>
    match s.sealFrame c kind body, s.session? c with
    | some (m, s), some v => ((s.send (.mport (s.mportFrame v.peer m))).frameOut 17 (sessionFrame false body.length)).settleSeq c
    | _, _ => s

/-- The response leaves: it is stored for a retransmission, and uses one device SEQ (R436, R437). A request without a session is
answered with PLAIN_RESPONSE (R438). -/
def respond (s : State) (c : Caller) (verb status : Nat) (words : List Word) : State :=
  let s := s.occur 35 0o001
  match s.session? c with
  | some v =>
    let r : Response := { dest := c, verb := verb, status := status, seq := v.rxSeq, words := words }
    ((s.setSession c { v with stored := some r, busy := false }).send (.response r)).toPrincipal c 0o04 r.body
  | none =>
    let r : Response := { dest := c, verb := verb, status := status, seq := s.sp.plainSeq, words := words }
    let m := packNats (spHeader 0o10 false 0 ((r.body.length + 3) / 4) s.sp.plainSeq ++ r.body)
    ((s.send (.response r)).send (.mport (s.mportFrame s.sp.plainPeer m))).frameOut 17 (plainFrame r.body.length)

def sessionIdle (s : State) : Nat := bits (s.cfg 0o001 0 6) 17 6

/-- A REQUEST is taken: its verb is the next command of its session, except that an unknown VERB and a wrong WORDS are answered
here (R437, R441) (DEDUCED, notes/assumptions/63). -/
def takeRequest (s : State) (c : Caller) (seq tag : Nat) (body : List Nat) : State :=
  match s.session? c with
  | some v =>
    let s := s.setSession c { v with
      state := .opened, rxSeq := seq, rxTag := tag, busy := true, until_ := s.now + secs s.sessionIdle }
    let s := if v.state = SessState.opening then s.emit 0o160001 (pathKind c) (pathNumber c) (sessArg c 0) else s
    if requestForm body then s else s.respond c (bits (body.headD 0) 17 12) stBadValue []
  | none => s

/-- The stored response is sent again, with a new device SEQ (R437). -/
def resend (s : State) (c : Caller) (r : Response) : State :=
  { s with sp := { s.sp with resent := satInc 18 s.sp.resent } }.toPrincipal c 0o04 r.body

/-- A verified REQUEST meets its session by its SEQ (R434, R436, R437); one that comes before the session's verb has been answered
waits (R430). -/
def handleRequest (s : State) (c : Caller) (seq tag : Nat) (body : List Nat) : State :=
  let replayed := { s with sp := { s.sp with replayed := satInc 18 s.sp.replayed } }.occur 35 0o002
  match s.session? c with
  | none => s
  | some v =>
    if v.state = SessState.opening then (if seq = 1 then s.takeRequest c seq tag body else replayed)
    else if seq = v.rxSeq ∧ tag = v.rxTag then
      match v.busy, v.stored with
      | false, some r => s.resend c r
      | _, _ => s
    else if v.rxSeq < seq then
      if v.busy then
        { s with sp := { s.sp with held := s.sp.held ++ [{ caller := c, seq := seq, tag := tag, body := body }] } }
      else s.takeRequest c seq tag body
    else replayed

/-- The REQUESTs of a session that waited for the end of its verb are handled, until one of them is taken. -/
def takeHeld (s : State) (c : Caller) : Nat → State
  | 0 => s
  | k + 1 =>
    let busy := match s.session? c with
      | some v => v.busy
      | none => true
    match s.sp.held.find? (fun f => decide (f.caller = c)) with
    | some f =>
      if busy then s
      else ({ s with sp := { s.sp with held := s.sp.held.erase f } }.handleRequest c f.seq f.tag f.body).takeHeld c k
    | none => s

/-- A verb that its principal may not use (R441, R451). -/
def countNotPermitted (s : State) (c : Caller) : State :=
  { s with sp := { s.sp with notPermitted := satInc 18 s.sp.notPermitted } }.emitOnce 0o161005 (pathKind c)
    (pathNumber c) (pathArg c)

/-- The condition of a request against the generation-bearing word of the unit the verb acts on (R444): none when it
holds, else the STATUS. -/
def condStatus (r : VerbCall) (unit : Option (Nat × Nat)) : Option Nat :=
  match r.cond with
  | none => none
  | some (a, g) =>
    match unit with
    | some (a', g') => if a.toNat = a' then (if g.toNat = g' then none else some stStale) else some stBadValue
    | none => some stBadValue

/-- The verb is served up to its result: its session is OPEN, its principal may use it, its condition holds (R435, R441,
R444). `unit` is the address and generation of the word a condition must name (DEDUCED, notes/assumptions/63). -/
def serveWith (s : State) (r : VerbCall) (allowed : Bool) (unit : Option (Nat × Nat)) (run : State → Served) : Served :=
  if allowed then
    match condStatus r unit with
    | some st => { st := s, status := st }
    | none => run s
  else { st := s.countNotPermitted r.caller, status := stNotPermitted }

/-- Content of the CONTROL record of a served request (Table 20.2); `args` are the words from a0 that R493 does not omit. -/
def controlRecord (s : State) (c : Caller) (verb status : Nat) (args : List Nat) : State :=
  s.note (.rcd 7 0o11 ((fld 17 12 verb + fld 11 6 status + sessArg c 0) :: (args ++ List.replicate (2 - args.length) 0).take 62))

/-- The response to a verb that was accepted before. -/
def respondLater (s : State) (c : Caller) (verb status : Nat) (words : List Word) (args : List Nat) : State :=
  let s := (s.respond c verb status words).controlRecord c verb status args
  s.takeHeld c s.sp.held.length

/-- A verb served and answered at once; `args` are its words from a0, for the journal. -/
def serve (s : State) (r : VerbCall) (verb : Nat) (allowed : Bool) (unit : Option (Nat × Nat))
    (args : List Nat) (run : State → Served) : State :=
  if s.callerOpen r.caller then
    let d := s.serveWith r allowed unit run
    d.st.respondLater r.caller verb d.status d.words args
  else { s with sp := { s.sp with sessionMiss := satInc 18 s.sp.sessionMiss } }.occur 35 0o002

/-- The caller is the operator. -/
def isOperator : Caller → Bool
  | .operator _ => true
  | _ => false

end State

end Sys2Proof.Machine
end

