-- ==== Sys2Proof/Machine/TenantOps.lean ====
section
/-!
DEFINITION. Faults and resets of a tenant (09_tenants R214 to R222).
-/

namespace Sys2Proof.Machine

namespace State

/-! ## Faults -/

def tenMode (s : State) (t : Nat) : Bool := (s.cfg 0o013 t 0).testBit 15
def tenAuto (s : State) (t : Nat) : Bool := (s.cfg 0o013 t 0).testBit 16

/-- What ends when a tenant leaves FAULTED (Table 18.5). -/
def leaveFaulted (s : State) (t : Nat) : State := (s.endAlarm 0o062003 1 t).endAlarm 0o212001 1 t

/-- The standing delay requests of a tenant are released at step 1 of its reset (Table 10.6). -/
def releaseDelays (s : State) (t : Nat) : State :=
  let l := s.tp.delay.filter (fun k => decide (k / 8 = t))
  let s := { s with tp := { s.tp with delay := s.tp.delay.filter (fun k => decide (k / 8 ≠ t)) } }
  let s := (s.occurs 25 0o010 0 l.length).markReleased (l.flatMap (fun k => s.flowQueues t (k % 8))) (some s.now)
  s.flowAll

/-- A reset is accepted (R217 to R221): RESETTING, admission closed, delay requests released; every queued frame refused at
once in discard mode. An unfence is not counted into the window, but RESET_COUNT, the resets since start, counts its reset too
(DEDUCED, notes/assumptions/34). -/
def startReset (s : State) (t trigger : Nat) : State :=
  let v := s.tenant t
  let unfence := decide (trigger = 4)
  let discard := unfence || decide (v.state = TenState.faulted) || !s.tenMode t
  let window := if unfence then [] else v.window ++ [s.now]
  let r : TenReset := { phase := if discard then .emptying else .draining, started := s.now,
                        fences := decide (window.length ≥ 3) }
  let was := v.state
  let s := s.tenEnter t .resetting { v with
    degCause := 0, trigger := trigger, window := window.drop (window.length - 3),
    resetCount := satInc 18 v.resetCount, reset := some r }
  let s := if was = TenState.faulted then s.leaveFaulted t else s
  let s := if was = TenState.fenced then s.endAlarm 0o062006 1 t else s
  let s := s.emit 0o062004 1 t trigger
  let s := if discard then s.refuseTenant t rcTenantReset else s
  s.releaseDelays t

/-- The operator becomes the trigger of a reset that a tenant's request of the same cycle has made (Table 9.9): the event of
that cycle names it (DEDUCED, notes/assumptions/34). -/
def retrigger (s : State) (t : Nat) : State :=
  let time := (s.now - s.start.t0) % 2 ^ 54
  let s := { s with alarm := { s.alarm with
    ring := s.alarm.ring.map (fun (r : EventRec) =>
      if r.event = 0o062004 && r.number = t && r.time = time then { r with arg := 2 } else r)
    entries := tabMap {} s.alarm.entries (fun _ (n : AlarmEntry) =>
      if decide (n.state ≠ AlarmState.free) && n.event = 0o062004 && n.number = t && n.arg = 1 then { n with arg := 2 } else n) } }
  let v := s.tenant t
  s.setTenant t { v with
    trigger := 2
    ring := v.ring.map (fun (r : TenRec) => if r.event = 0o062004 && r.kind = 0 && r.time = time then { r with arg := 2 } else r) }

/-- A reset verb in RESETTING (R217): DONE when the reset was accepted in this very cycle, with the operator as trigger where a
tenant's request has made it, else IN-PROGRESS. -/
def resetAgain (s : State) (t : Nat) (operator : Bool) : Served :=
  let v := s.tenant t
  match v.reset with
  | some r =>
    if r.started = s.now then { st := if operator && v.trigger = 1 then s.retrigger t else s, status := stDone }
    else { st := s, status := stInProgress }
  | none => { st := s, status := stInProgress }

/-- A fault is contained to a tenant (R216); with AUTO_RESET a reset follows at once (DEDUCED, notes/assumptions/34). -/
def faultTenant (s : State) (t cause : Nat) : State :=
  let v := s.tenant t
  if !s.configured t then s
  else match v.state with
    | .healthy | .degraded =>
      let s := s.tenEnter t .faulted { v with degCause := 0, faultCause := cause }
      let s := s.emit 0o062003 1 t cause
      if s.tenAuto t then s.startReset t 3 else s
    | .resetting | .faulted | .fenced => s.setTenant t { v with faultCause := cause }

/-- The containment of a slot that became FAULT (Table 18.5): a tenant's memory key faults the tenant, the device memory
key makes memory unavailable; a link slot's stream becomes STUCK at its next AN change. -/
def containSlotFault (s : State) (n : Nat) : State :=
  if 65536 ≤ n ∧ n ≤ 65551 then s.faultTenant (n - 65536) 3
  else if n = slotDevMem then { s with start := { s.start with memState := .unavailable } }
  else s

/-- A destroy whose failed verification is contained. -/
def destroyContained (s : State) (n : Nat) : State :=
  let before := (s.slot n).state
  let s := s.destroySlot n
  if (s.slot n).state = SlotState.fault && decide (before ≠ SlotState.fault) then s.containSlotFault n else s

/-- A unit destroys a slot; in a replay the KEY records do (Table 20.5). -/
def destroyKey (s : State) (n : Nat) : State := if s.replaying then s else s.destroyContained n

/-! ## Steps of a reset (Table 9.5) -/

def setReset (s : State) (t : Nat) (r : TenReset) : State :=
  s.setTenant t { s.tenant t with reset := some r }

/-- A reset ends: HEALTHY, or FENCED when R221 fences; a memory key slot in FAULT faults the tenant at once (Table 9.9) (DEDUCED, notes/assumptions/34). -/
def finishReset (s : State) (t : Nat) (r : TenReset) (fencedByEpoch : Bool) : State :=
  let dur := s.now - r.started - r.exempt
  let v := s.tenant t
  let v := { v with reset := none, resetDur := sat 18 (dur / us 10), exemptDur := sat 18 (r.exempt / us 10) }
  let s := s.setTenant t v
  let s := if r.fences || fencedByEpoch then
      (s.tenEnter t .fenced { v with fencedForStart := fencedByEpoch }).emit 0o062006 1 t 0
    else (s.tenEnter t .healthy v).emit 0o060005 1 t (sat 18 (dur / us 10))
  let s := s.endAlarm 0o062004 1 t
  if (s.slot (slotMem t)).state = SlotState.fault && decide ((s.tenant t).state = TenState.healthy) then s.faultTenant t 3
  else s

/-- Step 5 begins (R218, R317): the tenant's region is being reset. A region whose epoch is exhausted is not reset and
fences the tenant; in memory quarantine the reset completes without its region reset (Table 13.11). -/
def resetToRegion (s : State) (t : Nat) (r : TenReset) : State :=
  let s := s.closeSession (tenantCaller t) 4
  let r := { r with phase := .region, exempt := if r.waitFrom = 0 then 0 else s.now - r.waitFrom }
  let s := s.setReset t r
  let g := s.region t
  if s.mem.quarantined then s.finishReset t r false
  else if g.epoch ≥ 2 ^ 24 - 1 then (s.emitOwn 0o123006 7 t (fld 17 13 t)).finishReset t r true
  else s.setRegion t { g with resetting := true }

/-- The new memory key is delivered: it replaces the old key in one commit (step 4). -/
def tenantKeyDelivered (s : State) (t value : Nat) : State :=
  match (s.tenant t).reset with
  | some r =>
    if r.phase = ResetPhase.region then s
    else ((s.installKey (slotMem t) (slotValue value)).note (.rcd 3 0o13 [fld 17 12 5, t, 0])).resetToRegion t r
  | none => s

/-- The request for the memory key failed: it is repeated 1 ms later, except while the TRNG has FAILED (Table 6.7). -/
def tenantKeyFailed (s : State) (t : Nat) : State :=
  match (s.tenant t).reset with
  | some r => s.setReset t { r with phase := .keyWait true }
  | none => s

/-- Step 4 asks the DRBG for the new memory key (R218, R154); in a replay its delivery is forced (R509). -/
def askTenantKey (s : State) (t : Nat) : State :=
  match (if s.replaying then (Draw.waits, s) else s.entropyAsk (.tenantKey t)) with
  | (.granted n, s) => s.tenantKeyDelivered t n
  | (.waits, s) => match (s.tenant t).reset with
    | some r => s.setReset t { r with phase := .keyWait false, waitFrom := if r.waitFrom = 0 then s.now else r.waitFrom }
    | none => s
  | (.fails, s) => match (s.tenant t).reset with
    | some r => s.setReset t { r with phase := .keyWait true, waitFrom := if r.waitFrom = 0 then s.now else r.waitFrom }
    | none => s

end State

end Sys2Proof.Machine
end

