-- ==== Sys2Proof/Machine/LinkOps.lean ====
section
/-!
DEFINITION. The transport of Causeway and Tollhouse-link messages (14_causeway R332 to R339): credit, SEQ, acknowledgement
and go-back of each way and class; the partner's entry to UP and to ABSENT (R341 to R343).
-/

namespace Sys2Proof.Machine

def wayNo : Way → Nat
  | .down => 0
  | .up => 1
  | .thDown => 2
  | .thUp => 3

def clsNo : MsgClass → Nat
  | .state => 1
  | .station => 2
  | .legal => 3

/-- Credit a sender holds at every entry to UP (Table 14.1); the Tollhouse link carries class 3 only, under the credit of its
direction. -/
def credit0 (w : Way) (c : MsgClass) : Nat :=
  match w, c with
  | .down, .state => 1024
  | .up, .state => 1024
  | .down, .station => 4096
  | .up, .station => 16384
  | .down, .legal => 2048
  | .up, .legal => 4096
  | .thDown, .legal => 2048
  | .thUp, .legal => 4096
  | .thDown, _ => 0
  | .thUp, _ => 0

/-- Sends the messages that credit and the window of 7 let go, in order (R337, R339). -/
def Chan.pump : Nat → Chan → Chan
  | 0, c => c
  | k + 1, c =>
    match c.waiting with
    | [] => c
    | m :: rest =>
      if c.unacked.length < 7 ∧ m.cost ≤ c.credit then
        Chan.pump k { c with
          waiting := rest, credit := c.credit - m.cost, next := (c.next + 1) % 8,
          unacked := c.unacked ++ [(c.next, m)], wire := c.wire ++ [(c.next, m)] }
      else c

/-- A class as it starts afresh, with what had not been acknowledged in front of what waits. -/
def Chan.fresh (c : Chan) (credit : Nat) : Chan :=
  { credit := credit, waiting := c.unacked.map Prod.snd ++ c.waiting }

/-- Messages received in order and not yet acknowledged. -/
def Chan.received (c : Chan) : Nat :=
  match c.unacked.head? with
  | some (seq, _) => min ((c.expected + 8 - seq) % 8) c.unacked.length
  | none => 0

namespace State

def chan (s : State) (w : Way) (c : MsgClass) : Chan := tabGet {} s.cway.chans (3 * wayNo w + clsNo c)
def setChan (s : State) (w : Way) (c : MsgClass) (v : Chan) : State :=
  { s with cway := { s.cway with chans := tabPut {} s.cway.chans (3 * wayNo w + clsNo c) v } }

/-- PARTNER is UP or SINGLE. -/
def linked (s : State) : Bool := !s.fieldAbsent

/-- The Verge die runs: out of reset, its clock locked. -/
def vergeRuns (s : State) : Bool := s.verge.locked && !s.verge.vf33Low && !s.verge.rstLow && !s.verge.clockLost

/-- The Tollhouse runs on VT_33 and drives its link (R348, R393). -/
def tollOnVt (s : State) : Bool := s.toll.booted && !s.toll.onBackup

def wayOpen (s : State) (w : Way) : Bool :=
  match w with
  | .down | .up => s.linked && s.vergeRuns
  | .thDown | .thUp => s.verge.thLink && s.tollOnVt && s.vergeRuns

/-- Messages leave on a way, each with its SEQ. -/
def sendWords (s : State) (w : Way) (l : List (Nat × Msg)) : State :=
  l.foldl (fun s e => s.send (.message w (e.2.words e.1))) s

/-- What credit and the window let go is sent. -/
def pump (s : State) (w : Way) (c : MsgClass) : State :=
  if s.wayOpen w then
    let v := (s.chan w c).pump 8
    let new := v.wire.drop (s.chan w c).wire.length
    let n := new.length
    let s := (s.setChan w c v).sendWords w new
    if w = Way.down ∧ n ≠ 0 then
      let s := s.occurs 34 0o001 0 n
      if c = MsgClass.station then s.occurs 34 0o006 0 n else s
    else s
  else s

/-- A message becomes ready to be sent. -/
def sendMsg (s : State) (w : Way) (c : MsgClass) (m : Msg) : State :=
  (s.setChan w c { s.chan w c with waiting := (s.chan w c).waiting ++ [m] }).pump w c

/-- A received message that is discarded at the host counts, and every discard sends a NAK, once for a gap (R335, R339)
(DEDUCED, notes/assumptions/48). -/
def discard (s : State) (w : Way) (c : MsgClass) (f : MsgFault) (v : Chan) : State :=
  let again := v.naked && decide (f = MsgFault.good)
  let s := s.setChan w c { v with naked := true }
  if w = Way.up then
    let u := s.cway
    { s with cway := { u with
        crcErr := if f = MsgFault.crc then satInc 36 u.crcErr else u.crcErr
        badType := if f = MsgFault.badType then satInc 18 u.badType else u.badType
        naks := if again then u.naks else satInc 18 u.naks } }.occurs 34 0o004 0 (if f = MsgFault.crc then 1 else 0)
  else s

/-- The oldest message on the wire of a class arrives, when `want` holds of it: none when there is no such message, or when
it is discarded. The receiver takes messages only in SEQ order (R339) and has consumed one once its words are owed (DEDUCED,
notes/assumptions/48). -/
def receive (s : State) (w : Way) (c : MsgClass) (f : MsgFault) (want : Msg → Bool) : Option Msg × State :=
  let v := s.chan w c
  match v.wire with
  | [] => (none, s)
  | (seq, m) :: rest =>
    if !want m || !s.wayOpen w then (none, s)
    else if f ≠ MsgFault.good || decide (seq ≠ v.expected) then (none, s.discard w c f { v with wire := rest })
    else
      let s := if w = Way.up then s.occur 34 0o002 else s
      (some m, s.setChan w c { v with wire := rest, expected := (seq + 1) % 8, naked := false })

/-- The receiver has consumed a message: its words are owed to the sender (R337). -/
def consumed (s : State) (w : Way) (c : MsgClass) (m : Msg) : State :=
  s.setChan w c { s.chan w c with owed := (s.chan w c).owed + m.cost }

/-- A message that is consumed as it is received (DEDUCED, notes/assumptions/48). -/
def take (s : State) (w : Way) (c : MsgClass) (f : MsgFault) (want : Msg → Bool) : Option Msg × State :=
  match s.receive w c f want with
  | (some m, s) => (some m, s.consumed w c m)
  | (none, s) => (none, s)

/-! ## Withheld credit (R338) -/

/-- Stations whose key derivation waits (R148). -/
def stationJobs (s : State) : List Nat :=
  s.keys.derivations.filterMap (fun (j : KeyJob) => match j with
    | .station n => some n
    | .link _ => none)

/-- The host withholds station credit (R338). -/
def withheld (s : State) : Bool := decide (64 ≤ s.stationJobs.length) || s.vpFlowStands

/-! ## The partner -/

/-- PARTNER enters a state: GEN rises by 1, modulo 32 (R341). -/
def partnerEnter (s : State) (p : Partner) : State :=
  if s.cway.partner = p then s
  else { s with cway := { s.cway with partner := p, gen := (s.cway.gen + 1) % 32 } }

/-- A channel pair is good when both its channels are. -/
def pairGood (s : State) (k : Nat) : Bool := s.cway.chOk.testBit k && s.cway.chOk.testBit (k + 2)

/-- A frame bound for VP that the loss of the partner refuses (R342): counted in its queue and in FA_REFUSED. -/
def refuseFieldAbsent (s : State) (queue : Option Nat) : State :=
  let s := s.countFieldAbsent
  match queue with
  | some q => match s.tenantOfQueue q with
    | some t => s.refuse t q rcFieldAbsent
    | none => s
  | none => s

/-- The STATION_DOWN messages of a list. -/
def downFrames : List Msg → List DownFrame
  | [] => []
  | .stationDown f :: l => f :: downFrames l
  | _ :: l => downFrames l

/-- Every frame queued to VP is refused with FIELD-ABSENT. -/
def refuseVpQueues (s : State) : State :=
  (s.tp.queues.map Prod.fst).foldl (fun s q =>
    if s.qEgress q = 16 then
      match s.tenantOfQueue q with
      | some t =>
        let n := (s.queue q).frames.length
        let s := { s with cway := { s.cway with faRefused := satAdd 36 s.cway.faRefused n } }
        s.refuseQueued t q rcFieldAbsent (fun _ => true)
      | none => s
    else s) s

/-- A PORT_COMMAND whose answer is lost with the partner is answered as one issued now (R352, R444) (DEDUCED,
notes/assumptions/49). -/
def answerPorts (s : State) : State :=
  let l := s.sp.portWaiting
  l.foldl (fun s w => if w.1 = noSession then s
    else s.respondLater (.operator (Fin.ofNat 32 w.1)) 0o20 (if 8 ≤ w.2.2 then stStale else stWrongState) [] [fld 17 14 w.2.1 + w.2.2 % 8])
    { s with sp := { s.sp with portWaiting := [] } }

/-- The VP queues of the downstream frames in the host pipeline. -/
def pipelineDowns (s : State) : List Nat :=
  s.stn.pipeline.filterMap (fun (i : StnItem) => match i with
    | .down q _ => some q
    | .up _ _ _ => none)

/-- The downstream frames leave the host pipeline. -/
def dropDowns (s : State) : State :=
  { s with stn := { s.stn with pipeline := s.stn.pipeline.filter (fun (i : StnItem) => match i with
    | .down _ _ => false
    | .up _ _ _ => true) } }

/-- The entry to ABSENT (R341, R342); ARG of 0o133002 after UP or SINGLE. -/
def enterAbsent (s : State) (arg : Nat) : State :=
  let was := s.linked
  let down := s.chan .down .station
  let lost := downFrames (down.unacked.map Prod.snd ++ down.waiting)
  let hold := fun (s : State) (c : MsgClass) => s.setChan .up c ((s.chan .up c).fresh 0)
  let s := (((s.setChan .down .state {}).setChan .down .station {}).setChan .down .legal {}).setChan .up .state {}
  let s := hold (hold s .station) .legal
  let s := { s with cway := { s.cway with chOk := 0, thLinkSeen := false, th := if s.isN then 2 else 0 } }
  let s := s.partnerEnter .absent
  let s := lost.foldl (fun s f => s.refuseFieldAbsent f.queue) s
  let s := s.pipelineDowns.foldl (fun s q => s.refuseFieldAbsent (some q)) s.dropDowns
  let s := s.refuseVpQueues.answerPorts
  if was then
    { s with cway := { s.cway with absentEvents := satInc 18 s.cway.absentEvents } }.emitOwn 0o133002 0 0 arg
  else s

/-- Channels fail (R340, R341): the other pair carries on alone, or the partner is ABSENT. -/
def channelsFail (s : State) (mask arg : Nat) : State :=
  let left := maskOf 4 (fun i => s.cway.chOk.testBit i && !mask.testBit i)
  let hit := firstBelow 2 (fun k => s.pairGood k && !(left.testBit k && left.testBit (k + 2)))
  let s := { s with cway := { s.cway with chOk := left } }
  if !s.linked then s
  else if !s.pairGood 0 && !s.pairGood 1 then s.enterAbsent arg
  else match hit with
    | some k =>
      if s.cway.partner = Partner.up then (s.partnerEnter .single).emitOwn 0o131003 0 0 k else s
    | none => s

/-- Generation that the host holds of a port (R353). -/
def shadowWord (s : State) (unit i : Nat) : Nat := (((tabGet [] s.cway.shadow unit)[i]?).getD 0)

/-- PORT_CONFIG of a port: MODE off without a section (R364). -/
def sendPortConfig (s : State) (p : Nat) : State :=
  let v := match s.inForce? 0o020 p with
    | some c => c.body.take 6
    | none => List.replicate 6 0
  s.sendMsg .down .state (.portConfig p ((bits (s.shadowWord p 0) 4 0 + 1) % 32) v)

/-- Class 3 messages toward the Tollhouse that have not been answered, and the acknowledgement of what has been taken, are
sent again (R342, R347). -/
def resendLegal (s : State) : State :=
  let c := s.chan .down .legal
  let s := s.cway.outstanding.foldl (fun s e =>
    if c.waiting.contains e.2 || c.unacked.any (fun u => decide (u.2 = e.2)) then s else s.sendMsg .down .legal e.2) s
  if s.cway.thLast = 0 then s else s.sendMsg .down .legal (.thAck s.cway.thLast)

/-- A message toward the Tollhouse takes the next HOST_SEQ, from 1 modulo 262,144 and never 0 (R334). -/
def nextHostSeq (s : State) : Nat := s.cway.nextHostSeq

def sendToTollhouse (s : State) (m : Nat → Msg) : State :=
  let n := s.nextHostSeq
  let s := { s with cway := { s.cway with
    nextHostSeq := n % 262143 + 1, outstanding := s.cway.outstanding ++ [(n, m n)] } }
  if s.linked then s.sendMsg .down .legal (m n) else s

end State

end Sys2Proof.Machine
end

