-- ==== Sys2Proof/Machine/Nirolfold.lean ====
section
/-!
DEFINITION. The Nirolfold frame as bytes (15_verge_and_stations R366 to R368, Table 15.2), and the frame in which its telemetry crosses
VP (R378, Table 15.7).
-/

namespace Sys2Proof.Machine

/-! ## Fields -/

def nfLen (f : List Nat) : Nat := pairAt f 2
def nfVersion (f : List Nat) : Nat := byteAt f 4 / 16
def nfMetered (f : List Nat) : Bool := (byteAt f 4).testBit 3
def nfType (f : List Nat) : Nat := byteAt f 4 % 8
def nfMlen (f : List Nat) : Nat := byteAt f 5
def nfStation (f : List Nat) : Nat := pairAt f 6
def nfSeq (f : List Nat) : Nat := ofBytes ((f.drop 8).take 6)
def nfEcho (f : List Nat) : Nat := ofBytes ((f.drop 14).take 6)
def nfMeter (f : List Nat) : List Nat := (f.drop 20).take (nfMlen f)

/-- Bytes of TELEMETRY: what LENGTH leaves beside the other fields. -/
def nfTextLen (f : List Nat) : Nat := f.length - 32 - nfMlen f
def nfText (f : List Nat) : List Nat := (f.drop (20 + nfMlen f)).take (nfTextLen f)
def nfMic (f : List Nat) : Nat := ofBytes ((f.drop (f.length - 12)).take 8)

/-- The bytes begin with SOF. -/
def nfSof (f : List Nat) : Bool := decide (f.take 2 = [0xD3, 0x91])

/-- The checks of R368, after which a frame is discarded. -/
def frameBad (f : List Nat) : Bool :=
  decide (nfLen f < 32 ∨ 1147 < nfLen f) || decide (f.length ≠ nfLen f) || decide (nfVersion f ≠ 1 ∨ nfType f ≠ 1) ||
    !(if nfMetered f then decide (24 ≤ nfMlen f ∧ nfMlen f ≤ 200) else decide (nfMlen f = 0)) ||
    decide (nfLen f < 32 + nfMlen f) || !fcsGood f

/-! ## CCM (R367) -/

def nfNonce (station seq type : Nat) : List Nat := beBytes 2 station ++ beBytes 6 seq ++ [type, 0, 0, 0, 0]

/-- The associated data of a frame: bytes 2 to 19 + MLEN. -/
def nfAad (f : List Nat) : List Nat := (f.drop 2).take (18 + nfMlen f)

/-- The plaintext of TELEMETRY under a station key; none when the MIC does not verify. -/
def nfOpen (key : Nat) (f : List Nat) : Option (List Nat) :=
  let nonce := nfNonce (nfStation f) (nfSeq f) (nfType f)
  let text := ccmText key nonce (nfText f)
  if ccmTag key nonce (nfAad f) text = nfMic f then some text else none

/-- A frame of a TYPE under a station key, with METER bytes of a station that sends them, and what its MIC is XORed with, 0 but in a
replay (R503). -/
def nfSeal (key type station seq echo : Nat) (meter text : List Nat) (spoil : Nat) : List Nat :=
  let head := [0xD3, 0x91] ++ beBytes 2 (32 + meter.length + text.length) ++
    [0x10 + (if meter.isEmpty then 0 else 8) + type, meter.length] ++ beBytes 2 station ++ beBytes 6 seq ++ beBytes 6 echo ++ meter
  let nonce := nfNonce station seq type
  withFcs (head ++ ccmText key nonce text ++ beBytes 8 (ccmTag key nonce (head.drop 2) text ^^^ spoil))

/-! ## The VP frame (R378) -/

/-- A VP frame up to its FCS: addresses, tag, ETYPE, STATION, TLEN, SEQ and plaintext. -/
def vpFrame (dmac vlan pcp etype station seq : Nat) (text : List Nat) : List Nat :=
  padTo 60 (beBytes 6 dmac ++ [0x02, 0x4B, 0x52, 0x53] ++ beBytes 2 station ++ beBytes 2 0x8100 ++
    beBytes 2 (pcp * 2 ^ 13 + vlan) ++ beBytes 2 etype ++ beBytes 2 station ++ beBytes 2 text.length ++ beBytes 6 seq ++ text)

/-! The fields that the host reads of a frame that leaves a VP queue. -/
def vpEtype (data : List Nat) : Nat := pairAt data 16
def vpStation (data : List Nat) : Nat := pairAt data 18
def vpTlen (data : List Nat) : Nat := pairAt data 20
def vpText (data : List Nat) : List Nat := (data.drop 28).take (vpTlen data)

/-- The station of what waits in the host pipeline. -/
def StnItem.station : StnItem → Nat
  | .up _ f _ => nfStation f
  | .down _ f => vpStation f.data

end Sys2Proof.Machine
end

