-- ==== Sys2Proof/Machine/Macsec.lean ====
section
/-!
DEFINITION. The protected frame (11_link_cipher R257 to R260, Table 11.1): IEEE 802.1AE with GCM-AES-XPN-256 under the value of a
link slot.
-/

namespace Sys2Proof.Machine

/-- Bytes 0 to 27 of a protected frame: addresses, SecTAG EtherType, TCI and AN, SL, PN and SCI. -/
def secHead (addresses : List Nat) (an pn sci : Nat) : List Nat :=
  addresses ++ beBytes 2 0x88E5 ++ [0x2C + an % 4, 0] ++ beBytes 4 (pn % 2 ^ 32) ++ beBytes 8 sci

/-- The initialisation vector of a packet number under a slot (R260). -/
def xpnIv (value pn : Nat) : Nat :=
  (slotSsci value ^^^ slotSalt value >>> 64) <<< 64 ||| (pn ^^^ slotSalt value % 2 ^ 64)

/-- A client frame, its bytes up to the FCS, protected under a slot with an AN, a packet number and an SCI. -/
def secSeal (value an pn sci : Nat) (data : List Nat) : List Nat :=
  let h := secHead (data.take 12) an pn sci
  let c := gcmText (slotKey value) (xpnIv value pn) (data.drop 12)
  withFcs (h ++ c ++ beBytes 16 (gcmTag (slotKey value) (xpnIv value pn) h c))

/-- The client frame in a protected frame without its FCS; none when the ICV does not verify. -/
def secOpen (value pn : Nat) (data : List Nat) : Option (List Nat) :=
  let h := data.take 28
  let c := (data.drop 28).take (data.length - 44)
  if gcmTag (slotKey value) (xpnIv value pn) h c = ofBytes (data.drop (data.length - 16)) then
    some (data.take 12 ++ gcmText (slotKey value) (xpnIv value pn) c)
  else none

/-! The fields of a received frame that the checks read. -/
def secTci (data : List Nat) : Nat := byteAt data 14
def secSl (data : List Nat) : Nat := byteAt data 15
def secPn (data : List Nat) : Nat := ofBytes ((data.drop 16).take 4)
def secSci (data : List Nat) : Nat := ofBytes ((data.drop 20).take 8)

end Sys2Proof.Machine
end

