-- ==== Sys2Proof/Machine/StreamOps.lean ====
section
/-!
DEFINITION. Streams of the link cipher (11_link_cipher R261 to R276): entries, states, installs, packet numbers and
leases.
-/

namespace Sys2Proof.Machine

/-! ## Entries of STREAM_TABLE and PINNED_KEYS (Tables 11.2 and 11.6) -/

def entValid (e : List Word) : Bool := (wordAt e 0).toNat.testBit 17
def entLane (e : List Word) : Nat := bits (wordAt e 0).toNat 16 13
def entPinned (e : List Word) : Bool := (wordAt e 0).toNat.testBit 12
def entNotice (e : List Word) : Bool := (wordAt e 0).toNat.testBit 11
def entLog2 (e : List Word) : Nat := bits (wordAt e 1).toNat 17 12
def entMin (e : List Word) : Nat := bits (wordAt e 1).toNat 11 0
def entReplayWin (e : List Word) : Nat := (wordAt e 1).toNat
def entPeerSci (e : List Word) : Nat := wideOf (wordsFrom e 2 4)
def pinAn (p : List Word) : Nat := bits (wordAt p 0).toNat 16 15
def pinKey (p : List Word) : Nat := wideOf (wordsFrom p 1 15)
def pinSalt (p : List Word) : Nat := wideOf (wordsFrom p 16 6)
def pinSsci (p : List Word) : Nat := wideOf (wordsFrom p 22 2)
def pinInitLpn (p : List Word) : Nat := wideOf (wordsFrom p 24 4)

/-- Entry `i` of `n` words in a section; none when the section is absent or the entry not VALID (R563). -/
def entryIn (c : Option Section) (n i : Nat) : List Word :=
  match c with
  | some c => let e := wordsFrom c.body (n * i) n
    if entValid e then e else []
  | none => []

/-- Packet numbers of a band (R272). -/
def bandOf (pn : Nat) : Nat := pn / 2 ^ 51

namespace State

def txStream (s : State) (x : Nat) : TxStream := tabGet {} s.link.tx x
def setTx (s : State) (x : Nat) (v : TxStream) : State := { s with link := { s.link with tx := tabPut {} s.link.tx x v } }
def rxStream (s : State) (x : Nat) : RxStream := tabGet {} s.link.rx x
def setRx (s : State) (x : Nat) (v : RxStream) : State := { s with link := { s.link with rx := tabPut {} s.link.rx x v } }
def laneCipher (s : State) (n : Nat) : LaneCipher := tabGet {} s.link.lanes n
def setLaneCipher (s : State) (n : Nat) (v : LaneCipher) : State :=
  { s with link := { s.link with lanes := tabPut {} s.link.lanes n v } }

/-- The node number of the DEVICE section (R259, R282). -/
def nodeSet (s : State) : Bool := (s.cfg 0o001 0 0).testBit 17
def node (s : State) : Nat := bits (s.cfg 0o001 0 0) 15 0

/-- The device runs in ANALYSIS. -/
def analysis (s : State) : Bool := decide (s.cus.startState = LcState.analysis)

/-- A state or AN of a transmit stream: GEN rises by 1, modulo 32, at each change (R280). -/
def txEnter (s : State) (x : Nat) (st : TxState) (an : Nat) (v : TxStream) : State :=
  s.setTx x { v with state := st, an := an, gen := if v.state = st ∧ v.an = an then v.gen else (v.gen + 1) % 32 }

def rxEnter (s : State) (x : Nat) (st : RxState) (an : Nat) (v : RxStream) : State :=
  s.setRx x { v with state := st, an := an, gen := if v.state = st ∧ v.an = an then v.gen else (v.gen + 1) % 32 }

/-- The SSCI of a transmit stream, and that of a receive stream in ANALYSIS (R259, R275). -/
def txSsci (s : State) (x : Nat) : Nat := s.node * 2 ^ 16 + x
def rxSsci (s : State) (x : Nat) : Nat :=
  let e := (s.rxStream x).entry
  (((s.laneLead (entLane e)).bind s.lanePeer).getD 0) * 2 ^ 16 + entPeerSci e % 2 ^ 14

/-- The SCI of a transmit stream (R259). -/
def txSci (s : State) (x : Nat) : Nat := s.laneMac (entLane (s.txStream x).entry) * 2 ^ 16 + x

/-- A slot is in FAULT. -/
def slotFaulty (s : State) (n : Nat) : Bool := decide ((s.slot n).state = SlotState.fault)

/-- AN changes of all streams (Table 11.11). -/
def countRekey (s : State) : State := { s with link := { s.link with rekeysTotal := satInc 36 s.link.rekeysTotal } }

/-- A stream cannot change key, because the slot of its next AN is FAULT (R270). -/
def txStuck (s : State) (x : Nat) : State :=
  let v := s.txStream x
  if v.state = TxState.stuck then s else (s.txEnter x .stuck v.an v).emit 0o104005 3 x 0

def rxStuck (s : State) (x : Nat) : State :=
  let v := s.rxStream x
  if v.state = RxState.stuck then s else (s.rxEnter x .stuck v.an v).emit 0o104005 4 x 1

/-! ## Zheac and lease frames -/

/-- Length of the frame that carries a message of `w` words (R287). -/
def zheacLen (w : Nat) : Nat := max 64 (18 + 9 * ((w + 3) / 4))

/-- The frame of a message on a lane (R287). -/
def zheacFrame (s : State) (lane : Nat) (words : List Nat) : List Nat :=
  withFcs (padTo 60 (beBytes 6 0x034B52000001 ++ beBytes 6 (s.laneMac lane) ++ beBytes 2 0x88B5 ++ packNats words))

/-- A message becomes due on a lane (R232, R287). -/
def queueZheac (s : State) (lane : Nat) (words : List Nat) : State :=
  s.queueMgmt lane (.whole { kind := 2, bytes := s.zheacFrame lane words })

/-- The header of a message of `n` words (Table 12.2): lease messages name no receiver (DEDUCED, notes/assumptions/42). -/
def zHead (s : State) (type : Nat) (receiver : Option Nat) (hsId n : Nat) : List Nat :=
  [fld 17 12 1 + fld 11 6 type, flag 17 s.nodeSet + (if s.nodeSet then s.node else 0),
    (match receiver with
      | some r => flag 17 true + r
      | none => 0), hsId, n]

end State

/-- The key of the tags of lease messages under a pinned slot (R303). -/
def noticeKey (value : Nat) : Nat := kdf384 (beBytes 32 (slotKey value)) "KR1856-NOTICE" (beBytes 4 (slotSsci value)) 256

/-- The TAG of a lease message under a pinned slot, over its words before it. -/
def leaseTag (value : Nat) (words : List Nat) : Nat := hmac384 (beBytes 32 (noticeKey value)) (packNats words) >>> 256

namespace State

/-- A lease message leaves on a lane that is UP and is counted (R303): `slot` holds the pinned key of its stream (DEDUCED,
notes/assumptions/42). -/
def sendLease (s : State) (lane type stream slot pn challenge : Nat) : State :=
  match (if s.laneUpNow lane && !s.replayMode then s.lookup slot else none) with
  | some value =>
    let z := s.zheac
    let z :=
      if type = 6 then { z with queries := satInc 18 z.queries }
      else if type = 7 then { z with notices := satInc 18 z.notices }
      else { z with acks := satInc 18 z.acks }
    let n := if type = 7 then 22 else 18
    let m := s.zHead type none 0 n ++ [stream] ++ (if type = 6 then [] else wideWords 4 pn) ++
      (if type = 8 then [] else wideWords 4 challenge)
    ({ s with zheac := z }.send (.lease lane type stream pn challenge)).queueZheac lane
      (m ++ wideWords 8 (leaseTag value m))
  | none => s

/-! ## Leases of pinned transmit streams (R272 to R276) -/

/-- A pinned stream that draws its packet numbers from leases. -/
def leased (s : State) (v : TxStream) : Bool := entPinned v.entry && (!s.analysis || s.replaying)

/-- The current lease covers NEXT_PN. -/
def covered (v : TxStream) : Bool := decide (v.leaseStart ≤ v.nextPn ∧ v.nextPn ≤ v.leaseEnd ∧ v.leaseEnd ≠ 0)

/-- PN-EXHAUSTED until the next start (Table 11.3, R278). -/
def exhaust (s : State) (x cause : Nat) : State :=
  let v := s.txStream x
  if v.state = TxState.exhausted then s else (s.txEnter x .exhausted v.an v).emit 0o102004 3 x cause

/-- A stream can take no further lease (R274): it is exhausted once its lease is used up (DEDUCED, notes/assumptions/42). -/
def denyLease (s : State) (x cause : Nat) : State :=
  let v := s.txStream x
  let s := s.setTx x { v with asked := false, denied := some cause }
  if covered v then s else s.exhaust x cause

def askAdvance (s : State) (a : Advance) : State :=
  if s.cus.advances.contains a then s else { s with cus := { s.cus with advances := s.cus.advances ++ [a] } }

/-- A lease waits for its journal record. -/
def askJournal (s : State) (x start : Nat) : State :=
  { s with link := { s.link with journal := s.link.journal ++ [(x, start)] } }

/-- A stream needs its next lease (R272, R274). -/
def askLease (s : State) (x : Nat) : State :=
  let v := s.txStream x
  if v.asked || v.ahead.isSome || v.denied.isSome then s
  else if s.replaying then s.setTx x { v with asked := true }
  else if s.norRefuses then s.denyLease x 3
  else
    let s := s.setTx x { v with asked := true }
    if v.leaseEnd = 0 then
      match s.link.startBand with
      | some b => s.askJournal x (b * 2 ^ 51)
      | none => s.askAdvance .firstLease
    else if (v.leaseEnd + 1) % 2 ^ 51 = 0 then s.askAdvance (.band x)
    else s.askJournal x (v.leaseEnd + 1)

/-- The streams whose first lease waits for the ladder. -/
def firstWaiting (s : State) : List Nat :=
  (s.link.tx.filter (fun e => e.2.asked && decide (e.2.leaseEnd = 0))).map Prod.fst

/-- What the slot of a pinned stream takes (R271): key, salt and SSCI of its entry, or its substitute in ANALYSIS (R275, Table
20.4). -/
def pinValue (s : State) (rx : Bool) (x : Nat) (p : List Word) : Nat :=
  if s.analysis then
    substituteLink "KR1856-ANALYSIS-PINNED" (beBytes 2 x ++ [flag 0 rx]) (if rx then s.rxSsci x else s.txSsci x)
  else linkValue (pinKey p) (pinSalt p) (if rx then pinSsci p else s.txSsci x)

/-- The AN of a stream's pinned key (R271, R275). -/
def pinnedAn (s : State) (p : List Word) : Nat := if s.analysis then 0 else pinAn p

/-- The sections from which a stream takes its entries, counting a pending one. -/
def nextSection (s : State) (type b : Nat) : Option Section :=
  match s.pending? type b with
  | some p => p.new
  | none => s.inForce? type b

/-- A block's section of STREAM_TABLE or PINNED_KEYS has been taken by all of its streams: it is no longer pending. -/
def settleBlock (s : State) (type b : Nat) : State :=
  match s.pending? type b with
  | some p =>
    let ok := (List.range 64).all (fun i =>
      let x := 64 * (b % 256) + i
      if type = 0o016 then
        decide ((if b < 256 then (s.txStream x).entry else (s.rxStream x).entry) = entryIn p.new 8 i)
      else
        let e := if b < 256 then (s.txStream x).entry else (s.rxStream x).entry
        !entPinned e || decide ((if b < 256 then (s.txStream x).pin else (s.rxStream x).pin) = entryIn p.new 32 i))
    if ok then (s.takePending type b).settleApply else s
  | none => s

/-- A pinned stream changes AN, so its pending STREAM_TABLE entry takes effect first (Table 4.7, Table 4.12). -/
def entryAtAn (s : State) (x : Nat) : State :=
  let e := entryIn (s.nextSection 0o016 (x / 64)) 8 (x % 64)
  if e.isEmpty then s else (s.setTx x { s.txStream x with entry := e }).settleBlock 0o016 (x / 64)

/-- A stream that is STUCK stays so until the next start (R270). -/
def stuckOr (v : TxStream) (st : TxState) : TxState := if v.state = TxState.stuck then .stuck else st

/-- The PINNED_KEYS entry of a transmit stream takes effect at its lease (R271, R278): the key goes into the slot that its AN
selects and the packet-number sequence continues. -/
def applyTxPin (s : State) (x : Nat) : State :=
  let v := s.txStream x
  let p := entryIn (s.nextSection 0o017 (x / 64)) 32 (x % 64)
  if p = v.pin || p.isEmpty then s
  else if s.nodeSet then
    let new := decide (pinAn p ≠ v.an)
    let s := if new then s.entryAtAn x else s
    let v := s.txStream x
    let slot := slotTx x (pinAn p)
    if s.canInstall slot then
      let s := s.installKey slot (s.pinValue false x p)
      let s := s.txEnter x v.state (pinAn p) { v with
        pin := p, keyedAt := s.now, rekeys := if new then satInc 18 v.rekeys else v.rekeys }
      let s := if new then s.countRekey.emit 0o100001 3 x (pinAn p) else s
      s.settleBlock 0o017 (x / 64)
    else
      let s := s.setTx x { v with pin := p }
      (if s.slotFaulty slot then s.txStuck x else s).settleBlock 0o017 (x / 64)
  else (s.setTx x { v with pin := p }).settleBlock 0o017 (x / 64)

/-- A transmit stream sends lease notices and answers queries (R275, R276). -/
def notices (s : State) (v : TxStream) : Bool := entNotice v.entry && s.leased v

/-- A lease notice leaves for the receiver of a pinned transmit stream. -/
def sendNotice (s : State) (x pn challenge : Nat) : State :=
  let v := s.txStream x
  s.sendLease (entLane v.entry) 7 x (slotTx x v.an) pn challenge

/-- A journaled lease becomes the current one; before the first packet number of a band a stream with NOTICE sends its
notice and waits (R276). -/
def useLease (s : State) (x start : Nat) : State :=
  let v := s.txStream x
  let s := (s.setTx x { v with
    leaseStart := start, leaseEnd := start + 2 ^ 32 - 1, nextPn := start, ahead := none }).applyTxPin x
  let v := s.txStream x
  let s := match v.query with
    | some c => (s.setTx x { v with query := none }).sendNotice x start c
    | none => s
  let v := s.txStream x
  if start % 2 ^ 51 = 0 && s.notices v then
    (s.txEnter x (stuckOr v .leaseWait) v.an { v with noticeUntil := some (s.now + ms 10) }).sendNotice x start 0
  else s.txEnter x (stuckOr v .running) v.an v

/-- The 10 ms of a lease notice are over, or it has been acknowledged: its stream goes on (R276). -/
def noticeOver (s : State) (x : Nat) : State :=
  let v := s.txStream x
  s.txEnter x (stuckOr v .running) v.an { v with noticeUntil := none }

/-- The lease record of a stream has been written (R272): the lease is taken. -/
def leaseJournaled (s : State) (x start : Nat) : State :=
  let v := s.txStream x
  let s := (s.setTx x { v with asked := false }).note (.rcd 3 0o13 [fld 17 12 7, x, 0])
  let s := { s with link := { s.link with leasesTaken := satInc 18 s.link.leasesTaken } }
  let s := if start % 2 ^ 51 = 0 then
      { s with link := { s.link with leaseBand := max s.link.leaseBand (bandOf start) } }.emit 0o100006 3 x (bandOf start)
    else s
  if covered v then s.setTx x { s.txStream x with ahead := some start } else s.useLease x start

/-- The ladder advanced to `value` for the first request that waits (R272, R380). The station context unit takes it as its
DOWN_EPOCH. -/
def leaseGrantedTo (s : State) (a : Advance) (value : Nat) : State :=
  match a with
  | .firstLease =>
    let s := { s with link := { s.link with startBand := some value } }
    s.firstWaiting.foldl (fun s x => s.askJournal x (value * 2 ^ 51)) s
  | .band x => s.askJournal x (value * 2 ^ 51)
  | .downEpoch => { s with stn := { s.stn with downEpoch := value, downReady := true } }

/-- The ladder stands at 8,191 (R274). -/
def leaseDeniedTo (s : State) (a : Advance) : State :=
  match a with
  | .firstLease => s.firstWaiting.foldl (fun s x => s.denyLease x 2) s
  | .band x => s.denyLease x 2
  | .downEpoch => { s with stn := { s.stn with exhausted := true } }

/-- An advance failed before its intent pair: it is asked again at its next need (R122), at once where one stands (DEDUCED,
notes/assumptions/42). -/
def leaseAgain (s : State) (a : Advance) : State :=
  match a with
  | .firstLease =>
    let l := s.firstWaiting
    l.foldl askLease (l.foldl (fun (s : State) x => s.setTx x { s.txStream x with asked := false }) s)
  | .band x =>
    let s := s.setTx x { s.txStream x with asked := false }
    if covered (s.txStream x) then s else s.askLease x
  | .downEpoch => s.askAdvance .downEpoch

/-! ## Installs -/

/-- A pinned transmit stream takes its key (R271, R275), and asks its first lease (DEDUCED, notes/assumptions/40). -/
def startTxPin (s : State) (x : Nat) : State :=
  let v := s.txStream x
  let an := s.pinnedAn v.pin
  if !s.nodeSet then s
  else if s.canInstall (slotTx x an) then
    let s := s.installKey (slotTx x an) (s.pinValue false x v.pin)
    let v := { v with everKeyed := true, keyedAt := s.now }
    if s.analysis then s.txEnter x .running an { v with nextPn := 1 }
    else (s.txEnter x .leaseWait an v).askLease x
  else if s.slotFaulty (slotTx x an) then s.txStuck x
  else s

/-- The STREAM_TABLE entry of a transmit stream takes effect (R261, Table 4.7). -/
def applyTxEntry (s : State) (x : Nat) : State :=
  let v := s.txStream x
  let e := entryIn (s.nextSection 0o016 (x / 64)) 8 (x % 64)
  if e = v.entry then s
  else
    let pin := if entPinned e then entryIn (s.nextSection 0o017 (x / 64)) 32 (x % 64) else []
    let s :=
      if e.isEmpty then s.txEnter x .unbound v.an { v with entry := [], pin := [] }
      else if v.state = TxState.unbound then s.txEnter x .noKey v.an { v with entry := e, pin := pin }
      else s.setTx x { v with entry := e, pin := if entPinned v.entry then v.pin else pin }
    let s := if entPinned e && !entPinned v.entry && !v.everKeyed then s.startTxPin x else s
    s.settleBlock 0o016 (x / 64)

/-- The stream's transmit slot of the current AN is VALID. -/
def txKeyed (s : State) (x : Nat) : Bool := s.keyValid (slotTx x (s.txStream x).an)

/-- Zheac installs a transmit slot (R297, Table 11.5 step 3): a stream without a key runs at once, any other changes AN with
its next frame. A pending STREAM_TABLE applies first (Table 4.12). The destroy of the stream's old slot, which has not run yet,
wins over an install into it (Table 11.9). Answers whether the install succeeded (DEDUCED, notes/assumptions/40). -/
def installTx (s : State) (x an value : Nat) : Bool × State :=
  let s := s.applyTxEntry x
  let v := s.txStream x
  let slot := slotTx x an
  let destroys := match v.oldAn with
    | some a => decide (slotTx x a = slot)
    | none => false
  if !entValid v.entry || !s.nodeSet || destroys then (false, s)
  else if s.canInstall slot then
    let keyed := s.txKeyed x
    let s := s.installKey slot value
    let v := { v with failed := false, keyedAt := s.now, everKeyed := true }
    if keyed && decide (an ≠ v.an) then (true, s.setTx x { v with newAn := true })
    else (true, s.txEnter x (stuckOr v .running) an { v with nextPn := 1, newAn := false })
  else (false, if s.slotFaulty slot then s.txStuck x else s)

/-- The receive packet numbers of an AN (R267). -/
def rxPn (v : RxStream) (an : Nat) : RxPn := if an % 2 = 0 then v.even else v.odd
def setRxPn (v : RxStream) (an : Nat) (p : RxPn) : RxStream := if an % 2 = 0 then { v with even := p } else { v with odd := p }

/-- A lease query with a fresh challenge leaves for the transmitter of a receive stream (R276). -/
def queryLease (s : State) (x n : Nat) : State :=
  let v := s.rxStream x
  (s.setRx x { v with challenge := some n }).sendLease (entLane v.entry) 6 (entPeerSci v.entry % 2 ^ 14) (slotRx x v.an) 0 n

/-- A receive stream asks the DRBG for a challenge; a failed request waits for the next repeat (Table 6.7). -/
def askChallenge (s : State) (x : Nat) : State :=
  match s.entropyAsk (.challenge x) with
  | (.granted n, s) => s.queryLease x n
  | (_, s) => s

/-- A pinned receive stream takes its key (R271, R275, R276). -/
def startRxPin (s : State) (x : Nat) : State :=
  let v := s.rxStream x
  let an := s.pinnedAn v.pin
  if s.canInstall (slotRx x an) then
    let s := s.installKey (slotRx x an) (s.pinValue true x v.pin)
    if s.analysis then s.rxEnter x .running an (setRxPn v an { nextRx := 1, lowest := some 1 })
    else if entNotice v.entry then
      (s.rxEnter x .noticeWait an { setRxPn v an {} with queriedAt := s.now, repeats := 0 }).askChallenge x
    else s.rxEnter x .running an (setRxPn v an { nextRx := pinInitLpn v.pin, lowest := some (pinInitLpn v.pin) })
  else if s.slotFaulty (slotRx x an) then s.rxStuck x
  else s

/-- The STREAM_TABLE entry of a receive stream takes effect. -/
def applyRxEntry (s : State) (x : Nat) : State :=
  let v := s.rxStream x
  let b := 256 + x / 64
  let e := entryIn (s.nextSection 0o016 b) 8 (x % 64)
  if e = v.entry then s
  else
    let pin := if entPinned e then entryIn (s.nextSection 0o017 b) 32 (x % 64) else []
    let s :=
      if e.isEmpty then s.rxEnter x .unbound v.an { v with entry := [], pin := [] }
      else if v.state = RxState.unbound then s.rxEnter x .noKey v.an { v with entry := e, pin := pin }
      else s.setRx x { v with entry := e, pin := if entPinned v.entry then v.pin else pin }
    let s := if entPinned e && !entPinned v.entry && decide (v.state = RxState.unbound ∨ v.state = RxState.noKey) then
        s.startRxPin x else s
    s.settleBlock 0o016 b

/-- A PINNED_KEYS entry of a receive stream takes effect: it takes no lease, so nothing delays it; the packet numbers
continue (R271) (DEDUCED, notes/assumptions/40). -/
def applyRxPin (s : State) (x : Nat) : State :=
  let v := s.rxStream x
  let b := 256 + x / 64
  let p := entryIn (s.nextSection 0o017 b) 32 (x % 64)
  if p = v.pin || p.isEmpty then s
  else
    let slot := slotRx x (pinAn p)
    if s.canInstall slot then
      let old := rxPn v v.an
      let s := s.installKey slot (s.pinValue true x p)
      let s := if pinAn p = v.an then s else s.countRekey
      (s.rxEnter x v.state (pinAn p) { setRxPn v (pinAn p) old with pin := p }).settleBlock 0o017 b
    else
      let s := s.setRx x { v with pin := p }
      (if s.slotFaulty slot then s.rxStuck x else s).settleBlock 0o017 b

/-- Zheac installs a receive slot with LOWEST_PN 1 (Table 11.5 step 2): the old slot stays VALID in OVERLAP, unless the
peer restarted, whose other slot is destroyed (R302, R278). A pending STREAM_TABLE waits while the stream is in OVERLAP (Table
11.9). -/
def installRx (s : State) (x an value : Nat) (dropOther : Bool) : Bool × State :=
  let s := if (s.rxStream x).state = RxState.overlap then s else s.applyRxEntry x
  let v := s.rxStream x
  let slot := slotRx x an
  let other := slotRx x (an + 1)
  if !entValid v.entry then (false, s)
  else if s.canInstall slot then
    let keyed := s.keyValid (slotRx x v.an)
    let s := s.installKey slot value
    let s := if keyed && decide (an ≠ v.an) then s.countRekey else s
    let drop := dropOther && s.keyValid other
    let s := if drop then (s.destroyKey other).emit 0o100002 4 x an else s
    let st := if v.state = RxState.stuck then RxState.stuck
      else if s.keyValid other then .overlap else .running
    (true, s.rxEnter x st an (setRxPn v an { nextRx := 1, lowest := some 1 }))
  else (false, if s.slotFaulty slot then s.rxStuck x else s)

/-! ## Transmit (R264, Table 11.3) -/

/-- The next frame carries the new AN (Table 11.5 step 4). -/
def switchAn (s : State) (x : Nat) : State :=
  let v := s.txStream x
  let an := (v.an + 1) % 4
  let s := s.txEnter x (stuckOr v .running) an { v with
    newAn := false, oldAn := some v.an, nextPn := 1, rekeys := satInc 18 v.rekeys }
  ((s.occur (16 + entLane v.entry / 2) 0o007).countRekey).emit 0o100001 3 x an

/-- A frame of the stream can be selected: not while a pinned stream waits for a lease (Table 11.3). -/
def txReady (s : State) (x : Nat) : Bool :=
  let v := s.txStream x
  !(entValid v.entry && s.leased v && s.txKeyed x && decide (v.state ≠ TxState.exhausted)) ||
    (covered v && v.noticeUntil.isNone)

/-- What follows the use of a packet number by a leased stream: the next lease is journaled once three-quarters are used,
and takes over at the end (R272). -/
def leaseUsed (s : State) (x : Nat) : State :=
  let v := s.txStream x
  let s := if 3 * 2 ^ 30 ≤ v.nextPn - v.leaseStart then s.askLease x else s
  let v := s.txStream x
  if v.nextPn ≤ v.leaseEnd then s
  else match v.ahead with
    | some st => s.useLease x st
    | none => match v.denied with
      | some c => s.exhaust x c
      | none => s.txEnter x (stuckOr v .leaseWait) v.an v

/-- What the engine does with a selected frame: it refuses it, or protects it with an AN and a packet number. -/
inductive Seal where
  | refused (code : Nat)
  | sent (an pn : Nat) (bytes : List Nat)
  deriving DecidableEq, Repr

/-- The engine of lane `n` checks the stream of a selected frame, looks up its slot and assigns NEXT_PN (R264), and protects the
frame (R257) (DEDUCED, notes/assumptions/40). -/
def protectFrame (s : State) (n : Nat) (stream : Option Nat) (data : List Nat) : Seal × State :=
  match stream with
  | none => (.refused rcNoStream, s)
  | some x =>
    let v := s.txStream x
    if !entValid v.entry || decide (entLane v.entry ≠ n) then (.refused rcNoStream, s)
    else
      let s := if v.newAn then s.switchAn x else s
      let v := s.txStream x
      match s.lookup (slotTx x v.an) with
      | none => (.refused rcNoKey, if v.state = TxState.running then s.txEnter x .noKey v.an v else s)
      | some value =>
        if v.state = TxState.exhausted then (.refused rcPnExhausted, s)
        else if v.nextPn ≥ 2 ^ 64 then (.refused rcPnExhausted, s.exhaust x 1)
        else
          let c := s.laneCipher n
          let bytes := secSeal value v.an v.nextPn (s.txSci x) data
          let s := s.setLaneCipher n { c with protectedTx := satInc 36 c.protectedTx }
          let s := s.setTx x { v with nextPn := v.nextPn + 1, frames := satInc 36 v.frames }
          (.sent v.an v.nextPn bytes, if s.leased v then s.leaseUsed x else s)

end State

end Sys2Proof.Machine
end

