-- ==== Sys2Proof/Machine/StationOps.lean ====
section
/-!
DEFINITION. Station traffic on the host (15_verge_and_stations R373 to R380): the directory, the station key cache, the
station contexts, the replay rule, and downstream frames.
-/

namespace Sys2Proof.Machine

/-- The key of a station under the fleet key (Table 6.1). -/
def deriveStation (fleet station : Nat) : Nat :=
  kdf384 (beBytes 32 (slotKey fleet)) "KR1856-STATION" (beBytes 2 station) 256

/-! ## The directory (Table 15.4) -/

def dirStation (e : List Word) : Nat := bits (bodyNat e 0) 15 0
def dirValid (e : List Word) : Bool := (wordAt e 0).toNat.testBit 17
def dirResync (e : List Word) : Bool := (wordAt e 0).toNat.testBit 16
def dirPort (e : List Word) : Nat := bits (bodyNat e 1) 17 14
def dirVlan (e : List Word) : Nat := bits (bodyNat e 1) 11 0
def dirPcp (e : List Word) : Nat := bits (bodyNat e 2) 17 15
def dirEtype (e : List Word) : Nat := bits (bodyNat e 3) 15 0
def dirDmac (e : List Word) : Nat := wideOf (wordsFrom e 4 3) % 2 ^ 48

/-- The VALID entry of a station in a directory body. -/
def dirFind (body : List Word) (station : Nat) : Option (List Word) :=
  (firstBelow (body.length / 8) (fun i =>
    dirValid (wordsFrom body (8 * i) 8) && decide (dirStation (wordsFrom body (8 * i) 8) = station))).map
    (fun i => wordsFrom body (8 * i) 8)

namespace State

/-- The entry that a station uses: that of a pending directory once none of its frames is in the host pipeline (Table 4.7). -/
def dirEntry (s : State) (station : Nat) : Option (List Word) :=
  if s.stn.oldDir.contains station then (s.inForce? 0o021 0).bind (fun c => dirFind c.body station)
  else (s.nextSection 0o021 0).bind (fun c => dirFind c.body station)

/-- Stations whose frames have left the pipeline take a pending directory; after the last of them it is no longer pending
(DEDUCED, notes/assumptions/52). -/
def settleDirectory (s : State) : State :=
  let l := s.stn.oldDir.filter (fun n => s.stn.pipeline.any (fun i => decide (i.station = n)))
  let s := { s with stn := { s.stn with oldDir := l } }
  if l.isEmpty && (s.pending? 0o021 0).isSome then (s.takePending 0o021 0).settleApply else s

def ctx (s : State) (station : Nat) : StnCtx := tabGet {} s.stn.contexts station
def setCtx (s : State) (station : Nat) (v : StnCtx) : State :=
  { s with stn := { s.stn with contexts := tabPut {} s.stn.contexts station v } }

/-- The VP owner (R206). -/
def vpTenant (s : State) : Option Nat := firstBelow 16 s.vpOwner

/-- STN_REFUSED counts refusals with a code. -/
def stnCount (s : State) (code k : Nat) : State :=
  { s with stn := { s.stn with refused := tabPut 0 s.stn.refused code (satAdd 36 (tabGet 0 s.stn.refused code) k) } }

/-- Refusals against the first queue of the VP owner (R374, R381) (DEDUCED, notes/assumptions/50). -/
def vpRefuse (s : State) (code : Nat) : State :=
  match s.vpTenant with
  | some t => s.refuseCount t (64 * s.firstBlock t) code
  | none => s

/-- A station frame is refused at step 2 or later of Table 15.5 (DEDUCED, notes/assumptions/50). -/
def stnRefuse (s : State) (code : Nat) : State := (s.stnCount code 1).vpRefuse code

/-- A refusal at steps 4 to 6 also counts in the station's context when that is readable (Table 15.6). -/
def ctxRefused (s : State) (station : Nat) : State :=
  s.setCtx station { s.ctx station with refused := satInc 32 (s.ctx station).refused }

/-- The context of a station is readable (R73, R322): a line whose check has just failed refuses the frame being handled. -/
def ctxReadable (s : State) (station : Nat) : Bool :=
  s.memAccess 16 && !(s.region 16).closed && decide (s.stn.failedLine ≠ some (station / 2))

/-- The failed line's frame has been handled. -/
def ctxHandled (s : State) (station : Nat) : State :=
  if s.stn.failedLine = some (station / 2) then { s with stn := { s.stn with failedLine := none } } else s

/-! ## The station key cache (R147, R148) -/

/-- The cache entry of a station becomes the most recently used. -/
def cacheTouch (s : State) (station : Nat) : State :=
  { s with keys := { s.keys with
    cache := s.keys.cache.filter (fun (e : Nat × Nat) => decide (e.1 ≠ station)) ++
      s.keys.cache.filter (fun (e : Nat × Nat) => decide (e.1 = station)) } }

/-- A station's key from the cache, in a slot from which a lookup returns it (R147). -/
def stationKey (s : State) (station : Nat) : Option Nat :=
  (s.keys.cache.find? (fun (e : Nat × Nat) => decide (e.1 = station))).bind (fun (e : Nat × Nat) => (s.lookup (slotCache e.2)).map slotKey)

/-- A miss asks for the derivation of the station's key; one that already waits serves every frame of its station (Table 6.8). -/
def askStationKey (s : State) (station : Nat) : State :=
  let s := s.occur 32 0o005
  if s.stationJobs.contains station then s
  else { s with keys := { s.keys with
    cacheMiss := satInc 36 s.keys.cacheMiss, derivations := s.keys.derivations ++ [.station station] } }

/-- A derived key goes to a free entry, or to the entry least recently used of those without a frame in the pipeline. -/
def cacheInstall (s : State) (station key : Nat) : State :=
  let old := s.keys.cache.filter (fun e => decide (e.1 = station))
  let entry := match old.head? with
    | some e => some e.2
    | none =>
      match firstBelow 3584 (fun e => s.canInstall (slotCache e) && !s.keys.cache.any (fun c => decide (c.2 = e))) with
      | some e => some e
      | none => (s.keys.cache.find? (fun e => !s.stn.pipeline.any (fun i => decide (i.station = e.1)))).map Prod.snd
  match entry with
  | some e =>
    let s := s.installKey (slotCache e) (slotValue key)
    { s with keys := { s.keys with
      cache := s.keys.cache.filter (fun (c : Nat × Nat) => decide (c.2 ≠ e ∧ c.1 ≠ station)) ++ [(station, e)] } }
  | none => s

/-- What waits in the host pipeline takes the next place. -/
def pipelinePut (s : State) (i : StnItem) : State := { s with stn := { s.stn with pipeline := s.stn.pipeline ++ [i] } }

/-- The station key of what has come to the cache: found, and the entry most recently used, or asked for while it waits in the
pipeline (R147). -/
def withKey (s : State) (i : StnItem) (go : State → Nat → State) : State :=
  match s.stationKey i.station with
  | some k => go (((s.occur 32 0o001).occur 32 0o004).cacheTouch i.station) k
  | none => ((s.occur 32 0o001).askStationKey i.station).pipelinePut i

/-! ## Downstream (R379, R380) -/

/-- The next downstream SEQ of a station: none when its counter would pass 2^35 - 1. -/
def nextDown (s : State) (station : Nat) : Option Nat :=
  let v := (s.ctx station).downSeq
  if v = 0 then some (s.stn.downEpoch * 2 ^ 35 + 1)
  else if v % 2 ^ 35 = 2 ^ 35 - 1 then none
  else some (v + 1)

/-- A COMMAND or SYNC takes its SEQ, echoes UP_SEQ and is encrypted; DOWN_SEQ is written, and it leaves for the entry's port
(R379). -/
def sendDown (s : State) (key station port type seq : Nat) (text : List Nat) (queue : Option Nat) : State :=
  let c := s.ctx station
  (s.setCtx station { c with downSeq := seq }).sendMsg .down .station
    (.stationDown { port := port, bytes := nfSeal key type station seq c.upSeq [] text 0, queue := queue })

/-- A frame refused under RESYNC triggers a SYNC, at most one per station per second (R375) (DEDUCED, notes/assumptions/52).
-/
def sendSync (s : State) (key station : Nat) (e : List Word) : State :=
  let last := tabGet 0 s.stn.syncAt station
  if !s.stn.downReady || !s.linked || decide (last ≠ 0 ∧ s.now < last + secs 1) then s
  else match s.nextDown station with
    | some seq =>
      let s := { s with stn := { s.stn with
        syncSent := satInc 18 s.stn.syncSent, syncAt := tabPut 0 s.stn.syncAt station (max 1 s.now) } }
      s.sendDown key station (dirPort e) 3 seq [] none
    | none => s

/-! ## Upstream (Table 15.5) -/

/-- A REPLAY or ICV refusal: the first of a station in each second emits 0o141006. -/
def stnSuspect (s : State) (station code : Nat) : State :=
  ((s.stnRefuse code).ctxRefused station).emitOnceKey station 0o141006 6 0 code

/-- The replay rule on a SEQ and an ECHO (R375) (DEDUCED, notes/assumptions/52). -/
def replayAccepts (s : State) (e : List Word) (station seq echo : Nat) : Bool :=
  let c := s.ctx station
  if c.valid then decide (c.upSeq < seq)
  else !dirResync e ||
    decide (echo / 2 ^ 35 = s.stn.downEpoch ∧ 1 ≤ echo % 2 ^ 35 ∧ echo % 2 ^ 35 ≤ c.downSeq % 2 ^ 35)

/-- The VP frame of a frame's telemetry under a directory entry (R378). -/
def stnFrame (e : List Word) (f text : List Nat) : List Nat :=
  vpFrame (dirDmac e) (dirVlan e) (dirPcp e) (dirEtype e) (nfStation f) (nfSeq f) text

/-- Step 7: the context is written and the VP frame enters the classifier (R374, R378). One that no tenant owns counts as a frame that
selects none (R231) (DEDUCED, notes/assumptions/52). -/
def stnAccept (s : State) (e : List Word) (f text : List Nat) (forced : Option (Option Nat)) : State :=
  let n := nfStation f
  let c := s.ctx n
  let s := s.setCtx n { c with
    upSeq := nfSeq f, echoSeen := nfEcho f, valid := true, upCount := satInc 32 c.upCount, lastS := s.seconds % 2 ^ 32 }
  let s := { s with stn := { s.stn with accepted := satInc 36 s.stn.accepted } }
  let data := stnFrame e f text
  let s := s.frameIn 16 (data.length + 4)
  match s.vpTenant, forced with
  | some t, none => s.offer t 16 false data
  | some t, some entry => s.classified t 16 false data entry
  | none, _ => s.countNoTenant 16 (dirVlan e)

/-- Content of the STATION record of a frame taken (Table 20.2): the classifier result is that of the VP owner for the frame that its
directory entry makes of it. It is written once the frame's MIC is known (DEDUCED, notes/assumptions/52). -/
def stationRecord (s : State) (port : Nat) (f : List Nat) (micFails : Bool) : List Nat :=
  let entry := match s.dirEntry (nfStation f), s.vpTenant with
    | some e, some t =>
      if dirPort e = port then s.classify t (keyOf 16 false (stnFrame e f (nfText f))) else none
    | _, _ => none
  [flag 10 micFails, fld 17 7 f.length, nfStation f] ++ wideWords 3 (nfSeq f) ++ wideWords 3 (nfEcho f) ++
    [fld 17 6 (entry.getD 0) + flag 5 entry.isNone, fld 17 10 (nfMlen f)]

/-- A frame has left the host pipeline: its record is written, and the credit of its STATION_UP is owed (R337). -/
def stnDone (s : State) (port : Nat) (f : List Nat) (micFails : Bool) (forced : Option (Option Nat)) : State :=
  if forced.isSome then s
  else (s.note (.rcd (10 + 16) 0o03 (s.stationRecord port f micFails))).consumed .up .station (.stationUp port f)

/-- Steps 4 to 7 for a frame whose station's key is at hand. -/
def stnCheck (s : State) (e : List Word) (port : Nat) (f : List Nat) (forced : Option (Option Nat)) (key : Nat) : State :=
  let n := nfStation f
  if !s.ctxReadable n then (((s.ctxHandled n).stnRefuse rcQuarantine).stnDone port f false forced)
  else match nfOpen key f with
    | none => (s.stnSuspect n rcIcv).stnDone port f true forced
    | some text =>
      if s.replayAccepts e n (nfSeq f) (nfEcho f) then (s.stnDone port f false forced).stnAccept e f text forced
      else
        let s := (s.stnDone port f false forced).stnSuspect n rcReplay
        if dirResync e then s.sendSync key n e else s

/-- Table 15.5 for a frame that the host takes: it waits in the pipeline for its key, and for the end of a region 16 reset
(Table 13.11) (DEDUCED, notes/assumptions/52). -/
def stnUp (s : State) (port : Nat) (f : List Nat) (forced : Option (Option Nat)) : State :=
  match (s.dirEntry (nfStation f)).filter (fun e => decide (dirPort e = port)) with
  | none => (s.countNoTenant 16 0).stnDone port f false forced
  | some e =>
    if !s.keyValid slotFleet then (s.stnRefuse rcNoKey).stnDone port f false forced
    else s.withKey (.up port f forced) (fun s key =>
      if (s.region 16).resetting && s.memReady then s.pipelinePut (.up port f forced)
      else s.stnCheck e port f forced key)

/-! ## Downstream on the host (R379) -/

/-- A frame that has left a VP queue is refused. -/
def vpOut (s : State) (t q : Nat) (f : QFrame) (code : Nat) : State := (s.refuse t q code).wayEnd q 16 f false code

/-- The COMMAND of a frame whose station's key is at hand (R379, R380). -/
def vpSend (s : State) (q : Nat) (f : QFrame) (e : List Word) (key : Nat) : State :=
  let station := vpStation f.data
  match s.nextDown station with
  | none => s.vpOut f.tenant q f rcPnExhausted
  | some seq =>
    let s := (s.frameOut 16 f.len).occurs 26 0o002 0 (cellsOf f.len)
    (s.sendDown key station (dirPort e) 2 seq (vpText f.data) (some q)).wayEnd q 16
      { f with mark := f.mark.map (fun (m : Mark) => { m with picked := s.now }) } false 0

/-- R379 for a frame from queue `q` (DEDUCED, notes/assumptions/52). -/
def stnDown (s : State) (q : Nat) (f : QFrame) : State :=
  let station := vpStation f.data
  if !s.linked then s.countFieldAbsent.vpOut f.tenant q f rcFieldAbsent
  else match s.dirEntry station with
  | none => s.vpOut f.tenant q f rcClassifyMiss
  | some e =>
    if s.stn.exhausted then s.vpOut f.tenant q f rcPnExhausted
    else if dirEtype e ≠ vpEtype f.data || decide (1115 < vpTlen f.data ∨ f.data.length < 28 + vpTlen f.data) then
      s.vpOut f.tenant q f rcClassifyMiss
    else if !s.ctxReadable station && !((s.region 16).resetting && s.memReady) then
      (s.ctxHandled station).vpOut f.tenant q f rcQuarantine
    else if !s.keyValid slotFleet then s.vpOut f.tenant q f rcNoKey
    else s.withKey (.down q f) (fun s key =>
      if (s.region 16).resetting && s.memReady then s.pipelinePut (.down q f) else s.vpSend q f e key)

/-! ## The pipeline -/

/-- Words of class 2 taken and not yet consumed (Table 14.8). -/
def upHeld (s : State) : Nat :=
  (s.stn.pipeline.map (fun (i : StnItem) => match i with
    | .up port f none => (Msg.stationUp port f).cost
    | _ => 0)).sum

def stnServe (s : State) (i : StnItem) : State :=
  match i with
  | .up port f forced => s.stnUp port f forced
  | .down q f => s.stnDown q f

/-- What waits in the pipeline and satisfies `p` is served again, in arrival order. -/
def pipelineServe (s : State) (p : StnItem → Bool) : State :=
  let go := s.stn.pipeline.filter p
  let s := { s with stn := { s.stn with pipeline := s.stn.pipeline.filter (fun i => !p i) } }
  (go.foldl (fun (s : State) i => s.stnServe i) s).settleDirectory

/-- Everything in the host pipeline is refused with QUARANTINE (Table 13.8). -/
def pipelineQuarantine (s : State) : State :=
  let l := s.stn.pipeline
  (l.foldl (fun (s : State) i => match i with
    | .up port f forced => (s.stnRefuse rcQuarantine).stnDone port f false forced
    | .down q f => s.vpOut f.tenant q f rcQuarantine) { s with stn := { s.stn with pipeline := [] } }).settleDirectory

end State

end Sys2Proof.Machine
end

