-- ==== Sys2Proof/Machine/Act.lean ====
section
/-!
DEFINITION. What every command does beside its own effect: time that passes (occupancy events of 19_milepost R474, exempt time of
21_progress R521), and what it tells the observers (Milepost counters, Trip Recorder records and triggers). Every meaning is
an `act`.
-/

namespace Sys2Proof.Machine

/-! ## Selections (R473) -/

def selEvent (w : Nat) : Nat := bits w 17 10
def selCmp (w : Nat) : Bool := w.testBit 9
def selChain (w : Nat) : Bool := w.testBit 8

/-- The counting events of Table 19.2 with a measure. -/
def measured (b e : Nat) : Bool :=
  (b < 16 && e = 0o012) || (16 ≤ b && b < 24 && e = 0o011) || (b = 24 && e = 0o004) || (b = 31 && e = 0o005)

/-- The counting event whose occurrences the spec puts inside a unit that the model does not time: bank conflicts of the Lay-by.
Their number is free. -/
def untold (b e : Nat) : Bool := b = 26 && e = 0o003

/-- CK_CORE cycles of a cycle of a block's clock (Table 19.1). -/
def blockCycle (b : Nat) : Nat := if b = 25 ∨ b = 31 then 2 else if b = 34 ∨ b = 35 then 4 else 1

namespace State

/-- The measure or level meets a counter's THRESH (R474). -/
def meets (s : State) (k m : Nat) : Bool :=
  let th := tabGet 0 s.mile.thresh k
  if selCmp (tabGet 0 s.mile.sel k) then decide (m < th) else decide (th ≤ m)

/-- A counter wraps: WRAP is set, and the first wrap of an unchained counter in a window is an event (R475). -/
def wrapAt (s : State) (k : Nat) (event : Bool) : State :=
  let m := s.mile
  let s := { s with mile := { m with wraps := if m.wraps.contains k then m.wraps else m.wraps ++ [k] } }
  if event && !m.reported.contains k then
    { s with mile := { s.mile with reported := k :: s.mile.reported } }.emitOwn 0o171002 0 0 (fld 17 12 (k / 32) + fld 4 0 (k % 32))
  else s

/-- `n` is added to a counter, whose carries go to its chained partner (R475). -/
def addCount (s : State) (k n : Nat) : State :=
  let v := tabGet 0 s.mile.count k + n
  let s' := { s with mile := { s.mile with count := tabPut 0 s.mile.count k (v % 2 ^ 18) } }
  if v < 2 ^ 18 then s'
  else if k % 2 = 1 && selChain (tabGet 0 s.mile.sel (k - 1)) then
    let h := tabGet 0 s'.mile.count (k - 1) + v / 2 ^ 18
    let s' := { s' with mile := { s'.mile with count := tabPut 0 s'.mile.count (k - 1) (h % 2 ^ 18) } }
    if h < 2 ^ 18 then s' else s'.wrapAt (k - 1) false
  else s'.wrapAt k true

/-- The counters of a block that count an event. -/
def counting (s : State) (b e : Nat) : List Nat :=
  (s.mile.sel.filter (fun (c : Nat × Nat) => decide (c.1 / 32 = b ∧ selEvent c.2 = e))).map Prod.fst

def countOcc (s : State) (b e measure n : Nat) : State :=
  if n = 0 then s
  else (s.counting b e).foldl (fun s k => if !measured b e || s.meets k measure then s.addCount k n else s) s

/-! ## Levels (Table 19.2) -/

/-- The level of an occupancy event, where the model holds it. -/
def level (s : State) (b e : Nat) : Option Nat :=
  let all := s.tp.queues.map Prod.snd
  let sum := fun (p : Place) => (all.map (fun v => held v p)).sum
  if b < 16 then
    if e = 0o202 then some (if (s.lane b).pauseRx || decide ((s.lane b).pfcRx ≠ 0) then 1 else 0) else none
  else if b = 25 then
    if e = 0o200 then some (sum .shared)
    else if e = 0o201 then some ((all.map (fun v => (held v .spill + 255) / 256)).sum)
    else if e = 0o202 then some s.mgmtHeld
    else if e = 0o203 then some s.tp.delay.length
    else none
  else if b = 26 then some (sum .reserved + sum .shared + s.mgmtHeld)
  else if b = 31 then if e = 0o200 then some s.mem.walks.length else some (s.mem.dirty.length / 64)
  else if b = 32 then
    if e = 0o200 then some s.keys.derivations.length else some s.trng.waiting.length
  else if b = 33 then
    if e = 0o200 then some s.zheac.queue.length else some s.zheac.running.toList.length
  else if b = 34 then
    if e = 0o200 then some (s.chan .down .station).credit
    else if e = 0o201 then some (if s.withheld then 1 else 0)
    else some s.upHeld
  else if b = 35 then some s.framesWaiting
  else none

/-- A counter over a span of time: an occupancy event counts the cycles in which its level meets THRESH; one whose level or
occurrences the model does not hold counts a free number (DESIGN CHOICE, notes/assumptions/69). -/
def countTime (s : State) (t k w : Nat) : State :=
  let b := k / 32
  let e := selEvent w
  let cycles := t / blockCycle b - s.now / blockCycle b
  if e < 0o200 then
    if untold b e then { s with free := s.free + 1 }.addCount k (Config.freeNat s.free) else s
  else match s.level b e with
    | some l => if s.meets k l then s.addCount k cycles else s
    | none => { s with free := s.free + 1 }.addCount k (Config.freeNat s.free % (cycles + 1))

/-! ## Exempt time (Table 21.4) -/

/-- A wait of Table 21.4 holds for a frame at the head of, or in, a queue of tenant `t`. -/
def exemptNow (s : State) (t q : Nat) (f : QFrame) : Bool :=
  let n := s.qEgress q
  decide ((s.lane n).state = LaneState.hold) || (s.lanePauseEn n && (s.lane n).pauseRx) ||
    (s.lanePfcEn n && (List.range 8).any (fun p => (s.lane n).pfcRx.testBit p && decide (s.pcpTc t p = s.qTc q))) ||
    (match f.stream with
      | some x => s.egressTrunk q && decide ((s.txStream x).state = TxState.leaseWait)
      | none => false)

/-- The exempt time of eligible frames over a span. -/
def addExempt (s : State) (cycles : Nat) : State :=
  if s.tp.queues.any (fun e => e.2.frames.any QFrame.eligible) then
    { s with tp := { s.tp with queues := tabMap {} s.tp.queues (fun q v =>
      { v with frames := v.frames.map (fun f =>
        if f.eligible && s.exemptNow f.tenant q f then { f with exempt := f.exempt + cycles } else f) }) } }
  else s

/-- The clock moves on to `t`, never back; what happens over the span happens under the state as it is (DESIGN CHOICE,
notes/assumptions/6; DESIGN CHOICE, notes/assumptions/12). -/
def upTo (s : State) (t : Nat) : State :=
  if t ≤ s.now then s
  else
    let s := s.mile.sel.foldl (fun s c => s.countTime t c.1 c.2) s
    { s.addExempt (t - s.now) with now := t }

/-! ## What the observers are told -/

/-- The lane, partner, Junction, entropy, memory and Zheac changes between two states, as journal records (Table 20.2). -/
def changes (b s : State) : List Note :=
  let state := fun (unit r2 r3 : Nat) => Note.rcd 3 0o13 [fld 17 12 unit, r2, r3]
  ((List.range 16).filter (fun n => decide ((b.lane n).state ≠ (s.lane n).state))).map (fun n =>
      Note.rcd 2 0o06 [fld 17 14 n + fld 13 11 (s.lane n).state.code + fld 10 8 (s.lane n).cause, 0, 0]) ++
    (if b.cway.partner = s.cway.partner then [] else [state 1 0 s.cway.partner.code]) ++
    (if b.jun.word = s.jun.word then [] else [state 2 0 s.jun.word]) ++
    (if b.trng.state = s.trng.state then [] else [state 3 0 s.trng.state.code]) ++
    (if b.start.memState = s.start.memState then [] else [state 4 0 s.start.memState.code]) ++
    ((List.range 16).filter (fun g => decide ((tabGet {} b.zheac.groups g).word ≠ (tabGet {} s.zheac.groups g).word))).map
      (fun g => state 6 g (tabGet {} s.zheac.groups g).word)

/-- Port bytes of the current window (R482). -/
def addBytes (s : State) (rx : Bool) (port n : Nat) : State :=
  if rx then { s with mile := { s.mile with rx := tabPut 0 s.mile.rx port (tabGet 0 s.mile.rx port + n) } }
  else { s with mile := { s.mile with tx := tabPut 0 s.mile.tx port (tabGet 0 s.mile.tx port + n) } }

def addSlots (s : State) (rx : Bool) (engine : Nat) (retired : Bool) (n : Nat) : State :=
  let k := 4 * engine + (if rx then 2 else 0) + (if retired then 0 else 1)
  { s with mile := { s.mile with slots := tabPut 0 s.mile.slots k (tabGet 0 s.mile.slots k + n) } }

/-- A note reaches Milepost. -/
def tellMile (s : State) : Note → State
  | .occ b e m n => s.countOcc b e m n
  | .event _ => s.countOcc 35 0o003 0 1
  | .bytes rx p n => s.addBytes rx p n
  | .slots rx e r n => s.addSlots rx e r n
  | .rcd _ _ _ => s
  | .halt => s

/-- A note reaches the Trip Recorder's triggers (R500). -/
def tellTrip (s : State) : Note → State
  | .event w => match s.triggerCause w with
    | some c => s.trigger c w
    | none => s
  | .halt => s.halt 5
  | _ => s

/-- The records of one command with a rank of R495 (DESIGN CHOICE, notes/assumptions/12). -/
def recordRank (s : State) (l : List Note) (rank : Nat) : State :=
  l.foldl (fun s n => match n with
    | .rcd r type content => if r = rank then s.record type content else s
    | _ => s) s

/-- The notes are told, in rounds: an event that Milepost or the Trip Recorder emits is told in the next (DESIGN CHOICE,
notes/assumptions/12). -/
def tell : Nat → State → State
  | 0, s => { s with notes := [] }
  | k + 1, s =>
    if s.notes.isEmpty then s
    else
      let l := s.notes
      let s := { s with notes := [] }
      let s := if s.recording then (List.range 32).foldl (fun s r => s.recordRank l r) s else s
      let s := l.foldl tellMile s
      tell k (l.foldl tellTrip s)

end State

/-- The state in which a command's effect begins: what the command before it sent is gone. -/
def State.clear (s : State) : State := { s with sent := [], notes := [] }

/-- The state after a command's effect: only the parts of the state that it names change, besides what the observers hold; what
it sends replaces what the command before it sent, and the observers are told. -/
def actState (ps : List Part) (s : State) (f : State → State) : State :=
  let b := s.clear
  let t := State.taking ps b (f b)
  let o := State.tell 1200 { t with notes := t.notes ++ (if t.recording then State.changes b t else []) }
  { t with alarm := o.alarm, mile := o.mile, trip := o.trip, notes := [] }

/-- A command's effect (DESIGN CHOICE, notes/assumptions/11). -/
def act (ps : List Part) (s : State) (f : State → State) : Host.Outcome State Fault Refusal :=
  .next (actState ps s f)

/-- A command of a unit that a replay holds once it has ended (Table 20.3): it then has no effect. -/
def actUnit (ps : List Part) (s : State) (f : State → State) : Host.Outcome State Fault Refusal :=
  act ps s (fun s => if s.unitsHeld then s else f s)

end Sys2Proof.Machine
end

