-- ==== Sys2Proof/Machine/Alarms.lean ====
section
/-!
DEFINITION. Commands of the alarm unit (18_alarms R462, R463) and the limits of ALARM_POLICY (R469).
-/

namespace Sys2Proof.Machine

namespace State

/-- Acknowledges the unacknowledged entries that satisfy `p` and counts them (R463). -/
def ackEntries (s : State) (p : AlarmEntry → Bool) : State × Nat :=
  let hit := (List.range 64).filter (fun i => entryUnack (s.alarmEntry i) && p (s.alarmEntry i))
  let s := hit.foldl (fun s i => s.setAlarmEntry i (entryAcked (s.alarmEntry i))) s
  ({ s with alarm := { s.alarm with acks := satAdd 18 s.alarm.acks hit.length } }.settleAlert, hit.length)

/-- ALARM_ACK of the entries that satisfy `p`; r0 holds the number acknowledged. -/
def ackServed (s : State) (p : AlarmEntry → Bool) : Served :=
  let d := s.ackEntries p
  { st := d.1, status := stDone, words := [BitVec.ofNat 18 d.2] }

end State

/-- ALARM_ACK_ENTRY (R463): mode 0 names an entry and the pair it must still hold. -/
def execAlarmAckEntry (r : VerbCall) (a0 : BitVec 16) (event kindNumber : Word) (s : State) :
    Host.Outcome State Fault Refusal :=
  act [.once, .image, .keys, .tenants, .tp, .sp] s (fun s => s.serve r 0o17 (State.isOperator r.caller) none [a0.toNat, event.toNat, kindNumber.toNat] (fun s =>
    let i := a0.toNat
    let n := s.alarmEntry i
    if i ≥ 64 then { st := s, status := stBadValue }
    else if n.state = AlarmState.free || n.event ≠ event.toNat ||
        fld 17 14 n.kind + fld 13 0 n.number ≠ kindNumber.toNat then { st := s, status := stStale }
    else
      let was := entryUnack n
      let s := s.setAlarmEntry i (entryAcked n)
      let s := { s with alarm := { s.alarm with acks := if was then satInc 18 s.alarm.acks else s.alarm.acks } }
      { st := s.settleAlert, status := stDone, words := [if was then 1 else 0] }))

/-- ALARM_ACK_CLASS (R463): mode 1, a class from 2 to 5 in a0 [15:13]. -/
def execAlarmAckClass (r : VerbCall) (a0 : BitVec 16) (s : State) : Host.Outcome State Fault Refusal :=
  act [.once, .image, .keys, .tenants, .tp, .sp] s (fun s => s.serve r 0o17 (State.isOperator r.caller) none [fld 17 16 1 + a0.toNat] (fun s =>
    let c := bits a0.toNat 15 13
    if bits a0.toNat 12 0 ≠ 0 || c < 2 || c > 5 then { st := s, status := stBadValue }
    else s.ackServed (fun n => evClass n.event = c)))

/-- ALARM_ACK_ALL (R463): mode 2 also clears OVERFLOW. -/
def execAlarmAckAll (r : VerbCall) (s : State) : Host.Outcome State Fault Refusal :=
  act [.once, .image, .keys, .tenants, .tp, .sp] s (fun s => s.serve r 0o17 (State.isOperator r.caller) none [fld 17 16 2] (fun s =>
    { s with alarm := { s.alarm with overflow := false } }.ackServed (fun _ => true)))

/-- ALERT_HOLD_EXPIRY (R462): the 1 ms low ends, and ALERT_N rises if no cause remains. -/
def execAlertHoldExpiry (s : State) : Host.Outcome State Fault Refusal :=
  act [.now, .free, .tp] s (fun s =>
    match s.alarm.alertHold with
    | some t => (s.upTo (t + ms 1)).settleAlert
    | none => s)

end Sys2Proof.Machine
end

