-- ==== Sys2Proof/Machine/Limits.lean ====
section
/-!
DEFINITION. Check 7 of R70: the limits that each chapter gives the body of its sections. A body is its words; a field
that the layout leaves unused must be 0, whatever else the entry holds (R563).
-/

namespace Sys2Proof.Machine

/-- Bits [hi:lo] of word `i` of a body. -/
def bw (b : List Word) (i hi lo : Nat) : Nat := bits (wordAt b i).toNat hi lo

/-- Words `i` to `j - 1` of a body are all 0. -/
def zeroWords (b : List Word) (i j : Nat) : Bool := (wordsFrom b i (j - i)).all (fun w => decide (w = 0))

/-- DEVICE (R453). -/
def limitsDevice (b : List Word) : Bool :=
  decide (b.length = 32) && decide (bw b 0 16 16 = 0) &&
  decide (1 ≤ bw b 1 17 13 ∧ bw b 1 17 13 ≤ 30 ∧ bw b 1 12 0 = 0) &&
  decide (bw b 2 17 16 = 0 ∧ 0x0600 ≤ bw b 2 15 0) &&
  !([0x8100, 0x88A8, 0x88E5, 0x88B5, 0x8808].contains (bw b 2 15 0)) &&
  decide (bw b 3 17 12 = 0) &&
  decide (10 ≤ bw b 6 17 6 ∧ bw b 6 17 6 ≤ 3600 ∧ bw b 6 5 0 = 0) &&
  decide (1 ≤ bw b 7 17 12 ∧ bw b 7 17 12 ≤ 32 ∧ bw b 7 11 0 = 0) &&
  decide (bw b 8 17 15 ≤ 4 ∧ bw b 8 14 0 = 0) &&
  (List.range 4).all (fun k => decide (bw b (9 + 3 * k) 17 12 = 0)) && zeroWords b 21 32

/-- JUNCTION (R179). `lanes` are the lanes that a LANE section covers. -/
def limitsJunction (lanes : List Nat) (b : List Word) : Bool :=
  decide (b.length = 16) && decide (bw b 0 10 0 = 0) &&
  decide (10 ≤ bw b 1 17 9 ∧ bw b 1 17 9 ≤ 500 ∧ 10 ≤ bw b 1 8 0 ∧ bw b 1 8 0 ≤ 500 ∧ bw b 1 17 9 < bw b 1 8 0) &&
  decide (bw b 2 17 13 = 0 ∧ 1 ≤ bw b 2 12 0 ∧ bw b 2 12 0 ≤ 4320) &&
  [3, 4, 5, 6].all (fun i => decide (bw b i 17 15 ≤ 4)) &&
  decide (bw b 3 10 0 = 0 ∧ bw b 4 10 0 = 0 ∧ bw b 5 12 0 = 0 ∧ bw b 6 12 0 = 0) &&
  !(decide (bw b 3 17 15 ≠ 0) && decide (bw b 4 17 15 ≠ 0) && decide (bw b 3 14 11 = bw b 4 14 11)) &&
  [3, 4].all (fun i => decide (bw b i 17 15 = 0) || lanes.contains (bw b i 14 11)) && zeroWords b 7 16

/-- ALARM_POLICY (R469). -/
def limitsAlarmPolicy (b : List Word) : Bool :=
  decide (b.length = 128) && decide (bw b 0 14 0 = 0) && decide (bw b 1 9 0 = 0) && zeroWords b 2 16 &&
  zeroWords b 80 128 &&
  (wordsFrom b 16 64).all (fun w => decide (w = 0) || decide (bits w.toNat 11 9 = 2) || decide (bits w.toNat 11 9 = 5))

end Sys2Proof.Machine
end

