-- ==== Sys2Proof/Machine/TollOps.lean ====
section
/-!
DEFINITION. Operations of the Tollhouse (16_tollhouse R395 to R421): legal dates and calendars, parameter sets, log entries
and records, the metrology state, interval boundaries, and its side of the Tollhouse link.
-/

namespace Sys2Proof.Machine

/-! ## Dates (R395) -/

def leap (y : Nat) : Bool := (y % 4 = 0 && y % 100 ≠ 0) || y % 400 = 0

def daysIn (y m : Nat) : Nat :=
  if m = 2 then (if leap y then 29 else 28) else if m = 4 ∨ m = 6 ∨ m = 9 ∨ m = 11 then 30 else 31

/-- Days from the first of January of `y` on, over `n` years. -/
def daysOfYears (y : Nat) : Nat → Nat
  | 0 => 0
  | n + 1 => 365 + (if leap y then 1 else 0) + daysOfYears (y + 1) n

def dayNumber (y m d : Nat) : Nat :=
  daysOfYears 2000 (y - 2000) + ((List.range (m - 1)).map (fun i => daysIn y (i + 1))).sum + (d - 1)

def weekday (n : Nat) : Nat := (n + 5) % 7

def timeOf (y m d h mi sec : Nat) : Nat := 86400 * dayNumber y m d + 3600 * h + 60 * mi + sec

def validDate (y m d h mi sec : Nat) : Bool :=
  decide (2000 ≤ y ∧ y ≤ 2399 ∧ 1 ≤ m ∧ m ≤ 12 ∧ 1 ≤ d ∧ d ≤ daysIn y m ∧ h ≤ 23 ∧ mi ≤ 59 ∧ sec ≤ 59)

/-- 2399-12-31 23:59:59, where TIME ends. -/
def timeEnd : Nat := timeOf 2399 12 31 23 59 59

/-- The year, from `y` on, in which day `n` of that year's start falls, and the day within it. -/
def findYear : Nat → Nat → Nat → Nat × Nat
  | 0, y, n => (y, n)
  | k + 1, y, n =>
    let len := 365 + (if leap y then 1 else 0)
    if n < len then (y, n) else findYear k (y + 1) (n - len)

def findMonth (y : Nat) : Nat → Nat → Nat → Nat × Nat
  | 0, m, n => (m, n)
  | k + 1, m, n => if n < daysIn y m then (m, n) else findMonth y k (m + 1) (n - daysIn y m)

/-- Year, month, day, hour and minute of a TIME. -/
structure Civil where
  y : Nat
  m : Nat
  d : Nat
  h : Nat
  mi : Nat

def civil (t : Nat) : Civil :=
  let (y, n) := findYear 400 2000 (t / 86400)
  let (m, n) := findMonth y 11 1 n
  { y := y, m := m, d := n + 1, h := t / 3600 % 24, mi := t / 60 % 60 }

/-! ## Calendars (R407, R408) -/

/-- A calendar entry of two words (Table 16.6). -/
structure CalEntry where
  e0 : Nat
  e1 : Nat

def CalEntry.kind (e : CalEntry) : Nat := bits e.e0 17 16
def CalEntry.month (e : CalEntry) : Nat := bits e.e0 15 12
def CalEntry.day (e : CalEntry) : Nat := bits e.e0 11 7
def CalEntry.tariff (e : CalEntry) : Nat := bits e.e0 6 4
def CalEntry.year (e : CalEntry) : Nat := bits e.e1 17 9
def CalEntry.hour (e : CalEntry) : Nat := bits e.e1 8 4
def CalEntry.quarter (e : CalEntry) : Nat := bits e.e1 3 2

/-- The entry fires at the boundary `t` (R408); DAY 0 is the last day of the month for dated entries too (Table 16.6)
(DEDUCED, notes/assumptions/57). -/
def CalEntry.fires (e : CalEntry) (t : Nat) : Bool :=
  let c := civil t
  let clock := c.h = e.hour && c.mi = 15 * e.quarter
  let day := if e.day = 0 then daysIn c.y e.month else e.day
  if e.kind = 2 then clock && c.y = 2000 + e.year && c.m = e.month && c.d = day
  else if e.kind = 3 then clock && weekday (dayNumber c.y c.m c.d) = bits e.day 2 0
  else if e.month = 2 && day = 29 && !leap c.y then c.m = 3 && c.d = 1 && c.h = 0 && c.mi = 0
  else clock && c.m = e.month && c.d = day

/-- The tariff that a calendar decides at a boundary; none when no entry fires (R408). -/
def calendarTariff (l : List CalEntry) (t : Nat) : Option Nat :=
  let pick := fun (k : Nat) => (l.filter (fun e => decide (e.kind = k) && e.fires t)).getLast?
  (((pick 2).orElse (fun _ => pick 1)).orElse (fun _ => pick 3)).map CalEntry.tariff

/-- Minutes of an INTERVAL code. -/
def intervalMin (code : Nat) : Nat := if code = 0 then 15 else if code = 1 then 30 else 60

/-- R407 on an entry under an interval of `len` minutes. -/
def CalEntry.ok (e : CalEntry) (len : Nat) : Bool :=
  e.kind = 0 ||
    (bits e.e0 3 0 = 0 && bits e.e1 1 0 = 0 && decide (e.hour ≤ 23) && 15 * e.quarter % len = 0 &&
      (if e.kind = 3 then e.month = 0 && bits e.day 4 3 = 0 && decide (bits e.day 2 0 ≤ 6) && e.year = 0
       else decide (1 ≤ e.month ∧ e.month ≤ 12) &&
        (if e.kind = 2 then decide (e.year ≤ 399 ∧ e.day ≤ daysIn (2000 + e.year) e.month)
         else e.year = 0 && decide (e.day ≤ daysIn 2000 e.month))))

/-! ## Parameter sets (Table 16.5) -/

/-- Field [hi:lo] of word `i` of a set, and a wide value. -/
def setField (w : List Word) (i hi lo : Nat) : Nat := bits (wordAt w i).toNat hi lo
def setWide (w : List Word) (i n : Nat) : Nat := wideOf ((w.drop i).take n)

def setPoint (w : List Word) : Nat := setField w 1 17 6
def setVersion (w : List Word) : Nat := setWide w 2 2
def setValidFrom (w : List Word) : Nat := setWide w 4 2
def setInterval (w : List Word) : Nat := setField w 6 17 16
def setLateness (w : List Word) : Nat := setField w 6 15 11
def setDefault (w : List Word) : Nat := setField w 6 10 8
def setEntries (w : List Word) : Nat := setField w 7 17 10
def setSource (w : List Word) : Nat := setField w 8 17 16
def setInput (w : List Word) : Nat := setField w 8 15 13
def setStation (w : List Word) : Nat := setField w 9 15 0
def setSubindex (w : List Word) : Nat := setField w 10 17 10
def setConstant (w : List Word) : Nat := setWide w 11 2
def setLowCut (w : List Word) : Nat := setField w 13 17 0

/-- The first `n` calendar entries of a set. -/
def setCalendar (w : List Word) (n : Nat) : List CalEntry :=
  (List.range n).map (fun i => { e0 := setField w (24 + 2 * i) 17 0, e1 := setField w (25 + 2 * i) 17 0 })

/-- The identity of a set's calendar (R405), and the digest of the set. -/
def calendarId (w : List Word) : Nat := shaWords ((w.drop 6).take 2 ++ (w.drop 24).take 320)
def setDigest (w : List Word) : Nat := shaWords w

/-- Check 1 of R404. -/
def setForm (w : List Word) : Bool :=
  decide (w.length = 376) && decide (setField w 0 17 0 = 0o634011) && decide (crc18 (w.take 375) = wordAt w 375)

/-- Check 4 of R404: ranges, calendar entries and unnamed bits. -/
def setRanges (w : List Word) : Bool :=
  let len := intervalMin (setInterval w)
  setField w 1 5 0 = 0 && setValidFrom w % (60 * len) = 0 && decide (setLateness w ≤ 16) && setField w 6 7 0 = 0 &&
    decide (setEntries w ≤ 160) && setField w 7 9 0 = 0 && setField w 8 12 0 = 0 &&
    (!(setSource w = 2) || decide (setInput w ≤ 3)) && setField w 9 17 16 = 0 && setField w 10 9 0 = 0 &&
    decide (setLowCut w ≤ 100) && zeroWords w 14 24 && (setCalendar w 160).all (fun e => e.ok len) &&
    setField w 344 17 8 = 0 && zeroWords w 373 375

/-! ## Points -/

/-- A point has an applied set. -/
def TollPoint.configured (p : TollPoint) : Bool := !p.set.isEmpty

/-- The set that check 5 and check 6 of R404 compare with: the latest accepted. -/
def TollPoint.stored (p : TollPoint) : List Word := if p.waiting.isEmpty then p.set else p.waiting

/-- Largest value of a TARIFF_REG (R409). -/
def regMax : Nat := 2 ^ 54 - 1

/-- Close of an interval for a point (step 1 of Table 16.8). -/
def TollPoint.close (p : TollPoint) (imin : Nat) : TollPoint :=
  let p := if p.peak < p.cur then { p with peak := p.cur, peakInterval := imin } else p
  if p.configured then { p with history := ((imin, p.tariff) :: p.history).take 16 } else p

/-- The waiting set is due at `t`. -/
def TollPoint.due (p : TollPoint) (t : Nat) : Bool := !p.waiting.isEmpty && decide (setValidFrom p.waiting ≤ t)

/-- Step 2 of Table 16.8 for a point: a due set applies, then its calendar is evaluated; a MISMATCHED point's is not
(R406). -/
def TollPoint.applied (p : TollPoint) (t : Nat) : TollPoint :=
  if p.due t then
    { p with set := p.waiting, waiting := [], tariff := setDefault p.waiting, mismatched := false, lastReading := none }
  else p

def TollPoint.calendar (p : TollPoint) (t : Nat) : Option Nat :=
  if p.configured && !p.mismatched then calendarTariff (setCalendar p.set (setEntries p.set)) t else none

def TollPoint.switched (p : TollPoint) (t : Nat) : TollPoint :=
  match p.calendar t with
  | some x => { p with tariff := x }
  | none => p

/-- Step 3 of Table 16.8 for a point. -/
def TollPoint.opened (p : TollPoint) : TollPoint := { p with cur := 0, loopLogged := false, tamperLogged := false }

/-- An analogue flow is counted in parts of 1 / flowUnit of a unit: 16 mA of span, 262,144 codes of 25 mA, 57,600 samples an
hour (R411). -/
def flowUnit : Nat := 16 * 262144 * 57600

/-- ARG with e9 alone. -/
def argE9 (v : Nat) : List Word := [0, 0, 0, BitVec.ofNat 18 v]

/-! ## Keys (R390, R412, R419) -/

/-- The signing key, and TH_PUB, its public half (R389). -/
def thSigning : Nat := p256.privateKey Config.thKey
def thPub : Nat := p256.pub thSigning

/-- The fleet metering key in its wrapped form under a key agreed with an ephemeral public key (R412); the wrapped bytes stand
first in their words (DEDUCED, notes/assumptions/59). -/
def openMeterKey (ephemeral : Nat) (wrapped : List Word) : Option (List Nat) :=
  if p256.isPub ephemeral then
    kwpUnwrap (hash256.kdf (beBytes 32 (p256.ecdh thSigning ephemeral)) (ascii "KR1856-TH-WRAP") [] 256)
      ((packWords wrapped).take 40)
  else none

/-- The first 16 bytes of the tag of a metering section's bytes, under the key of its station (R412, R413). -/
def meterTag (fleet : List Nat) (station : Nat) (b : List Nat) : Nat :=
  hash256.hmac (beBytes 32 (hash256.hmac fleet (ascii "KR1856-METER" ++ [0] ++ beBytes 2 station))) b >>> 128

/-- The identity block, words 0 to 0o77 of the legal window (Table 16.10). -/
def identityBlock : List Word :=
  [0o350101, 0o347125] ++ wide 15 Config.romDigest ++ wide 2 (Config.serial % 2 ^ 36) ++ wide 29 thPub ++
    List.replicate 16 0

/-- TH_SEQ of a message. -/
def msgSeq : Msg → Nat
  | .windowWrite n _ _ => n
  | .logEntry n _ => n
  | .thHello n _ => n
  | _ => 0

namespace State

/-! ## Time (R395, R396) -/

/-- TIME in cycles, and in seconds. -/
def legalCycles (s : State) : Nat := if s.toll.stopped then s.toll.timeBase else s.toll.timeBase + (s.now - s.toll.timeAt)
/-- DEDUCED, notes/assumptions/53. -/
def legalTime (s : State) : Nat := min (s.legalCycles / secs 1) timeEnd

/-- Model time at which TIME shows `t`. -/
def whenLegal (s : State) (t : Nat) : Nat := s.toll.timeAt + (secs t - s.toll.timeBase)

/-- TIME shows `t` cycles from now on. -/
def setLegal (s : State) (t : Nat) : State :=
  { s with toll := { s.toll with timeBase := t, timeAt := s.now, stopped := false } }

/-- Length of the interval in force, in seconds. -/
def intervalLen (s : State) : Nat := 60 * intervalMin s.toll.interval

/-- INTERVAL_MIN of the open interval. -/
def curMin (s : State) : Nat := s.toll.curStart / 60

/-! ## Metering (Table 16.3) -/

def metering (s : State) : Bool :=
  s.toll.booted && decide (s.toll.metro ≠ Metro.blank) && decide (s.toll.metro ≠ Metro.halted)

def point (s : State) (p : Nat) : TollPoint := tabGet {} s.toll.points p
def updPoint (s : State) (p : Nat) (v : TollPoint) : State :=
  { s with toll := { s.toll with points := tabPut {} s.toll.points p v } }
def mapPoints (s : State) (f : TollPoint → TollPoint) : State :=
  { s with toll := { s.toll with points := tabMap {} s.toll.points (fun _ v => f v) } }

/-- Points whose applied set satisfies a condition, rising. -/
def pointsWith (s : State) (p : List Word → Bool) : List Nat :=
  (s.toll.points.filter (fun e => e.2.configured && p e.2.set)).map Prod.fst

/-- FLAGS that hold from now on in the open interval (R416). -/
def flagInterval (s : State) (f : Nat) : State := { s with toll := { s.toll with flags := s.toll.flags ||| f } }

/-! ## The log and the records (R416 to R418) -/

def logUnacked (s : State) : Nat := (s.toll.reports.filter (fun r => !r.isRecord)).length
def recUnacked (s : State) : Nat := (s.toll.reports.filter (fun r => r.isRecord)).length
def logFull (s : State) : Bool := decide (8192 ≤ s.logUnacked)

/-- Word e5, which shows METRO_STATE after the event. -/
def e5Word (s : State) (low : Nat) : Nat := flag 17 s.toll.onBackup + fld 16 14 s.toll.metro.code + low

/-- A log entry is written, or counted in LOG_OVERFLOW while the log is full: event, TIME, point, and e6 to e9. -/
def writeLog (s : State) (t e point : Nat) (arg : List Word) : State :=
  if s.logFull then { s with toll := { s.toll with logOverflow := satInc 17 s.toll.logOverflow } }
  else
    let seq := (s.toll.logSeq + 1) % 2 ^ 36
    let w := [BitVec.ofNat 18 e] ++ wide 2 seq ++ wide 2 t ++ [BitVec.ofNat 18 (s.e5Word point)] ++ arg ++ wide 2 s.toll.chainLog
    { s with toll := { s.toll with
      logSeq := seq, chainLog := shaTop 36 (shaWords w), reports := s.toll.reports ++ [{ isRecord := false, words := w }] } }

/-- METRO_STATE becomes another, which is logged; `entry` writes the entry of the cause, under the new state (R417, R421). -/
def metroBecomes (s : State) (t : Nat) (m : Metro) (entry : State → State) : State :=
  let old := s.toll.metro
  let s := { s with toll := { s.toll with metro := m } }
  let s := if m = Metro.verified then s else s.flagInterval 0o40
  let s := entry s
  if old = m then s
  else s.writeLog t 0o155023 0 [0, 0, BitVec.ofNat 18 s.toll.unvCause, BitVec.ofNat 18 (8 * old.code + m.code)]

/-- A cause of UNVERIFIED (Table 16.3): `bit` of UNV_CAUSE, 0 for none. -/
def metroCause (s : State) (t bit : Nat) (entry : State → State) : State :=
  let kept := s.toll.metro = Metro.verified || s.toll.metro = Metro.unverified || s.toll.metro = Metro.custody
  let s := if kept then { s with toll := { s.toll with unvCause := s.toll.unvCause ||| bit } } else s
  s.metroBecomes t (if s.toll.metro = Metro.verified then .unverified else s.toll.metro) entry

/-- While all 8,192 entries are unacknowledged the state is UNVERIFIED (R418) (DEDUCED, notes/assumptions/58). -/
def settleLog (s : State) (t : Nat) : State :=
  if s.logFull && decide (s.toll.metro = Metro.verified) then s.metroCause t 0 id else s

/-- A log entry, with what its writing brings about (DEDUCED, notes/assumptions/62). -/
def tollLog (s : State) (t e point : Nat) (arg : List Word) : State := (s.writeLog t e point arg).settleLog t

/-- A cause of UNVERIFIED with its entry. -/
def tollCause (s : State) (bit e e9 : Nat) : State :=
  let t := s.legalTime
  (s.metroCause t bit (fun s => s.writeLog t e 0 (argE9 e9))).settleLog t

/-- POINT_DIGEST (R416): every point's eight registers, each in three words. -/
def pointDigest (s : State) : Nat :=
  shaTop 36 (sha256 ((List.range 4096).flatMap (fun p =>
    packWords ((List.range 8).flatMap (fun r => wide 3 (tabGet 0 (s.point p).regs r))))))

/-- A record is written. When all 65,536 stand unacknowledged the oldest is overwritten (R416) (DEDUCED,
notes/assumptions/60). -/
def writeRecord (s : State) (t e imin flags : Nat) : State :=
  let s := if 65536 ≤ s.recUnacked then
      let oldest := s.toll.reports.find? (fun r => r.isRecord)
      let s := { s with toll := { s.toll with reports := (oldest.map (fun r => s.toll.reports.erase r)).getD s.toll.reports } }
      (s.metroCause t 0 (fun s => s.writeLog t 0o155030 0 (argE9 (2 ^ 17)))).settleLog t
    else s
  let seq := (s.toll.recSeq + 1) % 2 ^ 36
  let w := [BitVec.ofNat 18 e] ++ wide 2 seq ++ wide 2 t ++ [BitVec.ofNat 18 (s.e5Word (fld 13 6 flags))] ++ wide 2 imin ++
    wide 2 s.pointDigest ++ wide 2 s.toll.chainRec
  { s with toll := { s.toll with
    recSeq := seq, chainRec := shaTop 36 (shaWords w), reports := s.toll.reports ++ [{ isRecord := true, words := w }]
    ring := tabPut [] s.toll.ring (seq % 65536) w } }

/-! ## Volume (R409) -/

/-- A point's register takes an increase, and CUR with it when `cur`. A register that would pass its largest value holds
there (DEDUCED, notes/assumptions/58). -/
def addVolume (s : State) (p reg n : Nat) (cur : Bool) : State :=
  let v := s.point p
  let r := tabGet 0 v.regs reg + n
  let s := s.updPoint p { v with
    regs := tabPut 0 v.regs reg (min r regMax), cur := if cur then min (v.cur + n) regMax else v.cur }
  if regMax < r then s.tollLog s.legalTime 0o155022 p [0, 0, BitVec.ofNat 18 reg, 3] else s

/-! ## Boundaries (Table 16.8, R406) -/

/-- Step 1: PEAK, the AMENDED records, the record of the closing interval with more FLAGS; then the entries due at a close
(R414). -/
def tollClose (s : State) (t more : Nat) : State :=
  let imin := s.curMin
  let s := s.mapPoints (fun p => p.close imin)
  let backup := if s.toll.onBackup then 0o200 else 0
  let s : State := s.toll.marked.foldl (fun (s : State) (m : Nat) =>
    s.writeRecord t 0o155020 m ((((s.toll.closed.find? (fun c => c.1 = m)).map Prod.snd).getD 0) ||| 0o100)) s
  let flags := s.toll.flags ||| more ||| backup
  let s := s.writeRecord t 0o155017 imin flags
  let s := { s with toll := { s.toll with marked := [], closed := ((imin, flags) :: s.toll.closed).take 17 } }
  let late : Nat := s.toll.lateRun
  let bad : Nat := s.toll.badRun
  let s := { s with toll := { s.toll with lateRun := 0, badRun := 0 } }
  let s := if late = 0 then s else s.tollLog t 0o155021 0 (argE9 (sat 18 late))
  if bad = 0 then s else s.tollLog t 0o155032 0 (argE9 (sat 18 bad))

/-- Step 3: the interval from `start` opens, with FLAGS. -/
def tollOpen (s : State) (start more : Nat) : State :=
  let flags := more ||| (if s.toll.onBackup then 0o20 else 0) ||| (if s.toll.metro = Metro.verified then 0 else 0o40)
  ({ s with toll := { s.toll with curStart := start, flags := flags } }).mapPoints TollPoint.opened

/-- The boundary at TIME `t`. Without metering, it only opens the next interval (DEDUCED, notes/assumptions/60). -/
def tollBoundary (s : State) (t more : Nat) : State :=
  if !s.metering then s.tollOpen t 0
  else
    let change := match s.toll.pendInterval with
      | some (_, h) => decide (h ≤ t) && t % 3600 = 0
      | none => false
    let due := (s.toll.points.filter (fun e => e.2.due t)).map Prod.fst
    let fired := s.toll.points.any (fun e => ((e.2.applied t).calendar t).isSome)
    let s := s.tollClose t (more ||| (if change || !due.isEmpty then 0o2 else 0) ||| (if fired then 0o10 else 0))
    let s := (s.mapPoints (fun p => p.applied t)).mapPoints (fun p => p.switched t)
    let s := due.foldl (fun s p =>
      let w := (s.point p).set
      s.tollLog t 0o155015 p (wide 2 (setVersion w) ++ wide 2 (shaTop 36 (setDigest w)))) s
    { s with toll := { s.toll with changeDue := change } }.tollOpen t 0

/-- Steps 2 to 5 of R406, after the boundary at the full hour. -/
def tollChange (s : State) (code : Nat) : State :=
  let t := s.toll.curStart
  let old := s.toll.interval
  let stale := (s.toll.points.filter (fun e => !e.2.waiting.isEmpty && decide (setInterval e.2.waiting = old))).map
    (fun e => (e.1, setVersion e.2.waiting))
  let s := s.mapPoints (fun p => { p with
    waiting := if !p.waiting.isEmpty && decide (setInterval p.waiting = old) then [] else p.waiting
    mismatched := if p.configured then decide (setInterval p.set = old) else p.mismatched
    history := [] })
  let s := { s with toll := { s.toll with
    interval := code, pendInterval := none, changeDue := false, changedMin := t / 60, closed := [], marked := [] } }
  let n := (s.toll.points.filter (fun e => e.2.mismatched)).length
  let s := s.tollLog t 0o155012 0 ([BitVec.ofNat 18 (fld 17 12 0o12 + 1), BitVec.ofNat 18 (fld 17 16 old + n)] ++ wide 2 code)
  stale.foldl (fun s e => s.tollLog t 0o155016 e.1 (wide 2 e.2 ++ [0, 0o10])) s

/-- SET-TIME and an ADJUST-TIME back across the start of the open interval: the interval closes at the old time and the one
that contains the new time opens, both flagged CLOCK-SET (R397). -/
def tollReopen (s : State) (old new : Nat) : State :=
  let s := if s.metering then s.tollClose old 0o4 else s
  s.tollOpen (new / s.intervalLen * s.intervalLen) 0o4

/-! ## The link (R347, R348, R420) -/

/-- The status block, words 0o100 to 0o126 of the legal window (Table 16.10). -/
def statusBlock (s : State) : List Word :=
  let u := s.toll
  let one := fun (v : Nat) => [BitVec.ofNat 18 (sat 18 v)]
  let waiting := (u.points.filter (fun e => !e.2.waiting.isEmpty)).map (fun e => calendarId e.2.waiting)
  let applied := (u.points.filter (fun e => e.2.configured)).map (fun e => calendarId e.2.set)
  one (fld 17 15 u.metro.code + flag 14 u.sealClosed + flag 13 u.onBackup + flag 12 u.batLow + fld 11 10 u.interval +
      flag 9 u.clockFault + flag 8 s.logFull + fld 7 4 u.unvCause) ++
    wide 2 s.legalTime ++ one (twos 18 u.cal) ++ wide 2 s.curMin ++ wide 2 u.logSeq ++ wide 2 u.recSeq ++
    one s.logUnacked ++ one applied.length ++ one ((applied ++ waiting).dedup.length) ++ wide 2 u.sectionsOk ++
    one u.badTag ++ one u.repeat_ ++ one u.lateRefused ++ one u.future ++ one u.unknownStn ++ one u.malformed ++
    one u.vbatMv ++ one (u.points.filter (fun e => e.2.mismatched)).length

/-- The ECDSA P-256 signature, in 29 words, over the packed bytes of some words; the spec says of no nonce where it comes from
(R419) (DESIGN CHOICE, notes/assumptions/56). -/
def tollSign (s : State) (w : List Word) : List Word × State :=
  (wide 29 (p256.sign thSigning (p256.privateKey (Config.freeNat s.free)) (shaWords w)), { s with free := s.free + 1 })

/-- A message leaves for the Verge die while the link is up. -/
def tollSend (s : State) (m : Msg) : State := if s.wayOpen .thUp then s.sendMsg .thUp .legal m else s

/-- A message with the next TH_SEQ, kept until acknowledged. -/
def tollKeep (s : State) (m : Nat → Msg) : State :=
  let n := s.toll.thSeq % 262143 + 1
  { s with toll := { s.toll with thSeq := n, kept := s.toll.kept ++ [m n] } }.tollSend (m n)

/-- TH_HELLO, then every unacknowledged report in order (R348); what already is on its way is not sent twice (DEDUCED,
notes/assumptions/61). -/
def tollHello (s : State) : State :=
  let n := s.toll.thSeq % 262143 + 1
  let hello := Msg.thHello n identityBlock
  let s := { s with toll := { s.toll with thSeq := n, kept := hello :: s.toll.kept } }
  let s := (List.range s.toll.reports.length).foldl (fun s i =>
    match s.toll.reports[i]? with
    | some r =>
      if r.signature.isEmpty || r.seq ≠ 0 then s
      else
        let k := s.toll.thSeq % 262143 + 1
        { s with toll := { s.toll with
          thSeq := k, kept := s.toll.kept ++ [.logEntry k (r.words ++ r.signature)]
          reports := s.toll.reports.set i { r with seq := k } } }
    | none => s) s
  let sent := fun (c : Chan) => c.waiting ++ c.unacked.map Prod.snd
  let way := sent (s.chan .thUp .legal) ++ sent (s.chan .up .legal)
  s.toll.kept.foldl (fun s m => if way.contains m then s else s.tollSend m) s

/-- A TH_ACK releases what it covers (R347); once the log has room again, that is logged (R418) (DEDUCED,
notes/assumptions/61). -/
def tollAck (s : State) (seq : Nat) : State :=
  match s.toll.kept.findIdx? (fun m => decide (msgSeq m = seq)) with
  | none => s
  | some i =>
    let full := s.logFull
    let gone := (s.toll.kept.take (i + 1)).map msgSeq
    let s := { s with toll := { s.toll with
      kept := s.toll.kept.drop (i + 1)
      reports := s.toll.reports.filter (fun r => !(decide (r.seq ≠ 0) && gone.contains r.seq)) } }
    if full && !s.logFull then
      let k := s.toll.logOverflow
      { s with toll := { s.toll with logOverflow := 0 } }.tollLog s.legalTime 0o155030 0 (argE9 k)
    else s

/-- TH_REPLY. -/
def tollReply (s : State) (hostSeq result : Nat) : State := s.tollSend (.thReply hostSeq result)

/-- A request is answered: with the stored result when it repeats one of the last 8, otherwise acted on (R401). -/
def tollRequest (s : State) (m : Msg) (hostSeq : Nat) (run : State → State × Nat) : State :=
  match s.toll.results.find? (fun e => decide (e.1 = m)) with
  | some e => s.tollReply hostSeq e.2
  | none =>
    let (s, r) := run s
    { s with toll := { s.toll with results := ((m, r) :: s.toll.results).take 8 } }.tollReply hostSeq r

end State

end Sys2Proof.Machine
end

