-- ==== Sys2Proof/Machine/ZheacOps.lean ====
section
/-!
DEFINITION. Zheac's shared operations (12_zheac): groups, lists, the public-key engine, the steps of a handshake, its
success and its failure.
-/

namespace Sys2Proof.Machine

/-! REASON codes (Table 12.5). -/
def zrTimeout : Nat := 0o01
def zrEntropy : Nat := 0o02
def zrIdentity : Nat := 0o03
def zrWrongPeer : Nat := 0o04
def zrCollision : Nat := 0o05
def zrNoNode : Nat := 0o06
def zrBadKey : Nat := 0o07
def zrLane : Nat := 0o10
def zrSuperseded : Nat := 0o11

namespace State

def zgroup (s : State) (g : Nat) : ZGroup := tabGet {} s.zheac.groups g
def setGroup (s : State) (g : Nat) (v : ZGroup) : State :=
  { s with zheac := { s.zheac with groups := tabPut {} s.zheac.groups g v } }

/-- A state of a group: GEN rises by 1, modulo 32, at each change (R304). -/
def zEnter (s : State) (g : Nat) (st : ZState) : State :=
  let v := s.zgroup g
  if v.state = st then s else s.setGroup g { v with state := st, gen := (v.gen + 1) % 32 }

/-! ## Groups (R283, R286) -/

/-- The lanes, each the lowest of its own lane group, whose PEER is that of lane `g`. -/
def groupLanes (s : State) (g : Nat) : List Nat :=
  (List.range 16).filter (fun m =>
    s.hasSection 0o004 m && s.laneIsTrunk m && (s.lanePeer m).isSome && decide (s.lanePeer m = s.lanePeer g))

/-- Lane `g` names a neighbour group: it is the lowest lane with its PEER. -/
def isGroup (s : State) (g : Nat) : Bool := decide ((s.groupLanes g).head? = some g)

/-- The group of a lane. -/
def groupOfLane (s : State) (n : Nat) : Option Nat :=
  match s.laneLead n with
  | some m => if (s.groupLanes m).contains m then (s.groupLanes m).head? else none
  | none => none

/-- The lowest lane of a group that is UP (R287). -/
def groupUpLane (s : State) (g : Nat) : Option Nat := (s.groupLanes g).find? s.laneUpNow

/-- The lane for an answer to a message that came on lane `n`. -/
def answerLane (s : State) (g n : Nat) : Option Nat := if s.laneUpNow n then some n else s.groupUpLane g

/-- ID_PUB of a node's VALID entry in ZHEAC_CERTS (R284). -/
def certPub (s : State) (node : Nat) : Option Nat :=
  (s.inForce? 0o007 0).bind (fun c =>
    (firstBelow (c.body.length / 64) (fun i =>
      let e := (wordAt c.body (64 * i)).toNat
      e.testBit 17 && decide (bits e 15 0 = node))).map (fun i => wideOf (wordsFrom c.body (64 * i + 1) 43)))

def hasCert (s : State) (node : Nat) : Bool := (s.certPub node).isSome

/-- The Zheac streams of a group, rising (R283). -/
def zheacStreams (s : State) (g : Nat) : List Nat :=
  (s.link.tx.filter (fun e => entValid e.2.entry && !entPinned e.2.entry &&
    (s.groupLanes g).contains (entLane e.2.entry))).map Prod.fst

/-! ## Rekey triggers (R301) -/

/-- A stream may be listed: not in STUCK or EXHAUSTED. -/
def listable (v : TxStream) : Bool := decide (v.state ≠ TxState.stuck ∧ v.state ≠ TxState.exhausted)

/-- Some trigger is at `k` eighths. -/
def atTrigger (s : State) (v : TxStream) (k : Nat) : Bool :=
  (!v.newAn && decide (k * 2 ^ entLog2 v.entry ≤ 8 * v.nextPn)) ||
    decide (8 * v.keyedAt + k * secs (60 * entMin v.entry) ≤ 8 * s.now)

def txDue (s : State) (x : Nat) : Bool :=
  let v := s.txStream x
  listable v && (!s.txKeyed x || v.failed || s.atTrigger v 8)

def txNearDue (s : State) (x : Nat) : Bool :=
  let v := s.txStream x
  listable v && s.txKeyed x && s.atTrigger v 7

/-- The AN that a listed stream uses next (R296). -/
def nextAn (v : TxStream) : Nat := if v.everKeyed then (v.an + 1) % 4 else 3

/-- The streams that a HELLO or REPLY lists: due before near-due, or every one with a START (R301, R302). A stream whose
next slot is FAULT becomes STUCK and is not listed (R270, R297). -/
def makeList (s : State) (g : Nat) (all : Bool) (first : List ListEntry) : State × List ListEntry :=
  let l := s.zheacStreams g
  let pick := if all then l.filter (fun x => listable (s.txStream x))
    else l.filter s.txDue ++ l.filter (fun x => s.txNearDue x && !s.txDue x)
  let pick := pick.filter (fun x => !first.any (fun e => e.stream = x))
  let good := fun x => s.canInstall (slotTx x (nextAn (s.txStream x)))
  let list := (first ++ (pick.filter good).map (fun x => ListEntry.mk (nextAn (s.txStream x)) x)).take 2048
  ((pick.filter (fun x => !good x)).foldl txStuck s, list)

/-- Some listed stream holds a current key and has reached a trigger (R298). -/
def rekeyDue (s : State) (l : List ListEntry) : Bool :=
  l.any (fun e => s.txKeyed e.stream && s.atTrigger (s.txStream e.stream) 8)

/-- The receive stream that takes a listed stream of the peer (R296). -/
def rxFor (s : State) (g stream : Nat) : Option Nat :=
  (s.link.rx.find? (fun e => entValid e.2.entry && (s.groupLanes g).contains (entLane e.2.entry) &&
    decide (entPeerSci e.2.entry % 2 ^ 16 = stream))).map Prod.fst

/-! ## Messages (Table 12.3) -/

/-- Words of a bitmap. -/
def bitmapWords (n : Nat) : Nat := (n + 17) / 18

/-- A bitmap: bit 17 of its first word stands for entry 0 (R289). -/
def bitmapNats (l : List Bool) : List Nat :=
  (List.range (bitmapWords l.length)).map (fun w => maskOf 18 (fun i => (l[18 * w + 17 - i]?).getD false && decide (18 * w + 17 - i < l.length)))

/-- A list entry (R289). -/
def listNats (l : List ListEntry) : List Nat := l.map (fun e => fld 17 16 e.an + fld 13 0 e.stream)

/-- Header of a handshake message of a group (Table 12.2). -/
def zHsHead (s : State) (g type hsId n : Nat) : List Nat := s.zHead type (some ((s.lanePeer g).getD 0)) hsId n

/-- b0, NONCE, EPH_PUB and list of a HELLO or REPLY. -/
def zBody (s : State) (g : Nat) (h : Handshake) : List Nat :=
  (flag 17 h.myStart + fld 11 0 h.mine.length) :: wideWords 15 h.myNonce ++ wideWords 43 (s.zgroup g).ephPub ++ listNats h.mine

def helloWords (s : State) (g : Nat) (h : Handshake) : List Nat := s.zHsHead g 1 h.hsId (64 + h.mine.length) ++ s.zBody g h

/-- A REPLY, and a FINISH, up to the SIGNATURE. -/
def replyWords (s : State) (g : Nat) (h : Handshake) : List Nat :=
  s.zHsHead g 2 h.hsId (107 + h.mine.length + bitmapWords h.theirs.length) ++ s.zBody g h ++ bitmapNats h.acceptTheirs
def finishWords (s : State) (g : Nat) (h : Handshake) : List Nat :=
  s.zHsHead g 3 h.hsId (48 + bitmapWords h.theirs.length) ++ bitmapNats h.acceptTheirs

/-- A handshake message leaves through the management queue of a lane (R287, R232): its words, with what they say. -/
def sendZheac (s : State) (g type : Nat) (lane : Option Nat) (hsId : Nat) (start : Bool) (list : List ListEntry)
    (bitmap : List Bool) (reason : Nat) (words : List Nat) : State :=
  match (if s.replayMode then none else lane) with
  | some n => (s.send (.zheac g type n hsId start list bitmap reason)).queueZheac n words
  | none => s

def sendHello (s : State) (g : Nat) (h : Handshake) : State :=
  s.sendZheac g 1 (s.groupUpLane g) h.hsId h.myStart h.mine [] 0 h.message

def sendReply (s : State) (g : Nat) (h : Handshake) : State :=
  s.sendZheac g 2 (s.answerLane g h.lane) h.hsId h.myStart h.mine h.acceptTheirs 0 h.message

def sendFinish (s : State) (g : Nat) (h : Handshake) : State :=
  s.sendZheac g 3 (s.answerLane g h.lane) h.hsId false [] h.acceptTheirs 0 h.message

def sendInstalled (s : State) (g hsId lane : Nat) (bitmap : List Bool) : State :=
  s.sendZheac g 4 (s.answerLane g lane) hsId false [] bitmap 0
    (s.zHsHead g 4 hsId (5 + bitmapWords bitmap.length) ++ bitmapNats bitmap)

def sendRefuse (s : State) (g hsId : Nat) (lane : Option Nat) (reason : Nat) : State :=
  s.sendZheac g 5 lane hsId false [] [] reason (s.zHsHead g 5 hsId 6 ++ [reason])

/-! ## Transcript and keys (R292, R295) -/

end State

/-- TH, as bytes: HB then RB. -/
def Handshake.transcript (h : Handshake) : List Nat := beBytes 48 (sha384 (packNats h.hello ++ packNats h.reply))

/-- The digests that the responder and the initiator sign. -/
def Handshake.digestR (h : Handshake) : Nat := sha384 (ascii "KR1856-ZHEAC-R" ++ h.transcript)
def Handshake.digestI (h : Handshake) : Nat := sha384 (ascii "KR1856-ZHEAC-I" ++ h.transcript ++ packNats h.finish)

/-- PRK of a handshake. -/
def Handshake.prk (h : Handshake) : Nat :=
  hkdfExtract (if h.initiator then beBytes 32 h.myNonce ++ beBytes 32 h.peerNonce
    else beBytes 32 h.peerNonce ++ beBytes 32 h.myNonce) (beBytes 48 h.z)

/-- Key, salt and SSCI of a stream of a transmitting node under a handshake. -/
def Handshake.keyOf (h : Handshake) (node stream : Nat) : Nat :=
  let okm := hkdfExpand h.prk (ascii "KR1856-LINK" ++ [0] ++ beBytes 2 node ++ beBytes 2 stream ++ h.transcript) 44
  linkValue (okm >>> 96) (okm % 2 ^ 96) (node * 2 ^ 16 + stream)

namespace State

/-! ## The public-key engine (R298) -/

/-- An operation joins the engine, which runs one at a time. -/
def pkAsk (s : State) (g : Nat) (op : PkOp) : State :=
  let h := (s.zgroup g).hs
  let j : PkJob := { group := g, number := (h.map Handshake.number).getD 0, op := op,
                     urgent := (h.map Handshake.urgent).getD false }
  match s.zheac.running with
  | none => { s with zheac := { s.zheac with running := some j } }.occur 33 0o001
  | some _ => { s with zheac := { s.zheac with queue := s.zheac.queue ++ [j] } }

/-- The next operation: rekey-due ones first, in arrival order (DEDUCED, notes/assumptions/44). -/
def pkNext (s : State) : State :=
  let q := s.zheac.queue
  match (q.find? PkJob.urgent).orElse (fun _ => q.head?) with
  | some j => { s with zheac := { s.zheac with running := some j, queue := q.erase j } }.occur 33 0o001
  | none => { s with zheac := { s.zheac with running := none } }

/-- The operations of a handshake that wait are withdrawn. -/
def pkDrop (s : State) (number : Nat) : State :=
  { s with zheac := { s.zheac with
    queue := s.zheac.queue.filter (fun j => j.number ≠ number || j.op = PkOp.generate) } }

/-- The ephemeral slot of a group is destroyed (R291). -/
def dropEph (s : State) (g : Nat) : State :=
  let v := s.zgroup g
  match v.eph with
  | some k => (s.setGroup g { v with eph := none, ephReady := false, ephPub := 0 }).destroyKey (slotZheacEph k)
  | none => s.entropyDrop (.zheac g 0)

/-- The derivation of a group's link keys is withdrawn. -/
def dropJob (s : State) (g : Nat) : State :=
  { s with keys := { s.keys with derivations := s.keys.derivations.filter (fun j => decide (j ≠ .link g)) } }

/-- What a handshake that ends has still asked of the engine, the DRBG and the derivation unit is withdrawn. -/
def dropRequests (s : State) (g number : Nat) : State :=
  (((s.pkDrop number).entropyDrop (.zheac g 1)).entropyDrop (.zheac g 2)).dropJob g

/-- The node's own HELLO is not yet answered. -/
def helloOpen (h : Handshake) : Bool :=
  h.initiator && (h.phase = HsPhase.ephemeral || h.phase = HsPhase.nonce || h.phase = HsPhase.helloSent)

/-! ## Failure and success -/

/-- Backoff of a reason (R300), in ms. -/
def backoffMs (s : State) (reason consec : Nat) : Nat :=
  (if [zrIdentity, zrWrongPeer, zrCollision, zrBadKey, zrNoNode].contains reason then 32000
    else min 32000 (500 * 2 ^ (consec - 1))) + s.node % 256

/-- The security event of a failure (Table 12.8). -/
def zSecurity (s : State) (g reason : Nat) : State :=
  if [zrIdentity, zrWrongPeer, zrBadKey].contains reason then s.emitOwn 0o114004 8 g reason else s

/-- A handshake is abandoned as SUPERSEDED (R294): it is counted nowhere. Its ephemeral is kept for the answer of a crossing
HELLO (DEDUCED, notes/assumptions/43). -/
def supersede (s : State) (g : Nat) (keepEph : Bool) : State :=
  let v := s.zgroup g
  match v.hs with
  | some h =>
    let s := s.setGroup g { v with hs := none, lastReason := zrSuperseded }
    let s := s.dropRequests g h.number
    if keepEph then s else s.dropEph g
  | none => s

/-- A handshake fails (R293, R299, R300): REFUSE when `refuse`; BACKOFF, or IDLE after LANE (DEDUCED, notes/assumptions/43).
-/
def failHs (s : State) (g reason : Nat) (refuse refused : Bool) : State :=
  let v := s.zgroup g
  match v.hs with
  | some h =>
    let back := if helloOpen h then s.groupUpLane g else s.answerLane g h.lane
    let s := if refuse then s.sendRefuse g h.hsId back reason else s
    let lane := decide (reason = zrLane)
    let consec := if lane then v.consec else min 31 (v.consec + 1)
    let s := (s.occur 33 0o003).setGroup g { v with
      hs := none, lastReason := reason, failedCount := satInc 18 v.failedCount, consec := consec,
      backoffUntil := s.now + ms (s.backoffMs reason consec) }
    let s := (s.dropRequests g h.number).dropEph g
    let s := s.emitOwn 0o111002 8 g reason
    let s := if refused then s.emitOwn 0o111010 8 g reason else s
    let s := s.zSecurity g reason
    let s := if !lane && consec = 8 && v.consec < 8 then s.emitOwn 0o113003 8 g ((s.lanePeer g).getD 0) else s
    s.zEnter g (if lane then .idle else .backoff)
  | none => s

/-! ## Steps of a handshake (Table 12.4) -/

def setHs (s : State) (g : Nat) (h : Handshake) : State := s.setGroup g { s.zgroup g with hs := some h }

/-- The NONCE has been drawn: the initiator sends its HELLO, the responder computes Z. -/
def nonceDrawn (s : State) (g nonce : Nat) : State :=
  match (s.zgroup g).hs with
  | some h =>
    if h.phase = HsPhase.nonce then
      let h := { h with myNonce := nonce }
      if h.initiator then
        let w := s.helloWords g h
        let h := { h with phase := .helloSent, sends := 1, sentAt := s.now, hello := w, message := w }
        (s.setHs g h).sendHello g h
      else (s.setHs g { h with phase := .ecdh }).pkAsk g .ecdh
    else s
  | none => s

def askNonce (s : State) (g : Nat) : State :=
  match (s.zgroup g).hs with
  | some h =>
    match (s.setHs g { h with phase := .nonce }).entropyAsk (.zheac g 1) with
    | (.granted v, s) => s.nonceDrawn g v
    | (.waits, s) => s
    | (.fails, s) => s.failHs g zrEntropy true false
  | none => s

/-- The ephemeral of a group has been drawn: its private key goes into a free ephemeral slot, and its public half is computed; with
no slot that takes it, the handshake fails with ENTROPY (R137) (DESIGN CHOICE, notes/assumptions/44). -/
def ephDrawn (s : State) (g drawn : Nat) : State :=
  let used := s.zheac.groups.filterMap (fun e => e.2.eph)
  match firstBelow 32 (fun k => !used.contains k && s.canInstall (slotZheacEph k)) with
  | some k =>
    let s := s.installKey (slotZheacEph k) (p384.privateKey drawn)
    (s.setGroup g { s.zgroup g with eph := some k, ephReady := false, ephPub := 0 }).pkAsk g .generate
  | none => s.failHs g zrEntropy true false

/-- The private half of a group's ephemeral, as its slot returns it. -/
def ephKey (s : State) (g : Nat) : Option Nat := (s.zgroup g).eph.bind (fun k => s.lookup (slotZheacEph k))

/-- A group needs an ephemeral (R291, R292) (DEDUCED, notes/assumptions/44). -/
def wantEph (s : State) (g : Nat) : State :=
  let v := s.zgroup g
  if v.eph.isSome then
    if v.ephReady && v.hs.isSome then s.askNonce g else s
  else if s.entropyWaits (.zheac g 0) then s
  else
    match s.entropyAsk (.zheac g 0) with
    | (.granted v, s) => s.ephDrawn g v
    | (.waits, s) => s
    | (.fails, s) => s.failHs g zrEntropy true false

/-- The signing nonce has been drawn. -/
def signNonceDrawn (s : State) (g drawn : Nat) : State :=
  match (s.zgroup g).hs with
  | some h =>
    if h.phase = HsPhase.signNonce then (s.setHs g { h with phase := .signing, signNonce := p384.privateKey drawn }).pkAsk g .sign
    else s
  | none => s

def askSignNonce (s : State) (g : Nat) (h : Handshake) : State :=
  match (s.setHs g { h with phase := .signNonce }).entropyAsk (.zheac g 2) with
  | (.granted v, s) => s.signNonceDrawn g v
  | (.waits, s) => s
  | (.fails, s) => s.failHs g zrEntropy true false

/-- A handshake starts (R301, R302): in KEYED with nothing to list none does. -/
def initiate (s : State) (g : Nat) : State :=
  let v := s.zgroup g
  if v.hs.isSome || decide (v.state = ZState.unusable) || (s.groupUpLane g).isNone then s
  else
    let (s, l) := s.makeList g v.startOut []
    if l.isEmpty && !v.startOut then s.zEnter g .keyed
    else
      let id := s.zheac.hellos % 262143 + 1
      let h : Handshake :=
        { initiator := true, hsId := id, number := s.zheac.handshakes + 1, urgent := s.rekeyDue l,
          myStart := v.startOut, mine := l }
      let s := { s with zheac := { s.zheac with hellos := id, handshakes := s.zheac.handshakes + 1 } }
      let s := s.zEnter g .active
      (s.setGroup g { s.zgroup g with hs := some h, lastHsId := id }).wantEph g

/-- A due stream of a KEYED group starts a handshake at once (R301). -/
def checkDue (s : State) (g : Nat) : State :=
  if (s.zgroup g).state = ZState.keyed && (s.zheacStreams g).any s.txDue then s.initiate g else s

/-- A handshake ends with success (R300, R302). -/
def succeedHs (s : State) (g : Nat) (h : Handshake) (count : Nat) : State :=
  let v := s.zgroup g
  let s := (s.occur 33 0o002).setGroup g { v with
    hs := none, ok := satInc 18 v.ok, consec := 0, startOut := false, lastCount := sat 13 count,
    done := some (h.hsId, h.mine.length, h.installed) }
  let s := (s.dropEph g).zEnter g .keyed
  let s := (s.endAlarm 0o113003 8 g).emitOwn 0o110001 8 g count
  s.checkDue g

/-- The peer's START handshake passed this node's check (R302). -/
def peerStarted (s : State) (g : Nat) (h : Handshake) : State :=
  if h.peerStart then
    let v := s.zgroup g
    (s.setGroup g { v with peerStarts := satInc 18 v.peerStarts }).emitOwn 0o110006 8 g ((s.lanePeer g).getD 0)
  else s

/-- Transmit slots of the own list as the peer's INSTALLED bitmap has them (R297): how many were installed. -/
def installTxList (s : State) (h : Handshake) (bitsIn : List Bool) : Nat × State :=
  ((h.mine.zip h.acceptMine).zip bitsIn).foldl (fun (a : Nat × State) e =>
    let x := e.1.1.stream
    if !e.1.2 then a
    else if e.2 then
      let r := a.2.installTx x e.1.1.an (h.keyOf s.node x)
      if r.1 then (a.1 + 1, r.2) else (a.1, r.2.setTx x { r.2.txStream x with failed := true })
    else (a.1, a.2.setTx x { a.2.txStream x with failed := true })) (0, s)

/-- Receive slots of the peer's list that were accepted (R296): the bitmap of those installed. -/
def installRxList (s : State) (g : Nat) (h : Handshake) : List Bool × State :=
  (h.theirs.zip h.acceptTheirs).foldl (fun (a : List Bool × State) e =>
    match (if e.2 then a.2.rxFor g e.1.stream else none) with
    | some x =>
      let r := a.2.installRx x e.1.an (h.keyOf (h.peerNode.getD 0) e.1.stream) h.peerStart
      (a.1 ++ [r.1], r.2)
    | none => (a.1 ++ [false], a.2)) ([], s)

/-- How many bits of a bitmap are set. -/
def countTrue (l : List Bool) : Nat := (l.filter id).length

/-- The handshake ends at the initiator (Table 12.4 step 7). -/
def endInitiator (s : State) (g : Nat) (h : Handshake) (bitsIn : List Bool) : State :=
  let (n, s) := s.installTxList h bitsIn
  let (m, s) := s.installRxList g h
  let h := { h with installed := m }
  (s.sendInstalled g h.hsId h.lane m).succeedHs g h (n + countTrue m)

/-- The peer's signature verifies under the ID_PUB of its node (R292). -/
def peerVerifies (s : State) (h : Handshake) : Bool :=
  match h.peerNode.bind s.certPub with
  | some k => p384.verify k (if h.initiator then h.digestR else h.digestI) h.peerSig
  | none => false

/-- The keys of a group's handshake join the derivations (R295). -/
def askDerivation (s : State) (g : Nat) : State :=
  { s with keys := { s.keys with derivations := s.keys.derivations ++ [.link g] } }

/-- A REPLY or a FINISH has been signed, and leaves: the initiator then derives every key (DEDUCED, notes/assumptions/44). -/
def signedHs (s : State) (g : Nat) (h : Handshake) (identity : Nat) : State :=
  let sig := fun (digest : Nat) => wideWords 43 (p384.sign identity h.signNonce digest)
  if h.initiator then
    let h := { h with finish := s.finishWords g h }
    let h := { h with phase := .finishSent, sends := 1, sentAt := s.now, message := h.finish ++ sig h.digestI }
    ((s.setHs g h).sendFinish g h).askDerivation g
  else
    let h := { h with reply := s.replyWords g h }
    let h := { h with phase := .replySent, sends := 1, sentAt := s.now, message := h.reply ++ sig h.digestR }
    (s.setHs g h).sendReply g h

/-- A public-key operation of a handshake has ended (Table 12.4). An identity key or an ephemeral that its slot does not return ends
the handshake with IDENTITY or ENTROPY (DESIGN CHOICE, notes/assumptions/44). -/
def pkEnded (s : State) (j : PkJob) : State :=
  let g := j.group
  let v := s.zgroup g
  match j.op with
  | .generate =>
    if v.eph.isSome && !v.ephReady then
      let s := s.setGroup g { v with ephReady := true, ephPub := ((s.ephKey g).map p384.pub).getD 0 }
      match v.hs with
      | some h => if h.phase = HsPhase.ephemeral then s.askNonce g else s
      | none => s
    else s
  | op =>
    match v.hs with
    | none => s
    | some h =>
      if h.number ≠ j.number then s
      else match op with
        | .verify =>
          if h.phase ≠ HsPhase.verifying then s
          else if !s.peerVerifies h then s.failHs g zrIdentity true false
          else
            let s := s.peerStarted g h
            if h.initiator then (s.setHs g { h with phase := .ecdh }).pkAsk g .ecdh
            else ((s.setHs g { h with phase := .keysPending }).dropEph g).askDerivation g
        | .ecdh =>
          if h.phase ≠ HsPhase.ecdh then s
          else match s.ephKey g with
            | some d => s.askSignNonce g { h with
                z := p384.ecdh d h.peerEph, acceptTheirs := h.theirs.map (fun e => (s.rxFor g e.stream).isSome) }
            | none => s.failHs g zrEntropy true false
        | .sign =>
          if h.phase ≠ HsPhase.signing then s
          else match s.lookup slotZheacId with
            | some d => s.signedHs g h d
            | none => s.failHs g zrIdentity true false
        | .generate => s

/-! ## Lanes of a group (R302, R304) -/

/-- A lane of a group reached UP. -/
def zheacLaneUp (s : State) (n : Nat) : State :=
  match s.groupOfLane n with
  | some g =>
    let v := s.zgroup g
    match v.state with
    | .idle =>
      let s := s.zEnter g .settle
      (s.setGroup g { s.zgroup g with settleFrom := s.now, settleUntil := s.now + ms 6 }).wantEph g
    | .settle => s.setGroup g { v with settleUntil := min (s.now + ms 6) (v.settleFrom + ms 30) }
    | _ => s
  | none => s

/-- A lane of a group left UP: with none UP its handshake fails with LANE, and it is IDLE. -/
def zheacLaneDown (s : State) (n : Nat) : State :=
  match s.groupOfLane n with
  | some g =>
    if (s.groupUpLane g).isSome || decide ((s.zgroup g).state = ZState.unusable) then s
    else ((s.failHs g zrLane false false).dropEph g).zEnter g .idle
  | none => s

/-- The groups as step 8 of a start leaves them (R282, R286) (DEDUCED, notes/assumptions/43). -/
def startGroups (s : State) : State :=
  (List.range 16).foldl (fun s g =>
    if s.isGroup g then
      if !s.nodeSet then s.setGroup g { state := .unusable, lastReason := zrNoNode }
      else if !s.hasCert ((s.lanePeer g).getD 0) then s.setGroup g { state := .unusable, lastReason := zrIdentity }
      else s
    else s) s

/-- Every handshake is abandoned without an outcome (Table 12.9). -/
def abandonHandshakes (s : State) : State :=
  { s with
    zheac := { s.zheac with
      groups := tabMap {} s.zheac.groups (fun _ v => { v with hs := none, eph := none, ephReady := false, ephPub := 0 })
      running := none
      queue := [] }
    keys := { s.keys with derivations := s.keys.derivations.filter fun (j : KeyJob) =>
      match j with
      | .link _ => false
      | .station _ => true } }

end State

end Sys2Proof.Machine
end

