-- ==== Sys2Proof/Machine/Turnpike.lean ====
section
/-!
DEFINITION. Turnpike (10_turnpike): the lane scheduler, spill, drains, delays, and its words.
-/

namespace Sys2Proof.Machine

/-! ## Deficit round robin -/

/-- The member of a rising list that follows `c`, cyclically. -/
def nextIn (l : List Nat) (c : Nat) : Nat := ((l.find? (fun m => decide (c < m))).orElse (fun _ => l.head?)).getD 0

/-- Deficit round robin over the ready members: each visit adds the member's quantum to its deficit, and a member that has
its head's cost sends; a member that is not ready has no deficit. -/
def drrPick (quantum cost : Nat → Nat) (ready : List Nat) : Nat → Drr → Option (Nat × Drr)
  | 0, _ => none
  | fuel + 1, d =>
    if ready.contains d.cur then
      let have_ := tabGet 0 d.deficits d.cur + (if d.granted then 0 else quantum d.cur)
      if cost d.cur ≤ have_ then
        some (d.cur, { d with granted := true, deficits := tabPut 0 d.deficits d.cur (have_ - cost d.cur) })
      else
        drrPick quantum cost ready fuel
          { cur := nextIn ready d.cur, granted := false, deficits := tabPut 0 d.deficits d.cur have_ }
    else
      drrPick quantum cost ready fuel
        { cur := nextIn ready d.cur, granted := false, deficits := tabPut 0 d.deficits d.cur 0 }

/-- The pick of a round robin whose other members have nothing ready. -/
def drr (quantum cost : Nat → Nat) (ready : List Nat) (d : Drr) : Option (Nat × Drr) :=
  if ready.isEmpty then none
  else drrPick quantum cost ready (64 * (ready.length + 1))
    { d with deficits := d.deficits.filter (fun e => ready.contains e.1) }

namespace State

/-! ## The lane scheduler (R238 to R240) -/

/-- A received PFC stops the queue's class (R213). -/
def pfcStops (s : State) (n t q : Nat) : Bool :=
  s.lanePfcEn n && (List.range 8).any (fun p => (s.lane n).pfcRx.testBit p && decide (s.pcpTc t p = s.qTc q))

/-- A received PAUSE or PFC holds a queue of a tenant (R240). -/
def flowHolds (s : State) (n t q : Nat) : Bool := (s.lanePauseEn n && (s.lane n).pauseRx) || s.pfcStops n t q

/-- The queues of a tenant for lane `n` whose head frame is buffered and not held. -/
def readyQueues (s : State) (n t : Nat) : List Nat :=
  (s.tenantQueues t).filter (fun q =>
    s.qValid q && decide (s.qEgress q = n) && (s.queue q).inFlight.isNone && !s.flowHolds n t q &&
      (match (s.queue q).frames.head? with
        | some f => decide (f.place ≠ Place.spill) &&
            (match f.stream with
              | some x => !s.laneIsTrunk n || s.txReady x
              | none => true)
        | none => false))

/-- The tenants ready on a lane. -/
def readyTenants (s : State) (n : Nat) : List Nat := (List.range 16).filter (fun t => !(s.readyQueues n t).isEmpty)

/-- Bytes charged for the head frame of a queue on a lane. -/
def headCost (s : State) (n q : Nat) : Nat :=
  match (s.queue q).frames.head? with
  | some f => s.charged n f.len
  | none => 0

/-- The next queue of a tenant for a lane (quantum WEIGHT × 256 bytes), and the state of the round robin after it (DEDUCED,
notes/assumptions/37). -/
def pickQueue (s : State) (n t : Nat) : Option (Nat × Drr) :=
  drr (fun q => s.qWeight q * 256) (s.headCost n) (s.readyQueues n t) (tabGet {} (s.sched n).queues t)

/-- The phase and tenant that a lane serves next, with the scheduler's state after the choice (R240). -/
def pickTenant (s : State) (n : Nat) : Option (Bool × Nat × Nat × Sched) :=
  let c := s.sched n
  let ready := (s.readyTenants n).filter (fun t => s.ceilOk t n)
  let commit := ready.filter (fun t => s.commitOk t n)
  if !commit.isEmpty then
    let t := nextIn commit c.lastCommit
    (s.pickQueue n t).map (fun d => (true, t, d.1, { c with lastCommit := t, queues := tabPut {} c.queues t d.2 }))
  else
    let excess := ready.filter (fun t => decide (s.tenWeight t n > 0))
    let cost := fun t => match s.pickQueue n t with
      | some d => s.headCost n d.1
      | none => 0
    match drr (fun t => s.tenWeight t n * 2048) cost excess c.excess with
    | some (t, d) => (s.pickQueue n t).map (fun e =>
        (false, t, e.1, { c with excess := d, queues := tabPut {} c.queues t e.2 }))
    | none => none

/-- Bytes that the management queue of a lane has used in the last 1 ms (DEDUCED, notes/assumptions/37). -/
def mgmtUse (s : State) (c : Sched) : Nat := ((c.mgmtUsed.filter (fun e => decide (s.now < e.1 + ms 1))).map Prod.snd).sum

/-- Tokens of a frame sent by a tenant on a lane. -/
def chargeTokens (s : State) (n t b : Nat) (commit : Bool) : State :=
  let k := 16 * t + n
  let b1 := s.charge (tabGet {} s.tp.ceilTok k) (s.ceilRate t n) b
  let b2 := s.charge (tabGet {} s.tp.commitTok k) (s.commitRate t n) b
  let s := { s with tp := { s.tp with ceilTok := tabPut {} s.tp.ceilTok k b1 } }
  if commit then { s with tp := { s.tp with commitTok := tabPut {} s.tp.commitTok k b2 } } else s

/-- The last byte of a data frame has left its lane: Milepost and Waymark are told (R477, R482, R485). -/
def frameDone (s : State) (n q : Nat) (f : QFrame) : State :=
  let len := s.laneLen n f.len
  let trunk := s.laneIsTrunk n
  let s := (s.frameOut n len).occurs 26 0o002 0 (cellsOf f.len)
  let s := if trunk then s.note (.slots false (n / 2) true (slotsOf len)) else s
  s.wayEnd q n f trunk 0

/-- The chosen head frame goes to its lane, through the engine of a trunk lane (R264): a refused frame frees its cells and
is counted against its queue (DEDUCED, notes/assumptions/38). -/
def sendHead (s : State) (n t q : Nat) (commit : Bool) (c : Sched) (engineWait : Nat) : State :=
  match (s.queue q).frames.head? with
  | none => s
  | some f =>
    let trunk := s.laneIsTrunk n
    let (r, s) := if trunk then s.protectFrame n f.stream f.data else (Seal.sent 0 0 (withFcs f.data), s)
    let s := match r with
      | .refused code =>
        let s := if code = rcNoKey then s.occur (16 + n / 2) 0o006 else s
        ((s.dropHead q).refuse t q code).wayEnd q n f trunk code
      | .sent an pn bytes =>
        let e := 16 + n / 2
        let s := if trunk then (((s.occur e 0o001).occur e 0o006).occur 32 0o001).occurs e 0o011 engineWait 1 else s
        let s := s.chargeTokens n t (s.charged n f.len) commit
        let s := s.setSched n { c with
          sending := some (.data q an pn), engineWaitMax := max c.engineWaitMax (min engineWait 578) }
        let s := { s with tp := { s.tp with engineLast := tabPut 0 s.tp.engineLast (n / 2) n } }
        let v := s.queue q
        let f := { f with mark := f.mark.map (fun (m : Mark) => { m with picked := s.now }) }
        ((s.setQueue q { v with frames := v.frames.tail, inFlight := some f }).send
          (.picked n q (s.laneLen n f.len) (if trunk then f.stream else none) an pn)).startFrame n bytes
    match (if trunk then s.groupOfLane n else none) with
    | some g => s.checkDue g
    | none => s

/-- The lane can start a frame: it is UP, sends nothing, and no received PAUSE holds it (R191, R197). -/
def laneStarts (s : State) (n : Nat) : Bool :=
  s.laneUpNow n && (s.sched n).sending.isNone && !(s.lanePauseEn n && (s.lane n).pauseRx)

/-- The management queue of a lane is served ahead of data: it has a frame, and has used at most 1 % of the lane in the last
1 ms (R238). -/
def mgmtFirst (s : State) (n : Nat) : Option (MgmtFrame × List MgmtFrame) :=
  let c := s.sched n
  if s.mgmtUse c * 100 ≤ s.laneRate n * 125 then
    match c.mgmt with
    | f :: rest => some (f, rest)
    | [] => none
  else none

/-- A management frame starts on its lane. -/
def sendMgmt (s : State) (n : Nat) (f : MgmtFrame) (rest : List MgmtFrame) : State :=
  let c := s.sched n
  let b := if s.laneMode n = 6 then f.len else f.len + 20
  let used := (c.mgmtUsed.filter (fun e => decide (s.now < e.1 + ms 1))) ++ [(s.now, b)]
  ((s.setSched n { c with sending := some (.mgmt f), mgmt := rest, mgmtUsed := used }).note
    (.rcd 30 0o12 [fld 17 13 n, fld 17 4 f.len])).startFrame n f.bytes

/-- The frame that the scheduler of a lane chooses next (R240). -/
def pickData (s : State) (n engineWait : Nat) : State :=
  match s.pickTenant n with
  | some (commit, t, q, c) => s.sendHead n t q commit c engineWait
  | none => s

/-- The lane has a data frame for its engine now (R249). -/
def engineReady (s : State) (n : Nat) : Bool :=
  s.laneIsTrunk n && s.laneStarts n && (s.mgmtFirst n).isNone && (s.pickTenant n).isSome

/-- The lane that shares the engine of trunk lane `n` and goes first: both have a frame ready, and `n` supplied the previous one
(R249). -/
def engineOther (s : State) (n : Nat) : Option Nat :=
  match s.laneLead (if n % 2 = 0 then n + 1 else n - 1) with
  | some m =>
    if decide (m ≠ n) && s.engineReady n && s.engineReady m && decide (tabGet 0 s.tp.engineLast (n / 2) = n) then some m else none
  | none => none

/-- A lane's scheduler chooses, after the lane that goes first at their engine (R249) (DEDUCED, notes/assumptions/37). -/
def schedule (s : State) (n engineWait : Nat) : State :=
  if !s.laneStarts n then s
  else match s.mgmtFirst n with
    | some (f, rest) => s.sendMgmt n f rest
    | none =>
      let s := match s.engineOther n with
        | some m => s.pickData m 0
        | none => s
      s.pickData n engineWait

/-! ## Sections with a drain (R248) -/

/-- A frame in spill is read back into cells of its queue. -/
def readBack (s : State) (q : Nat) (l : List QFrame) (f : QFrame) (rest : List QFrame) : State :=
  let v := s.queue q
  let c := cellsOf f.len
  let put := fun (p : Place) => s.setQueue q { v with frames := l ++ [{ f with place := p, unaccepted := false }] ++ rest }
  if held v .reserved + c ≤ s.qWord q 2 then (put .reserved).occurs 26 0o001 0 c
  else if c ≤ s.sharedFree ∧ held v .shared + c ≤ s.qWord q 3 then (put .shared).occurs 26 0o001 0 c
  else s

end State

/-! ## Commands -/

/-- SCHEDULER_PICK (R238 to R240): `engineWait` is how many CK_CORE cycles the frame waited for its engine (R249) (DEDUCED,
notes/assumptions/37). -/
def execSchedulerPick (lane : Fin 16) (engineWait : Nat) (s : State) : Host.Outcome State Fault Refusal :=
  actUnit [.free, .once, .start, .image, .cus, .keys, .trng, .lanes, .tenants, .tp, .link, .zheac, .sp, .way] s (fun s =>
    match s.laneLead lane with
    | none => s
    | some n => s.schedule n engineWait)

/-- TX_FRAME_COMPLETE (R235): the last byte has left the lane. -/
def execTxFrameComplete (lane : Fin 16) (s : State) : Host.Outcome State Fault Refusal :=
  actUnit [.free, .image, .keys, .lanes, .tenants, .tp, .sp, .way] s (fun s =>
    match s.laneLead lane with
    | none => s
    | some n =>
      let c := s.sched n
      match c.sending with
      | some m =>
        let s := (s.setSched n { c with sending := none }).frameLeaves n
        match m with
        | .data q _ _ =>
          let s := match (s.queue q).inFlight with
            | some f => s.frameDone n q f
            | none => s
          s.endFlight q
        | .mgmt f => (s.frameOut n f.len).mgmtAdmit s.tp.mgmtWait
      | none => s)

/-- SPILL_ACCEPT_TIMEOUT (R234, R251): the spill path has accepted the oldest `ahead` waiting frames of the queue, and has not
accepted the next within 1 µs. -/
def execSpillAcceptTimeout (queue : Fin 16384) (ahead : Nat) (s : State) : Host.Outcome State Fault Refusal :=
  actUnit [.now, .free, .once, .lanes, .tenants, .tp, .way] s (fun s =>
    let q := queue.val
    match s.tenantOfQueue q with
    | some t =>
      let s := s.acceptSpill t q ahead
      match (s.queue q).frames.find? (fun f => f.unaccepted) with
      | some f =>
        let s := s.upTo (f.since + us 1)
        let s := s.setQueue q { s.queue q with frames := (s.queue q).frames.eraseP (fun f => f.unaccepted) }
        ((s.emitOnce 0o071004 2 q 2).refuse t q rcQuota).wayEnd q (s.qEgress q) f (s.egressTrunk q) rcQuota
      | none => s
    | none => s)

/-- SPILL_READ_BACK (R234): the oldest frame in spill is read back into the queue's cells, or refused with INTEGRITY when a
line of it fails its check, when its tenant's tree is broken (Table 13.8), and when memory has left ready (Table 10.6, R323)
(DEDUCED, notes/assumptions/38). -/
def execSpillReadBack (queue : Fin 16384) (good : Bool) (s : State) : Host.Outcome State Fault Refusal :=
  actUnit [.free, .once, .lanes, .tenants, .tp, .way] s (fun s =>
    let q := queue.val
    match s.tenantOfQueue q with
    | none => s
    | some t =>
    let oldest := match (s.queue q).frames.find? (fun f => decide (f.place = Place.spill)) with
      | some f => if f.unaccepted then 1 else 0
      | none => 0
    let s := s.acceptSpill t q (max oldest (s.spillDue q))
    let v := s.queue q
    match v.frames.dropWhile (fun f => decide (f.place ≠ Place.spill)) with
    | f :: rest =>
      let l := v.frames.takeWhile (fun f => decide (f.place ≠ Place.spill))
      if good && s.memReady && !(tabGet {} s.mem.regions t).broken then s.readBack q l f rest
      else
        let s := (s.setQueue q { v with frames := l ++ rest }).refuse t q rcIntegrity
        (s.wayEnd q (s.qEgress q) f (s.egressTrunk q) rcIntegrity).delayFalls t (s.qTc q)
    | [] => s)

/-- DRAIN_TIMEOUT (R248): 10 ms after the drain began what is still queued is refused with QUOTA, and the sections apply. -/
def execDrainTimeout (tenant : Fin 16) (s : State) : Host.Outcome State Fault Refusal :=
  actUnit [.now, .free, .once, .image, .lanes, .tenants, .tp, .cway, .way] s (fun s =>
    match tabGet none s.tp.drains tenant with
    | some d => ((s.upTo (d.since + ms 10)).refuseTenant tenant rcQuota).applyTenant tenant
    | none => s)

/-- DELAY_QUIET_EXPIRY (R251): the queue's delay request has stayed released for 1 s. -/
def execDelayQuietExpiry (queue : Fin 16384) (s : State) : Host.Outcome State Fault Refusal :=
  actUnit [.now, .free, .tenants, .tp] s (fun s =>
    let q := queue.val
    let v := s.queue q
    match v.releasedAt with
    | some t => ((s.upTo (t + secs 1)).setQueue q { v with releasedAt := none, delayEventAt := none }).emit 0o070002 2 q 0
    | none => s)

/-- RESET_QUEUES_EMPTIED (R218 steps 3 and 4): the queues are empty, pending sections apply, and the new memory key is asked for; without configured memory none is drawn (R310). -/
def execResetQueuesEmptied (tenant : Fin 16) (s : State) : Host.Outcome State Fault Refusal :=
  actUnit [.free, .once, .image, .keys, .trng, .lanes, .tenants, .tp, .mem, .cway, .sp, .way] s (fun s =>
    match (s.tenant tenant).reset with
    | some r =>
      if r.phase = ResetPhase.emptying then
        let s := s.refuseTenant tenant rcTenantReset
        let s := if s.tenantPending tenant then s.applyTenant tenant else s
        if s.start.memState = MemState.noneConfigured then s.resetToRegion tenant r else s.askTenantKey tenant
      else s
    | none => s)

/-! ## Words -/

/-- Spill that a queue holds, in units of 64 KiB, rounded up. -/
def spillUnits (v : Queue) : Nat := (State.held v .spill + 255) / 256

/-- The queue status words 0o040000 to 0o137777 (Table 10.9). -/
def readQueues (s : State) (a : Nat) : Nat :=
  let q := (a - 0o040000) / 2
  match s.tenantOfQueue q with
  | none => 0
  | some t =>
    let v := s.queue q
    if a % 2 = 0 then
      flag 17 (s.delayStands t (s.qTc q)) + flag 16 (decide (State.held v .spill > 0)) +
        fld 15 0 (sat 16 ((State.heldAll v + 3) / 4))
    else sat 18 (spillUnits v)

/-- A sum over the queues of a tenant. -/
def sumQueues (s : State) (l : List Nat) (f : Queue → Nat) : Nat := (l.map (fun q => f (s.queue q))).sum

/-- The Turnpike words 0o140000 to 0o147777 (Table 10.10, R231). -/
def readTurnpike (s : State) (a : Nat) : Nat :=
  let all := s.tp.queues.map Prod.fst
  if a = 0o140000 then s.sharedFree
  else if a = 0o140001 then s.reservedTotal
  else if a = 0o140002 then sumQueues s all (fun v => State.held v .reserved) + ((List.range 16).map s.parkedCells).sum
  else if a = 0o140003 then s.mgmtHeld
  else if a = 0o140004 then flag 17 s.memReady
  else if a = 0o140005 ∨ a = 0o140006 then wideWord 2 (sumQueues s all spillUnits) (a - 0o140005)
  else if 0o141000 ≤ a ∧ a < 0o141200 then
    let t := (a - 0o141000) / 8
    let l := s.tenantQueues t
    match a % 8 with
    | 0 => sumQueues s l (fun v => State.held v .reserved) + s.parkedCells t
    | 1 => sumQueues s l (fun v => State.held v .shared)
    | 2 => sat 18 (sumQueues s l spillUnits)
    | 3 => fld 17 10 (maskOf 8 (fun c => s.delayStands t c))
    | 4 => match tabGet none s.tp.drains t with
      | some d => sat 18 d.held.length
      | none => 0
    | _ => 0
  else if 0o142000 ≤ a ∧ a < 0o142400 then
    let n := (a - 0o142000) / 16
    match a % 16 with
    | 0 => maskOf 16 (fun t => (s.readyTenants n).contains t)
    | 1 => maskOf 16 (fun t => s.configured t && s.commitOk t n)
    | 2 => (s.sched n).engineWaitMax
    | _ => 0
  else if 0o144000 ≤ a ∧ a < 0o145000 then s.cfg 0o022 ((a - 0o144000) / 32) ((a - 0o144000) % 32)
  else if a = 0o146000 then s.tp.qsel
  else if 0o146040 ≤ a ∧ a < 0o146100 then
    wideWord 2 (tabGet 0 (s.queue s.tp.qsel).refused ((a - 0o146040) / 2 + 1)) (a % 2)
  else if 0o147740 ≤ a ∧ a ≤ 0o147760 then tabGet 0 s.tp.noTenant (a - 0o147740)
  else 0

end Sys2Proof.Machine
end

