-- ==== Sys2Proof/Machine/VergeOps.lean ====
section
/-!
DEFINITION. Operations of the Verge die (15_verge_and_stations R358 to R372, R386): ports and their refreshes, the downstream
sequence, the metering hold, and its resets (02_package_and_barrier R48).
-/

namespace Sys2Proof.Machine

namespace State

def port (s : State) (p : Nat) : Port := tabGet {} s.verge.ports p
def setPort (s : State) (p : Nat) (v : Port) : State := { s with verge := { s.verge with ports := tabPut {} s.verge.ports p v } }

/-- The words P to P + 0o14 (Table 15.12). -/
def portWords (v : Port) : List Nat :=
  [fld 17 15 v.state.code + flag 14 v.fwd + flag 13 v.rts + flag 12 v.cts + flag 11 v.dcd + v.gen,
   wideWord 2 v.framesRx 0, wideWord 2 v.framesRx 1, v.frameErr, v.gapAborts, v.duplicates, v.early, v.holdLost,
   wideWord 2 v.framesTx 0, wideWord 2 v.framesTx 1, v.downQuota, v.downLd, v.queue.length]

/-- The words of a Verge unit: ports 0 to 9, the field inputs 0o12 and the metering hold 0o13 (R386, R387). -/
def vergeWords (s : State) (u : Nat) : List Nat :=
  let g := s.verge
  if u < 10 then portWords (s.port u)
  else if u = 0o12 then (fld 17 10 g.levels + g.finGen) :: (List.range 8).map (fun i => tabGet 0 g.edges i)
  else [fld 17 6 g.hold.length + flag 5 g.thLink, wideWord 2 g.msSent 0, wideWord 2 g.msSent 1, g.msDropped]

/-- A STATE_UPDATE of the same unit that has not yet been sent gives way to a later one; its events go on. -/
def mergeUpdate (u : Nat) (ws : List Nat) (evs : List (Nat × Nat)) : List Msg → List Msg
  | [] => [.stateUpdate u ws evs]
  | .stateUpdate v old more :: l => if v = u then .stateUpdate u ws (more ++ evs) :: l else .stateUpdate v old more :: mergeUpdate u ws evs l
  | m :: l => m :: mergeUpdate u ws evs l

/-- The owner refreshes its shadow after a change (R351); in ABSENT and TRAINING it waits for the refresh of R343. -/
def refresh (s : State) (u : Nat) : State :=
  if s.wayOpen .up then
    let evs := (s.verge.events.filter (fun e => decide (e.1 = u))).map Prod.snd
    let s := { s with verge := { s.verge with events := s.verge.events.filter (fun e => decide (e.1 ≠ u)) } }
    let c := s.chan .up .state
    (s.setChan .up .state { c with waiting := mergeUpdate u (s.vergeWords u) evs c.waiting }).pump .up .state
  else s

/-- An event of a Verge unit leaves with its next refresh (DEDUCED, notes/assumptions/50). -/
def vergeEvent (s : State) (u e arg : Nat) : State :=
  { s with verge := { s.verge with events := s.verge.events ++ [(u, e, arg)] } }

/-- An event that the Verge die emits at most once in each second for its key. -/
def vergeOnce (s : State) (u key e arg : Nat) : State :=
  let sec := s.now / secs 1
  if s.verge.once.contains (e, key, sec) then s
  else
    let rest := s.verge.once.filter (fun o => !(o.1 == e && o.2.1 == key))
    { s with verge := { s.verge with once := (e, key, sec) :: rest } }.vergeEvent u e arg

/-- A port enters a state: GEN rises by 1, modulo 32 (R386). -/
def portEnter (s : State) (p : Nat) (st : PortState) (v : Port) : State :=
  s.setPort p { v with state := st, gen := if v.state = st then v.gen else (v.gen + 1) % 32 }

/-! ## Downstream on a port (R361 to R363, R381, Table 15.1) -/

/-- CTS is asserted while RTS is: the LEAD time begins. -/
def portCts (s : State) (p : Nat) : State :=
  let v := s.port p
  if v.state = PortState.waitCts && v.rts && v.cts then s.setPort p { v with lead := true, ldRun := 0 } else s

/-- A configuration of the port is pending or on its way: it starts no new downstream frame (Table 4.7) (DEDUCED,
notes/assumptions/51). -/
def configDue (s : State) (p : Nat) : Bool :=
  let c := s.chan .down .state
  (s.pending? 0o020 p).isSome || (c.waiting ++ c.wire.map Prod.snd).any (fun m => match m with
    | .portConfig q _ _ => decide (q = p)
    | _ => false)

/-- The frame at the head of an IDLE port's queue begins the sequence of Table 15.1: a radio port asserts RTS unless DCD
gates it, a TIA-485 port drives BUSk_DE (DEDUCED, notes/assumptions/51). -/
def portStart (s : State) (p : Nat) : State :=
  let v := s.port p
  if v.state = PortState.idle && !v.queue.isEmpty && s.vergeRuns && !s.configDue p then
    if v.mode = 3 then s.portEnter p .transmitting { v with de := true, lead := true }
    else (s.portEnter p .waitCts { v with rts := !(v.dcdGate && v.dcd) }).portCts p
  else s

/-- Every queued frame of a port is refused with LANE-DOWN (DEDUCED, notes/assumptions/50). -/
def portRefuseAll (s : State) (p : Nat) : State :=
  let v := s.port p
  s.setPort p { v with queue := [], downLd := satAdd 18 v.downLd v.queue.length }

/-- The port's drivers become inactive (DEDUCED, notes/assumptions/51). -/
def portRelease (v : Port) : Port := { v with rts := false, cts := false, de := false, lead := false, tail := false }

/-- A port takes a configuration (R358, R364). -/
def portConfigure (s : State) (p : Nat) (config : List Word) : State :=
  let v := { portRelease (s.port p) with config := config, inFrame := false }
  if v.mode = 0 then (s.portEnter p .off v).portRefuseAll p
  else (s.portEnter p .idle v).portStart p

/-! ## The metering hold (R370) -/

/-- Sections leave for the Tollhouse while its link is up, in arrival order. -/
def holdGo (s : State) : State :=
  if s.verge.thLink then
    let l := s.verge.hold
    let s := { s with verge := { s.verge with hold := [], msSent := satAdd 36 s.verge.msSent l.length } }
    l.foldl (fun s m => s.sendMsg .thDown .legal m) s
  else s

/-- A metering section is copied to the Tollhouse; one that finds the hold full is discarded. -/
def meterCopy (s : State) (m : Msg) : State :=
  if s.verge.hold.length ≥ 2048 then
    ({ s with verge := { s.verge with msDropped := satInc 18 s.verge.msDropped } }.vergeOnce 0o13 0 0o141005 0).refresh 0o13
  else ({ s with verge := { s.verge with hold := s.verge.hold ++ [m] } }.holdGo).refresh 0o13

/-! ## The Tollhouse link (R345 to R348) -/

/-- The link fails: what the Verge die had not got acknowledged waits for the next link; the Tollhouse sends its reports
again when the link returns (R347). -/
def thLinkDown (s : State) : State :=
  let s := { s with verge := { s.verge with thLink := false } }
  let c := s.chan .thDown .legal
  (s.setChan .thDown .legal (c.fresh 0)).setChan .thUp .legal {}

/-! ## Resets (R48, R331, R547, Table 15.8) -/

/-- The Verge die resets with a cause; a further cause during a reset is taken into it, the lowest code standing (Table
2.10, R547). A cause of 0o1 or 0o2 clears the retained configuration (R364) (DEDUCED, notes/assumptions/49). -/
def vergeReset (s : State) (cause : Nat) (v : VergeUnit) : State :=
  let was := s.verge.vf33Low || s.verge.rstLow || s.verge.clockLost
  let cause := if was && decide (s.verge.cause ≠ 0) then min s.verge.cause cause else cause
  let keep := fun (p : Nat) => if cause = 3 then (s.port p).config else []
  let s := s.thLinkDown
  let s := (((s.setChan .up .state {}).setChan .up .station {}).setChan .up .legal {}).setChan .thDown .legal {}
  { s with verge := {
      vf33Low := v.vf33Low, rstLow := v.rstLow, clockLost := v.clockLost, locked := false, resetFlag := true,
      cause := cause,
      ports := ((List.range 10).map (fun p => (p, ({ config := keep p } : Port)))).filter (fun e => decide (e.2 ≠ ({} : Port))) } }

end State

end Sys2Proof.Machine
end

