-- ==== Sys2Proof/Machine/Causeway.lean ====
section
/-!
DEFINITION. Commands of the Causeway (14_causeway R329 to R344, R351): the partner and its channels, credit and
acknowledgement, the messages the host takes from the Verge die, and frames that leave a VP queue (15 R379); the Causeway,
Verge and station words.
-/

namespace Sys2Proof.Machine

namespace State

/-- Pending VERGE_PORT sections apply, and every port is configured (R343 step 2, R364). -/
def configurePorts (s : State) : State :=
  if s.configuredYet then
    let s := (List.range 10).foldl (fun s p => s.takePending 0o020 p) s
    ((List.range 10).foldl (fun s p => s.sendPortConfig p) s).settleApply
  else s

/-- The entry to UP (R343); ARG of 0o130001 (DEDUCED, notes/assumptions/49). -/
def enterUp (s : State) (arg : Nat) : State :=
  let again := decide (s.cway.partner = Partner.single)
  let open_ := fun (s : State) (w : Way) (c : MsgClass) => s.setChan w c ((s.chan w c).fresh (credit0 w c))
  let s := [MsgClass.state, .station, .legal].foldl (fun s c => open_ (open_ s .down c) .up c) s
  -- Station credit opens subject to R338: while it is withheld, all of it is still owed.
  let up := s.chan .up .station
  let s := if s.withheld then s.setChan .up .station { up with credit := 0, owed := credit0 .up .station } else s
  let s := { s with
    verge := { s.verge with ports := tabMap {} s.verge.ports (fun _ v => { v with fwd := false }) }
    cway := { s.cway with chOk := 15, th := if again then s.cway.th else if s.isN then 2 else 0 } }
  let s := (s.partnerEnter .up).endAlarm 0o133002 0 0
  let s := (s.emitOwn 0o130001 0 0 arg).configurePorts
  let s := (s.sendMsg .down .state .stateQuery).resendLegal
  [MsgClass.state, .station, .legal].foldl (fun s c => (s.pump .down c).pump .up c) s

/-- A heartbeat with RESET 1 marks a Verge reset, counted once; the first after a host start is not counted (R344). The
cause it records, 0 for none (DEDUCED, notes/assumptions/49). -/
def recordReset (s : State) : Nat × State :=
  let c := s.cway
  if !s.verge.resetFlag then (0, { s with cway := { c with seen := false } })
  else if c.seen then (0, s)
  else if c.resetMet then
    (s.verge.cause, { s with cway := { c with
      seen := true, lastCause := s.verge.cause, restarts := satInc 15 c.restarts } })
  else (0, { s with cway := { c with seen := true, resetMet := true } })

/-- TH_LINK as a heartbeat carries it (R340, R348) (DEDUCED, notes/assumptions/49). -/
def heardThLink (s : State) : State :=
  let now := s.verge.thLink
  let fell := s.cway.thLinkSeen && !now
  let s := { s with cway := { s.cway with
    thLinkSeen := now, th := if s.isN then 2 else if now then s.cway.th else 3 } }
  if fell && !s.isN then s.emitDev 0o131006 else s

/-- A go-back of a class (R339): after 16 in succession the channel that carries it retrains. -/
def goBack (s : State) (w : Way) (c : MsgClass) (retrained : Bool) : State :=
  let v := s.chan w c
  let s := if w = Way.down then s.occur 34 0o003 else s
  if v.goBacks + 1 < 16 then s.setChan w c { v with goBacks := v.goBacks + 1 }
  else
    let s := s.setChan w c { v with goBacks := 0 }
    match w with
    | .thDown | .thUp => s
    | .down | .up =>
      let s := { s with cway := { s.cway with retrains := satInc 18 s.cway.retrains } }
      let k := if s.cway.partner = Partner.single then (if s.pairGood 0 then 0 else 1)
        else if c = MsgClass.state then 0 else 1
      if retrained then s.emitOwn 0o131004 0 0 (clsNo c) else s.channelsFail (2 ^ k + 2 ^ (k + 2)) 2

end State

/-! ## The partner (Table 14.3) -/

/-- TRAIN_ALIGNED (R330): from ABSENT once the host has started its link. -/
def execTrainAligned (s : State) : Host.Outcome State Fault Refusal :=
  act [.cway] s (fun s =>
    if s.cway.partner = Partner.absent && s.start.linkStarted && s.vergeRuns && !s.replayMode then s.partnerEnter .training else s)

/-- TRAINING_TIMEOUT (R341). -/
def execTrainingTimeout (s : State) : Host.Outcome State Fault Refusal :=
  act [.cway] s (fun s => if s.cway.partner = Partner.training && !s.replayMode then s.partnerEnter .absent else s)

/-- CHANNEL_FAIL (R340, R341): the channels D0, D1, U0 and U1 (bits 0 to 3) that fail in one cycle. -/
def execChannelFail (channels : BitVec 4) (s : State) : Host.Outcome State Fault Refusal :=
  act [.free, .once, .image, .keys, .lanes, .tenants, .tp, .cway, .stn, .sp, .way] s (fun s => if s.linked && !s.replayMode then s.channelsFail channels.toNat 1 else s)

/-- HEARTBEAT_RX (R340, R344): at the host, the first one in TRAINING enters UP; at the Verge die, SEEN 1 ends RESET. -/
def execHeartbeatRx (atVerge : Bool) (pair : Fin 2) (fault : MsgFault) (s : State) : Host.Outcome State Fault Refusal :=
  act [.image, .cway, .verge] s (fun s =>
    let training := decide (s.cway.partner = Partner.training)
    if s.replayMode || !s.vergeRuns || !(training || s.cway.chOk.testBit (if atVerge then pair.val else pair.val + 2)) then s
    else if atVerge then
      if fault = MsgFault.good && s.cway.seen then { s with verge := { s.verge with resetFlag := false } } else s
    else match fault with
      | .crc => { s with cway := { s.cway with crcErr := satInc 36 s.cway.crcErr } }.occur 34 0o004
      | .badType => { s with cway := { s.cway with badType := satInc 18 s.cway.badType } }
      | .good =>
        let (cause, s) := (s.occur 34 0o002).recordReset
        let s := if training then s.enterUp cause else s
        s.heardThLink)

/-- HEARTBEAT_DUE (R333): the host, or the Verge die, sends a heartbeat. -/
def execHeartbeatDue (verge : Bool) (s : State) : Host.Outcome State Fault Refusal :=
  act [.cway] s (fun s =>
    let c := s.cway
    let g := s.verge
    if c.partner = Partner.absent then s
    else if verge then
      let n := (c.hbVerge + 1) % 2 ^ 18
      { s with cway := { c with hbVerge := n } }.send (.message .up (heartbeatWords g.resetFlag false g.cause g.thLink n))
    else
      let n := (c.hbHost + 1) % 2 ^ 18
      ({ s with cway := { c with hbHost := n } }.send (.message .down (heartbeatWords false c.seen 0 false n))).occur 34 0o001)

/-- RETRAIN_TIMER (R341): in SINGLE the failed pair retrains every 1 ms. -/
def execRetrainTimer (success : Bool) (s : State) : Host.Outcome State Fault Refusal :=
  act [.image, .cway, .verge] s (fun s => if s.cway.partner = Partner.single && success && !s.replayMode then s.enterUp 0 else s)

/-! ## Credit and acknowledgement (R337 to R339) -/

/-- The way that answers a way. -/
def wayBack : Way → Way
  | .down => .up
  | .up => .down
  | .thDown => .thUp
  | .thUp => .thDown

/-- A CREDIT, ACK or NAK about a class of a way, with what follows the class in p0: the host receives it about its own messages, and
sends it about the Verge die's. -/
def State.controlMsg (s : State) (w : Way) (c : MsgClass) (type low : Nat) : State :=
  let s := s.send (.message (wayBack w) (messageWords type 0 [fld 17 16 (clsNo c) + low]))
  match w with
  | .down => s.occur 34 0o002
  | .up => s.occur 34 0o001
  | .thDown | .thUp => s

/-- CREDIT_RX: words of credit that the receiver returns; class 2 credit toward the Verge die may be withheld (R338). -/
def execCreditRx (way : Way) (cls : MsgClass) (words : Nat) (s : State) : Host.Outcome State Fault Refusal :=
  act [.cway] s (fun s =>
    let v := s.chan way cls
    if !s.wayOpen way || (decide (way = Way.up ∧ cls = MsgClass.station) && s.withheld) then s
    else
      let k := min words v.owed
      let s := s.controlMsg way cls 0o02 (fld 15 0 k)
      (s.setChan way cls { v with owed := v.owed - k, credit := min (credit0 way cls) (v.credit + k) }).pump way cls)

/-- ACK_RX (R339): every message received in order is acknowledged. -/
def execAckRx (way : Way) (cls : MsgClass) (s : State) : Host.Outcome State Fault Refusal :=
  act [.cway] s (fun s =>
    let v := s.chan way cls
    if s.wayOpen way && decide (0 < v.received) then
      let s := s.controlMsg way cls 0o03 (fld 15 13 (v.expected + 7))
      (s.setChan way cls { v with unacked := v.unacked.drop v.received, goBacks := 0 }).pump way cls
    else s)

/-- NAK_RX (R339): the sender goes back to the SEQ that the receiver expects. -/
def execNakRx (way : Way) (cls : MsgClass) (retrained : Bool) (s : State) : Host.Outcome State Fault Refusal :=
  act [.free, .once, .image, .keys, .lanes, .tenants, .tp, .cway, .stn, .sp, .way] s (fun s =>
    let v := s.chan way cls
    if s.wayOpen way && v.naked then
      let s := s.controlMsg way cls 0o04 (fld 15 13 v.expected)
      let left := v.unacked.drop v.received
      (((s.setChan way cls { v with unacked := left, wire := left, naked := false }).sendWords way left).goBack way cls retrained).pump
        way cls
    else s)

/-- GOBACK_TIMEOUT (R339): the sender goes back to its oldest unacknowledged message. -/
def execGobackTimeout (way : Way) (cls : MsgClass) (retrained : Bool) (s : State) : Host.Outcome State Fault Refusal :=
  act [.free, .once, .image, .keys, .lanes, .tenants, .tp, .cway, .stn, .sp, .way] s (fun s =>
    let v := s.chan way cls
    if s.wayOpen way && !v.unacked.isEmpty then
      ((s.setChan way cls { v with wire := v.unacked, naked := false }).sendWords way v.unacked).goBack way cls retrained
    else s)

/-! ## Messages from the Verge die -/

def isStateUpdate : Msg → Bool
  | .stateUpdate _ _ _ => true
  | _ => false

/-- What a count has risen by; a smaller value follows a Verge reset. -/
def risen (old new : List Nat) (i : Nat) : Nat :=
  let a := (old[i]?).getD 0
  let b := (new[i]?).getD 0
  if a ≤ b then b - a else b

/-- An event that the Verge die has sent, with its ARG: a blocked message counts in TH_BLOCKED (R346). -/
def State.vergeEventRx (s : State) (e : Nat × Nat) : State :=
  if e.1 = 0o131007 then
    { s with cway := { s.cway with thBlocked := satInc 18 s.cway.thBlocked } }.emitOwn 0o131007 0 0 e.2
  else s.emit e.1 6 0 e.2

/-- STATE_UPDATE_RX (R351, R381): the shadow, the Verge die's events, and its refusals. -/
def execStateUpdateRx (fault : MsgFault) (s : State) : Host.Outcome State Fault Refusal :=
  act [.once, .tenants, .tp, .cway, .stn] s (fun s =>
    match s.take .up .state fault isStateUpdate with
    | (some (.stateUpdate u ws evs), s) =>
      let old := tabGet [] s.cway.shadow u
      let s := { s with cway := { s.cway with shadow := tabPut [] s.cway.shadow u ws } }
      let s := evs.foldl State.vergeEventRx s
      if u < 10 then
        let s := ((s.stnCount rcDuplicate (risen old ws 5)).stnCount rcNoKey (risen old ws 6)).stnCount rcQuota (risen old ws 7)
        let quota := risen old ws 10
        let ld := risen old ws 11
        let s := (s.stnCount rcQuota quota).stnCount rcLaneDown ld
        let s := (List.range quota).foldl (fun s _ => s.vpRefuse rcQuota) s
        (List.range ld).foldl (fun s _ => s.vpRefuse rcLaneDown) s
      else s
    | (_, s) => s)

def isCmdReply : Msg → Bool
  | .cmdReply _ _ => true
  | _ => false

/-- CMD_REPLY_RX (R444): the oldest PORT_COMMAND of the port is answered with the reply's result. -/
def execCmdReplyRx (fault : MsgFault) (s : State) : Host.Outcome State Fault Refusal :=
  act [.image, .keys, .tenants, .tp, .cway, .sp] s (fun s =>
    match s.take .up .state fault isCmdReply with
    | (some (.cmdReply p result), s) =>
      match s.sp.portWaiting.find? (fun w => decide (w.2.1 = p)) with
      | some w =>
        let s := { s with sp := { s.sp with portWaiting := s.sp.portWaiting.erase w } }
        if w.1 = State.noSession then s
        else s.respondLater (.operator (Fin.ofNat 32 w.1)) 0o20
          (if result = 0 then stDone else if result = 1 then stStale else stBadValue) [] [fld 17 14 w.2.1 + w.2.2 % 8]
      | none => s
    | (_, s) => s)

def isStationUp : Msg → Bool
  | .stationUp _ _ => true
  | _ => false

/-- STATION_UP_RX (R374): while 64 derivations wait, a frame that would need another stays where it is (R148). -/
def execStationUpRx (fault : MsgFault) (s : State) : Host.Outcome State Fault Refusal :=
  act [.free, .once, .keys, .lanes, .tenants, .tp, .cway, .stn, .way] s (fun s =>
    let full := match (s.chan .up .station).wire.head? with
      | some (_, .stationUp _ f) =>
        decide (64 ≤ s.stationJobs.length) && (s.stationKey (nfStation f)).isNone && !s.stationJobs.contains (nfStation f)
      | _ => false
    if full then s
    else match s.receive .up .station fault isStationUp with
      | (some (.stationUp p f), s) => (s.occur 34 0o005).stnUp p f none
      | (_, s) => s)

/-- The derivation of a station's key ends, the first that waits (R295), and the frames that wait for it go on. -/
def State.stationDerived (s : State) (n : Nat) : State :=
  if s.keys.derivations.head? = some (.station n) then
    let s := { s with keys := { s.keys with derivations := s.keys.derivations.tail } }
    let s := match s.lookup slotFleet with
      | some fleet => s.cacheInstall n (deriveStation fleet n)
      | none => s
    s.pipelineServe (fun i => decide (i.station = n))
  else s

/-- STATION_KEY_DERIVED (R147); in a replay the KEY records say when (R505). -/
def execStationKeyDerived (station : BitVec 16) (s : State) : Host.Outcome State Fault Refusal :=
  actUnit [.free, .once, .image, .keys, .lanes, .tenants, .tp, .cway, .stn, .way] s (fun s => if s.replaying then s else s.stationDerived station.toNat)

/-! ## Frames that leave a VP queue -/

namespace State

/-- The VP queues whose head frame is buffered. -/
def vpReady (s : State) : List Nat :=
  (s.tp.queues.map Prod.fst).filter (fun q =>
    s.qValid q && decide (s.qEgress q = 16) && (match (s.queue q).frames.head? with
      | some f => decide (f.place ≠ Place.spill)
      | none => false))

def headLen (s : State) (q : Nat) : Nat := (((s.queue q).frames.head?).map QFrame.len).getD 0

end State

/-- VP_FRAME_DEQUEUE (R379, R380): downstream frames wait until DOWN_READY is 1, except that an exhausted ladder or a missing
fleet key refuses them. -/
def execVpFrameDequeue (s : State) : Host.Outcome State Fault Refusal :=
  actUnit [.free, .once, .keys, .lanes, .tenants, .tp, .cway, .stn, .way] s (fun s =>
    if !s.linked || !(s.stn.downReady || s.stn.exhausted || !s.keyValid slotFleet) then s
    else match drr (fun q => s.qWeight q * 256) s.headLen s.vpReady s.tp.vp with
      | none => s
      | some (q, d) =>
        match (s.queue q).frames.head? with
        | some f => ({ s with tp := { s.tp with vp := d } }.dropHead q).stnDown q f
        | none => s)

/-! ## Words -/

/-- The Causeway words 0o170000 to 0o170777 (Table 14.8). -/
def readCauseway (s : State) (a : Nat) : Nat :=
  let c := s.cway
  if a = 0o170000 then
    fld 17 15 c.partner.code + fld 14 13 c.th + fld 12 8 c.gen + flag 7 (c.chOk.testBit 0) + flag 6 (c.chOk.testBit 1) +
      flag 5 (c.chOk.testBit 2) + flag 4 (c.chOk.testBit 3)
  else if a = 0o170001 then c.absentEvents
  else if a = 0o170002 then wideWord 2 c.crcErr 0
  else if a = 0o170003 then wideWord 2 c.crcErr 1
  else if a = 0o170004 then c.naks
  else if a = 0o170005 then c.retrains
  else if a = 0o170006 then c.badType
  else if a = 0o170007 then wideWord 2 c.faRefused 0
  else if a = 0o170010 then wideWord 2 c.faRefused 1
  else if a = 0o170020 then (s.chan .down .state).credit
  else if a = 0o170022 then (s.chan .down .station).credit
  else if a = 0o170023 then flag 17 s.withheld + sat 17 s.upHeld
  else if a = 0o170024 then (s.chan .down .legal).credit
  else if a = 0o170030 then sat 18 c.outstanding.length
  else if a = 0o170031 then c.thLast
  else if a = 0o170032 then c.thBlocked
  else 0

/-- CONTEXT as 256 bits (Table 15.6). -/
def ctxBits (c : StnCtx) : Nat :=
  c.upSeq * 2 ^ 208 + c.downSeq * 2 ^ 160 + c.echoSeen * 2 ^ 112 + flag 111 c.valid + c.upCount * 2 ^ 64 +
    c.refused * 2 ^ 32 + c.lastS

/-- The Verge and station words 0o171000 to 0o173767 (Tables 15.12 and 15.13). -/
def readVerge (s : State) (a : Nat) : Nat :=
  if 0o171000 ≤ a ∧ a < 0o171000 + 0o100 * 10 then
    let p := (a - 0o171000) / 0o100
    let i := (a - 0o171000) % 0o100
    if i ≤ 0o14 then s.shadowWord p i
    else if 0o40 ≤ i ∧ i ≤ 0o45 then s.cfg 0o020 p (i - 0o40)
    else 0
  else if 0o172200 ≤ a ∧ a ≤ 0o172210 then s.shadowWord 0o12 (a - 0o172200)
  else if 0o172300 ≤ a ∧ a ≤ 0o172303 then s.shadowWord 0o13 (a - 0o172300)
  else if a = 0o173000 then sat 18 ((s.stn.contexts.filter (fun e => e.2.valid)).length)
  else if a = 0o173001 then fld 17 5 s.stn.downEpoch + flag 4 s.stn.downReady
  else if a = 0o173002 then wideWord 2 s.stn.accepted 0
  else if a = 0o173003 then wideWord 2 s.stn.accepted 1
  else if a = 0o173004 then s.stn.syncSent
  else if 0o173010 ≤ a ∧ a < 0o173050 then
    wideWord 2 (tabGet 0 s.stn.refused ((a - 0o173010) / 2 + 1)) ((a - 0o173010) % 2)
  else if a = 0o173100 then s.stn.sel
  else if 0o173101 ≤ a ∧ a ≤ 0o173117 then wideWord 15 (ctxBits (s.ctx s.stn.sel)) (a - 0o173101)
  else 0

end Sys2Proof.Machine
end

