-- ==== Sys2Proof/Machine/Junction.lean ====
section
/-!
DEFINITION. Junction (07_junction_clocking): qualification, selection, the five states, and what its words read.
The analogue loop is outside the block: its
phase error and y come with the commands that report them.
-/

namespace Sys2Proof.Machine

namespace State

/-- The JUNCTION section is loaded: Junction qualifies references from step 8 of a start (R76). -/
def junLoaded (s : State) : Bool := s.hasSection 0o003 0

/-- Priority of reference `r`: 0 excludes it (Table 7.5). -/
def junPrio (s : State) (r : Nat) : Nat := bits (s.cfg 0o003 0 (3 + r)) 17 15

/-- Lane from which REFA (0) or REFB (1) is recovered. -/
def junLane (s : State) (r : Nat) : Nat := bits (s.cfg 0o003 0 (3 + r)) 14 11

def junRevert (s : State) : Bool := (s.cfg 0o003 0 0).testBit 17
def junTrackBw (s : State) : Nat := bits (s.cfg 0o003 0 0) 16 15
def junWtrMin (s : State) : Nat := bits (s.cfg 0o003 0 0) 14 11
/-- ACCEPT and REJECT, in units of 0.1 ppm. -/
def junAccept (s : State) : Nat := bits (s.cfg 0o003 0 1) 17 9
def junReject (s : State) : Nat := bits (s.cfg 0o003 0 1) 8 0
/-- HOLD_LIMIT in minutes. -/
def junHoldLimit (s : State) : Nat := bits (s.cfg 0o003 0 2) 12 0

def junRef (s : State) (r : Nat) : JunRef := tabGet {} s.jun.refs r

def setJunRef (s : State) (r : Nat) (v : JunRef) : State :=
  { s with jun := { s.jun with refs := tabPut {} s.jun.refs r v } }

/-- A reference is available for selection (R166). -/
def junAvailable (s : State) (r : Nat) : Bool :=
  (s.junRef r).qual && decide (s.junPrio r ≠ 0) && (s.junRef r).wtrUntil.isNone

/-- The available reference that ranks highest (R167): the lower priority number, then the earlier letter. -/
def junBest (s : State) : Option Nat :=
  (List.range 4).foldl (fun b r =>
    if s.junAvailable r then
      match b with
      | none => some r
      | some c => if s.junPrio r < s.junPrio c then some r else some c
    else b) none

/-- A lane recovers the clock of REFA or REFB, and delivers it (R161, R201); REFC and REFD come from pins. -/
def junFed (s : State) (r : Nat) : Bool :=
  decide (2 ≤ r) || (match s.laneLead (s.junLane r) with
    | some n => (s.lane n).clock
    | none => false)

/-- Model time at which 4 µs have passed since the lane of REFA or REFB gated its clock off (R163). -/
def junEdgesEnd (s : State) (r : Nat) : Nat :=
  match s.laneLead (s.junLane r) with
  | some n => (s.lane n).clockEnd + us 4
  | none => 0

/-- y clamped to ±60 ppm (R159), in units of 10^-12. -/
def clampY (y : Int) : Int := max (-60000000) (min 60000000 y)

/-- What the phase detector shows, in units of 0.1 ns: its range is ±400 ns (R162). -/
def detector (p : Int) : Int := max (-4000) (min 4000 p)

/-- A free y, and a free phase error: the model has not been told them (DEDUCED, notes/assumptions/31). -/
def freeY (s : State) : Int := (Config.freeNat s.free % 120000001 : Nat) - 60000000
def freePhase (s : State) : Int := (Config.freeNat s.free % 8001 : Nat) - 4000

/-- Enters a state of Table 7.2 with a selection: GEN counts the one update of the state word (R169, R182). -/
def junEnter (s : State) (st : JunState) (sel stage : Nat) : State :=
  { s with jun := { s.jun with
    state := st, selected := sel, bwStage := stage, gen := (s.jun.gen + 1) % 32, since := s.now,
    told := s.now, quiet := 0, ys := [], phaseErr := if sel = 0 then 0 else s.jun.phaseErr } }

/-- A reference is selected: ACQUIRING at 100 Hz, with no phase build-out, so that its own phase error shows (R168, R171). -/
def junSelect (s : State) (r : Nat) : State :=
  let was := s.jun.state
  let s := { s with free := s.free + 1, jun := { s.jun with
    switches := satInc 18 s.jun.switches, phaseErr := s.freePhase } }.junEnter .acquiring (r + 1) 1
  let s := if was = .lost then s.endAlarm 0o033006 0 0 else s
  s.emitDev 0o030001

/-- y of a state without a selection: HOLD_FREQ when a holdover value exists, else 0 (Table 7.2). After an XO failure, which holds
the tuning of the APLL (R175), OUT_FREQ shows that or its last value: the spec does not say which (DESIGN CHOICE,
notes/assumptions/31). -/
def junHold (s : State) : State :=
  let y := if s.jun.hist then s.jun.holdFreq else 0
  if s.jun.xoFail then
    { s with free := s.free + 1, jun := { s.jun with outFreq := if Config.freeBool s.free then s.jun.outFreq else y } }
  else { s with jun := { s.jun with outFreq := y } }

/-- HOLD_FREQ at the loss of the reference after a stint of at least 60 s (R172): the last update's, where the course of the loop
has been told so far (DEDUCED, notes/assumptions/31). -/
def junFreeze (s : State) : State :=
  let s := if s.jun.told + ms 100 ≤ s.now then { s with free := s.free + 1, jun := { s.jun with holdFreq := s.freeY } } else s
  { s with jun := { s.jun with hist := true } }

/-- LOST is entered. -/
def junToLost (s : State) : State := (s.junHold.junEnter .lost 0 0).emitDev 0o033006

/-- The selected reference is lost and none is available (Table 7.2): HOLDOVER after a stint of at least 60 s. -/
def junNone (s : State) : State :=
  match s.jun.state with
  | .locked =>
    if s.now ≥ s.jun.since + secs 60 then (s.junFreeze.junHold.junEnter .holdover 0 0).emitDev 0o031005 else s.junToLost
  | .acquiring => s.junToLost
  | _ => s

/-- The evaluation of the selection after a change of availability (R167). -/
def junEvaluate (s : State) : State :=
  if s.junLoaded then
    let cur := s.jun.selected
    if cur = 0 || !s.junAvailable (cur - 1) then
      match s.junBest with
      | some r => s.junSelect r
      | none => if cur = 0 then s else s.junNone
    else
      match s.junBest with
      | some r => if s.junRevert && decide (s.junPrio r < s.junPrio (cur - 1) ∨
            (s.junPrio r = s.junPrio (cur - 1) ∧ r < cur - 1)) then s.junSelect r else s
      | none => s
  else s

/-- A reference loses activity or frequency: a disqualification counts once (R165, R166). -/
def junDisqualify (s : State) (r : Nat) (act freqOk : Bool) : State :=
  let old := s.junRef r
  let was := old.qual
  let s := s.setJunRef r { old with
    act := act, freqOk := freqOk, wtrUntil := none,
    disquals := if was then satInc 18 old.disquals else old.disquals }
  if was && decide (s.junPrio r ≠ 0) then s.emitDev 0o031003 else s

/-- A reference becomes qualified: at once available the first time, after wait-to-restore later (R166). -/
def junQualify (s : State) (r : Nat) : State :=
  let old := s.junRef r
  let wait := old.ever && decide (s.junWtrMin ≠ 0)
  let s := s.setJunRef r { old with
    act := true, freqOk := true, ever := true,
    wtrUntil := if wait then some (s.now + secs (60 * s.junWtrMin)) else none }
  if s.junAvailable r then s.emitDev 0o030004 else s

/-- The references whose lane has delivered no clock for 4 µs lose their activity (R161, R163, R201). -/
def junStarve (s : State) : State :=
  (List.range 2).foldl (fun s r =>
    if (s.junRef r).act && !s.junFed r && decide (s.junEdgesEnd r ≤ s.now) then s.junDisqualify r false false else s) s

/-- The waits to restore whose time has come end (R166). -/
def junWaits (s : State) : State :=
  (List.range 4).foldl (fun s r =>
    match (s.junRef r).wtrUntil with
    | some t =>
      if t ≤ s.now then
        let s := s.setJunRef r { s.junRef r with wtrUntil := none }
        if s.junAvailable r then s.emitDev 0o030004 else s
      else s
    | none => s) s

/-- One evaluation (R167, R181): losses come before what becomes available, and both before the selection. -/
def junSettle (s : State) (change : State → State) : State :=
  if s.junLoaded then (change s.junStarve).junWaits.junEvaluate else s

/-! ## The loop (R170, R172) -/

/-- The course of the loop over the next 0.1 s (DEDUCED, notes/assumptions/31). -/
def junTick (s : State) (m : LoopSample) : State :=
  let t := s.jun.told + ms 100
  let s := s.upTo t
  let j := s.jun
  let p := detector m.phaseErr
  { s with jun := { j with
    phaseErr := p, outFreq := clampY m.y, told := t
    quiet := if p.natAbs < (if j.bwStage = 4 then 500 else 1000) then j.quiet + 1 else 0
    ys := if j.state = .locked then (clampY m.y :: j.ys).take 600 else [] } }

/-- The course of the loop until its phase error has stayed below its limit for `need` times 0.1 s: whether it has. -/
def junRun (need : Nat) : List LoopSample → State → Bool × State
  | [], s => (false, s)
  | m :: l, s =>
    let s := s.junTick m
    if need ≤ s.jun.quiet then (true, s) else junRun need l s

/-- The mean of some values. Which of the two neighbouring integers stands for one that is none is free (DESIGN CHOICE,
notes/assumptions/31). -/
def meanOf (s : State) (l : List Int) : Int × State :=
  let n : Int := l.length
  let sum := l.foldl (fun a b => a + b) 0
  if sum % n = 0 then (sum / n, s)
  else (sum / n + (Config.freeNat s.free % 2 : Nat), { s with free := s.free + 1 })

end State

/-! ## Commands -/

/-- REF_ACTIVITY_LOST (R163): 4 µs after the last edge, which a lane's recovered clock showed when it was gated off. -/
def execRefActivityLost (ref : Fin 4) (s : State) : Host.Outcome State Fault Refusal :=
  act [.now, .free, .jun, .tp] s (fun s =>
    if s.junLoaded && (s.junRef ref).act then
      let s := if s.junFed ref then s else s.upTo (s.junEdgesEnd ref)
      s.junSettle (fun s => if (s.junRef ref).act then s.junDisqualify ref false false else s)
    else s)

/-- REF_ACTIVITY_GOOD (R163): activity is good again; the frequency status stays bad until a result, which comes 1 s later (R164). No
monitor runs before step 8 (R76), and a lane that is not up supplies no reference (R161). -/
def execRefActivityGood (ref : Fin 4) (s : State) : Host.Outcome State Fault Refusal :=
  act [.free, .jun] s (fun s => s.junSettle (fun s =>
    if s.junFed ref && !(s.junRef ref).act then
      s.setJunRef ref { s.junRef ref with act := true, resultAt := s.now + secs 1 }
    else s))

/-- FREQUENCY_RESULT (R164), in units of 0.001 ppm: OFFSET saturates within the values that are not 0o400000, which stands for no
result (DEDUCED, notes/assumptions/31). No monitor gives one after an XO failure (R175). -/
def execFrequencyResult (ref : Fin 4) (ppb : Int) (s : State) : Host.Outcome State Fault Refusal :=
  act [.now, .free, .jun, .tp] s (fun s =>
    if s.junLoaded && (s.junRef ref).act && !s.jun.xoFail && s.junFed ref then
      (s.upTo (s.junRef ref).resultAt).junSettle (fun s =>
        let old := s.junRef ref
        let s := s.setJunRef ref { old with
          offset := some (max (-131071) (min 131071 ppb)), resultAt := s.now + ms 100 }
        if ppb.natAbs ≤ s.junAccept * 100 then (if old.freqOk then s else s.junQualify ref)
        else if ppb.natAbs > s.junReject * 100 then (if old.freqOk then s.junDisqualify ref true false else s)
        else s)
    else s)

/-- WTR_EXPIRY (R166). -/
def execWtrExpiry (ref : Fin 4) (s : State) : Host.Outcome State Fault Refusal :=
  act [.now, .free, .jun, .tp] s (fun s => match (s.junRef ref).wtrUntil with
    | some t => (s.upTo t).junSettle id
    | none => s)

/-- BW_STAGE_SETTLED (R170): 100, 30 and 10 Hz, then the tracking bandwidth, which is the 10 Hz stage itself when the image selects
10 Hz. A stage settles once the phase error has stayed below 100 ns for 2 s. -/
def execBwStageSettled (loop : List LoopSample) (s : State) : Host.Outcome State Fault Refusal :=
  act [.now, .free, .jun, .tp] s (fun s =>
    let s := s.junSettle id
    if s.jun.state = .acquiring && decide (s.jun.bwStage < 4) then
      match s.junRun 20 loop with
      | (true, s) =>
        let next := if s.jun.bwStage = 2 && s.junTrackBw = 3 then 4 else s.jun.bwStage + 1
        { s with jun := { s.jun with bwStage := next, quiet := 0 } }
      | (false, s) => s
    else s)

/-- LOCKED_REACHED (R170, Table 7.2): at the tracking bandwidth the phase error has stayed below 50 ns for 10 s. -/
def execLockedReached (loop : List LoopSample) (s : State) : Host.Outcome State Fault Refusal :=
  act [.now, .free, .jun, .tp] s (fun s =>
    let s := s.junSettle id
    if s.jun.state = .acquiring && s.jun.bwStage = 4 then
      match s.junRun 100 loop with
      | (true, s) =>
        let t := s.jun.told
        let s := s.junEnter .locked s.jun.selected 4
        { s with jun := { s.jun with since := t, told := t } }.emitDev 0o030002
      | (false, s) => s
    else s)

/-- HOLD_FREQ_UPDATE (R172): the course of the loop in LOCKED is told, and from 60 s of the stint on HOLD_FREQ is the mean of y from
60 s to 1 s before. -/
def execHoldFreqUpdate (loop : List LoopSample) (s : State) : Host.Outcome State Fault Refusal :=
  act [.now, .free, .jun, .tp] s (fun s =>
    let s := s.junSettle id
    if s.jun.state = .locked then
      let s := loop.foldl State.junTick s
      if s.jun.ys.length = 600 then
        let (y, s) := s.meanOf (s.jun.ys.drop 10)
        { s with jun := { s.jun with holdFreq := y, hist := true } }
      else s
    else s)

/-- HOLD_LIMIT_REACHED (R173): the output does not change. A reference that becomes available in the same evaluation is selected
instead (R181). -/
def execHoldLimitReached (s : State) : Host.Outcome State Fault Refusal :=
  act [.now, .free, .jun, .tp] s (fun s =>
    if s.jun.state = .holdover then
      let s := (s.upTo (s.jun.since + secs (60 * s.junHoldLimit))).junSettle id
      if s.jun.state = .holdover then (s.junEnter .lost 0 0).emitDev 0o033006 else s
    else s)

/-- XO_FAILURE (R175): latched until the next start once the APLL runs; before that XO_IN just shows no edge (R63). Every reference
is disqualified, which shows as a bad frequency status (DEDUCED, notes/assumptions/31). -/
def execXoFailure (s : State) : Host.Outcome State Fault Refusal :=
  act [.free, .pins, .jun] s (fun s =>
    let s := { s with pins := { s.pins with xoRuns := false } }
    if s.jun.xoFail || !s.start.begun || decide (s.start.phase < 2) then s
    else
      let s := { s with jun := { s.jun with xoFail := true } }.emitDev 0o033007
      let s := (List.range 4).foldl (fun s r => s.junDisqualify r (s.junRef r).act false) s
      s.junSettle id)

/-! ## Words -/

/-- The Junction words 0o004000 to 0o005777 (Table 7.8). -/
def readJunction (s : State) (a : Nat) : Nat :=
  let j := s.jun
  let ref := fun r => s.junRef r
  if a = 0o004000 then j.word
  else if a = 0o004001 then twos 18 j.phaseErr
  else if a = 0o004002 then wideWord 2 (twos 36 j.outFreq) 0
  else if a = 0o004003 then wideWord 2 (twos 36 j.outFreq) 1
  else if a = 0o004004 then wideWord 2 (twos 36 j.holdFreq) 0
  else if a = 0o004005 then wideWord 2 (twos 36 j.holdFreq) 1
  else if a = 0o004006 then wideWord 2 ((s.now - j.since) / secs 1) 0
  else if a = 0o004007 then wideWord 2 ((s.now - j.since) / secs 1) 1
  else if a = 0o004010 then j.switches
  else if 0o004020 ≤ a ∧ a ≤ 0o004037 then
    let r := ref ((a - 0o004020) / 4)
    match (a - 0o004020) % 4 with
    | 0 => flag 17 r.qual + flag 16 r.act + flag 15 r.freqOk + flag 14 r.wtrUntil.isSome + flag 13 r.ever
    | 1 => match r.offset with
      | some v => twos 18 v
      | none => 0o400000
    | 2 => match r.wtrUntil with -- rounded up to whole seconds (DESIGN CHOICE, notes/assumptions/31)
      | some t => (t - s.now + secs 1 - 1) / secs 1
      | none => 0
    | _ => r.disquals
  else if 0o004100 ≤ a ∧ a ≤ 0o004106 then s.cfg 0o003 0 (a - 0o004100)
  else 0

end Sys2Proof.Machine
end

