-- ==== Sys2Proof/Machine/Lanes.lean ====
section
/-!
DEFINITION. Lanes (08_lanes): loss, hold, damping and return, flow control, and the lane words. A command that names a
lane of a group acts on the group.
-/

namespace Sys2Proof.Machine

/-- CAUSE of a loss (Table 8.10). -/
def laneLossCode : LaneLoss → Nat
  | .signal => 1
  | .lock => 2
  | .localFault => 3
  | .remoteFault => 4

/-- The CAUSE of a flap: the first of its causes in the order of R192, which is the order of their codes (Table 8.10); none
without a cause. -/
def firstLoss (l : List LaneLoss) : Option Nat := (l.map laneLossCode).min?

namespace State

/-- The engine has wasted what it had processed of a frame: how much is a time inside the engine, a free value (R477)
(DEDUCED, notes/assumptions/33). -/
def wasteSlots (s : State) (rx : Bool) (n most : Nat) : State :=
  let e := n / 2
  { s with free := s.free + 1 }.occur (16 + e) 0o010 |>.note (.slots rx e false (Config.freeNat s.free % (most + 1)))

/-- A data frame that its lane cuts short. -/
def frameCut (s : State) (n : Nat) (f : QFrame) : State :=
  let s := if s.laneIsTrunk n then s.wasteSlots false n (slotsOf (s.laneLen n f.len)) else s
  s.wayAbort f

/-- The frame being sent when its lane leaves UP is cut short (R196): it is not sent again and its cells are free. -/
def cutFrame (s : State) (n : Nat) : State :=
  let c := s.sched n
  match c.sending with
  | some m =>
    let s := s.lineCut n
    let s := s.setSched n { c with sending := none }
    let s := s.setLane n { s.lane n with txAbort := satInc 18 (s.lane n).txAbort }
    match m with
    | .data q _ _ =>
      let s := match (s.queue q).inFlight with
        | some f => s.frameCut n f
        | none => s
      s.endFlight q
    | .mgmt _ => s.mgmtAdmit s.tp.mgmtWait
  | none => s

/-- What a loss leaves of a direct trunk's receiver: codeword lock and frame sync are gone with the signal or the lock, and with
an error threshold, which forces a fresh lock (R195); a remote fault leaves lock, and the frame in progress is discarded (R196). -/
def lossRx (v : LineRx) (cause : Nat) : LineRx :=
  if cause = 4 then { v with sync := false, buf := [] } else {}

/-- A lane that is UP flaps with a cause (R192, R194): DAMPED when the flap brings the window to FLAP_MAX, else HOLD, or
DOWN with LINK_HOLD 0. It sends remote fault from then on (R191). -/
def laneFlap (s : State) (n cause : Nat) (receiving : Bool) : State :=
  let s := (s.cutFrame n).occur n 0o010
  let s := if receiving && s.laneIsTrunk n then s.wasteSlots true n 578 else s
  let v := s.lane n
  let window := v.window ++ [s.now]
  let v := { v with
    cause := cause, flaps := satInc 18 v.flaps, window := window, holdUntil := none, trainingInDown := false
    cdr := v.cdr && decide (cause = 3 ∨ cause = 4), errors := if cause = 5 then [] else v.errors, lineRx := lossRx v.lineRx cause
    rxAbort := if receiving then satInc 18 v.rxAbort else v.rxAbort }
  let s :=
    if window.length ≥ s.laneFlapMax n then
      let s := s.laneEnter n .damped { v with dampUntil := s.now + secs (s.laneDampS n), cdr := false, lineRx := {} }
      ((s.emit 0o053005 5 n 0).refuseLane n).zheacLaneDown n
    else if s.laneHold n = 0 then
      let s := s.laneEnter n .down v
      ((s.emit 0o051003 5 n 0).refuseLane n).zheacLaneDown n
    else (s.laneEnter n .hold { v with holdUntil := some (s.now + ms (s.laneHold n)) }).zheacLaneDown n
  s.lineFault n

/-- Errors of a lane are counted, and over ERR_DOWN within 1 s they make it flap with cause 5 (R195). -/
def lineErrors (s : State) (n corrected uncorrectable : Nat) (receiving : Bool) : State :=
  let v := s.lane n
  let l := v.errors.filter (fun e => decide (s.now < e.1 + secs 1))
  let l := if uncorrectable = 0 then l else l ++ [(s.now, uncorrectable)]
  let s := s.setLane n { v with
    fecCorr := satAdd 36 v.fecCorr corrected, fecUncorr := satAdd 36 v.fecUncorr uncorrectable, errors := l }
  let s := (s.occurs n 0o004 0 corrected).occurs n 0o005 0 uncorrectable
  if s.laneUpNow n && decide (s.laneErrDown n ≠ 0) && decide ((l.map Prod.snd).sum > s.laneErrDown n) then
    (s.laneFlap n 5 receiving).emit 0o051004 5 n 0
  else s

/-- A lane's receiver holds what its mode needs to be UP (R190). On a direct trunk that is codeword lock and frame sync, with RF 0
in the codewords received; what another mode needs is the command's to tell. -/
def laneLocked (s : State) (n : Nat) : Bool :=
  s.laneMode n ≠ 6 || ((s.lane n).lineRx.lock && (s.lane n).lineRx.sync && !(s.lane n).lineRx.rf)

end State

/-- The lane or group whose line a command is about; while replaying, lanes carry nothing and their states come from the
journal (R503, R505) (DEDUCED, notes/assumptions/32). -/
def State.wireLane (s : State) (lane : Nat) : Option Nat := if s.replayMode then none else s.laneLead lane

/-! ## Commands -/

/-- LANE_FAULT (R192, R193, R196, Table 8.8): each loss of UP is a flap; causes that arrive together make one. -/
def execLaneFault (lane : Fin 16) (losses : List LaneLoss) (receiving : Bool) (s : State) : Host.Outcome State Fault Refusal :=
  act [.free, .once, .start, .image, .keys, .trng, .lanes, .tenants, .tp, .zheac, .sp, .way] s (fun s =>
    match s.wireLane lane, firstLoss losses with
    | some n, some cause => if s.laneUpNow n then s.laneFlap n cause receiving else s
    | _, _ => s)

/-- LANE_ERROR_THRESHOLD (R195): a flap with cause 5; ERR_DOWN 0 disables it. -/
def execLaneErrorThreshold (lane : Fin 16) (corrected uncorrectable : Nat) (receiving : Bool) (s : State) :
    Host.Outcome State Fault Refusal :=
  act [.free, .once, .start, .image, .keys, .trng, .lanes, .tenants, .tp, .zheac, .sp, .way] s (fun s =>
    match s.wireLane lane with
    | some n => s.lineErrors n corrected uncorrectable receiving
    | none => s)

/-- LANE_UP (R190, R192, R566): lock, training if set, and no fault. A return within LINK_HOLD loses no frame. Remote fault ends,
and a lane that holds its sender says so again (R198) (DEDUCED, notes/assumptions/32). -/
def execLaneUp (lane : Fin 16) (s : State) : Host.Outcome State Fault Refusal :=
  act [.free, .once, .start, .image, .keys, .trng, .lanes, .tenants, .tp, .zheac, .sp, .way] s (fun s =>
    match s.wireLane lane with
    | some n =>
      let v := s.lane n
      let ready := match v.state with
        | .training => true
        | .hold => !s.laneTrain n
        | .down => !s.laneTrain n || v.trainingInDown
        | _ => false
      if ready && s.laneLocked n then
        let within := v.holdUntil.isSome
        let s := s.laneEnter n .up { v with holdUntil := none, trainingInDown := false, cdr := true, upSince := s.now }
        (((s.lineFault n).sendHolds n).emit (if within then 0o050002 else 0o050001) 5 n 0).zheacLaneUp n
      else s
    | none => s)

/-- LINK_HOLD_EXPIRY (R566, Table 8.4): DOWN, from HOLD or from a TRAINING entered from HOLD, which goes on. -/
def execLinkHoldExpiry (lane : Fin 16) (s : State) : Host.Outcome State Fault Refusal :=
  act [.now, .free, .once, .lanes, .tenants, .tp, .way] s (fun s =>
    match s.wireLane lane with
    | some n =>
      let v := s.lane n
      match v.holdUntil with
      | some t =>
        let s := s.upTo t
        let s := s.laneEnter n .down { v with
          holdUntil := none, trainingInDown := decide (v.state = LaneState.training) }
        (s.emit 0o051003 5 n 0).refuseLane n
      | none => s
    | none => s)

/-- DAMP_EXPIRY (R194): DOWN without 0o051003, with an empty window. -/
def execDampExpiry (lane : Fin 16) (s : State) : Host.Outcome State Fault Refusal :=
  act [.now, .free, .lanes, .tp] s (fun s =>
    match s.wireLane lane with
    | some n =>
      let v := s.lane n
      if v.state = LaneState.damped then
        let s := s.upTo v.dampUntil
        (s.laneEnter n .down { v with window := [] }).endAlarm 0o053005 5 n
      else s
    | none => s)

/-- SIGNAL_REGAINED (R192): with TRAIN set a lane in HOLD or DOWN trains; LINK_HOLD keeps running from HOLD. A DAMPED
lane ignores the signal. -/
def execSignalRegained (lane : Fin 16) (s : State) : Host.Outcome State Fault Refusal :=
  act [.lanes] s (fun s =>
    match s.wireLane lane with
    | some n =>
      let v := s.lane n
      if s.laneTrain n && (decide (v.state = LaneState.hold) ||
          (decide (v.state = LaneState.down) && !v.trainingInDown)) then s.laneEnter n .training v
      else s
    | none => s)

/-- FLAP_WINDOW_EXPIRY (R192): the oldest flap passes 60 s of age. -/
def execFlapWindowExpiry (lane : Fin 16) (s : State) : Host.Outcome State Fault Refusal :=
  act [.now, .free, .lanes, .tp] s (fun s =>
    match s.wireLane lane with
    | some n =>
      let v := s.lane n
      match v.window with
      | t :: rest => (s.upTo (t + secs 60)).setLane n { v with window := rest }
      | [] => s
    | none => s)

/-- PAUSE_FRAME_RX (R197, R199): quanta 0 releases the lane. -/
def execPauseFrameRx (lane : Fin 16) (quanta : BitVec 16) (s : State) : Host.Outcome State Fault Refusal :=
  act [.lanes] s (fun s =>
    match s.wireLane lane with
    | some n => if s.laneUpNow n then (s.frameIn n 64).pauseReceived n quanta.toNat else s
    | none => s)

/-- PFC_FRAME_RX (R197): `quanta` holds those of the eight priorities, priority 0 the most significant. -/
def execPfcFrameRx (lane : Fin 16) (enable : Byte) (quanta : BitVec 128) (s : State) : Host.Outcome State Fault Refusal :=
  act [.lanes] s (fun s =>
    match s.wireLane lane with
    | some n =>
      if s.laneUpNow n then
        (s.frameIn n 64).pfcReceived n enable.toNat (fun p => quanta.toNat / 2 ^ (16 * (7 - p)) % 2 ^ 16)
      else s
    | none => s)

/-- PAUSE_TIMER_EXPIRY (R197): the time of a received PAUSE, or of a priority of a PFC, ends. -/
def execPauseTimerExpiry (lane : Fin 16) (prio : Option (Fin 8)) (s : State) : Host.Outcome State Fault Refusal :=
  actUnit [.now, .free, .lanes, .tp] s (fun s =>
    match s.laneLead lane with
    | some n =>
      let v := s.lane n
      let k := match prio with
        | some p => p.val
        | none => 8
      if tabGet 0 v.heldUntil k = 0 then s
      else
        let s := s.upTo (tabGet 0 v.heldUntil k)
        s.setLane n ((s.lane n).heldFor k 0 0)
    | none => s)

/-- PAUSE_REFRESH (R198): 32,768 quanta after the lane sent a PAUSE or PFC that stands, it sends it again. -/
def execPauseRefresh (lane : Fin 16) (s : State) : Host.Outcome State Fault Refusal :=
  actUnit [.now, .free, .lanes, .tp] s (fun s =>
    match s.laneLead lane with
    | some n =>
      let l := (s.lane n).sentAt
      match (l.map Prod.snd).min? with
      | some first =>
        let s := s.upTo (first - 1 + s.quantaCycles n 32768)
        let due := (l.filter (fun e => decide (e.2 = first))).map Prod.fst
        if due.contains 8 then s.sendFlow n 256 65535 else s.sendFlow n (maskOf 8 (fun p => due.contains p)) 65535
      | none => s
    | none => s)

/-! ## Words -/

/-- The lane words 0o010000 to 0o017777 (Table 8.10): on the other lanes of a group only word B reads, as the group's
lowest lane does. -/
def readLanes (s : State) (a : Nat) : Nat :=
  let n := (a - 0o010000) / 0o400
  let i := (a - 0o010000) % 0o400
  match s.laneLead n with
  | none => 0
  | some m =>
    let v := s.lane m
    if i = 0 then
      fld 17 16 (s.laneRole m) + fld 15 13 v.state.code + fld 12 10 (s.laneMode m) +
        fld 9 8 (bits (s.laneWord m 0) 12 11) + fld 7 5 v.cause + fld 4 0 v.gen
    else if m ≠ n then 0
    else if i = 0o001 then flag 17 v.pauseRx + flag 16 v.pauseTx + fld 15 8 v.pfcRx + fld 7 0 v.pfcTx
    else if i = 0o002 then v.flaps
    else if i = 0o003 then
      fld 17 12 v.window.length +
        (if v.state = LaneState.damped then fld 11 0 ((v.dampUntil - s.now + secs 1 - 1) / secs 1) else 0)
    else if i = 0o004 ∨ i = 0o005 then
      (if v.state = LaneState.up then wideWord 2 ((s.now - v.upSince) / secs 1) (i - 0o004) else 0)
    else if i = 0o006 ∨ i = 0o007 then wideWord 2 v.fecCorr (i - 0o006)
    else if i = 0o010 ∨ i = 0o011 then wideWord 2 v.fecUncorr (i - 0o010)
    else if i = 0o012 then v.lineErr
    else if i = 0o013 then v.rxAbort
    else if i = 0o014 then v.txAbort
    else if i = 0o015 then v.oversize
    else if i = 0o016 then v.ctlDropped
    else if i = 0o017 then v.delinErr
    else if i = 0o020 ∨ i = 0o021 then wideWord 2 v.ldRefused (i - 0o020)
    else if 0o040 ≤ i ∧ i ≤ 0o057 then s.laneWord m (i - 0o040)
    else 0

end Sys2Proof.Machine
end

