-- ==== Sys2Proof/Machine/Legal.lean ====
section
/-!
DEFINITION. What the host takes from the Tollhouse (14_causeway R347; 16_tollhouse R403, R420; 17_operator_access R447;
18_alarms R461, R464, R465), and the legal window.
-/

namespace Sys2Proof.Machine

/-- Word `a` of the legal window as the host holds it. -/
def State.windowWord (s : State) (a : Nat) : Nat := tabGet 0 s.cway.window a

/-- The legal window shows the clearing condition of a LEGAL alarm (Table 18.5). -/
def State.legalCleared (s : State) (e : Nat) : Bool :=
  let w := s.windowWord 0o100
  s.cway.statusKnown &&
    (if e = 0o155011 then !w.testBit 12
     else if e = 0o155030 then !w.testBit 8
     else if e = 0o155025 then bits w 17 15 ≠ 4
     else bits w 17 15 = 1)

namespace State

/-- LEGAL alarms whose condition the window shows as ended clear (DEDUCED, notes/assumptions/61). -/
def settleLegal (s : State) : State :=
  ((List.range 64).foldl (fun (s : State) (i : Nat) =>
    let n := s.alarmEntry i
    if n.state ≠ AlarmState.free && evClass n.event = 5 && s.legalCleared n.event then s.setAlarmEntry i (entryCleared n)
    else s) s).settleAlert

/-- Words written into the legal window. -/
def windowWrite (s : State) (offset : Nat) (w : List Word) : State :=
  let l := (w.zip (List.range w.length)).filter (fun e => decide (offset + e.2 < 1024))
  { s with cway := { s.cway with
    window := l.foldl (fun (t : Tab Nat) (e : Word × Nat) => tabPut 0 t (offset + e.2) e.1.toNat) s.cway.window } }

/-- A message with a TH_SEQ is taken unless it has been taken already, and acknowledged (R347) (DEDUCED,
notes/assumptions/61). -/
def takeSeq (s : State) (seq : Nat) (f : State → State) : State :=
  if s.cway.taken.contains seq then s
  else
    let s := f { s with cway := { s.cway with taken := (seq :: s.cway.taken).take 16384, thLast := seq } }
    s.sendMsg .down .legal (.thAck seq)

/-- Every parameter set of the running image is forwarded, in two fragments (R403). -/
def forwardParams (s : State) : State :=
  match s.inForce? 0o023 0 with
  | none => s
  | some c =>
    (List.range (c.body.length / 376)).foldl (fun (s : State) (k : Nat) =>
      let w := wordsFrom c.body (376 * k) 376
      let p1 := fun (frag : Nat) => BitVec.ofNat 18 (fld 17 6 (bits (wordAt w 1).toNat 17 6) + fld 5 3 frag + 1)
      (s.sendToTollhouse (fun n => .legalParams n (p1 0 :: w.take 252))).sendToTollhouse
        (fun n => .legalParams n (p1 1 :: w.drop 252))) s

/-- Report `n` is kept, shown in the report ring, and recorded (R420, R458, R465) (DEDUCED, notes/assumptions/62). -/
def takeReport (s : State) (seq : Nat) (w : List Word) : State :=
  let n := s.cway.reportCount + 1
  let s := { s with cway := { s.cway with
    reportCount := n, reports := ((seq :: w.map BitVec.toNat) :: s.cway.reports).take 16384 } }
  let s := s.windowWrite (0o1000 + 16 * (n % 32)) (w.take 12 ++ wide 2 n ++ [0, 0])
  let e := setField w 0 17 0
  let e9 := setField w 9 17 0
  let ofPoint := [0o155015, 0o155016, 0o155022, 0o155031].contains e || (e = 0o155027 && e9 ≠ 0o7777)
  if ofPoint then s.emitOwnWith e 0o12 (setField w 5 11 0) e9 (s.legalCleared e) else s.emitOwnWith e 0 0 e9 (s.legalCleared e)

end State

def isWindowWrite : Msg → Bool
  | .windowWrite _ _ _ => true
  | _ => false

/-- WINDOW_WRITE_RX (R420). -/
def execWindowWriteRx (fault : MsgFault) (s : State) : Host.Outcome State Fault Refusal :=
  act [.cway] s (fun s =>
    match s.take .up .legal fault isWindowWrite with
    | (some (.windowWrite n offset w), s) =>
      s.takeSeq n (fun s =>
        let s := s.windowWrite offset w
        if offset ≤ 0o100 ∧ 0o100 < offset + w.length then
          { s with cway := { s.cway with statusKnown := true } }.settleLegal
        else s)
    | (_, s) => s)

def isLogEntry : Msg → Bool
  | .logEntry _ _ => true
  | _ => false

/-- LOG_ENTRY_RX (R420, R458). -/
def execLogEntryRx (fault : MsgFault) (s : State) : Host.Outcome State Fault Refusal :=
  act [.cway] s (fun s =>
    match s.take .up .legal fault isLogEntry with
    | (some (.logEntry n w), s) => s.takeSeq n (fun s => s.takeReport n w)
    | (_, s) => s)

def isThHello : Msg → Bool
  | .thHello _ _ => true
  | _ => false

/-- TH_HELLO_RX (R420, R403): the requests not yet answered, and every parameter set, go to the Tollhouse. One that carries
TH_SEQ 1 follows a start of the Tollhouse, whose numbers begin again (R334). -/
def execThHelloRx (fault : MsgFault) (s : State) : Host.Outcome State Fault Refusal :=
  act [.cway] s (fun s =>
    match s.take .up .legal fault isThHello with
    | (some (.thHello n w), s) =>
      let s := { s with cway := { s.cway with
        th := if s.isN then 2 else 1, taken := if n = 1 then [] else s.cway.taken } }
      let s := (s.emitDev 0o130005).resendLegal
      (s.takeSeq n (fun s => s.windowWrite 0 w)).forwardParams
    | (_, s) => s)

def isThReply : Msg → Bool
  | .thReply _ _ => true
  | _ => false

/-- TH_REPLY_RX (R447): the result is kept, and a session that waits for it is answered. -/
def execThReplyRx (fault : MsgFault) (s : State) : Host.Outcome State Fault Refusal :=
  act [.image, .keys, .tenants, .tp, .cway, .sp] s (fun s =>
    match s.take .up .legal fault isThReply with
    | (some (.thReply n result), s) =>
      let s := { s with
        cway := { s.cway with outstanding := s.cway.outstanding.filter (fun o => decide (o.1 ≠ n)) }
        sp := { s.sp with results := s.sp.results.map (fun (e : Nat × Option Nat) =>
          if e.1 = n && e.2.isNone then (n, some result) else e) } }
      match s.sp.thWaiting.find? (fun (w : Nat × Nat × Nat) => decide (w.2.1 = n)) with
      | some w =>
        { s with sp := { s.sp with thWaiting := s.sp.thWaiting.erase w } }.respondLater (.operator (Fin.ofNat 32 w.1)) 0o14
          stDone [BitVec.ofNat 18 n, BitVec.ofNat 18 (fld 17 12 result)] []
      | none => s
    | (_, s) => s)

/-- TH_COMMAND_WAIT_TIMEOUT (R447). -/
def execThCommandWaitTimeout (session : Fin 32) (s : State) : Host.Outcome State Fault Refusal :=
  act [.now, .free, .image, .keys, .tenants, .tp, .sp] s (fun s =>
    match s.sp.thWaiting.find? (fun w => decide (w.1 = session.val)) with
    | some w =>
      ({ s with sp := { s.sp with thWaiting := s.sp.thWaiting.erase w } }.upTo w.2.2).respondLater (.operator session)
        0o14 stPending [BitVec.ofNat 18 w.2.1] []
    | none => s)

/-- The legal window 0o174000 to 0o175777; on -N unused address space (R3, R424). -/
def readLegal (s : State) (a : Nat) : Nat := if s.isN then 0 else s.windowWord (a - 0o174000)

end Sys2Proof.Machine
end

