-- ==== Sys2Proof/Machine/MemLines.lean ====
section
/-!
DEFINITION. What the metadata cache, the directory and the tree walker do (13_protected_memory R318 to R323), under the credits of
the channel classes (21_progress_guarantee R514 to R519).
-/

namespace Sys2Proof.Machine

/-- Lines of the metadata cache, and of an L0 buffer (R319); walk slots (R517). -/
def cacheLines : Nat := 65536
def l0Lines : Nat := 64
def walkSlots : Nat := 64

namespace State

/-- ARG of a memory event (R326). -/
def memArg (r k : Nat) : Nat := fld 17 13 r + fld 12 10 k

/-! ## Failed checks (R322, R323, Table 13.8) -/

/-- Memory quarantine, until the next start (R323). -/
def quarantine (s : State) : State :=
  if s.mem.quarantined then s
  else { s with
    mem := { s.mem with quarantined := true }
    start := { s.start with memState := .unavailable } }.emitDev 0o124004 |>.note .halt

/-- Region 16 is reset after a counter line of the station tree failed: the frames in the host pipeline are refused, and a
region whose epoch is exhausted closes until the next start (R317). -/
def stationTreeFails (s : State) : State :=
  let s := s.pipelineQuarantine
  let g := s.region 16
  if g.epoch ≥ 2 ^ 24 - 1 then (s.setRegion 16 { g with closed := true }).emitOwn 0o123006 7 16 (memArg 16 0)
  else s.setRegion 16 { g with resetting := true }

/-- A re-encryption whose walk to the root meets the line is abandoned (Table 13.11). -/
def reencsAbove (l : List Reenc) (r k i : Nat) : List Reenc :=
  l.filter (fun e => !(e.region = r && decide (e.level < k) && decide (e.index / 24 ^ (k - e.level) = i)))

/-- The containment of a failed line (DEDUCED, notes/assumptions/46). -/
def containFailure (s : State) (r k i : Nat) : State :=
  let s := { s with mem := { s.mem with reencs := reencsAbove s.mem.reencs r k i } }
  if r < 16 then
    let s := if k = 0 then s else s.setRegion r { s.region r with broken := true }
    s.faultTenant r 1
  else if k = 0 then
    let s := (s.setCtx (2 * i) {}).setCtx (2 * i + 1) {}
    { s with stn := { s.stn with failedLine := some i } }
  else s.stationTreeFails

/-- A request of a list needs the line: it reads a data line below it. -/
def needsLine (q : MemReq) (r k i : Nat) : Bool := q.region = r && decide (q.line / 24 ^ k = i)

/-- The requests that wait for a failed line end with a bus error (R322). -/
def dropLineRequests (s : State) (r k i : Nat) : State :=
  { s with mem := { s.mem with
    walks := s.mem.walks.filter (fun key => decide (key ≠ lineKey r k i))
    dir := tabMap {} s.mem.dir (fun _ v => { v with waiting := v.waiting.filter (fun q => !needsLine q r k i) }) } }

/-- Content of a MEM record (Table 20.2). -/
def memRecord (op r k : Nat) (ecc : Bool) (i latency : Nat) : List Nat :=
  [fld 17 16 op + fld 15 11 r + fld 10 8 k + flag 7 ecc] ++ wideWords 2 i ++ [sat18 latency, 0, 0, 0]

/-- The engine at whose channel a line of a tree lies; a counter line is counted with the first data line below it. -/
def blockOfLine (s : State) (r k i : Nat) : Nat := 27 + lineEngine s.memBody r (i * 24 ^ k)

/-- A line of region `r` at level `k` fails its check: a security failure when its ECC was clean (DEDUCED,
notes/assumptions/46). -/
def lineFails (s : State) (r k i : Nat) (ecc : Bool) : State :=
  let m := s.mem
  let s := { s with mem := { m with
    tagFails := if !ecc && decide (k = 0) then satInc 18 m.tagFails else m.tagFails
    ctrFails := if !ecc && decide (k ≠ 0) then satInc 18 m.ctrFails else m.ctrFails
    eccUncorr := if ecc then satInc 18 m.eccUncorr else m.eccUncorr
    failRegion := r, failLevel := k, failIndex := i } }
  let s := s.setRegion r { s.region r with fails := satInc 18 (s.region r).fails }
  let s := (s.emitOwn (if ecc then 0o123003 else 0o124002) 7 r (memArg r k)).note (.rcd 6 0o10 (memRecord 1 r k ecc i 0))
  let s := (s.containFailure r k i).dropLineRequests r k i
  if ecc then s
  else
    let l := s.mem.sec.filter (fun t => decide (s.now < t + secs 60)) ++ [s.now]
    let s := { s with mem := { s.mem with sec := l } }
    if l.length ≥ 4 then s.quarantine else s

/-- A region has a line at a level below its root entries. -/
def hasLine (s : State) (r k i : Nat) : Bool :=
  decide (k < regionDepth s.memBody r) && decide (i < levelLines s.memBody r k)

/-! ## Credits of the channel classes (R514, Table 21.3) -/

/-- SHARE_Fc: how many of a receiver's 64 shared credits a class may hold (Table 21.9). -/
def shareOf (s : State) (c : Nat) : Nat :=
  let w := s.cfg 0o006 0 (1 + c / 2)
  if c % 2 = 0 then bits w 17 11 else bits w 10 4

/-- Reserved credits of a class at a receiver; of F3 for each tree level. -/
def reservedOf (c : Nat) : Nat := if c = 0 ∨ c = 2 then 4 else 2

/-- The engine at whose channel a request's line lies. -/
def reqEngine (s : State) (q : MemReq) : Nat := lineEngine s.memBody q.region q.line

/-- Transfers of a class that hold a credit at a receiver: a memory engine 0 to 3 holds requests and the snoops on their way to it;
the directory, 4, holds answers on their way and, at each level, the tree walks (DEDUCED, notes/assumptions/47). -/
def transfers (s : State) (rx c level : Nat) : Nat :=
  let l := s.mem.dir.map Prod.snd
  match c with
  | 0 => (l.map (fun v => (v.waiting.filter (fun q => decide (s.reqEngine q = rx))).length)).sum
  | 1 => (l.filter (fun v => v.snooped.contains rx)).length
  | 2 => if rx = 4 then (l.map (fun v => v.answers.length)).sum else 0
  | _ => if rx = 4 then (s.mem.walks.filter (fun k => decide (k / 2 ^ 36 % 8 = level))).length else 0

/-- Shared credits that a class holds at a receiver. -/
def sharedBy (s : State) (rx c : Nat) : Nat :=
  if c = 3 then ((List.range 8).map (fun k => s.transfers rx 3 k - reservedOf 3)).sum
  else s.transfers rx c 0 - reservedOf c

/-- A receiver has a credit for one more transfer of a class: a reserved one of its own, or a shared one within SHARE_Fc. -/
def hasCredit (s : State) (rx c level : Nat) : Bool :=
  decide (s.transfers rx c level < reservedOf c) ||
    (decide (s.sharedBy rx c < s.shareOf c) && decide (((List.range 4).map (s.sharedBy rx)).sum < 64))

/-! ## The metadata cache (R319, R320) -/

def dirLine (s : State) (key : Nat) : DirLine := tabGet {} s.mem.dir key
def setDirLine (s : State) (key : Nat) (v : DirLine) : State :=
  { s with mem := { s.mem with dir := tabPut {} s.mem.dir key v } }

/-- A group re-encryption of the line runs. -/
def reencrypts (s : State) (r k i : Nat) : Bool :=
  s.mem.reencs.any (fun e => decide (e.region = r ∧ e.level = k ∧ e.index = i))

def setDirty (s : State) (key : Nat) (on : Bool) : State :=
  let rest := s.mem.dirty.filter (fun k => decide (k ≠ key))
  { s with mem := { s.mem with dirty := if on then rest ++ [key] else rest } }

def uncache (s : State) (key : Nat) : State :=
  { s with mem := { s.mem with cached := s.mem.cached.filter (fun k => decide (k ≠ key)) } }

/-- A counter line is on-chip: a root entry, or held by the metadata cache. -/
def present (s : State) (r k i : Nat) : Bool :=
  decide (regionDepth s.memBody r ≤ k) || s.mem.cached.contains (lineKey r k i)

/-- A write of child `m` raises its minor in the counter line; a minor at 2^18 - 1 starts a group re-encryption, and a line
whose OVERFLOWS is exhausted counts as a failed counter line (R318). `data` is the plaintext of a data child. -/
def raiseMinor (s : State) (r k i m : Nat) (data : Option Nat) : State :=
  let key := lineKey r k i
  let v := s.ctrLine key
  let n := tabGet 0 v.minors m
  if n ≥ 2 ^ 18 - 1 then
    if v.overflows ≥ 2 ^ 40 - 1 then
      let s := { s with mem := { s.mem with
        ctrFails := satInc 18 s.mem.ctrFails, failRegion := r, failLevel := k, failIndex := i } }
      let s := s.setRegion r { s.region r with fails := satInc 18 (s.region r).fails }
      (s.emitOwn 0o123006 7 r (memArg r k)).containFailure r k i
    else { s with mem := { s.mem with
      reencs := s.mem.reencs ++ [{ region := r, level := k, index := i, child := m, data := data }] } }
  else
    let s := s.setCtrLine key { v with minors := tabPut 0 v.minors m (n + 1) }
    let s := if k < regionDepth s.memBody r then s.setDirty key true else s
    s.lineStore r (k - 1) (24 * i + m) (data.getD (s.ctrPlain r (k - 1) (24 * i + m)))

/-- A line of the metadata cache can be written back at once: its parent is on-chip and not being re-encrypted (R320, Table
13.11). -/
def parentFree (s : State) (r k i : Nat) : Bool := s.present r (k + 1) (i / 24) && !s.reencrypts r (k + 1) (i / 24)

/-- A line leaves the metadata cache: SDRAM takes it when it is dirty, which raises its parent's minor (R320) (DEDUCED,
notes/assumptions/47). -/
def writeBack (s : State) (r k i : Nat) : State :=
  let key := lineKey r k i
  let s := s.uncache key
  if s.mem.dirty.contains key then
    ((s.setDirty key false).occur 31 0o003).raiseMinor r (k + 1) (i / 24) (i % 24) none
  else s

/-- A line of the cache can leave it at once: a tag line always, a counter line that no L0 buffer holds, that nothing waits for, and
that is clean or can be written back. -/
def canLeave (s : State) (key : Nat) : Bool :=
  let r := keyRegion key
  let k := key / 2 ^ 36 % 8
  let i := key % 2 ^ 36
  let v := s.dirLine key
  decide (2 ^ 52 ≤ key) ||
    (v.holders.isEmpty && v.waiting.isEmpty && !v.evicting && (!s.mem.dirty.contains key || s.parentFree r k i))

/-- A line enters the metadata cache. A full cache evicts a line first: which of those that can leave is the cache's choice, a free
value (DESIGN CHOICE, notes/assumptions/47). Answers whether it has found a place. -/
def enterCache (s : State) (key : Nat) : Bool × State :=
  let put := fun (s : State) => { s with mem := { s.mem with cached := s.mem.cached ++ [key] } }
  if s.mem.cached.contains key then (true, s)
  else if s.mem.cached.length < cacheLines then (true, put s)
  else
    let l := s.mem.cached.filter s.canLeave
    match l[Config.freeNat s.free % l.length]? with
    | some old =>
      let s := { s with free := s.free + 1 }
      (true, put (if 2 ^ 52 ≤ old then s.uncache old else s.writeBack (keyRegion old) (old / 2 ^ 36 % 8) (old % 2 ^ 36)))
    | none => (false, s)

/-- The highest level from `k` up at which the line over `i` is not on-chip, with its index: at most `fuel` levels up. -/
def missing (s : State) (r : Nat) : Nat → Nat → Nat → Option (Nat × Nat)
  | 0, _, _ => none
  | fuel + 1, k, i =>
    if s.present r k i then none
    else match missing s r fuel (k + 1) (i / 24) with
      | some e => some e
      | none => some (k, i)

/-- The path to a line is brought in from the highest line that is missing (R315, R316): an uninitialised line enters the cache at
once, any other is read from SDRAM on class F3, and the walk goes on when it has come. Answers whether the line is on-chip. -/
def walkTo (s : State) (r k i : Nat) : Nat → Bool × State
  | 0 => (false, s)
  | fuel + 1 =>
    match s.missing r 7 k i with
    | none => (true, s)
    | some (j, x) =>
      let key := lineKey r j x
      if s.mem.walks.contains key || s.reencrypts r (j + 1) (x / 24) then (false, s)
      else if s.minorOver r j x = 0 then
        match s.enterCache key with
        | (true, s) => walkTo s r k i fuel
        | (false, s) => (false, s)
      else if decide (s.mem.walks.length < walkSlots) && s.hasCredit 4 3 j then
        (false, { s with mem := { s.mem with walks := s.mem.walks ++ [key] } })
      else (false, s)

/-! ## The directory (R320, R321) -/

/-- Snoops go to those engines of a list that hold the line, have none on its way, and have a credit of class F1. -/
def snoopAll (s : State) (key : Nat) (l : List Nat) : State :=
  l.foldl (fun (s : State) e =>
    let v := s.dirLine key
    if v.snooped.contains e || v.answers.any (fun a => a.1 = e) || !s.hasCredit e 1 0 then s
    else s.setDirLine key { v with snooped := v.snooped ++ [e] }) s

/-- Level-1 lines in the L0 buffer of an engine. -/
def l0Held (s : State) (e : Nat) : Nat := (s.mem.dir.filter (fun d => d.2.holders.contains e)).length

/-- An engine is given a copy of the line: its L0 buffer has room for it. -/
def l0Room (s : State) (v : DirLine) (e : Nat) : Bool := v.holders.contains e || decide (s.l0Held e < l0Lines)

/-- The directory serves the requests held at a line as far as its state allows, an eviction first (R320, R321). -/
def serveDir : Nat → Nat → Nat → State → State
  | 0, _, _, s => s
  | fuel + 1, r, i, s =>
    let key := lineKey r 1 i
    let v := s.dirLine key
    if v.evicting then
      if v.holders.isEmpty then
        if s.parentFree r 1 i then serveDir fuel r i ((s.setDirLine key { v with evicting := false }).writeBack r 1 i)
        else (s.walkTo r 2 (i / 24) 7).2
      else s.snoopAll key v.holders
    else match v.waiting with
      | [] => s
      | q :: rest =>
        if (s.region r).resetting || s.reencrypts r 1 i then s
        else match s.walkTo r 1 i 7 with
          | (false, s) => s
          | (true, s) =>
            let e := s.reqEngine q
            let others := v.holders.filter (fun h => decide (h ≠ e))
            match q.write with
            | some data =>
              if !others.isEmpty then s.snoopAll key others
              else if !s.l0Room v e then s
              else
                serveDir fuel r i
                  ((s.setDirLine key { v with waiting := rest, holders := [e], owned := true }).raiseMinor r 1 i (q.line % 24)
                    (some data))
            | none =>
              if v.owned && !others.isEmpty then s.snoopAll key others
              else if !s.l0Room v e then s
              else serveDir fuel r i (s.setDirLine key { v with waiting := rest, holders := others ++ [e] })

/-- DEDUCED, notes/assumptions/47. -/
def dirServe (s : State) (r i : Nat) : State := serveDir ((s.dirLine (lineKey r 1 i)).waiting.length + 2) r i s

/-- Every line at which requests or an eviction wait is served. -/
def serveAll (s : State) : State :=
  (s.mem.dir.filter (fun e => !e.2.waiting.isEmpty || e.2.evicting)).foldl
    (fun s e => s.dirServe (keyRegion e.1) (e.1 % 2 ^ 36)) s

/-! ## Requests of the masters (R518) -/

/-- A request is promoted: its age has reached AGE_PROMOTE, or its requester's has been told to be, by its bank conflicts (R518,
R519). -/
def reqPromoted (s : State) (q : MemReq) : Bool :=
  decide (bits (s.cfg 0o006 0 0) 17 6 ≤ (s.now - q.issued) / 2) || s.promoted.any (fun p => decide (p.2 = q.requester))

/-- The oldest request of a list, of equal ages that of the lower requester (Table 21.8). -/
def oldestRequest (l : List MemReq) : Option MemReq :=
  l.foldl (fun best q => match best with
    | none => some q
    | some b => if q.issued < b.issued ∨ (q.issued = b.issued ∧ q.requester < b.requester) then some q else some b) none

/-- The request that an engine takes next of those that wait for it: of the promoted ones the oldest, then in round-robin order of the
requesters. -/
def nextRequest (s : State) (e : Nat) : Option MemReq :=
  let l := s.mem.backlog.filter (fun q => decide (s.reqEngine q = e))
  let last := tabGet 0 s.mem.served e
  match oldestRequest (l.filter s.reqPromoted) with
  | some q => some q
  | none => ((List.range 32).map (fun d => (last + 1 + d) % 32)).findSome? (fun n =>
      l.find? (fun q => decide (q.requester = n)))

/-- A request takes a credit of class F0 at its engine, which holds it at its level-1 line. -/
def engineTakes (s : State) (q : MemReq) : State :=
  let key := lineKey q.region 1 (q.line / 24)
  let b := 27 + s.reqEngine q
  let s := { s with mem := { s.mem with served := tabPut 0 s.mem.served (s.reqEngine q) q.requester } }
  let s := { s with promoted := s.promoted.filter (fun p => decide (p.2 ≠ q.requester)) }
  let s := (if q.write.isSome then s.occur b 0o002 else s).occur b 0o003
  let hit := s.present q.region 1 (q.line / 24)
  let s := if hit then s.occur 31 0o001 else (s.occur b 0o004).occur 31 0o002
  let levels := countBelow 7 (fun j => !s.present q.region (j + 1) (q.line / 24 ^ (j + 1)))
  let s := if hit then s else s.occurs 31 0o005 levels 1
  let s := (s.enterCache (tagKey q.region 0 q.line)).2
  let v := s.dirLine key
  (s.setDirLine key { v with waiting := v.waiting ++ [q] }).dirServe q.region (q.line / 24)

/-- The engines take waiting requests while they have credits: at most `fuel` of them. -/
def drainBacklog : Nat → State → State
  | 0, s => s
  | fuel + 1, s =>
    match (List.range 4).findSome? (fun e => if s.hasCredit e 0 0 then s.nextRequest e else none) with
    | some q => drainBacklog fuel ({ s with mem := { s.mem with backlog := s.mem.backlog.erase q } }.engineTakes q)
    | none => s

/-- What held the lines and the engines has changed: they are served as far as they can be. -/
def settleLines (s : State) : State := let s := s.serveAll; s.drainBacklog s.mem.backlog.length

/-- A master asks its engine for a data line: at once when the engine has a credit and none waits before it. -/
def request (s : State) (q : MemReq) : State :=
  if s.hasCredit (s.reqEngine q) 0 0 && !s.mem.backlog.any (fun p => decide (s.reqEngine p = s.reqEngine q)) then s.engineTakes q
  else { s with mem := { s.mem with backlog := s.mem.backlog ++ [q] } }

end State

end Sys2Proof.Machine
end

