-- ==== Sys2Proof/Machine/Memory.lean ====
section
/-!
DEFINITION. Commands of protected memory (13_protected_memory): checks of lines and their containment, the directory,
group re-encryption, region resets and the DAP, and the protected-memory words.
-/

namespace Sys2Proof.Machine

namespace State

/-- The engine has the counters of a data line: of a tree of depth 1 they stand in a root entry, else it holds a copy of the level-1
line. A counter line is read by a walk. -/
def readIssued (s : State) (r k i : Nat) : Bool :=
  if k = 0 then
    decide (regionDepth s.memBody r = 1) || (s.dirLine (lineKey r 1 (i / 24))).holders.contains (lineEngine s.memBody r i)
  else s.mem.walks.contains (lineKey r k i)

/-- What a line that was read holds, under the counters that stand over it; none when it fails its check. -/
def lineRead (s : State) (r k i : Nat) (read : SdramLine) : Option Nat :=
  if read.ecc = LineEcc.uncorrectable then none
  else s.lineOpen r k i (s.majorOver r k i) (s.minorOver r k i) read.data.toNat read.tag.toNat

/-- A correctable error of a line that is checked is counted (R322, R565). -/
def countCorrected (s : State) (r k i : Nat) (ecc : LineEcc) : State :=
  if ecc = LineEcc.corrected then
    { s with mem := { s.mem with eccCorr := satInc 36 s.mem.eccCorr } }.occur (s.blockOfLine r k i) 0o007
  else s

/-- A counter line that a walk has read and checked is trusted on-chip (R319). -/
def walked (s : State) (r k i data : Nat) : State :=
  let key := lineKey r k i
  let s := { s with mem := { s.mem with walks := s.mem.walks.filter (fun x => decide (x ≠ key)) } }
  ((s.setCtrLine key (ctrOf data)).enterCache key).2.settleLines

end State

/-! ## Commands -/

/-- MEMORY_READ_COMPLETE (R322, R565, R498): a line that was read is checked; `latency` says how many CK_CORE cycles after its issue
the read completed (DEDUCED, notes/assumptions/46). -/
def execMemoryReadComplete (region : Fin 17) (level : Fin 7) (index : Nat) (read : SdramLine) (latency : Nat) (s : State) :
    Host.Outcome State Fault Refusal :=
  actUnit [.free, .once, .start, .image, .lanes, .tenants, .tp, .mem, .cway, .stn, .way, .promoted] s (fun s =>
    let r := region.val
    let k := level.val
    if s.memAccess r && s.hasLine r k index && !(s.region r).closed && decide (s.minorOver r k index ≠ 0) &&
        s.readIssued r k index then
      let s := s.countCorrected r k index read.ecc
      let s := if k = 0 then s.occur (s.blockOfLine r k index) 0o001 else s
      let s := if us 1 < latency then s.note (.rcd 6 0o10 (State.memRecord 2 r k false index latency)) else s
      match s.trip.forced.find? (fun e => decide (e.1 = State.lineKey r k index)), s.lineRead r k index read with
      | some (key, ecc), _ =>
        { s with trip := { s.trip with forced := s.trip.forced.filter (fun e => decide (e.1 ≠ key)) } }.lineFails r k index ecc
      | none, some data => if k = 0 then s else s.walked r k index data
      | none, none => s.lineFails r k index (decide (read.ecc = LineEcc.uncorrectable))
    else s)

/-- REENCRYPTION_COMPLETE (R318, Table 13.6): `siblings` are the other children of the group whose minors are not 0, as they were
read; one that fails its check becomes uninitialised. It is complete only with all of them. -/
def execReencryptionComplete (region : Fin 17) (level : Fin 8) (index : Nat) (siblings : List (Fin 24 × SdramLine)) (s : State) :
    Host.Outcome State Fault Refusal :=
  actUnit [.free, .once, .start, .image, .lanes, .tenants, .tp, .mem, .cway, .stn, .way, .promoted] s (fun s =>
    let r := region.val
    let k := level.val
    match s.mem.reencs.find? (fun e => decide (e.region = r ∧ e.level = k ∧ e.index = index)) with
    | none => s
    | some e =>
      let key := State.lineKey r k index
      let v := s.ctrLine key
      let others := (v.minors.map Prod.fst).filter (fun m => decide (m ≠ e.child))
      let given := fun (m : Nat) => (siblings.find? (fun f => decide (f.1.val = m))).map Prod.snd
      if !others.all (fun m => (given m).isSome) then s
      else
        let plain := fun (m : Nat) => (given m).bind (s.lineRead r (k - 1) (24 * index + m))
        let own := fun (m : Nat) => if k = 1 then plain m else
          if s.mem.cached.contains (State.lineKey r (k - 1) (24 * index + m)) then some (s.ctrPlain r (k - 1) (24 * index + m))
          else plain m
        let bad := others.filter (fun m => (own m).isNone)
        let minors := tabMap 0 v.minors (fun m _ => if bad.contains m then 0 else 1)
        let s := s.setCtrLine key { overflows := v.overflows + 1, minors := tabPut 0 minors e.child 1 }
        let s := if k < regionDepth s.memBody r then s.setDirty key true else s
        let s := others.foldl (fun s m => match own m with
          | some data => s.lineStore r (k - 1) (24 * index + m) data
          | none => s) s
        let c := 24 * index + e.child
        let s := s.lineStore r (k - 1) c (e.data.getD (s.ctrPlain r (k - 1) c))
        let s := { s with mem := { s.mem with
          reencs := s.mem.reencs.filter (fun d => decide (d ≠ e)), reenc := satInc 36 s.mem.reenc } }
        let s := (s.setRegion r { s.region r with reenc := satInc 18 (s.region r).reenc }).occur (s.blockOfLine r k index) 0o005
        let s := bad.foldl (fun s m =>
          if s.memAccess r then s.lineFails r (k - 1) (24 * index + m)
            (decide ((given m).map SdramLine.ecc = some LineEcc.uncorrectable))
          else s) s
        s.settleLines)

/-- The metadata cache evicts a line that it has chosen: a level-1 line is recalled from the L0 buffers first (R320). -/
def State.evictLine (s : State) (r k i : Nat) : State :=
  let key := State.lineKey r k i
  if k = 0 || !s.mem.cached.contains key then s
  else if k = 1 then (s.setDirLine key { s.dirLine key with evicting := true }).dirServe r i
  else if s.parentFree r k i then s.writeBack r k i
  else s

/-- DIRECTORY_REQUEST (R320): the master of a region asks the engine of the data line's channel, which needs the level-1 line over
it; the metadata cache may evict a line at that time, named by region, level and index (DEDUCED, notes/assumptions/47). -/
def execDirectoryRequest (region : Fin 17) (line : Nat) (write : Option (BitVec 512)) (evict : Option (Fin 17 × Fin 7 × Nat))
    (s : State) : Host.Outcome State Fault Refusal :=
  actUnit [.free, .once, .image, .lanes, .tenants, .tp, .mem, .cway, .stn, .way, .promoted] s (fun s =>
    if s.memReady && !s.mem.quarantined && decide (line < levelLines s.memBody region 0) && !(s.region region).closed then
      let s := match evict with
        | none => s
        | some (er, ek, ei) => s.evictLine er ek ei
      s.request { region := region, line := line, write := write.map BitVec.toNat, requester := region, issued := s.now }
    else s)

/-- SNOOP (R320, R321): an engine that has issued the release of the line answers EVICTING and sends no data (DEDUCED,
notes/assumptions/47). -/
def execSnoop (engine : Fin 4) (region : Fin 17) (line : Nat) (evicting : Bool) (s : State) :
    Host.Outcome State Fault Refusal :=
  actUnit [.free, .once, .image, .lanes, .tenants, .tp, .mem, .cway, .stn, .way, .promoted] s (fun s =>
    let key := State.lineKey region 1 line
    let v := s.dirLine key
    if v.snooped.contains engine.val then
      let s := (s.occur 31 0o004).occurs (27 + engine.val) 0o006 0 (if evicting then 1 else 0)
      let s := s.setDirLine key { v with
        snooped := v.snooped.filter (fun e => decide (e ≠ engine.val)), answers := v.answers ++ [(engine.val, evicting)] }
      let s := if evicting then { s with mem := { s.mem with crossings := satInc 18 s.mem.crossings } } else s
      s.settleLines
    else s)

/-- SNOOP_ANSWER (R321): the copy comes with the answer, but for EVICTING, where the release in flight is the authoritative
copy. -/
def execSnoopAnswer (engine : Fin 4) (region : Fin 17) (line : Nat) (s : State) : Host.Outcome State Fault Refusal :=
  actUnit [.free, .once, .image, .lanes, .tenants, .tp, .mem, .cway, .stn, .way, .promoted] s (fun s =>
    let key := State.lineKey region 1 line
    let v := s.dirLine key
    match v.answers.find? (fun a => decide (a.1 = engine.val)) with
    | none => s
    | some a =>
      let v := { v with answers := v.answers.filter (fun b => decide (b.1 ≠ engine.val)) }
      if a.2 then s.setDirLine key v
      else
        let holders := v.holders.filter (fun h => decide (h ≠ engine.val))
        (s.setDirLine key { v with holders := holders, owned := v.owned && !holders.isEmpty }).settleLines)

/-- L0_RELEASE (R320, R321): a dirty release carries the line. -/
def execL0Release (engine : Fin 4) (region : Fin 17) (line : Nat) (dirty : Bool) (s : State) :
    Host.Outcome State Fault Refusal :=
  actUnit [.free, .once, .image, .lanes, .tenants, .tp, .mem, .cway, .stn, .way, .promoted] s (fun s =>
    let key := State.lineKey region 1 line
    let v := s.dirLine key
    if v.holders.contains engine.val then
      let holders := v.holders.filter (fun h => decide (h ≠ engine.val))
      let s := s.setDirLine key { v with holders := holders, owned := v.owned && !holders.isEmpty }
      let s := if dirty && decide (1 < regionDepth s.memBody region) then s.setDirty key true else s
      s.settleLines
    else s)

/-! ## The DAP (R324, Table 13.9) -/

/-- Lines of a region of Table 13.1. -/
def State.regionLines (s : State) (r : Nat) : Nat :=
  16384 * (if r = 18 then openMib s.memBody else regionMib s.memBody r)

/-- A DAP access to a line of a tree region, through its engine: a line that was never written reads as zeros, one that fails its check
gives a bus error (DEDUCED, notes/assumptions/45). -/
def State.dapTree (s : State) (r i : Nat) (write : Option Nat) (raw : SdramLine) : State :=
  match write with
  | some data =>
    (s.request { region := r, line := i, write := some data, requester := 18, issued := s.now }).send (.dap (some 0))
  | none =>
    if (s.region r).resetting || decide (s.minorOver r 0 i = 0) then s.send (.dap (some 0))
    else
      let s := s.countCorrected r 0 i raw.ecc
      match s.lineRead r 0 i raw with
      | some data => s.send (.dap (some data))
      | none => (s.lineFails r 0 i (decide (raw.ecc = LineEcc.uncorrectable))).send (.dap none)

/-- A DAP access to a line that the engines do not protect: the raw contents. What region 17 holds of the journal stands in the Trip
Recorder's state (DEDUCED, notes/assumptions/45). -/
def State.dapRaw (s : State) (r i : Nat) (write : Option Nat) (raw : SdramLine) : State :=
  let (channel, place) := lineChannel s.memBody (regionBase s.memBody r / 64 + i)
  match write with
  | some data =>
    let s := if r = 17 then
        { s with trip := { s.trip with region := tabPut none s.trip.region i (some data) } }
      else s
    (s.send (.line channel place data 0 0)).send (.dap (some 0))
  | none =>
    let held := if r = 17 then tabGet none s.trip.region i else none
    s.send (.dap (if raw.ecc = LineEcc.uncorrectable then none else some (held.getD raw.data.toNat)))

/-- DAP_ACCESS (R324, Table 13.9): regions 0 to 18, `raw` what SDRAM gives for a read. A refused access answers a bus error and is
counted (DEDUCED, notes/assumptions/45). -/
def execDapAccess (region : Fin 19) (line : Nat) (write : Option (BitVec 512)) (raw : SdramLine) (s : State) :
    Host.Outcome State Fault Refusal :=
  act [.free, .once, .start, .image, .lanes, .tenants, .tp, .mem, .cway, .stn, .way, .promoted] s (fun s =>
    let r := region.val
    let may := match s.cus.startState with
      | .analysis => true
      | .field => decide (r = 18) && write.isNone
      | _ => false
    if !may then
      let s := ({ s with mem := { s.mem with blocked := satInc 18 s.mem.blocked } }).send (.dap none)
      if s.cus.startState = LcState.field then s.emitOnce 0o124005 0 0 0 else s
    else if !s.memReady || s.mem.quarantined || decide (s.regionLines r ≤ line) then s.send (.dap none)
    else if r = 17 ∨ r = 18 then s.dapRaw r line (write.map BitVec.toNat) raw
    else s.dapTree r line (write.map BitVec.toNat) raw)

/-- REGION_RESET_COMPLETE (R317, Table 13.5): it waits for a group re-encryption of the region (Table 13.11). In memory
quarantine the reset ends without it. -/
def execRegionResetComplete (region : Fin 17) (s : State) : Host.Outcome State Fault Refusal :=
  actUnit [.free, .once, .image, .keys, .lanes, .tenants, .tp, .mem, .cway, .stn, .way, .promoted] s (fun s =>
    let r := region.val
    let g := s.region r
    if !g.resetting || s.mem.reencs.any (fun e => decide (e.region = r)) then s
    else
      let s := if s.mem.quarantined then s.setRegion r { g with resetting := false } else s.clearRegion r (g.epoch + 1)
      let s := s.settleLines
      if r < 16 then
        match (s.tenant r).reset with
        | some t => if t.phase = ResetPhase.region then s.finishReset r t false else s
        | none => s
      else
        let s := if s.mem.quarantined then s else { s with stn := { s.stn with contexts := [], failedLine := none } }
        s.pipelineServe (fun i => (s.stationKey i.station).isSome))

/-- SEC_60S_EXPIRY (R328): the oldest security failure passes 60 s of age. -/
def execSec60sExpiry (s : State) : Host.Outcome State Fault Refusal :=
  actUnit [.now, .free, .tp, .mem] s (fun s =>
    match s.mem.sec with
    | t :: rest => { s.upTo (t + secs 60) with mem := { s.mem with sec := rest } }
    | [] => s)

/-! ## Words -/

/-- The protected-memory words 0o160000 to 0o167777 (Table 13.12). -/
def readMemory (s : State) (a : Nat) : Nat :=
  let m := s.mem
  let b := s.memBody
  if a = 0o160000 then flag 17 m.quarantined + bits (bodyNat b 0) 17 9 * 2 ^ 8
  else if a = 0o160001 then sat 18 (openMib b)
  else if a = 0o160002 then sat 18 ((metaBytes b + 2 ^ 20 - 1) / 2 ^ 20)
  else if a = 0o160003 then rootUsed b
  else if a = 0o160004 then m.tagFails
  else if a = 0o160005 then m.ctrFails
  else if a = 0o160006 then m.eccUncorr
  else if a = 0o160007 then wideWord 2 m.eccCorr 0
  else if a = 0o160010 then wideWord 2 m.eccCorr 1
  else if a = 0o160011 then wideWord 2 m.reenc 0
  else if a = 0o160012 then wideWord 2 m.reenc 1
  else if a = 0o160013 then m.crossings
  else if a = 0o160014 then m.blocked
  else if a = 0o160015 then fld 17 13 m.failRegion + fld 12 10 m.failLevel
  else if a = 0o160016 then wideWord 2 m.failIndex 0
  else if a = 0o160017 then wideWord 2 m.failIndex 1
  else if a = 0o160020 then min 4 m.sec.length
  else if 0o161000 ≤ a ∧ a < 0o161000 + 0o20 * 18 then
    let r := (a - 0o161000) / 0o20
    let g := s.region r
    let i := (a - 0o161000) % 0o20
    if i = 0 then regionMib b r
    else if i = 1 then (if regionMib b r = 0 then 0 else fld 17 8 (if r = 17 then 0 else rootFirst b r)) + fld 7 5 (regionDepth b r)
    else if i = 2 then fld 17 8 (rootCount b r)
    else if i = 3 then wideWord 2 g.epoch 0
    else if i = 4 then wideWord 2 g.epoch 1
    else if i = 5 then g.fails
    else if i = 6 then g.reenc
    else 0
  else if 0o162000 ≤ a ∧ a ≤ 0o162077 then bodyNat b (a - 0o162000)
  else 0

end Sys2Proof.Machine
end

