-- ==== Sys2Proof/Machine/Apply.lean ====
section
/-!
DEFINITION. What a start and the end of a run do to the units: step 8 applies an image (03_start_of_day R61, R76, 04_spango_image
R97), step 10 settles memory (R73), traffic stops (05_custody Table 5.4), and the host section resets (R58, R59).
-/

namespace Sys2Proof.Machine

/-- Field `t` of 32 bytes of an unwrapped section, whose bytes stand nine to four words (R9). -/
def keyField (body : List Word) (t : Nat) : Nat :=
  wideOf body / 2 ^ (18 * body.length - 256 * (t + 1)) % 2 ^ 256

namespace State

/-! ## Step 8 -/

/-- ALARM_POLICY in force, or R469's values without the section. -/
def loadAlarmPolicy (s : State) : State :=
  match s.inForce? 0o024 0 with
  | some c => { s with alarm := { s.alarm with
      p0 := (wordAt c.body 0).toNat, p1 := (wordAt c.body 1).toNat, body := c.body.drop 2 } }.settleAlert
  | none => { s with alarm := { s.alarm with p0 := 0o500000, p1 := 0, body := [] } }.settleAlert

/-- EVENT_MODERATION in force for every configured tenant; it replaces live values (R227, Table 4.12). -/
def loadModeration (s : State) : State :=
  (List.range 16).foldl (fun (s : State) t =>
    if s.configured t then s.setModeration t (s.moderationOf t) else s) s

/-- A key of 256 bits from an image goes into its slot (R138); in ANALYSIS its substitute does (Table 20.4). -/
def loadKey (s : State) (n key : Nat) (name : String) (more : List Nat) : State :=
  s.installKey n (slotValue (if s.analysis then substitute name more else key))

/-- The operator key, the tenant keys and the fleet key (R138, R562). In ANALYSIS no plaintext says which tenants have keys:
every tenant with a TENANT_MAP takes its substitute (DEDUCED, notes/assumptions/77). -/
def loadKeys (s : State) : State :=
  let s := match s.inForce? 0o002 0 with
    | some c => s.loadKey slotOperator (keyField c.body 0) "KR1856-ANALYSIS-OPERATOR" []
    | none => s
  let s := match s.inForce? 0o011 0 with
    | some c => (List.range 16).foldl (fun (s : State) t =>
        let has := if s.analysis then s.configured t
          else decide (32 * (t + 1) ≤ c.plain.getD 0) && decide (keyField c.body t ≠ 0)
        if has then s.loadKey (slotTenantKey t) (keyField c.body t) "KR1856-ANALYSIS-TENANT" [t] else s) s
    | none => s
  match s.inForce? 0o010 0 with
  | some c => s.loadKey slotFleet (keyField c.body 0) "KR1856-ANALYSIS-FLEET" []
  | none => s

/-- Configured lanes leave OFF (Table 8.4). -/
def startLanes (s : State) : State :=
  (List.range 16).foldl (fun (s : State) n =>
    if s.hasSection 0o004 n then s.laneEnter n (if s.laneTrain n then .training else .down) (s.lane n) else s) s

/-- Configured tenants are HEALTHY with GEN 0 (R214); one whose memory key slot is FAULT is FAULTED at once (R216). -/
def startTenants (s : State) : State :=
  (List.range 16).foldl (fun (s : State) t =>
    if s.configured t && decide ((s.slot (slotMem t)).state = SlotState.fault) then s.faultTenant t 3 else s)
    s.loadModeration

/-- A transmit stream after step 8: NO-KEY with GEN 0 when its entry is VALID (R280). -/
def startTx (s : State) (x : Nat) : State :=
  let e := entryIn (s.inForce? 0o016 (x / 64)) 8 (x % 64)
  if e.isEmpty then s
  else
    let pin := if entPinned e then entryIn (s.inForce? 0o017 (x / 64)) 32 (x % 64) else []
    s.setTx x { state := .noKey, entry := e, pin := pin }

/-- A receive stream after step 8. -/
def startRx (s : State) (x : Nat) : State :=
  let b := 256 + x / 64
  let e := entryIn (s.inForce? 0o016 b) 8 (x % 64)
  if e.isEmpty then s
  else
    let pin := if entPinned e then entryIn (s.inForce? 0o017 b) 32 (x % 64) else []
    s.setRx x { state := .noKey, entry := e, pin := pin }

/-- Instances of a type of section, in rising order. -/
def instances (s : State) (type n : Nat) : List Nat := (List.range n).filter (fun i => s.hasSection type i)

def startStreams (s : State) : State :=
  (s.instances 0o016 512).foldl (fun (s : State) b =>
    (List.range 64).foldl (fun (s : State) i =>
      if b < 256 then s.startTx (64 * b + i) else s.startRx (64 * (b - 256) + i)) s) s

/-- Pinned streams take their keys once the start has ended (R271, R275, R280) (DESIGN CHOICE, notes/assumptions/24). -/
def startPins (s : State) : State :=
  let s := (s.link.tx.filter (fun e => entPinned e.2.entry)).foldl (fun s e => s.startTxPin e.1) s
  (s.link.rx.filter (fun e => entPinned e.2.entry)).foldl (fun s e => s.startRxPin e.1) s

/-- Records of the lease journal that claim more than the ladder holds are ignored and reported (R273), for each stream that they
name (R278; DEDUCED, notes/assumptions/42). -/
def reportJournal (s : State) : State :=
  let l := (s.nor.journal.filter (fun r => decide (s.ladderValue .lease < r.ladder))).map (fun r => r.stream % 2 ^ 14)
  let s := { s with link := { s.link with journalIgnored := sat 18 l.length } }
  let counts : Tab Nat := l.foldl (fun t x => tabPut 0 t x (tabGet 0 t x + 1)) []
  counts.foldl (fun s e => s.emitOwn 0o101007 3 e.1 (sat 18 e.2)) s

/-- The station context unit asks for its DOWN_EPOCH (R380). -/
def startStations (s : State) : State :=
  if !s.hasSection 0o010 0 then s
  else if s.analysis then { s with stn := { s.stn with downReady := true } }
  else s.askAdvance .downEpoch

/-- Channels of SDRAM that the image configures. -/
def channelsConfigured (s : State) : List Nat := memChannels s.memBody

/-- Step 8: every section of the accepted image takes effect (DEDUCED, notes/assumptions/24). -/
def applyAll (s : State) : State :=
  let s := s.loadAlarmPolicy.loadKeys.startLanes.startTenants.reportJournal.startStreams.startGroups.startStations
  let s := if s.linked then s.configurePorts else s
  let s := s.forwardParams
  { s with start := { s.start with
      memState := if s.channelsConfigured.isEmpty then .noneConfigured else .training } }.junEvaluate

/-! ## Step 10 -/

/-- The slots of the memory keys (Table 6.2). -/
def memorySlots : List Nat := (List.range 16).map slotMem ++ [slotDevMem]

/-- A memory key is drawn and installed; a slot that is FAULT takes none. -/
def drawMemoryKey (s : State) (n : Nat) : State :=
  match (s.slot n).state with
  | .valid | .fault => s
  | .empty | .destroyed =>
    if s.drbgServes then
      let d := s.draw 256
      d.2.installKey n (slotValue d.1)
    else s

/-- The memory keys are drawn as far as the DRBG serves; with all of them memory is ready, its counter-tree root reset. A
device memory key slot in FAULT makes memory unavailable (Table 18.5) (DEDUCED, notes/assumptions/24). While the DRBG does not
serve, these draws stand in no queue: MEM_STATE says that they wait (DESIGN CHOICE, notes/assumptions/24). -/
def settleMemory (s : State) : State :=
  let s := memorySlots.foldl drawMemoryKey s
  let enter := fun (s : State) (m : MemState) => { s with start := { s.start with memState := m } }
  if (s.slot slotDevMem).state = SlotState.fault then enter s .unavailable
  else if memorySlots.all (fun n => s.keyValid n || decide ((s.slot n).state = SlotState.fault)) then
    enter s.resetRegions .ready
  else enter s .waiting

/-! ## The end of a run -/

/-- Step 2b: the host starts its side of the Causeway link (R74). -/
def startCauseway (s : State) : State := { s with start := { s.start with linkStarted := true } }

/-- Sessions of every path that are not idle. -/
def sessionsHeld (s : State) : List Caller :=
  s.sp.oper.map (fun e => Caller.operator (Fin.ofNat 32 e.1)) ++ s.sp.ten.map (fun e => Caller.tenant (Fin.ofNat 16 e.1))

/-- Step 2 of Table 5.4, and the states that end a run: every lane stops, pending sections are discarded, handshakes are
abandoned and sessions close (DEDUCED, notes/assumptions/25). -/
def stopTraffic (s : State) : State :=
  let s := (List.range 16).foldl (fun (s : State) n =>
    if s.hasSection 0o004 n then
      let s := s.cutFrame n
      let s := s.laneEnter n .off { s.lane n with holdUntil := none, trainingInDown := false }
      s.refuseLane n
    else s) s
  let runs := decide (s.image.applyState = 1 ∨ s.image.applyState = 2)
  let s := { s with image := { s.image with
      pending := [], applying := none, applyState := if runs then 0 else s.image.applyState }, stn := { s.stn with oldDir := [] } }
  let s := s.abandonHandshakes
  s.sessionsHeld.foldl (fun (s : State) c => s.closeSession c 4) s

/-- What the Causeway keeps over a reset of the host: what the Verge die and the Tollhouse still hold to send (DEDUCED,
notes/assumptions/21). -/
def keptChans (s : State) : Tab Chan :=
  let put := fun (t : Tab Chan) (w : Way) (c : MsgClass) (v : Chan) => tabPut {} t (3 * wayNo w + clsNo c) v
  let t := put (put [] .thDown .legal (s.chan .thDown .legal)) .thUp .legal (s.chan .thUp .legal)
  put (put t .up .station ((s.chan .up .station).fresh 0)) .up .legal ((s.chan .up .legal).fresh 0)

/-- The Trip Recorder over a reset of the host: a frozen journal is KEPT at a start of cause 0o1 or 0o3 (R501). RUN holds
its value (R499) (DEDUCED, notes/assumptions/21; DEDUCED, notes/assumptions/73). -/
def keptTrip (s : State) (cause : Nat) : TripUnit :=
  let t := (s.halt 4).trip
  match t.state with
  | .frozen | .kept =>
    if cause = 1 ∨ cause = 3 then
      { state := .kept, run := t.run, runState := t.runState, cause := t.cause, freezeEvent := t.freezeEvent, region := t.region,
        blockSeq := t.blockSeq, baseSeq := t.baseSeq, gaps := t.gaps }
    else { run := t.run }
  | _ => { run := t.run }

/-- The host section resets (R58, R59): what stays is the OTP, the SPI NOR, the pins and buttons, the Verge die, the
Tollhouse, and a journal that is kept (DEDUCED, notes/assumptions/19; DEDUCED, notes/assumptions/21). -/
def hostReset (s : State) (cause : Nat) : State :=
  { now := s.now, isN := s.isN, free := s.free, pins := s.pins, otp := s.otp, verge := s.verge, toll := s.toll
    nor := s.nor
    cus := { jmp := s.cus.jmp, btn := s.cus.btn, timing := s.cus.btn, jmpThroughout := s.cus.btn && s.cus.jmp }
    keys := { defective := s.keys.defective }
    cway := { chans := s.keptChans }
    trip := s.keptTrip cause
    sent := s.sent, notes := s.notes, pending := s.pending }

/-- Step 1 of a start (R60, R61, R62): the warning flags read 0 (Table 2.11), and the PUF array's power-up state is copied to
the holding buffer (DEDUCED, notes/assumptions/19). -/
def beginStart (s : State) (cause capture : Nat) : State :=
  { s with
    start := { begun := true, phase := 1, captures := 1, capture := some capture, cause := cause, t0 := s.now }
    pins := { s.pins with railWarn := 0 }
    alarm := { s.alarm with alertLow := true } }

/-- A restart of the host without a release of HOST_RST_N (R58). -/
def restart (s : State) (cause capture : Nat) : State := (s.hostReset cause).beginStart cause capture

end State

end Sys2Proof.Machine
end

