-- ==== Sys2Proof/Machine/Puf.lean ====
section
/-!
DEFINITION. The SRAM PUF (06_keys_and_entropy R132, R133): what enrolment writes as helper data, and the secret that a capture
gives with it. A power-up state of the array and the helper data are numbers of 4,608 bits, cell 0 first: helper word w is then
their word w of 256 (R11).
-/

namespace Sys2Proof.Machine

/-- The 255 cells of a block that are used, cell 0 the most significant (DEDUCED, notes/assumptions/81). -/
def pufBlock (v b : Nat) : Nat := v >>> (256 * (17 - b) + 1) % 2 ^ 255

/-- The reference value of each cell: the majority of three captures. -/
def pufMajority (a b c : Nat) : Nat := (a &&& b) ||| (a &&& c) ||| (b &&& c)

/-- Message `b` of eighteen held together, block 0 first. -/
def pufMessage (messages b : Nat) : Nat := messages >>> (71 * (17 - b)) % 2 ^ 71

/-- The helper data of reference values, for eighteen messages: each block XOR the codeword of its message; the place of cell
255 holds 0 (DESIGN CHOICE, notes/assumptions/81). -/
def helperData (reference messages : Nat) : Nat :=
  (List.range 18).foldl (fun v b =>
    v <<< 256 ||| (pufBlock reference b ^^^ Bch.puf.encode (pufMessage messages b)) <<< 1) 0

/-- The messages that a capture recovers, block 0 first; none when a block does not correct. -/
def pufMessages (capture helper : Nat) : Nat → Option Nat
  | 0 => some 0
  | n + 1 =>
    match pufMessages capture helper n, Bch.puf.correct (pufBlock capture n ^^^ pufBlock helper n) with
    | some m, some (w, _) => some (m <<< 71 ||| Bch.puf.message w)
    | _, _ => none

/-- The PUF secret: SHA-384 of the messages and two zero bits; none when the capture does not correct. -/
def pufSecret (capture helper : Nat) : Option Nat :=
  (pufMessages capture helper 18).map (fun m => sha384 (beBytes 160 (m <<< 2)))

end Sys2Proof.Machine
end

