-- ==== Sys2Proof/Machine/ImageLimits.lean ====
section
/-!
DEFINITION. Check 7 of R70 over a whole image (04_spango_image R96, Table 4.6): the limits of each section's owning chapter and the
rules between sections. Of a secret section that is not unwrapped only the stored form is
checked (R564), in Image.lean.
-/

namespace Sys2Proof.Machine

/-- The sections of an image. -/
abbrev Plan := List Section

namespace Plan

def find (p : Plan) (type inst : Nat) : Option Section := p.find? (fun c => c.type = type && c.inst = inst)

/-- The body of a section; empty without it. -/
def body (p : Plan) (type inst : Nat) : List Word := ((p.find type inst).map Section.body).getD []

/-- The instances of a type. -/
def insts (p : Plan) (type : Nat) : List Nat := (p.filter (fun c => c.type = type)).map Section.inst

/-! ## Lanes -/

/-- A LANE section's ROLE, MODE and MAX_FRAME; 0 without one. -/
def role (p : Plan) (n : Nat) : Nat := bw (p.body 0o004 n) 0 17 16
def mode (p : Plan) (n : Nat) : Nat := bw (p.body 0o004 n) 0 15 13
def maxFrame (p : Plan) (n : Nat) : Nat := bw (p.body 0o004 n) 3 13 0

/-- A lane is the lowest of its group and not off: it has a LANE section. -/
def leads (p : Plan) (n : Nat) : Bool := (p.find 0o004 n).isSome

/-- The role of a lane, of its group's section for the others of a group (R184). -/
def roleOf (p : Plan) (n : Nat) : Nat :=
  match firstBelow 16 (fun m => p.leads m && decide (m ≤ n ∧ n < m + modeWidth (p.mode m))) with
  | some m => p.role m
  | none => 0

/-- A role takes a MODE with a FEC (Table 8.1). -/
def modeOk (role mode fec : Nat) : Bool :=
  match mode with
  | 1 => fec = 0
  | 2 => fec ≤ 1
  | 3 | 4 => fec = 2
  | 5 => fec = 2 && role = 1
  | 6 => fec = 3 && role = 2
  | _ => false

/-- LANE (R204). -/
def limitsLane (p : Plan) (n : Nat) (b : List Word) : Bool :=
  let role := bw b 0 17 16
  let mode := bw b 0 15 13
  let w := modeWidth mode
  decide (b.length = 16) && decide (role = 1 ∨ role = 2) && modeOk role mode (bw b 0 12 11) &&
    decide (n % w = 0) && (List.range w).all (fun i => decide (i = 0) || !p.leads (n + i)) &&
    !(decide (bw b 0 10 10 = 1) && decide (mode = 6)) &&
    !(decide (role = 2) && decide (bw b 0 9 8 ≠ 0)) && decide (bw b 0 9 8 ≠ 3) && decide (bw b 0 7 0 = 0) &&
    decide (bw b 1 17 8 ≤ 1000 ∧ bw b 1 7 0 = 0) &&
    decide (1 ≤ bw b 2 17 12 ∧ 1 ≤ bw b 2 11 0 ∧ bw b 2 11 0 ≤ 3600) &&
    decide (bw b 3 17 14 = 0) &&
    decide ((if role = 2 then 96 else 64) ≤ bw b 3 13 0 ∧ bw b 3 13 0 ≤ (if role = 2 then 9248 else 9216)) &&
    decide (bw b 4 9 0 = 0 ∧ bw b 5 17 12 = 0 ∧ bw b 9 16 16 = 0) && zeroWords b 10 16

/-! ## Memory, journal, certificates -/

/-- MEMORY (R310). -/
def limitsMemory (b : List Word) : Bool :=
  decide (b.length = 64) &&
    (if memChannels b = [] then zeroWords b 0 64
     else
      decide (bw b 0 8 0 = 0 ∧ 1 ≤ bw b 0 13 9 ∧ bw b 0 13 9 ≤ 16 ∧ bw b 1 10 0 = 0 ∧ bw b 1 17 11 ≤ 64 ∧
        bw b 2 7 0 = 0 ∧ 1 ≤ bw b 2 17 8 ∧ bw b 2 17 8 ≤ 512) &&
      (List.range 16).all (fun t =>
        decide (bw b (3 + 2 * t) 6 0 = 0 ∧ bw b (3 + 2 * t) 17 7 ≤ 1024 ∧ bw b (4 + 2 * t) 7 0 = 0 ∧
          bw b (4 + 2 * t) 17 8 ≤ 512) &&
        decide (bw b (3 + 2 * t) 17 7 = 0 ↔ bw b (4 + 2 * t) 17 8 = 0)) &&
      zeroWords b 35 64 && decide (rootUsed b ≤ 512) &&
      treeOrder.all (fun r => decide (regionMib b r = 0) || (regionLevels b r).isSome) &&
      decide (256 ≤ openMib b ∧ metaBytes b ≤ 2 ^ 20 * openMib b))

/-- TRIP_RECORDER (R510). -/
def limitsTrip (mem b : List Word) : Bool :=
  decide (b.length = 32) && decide (bw b 0 17 16 ≤ 2 ∧ bw b 0 14 0 = 0) &&
    decide (1 ≤ bw b 1 17 6 ∧ bw b 1 17 6 ≤ 3600 ∧ bw b 1 5 0 = 0) &&
    decide (1 ≤ bw b 2 17 0 ∧ bw b 2 17 0 ≤ 60000 ∧ bw b 4 11 0 = 0) && zeroWords b 9 32 &&
    !(decide (bw b 0 17 16 = 1) && decide (bw mem 1 17 11 = 0))

/-- ZHEAC_CERTS (R285) (PRESUMED, notes/assumptions/23). -/
def limitsCerts (node : Nat) (nodeSet : Bool) (b : List Word) : Bool :=
  let n := b.length / 64
  let ent := fun i => wordsFrom b (64 * i) 64
  let valid := fun i => (wordAt (ent i) 0).toNat.testBit 17
  let nodes := ((List.range n).filter valid).map (fun i => bw (ent i) 0 15 0)
  decide (b.length % 64 = 0 ∧ b.length ≤ 65536) && decide nodes.Nodup &&
    !(nodeSet && nodes.contains node) &&
    (List.range n).all (fun i =>
      let e := ent i
      let k := wideOf (wordsFrom e 1 43)
      decide (bw e 0 16 16 = 0 ∧ bw e 1 17 12 = 0) && zeroWords e 44 64 &&
        (!valid i || (decide (k < 2 ^ 768) && p384.isPub k)))

/-! ## Tenants -/

/-- The fields of a TENANT_MAP body (Table 9.1). -/
def mFirst (b : List Word) : Nat := bw b 1 17 10
def mCount (b : List Word) : Nat := bw b 1 9 1
def mLanes (b : List Word) : Nat := bw b 2 15 0
def mMgmt (b : List Word) : Nat := bw b 3 11 0
/-- The valid data VLANs. -/
def mVlans (b : List Word) : List Nat :=
  (((List.range 16).filter (fun i => decide (bw b (8 + i) 17 17 = 1)))).map (fun i => bw b (8 + i) 11 0)

/-- Two ranges of `n` from `a` have no number in common. -/
def apart (a n c m : Nat) : Bool := decide (n = 0 ∨ m = 0 ∨ a + n ≤ c ∨ c + m ≤ a)

/-- A TENANT_MAP body alone (Table 9.1, R207). -/
def limitsMap (p : Plan) (b : List Word) : Bool :=
  decide (b.length = 64) && decide (bw b 0 14 0 = 0 ∧ bw b 1 0 0 = 0 ∧ bw b 2 17 16 = 0 ∧ bw b 3 17 12 = 0 ∧ bw b 4 13 0 = 0) &&
    decide (1 ≤ mCount b ∧ mCount b ≤ 256 ∧ mFirst b + mCount b ≤ 256) &&
    decide (1 ≤ mMgmt b ∧ mMgmt b ≤ 4094 ∧ bw b 5 17 12 = 0) &&
    (List.range 16).all (fun i => decide (bw b (8 + i) 16 12 = 0)) && (mVlans b).all (fun v => decide (v ≤ 4094)) &&
    decide (bw b 24 17 14 = 0 ∧ bw b 25 17 15 = 0 ∧ bw b 26 17 14 = 0 ∧ bw b 27 17 15 = 0) &&
    decide (bw b 24 13 0 + bw b 25 14 0 ≤ 16384 ∧ bw b 26 13 0 + bw b 27 14 0 ≤ 16384) &&
    decide (bw b 28 5 0 = 0 ∧ bw b 29 5 0 = 0) && zeroWords b 30 64 &&
    (mLanes b).testBit (bw b 4 17 14) && (maskList 16 (mLanes b)).all (fun n => decide (p.roleOf n = 1))

/-- What two TENANT_MAP bodies may not share (R207). -/
def mapsApart (b c : List Word) : Bool :=
  apart (mFirst b) (mCount b) (mFirst c) (mCount c) &&
    apart (bw b 24 13 0) (bw b 25 14 0) (bw c 24 13 0) (bw c 25 14 0) &&
    apart (bw b 26 13 0) (bw b 27 14 0) (bw c 26 13 0) (bw c 27 14 0) &&
    (decide (mLanes b &&& mLanes c = 0) ||
      ((mVlans b).all (fun v => !(mVlans c).contains v) && decide (mMgmt b ≠ mMgmt c) &&
        !(mVlans c).contains (mMgmt b) && !(mVlans b).contains (mMgmt c))) &&
    !(decide (bw b 0 17 17 = 1) && decide (bw c 0 17 17 = 1))

/-- TENANT_MAP over the image (R207, check 3 of Table 4.6). -/
def limitsMaps (p : Plan) : Bool :=
  let l := p.insts 0o013
  l.all (fun t =>
    let b := p.body 0o013 t
    p.limitsMap b && !(mVlans b).contains (mMgmt b) &&
      l.all (fun u => decide (u ≤ t) || mapsApart b (p.body 0o013 u)))

/-- The tenant that owns VP, by its map. -/
def vpMap (p : Plan) : List Word :=
  match (p.insts 0o013).find? (fun t => decide (bw (p.body 0o013 t) 0 17 17 = 1)) with
  | some t => p.body 0o013 t
  | none => []

/-- TENANT_KEYS (R562), of a plaintext of `plain` bytes. -/
def limitsKeys (p : Plan) (b : List Word) (plain : Nat) : Bool :=
  let n := plain / 32
  let all := wideOf b
  let key := fun t => all / 2 ^ (18 * b.length - 256 * (t + 1)) % 2 ^ 256
  decide (plain % 32 = 0 ∧ 1 ≤ n ∧ n ≤ 16) && decide (key (n - 1) ≠ 0) &&
    (List.range n).all (fun t => decide (key t = 0) || (p.find 0o013 t).isSome)

/-- EVENT_MODERATION (R227): the words of tenants without a TENANT_MAP are not checked. -/
def limitsModeration (p : Plan) (b : List Word) : Bool :=
  decide (b.length = 64) && (p.insts 0o013).all (fun t =>
    decide (1 ≤ bw b (4 * t) 17 12 ∧ bw b (4 * t) 17 12 ≤ 32 ∧ bw b (4 * t) 11 0 = 0 ∧
      10 ≤ bw b (4 * t + 2) 17 0 ∧ bw b (4 * t + 3) 16 0 = 0))

/-! ## Classifiers and queues -/

/-- Word `j` of queue `q` of a tenant (Table 10.8); 0 outside its QUEUES section. -/
def qWord (p : Plan) (t q j : Nat) : Nat := (wordAt (p.body 0o015 t) (8 * (q - 64 * mFirst (p.body 0o013 t)) + j)).toNat
def qValid (p : Plan) (t q : Nat) : Bool := (p.qWord t q 0).testBit 17
def qEgress (p : Plan) (t q : Nat) : Nat := bits (p.qWord t q 0) 16 12
def queues (p : Plan) (t : Nat) : List Nat :=
  let b := p.body 0o013 t
  (List.range (64 * mCount b)).map (fun i => 64 * mFirst b + i)

/-- The valid queues of a tenant. -/
def valids (p : Plan) (t : Nat) : List Nat := (p.queues t).filter (p.qValid t)

/-- The entries of a CLASSIFIER body. -/
def entries (b : List Word) : List (List Word) := (List.range (b.length / 16)).map (fun i => wordsFrom b (16 * i) 16)

/-- The entries of a tenant's classifier that are VALID. -/
def validEntries (p : Plan) (t : Nat) : List (List Word) :=
  (entries (p.body 0o014 t)).filter (fun e => (wordAt e 0).toNat.testBit 17)

/-- Lane of a transmit stream; none when its STREAM_TABLE entry is not VALID. -/
def txLane (p : Plan) (x : Nat) : Option Nat :=
  let e := entryIn (p.find 0o016 (x / 64)) 8 (x % 64)
  if e = [] then none else some (entLane e)

/-- The unused bits of a classifier entry, which bind every entry (Table 9.3, R563). -/
def entryUnused (e : List Word) : Bool :=
  decide (bw e 0 10 0 = 0 ∧ bw e 1 12 12 = 0 ∧ bw e 2 16 16 = 0 ∧ bw e 3 17 12 = 0) && zeroWords e 9 12 &&
    decide (bw e 12 17 14 = 0) && zeroWords e 14 16

/-- A VALID classifier entry of a tenant (R211, R254). -/
def entryOk (p : Plan) (t : Nat) (e : List Word) : Bool :=
  let m := p.body 0o013 t
  let port := bw e 0 15 11
  let q := bw e 12 13 0
  let sv := decide (bw e 13 14 14 = 1)
  let x := bw e 13 13 0
  let eg := p.qEgress t q
  decide (port ≤ 16 ∨ port = 31) && State.inRange (64 * mFirst m) (64 * mCount m) q && p.qValid t q &&
    (!sv || State.inRange (bw m 24 13 0) (bw m 25 14 0) x) && !(sv && decide (bw e 0 16 16 = 1)) &&
    !(decide (bw e 0 16 16 = 0) && decide (p.role eg = 2) && decide (eg < 16) && !sv) &&
    (!sv || (match p.txLane x with
      | some n => decide (n = eg)
      | none => true))

/-- CLASSIFIER (R211) (DEDUCED, notes/assumptions/22). -/
def limitsClassifier (p : Plan) (t : Nat) (b : List Word) : Bool :=
  decide (b.length = 65536) && (entries b).all entryUnused && (p.validEntries t).all (p.entryOk t)

/-- COMMIT, WEIGHT and CEIL of a tenant on a lane (Table 10.7); 0 without the section. -/
def commit (p : Plan) (t n : Nat) : Nat := bw (p.body 0o022 t) (2 * n) 17 0
def weight (p : Plan) (t n : Nat) : Nat := bw (p.body 0o022 t) (2 * n + 1) 17 10
def ceil (p : Plan) (t n : Nat) : Nat := bw (p.body 0o022 t) (2 * n + 1) 9 0

/-- A lane, or VP, is in a tenant's reach (R254). -/
def reach (p : Plan) (t eg : Nat) : Bool :=
  let m := p.body 0o013 t
  if eg = 16 then decide (bw m 0 17 17 = 1)
  else p.leads eg && (decide (p.role eg = 2) || (mLanes m).testBit eg)

/-- A valid queue (R254, R244, R245, R239, R525 rules 2 to 4). -/
def queueOk (p : Plan) (t q : Nat) : Bool :=
  let w := p.qWord t q
  let eg := p.qEgress t q
  let flow := (w 0).testBit 8
  let spill := (w 0).testBit 7
  decide (eg ≤ 16) && p.reach t eg && decide (1 ≤ bits (w 1) 17 10 ∧ w 2 ≤ 196096 ∧ w 3 ≤ 196096) &&
    (spill || decide (w 4 = 0)) && (flow || decide (w 5 = 0 ∧ w 6 = 0)) &&
    (!flow || (decide (w 5 + 128 ≤ w 2 + w 3 + (if spill then 256 * w 4 else 0)) && decide (w 6 < w 5) &&
      (p.validEntries t).all (fun e => !(decide (bw e 0 16 16 = 1) && decide (bw e 12 13 0 = q))))) &&
    (decide (eg = 16) || (decide (p.ceil t eg ≠ 0) && decide (p.commit t eg ≠ 0 ∨ p.weight t eg ≠ 0) &&
      (decide (p.commit t eg = 0) || decide ((p.maxFrame eg + 255) / 256 ≤ w 2))))

/-- QUEUES (R254). -/
def limitsQueues (p : Plan) (t : Nat) (b : List Word) : Bool :=
  decide (b.length = 512 * mCount (p.body 0o013 t)) &&
    (p.queues t).all (fun q => decide (bits (p.qWord t q 0) 6 0 = 0 ∧ bits (p.qWord t q 1) 9 0 = 0 ∧ p.qWord t q 7 = 0)) &&
    (p.valids t).all (p.queueOk t)

/-- TENANT_RATES of a tenant (R239, R253). -/
def limitsRates (p : Plan) (t : Nat) (b : List Word) : Bool :=
  decide (b.length = 32) && (List.range 16).all (fun n =>
    decide (p.commit t n ≤ 200000 ∧ p.ceil t n ≤ 1000) &&
      (if p.leads n then decide (1000 * p.commit t n ≤ p.ceil t n * modeRate (p.mode n))
       else decide (bw b (2 * n) 17 0 = 0 ∧ bw b (2 * n + 1) 17 0 = 0)))

/-- The commitments on a lane do not exceed U_n, and the reserves do not exceed the Lay-by (R239, check 5 of Table 4.6). -/
def commitsFit (p : Plan) : Bool :=
  (List.range 16).all (fun n =>
      decide (100 * ((p.insts 0o013).map (fun t => p.commit t n)).sum ≤ 99 * modeRate (p.mode n) ∨ !p.leads n)) &&
    decide (((p.insts 0o013).map (fun t => ((p.valids t).map (fun q => p.qWord t q 2)).sum)).sum ≤ 196096)

/-! ## Streams -/

/-- Whether a block of streams receives (R91), and the entry of a stream of it. -/
def streamEntry (p : Plan) (rx : Bool) (x : Nat) : List Word :=
  entryIn (p.find 0o016 ((if rx then 256 else 0) + x / 64)) 8 (x % 64)
def pinEntry (p : Plan) (rx : Bool) (x : Nat) : List Word :=
  entryIn (p.find 0o017 ((if rx then 256 else 0) + x / 64)) 32 (x % 64)

/-- A STREAM_TABLE entry: unused bits, and what binds a VALID one (Table 11.2, R262). -/
def streamOk (p : Plan) (rx : Bool) (e : List Word) : Bool :=
  decide (bw e 0 10 0 = 0) &&
    (if rx then decide (bw e 2 17 10 = 0) && zeroWords e 6 8 else zeroWords e 2 8) &&
    (!(wordAt e 0).toNat.testBit 17 ||
      (p.leads (entLane e) && decide (p.role (entLane e) = 2) &&
        (rx || (if entPinned e then decide (bw e 1 17 0 = 0)
                else decide (16 ≤ bw e 1 17 12 ∧ bw e 1 17 12 ≤ 62 ∧ 1 ≤ bw e 1 11 0)))))

/-- STREAM_TABLE (R262). -/
def limitsStreams (p : Plan) (inst : Nat) (b : List Word) : Bool :=
  decide (b.length = 512) && (List.range 64).all (fun i => p.streamOk (decide (256 ≤ inst)) (wordsFrom b (8 * i) 8))

/-- PINNED_KEYS as its plaintext: unused bits, and what binds a VALID entry (Table 11.6). -/
def pinOk (rx notice : Bool) (e : List Word) : Bool :=
  decide (bw e 0 14 0 = 0 ∧ bw e 1 17 4 = 0 ∧ bw e 16 17 6 = 0 ∧ bw e 22 17 14 = 0 ∧ bw e 24 17 10 = 0) && zeroWords e 28 32 &&
    (!(wordAt e 0).toNat.testBit 17 ||
      ((rx || decide (pinSsci e = 0)) &&
        (if rx && !notice then decide (1 ≤ pinInitLpn e) else decide (pinInitLpn e = 0))))

def limitsPins (p : Plan) (inst : Nat) (b : List Word) : Bool :=
  let rx := decide (256 ≤ inst)
  decide (b.length = 2048) && (List.range 64).all (fun i =>
    pinOk rx (entNotice (p.streamEntry rx (64 * (inst % 256) + i))) (wordsFrom b (32 * i) 32))

/-- The streams whose entries are VALID in a direction. -/
def streams (p : Plan) (rx : Bool) : List Nat :=
  ((p.insts 0o016).filter (fun b => decide (256 ≤ b) == rx)).flatMap (fun b =>
    ((List.range 64).map (fun i => 64 * (b % 256) + i)).filter (fun x => decide (p.streamEntry rx x ≠ [])))

/-- PINNED and PINNED_KEYS agree in both ways, no two receive streams of a lane share PEER_SCI (R262), and no two streams whose
SSCI the image fixes share it (check 4 of Table 4.6). In ANALYSIS no plaintext says which entries are VALID (R564). -/
def streamsAgree (p : Plan) (analysis : Bool) : Bool :=
  let tx := p.streams false
  let rx := p.streams true
  let pins := fun (d : Bool) =>
    ((p.insts 0o017).filter (fun b => decide (256 ≤ b) == d)).flatMap (fun b =>
      ((List.range 64).map (fun i => 64 * (b % 256) + i)).filter (fun x => decide (p.pinEntry d x ≠ [])))
  let agree := fun (d : Bool) (l : List Nat) =>
    l.all (fun x => !entPinned (p.streamEntry d x) ||
        ((p.find 0o017 ((if d then 256 else 0) + x / 64)).isSome && (analysis || decide (p.pinEntry d x ≠ [])))) &&
      (analysis || (pins d).all (fun x => entPinned (p.streamEntry d x)))
  let dev := p.body 0o001 0
  let peer := fun (n : Nat) => bw (p.body 0o004 n) 9 15 0
  let ssciTx := if bw dev 0 17 17 = 1 then tx.map (fun x => bw dev 0 15 0 * 2 ^ 16 + x) else []
  let ssciRx := rx.filterMap (fun x =>
    let e := p.streamEntry true x
    if entPinned e then (if analysis then none else some (pinSsci (p.pinEntry true x)))
    else if bw (p.body 0o004 (entLane e)) 9 17 17 = 1 then some (peer (entLane e) * 2 ^ 16 + entPeerSci e % 2 ^ 14)
    else none)
  agree false tx && agree true rx &&
    decide ((rx.map (fun x => (entLane (p.streamEntry true x), entPeerSci (p.streamEntry true x)))).Nodup) &&
    decide ((ssciTx ++ ssciRx).Nodup)

/-! ## Verge -/

/-- VERGE_PORT (R385, R359). -/
def limitsPort (inst : Nat) (b : List Word) : Bool :=
  let mode := bw b 0 17 16
  let div := bw b 1 17 2
  decide (b.length = 32) && decide (bw b 0 13 0 = 0 ∧ bw b 1 1 0 = 0 ∧ bw b 2 9 0 = 0 ∧ bw b 3 7 0 = 0) &&
    decide (2 ≤ bw b 2 17 10 ∧ 1 ≤ bw b 3 17 8) && zeroWords b 5 32 &&
    !(decide (mode = 3) && decide (inst < 8)) && !(decide (mode = 1 ∨ mode = 2) && decide (8 ≤ inst)) &&
    (decide (mode ≠ 2) || decide (div = 0)) &&
    (decide (mode ≠ 1 ∧ mode ≠ 3) || decide ((if inst < 8 then 339 else 39) ≤ div ∧ div ≤ 32553))

/-- EtherTypes that no client frame may carry here (R373, R453). -/
def etypeOk (e : Nat) : Bool := decide (0x0600 ≤ e) && !([0x8100, 0x88A8, 0x88E5, 0x88B5, 0x8808].contains e)

/-- STATION_DIRECTORY (R373). -/
def limitsDirectory (p : Plan) (b : List Word) : Bool :=
  let ent := fun i => wordsFrom b (8 * i) 8
  let n := b.length / 8
  let valid := fun i => (wordAt (ent i) 0).toNat.testBit 17
  let used := (List.range n).filter valid
  decide (b.length % 8 = 0) &&
    (List.range n).all (fun i =>
      let e := ent i
      decide (bw e 1 13 12 = 0 ∧ bw e 2 14 0 = 0 ∧ bw e 3 17 16 = 0 ∧ bw e 4 17 12 = 0 ∧ bw e 7 17 0 = 0) &&
        (!valid i || (decide (bw e 1 17 14 ≤ 9) && (p.find 0o020 (bw e 1 17 14)).isSome &&
          (mVlans p.vpMap).contains (bw e 1 11 0) && etypeOk (bw e 3 15 0)))) &&
    decide ((used.map (fun i => bw (ent i) 0 15 0)).Pairwise (fun a c => a < c))

/-! ## Progress -/

/-- TB of a tenant and an egress (R524). -/
def tb (p : Plan) (t n : Nat) : Nat :=
  let l := (p.valids t).filter (fun q => decide (p.qEgress t q = n))
  let c := p.commit t n
  if n = 16 ∨ c = 0 ∨ l = [] then 0
  else
    let cells := (l.map (fun q => p.qWord t q 2)).sum
    let over_ := if p.mode n = 6 then 32 else if p.role n = 2 then 52 else 20
    let mf := p.maxFrame n
    let ahead := cells * (256 + over_) + 3 * mf
    let r := modeRate (p.mode n)
    max 1000000 ((ahead * 8000 + c - 1) / c) + 2463 + (mf * 8000 + r - 1) / r

/-- Every TB of an image, for tenants with a map. -/
def tbs (p : Plan) : List Nat := (p.insts 0o013).flatMap (fun t => (List.range 17).map (p.tb t))

/-- PROGRESS (R530, R525): its own fields, and the TB and BOUND that R524 gives (DEDUCED, notes/assumptions/22). -/
def limitsProgress (p : Plan) (bound : Nat) (b : List Word) : Bool :=
  let l := p.tbs
  decide (b.length = 1024) && decide (64 ≤ bw b 0 17 6 ∧ bw b 0 5 0 = 0 ∧ bw b 1 3 0 = 0 ∧ bw b 2 3 0 = 0 ∧ bw b 3 3 0 = 0) &&
    decide (bw b 1 17 11 ≤ 48 ∧ bw b 1 10 4 ≤ 64 ∧ bw b 2 17 11 ≤ 64 ∧ bw b 2 10 4 ≤ 64) &&
    decide (1 ≤ bw b 3 17 4 ∧ bw b 3 17 4 ≤ 10000) && zeroWords b 4 32 && zeroWords b 576 1024 &&
    (List.range 16).all (fun t => (List.range 17).all (fun n =>
      decide (wideOf (wordsFrom b (32 + 34 * t + 2 * n) 2) = if (p.find 0o013 t).isSome then p.tb t n else 0))) &&
    decide (bound = l.foldl max 0) && l.all (fun v => decide (v = 0) || decide (8 * bw b 0 17 6 < 5 * v))

/-! ## The whole image -/

/-- The limits of one section; of a secret one they are on its plaintext, which ANALYSIS does not read (R564). -/
def sectionOk (p : Plan) (analysis : Bool) (bound : Nat) (c : Section) : Bool :=
  let b := c.body
  let plain := c.plain.getD 0
  let dev := p.body 0o001 0
  match c.type with
  | 0o001 => limitsDevice b
  | 0o002 | 0o010 => analysis || decide (plain = 32)
  | 0o003 => limitsJunction ((List.range 16).filter (fun n => decide (p.roleOf n ≠ 0))) b
  | 0o004 => p.limitsLane c.inst b
  | 0o005 => limitsMemory b
  | 0o006 => p.limitsProgress bound b
  | 0o007 => limitsCerts (bw dev 0 15 0) (decide (bw dev 0 17 17 = 1)) b
  | 0o011 => analysis || p.limitsKeys b plain
  | 0o012 => limitsTrip (p.body 0o005 0) b
  | 0o014 => p.limitsClassifier c.inst b
  | 0o015 => p.limitsQueues c.inst b
  | 0o016 => p.limitsStreams c.inst b
  | 0o017 => analysis || (decide (plain = 4608) && p.limitsPins c.inst b)
  | 0o020 => limitsPort c.inst b
  | 0o021 => p.limitsDirectory b
  | 0o022 => p.limitsRates c.inst b
  | 0o023 => decide (b.length % 376 = 0)
  | 0o024 => limitsAlarmPolicy b
  | 0o025 => p.limitsModeration b
  | _ => true

/-- Check 7 of R70 on what the sections hold (DEDUCED, notes/assumptions/22; DEDUCED, notes/assumptions/57). -/
def ok (p : Plan) (analysis : Bool) (bound : Nat) : Bool :=
  p.all (p.sectionOk analysis bound) && p.limitsMaps && p.commitsFit && p.streamsAgree analysis

/-- Plaintext sizes, padded to 8 bytes, that the owning chapter of a secret section allows (R564). -/
def plainSizes (type n : Nat) : Bool :=
  match type with
  | 0o002 => n = 32
  | 0o010 => n = 32
  | 0o011 => n % 32 = 0 && 32 ≤ n && n ≤ 512
  | 0o017 => n = 4608
  | _ => false

end Plan

end Sys2Proof.Machine
end

