-- ==== Sys2Proof/Machine/Verify.lean ====
section
/-!
DEFINITION. Verifying a slot (03_start_of_day R70, Table 3.3).
-/

namespace Sys2Proof.Machine

namespace State

/-- The header of a slot has passed its checks, so its N governs the rest of the read (R68, R70) and shows in NVM_DIV, until
another header passes them (DESIGN CHOICE, notes/assumptions/15). -/
def headerRead (s : State) (slot : Nat) (d : SlotRead) : Bool :=
  s.nor.usable && decide (slotEndMib slot ≤ s.nor.sizeMib) && d.reads 64 && headerPresent d.header &&
    decide (crc18 (d.header.take 63) = wordAt d.header 63) && headerFits s.identity d.header

/-- Checks 4 to 7 of R70 on the sections and the trailer of a slot. -/
def verifyRest (s : State) (d : SlotRead) (l : List RawSection) (t : List Word) : Nat × Option Image :=
  let st := s.cus.startState
  let analysis := decide (st = LcState.analysis)
  let z := imageSecret (s.lookup slotImageKey) d.header
  let i := imageOf analysis z d l
  if !signatureOk s.authHash d t then (4, none)
  else if i.rung < s.ladderValue .image then (5, none)
  else if !analysis && !unwrapsAll z l then (6, none)
  else if sectionsOk s.isN l && l.all (fun r => wrapFormOk (Plan.plainSizes r.type) r) && Plan.ok i.sections analysis i.bound then
    (1, some i)
  else (7, none)

/-- Verification of a slot: its code, and the image when it is accepted. In PROVISION without a fused authority hash every slot
takes 0o4 (R66). -/
def verifySlot (s : State) (slot : Nat) (readError : Option Nat) : Nat × Option Image :=
  let d := s.slotRead slot readError
  let h := d.header
  if s.cus.startState = LcState.provision && s.authHash.isNone then (4, none)
  else if !s.nor.usable || decide (s.nor.sizeMib < slotEndMib slot) then (2, none)
  else if !d.reads 64 then (3, none)
  else if !headerPresent h then (2, none)
  else if crc18 (h.take 63) ≠ wordAt h 63 then (3, none)
  else if !headerFits s.identity h then (7, none)
  else
    match slotSections d with
    | none => (3, none)
    | some (l, t) => s.verifyRest d l t

end State

end Sys2Proof.Machine
end

