-- ==== Sys2Proof/Machine/Custody.lean ====
section
/-!
DEFINITION. Custody (05_custody_and_life_cycle): the custody window, the custodian commands, the OTP writes they and
the lease ladder make, and the custody words.
-/

namespace Sys2Proof.Machine

namespace State

/-- WIN_MINUTES: 10 when no image runs (R112). -/
def winMinutes (s : State) : Nat := if s.hasSection 0o001 0 then bits (s.cfg 0o001 0 1) 17 13 else 10

/-- The window closes with a cause (R112, Table 5.9). -/
def closeWindow (s : State) (cause : Nat) : State :=
  if s.cus.win = WinState.opened then
    { s with cus := { s.cus with win := .closed, lastClose := cause } }.emitDev 0o010004
  else s

/-- A window whose time is up closes before anything else of the same cycle (Table 5.8). -/
def windowTick (s : State) : State := if s.cus.closeAt ≤ s.now then s.closeWindow 1 else s

/-! ## Results of a command -/

/-- A command is refused or ends refused (R118) (DEDUCED, notes/assumptions/26). -/
def cusRefused (s : State) (result : Nat) : State :=
  { s with cus := { s.cus with cmdResult := result, running := none } }.emitDev 0o011006

/-- The running command ends COMPLETED. -/
def cusCompleted (s : State) : State :=
  { s with cus := { s.cus with cmdResult := 1, running := none } }.emitDev 0o010005

/-- The running command ends OTP-FAIL, with 0o014011 and its ARG. -/
def cusOtpFail (s : State) (arg : Nat) : State :=
  { s with cus := { s.cus with cmdResult := 6, running := none } }.emitOwn 0o014011 0 0 arg

/-- STATUS that a CMD_RESULT names (R446). -/
def cusStatus (result : Nat) : Nat :=
  if result = 2 then stNoWindow else if result = 3 then stWrongState else if result = 4 then stPrecondition else stBusy

/-- A custodian command may be carried by this request: an operator session in FIELD and ANALYSIS, a request without a
session in BLANK, TEST and PROVISION (R113). -/
def cusCarrier (s : State) (c : Caller) : Bool :=
  match s.cus.startState with
  | .field | .analysis => isOperator c
  | .retired => false
  | _ => decide (c = Caller.plain)

/-- The device accepts no custodian command: in STRANDED and TRANSITION-HALT (R116), and after a transition (R121). -/
def cusDeaf (s : State) : Bool :=
  s.cus.halted || decide (s.start.outcome = StartOutcome.stranded) || decide (s.start.outcome = StartOutcome.transitionHalt)

/-- A custodian command up to its acceptance, refused in the order of R116. The spec names no code for a device that accepts no
command: it is WRONG-STATE (DESIGN CHOICE, notes/assumptions/26). -/
def custodian (s : State) (r : VerbCall) (cmd : Nat) (listed writes pre : Bool) (status : Nat) (go : State → State) : State :=
  s.serve r 0o11 (s.cusCarrier r.caller) none [] (fun s =>
    let s := { s with cus := { s.cus with cmdLast := cmd } }.windowTick
    let refuse := fun (k : Nat) =>
      ({ st := { s with cus := { s.cus with cmdResult := k } }.emitDev 0o011006, status := cusStatus k } : Served)
    if s.cus.win ≠ WinState.opened then refuse 2
    else if !listed || s.cusDeaf then refuse 3
    else if writes && s.cus.running.isSome then refuse 5
    else if !pre then refuse 4
    else { st := go s, status := status })

/-- A command that runs: CMD_RESULT RUNNING and what it waits for. -/
def cusRun (s : State) (cmd : Nat) (p : CusPhase) : State :=
  { s with cus := { s.cus with cmdResult := 7, running := some (cmd, p) } }

/-- A command that writes OTP runs; while a rung stands pending no OTP write is made before the next start (R122), and the
command ends at once, nothing changed (DESIGN CHOICE, notes/assumptions/26). -/
def cusRunOtp (s : State) (cmd : Nat) (p : CusPhase) : State :=
  if s.cus.otpStopped then (s.cusRun cmd p).cusOtpFail 0 else s.cusRun cmd p

/-- The running command waits for something else. -/
def cusNext (s : State) (p : CusPhase) : State :=
  match s.cus.running with
  | some (c, _) => { s with cus := { s.cus with running := some (c, p) } }
  | none => s

def inRunning (s : State) : Bool := decide (s.start.outcome = StartOutcome.running)

/-- Step 2 of Table 5.4, once the response has left (R446): lanes stop, pending sections are discarded, handshakes abandoned
and sessions closed; the register is being destroyed as a whole (DEDUCED, notes/assumptions/25). -/
def cusStopped (s : State) : State :=
  match s.cus.running with
  | some (_, .destroying) => s.stopTraffic
  | _ => s

end State

/-! ## The window -/

/-- CUST_BTN_PRESS (R108 to R110): after a press that opened the window, a press counts once the button had been released
for 100 ms (DEDUCED, notes/assumptions/27). -/
def execCustBtnPress (releasedMs : Nat) (s : State) : Host.Outcome State Fault Refusal :=
  act [.cus] s (fun s =>
    if s.cus.btn then s
    else
      let timed := s.cus.armed || decide (100 ≤ releasedMs)
      let arming := timed && s.cus.jmp && decide (s.cus.win = WinState.closed) &&
        decide (s.start.outcome ≠ StartOutcome.starting)
      { s with cus := { s.cus with
        btn := true, timing := timed, armed := timed, jmpThroughout := s.cus.jmp, pressAt := s.now,
        win := if arming then .arming else s.cus.win } })

/-- CUST_BTN_RELEASE: a release before the press reaches 2 s returns to CLOSED (Table 5.1). -/
def execCustBtnRelease (s : State) : Host.Outcome State Fault Refusal :=
  act [.cus] s (fun s => { s with cus := { s.cus with
    btn := false, timing := false, win := if s.cus.win = WinState.arming then .closed else s.cus.win } })

/-- CUST_JMP_INSTALLED (R108). -/
def execCustJmpInstalled (s : State) : Host.Outcome State Fault Refusal :=
  act [.cus] s (fun s => { s with cus := { s.cus with jmp := true } })

/-- CUST_JMP_REMOVED (R112): an open window closes. -/
def execCustJmpRemoved (s : State) : Host.Outcome State Fault Refusal :=
  act [.cus] s (fun s =>
    let s := s.closeWindow 2
    { s with cus := { s.cus with
      jmp := false, jmpThroughout := false, win := if s.cus.win = WinState.arming then .closed else s.cus.win } })

/-- A press is timed and reaches 2 s: the clock stands at that moment at the earliest, and a window whose time was up has closed. -/
def State.pressReached (s : State) : State := (s.upTo (s.cus.pressAt + secs 2)).windowTick

/-- OUTCOME leaves 0o0: a press held until then is timed from now (R82). -/
def State.startPress (s : State) : State :=
  if s.cus.btn && s.cus.timing then
    { s with cus := { s.cus with
      pressAt := s.now, jmpThroughout := s.cus.jmp,
      win := if s.cus.jmp && decide (s.cus.win = WinState.closed) then .arming else s.cus.win } }
  else s

/-- A press is being timed, as it is once OUTCOME has left 0o0 (R82). -/
def State.pressTimed (s : State) : Bool :=
  s.cus.btn && s.cus.timing && decide (s.start.outcome ≠ StartOutcome.starting)

/-- WINDOW_OPEN (R109, R111): a press held 2 s with the jumper installed throughout opens the window or restarts its timer. -/
def execWindowOpen (s : State) : Host.Outcome State Fault Refusal :=
  act [.now, .free, .cus, .tp] s (fun s =>
    if s.pressTimed && s.cus.jmp && s.cus.jmpThroughout then
      let s := s.pressReached
      let was := decide (s.cus.win = WinState.opened)
      { s with cus := { s.cus with
        win := .opened, timing := false, armed := false, closeAt := s.now + secs (60 * s.winMinutes),
        winCount := if was then s.cus.winCount else satInc 13 s.cus.winCount } }.emitDev 0o010003
    else s)

/-- NOJMP_PRESS (R111). -/
def execNojmpPress (s : State) : Host.Outcome State Fault Refusal :=
  act [.now, .free, .cus, .tp] s (fun s =>
    if s.pressTimed && !(s.cus.jmp && s.cus.jmpThroughout) then
      let s := s.pressReached
      { s with cus := { s.cus with timing := false, nojmp := satInc 18 s.cus.nojmp } }.emitDev 0o011012
    else s)

/-- WINDOW_TIMEOUT (R112). -/
def execWindowTimeout (s : State) : Host.Outcome State Fault Refusal :=
  act [.now, .free, .cus, .tp] s (fun s => if s.cus.win = WinState.opened then (s.upTo s.cus.closeAt).closeWindow 1 else s)

/-! ## The commands of Table 5.3 -/

/-- CLOSE_WINDOW: never refused with BUSY (R117). -/
def execCloseWindow (r : VerbCall) (s : State) : Host.Outcome State Fault Refusal :=
  act [.once, .image, .cus, .keys, .tenants, .tp, .sp] s (fun s => s.custodian r 0o01 (decide (s.cus.startState ≠ LcState.retired)) false true stDone
    (fun s =>
      let s := s.closeWindow 3
      { s with cus := { s.cus with cmdResult := 1 } }.emitDev 0o010005))

/-- The step-1 capture, with which an enrolment begins (R119). -/
def State.firstCapture (s : State) : List Nat := s.start.capture.toList

/-- ENROL (R119). -/
def execEnrol (r : VerbCall) (s : State) : Host.Outcome State Fault Refusal :=
  act [.once, .image, .cus, .keys, .tenants, .tp, .sp] s (fun s => s.custodian r 0o02 (decide (s.cus.startState = LcState.blank)) true
    (State.lowestBank (fun b => !s.helperUsed b)).isSome stAccepted
    (fun s =>
      match ([0, 1] : List Nat).filter (fun b => s.helperUsed b && !s.helperVoid b) with
      | [] => s.cusRunOtp 0o02 (.capturing s.firstCapture)
      | l => s.cusRunOtp 0o02 (.voiding l)))

/-- TO_PROVISION: rung 2. -/
def execToProvision (r : VerbCall) (s : State) : Host.Outcome State Fault Refusal :=
  act [.once, .image, .cus, .keys, .tenants, .tp, .sp] s (fun s => s.custodian r 0o03 (decide (s.cus.startState = LcState.test)) true true stAccepted
    (fun s => s.cusRunOtp 0o03 (.intent .lc 2)))

/-- FUSE_AUTHORITY (R120). -/
def execFuseAuthority (r : VerbCall) (hash : List Word) (s : State) : Host.Outcome State Fault Refusal :=
  act [.once, .image, .cus, .keys, .tenants, .tp, .sp] s (fun s => s.custodian r 0o04 (decide (s.cus.startState = LcState.provision)) true
    ((State.lowestBank s.authValid).isNone && (State.lowestBank (fun b => !s.authUsed b)).isSome) stAccepted
    (fun s => s.cusRunOtp 0o04 (.writingAuthority ((State.lowestBank (fun b => !s.authUsed b)).getD 0) hash)))

/-- TO_FIELD: rung 3, once a valid authority bank exists. -/
def execToField (r : VerbCall) (s : State) : Host.Outcome State Fault Refusal :=
  act [.once, .image, .cus, .keys, .tenants, .tp, .sp] s (fun s => s.custodian r 0o05 (decide (s.cus.startState = LcState.provision)) true
    (State.lowestBank s.authValid).isSome stAccepted (fun s => s.cusRunOtp 0o05 (.intent .lc 3)))

/-- TO_ANALYSIS: rung 4, after the register is destroyed (Table 5.4). -/
def execToAnalysis (r : VerbCall) (s : State) : Host.Outcome State Fault Refusal :=
  act [.free, .once, .image, .cus, .keys, .lanes, .tenants, .tp, .zheac, .stn, .sp, .way] s (fun s => s.custodian r 0o06 (decide (s.cus.startState = LcState.field) && s.inRunning) true true stAccepted
    (fun s => s.cusRunOtp 0o06 .destroying) |>.cusStopped)

/-- RETIRE: rung 5, from RUNNING after the register is destroyed (Table 5.4). -/
def execRetire (r : VerbCall) (s : State) : Host.Outcome State Fault Refusal :=
  act [.free, .once, .image, .cus, .keys, .lanes, .tenants, .tp, .zheac, .stn, .sp, .way] s (fun s => s.custodian r 0o07
    (match s.cus.startState with
      | .retired => false
      | .field | .analysis => s.inRunning
      | _ => true) true true stAccepted
    (fun s => s.cusRunOtp 0o07 (if s.inRunning then .destroying else .intent .lc 5)) |>.cusStopped)

/-- A FIELD or ANALYSIS device that is RUNNING. -/
def State.inService (s : State) : Bool :=
  (decide (s.cus.startState = LcState.field) || decide (s.cus.startState = LcState.analysis)) && s.inRunning

/-- RESTART_WITH_STAGED (R101): the staged slot is verified first. -/
def execRestartWithStaged (r : VerbCall) (readError : Option Nat) (s : State) : Host.Outcome State Fault Refusal :=
  act [.once, .image, .cus, .keys, .tenants, .tp, .sp] s (fun s => s.custodian r 0o10 s.inService true
    (decide (s.image.stagedState = 2) && s.image.staging.isNone) stAccepted
    (fun s =>
      let s := s.cusRun 0o10 .bootRecord
      if (s.verifySlot 3 readError).1 = 1 then s else s.cusRefused 4))

/-- The target of a commit is erased (R102), unless the SPI NOR refuses writes. -/
def State.eraseTarget (s : State) (target : Nat) : State :=
  if s.norRefuses then s else { s with nor := { s.nor with slots := tabPut [] s.nor.slots target [] } }

/-- A commit-staged to slot 1 (A) or 2 (B) (R102): refused unless the staged slot holds the running image. -/
def State.commitStaged (s : State) (r : VerbCall) (cmd target : Nat) : State :=
  s.custodian r cmd s.inService true
    (match s.image.running with
      | some i => decide (slotDigest (s.slotRead 3 none) = i.digest)
      | none => false) stAccepted
    (fun s => (s.eraseTarget target).cusRun cmd (.copying target))

/-- COMMIT_STAGED_TO_A. -/
def execCommitStagedToA (r : VerbCall) (s : State) : Host.Outcome State Fault Refusal :=
  act [.once, .nor, .image, .cus, .keys, .tenants, .tp, .sp] s (fun s => s.commitStaged r 0o11 1)

/-- COMMIT_STAGED_TO_B. -/
def execCommitStagedToB (r : VerbCall) (s : State) : Host.Outcome State Fault Refusal :=
  act [.once, .nor, .image, .cus, .keys, .tenants, .tp, .sp] s (fun s => s.commitStaged r 0o12 2)

/-- RAISE_IMAGE_RUNG (R126): writes rung n alone. -/
def execRaiseImageRung (r : VerbCall) (n : BitVec 6) (s : State) : Host.Outcome State Fault Refusal :=
  act [.once, .image, .cus, .keys, .tenants, .tp, .sp] s (fun s => s.custodian r 0o13 s.inService true
    (match s.image.running with
      | some i => decide (s.ladderValue .image < n.toNat ∧ n.toNat ≤ i.rung)
      | none => false) stAccepted
    (fun s => s.cusRunOtp 0o13 (.intent .image n.toNat)))

/-! ## What the commands wait for -/

/-- REGISTER_DESTROY_DONE (R146): every slot DESTROYED or FAULT, the root register cleared (R134); the transition goes on to
its intent pair. -/
def execRegisterDestroyDone (failing : List Nat) (s : State) : Host.Outcome State Fault Refusal :=
  act [.cus, .keys] s (fun s =>
    match s.cus.running with
    | some (cmd, .destroying) =>
      { s with keys := { s.keys with defective := s.keys.defective ++ failing } }.destroyAll.cusNext
        (.intent .lc (if cmd = 0o06 then 4 else 5))
    | _ => s)

/-- HELPER_BANK_VOIDED (R119, R121): the fuses of word 257 of a helper bank that are blown; the write verifies when all are. -/
def execHelperBankVoided (fuses : Word) (s : State) : Host.Outcome State Fault Refusal :=
  act [.cus, .otp] s (fun s =>
    match s.cus.running with
    | some (_, .voiding (b :: rest)) =>
      let s := s.blow (State.helperBase b + 257) fuses.toNat
      if fuses ≠ 0o777777 then s.cusOtpFail 0
      else s.cusNext (if rest.isEmpty then .capturing s.firstCapture else .voiding rest)
    | some (_, .voidingNew b) => (s.blow (State.helperBase b + 257) fuses.toNat).cusOtpFail 0
    | _ => s)

/-- The lowest unused helper bank. -/
def State.newBank (s : State) : Nat := (State.lowestBank (fun b => !s.helperUsed b)).getD 0

/-- The helper data of three captures, with their CRC-18 (R119, R132). -/
def helperWords (captures : List Nat) (messages : Nat) : List Word :=
  let data := wide 256 (helperData (pufMajority (nth captures 0) (nth captures 1) (nth captures 2)) messages)
  data ++ [crc18 data]

/-- ENROL_CAPTURE (R119): two captures after the step-1 capture, from whose majority the helper data are computed, and a fourth
that must correct under the new bank. -/
def execEnrolCapture (capture : PufState) (s : State) : Host.Outcome State Fault Refusal :=
  act [.free, .cus] s (fun s =>
    match s.cus.running with
    | some (_, .capturing l) =>
      let l := l ++ [capture.toNat]
      if l.length < 3 then s.cusNext (.capturing l)
      else { s with free := s.free + 1 }.cusNext (.writingHelper s.newBank (helperWords l (Config.enrolMessages s.free)))
    | some (_, .checking b) =>
      s.cusNext (if (pufSecret capture.toNat (s.helperBits b)).isSome then .intent .lc 1 else .voidingNew b)
    | _ => s)

/-- HELPER_BANK_WRITTEN (R119, R121). -/
def execHelperBankWritten (stop : Option OtpStop) (s : State) : Host.Outcome State Fault Refusal :=
  act [.cus, .otp] s (fun s =>
    match s.cus.running with
    | some (_, .writingHelper b words) =>
      let s := s.blowWords (State.helperBase b) (otpWritten words stop)
      if stop.isNone then s.cusNext (.checking b) else s.cusOtpFail 0
    | _ => s)

/-- AUTHORITY_BANK_WRITTEN (R120): the hash and its CRC-18. -/
def execAuthorityBankWritten (stop : Option OtpStop) (s : State) : Host.Outcome State Fault Refusal :=
  act [.cus, .otp] s (fun s =>
    match s.cus.running with
    | some (_, .writingAuthority b hash) =>
      let s := s.blowWords (State.authBase b) (otpWritten (hash ++ [crc18 hash]) stop)
      if stop.isNone then s.cusCompleted else s.cusOtpFail 0
    | _ => s)

/-- INTENT_PAIR_WRITTEN (R122): which fuses of the pair verified. -/
def execIntentPairWritten (a b : Bool) (s : State) : Host.Outcome State Fault Refusal :=
  act [.start, .cus, .otp] s (fun s =>
    match s.cus.running with
    | some (_, .intent l k) =>
      let s := s.blowRung l k (flag 3 a + flag 2 b)
      if a || b then
        let s := { s with cus := { s.cus with pend := some (l, k) } }.cusNext (.done l k)
        if l = Ladder.lc then s.emitDev 0o014007 else s
      else if l = Ladder.lc && s.inRunning then
        -- A device already stopped at step 2 of Table 5.4 stays in HELD until its restart (R122).
        ({ s with
          start := { s.start with outcome := .held }
          cus := { s.cus with halted := true } }.cusOtpFail 0).settleAlert
      else s.cusOtpFail 0
    | _ => s)

/-- DONE_PAIR_WRITTEN (R121, R122): which fuses of the pair verified. -/
def execDonePairWritten (a b : Bool) (s : State) : Host.Outcome State Fault Refusal :=
  act [.free, .once, .start, .image, .cus, .otp, .keys, .lanes, .tenants, .tp, .zheac, .stn, .sp, .way] s (fun s =>
    match s.cus.running with
    | some (cmd, .done l k) =>
      let s := s.blowRung l k (flag 1 a + flag 0 b)
      let ok := a && b
      if l = Ladder.lc then
        if ok then
          let s := { s with cus := { s.cus with pend := none } }.closeWindow 4
          let s := { s with
            start := { s.start with outcome := .held }
            cus := { s.cus with halted := true } }.stopTraffic
          s.cusCompleted.settleAlert
        else
          let s := { s with
            start := { s.start with outcome := .transitionHalt }
            cus := { s.cus with halted := true, cmdResult := 6, running := none } }.stopTraffic
          (s.emitDev 0o014002).settleAlert
      else if ok then
        let s := { s with cus := { s.cus with pend := none } }
        let s := if cmd = 0o11 ∨ cmd = 0o12 then s.emitDev 0o020010 else s
        s.cusCompleted
      else { s with cus := { s.cus with otpStopped := true } }.cusOtpFail 1
    | _ => s)

/-- A custodian command is writing OTP: the lease ladder waits for it (R127). -/
def State.cusWritesOtp (s : State) : Bool :=
  match s.cus.running with
  | some (_, .bootRecord) => false
  | some (_, .copying _) => false
  | some _ => true
  | none => false

/-- LEASE_LADDER_ADVANCE (R127, R122): which fuses of the intent and the done pair verified. At 8,191 the advance is refused;
otherwise it waits while no OTP write is made. -/
def execLeaseLadderAdvance (ia ib a b : Bool) (s : State) : Host.Outcome State Fault Refusal :=
  act [.cus, .otp, .tenants, .link, .stn] s (fun s =>
    match s.cus.advances with
    | [] => s
    | q :: rest =>
      let v := s.ladderValue .lease
      if s.cusWritesOtp then s
      else if v ≥ 8191 then
        let s := { s with cus := { s.cus with advances := rest } }.leaseDeniedTo q
        if s.cus.exhReported then s
        else { s with cus := { s.cus with exhReported := true } }.emitDev 0o013010
      else if s.cus.otpStopped then s
      else
        let s := { s with cus := { s.cus with advances := rest } }.blowRung .lease (v + 1) (flag 3 ia + flag 2 ib)
        if !ia && !ib then (s.leaseAgain q).emitOwn 0o014011 0 0 0
        else
          let s := s.blowRung .lease (v + 1) (flag 1 a + flag 0 b)
          if a && b then s.leaseGrantedTo q (v + 1)
          else
            { s with cus := { s.cus with otpStopped := true, pend := some (.lease, v + 1) } }.emitOwn 0o014011 0 0 1)

/-- BOOT_RECORD_WRITTEN (R101): the record with the request set, written and read back; then the restart. SEQ counts on from a
valid record, and from 1 over a blank or invalid one (DESIGN CHOICE, notes/assumptions/18). -/
def execBootRecordWritten (refused readsBack : Bool) (capture : PufState) (s : State) : Host.Outcome State Fault Refusal :=
  act [.once, .pins, .start, .nor, .image, .cus, .keys, .trng, .jun, .lanes, .tenants, .tp, .link, .zheac, .mem, .cway, .stn, .sp, .way, .promoted] s (fun s =>
    match s.cus.running with
    | some (_, .bootRecord) =>
      if refused || s.norRefuses then (s.emitDev 0o021013).cusRefused 4
      else
        let seq := match s.nor.boot with
          | some b => if bootValid b then (wordAt b 1).toNat + 1 else 1
          | none => 1
        if readsBack then
          let s := { s with nor := { s.nor with boot := some (bootRecord seq true) } }
          (s.emitDev 0o020012).cusCompleted.restart 3 capture.toNat
        else s.cusRefused 4
    | _ => s)

/-- COMMIT_COPY_DONE (R102): the staged slot stands in the target, but for bytes that the part did not take; the target is
verified, and its rung then advances the image ladder (DEDUCED, notes/assumptions/18). -/
def execCommitCopyDone (refused : Bool) (worn : List (Nat × Byte)) (readError : Option Nat) (s : State) :
    Host.Outcome State Fault Refusal :=
  act [.nor, .cus] s (fun s =>
    match s.cus.running with
    | some (_, .copying target) =>
      if refused || s.norRefuses then ((s.emitDev 0o021013).emitDev 0o021011).cusRefused 4
      else
        let s := s.copySlot 3 target (worn.map (fun e => (e.1, e.2.toNat)))
        match s.verifySlot target readError with
        | (1, some i) =>
          if i.rung ≤ s.ladderValue .image then (s.emitDev 0o020010).cusCompleted
          else if s.cus.otpStopped then s.cusOtpFail 0
          else s.cusNext (.intent .image i.rung)
        | _ => (s.emitDev 0o021011).cusRefused 4
    | _ => s)

/-! ## Words -/

/-- The custody words 0o001000 to 0o001777 (Table 5.9) (DEDUCED, notes/assumptions/26). -/
def readCustody (s : State) (a : Nat) : Nat :=
  let c := s.cus
  if a = 0o001000 then
    fld 17 15 s.lcState.code + fld 14 12 c.startState.code +
      fld 11 10 (match c.pend with
        | some (l, _) => l.code
        | none => 0)
  else if a = 0o001001 then
    fld 17 5 (match c.pend with
      | some (_, k) => k
      | none => 0)
  else if a = 0o001002 then
    let code := fun (b : Option Nat) => match b with
      | some k => k + 1
      | none => 0
    fld 17 12 (s.ladderValue .image) + fld 11 10 (code (State.lowestBank s.authValid)) + fld 9 8 (code (State.lowestBank s.helperValid))
  else if a = 0o001003 then
    fld 17 5 (s.ladderValue .lease) + flag 4 (decide (s.ladderValue .lease = 8191))
  else if a = 0o001004 then
    fld 17 16 c.win.code + flag 15 c.jmp + flag 14 c.btn + fld 13 11 c.lastClose +
      (if c.win = WinState.opened then fld 10 0 ((c.closeAt - s.now) / secs 1) else 0)
  else if a = 0o001005 then fld 17 13 s.winMinutes + fld 12 0 c.winCount
  else if a = 0o001006 then fld 17 12 c.cmdLast + fld 11 9 c.cmdResult
  else if a = 0o001007 then c.nojmp
  else 0

end Sys2Proof.Machine
end

