-- ==== Sys2Proof/Machine/SpOps.lean ====
section
/-!
DEFINITION. Signpost frames that reach the device (17_operator_access R428 to R438, R451): the paths, the message in a frame, and
what an OPEN, a REQUEST and a PLAIN_REQUEST do.
-/

namespace Sys2Proof.Machine

/-! ## Fields of a message, which begins with its header (Tables 17.1 and 17.2) -/

def spWord (m : List Nat) (i : Nat) : Nat := (wordAt (unpackWords (m.take 9)) i).toNat
def spKind (m : List Nat) : Nat := bits (spWord m 0) 11 6
def spGroups (m : List Nat) : Nat := bits (spWord m 1) 17 8
def spSeq (m : List Nat) : Nat := spWord m 2 * 2 ^ 18 + spWord m 3

/-- The header, and the body's bytes, as they are protected. -/
def spHead (m : List Nat) : List Nat := m.take 9
def spText (m : List Nat) : List Nat := (m.drop 9).take (9 * spGroups m)
def spTag (m : List Nat) : Nat := ofBytes ((m.drop (9 + 9 * spGroups m)).take 16)

/-- Words of a body's bytes. -/
def spBody (b : List Nat) : List Nat := (unpackWords b).map BitVec.toNat

/-- Bytes of a frame whose message has this header on a path: an OPEN and a REQUEST carry a TAG (R431, R432). -/
def spLength (tenant : Bool) (m : List Nat) : Nat :=
  if spKind m = 0o07 then plainFrame (4 * spGroups m) else sessionFrame tenant (4 * spGroups m)

/-- A message that a principal may send, on the path of a tenant or of the operator, in a frame of `len` bytes (R428, R431, Tables
17.2 and 17.3) (DEDUCED, notes/assumptions/63). -/
def spFormOk (p : Option Nat) (len : Nat) (m : List Nat) : Bool :=
  let kind := spKind m
  decide (bits (spWord m 0) 17 12 = 1 ∧ bits (spWord m 1) 7 0 = 0 ∧ spGroups m ≤ 163 ∧ len = spLength p.isSome m) &&
    (kind = 0o01 || kind = 0o03 || (kind = 0o07 && p.isNone)) && (decide (kind ≠ 0o01) || decide (spSeq m = 0)) &&
    (match p with
      | none => !(spWord m 0).testBit 5
      | some t => decide (bits (spWord m 0) 5 0 = 32 + t))

/-- The body of an OPEN: WORDS 16, and NP with its top 14 bits 0 (R432). -/
def openBodyOk (b : List Nat) : Bool :=
  decide (b.length = 16 ∧ b.headD 0 = 16 ∧ bits ((b[1]?).getD 0) 17 4 = 0)

/-- NP of an OPEN. -/
def openNonce (b : List Nat) : Nat := b.tail.foldl (fun a w => a * 2 ^ 18 + w) 0

namespace State

/-! ## The paths (R428, R429) -/

/-- The source filter of the DEVICE section lets a source pass. -/
def filterPasses (s : State) (source : Nat) : Bool :=
  let n := if s.imageRuns then bits (s.cfg 0o001 0 8) 17 15 else 0
  n = 0 || (List.range n).any (fun i =>
    s.cfg 0o001 0 (9 + 3 * i) * 2 ^ 36 + s.cfg 0o001 0 (10 + 3 * i) * 2 ^ 18 + s.cfg 0o001 0 (11 + 3 * i) = source)

/-- Plain requests are served (R78): from step 2c until step 8 ends, and in STRANDED, TRANSITION-HALT and HELD. -/
def plainMode (s : State) : Bool :=
  s.start.begun && decide (2 ≤ s.start.phase) && (!s.configuredYet || s.stopped)

def operSessions (s : State) : Nat := bits (s.cfg 0o001 0 7) 17 12

/-- Number of a path in the lists of failures and locks. -/
def pathNo : Option Nat → Nat
  | none => 0
  | some t => 1 + t

def pathCaller : Option Nat → Caller
  | none => .plain
  | some t => tenantCaller t

/-- Slot of the principal key of a path (R432). -/
def principalSlot : Option Nat → Nat
  | none => slotOperator
  | some t => slotTenantKey t

def countMalformed (s : State) : State :=
  { s with sp := { s.sp with malformed := satInc 18 s.sp.malformed } }.occur 35 0o002

def countMiss (s : State) : State :=
  { s with sp := { s.sp with sessionMiss := satInc 18 s.sp.sessionMiss } }.occur 35 0o002

def countOpenFail (s : State) : State := { s with sp := { s.sp with openFails := satInc 18 s.sp.openFails } }

/-- AUTH_FAILS and its events (R433, R435, R451). -/
def authFailed (s : State) (p : Option Nat) : State :=
  let c := pathCaller p
  let s := { s with sp := { s.sp with authFails := satInc 18 s.sp.authFails } }.occur 35 0o002
  let s := s.emitOnceKey (pathNo p) 0o161003 (pathKind c) (pathNumber c) (pathArg c)
  let l := s.sp.failTimes.filter (fun e => decide (s.now < e.2 + secs 1)) ++ [(pathNo p, s.now)]
  if 16 ≤ (l.filter (fun e => decide (e.1 = pathNo p))).length then
    { s with sp := { s.sp with
      failTimes := l.filter (fun e => decide (e.1 ≠ pathNo p))
      locks := (pathNo p, s.now + secs 10) :: s.sp.locks } }.emit 0o164004 (pathKind c) (pathNumber c) (pathArg c)
  else { s with sp := { s.sp with failTimes := l } }

/-- OPEN on a path is discarded (R451). -/
def locked (s : State) (p : Option Nat) : Bool := s.sp.locks.any (fun e => decide (e.1 = pathNo p ∧ s.now < e.2))

/-! ## OPEN (R432, R433) -/

/-- An OPEN_REPLY leaves under the principal key, for an OPEN with the nonce `np`. -/
def openReply (s : State) (p : Option Nat) (lane peer status session np nd : Nat) : State :=
  match s.lookup (principalSlot p) with
  | none => s
  | some value =>
    let body := (fld 11 6 status + fld 4 0 session) :: wideWords 15 np ++ wideWords 15 nd
    let m := spSign (slotKey value) 0o02 p.isSome (p.getD session) body
    let s := s.send (.openReply p peer status session)
    match p with
    | some t => s.queueMgmt lane (.whole { kind := 0, bytes := s.tenantFrame t lane peer m })
    | none => (s.send (.mport (s.mportFrame peer m))).frameOut 17 (sessionFrame false 31)

/-- An OPEN is refused: ND of the answer, for which no nonce is drawn, is a free value (DESIGN CHOICE, notes/assumptions/64). -/
def openFails (s : State) (p : Option Nat) (lane peer np status : Nat) : State :=
  ({ s with free := s.free + 1 }.countOpenFail).openReply p lane peer status 0 np (Config.freeNat s.free % 2 ^ 256)

/-- The operator's places that are free. -/
def operFree (s : State) : List Nat :=
  (List.range s.operSessions).filter (fun n => decide ((tabGet {} s.sp.oper n).state = SessState.idle))

/-- OPENs of the operator that wait for their nonce, and will take a place. -/
def operWaiting (s : State) : Nat :=
  (s.trng.waiting.filter (fun w => match w.1 with
    | .opening none _ _ _ => true
    | _ => false)).length

/-- The session key that an OPEN agrees (R433). -/
def sessionKey (principal np nd : Nat) (c : Caller) : Nat :=
  kdf384 (beBytes 32 principal) "KR1856-SIGNPOST"
    (beBytes 32 np ++ beBytes 32 nd ++ [(if callerTenant c then 0x20 else 0) + callerNumber c]) 256

/-- The destroy of a slot has ended: an install that has waited for it goes through. -/
def destroyEnded (s : State) (n : Nat) : State :=
  { s with keys := { s.keys with destroys := s.keys.destroys.filter (fun e => decide (e.1 ≠ n)) } }

/-- The nonce of an OPEN has come: the session key is derived and installed, and the session is OPENING for 1 s. A tenant's session
that it replaces closes first, and the install waits for the end of its slot's destroy (DEDUCED, notes/assumptions/82). -/
def openDone (s : State) (p : Option Nat) (lane peer np nd : Nat) : State :=
  let place := match p with
    | none => s.operFree.head?.map (fun n => Caller.operator (Fin.ofNat 32 n))
    | some t => some (tenantCaller t)
  match place, s.lookup (principalSlot p) with
  | some c, some value =>
    let s := (s.closeSession c 5).destroyEnded (sessSlot c)
    if !s.canInstall (sessSlot c) then s.openFails p lane peer np stBusy
    else
      let key := sessionKey (slotKey value) np nd c
      ((s.installKey (sessSlot c) (slotValue key)).setSession c
        { state := .opening, peer := peer, lane := lane, until_ := s.now + secs 1 }).openReply p lane peer stDone (callerNumber c) np nd
  | _, _ => s.openFails p lane peer np stBusy

/-- An OPEN (R433). -/
def takeOpen (s : State) (p : Option Nat) (lane peer : Nat) (m : List Nat) : State :=
  let body := spBody (spText m)
  let good := match s.lookup (principalSlot p) with
    | some value => decide (hmac384 (beBytes 32 (slotKey value)) (spHead m ++ spText m) / 2 ^ 256 = spTag m)
    | none => false
  if s.locked p then s.countOpenFail
  else if !good then s.authFailed p
  else if !openBodyOk body then s.countMalformed
  else
    let np := openNonce body
    if p.isNone && decide (s.operFree.length ≤ s.operWaiting) then s.openFails p lane peer np stBusy
    else match s.entropyAsk (.opening p lane peer np) with
      | (.granted nd, s) => s.openDone p lane peer np nd
      | (.waits, s) => s
      | (.fails, s) => s.openFails p lane peer np stEntropy

/-! ## Requests (R434 to R438) -/

/-- The session that a REQUEST names on its path. -/
def frameCaller (p : Option Nat) (m : List Nat) : Caller :=
  match p with
  | none => .operator (Fin.ofNat 32 (bits (spWord m 0) 4 0))
  | some t => tenantCaller t

/-- A session whose time has come closes before anything else that comes in the same cycle (Table 17.9). -/
def expireSession (s : State) (c : Caller) : State :=
  match s.session? c with
  | some v =>
    if v.until_ ≤ s.now then s.closeSession c (if v.state = SessState.opening then 0 else 2) else s
  | none => s

/-- A REQUEST is verified under its session's key, and keeps the session open (R434, R435). -/
def takeRequestFrame (s : State) (p : Option Nat) (m : List Nat) : State :=
  let c := frameCaller p m
  let s := s.expireSession c
  match s.session? c with
  | none => s
  | some v =>
    if v.state = SessState.idle then s.countMiss
    else
      let s := s.occur 32 0o001
      match s.lookup (sessSlot c) with
      | none => s.authFailed p
      | some value =>
        let iv := spIv 0x01 (spSeq m)
        if gcmTag (slotKey value) iv (spHead m) (spText m) ≠ spTag m then s.authFailed p
        else
          let s := if v.state = SessState.opened then s.setSession c { v with until_ := s.now + secs s.sessionIdle } else s
          s.handleRequest c (spSeq m) (spTag m) (spBody (gcmText (slotKey value) iv (spText m)))

/-- A plain request may carry a verb (R78, R113, R438): READ, and CUSTODIAN in BLANK, TEST and PROVISION. -/
def plainAllowed (s : State) (verb : Nat) : Bool :=
  s.plainMode && (verb = 0o01 || (verb = 0o11 &&
    (s.cus.startState = LcState.blank || s.cus.startState = LcState.test || s.cus.startState = LcState.provision)))

/-- A PLAIN_REQUEST (R438): the verb of one that is permitted is the next command without a session. -/
def takePlain (s : State) (peer : Nat) (m : List Nat) : State :=
  let body := spBody (spText m)
  let verb := bits (body.headD 0) 17 12
  let s := { s with sp := { s.sp with plainSeq := spSeq m, plainPeer := peer } }
  if !s.plainAllowed verb then (s.countNotPermitted .plain).respond .plain verb stNotPermitted []
  else if requestForm body then s
  else s.respond .plain verb stBadValue []

/-- A Signpost frame of a principal: the path it came on, and its bytes (R428 to R431). -/
def signpostFrame (s : State) (p : Option Nat) (lane : Nat) (f : List Nat) : State :=
  let m := f.drop (if p.isSome then 18 else 14)
  let peer := frameSa f
  if decide (64 ≤ s.framesWaiting) || !spFormOk p f.length m then s.countMalformed
  else if spKind m = 0o01 then s.takeOpen p lane peer m
  else if spKind m = 0o03 then s.takeRequestFrame p m
  else s.takePlain peer m

/-- A frame reaches the M-port (R428, R429): any that is not the operator's is discarded uncounted. -/
def mportRx (s : State) (f : List Nat) : State :=
  let da := frameDa f
  if s.start.mportUp && decide (64 ≤ f.length ∧ f.length ≤ 1518) && fcsGood f &&
      decide (pairAt f 12 = s.mportEtype) && (decide (da = s.mportMac) || decide (da = 0xFFFFFFFFFFFF)) &&
      s.filterPasses (frameSa f) then
    (s.frameIn 17 f.length).signpostFrame none 0 f
  else s

/-! ## Frames from a client lane (Table 8.6, R197, R208 to R212) -/

/-- The tenant of which a frame on client lane `n` is a management frame (R209). -/
def mgmtTenant (s : State) (n : Nat) (f : List Nat) : Option Nat :=
  match outerTag f with
  | some tci =>
    if pairAt f 16 = 0x88B6 then
      firstBelow 16 (fun t => s.imageRuns && s.configured t && (s.clientLanes t).testBit n && decide (s.mgmtVlan t = tci % 2 ^ 12))
    else none
  | none => none

/-- Content of the FRAME record of a client frame (Table 20.2). -/
def frameRecord (n : Nat) (f : List Nat) : List Nat :=
  [fld 17 13 n + flag 8 (outerTag f).isSome + fld 7 5 (framePcp f), fld 17 4 f.length] ++ wideWords 3 (frameDa f) ++
    [fld 17 6 (frameVlan f), fld 17 2 (frameType f)]

/-- A whole frame on client lane `n`: one that fails its FCS or is shorter than 64 bytes never becomes one; one longer than
MAX_FRAME is refused before classification; a MAC control frame is acted on or dropped; a tenant management frame goes to Signpost;
any other frame addressed to the lane's MAC, and a frame that selects no tenant, misses classification. -/
def clientFrame (s : State) (n : Nat) (f : List Nat) : State :=
  let v := s.lane n
  let good := fcsGood f
  let s := s.frameIn n f.length
  let s := if good then s.note (.rcd (10 + n) 0o02 (frameRecord n f)) else s
  if !good || decide (f.length < 64) then (s.setLane n { v with lineErr := satInc 18 v.lineErr }).occur n 0o003
  else if f.length > s.laneMaxFrame n then s.setLane n { v with oversize := satInc 18 v.oversize }
  else if pairAt f 12 = 0x8808 then s.macControl n f
  else if frameDa f = s.laneMac n then
    match s.mgmtTenant n f with
    | some t => (s.occur 24 0o003).signpostFrame (some t) n f
    | none => s.countNoTenant n (frameVlan f)
  else
    match s.selectTenant n (frameVlan f) with
    | none => s.countNoTenant n (frameVlan f)
    | some t => s.offer t n false (frameData f)

/-- A frame on a lane: while replaying, lanes carry nothing (R503). -/
def clientRx (s : State) (lane : Nat) (f : List Nat) : State :=
  match s.laneLead lane with
  | some n => if s.laneIsClient n && s.laneUpNow n && !s.replayMode then s.clientFrame n f else s
  | none => s

/-- A frame from a principal, on its path. -/
def principalRx (s : State) (lane : Option (Fin 16)) (bytes : List Byte) : State :=
  match lane with
  | some n => s.clientRx n (bytesOf bytes)
  | none => s.mportRx (bytesOf bytes)

end State

end Sys2Proof.Machine
end

