-- ==== Sys2Proof/Machine/Zheac.lean ====
section
/-!
DEFINITION. Zheac (12_zheac): the form of its messages, what each received one does, and the timers of a group.
-/

namespace Sys2Proof.Machine

/-! ## Messages (Tables 12.2 and 12.3) -/

def zType (w : List Word) : Nat := bits (wordAt w 0).toNat 11 6
def zSenderValid (w : List Word) : Bool := (wordAt w 1).toNat.testBit 17
def zSender (w : List Word) : Nat := bits (wordAt w 1).toNat 15 0
def zHsId (w : List Word) : Nat := (wordAt w 3).toNat
def zWords (w : List Word) : Nat := (wordAt w 4).toNat

/-- The first `n` words of a message, as numbers. -/
def zTake (w : List Word) (n : Nat) : List Nat := (wordsFrom w 0 n).map BitVec.toNat

/-- A stream list of `n` entries from word `p`. -/
def zList (w : List Word) (p n : Nat) : List ListEntry :=
  (wordsFrom w p n).map (fun e => ListEntry.mk (bits e.toNat 17 16) (bits e.toNat 13 0))

def zListOk (w : List Word) (p n : Nat) : Bool := (wordsFrom w p n).all (fun e => decide (bits e.toNat 15 14 = 0))

/-- A bitmap of `n` entries from word `p`: bit 17 of its first word stands for entry 0 (R289). -/
def zBitmap (w : List Word) (p n : Nat) : List Bool :=
  (List.range n).map (fun i => (wordAt w (p + i / 18)).toNat.testBit (17 - i % 18))

/-- The `k` words from word `p` are a bitmap of a list of `n` entries, unused bits 0; for a list that is not known they are at most
the words of the longest (DEDUCED, notes/assumptions/42). -/
def zBitmapOk (w : List Word) (p k : Nat) (n : Option Nat) : Bool :=
  match n with
  | some n => decide (k = State.bitmapWords n) &&
      (List.range (18 * k)).all (fun i => decide (i < n) || !(wordAt w (p + i / 18)).toNat.testBit (17 - i % 18))
  | none => decide (k ≤ State.bitmapWords 2048)

/-- COUNT and START of a HELLO or REPLY. -/
def zCount (w : List Word) : Nat := bits (wordAt w 5).toNat 11 0
def zStart (w : List Word) : Bool := (wordAt w 5).toNat.testBit 17

/-- The header of a message of `type` that takes `n` words (R288, R290). -/
def State.zHeadOk (s : State) (w : List Word) (type n : Nat) : Bool :=
  decide (bits (wordAt w 0).toNat 17 12 = 1 ∧ zType w = type ∧ bits (wordAt w 0).toNat 5 0 = 0) &&
    !(wordAt w 1).toNat.testBit 16 && !(wordAt w 2).toNat.testBit 16 &&
    decide (zWords w = n ∧ n ≤ w.length) &&
    (if type ≥ 6 then decide (zHsId w = 0) else ((wordAt w 2).toNat.testBit 17 &&
      (!s.nodeSet || decide (bits (wordAt w 2).toNat 15 0 = s.node))))

/-- b0, NONCE, EPH_PUB and list of a HELLO or REPLY. -/
def zBodyOk (w : List Word) : Bool :=
  decide (zCount w ≤ 2048 ∧ bits (wordAt w 5).toNat 16 12 = 0 ∧ bits (wordAt w 6).toNat 17 4 = 0 ∧
    bits (wordAt w 21).toNat 17 12 = 0) && zListOk w 64 (zCount w)

/-- A signature of 43 words from `p`: its top 6 bits are 0. -/
def zSigOk (w : List Word) (p : Nat) : Bool := decide (bits (wordAt w p).toNat 17 12 = 0)

def State.helloOk (s : State) (w : List Word) : Bool := s.zHeadOk w 1 (64 + zCount w) && zBodyOk w

/-- The bitmap words that WORDS leaves beside `n` others. -/
def zRest (w : List Word) (n : Nat) : Nat := zWords w - n

/-- A REPLY to a HELLO that listed `n` streams. -/
def State.replyOk (s : State) (w : List Word) (n : Option Nat) : Bool :=
  let p := 64 + zCount w
  let k := zRest w (p + 43)
  s.zHeadOk w 2 (p + k + 43) && zBodyOk w && zBitmapOk w p k n && zSigOk w (p + k)

/-- A FINISH for a REPLY that listed `n` streams. -/
def State.finishOk (s : State) (w : List Word) (n : Option Nat) : Bool :=
  let k := zRest w 48
  s.zHeadOk w 3 (48 + k) && zBitmapOk w 5 k n && zSigOk w (5 + k)

/-- An INSTALLED for a list of `n` streams. -/
def State.installedOk (s : State) (w : List Word) (n : Option Nat) : Bool :=
  let k := zRest w 5
  s.zHeadOk w 4 (5 + k) && zBitmapOk w 5 k n

/-- A REFUSE, whose REASON is one of Table 12.5. -/
def State.refuseOk (s : State) (w : List Word) : Bool :=
  s.zHeadOk w 5 6 && decide (bits (wordAt w 5).toNat 17 5 = 0 ∧ 1 ≤ (wordAt w 5).toNat ∧ (wordAt w 5).toNat ≤ 0o11)

/-- A lease message of a type (R289): packet number and challenge have their top 8 bits 0, the TAG its top 16. -/
def State.leaseOk (s : State) (w : List Word) (type : Nat) : Bool :=
  let n := if type = 7 then 22 else 18
  s.zHeadOk w type n && decide (bits (wordAt w 5).toNat 17 14 = 0 ∧ bits (wordAt w 6).toNat 17 10 = 0) &&
    (decide (type ≠ 7) || decide (bits (wordAt w 10).toNat 17 10 = 0)) && decide (bits (wordAt w (n - 8)).toNat 17 2 = 0)

/-- The number in `n` words from word `p`. -/
def zWideOf (w : List Word) (p n : Nat) : Nat := wideOf (wordsFrom w p n)

/-- The transmit stream a lease message names, its packet number or challenge at word 6. -/
def zStream (w : List Word) : Nat := bits (wordAt w 5).toNat 13 0
def zWide (w : List Word) (p : Nat) : Nat := wideOf (wordsFrom w p 4)

namespace State

/-- A message is discarded and counted (R290). -/
def zMalformed (s : State) : State := { s with zheac := { s.zheac with malformed := satInc 18 s.zheac.malformed } }

/-- A lane that takes Zheac frames: a trunk lane that is UP. -/
def zheacLane (s : State) (lane : Nat) : Option Nat :=
  match s.laneLead lane with
  | some n => if s.laneIsTrunk n && s.laneUpNow n && !s.replayMode then some n else none
  | none => none

/-- The group whose message came on lane `n`, with its handshake of an HS_ID. -/
def hsOf (s : State) (n hsId : Nat) : Option (Nat × Handshake) :=
  match s.groupOfLane n with
  | some g => match (s.zgroup g).hs with
    | some h => if h.hsId = hsId then some (g, h) else none
    | none => none
  | none => none

/-- EPH_PUB of a HELLO or REPLY, and its NONCE. -/
def zEphPub (w : List Word) : Nat := zWideOf w 21 43
def zNonce (w : List Word) : Nat := zWideOf w 6 15

/-- The first check of Table 12.5 that a HELLO fails. -/
def helloReason (s : State) (g : Nat) (w : List Word) : Option Nat :=
  if !s.nodeSet then some zrNoNode
  else if zSenderValid w && decide (zSender w = s.node) then some zrCollision
  else if !zSenderValid w || decide (some (zSender w) ≠ s.lanePeer g) then some zrWrongPeer
  else if (s.zgroup g).state = ZState.unusable then some zrIdentity
  else if !p384.isPub (zEphPub w) then some zrBadKey
  else none

/-- The responder answers a HELLO that passed its checks; `first` is the list of an abandoned own HELLO (R294). -/
def answerHello (s : State) (g n : Nat) (w : List Word) (first : List ListEntry) : State :=
  let start := zStart w
  let (s, l) := s.makeList g (start || (s.zgroup g).startOut) first
  let h : Handshake :=
    { initiator := false, hsId := zHsId w, number := s.zheac.handshakes + 1, urgent := s.rekeyDue l,
      myStart := (s.zgroup g).startOut, peerStart := start, mine := l, theirs := zList w 64 (zCount w), lane := n,
      peerNonce := zNonce w, peerEph := zEphPub w, peerNode := some (zSender w), hello := zTake w (zWords w) }
  let s := { s with zheac := { s.zheac with handshakes := s.zheac.handshakes + 1 } }
  let s := s.zEnter g .active
  (s.setGroup g { s.zgroup g with hs := some h, lastHsId := h.hsId }).wantEph g

/-- The received HELLO wins over the node's own unanswered one (R294). -/
def helloWins (s : State) (w : List Word) (h : Handshake) : Bool :=
  (zStart w && !h.myStart) || (decide (zStart w = h.myStart) && decide (zSender w < s.node))

/-- A HELLO came on lane `n` (R293, R294, R302) (DEDUCED, notes/assumptions/43). -/
def zheacHello (s : State) (n : Nat) (w : List Word) : State :=
  if !s.helloOk w then s.zMalformed
  else match s.groupOfLane n with
    | none => s
    | some g =>
      let s := if s.nodeSet && zSenderValid w && decide (zSender w = s.node) then s.emitOwn 0o114005 8 g s.node else s
      match s.helloReason g w with
      | some r => (s.zSecurity g r).sendRefuse g (zHsId w) (s.answerLane g n) r
      | none =>
        match (s.zgroup g).hs with
        | none => s.answerHello g n w []
        | some h =>
          if !h.initiator && decide (h.hsId = zHsId w) then
            -- A duplicate of the HELLO being answered gets the same REPLY, once there is one.
            (if h.message.isEmpty then s else s.sendReply g { h with lane := n })
          else if helloOpen h then
            (if s.helloWins w h then (s.supersede g true).answerHello g n w h.mine else s)
          else (s.supersede g false).answerHello g n w []

/-- A REPLY came (R293): check 5; the engine makes check 6. -/
def zheacReply (s : State) (n : Nat) (w : List Word) : State :=
  let found := (s.hsOf n (zHsId w)).filter (fun e => e.2.initiator && decide (e.2.phase = HsPhase.helloSent))
  if !s.replyOk w (found.map (fun e => e.2.mine.length)) then s.zMalformed
  else match found with
    | some (g, h) =>
      let c := zCount w
      let p := zWords w - 43
      let s := s.setHs g { h with
        peerStart := zStart w, theirs := zList w 64 c, acceptMine := zBitmap w (64 + c) h.mine.length, lane := n,
        phase := .verifying, peerNonce := zNonce w, peerEph := zEphPub w,
        peerNode := if zSenderValid w then some (zSender w) else none, reply := zTake w p, peerSig := zWideOf w p 43 }
      if p384.isPub (zEphPub w) then s.pkAsk g .verify else s.failHs g zrBadKey true false
    | none => s

/-- A FINISH came (R293): the engine makes check 6; one that comes again is answered by INSTALLED again. -/
def zheacFinish (s : State) (n : Nat) (w : List Word) : State :=
  let found := (s.hsOf n (zHsId w)).filter (fun e => !e.2.initiator)
  if !s.finishOk w (found.map (fun e => e.2.mine.length)) then s.zMalformed
  else match found with
    | some (g, h) =>
      let p := zWords w - 43
      if h.phase = HsPhase.replySent then
        (s.setHs g { h with
          acceptMine := zBitmap w 5 h.mine.length, lane := n, phase := .verifying, finish := zTake w p,
          peerNode := if zSenderValid w then some (zSender w) else none, peerSig := zWideOf w p 43 }).pkAsk g .verify
      else if h.phase = HsPhase.installedSent then s.sendInstalled g h.hsId n h.installed
      else s
    | none => s

/-- The handshake of an HS_ID that has ended last in the group of lane `n`: its group, the length of the own list and the bitmap
it answered with. -/
def doneOf (s : State) (n hsId : Nat) : Option (Nat × Nat × List Bool) :=
  (s.groupOfLane n).bind (fun g => (s.zgroup g).done.bind (fun d => if d.1 = hsId then some (g, d.2) else none))

/-- An INSTALLED came (R297, R299): transmit slots are installed, once the own keys are derived. -/
def zheacInstalled (s : State) (n : Nat) (w : List Word) : State :=
  let id := zHsId w
  let found := s.hsOf n id
  let ended := s.doneOf n id
  if !s.installedOk w ((found.map (fun e => e.2.mine.length)).orElse (fun _ => ended.map (fun e => e.2.1))) then s.zMalformed
  else match found, ended with
    | some (g, h), _ =>
      let b := zBitmap w 5 h.mine.length
      if h.initiator then
        if h.phase = HsPhase.finishSent && h.peerInstalled.isNone then
          let h := { h with peerInstalled := some b, lane := n }
          (if h.derived then s.endInitiator g h b else s.setHs g h)
        else s
      else if h.phase = HsPhase.installedSent then
        let (k, s) := s.installTxList h b
        s.succeedHs g h (k + countTrue h.installed)
      else s
    | none, some (g, _, m) => s.sendInstalled g id n m
    | none, none => s

/-- A REFUSE came (R293): it ends the handshake in flight whose HS_ID it carries. -/
def zheacRefuse (s : State) (n : Nat) (w : List Word) : State :=
  if !s.refuseOk w then s.zMalformed
  else match s.hsOf n (zHsId w) with
    | some (g, _) => s.failHs g (wordAt w 5).toNat false true
    | none => s

/-- A message that a command hands to its controller. -/
def zheacRx (s : State) (lane : Nat) (w : List Word) (f : State → Nat → List Word → State) : State :=
  match s.zheacLane lane with
  | some n => f (s.frameIn n (zheacLen w.length)) n w
  | none => s

end State

/-! ## Commands -/

/-- HELLO_RX (R293, R294, R302). -/
def execHelloRx (lane : Fin 16) (words : List Word) (s : State) : Host.Outcome State Fault Refusal :=
  act [.free, .once, .start, .image, .keys, .trng, .lanes, .tenants, .tp, .link, .zheac, .sp, .way] s (fun s =>
    s.zheacRx lane words State.zheacHello)

/-- REPLY_RX (R293). -/
def execReplyRx (lane : Fin 16) (words : List Word) (s : State) : Host.Outcome State Fault Refusal :=
  act [.free, .once, .start, .image, .keys, .trng, .lanes, .tenants, .tp, .zheac, .sp, .way] s (fun s =>
    s.zheacRx lane words State.zheacReply)

/-- FINISH_RX (R293). -/
def execFinishRx (lane : Fin 16) (words : List Word) (s : State) : Host.Outcome State Fault Refusal :=
  act [.image, .keys, .tenants, .tp, .zheac, .sp] s (fun s => s.zheacRx lane words State.zheacFinish)

/-- INSTALLED_RX (R297, R299). -/
def execInstalledRx (lane : Fin 16) (words : List Word) (s : State) : Host.Outcome State Fault Refusal :=
  act [.free, .once, .start, .image, .cus, .keys, .trng, .lanes, .tenants, .tp, .link, .zheac, .sp, .way] s (fun s =>
    s.zheacRx lane words State.zheacInstalled)

/-- REFUSE_RX (R293). -/
def execRefuseRx (lane : Fin 16) (words : List Word) (s : State) : Host.Outcome State Fault Refusal :=
  act [.free, .once, .start, .image, .keys, .trng, .lanes, .tenants, .tp, .zheac, .sp, .way] s (fun s =>
    s.zheacRx lane words State.zheacRefuse)

/-- HANDSHAKE_RETRANSMIT (R299): HELLO, FINISH or INSTALLED is sent up to 3 times, 20 ms apart. -/
def execHandshakeRetransmit (group : Fin 16) (s : State) : Host.Outcome State Fault Refusal :=
  act [.now, .free, .once, .start, .image, .keys, .trng, .lanes, .tenants, .tp, .zheac, .sp, .way] s (fun s =>
    let g := group.val
    match (s.zgroup g).hs with
    | some h =>
      let waits := h.phase = HsPhase.helloSent ∨ (h.phase = HsPhase.finishSent ∧ h.peerInstalled = none) ∨
        h.phase = HsPhase.installedSent
      if waits then
        let s := s.upTo (h.sentAt + ms 20)
        if h.sends ≥ 3 then s.failHs g zrTimeout false false
        else
          let h := { h with sends := h.sends + 1, sentAt := s.now }
          let s := s.setHs g h
          if h.phase = HsPhase.helloSent then s.sendHello g h
          else if h.phase = HsPhase.finishSent then s.sendFinish g h
          else s.sendInstalled g h.hsId h.lane h.installed
      else s
    | none => s)

/-- FINISH_WAIT_TIMEOUT (R299): 70 ms after the first REPLY. -/
def execFinishWaitTimeout (group : Fin 16) (s : State) : Host.Outcome State Fault Refusal :=
  act [.now, .free, .once, .start, .image, .keys, .trng, .lanes, .tenants, .tp, .zheac, .sp, .way] s (fun s =>
    match (s.zgroup group).hs with
    | some h =>
      if h.phase = HsPhase.replySent then (s.upTo (h.sentAt + ms 70)).failHs group zrTimeout false false else s
    | none => s)

/-- PK_OPERATION_DONE (R298): the running operation ends, and the next begins. -/
def execPkOperationDone (s : State) : Host.Outcome State Fault Refusal :=
  act [.free, .once, .start, .image, .keys, .trng, .lanes, .tenants, .tp, .zheac, .sp, .way] s (fun s =>
    match s.zheac.running with
    | some j => s.pkNext.pkEnded j
    | none => s)

/-- LINK_KEYS_DERIVED (R295): the derivation unit, which works in arrival order, has come to the keys of the group. The responder
installs the receive slots and sends INSTALLED; the initiator goes on once it has the peer's. -/
def execLinkKeysDerived (group : Fin 16) (s : State) : Host.Outcome State Fault Refusal :=
  act [.free, .once, .start, .image, .cus, .keys, .trng, .lanes, .tenants, .tp, .link, .zheac, .sp, .way] s (fun s =>
    let g := group.val
    match s.keys.derivations.head?, (s.zgroup g).hs with
    | some j, some h =>
      if j ≠ .link g then s
      else
        let s := { s with keys := { s.keys with derivations := s.keys.derivations.tail } }
        if h.initiator then
          let h := { h with derived := true }
          match h.peerInstalled with
          | some b => s.endInitiator g h b
          | none => s.setHs g h
        else
          let (m, s) := s.installRxList g h
          let h := { h with derived := true, installed := m, phase := .installedSent, sends := 1, sentAt := s.now }
          (s.setHs g h).sendInstalled g h.hsId h.lane m
    | _, _ => s)

/-- BACKOFF_EXPIRY (R300). -/
def execBackoffExpiry (group : Fin 16) (s : State) : Host.Outcome State Fault Refusal :=
  act [.now, .free, .once, .start, .image, .keys, .trng, .lanes, .tenants, .tp, .link, .zheac, .sp, .way] s (fun s =>
    if (s.zgroup group).state = ZState.backoff then (s.upTo (s.zgroup group).backoffUntil).initiate group else s)

/-- REKEY_DUE (R301): the time trigger of the stream of the group that reaches it first. -/
def execRekeyDue (group : Fin 16) (s : State) : Host.Outcome State Fault Refusal :=
  act [.now, .free, .once, .start, .image, .keys, .trng, .lanes, .tenants, .tp, .link, .zheac, .sp, .way] s (fun s =>
    let g := group.val
    let l := (s.zheacStreams g).filter (fun x => State.listable (s.txStream x) && s.txKeyed x)
    let times := l.map (fun x => (s.txStream x).keyedAt + secs (60 * entMin (s.txStream x).entry))
    match times.min? with
    | some t => (s.upTo t).checkDue g
    | none => s)

/-- SETTLE_EXPIRY (R302): ACTIVE with a stream to list or a START outstanding, KEYED otherwise. -/
def execSettleExpiry (group : Fin 16) (s : State) : Host.Outcome State Fault Refusal :=
  act [.now, .free, .once, .start, .image, .keys, .trng, .lanes, .tenants, .tp, .link, .zheac, .sp, .way] s (fun s =>
    if (s.zgroup group).state = ZState.settle then (s.upTo (s.zgroup group).settleUntil).initiate group else s)

/-! ## The Zheac table (Table 12.10) -/

/-- Word `i` of record `g`. -/
def zheacRecord (s : State) (g i : Nat) : Nat :=
  let z := s.zheac
  if g = 16 then
    match i with
    | 0 => z.malformed
    | 1 => z.tagFails
    | 2 => z.queries
    | 3 => z.notices
    | 4 => z.acks
    | 5 => fld 5 0 (z.queue.length + z.running.toList.length)
    | _ => 0
  else if g < 16 && s.isGroup g then
    let v := s.zgroup g
    match i with
    | 0 => v.word
    | 1 => flag 17 true + fld 15 0 ((s.lanePeer g).getD 0)
    | 2 => v.ok
    | 3 => v.failedCount
    | 4 => v.lastHsId
    | 5 => if v.state = ZState.backoff then sat 18 ((v.backoffUntil - s.now + ms 1 - 1) / ms 1) else 0
    | 6 => v.peerStarts
    | 7 => fld 12 0 v.lastCount
    | _ => 0
  else 0

end Sys2Proof.Machine
end

