-- ==== Sys2Proof/Machine/Sessions.lean ====
section
/-!
DEFINITION. Signpost frames, sessions and the verbs that act outside the host's registers (17_operator_access R428 to R441,
R444, R447, R448, R451; 12_zheac R307).
-/

namespace Sys2Proof.Machine

/-! ## Frames of principals (R428 to R438) -/

/-- SIGNPOST_OPEN (R433): a frame from a principal that carries an OPEN (DEDUCED, notes/assumptions/64). -/
def execSignpostOpen (lane : Option (Fin 16)) (bytes : List Byte) (s : State) : Host.Outcome State Fault Refusal :=
  act [.free, .once, .image, .keys, .trng, .lanes, .tenants, .tp, .cway, .sp, .way] s (fun s => s.principalRx lane bytes)

/-- REQUEST (R434 to R437): a frame from a principal that carries a REQUEST. -/
def execRequest (lane : Option (Fin 16)) (bytes : List Byte) (s : State) : Host.Outcome State Fault Refusal :=
  act [.free, .once, .image, .keys, .trng, .lanes, .tenants, .tp, .cway, .sp, .way] s (fun s => s.principalRx lane bytes)

/-- PLAIN_REQUEST (R438): a frame from a principal that carries a PLAIN_REQUEST. -/
def execPlainRequest (lane : Option (Fin 16)) (bytes : List Byte) (s : State) : Host.Outcome State Fault Refusal :=
  act [.free, .once, .image, .keys, .trng, .lanes, .tenants, .tp, .cway, .sp, .way] s (fun s => s.principalRx lane bytes)

/-- OPENING_TIMEOUT (R434) (DEDUCED, notes/assumptions/64). -/
def execOpeningTimeout (c : Caller) (s : State) : Host.Outcome State Fault Refusal :=
  act [.now, .free, .image, .keys, .tenants, .tp, .sp] s (fun s =>
    match s.session? c with
    | some v => if v.state = SessState.opening then (s.upTo v.until_).closeSession c 0 else s
    | none => s)

/-- SESSION_IDLE_TIMEOUT (R434). -/
def execSessionIdleTimeout (c : Caller) (s : State) : Host.Outcome State Fault Refusal :=
  act [.now, .free, .image, .keys, .tenants, .tp, .sp] s (fun s =>
    match s.session? c with
    | some v => if v.state = SessState.opened then (s.upTo v.until_).closeSession c 2 else s
    | none => s)

/-- AUTH_LOCK_EXPIRY (R451). -/
def execAuthLockExpiry (tenant : Option (Fin 16)) (s : State) : Host.Outcome State Fault Refusal :=
  act [.now, .free, .tp, .sp] s (fun s =>
    match s.sp.locks.find? (fun e => decide (e.1 = State.pathNo (tenant.map Fin.val))) with
    | some e => { s with sp := { s.sp with locks := s.sp.locks.erase e } }.upTo e.2
    | none => s)

/-- CLOSE (R434): the session closes after its response. -/
def execClose (r : VerbCall) (s : State) : Host.Outcome State Fault Refusal :=
  act [.once, .image, .keys, .tenants, .tp, .sp] s (fun s =>
    if s.callerOpen r.caller then
      let d := s.serveWith r (r.caller ≠ Caller.plain) none (fun s => { st := s, status := stDone })
      let s := (d.st.respond r.caller 0o21 d.status []).controlRecord r.caller 0o21 d.status []
      if d.status = stDone then s.closeSession r.caller 1 else s
    else { s with sp := { s.sp with sessionMiss := satInc 18 s.sp.sessionMiss } }.occur 35 0o002)

/-! ## Tollhouse and port commands (R444, R447) -/

/-- TH_COMMAND (R447): a0 and the command's arguments. The response waits for the TH_REPLY, at most 1 s. -/
def execThCommand (r : VerbCall) (args : List Word) (s : State) : Host.Outcome State Fault Refusal :=
  act [.once, .image, .keys, .tenants, .tp, .cway, .sp] s (fun s =>
    let ok := decide (1 ≤ args.length ∧ args.length ≤ 253) && bits (wordAt args 0).toNat 11 0 = 0
    match r.caller with
    | .operator n =>
      if s.callerOpen r.caller && ok && r.cond.isNone then
        let h := s.nextHostSeq
        let s := { s with sp := { s.sp with
          results := ((h, none) :: s.sp.results).take 16, thWaiting := s.sp.thWaiting ++ [(n.val, h, s.now + secs 1)] } }
        s.sendToTollhouse (fun h => .thCommand h args)
      else s.serve r 0o14 true none [] (fun s => { st := s, status := stBadValue })
    | _ => s.serve r 0o14 false none [] (fun s => { st := s, status := stBadValue }))

/-- TH_RESULT (R447) (DEDUCED, notes/assumptions/65). -/
def execThResult (r : VerbCall) (hostSeq : Word) (s : State) : Host.Outcome State Fault Refusal :=
  act [.once, .image, .keys, .tenants, .tp, .sp] s (fun s =>
    s.serve r 0o15 (State.isOperator r.caller) none [hostSeq.toNat] (fun s =>
      match s.sp.results.find? (fun (e : Nat × Option Nat) => decide (e.1 = hostSeq.toNat)) with
      | some (_, some x) => { st := s, status := stDone, words := [BitVec.ofNat 18 (fld 17 12 x)] }
      | some (_, none) => { st := s, status := stPending }
      | none => { st := s, status := stBadValue }))

/-- PORT_COMMAND (R364, R444): a condition names the port's word P and is compared by the Verge die; while the partner is
not UP or SINGLE it is STALE, and an unconditioned command WRONG-STATE (DEDUCED, notes/assumptions/65). -/
def execPortCommand (r : VerbCall) (a0 : Word) (s : State) : Host.Outcome State Fault Refusal :=
  act [.once, .image, .keys, .tenants, .tp, .cway, .sp] s (fun s =>
    let p := bits a0.toNat 17 14
    let action := bits a0.toNat 2 0
    let named := match r.cond with
      | some (a, _) => decide (a.toNat = 0o171000 + 0o100 * p)
      | none => true
    let good := named && decide (p ≤ 9) && bits a0.toNat 13 3 = 0 && decide (action = 1 ∨ action = 2)
    let answer := fun (s : State) (st : Nat) =>
      s.serve { r with cond := none } 0o20 (State.isOperator r.caller) none [a0.toNat] (fun s => { st := s, status := st })
    match r.caller with
    | .operator n =>
      if !s.callerOpen r.caller || !good then answer s stBadValue
      else if !s.linked then answer s (if r.cond.isSome then stStale else stWrongState)
      else
        ({ s with sp := { s.sp with
          portWaiting := s.sp.portWaiting ++ [(n.val, p, action + (if r.cond.isSome then 8 else 0))] } }).sendMsg .down .state
            (.portCmd p (r.cond.map (fun (c : Word × BitVec 5) => c.2.toNat)) action)
    | _ => answer s stBadValue)

/-! ## Tables and exports -/

/-- TABLE_READ (R307): table 0o11 holds 17 records of 8 words. -/
def execTableRead (r : VerbCall) (table first count : Word) (s : State) : Host.Outcome State Fault Refusal :=
  act [.once, .image, .keys, .tenants, .tp, .sp] s (fun s =>
    s.serve r 0o04 (State.isOperator r.caller) none [table.toNat, first.toNat, count.toNat] (fun s =>
      if table = 0o11 ∧ 1 ≤ count.toNat ∧ first.toNat + count.toNat ≤ 17 then
        { st := s, status := stDone
          words := (List.range (8 * count.toNat)).map (fun i =>
            BitVec.ofNat 18 (zheacRecord s (first.toNat + i / 8) (i % 8))) }
      else { st := s, status := stBadValue }))

/-- EXPORT of source 0o1 (R448): 1 to 14 reports from a number on (DEDUCED, notes/assumptions/74). -/
def execExportReports (r : VerbCall) (position : BitVec 36) (count : Word) (s : State) : Host.Outcome State Fault Refusal :=
  act [.once, .image, .keys, .tenants, .tp, .sp] s (fun s =>
    s.serve r 0o16 (State.isOperator r.caller) none ([1] ++ wideWords 2 position.toNat ++ [count.toNat]) (fun s =>
      let pos := position.toNat
      let l := s.cway.reports
      let oldest := s.cway.reportCount + 1 - l.length
      if !decide (1 ≤ count.toNat ∧ count.toNat ≤ 14) then { st := s, status := stBadValue }
      else
        let gap := decide (l.length ≠ 0 ∧ pos < oldest)
        let start := if gap then oldest else pos
        let out := (l.reverse.drop (start - oldest)).take (if start < oldest then 0 else count.toNat)
        { st := s, status := stDone
          words := wide 2 (start + out.length) ++ [BitVec.ofNat 18 (flag 17 gap)] ++
            out.flatMap (fun w => w.map (BitVec.ofNat 18) ++ [0, 0]) }))

/-! ## Words -/

/-- A session's words (Table 17.11). -/
def sessionWord (s : State) (v : Session) (i : Nat) : Nat :=
  if v.state = SessState.idle then 0
  else if i = 0 then
    fld 17 16 v.state.code + sat 16 (if v.state = SessState.opened then (v.until_ - s.now) / secs 1 else 0)
  else wideWord 3 v.peer (i - 1)

/-- The words 0o000001 to 0o000777 (Table 17.11). -/
def readSignpost (s : State) (a : Nat) : Nat :=
  let p := s.sp
  if a = 0o000001 then
    flag 17 s.start.mportUp + flag 16 s.plainMode +
      fld 15 10 ((p.oper.filter (fun e => decide (e.2.state = SessState.opened))).length)
  else if a = 0o000002 then maskOf 16 (fun t => decide ((tabGet {} p.ten t).state ≠ SessState.idle))
  else if a = 0o000003 then wideWord 2 p.unusedWrites 0
  else if a = 0o000004 then wideWord 2 p.unusedWrites 1
  else if a = 0o000005 then p.authFails
  else if a = 0o000006 then p.replayed
  else if a = 0o000007 then p.resent
  else if a = 0o000010 then p.malformed
  else if a = 0o000011 then p.notPermitted
  else if a = 0o000012 then p.openFails
  else if a = 0o000013 then p.sessionMiss
  else if 0o000020 ≤ a ∧ a ≤ 0o000022 then wideWord 3 s.mportMac (a - 0o000020)
  else if a = 0o000023 then s.mportEtype
  else if 0o000100 ≤ a ∧ a ≤ 0o000277 then sessionWord s (tabGet {} p.oper ((a - 0o000100) / 4)) ((a - 0o000100) % 4)
  else if 0o000300 ≤ a ∧ a ≤ 0o000377 then sessionWord s (tabGet {} p.ten ((a - 0o000300) / 4)) ((a - 0o000300) % 4)
  else if 0o000400 ≤ a ∧ a ≤ 0o000437 then s.cfg 0o001 0 (a - 0o000400)
  else 0

end Sys2Proof.Machine
end

