-- ==== Sys2Proof/Machine/Streams.lean ====
section
/-!
DEFINITION. The link cipher (11_link_cipher): protected frames received, rekeys, leases and lease messages, and the stream
and summary words.
-/

namespace Sys2Proof.Machine

namespace State

/-- Full packet number from its 32 low bits and the lowest acceptable one (R266): the high half is one more when the low
half has wrapped, which the top bits of the two low halves show (PRESUMED, IEEE 802.1AE-2018, notes/assumptions/41). -/
def recoverPn (lowest pn : Nat) : Nat :=
  let hi := lowest / 2 ^ 32
  (if lowest.testBit 31 && !pn.testBit 31 then hi + 1 else hi) * 2 ^ 32 + pn

/-- A NO-STREAM refusal on a trunk lane (Table 11.4, R278). -/
def noStream (s : State) (n : Nat) : State :=
  let c := s.laneCipher n
  (s.setLaneCipher n { c with noStream := satInc 36 c.noStream }).emitOnce 0o101003 5 n 0

/-- The receive stream of a lane and SCI. -/
def rxOf (s : State) (n sci : Nat) : Option Nat :=
  (s.link.rx.find? (fun e => entValid e.2.entry && decide (entLane e.2.entry = n ∧ entPeerSci e.2.entry = sci))).map Prod.fst

/-- A receive refusal after the stream is known: counted on the lane, on the stream and on the tenant's first queue (R266,
R247). -/
def rxRefuse (s : State) (n x code len : Nat) : State :=
  let c := s.laneCipher n
  let c :=
    if code = rcNoKey then { c with noKeyRx := satInc 36 c.noKeyRx }
    else if code = rcIcv then { c with icvFails := satInc 36 c.icvFails }
    else { c with replays := satInc 36 c.replays }
  let s := s.setLaneCipher n c
  let e := 16 + n / 2
  let s := if code = rcNoKey then s.occur e 0o005
    else (if code = rcIcv then s.occur e 0o003 else s.occur e 0o004).note (.slots true (n / 2) false (State.slotsOf len))
  let v := s.rxStream x
  let s := s.setRx x { v with bad := satInc 18 v.bad }
  match s.tenantOfRx x with
  | some t => s.refuseFirst t code
  | none => s

/-- A packet number is accepted (R267): NEXT_RX and LOWEST_PN advance; the first frame under a new AN destroys the old
slot (Table 11.5 step 6). -/
def rxAccept (s : State) (n x an pn : Nat) : State :=
  let v := s.rxStream x
  let p := rxPn v an
  let next := max p.nextRx (pn + 1)
  let low := max (p.lowest.getD 0) (next - entReplayWin v.entry)
  let s := s.setRx x { setRxPn v an { nextRx := next, lowest := some low } with frames := satInc 36 v.frames }
  let c := s.laneCipher n
  let s := (s.setLaneCipher n { c with verifiedRx := satInc 36 c.verifiedRx }).occur (16 + n / 2) 0o002
  let v := s.rxStream x
  if v.state = RxState.overlap && v.an = an then
    let s := (s.rxEnter x .running an v).destroyKey (slotRx x (an + 1))
    s.emit 0o100002 4 x an
  else s

/-- Content of the FRAME record of a trunk frame, whose SecTAG is read as it arrived (Table 20.2): AN, PN, the receive stream it
matched, and what the classifier makes of the frame it protects. -/
def trunkRecord (s : State) (n : Nat) (f : List Nat) : List Nat :=
  let d := frameData f
  let x := if pairAt d 12 = 0x88E5 then s.rxOf n (secSci d) else none
  let an := secTci d % 4
  let value := x.bind (fun x => s.lookup (slotRx x an))
  let low := x.bind (fun x => (rxPn (s.rxStream x) an).lowest)
  let opened := value.bind (fun value => secOpen value (recoverPn (low.getD 0) (secPn d)) d)
  let entry := x.bind (fun x => opened.bind (fun c => (s.tenantOfRx x).bind (fun t => s.classify t (keyOf n true c))))
  [fld 17 13 n + fld 12 11 1 + flag 10 (value.isSome && opened.isNone), fld 17 4 f.length,
    fld 17 16 an + flag 15 x.isSome + fld 13 0 (x.getD 0)] ++ wideWords 2 (secPn d) ++
    [fld 17 6 (entry.getD 0) + flag 5 entry.isNone, 0]

/-- What a trunk frame's tenant makes of it: `forced` is the classifier result that a replay takes from its record (R505). -/
def trunkOffer (s : State) (t n : Nat) (data : List Nat) (forced : Option (Option Nat)) : State :=
  match forced with
  | none => s.offer t n true data
  | some e => s.classified t n true data e

/-- A frame with the SecTAG EtherType meets the checks of Table 11.4 in order (R266, R267), then selects the tenant of its stream
(R210). -/
def secFrame (s : State) (n : Nat) (f : List Nat) (forced : Option (Option Nat)) : State :=
  let d := frameData f
  if secTci d / 4 * 4 ≠ 0x2C ∨ secSl d ≠ 0 then s.noStream n
  else
    match s.rxOf n (secSci d) with
    | none => s.noStream n
    | some x =>
      let an := secTci d % 4
      let s := (s.occur (16 + n / 2) 0o006).occur 32 0o001
      match s.lookup (slotRx x an), (rxPn (s.rxStream x) an).lowest with
      | none, _ => s.rxRefuse n x rcNoKey f.length
      | some _, none => s.rxRefuse n x rcReplay f.length
      | some value, some low =>
        let pn := recoverPn low (secPn d)
        match secOpen value pn d with
        | none => s.rxRefuse n x rcIcv f.length
        | some data =>
          if pn < low then s.rxRefuse n x rcReplay f.length
          else
            let s := (s.rxAccept n x an pn).note (.slots true (n / 2) true (slotsOf f.length))
            let s := { s with free := s.free + 1 }.occurs (16 + n / 2) 0o011 (Config.freeNat s.free) 1
            match s.tenantOfRx x with
            | none => s.countNoTenant n (frameVlan data)
            | some t => s.trunkOffer t n data forced

end State

/-! ## Lease messages (R276, R303) -/

/-- A lease message whose tag fails (R303). -/
def State.tagFails (s : State) (n : Nat) : State :=
  let g := (s.groupOfLane n).getD n
  { s with zheac := { s.zheac with tagFails := satInc 18 s.zheac.tagFails } }.emitOnceKey 0 0o111007 8 g n

/-- The TAG of a lease message of `n` words verifies under the key of a slot. -/
def State.tagOk (s : State) (slot n : Nat) (w : List Word) : Bool :=
  match s.lookup slot with
  | some value => decide (leaseTag value (zTake w (n - 8)) = zWideOf w (n - 8) 8)
  | none => false

/-- The transmit stream that a lease message of `n` words names on its lane: pinned, with its tag. -/
def State.leaseTx (s : State) (lane n : Nat) (w : List Word) : Option Nat :=
  let x := zStream w
  let v := s.txStream x
  if entValid v.entry && entPinned v.entry && decide (entLane v.entry = lane) && s.tagOk (slotTx x v.an) n w then some x
  else none

/-- The pinned receive stream of a lease notice on its lane: the one under whose key its tag verifies. -/
def State.leaseRx (s : State) (lane : Nat) (w : List Word) : Option Nat :=
  (s.link.rx.find? (fun e => entValid e.2.entry && entPinned e.2.entry &&
    decide (entLane e.2.entry = lane ∧ entPeerSci e.2.entry % 2 ^ 14 = zStream w) &&
    s.tagOk (slotRx e.1 e.2.an) 22 w)).map Prod.fst

namespace State

/-- A lease query came: a stream with NOTICE answers with NEXT_PN, or after the journal write while in LEASE-WAIT (R276, R303). -/
def leaseQuery (s : State) (n : Nat) (w : List Word) : State :=
  if !s.leaseOk w 6 then s.zMalformed
  else match s.leaseTx n 18 w with
    | none => s.tagFails n
    | some x =>
      let v := s.txStream x
      let c := zWide w 6
      if !s.notices v then s
      else if v.state = TxState.leaseWait && v.noticeUntil.isNone then s.setTx x { v with query := some c }
      else s.sendNotice x v.nextPn c

/-- A lease notice came: in NOTICE-WAIT it counts when it answers the stream's challenge, after that when it raises LOWEST_PN
(R276). -/
def leaseNotice (s : State) (n : Nat) (w : List Word) : State :=
  if !s.leaseOk w 7 then s.zMalformed
  else match s.leaseRx n w with
    | none => s.tagFails n
    | some x =>
      let v := s.rxStream x
      let pn := zWide w 6
      let wait := decide (v.state = RxState.noticeWait)
      let taken := if wait then decide (v.challenge = some (zWide w 10)) else
        (match (rxPn v v.an).lowest with
          | some l => decide (l < pn)
          | none => false)
      if entNotice v.entry && taken then
        let v := setRxPn v v.an { nextRx := pn, lowest := some pn }
        let s := if wait then s.rxEnter x .running v.an { v with challenge := none } else s.setRx x v
        s.sendLease n 8 (zStream w) (slotRx x v.an) pn 0
      else s

/-- An acknowledgement came: it ends the transmitter's wait for the notice that it names (R276). -/
def leaseAck (s : State) (n : Nat) (w : List Word) : State :=
  if !s.leaseOk w 8 then s.zMalformed
  else match s.leaseTx n 18 w with
    | none => s.tagFails n
    | some x =>
      let v := s.txStream x
      if v.noticeUntil.isSome && decide (zWide w 6 = v.nextPn) then s.noticeOver x else s

/-- A message of a Zheac frame goes to its controller by its TYPE; one of no type is malformed (R290, Table 12.3). -/
def zheacMessage (s : State) (n : Nat) (w : List Word) : State :=
  match zType w with
  | 1 => s.zheacHello n w
  | 2 => s.zheacReply n w
  | 3 => s.zheacFinish n w
  | 4 => s.zheacInstalled n w
  | 5 => s.zheacRefuse n w
  | 6 => s.leaseQuery n w
  | 7 => s.leaseNotice n w
  | 8 => s.leaseAck n w
  | _ => s.zMalformed

/-! ## Frames from a trunk lane (Table 8.6, R187) -/

/-- A frame on trunk lane `n` that its FCS and least size have passed: only Zheac frames and protected frames travel there. -/
def trunkFrame (s : State) (n : Nat) (f : List Nat) (forced : Option (Option Nat)) : State :=
  let e := pairAt f 12
  if e = 0x8808 then s.ctlDrop n
  else if f.length > s.laneMaxFrame n || (decide (e = 0x88E5) && decide (f.length < 96)) then
    s.setLane n { s.lane n with oversize := satInc 18 (s.lane n).oversize }
  else if e = 0x88B5 then s.zheacMessage n (unpackWords ((frameData f).drop 14))
  else if e = 0x88E5 then s.secFrame n f forced
  else s.noStream n

/-- A whole frame on trunk lane `n`: one that fails its FCS or is shorter than 64 bytes never becomes one. -/
def trunkRx (s : State) (n : Nat) (f : List Nat) : State :=
  let good := fcsGood f
  let s := s.frameIn n f.length
  let s := if good then s.note (.rcd (10 + n) 0o02 (s.trunkRecord n f)) else s
  if !good || decide (f.length < 64) then
    (s.setLane n { s.lane n with lineErr := satInc 18 (s.lane n).lineErr }).occur n 0o003
  else s.trunkFrame n f none

/-- A codeword on direct trunk `n` (R186 to R188): its errors count, a delineation error counts in DELIN_ERR, and the frames that it
completes are received while the lane is UP. -/
def codewordRx (s : State) (n levels : Nat) : State :=
  let r := (s.lane n).lineRx.codeword levels
  let s := s.setLane n { s.lane n with lineRx := r.rx }
  let s := if r.misplaced then
      (s.setLane n { s.lane n with delinErr := satInc 18 (s.lane n).delinErr }).occur n 0o011
    else s
  let s := r.frames.foldl (fun s f => if s.laneUpNow n then s.trunkRx n f else s) s
  s.lineErrors n (flag 0 r.corrected) (flag 0 r.failed) (!r.rx.buf.isEmpty)

end State

/-! ## Commands -/

/-- TRUNK_FRAME_RX (Table 8.6, R186 to R188, R266, R267, R210): a frame on an Ethernet trunk, or a codeword on a direct trunk. -/
def execTrunkFrameRx (lane : Fin 16) (f : TrunkRx) (s : State) : Host.Outcome State Fault Refusal :=
  act [.free, .once, .start, .image, .cus, .keys, .trng, .lanes, .tenants, .tp, .link, .zheac, .cway, .sp, .way] s (fun s =>
    match s.wireLane lane with
    | none => s
    | some n =>
      if !s.laneIsTrunk n then s
      else match f with
        | .frame b => if s.laneUpNow n && decide (s.laneMode n ≠ 6) then s.trunkRx n (bytesOf b) else s
        | .codeword levels =>
          if s.laneMode n = 6 && decide ((s.lane n).state ≠ LaneState.off ∧ (s.lane n).state ≠ LaneState.damped) then
            s.codewordRx n levels.toNat
          else s)

/-- OLD_TX_SLOT_DESTROY (Table 11.5 step 5). -/
def execOldTxSlotDestroy (stream : Fin 16384) (s : State) : Host.Outcome State Fault Refusal :=
  actUnit [.free, .once, .start, .keys, .lanes, .tenants, .tp, .link, .way] s (fun s =>
    let v := s.txStream stream
    match v.oldAn with
    | some a =>
      (s.setTx stream { v with oldAn := none }).destroyKey (slotTx stream a)
    | none => s)

/-- LEASE_JOURNAL_APPEND (R104, R272 to R274): the record of the oldest lease that waits is written, or refused (DEDUCED,
notes/assumptions/18). -/
def execLeaseJournalAppend (refused : Bool) (s : State) : Host.Outcome State Fault Refusal :=
  act [.nor, .image, .keys, .tenants, .tp, .link, .zheac, .sp] s (fun s =>
    match s.link.journal with
    | [] => s
    | (x, start) :: rest =>
      let s := { s with link := { s.link with journal := rest } }
      if refused || s.norRefuses then (s.emitDev 0o021013).denyLease x 3
      else
        let n := s.nor
        let keep := if n.appendRecord = 0 then n.journal.filter (fun r => decide (r.sector ≠ n.appendSector)) else n.journal
        let r : LeaseRec := { sector := n.appendSector, stream := x, first := start, last := start + 2 ^ 32 - 1,
                              ladder := s.ladderValue .lease }
        let wrap := decide (n.appendRecord + 1 = 151)
        let s := { s with nor := { n with
          journal := keep ++ [r]
          appendRecord := if wrap then 0 else n.appendRecord + 1
          appendSector := if wrap then (n.appendSector + 1) % s.journalSectors else n.appendSector } }
        s.leaseJournaled x start)

/-- NOTICE_ACK_TIMEOUT (R276): the transmitter goes on without the acknowledgement. -/
def execNoticeAckTimeout (stream : Fin 16384) (s : State) : Host.Outcome State Fault Refusal :=
  act [.now, .free, .tenants, .tp, .link] s (fun s =>
    let v := s.txStream stream
    match v.noticeUntil with
    | some t => ((s.upTo t).noticeOver stream).emit 0o101010 3 stream 0
    | none => s)

/-- Wait before the repeat `k` of a lease query (R276): 1 s, then the pacing of R300. -/
def queryWait (node k : Nat) : Nat :=
  if k = 0 then secs 1 else ms (min 32000 (500 * 2 ^ (k - 1)) + node % 256)

/-- NOTICE_WAIT_TIMEOUT (R276). -/
def execNoticeWaitTimeout (stream : Fin 16384) (s : State) : Host.Outcome State Fault Refusal :=
  act [.now, .free, .image, .keys, .trng, .tenants, .tp, .link, .zheac, .sp] s (fun s =>
    let v := s.rxStream stream
    if v.state = RxState.noticeWait then
      let s := s.upTo (v.queriedAt + queryWait s.node v.repeats)
      let s := s.setRx stream { v with queriedAt := s.now, repeats := v.repeats + 1 }
      let s := if v.repeats = 0 then s.emit 0o101011 4 stream 0 else s
      if s.entropyWaits (.challenge stream) then s else s.askChallenge stream
    else s)

/-- LEASE_QUERY_RX (R276, R303). -/
def execLeaseQueryRx (lane : Fin 16) (words : List Word) (s : State) : Host.Outcome State Fault Refusal :=
  act [.once, .image, .keys, .tenants, .tp, .link, .zheac, .sp] s (fun s => s.zheacRx lane words State.leaseQuery)

/-- LEASE_NOTICE_RX (R276, R303). -/
def execLeaseNoticeRx (lane : Fin 16) (words : List Word) (s : State) : Host.Outcome State Fault Refusal :=
  act [.once, .image, .keys, .tenants, .tp, .link, .zheac, .sp] s (fun s => s.zheacRx lane words State.leaseNotice)

/-- NOTICE_ACK_RX (R276, R303). -/
def execNoticeAckRx (lane : Fin 16) (words : List Word) (s : State) : Host.Outcome State Fault Refusal :=
  act [.once, .tenants, .link, .zheac] s (fun s => s.zheacRx lane words State.leaseAck)

/-! ## Words -/

/-- The stream words 0o400000 to 0o777777 (Table 11.10). -/
def readStreams (s : State) (a : Nat) : Nat :=
  let x := (a - 0o400000) / 8
  let v := s.txStream x
  let r := s.rxStream x
  match a % 8 with
  | 0 => fld 17 15 v.state.code + fld 14 13 v.an + flag 12 (entPinned v.entry) + fld 11 7 v.gen
  | 1 => wideWord 2 v.frames 0
  | 2 => wideWord 2 v.frames 1
  | 3 => v.rekeys
  | 4 => fld 17 15 r.state.code + fld 14 13 r.an + flag 12 (entPinned r.entry) + fld 11 7 r.gen
  | 5 => wideWord 2 r.frames 0
  | 6 => wideWord 2 r.frames 1
  | _ => r.bad

/-- SSCI of the newest slot of the selected stream (R259, R271, R275); 0 while the slot holds no key. -/
def ssciOf (s : State) (rx : Bool) (x : Nat) : Nat :=
  if rx then
    let v := s.rxStream x
    if !s.keyValid (slotRx x v.an) then 0
    else if entPinned v.entry && !s.analysis then pinSsci v.pin
    else s.rxSsci x
  else if s.txKeyed x then s.txSsci x else 0

/-- Own SCI of a transmit stream (R259), PEER_SCI of a receive stream. -/
def sciOf (s : State) (rx : Bool) (x : Nat) : Nat :=
  if rx then entPeerSci (s.rxStream x).entry
  else if entValid (s.txStream x).entry then s.txSci x else 0

/-- PN_A and PN_B (Table 11.11). -/
def pnA (s : State) (rx : Bool) (x : Nat) : Nat :=
  if rx then let v := s.rxStream x
    ((State.rxPn v v.an).lowest).getD 0
  else (s.txStream x).nextPn

def pnB (s : State) (rx : Bool) (x : Nat) : Nat :=
  if rx then let v := s.rxStream x
    ((State.rxPn v (v.an + 1)).lowest).getD 0
  else (s.txStream x).leaseEnd

/-- How many transmit and receive streams satisfy a test. -/
def countTx (s : State) (p : TxStream → Bool) : Nat := sat 18 ((s.link.tx.filter (fun e => p e.2)).length)
def countRx (s : State) (p : RxStream → Bool) : Nat := sat 18 ((s.link.rx.filter (fun e => p e.2)).length)

/-- The link cipher words 0o150000 to 0o157777 (Table 11.11). -/
def readLink (s : State) (a : Nat) : Nat :=
  let l := s.link
  let rx := l.dirRx
  let x := l.streamSel
  if 0o150000 ≤ a ∧ a < 0o150400 then
    let c := s.laneCipher ((a - 0o150000) / 16)
    let i := a % 16
    let v := match i / 2 with
      | 0 => c.noStream
      | 1 => c.icvFails
      | 2 => c.replays
      | 3 => c.noKeyRx
      | 4 => c.protectedTx
      | 5 => c.verifiedRx
      | _ => 0
    wideWord 2 v (i % 2)
  else if a = 0o151000 then countTx s (fun v => v.state = TxState.running || v.state = TxState.stuck)
  else if a = 0o151001 then
    countRx s (fun v => v.state = RxState.running || v.state = RxState.overlap || v.state = RxState.stuck)
  else if a = 0o151002 ∨ a = 0o151003 then wideWord 2 l.rekeysTotal (a - 0o151002)
  else if a = 0o151004 then
    sat 18 (countTx s (fun v => v.state = TxState.stuck) + countRx s (fun v => v.state = RxState.stuck))
  else if a = 0o151005 then countTx s (fun v => v.state = TxState.exhausted)
  else if a = 0o151006 then flag 17 s.nodeSet + fld 15 0 s.node
  else if a = 0o151010 then fld 17 5 l.leaseBand
  else if a = 0o151011 then l.leasesTaken
  else if a = 0o151012 then l.journalIgnored
  else if a = 0o151013 then countTx s (fun v => v.state = TxState.leaseWait)
  else if a = 0o152000 then flag 17 rx + fld 13 0 x
  else if 0o152001 ≤ a ∧ a ≤ 0o152004 then wideWord 4 (pnA s rx x) (a - 0o152001)
  else if 0o152005 ≤ a ∧ a ≤ 0o152010 then wideWord 4 (pnB s rx x) (a - 0o152005)
  else if 0o152011 ≤ a ∧ a ≤ 0o152012 then wideWord 2 (ssciOf s rx x) (a - 0o152011)
  else if 0o152013 ≤ a ∧ a ≤ 0o152016 then wideWord 4 (sciOf s rx x) (a - 0o152013)
  else 0

end Sys2Proof.Machine
end

