-- ==== Sys2Proof/Machine/Tenants.lean ====
section
/-!
DEFINITION. Tenants (09_tenants): frames from client lanes, resets, event rings and notifications, and the windows.
-/

namespace Sys2Proof.Machine

/-! ## Frames from a client lane -/

/-- CLIENT_FRAME_RX (Table 8.6, R197, R208 to R212). -/
def execClientFrameRx (lane : Fin 16) (bytes : List Byte) (s : State) : Host.Outcome State Fault Refusal :=
  act [.free, .once, .image, .keys, .trng, .lanes, .tenants, .tp, .cway, .sp, .way] s (fun s => s.clientRx lane (bytesOf bytes))

/-! ## Degraded -/

/-- DEGRADED_EXPIRY (R215). -/
def execDegradedExpiry (tenant : Fin 16) (s : State) : Host.Outcome State Fault Refusal :=
  actUnit [.now, .free, .tenants, .tp] s (fun s =>
    let v := s.tenant tenant
    if v.state = TenState.degraded then
      ((s.upTo (v.degAt + secs 1)).tenEnter tenant .healthy { v with degCause := 0 }).emit 0o060001 1 tenant 0
    else s)

/-! ## Resets -/

/-- Address of a tenant's generation-bearing word. -/
def tenantWindow (t : Nat) : Nat := 0o020000 + 0o1000 * t

/-- TENANT_RESET (R217): the tenant's principal for itself, or the operator. -/
def execTenantReset (r : VerbCall) (tenant : Fin 16) (s : State) : Host.Outcome State Fault Refusal :=
  act [.free, .once, .image, .keys, .lanes, .tenants, .tp, .sp, .way] s (fun s =>
    let allowed := match r.caller with
      | .operator _ => true
      | .tenant t => decide (t = tenant)
      | .plain => false
    s.serve r 0o12 allowed (some (tenantWindow tenant, (s.tenant tenant).gen)) [tenant.val] (fun s =>
      if !s.configured tenant then { st := s, status := stWrongState }
      else match (s.tenant tenant).state with
        | .fenced => { st := s, status := stFenced }
        | .resetting => s.resetAgain tenant (State.isOperator r.caller)
        | _ => { st := s.startReset tenant (if State.isOperator r.caller then 2 else 1), status := stDone }))

/-- UNFENCE (R222): operator only; a tenant fenced by R317 recovers only at the next start. -/
def execUnfence (r : VerbCall) (tenant : Fin 16) (s : State) : Host.Outcome State Fault Refusal :=
  act [.free, .once, .image, .keys, .lanes, .tenants, .tp, .sp, .way] s (fun s =>
    s.serve r 0o13 (State.isOperator r.caller) (some (tenantWindow tenant, (s.tenant tenant).gen)) [tenant.val] (fun s =>
      let v := s.tenant tenant
      if !s.configured tenant || decide (v.state ≠ TenState.fenced) then { st := s, status := stWrongState }
      else if v.fencedForStart then { st := s, status := stPrecondition }
      else { st := (s.emit 0o060007 1 tenant 0).startReset tenant 4, status := stDone }))

/-- RESET_DRAIN_END (R218): the queues are empty or 10 ms have passed; what remains is refused. -/
def execResetDrainEnd (tenant : Fin 16) (s : State) : Host.Outcome State Fault Refusal :=
  actUnit [.now, .free, .once, .lanes, .tenants, .tp, .way] s (fun s =>
    match (s.tenant tenant).reset with
    | some r =>
      if r.phase = ResetPhase.draining then
        let s := if s.tenantHolds tenant then s.upTo (r.started + ms 10) else s
        (s.refuseTenant tenant rcTenantReset).setReset tenant { r with phase := .emptying }
      else s
    | none => s)

/-- RESET_WINDOW_EXPIRY (R221): the oldest counted reset leaves the window of 10 min. -/
def execResetWindowExpiry (tenant : Fin 16) (s : State) : Host.Outcome State Fault Refusal :=
  actUnit [.now, .free, .tenants, .tp] s (fun s =>
    let v := s.tenant tenant
    match v.window with
    | t :: rest => (s.upTo (t + secs 600)).setTenant tenant { v with window := rest }
    | [] => s)

/-- MEMORY_KEY_RETRY (R154): 1 ms after a failed request the tenant controller asks again, but not while the TRNG has
FAILED. -/
def execMemoryKeyRetry (tenant : Fin 16) (s : State) : Host.Outcome State Fault Refusal :=
  actUnit [.free, .once, .image, .keys, .trng, .lanes, .tenants, .tp, .mem, .cway, .sp, .way] s (fun s =>
    match (s.tenant tenant).reset with
    | some r =>
      if r.phase = ResetPhase.keyWait true && decide (s.trng.state ≠ TrngState.failed) then s.askTenantKey tenant else s
    | none => s)

/-! ## Event rings -/

/-- ACK_SEQ of a tenant written (R225); none when the value names no record stored and not yet acknowledged. -/
def State.ackSeq (s : State) (t v : Nat) : Option State :=
  let w := s.tenant t
  let m := 2 ^ 18
  if v = w.ackSeq then some s
  else if (v + m - w.ackSeq) % m ≤ (w.produced + m - w.ackSeq) % m then
    let lost := w.lostRun
    let s := s.setTenant t { w with ackSeq := v, lostRun := 0 }
    some (if lost > 0 then s.emit 0o061010 1 t lost else s)
  else none

/-- ACK_SEQ_WRITE (R225): by the tenant's principal or the operator. -/
def execAckSeqWrite (r : VerbCall) (tenant : Fin 16) (value : Word) (s : State) : Host.Outcome State Fault Refusal :=
  act [.once, .image, .keys, .tenants, .tp, .sp] s (fun s =>
    let allowed := match r.caller with
      | .operator _ => true
      | .tenant t => decide (t = tenant)
      | .plain => false
    s.serve r 0o02 allowed (some (tenantWindow tenant, (s.tenant tenant).gen))
        [tenantWindow tenant + 6, 1, value.toNat] (fun s =>
      if !s.configured tenant then
        -- The window of a tenant without a TENANT_MAP reads 0: its words are unused (R206, R443).
        { st := { s with sp := { s.sp with unusedWrites := satInc 36 s.sp.unusedWrites } }, status := stDone }
      else match s.ackSeq tenant value.toNat with
        | some s => { st := s, status := stDone }
        | none => { st := { s with sp := { s.sp with unusedWrites := satInc 36 s.sp.unusedWrites } },
                    status := stBadValue, words := [0] }))

/-- A notification frame of a tenant already waits for cells of the management pool. -/
def State.notifyWaits (s : State) (t : Nat) : Bool := s.tp.mgmtWait.any (fun e => decide (e.2 = .notify t))

/-- NOTIFY_FRAME_SEND (R226): the next notification frame of a tenant whose session is OPEN falls due, by the values in force or by
those of the moment before they changed (Table 9.9); it is built once the management pool has cells for it (R232). -/
def execNotifyFrameSend (tenant : Fin 16) (s : State) : Host.Outcome State Fault Refusal :=
  actUnit [.now, .free, .image, .keys, .tenants, .tp, .sp] s (fun s =>
    let t := tenant.val
    let old := (s.tenant t).notifyDue
    match s.notifyDueAt t with
    | some at_ =>
      if s.configured t && s.callerOpen (State.tenantCaller t) && (old || s.notifyEn t) && !s.notifyWaits t then
        (if old then s else s.upTo at_).queueMgmt (s.notifyLane t) (.notify t)
      else s
    | none => s)

/-! ## Words -/

/-- The tenant windows 0o020000 to 0o037777 (Table 9.10). -/
def readTenants (s : State) (a : Nat) : Nat :=
  let t := (a - 0o020000) / 0o1000
  let i := (a - 0o020000) % 0o1000
  let v := s.tenant t
  if !s.configured t then 0
  else if i = 0 then
    fld 17 15 v.state.code + flag 14 true + fld 13 9 v.degCause + fld 7 5 v.faultCause + fld 4 0 v.gen
  else if i = 0o001 then fld 17 15 v.trigger + fld 14 13 (min 3 v.window.length)
  else if i = 0o002 then v.resetCount
  else if i = 0o003 then v.resetDur
  else if i = 0o004 then v.exemptDur
  else if i = 0o005 then v.produced
  else if i = 0o006 then v.ackSeq
  else if i = 0o007 then v.ringLost
  else if i = 0o010 then v.notifySent
  else if 0o011 ≤ i ∧ i ≤ 0o014 then s.modWord t (i - 0o011)
  else if 0o100 ≤ i ∧ i < 0o140 then wideWord 2 (tabGet 0 v.refused ((i - 0o100) / 2 + 1)) (i % 2)
  else if 0o400 ≤ i ∧ i ≤ 0o477 then s.cfg 0o013 t (i - 0o400)
  else 0

end Sys2Proof.Machine
end

