-- ==== Sys2Proof/Machine/Entropy.lean ====
section
/-!
DEFINITION. The commands of the noise source and the DRBG (06_keys_and_entropy R149 to R154, Tables 6.6 to 6.8).
-/

namespace Sys2Proof.Machine

namespace State

/-- A request that waited is delivered its value. -/
def entropyDelivered (s : State) (c : Consumer) (v : Nat) : State :=
  match c with
  | .tenantKey t => s.tenantKeyDelivered t v
  | .startKeys => s
  | .zheac g kind => if kind = 0 then s.ephDrawn g v else if kind = 1 then s.nonceDrawn g v else s.signNonceDrawn g v
  | .challenge x => s.queryLease x v
  | .opening p lane peer np => s.openDone p lane peer np v

/-- A request that waited fails with ENTROPY-UNAVAILABLE (Table 6.7). -/
def entropyDenied (s : State) (c : Consumer) : State :=
  let s := s.entropyFailed
  match c with
  | .tenantKey t => s.tenantKeyFailed t
  | .startKeys => s
  | .zheac g _ => s.failHs g zrEntropy true false
  | .challenge _ => s
  | .opening p lane peer np => s.openFails p lane peer np stEntropy

/-- Waiting requests are served in arrival order, before any new request; one whose 50 ms are up fails first (R153, Table 6.10). -/
def serveEntropy : Nat → State → State
  | 0, s => s
  | k + 1, s =>
    if s.trng.state = TrngState.ok && !s.trng.reseedDue then
      match s.trng.waiting with
      | [] => s
      | (c, t) :: rest =>
        let s := { s with trng := { s.trng with waiting := rest } }
        if t + ms 50 ≤ s.now then serveEntropy k (s.entropyDenied c)
        else
          let d := s.draw c.bits
          serveEntropy k (d.2.entropyDelivered c d.1)
    else s

/-- At most this many requests are served at one seeding: each of 64 may lead to further ones (DEDUCED,
notes/assumptions/30). -/
def serveWaiting (s : State) : State := s.serveEntropy 512

/-- Every waiting request fails. -/
def denyWaiting (s : State) : State :=
  let l := s.trng.waiting
  l.foldl (fun (s : State) w => s.entropyDenied w.1) { s with trng := { s.trng with waiting := [] } }

/-- The DRBG is seeded from the pool: by instantiation, from 1,024 samples as entropy input, 512 more as nonce and the
personalisation value as far as it is derived, or by a reseed (R151); output resumes (DEDUCED, notes/assumptions/30). -/
def seedDrbg (s : State) : State :=
  let t := s.trng
  let pers := match t.pers with
    | some p => beBytes 48 p
    | none => []
  let s := if t.instantiated then s.reseedNow
    else { s with trng := { t with
      instantiated := true, pool := t.pool.drop 1536, reseeds := satInc 36 t.reseeds, seededAt := s.now
      drbg := Drbg.instantiate (sampleBytes (t.pool.take 1024)) (sampleBytes ((t.pool.drop 1024).take 512)) pers } }
  { s with trng := { s.trng with
      state := .ok, firstPassed := false, failRun := 0, reseedDue := false, generates := 0, outageReported := false } }

/-- A health test failed (R152): output stops, the pool and the window in progress are flushed. LAST_TEST is 1 for the repetition
count and 2 for the adaptive proportion. -/
def healthFails (s : State) (test : Nat) : State :=
  let t := s.trng
  let run := t.failRun + 1
  let s := { s with trng := { t with
    failRun := run
    lastTest := test
    healthFails := satInc 18 t.healthFails
    pool := []
    repeats := 0
    firstPassed := false
    state := if run < 3 then .retest else .failed } }
  if run < 3 then s.emitDev 0o041002 else (s.emitDev 0o044004).denyWaiting

/-- The noise source has been sampled since step 2 of the start. -/
def sampling (s : State) : Bool := decide (2 ≤ s.start.phase) && decide (s.trng.state ≠ TrngState.failed)

/-- A further sample under the repetition count: the sample, and how many in a row have its value. -/
def repeatCount (s : State) (b : Bool) : Nat :=
  if s.trng.repeats ≠ 0 && b == s.trng.lastSample then s.trng.repeats + 1 else 1

/-- The samples of a window are tested in order, the first of them `first`, `same` of those before being equal to it (Table 6.5):
the test that fails, 1 or 2 as LAST_TEST, or none; and the state after them (DEDUCED, notes/assumptions/30). -/
def testSamples (first : Bool) : Nat → List Bool → State → Option Nat × State
  | _, [], s => (none, s)
  | same, b :: rest, s =>
    let n := s.repeatCount b
    let same := if b == first then same + 1 else same
    let s := { s with trng := { s.trng with lastSample := b, repeats := n } }
    if 41 ≤ n then (some 1, s)
    else if 793 ≤ same then (some 2, s)
    else testSamples first same rest s

/-- The tests on the samples of one window. -/
def testWindow (s : State) (l : List Bool) : Option Nat × State := testSamples (l.headD false) 0 l s

/-- The samples of a window that passed enter the pool (R150). -/
def poolWindow (s : State) (l : List Bool) : State :=
  { s with trng := { s.trng with pool := (s.trng.pool ++ l).take 2048 } }

end State

/-- The samples of a whole window, in the order in which they were taken (DESIGN CHOICE, notes/assumptions/30). -/
def windowSamples (w : BitVec 1024) : List Bool := (List.range 1024).map (fun i => w.getMsbD i)

/-- ENTROPY_WINDOW_END (R149 to R151): a window of 1,024 samples, which may fail a test as it ends (DEDUCED,
notes/assumptions/30). -/
def execEntropyWindowEnd (samples : BitVec 1024) (s : State) : Host.Outcome State Fault Refusal :=
  act [.free, .once, .start, .image, .keys, .trng, .lanes, .tenants, .tp, .link, .zheac, .mem, .cway, .sp, .way] s (fun s =>
    if !s.sampling || decide (s.trng.state = TrngState.retest ∧ s.trng.firstPassed = false) then s
    else
      let l := windowSamples samples
      match s.testWindow l with
      | (some test, s) => s.healthFails test
      | (none, s) =>
        let s := s.poolWindow l
        match s.trng.state with
        | .startup =>
          if s.trng.firstPassed then s.seedDrbg.serveWaiting
          else { s with trng := { s.trng with firstPassed := true, failRun := 0 } }
        | .ok => ({ s with trng := { s.trng with failRun := 0 } }.tryReseed).serveWaiting
        | .retest => ((s.seedDrbg).emitDev 0o040003).serveWaiting
        | .failed => s)

/-- HEALTH_TEST_FAILURE (R149, R152): the samples since the last window ended, by which a test fails; samples by which none fails
have no effect. A failure while the retest's 1,024 samples are tested is the end of that retest. -/
def execHealthTestFailure (samples : List Bool) (s : State) : Host.Outcome State Fault Refusal :=
  act [.free, .once, .start, .image, .keys, .trng, .lanes, .tenants, .tp, .zheac, .sp, .way] s (fun s =>
    match s.sampling, s.testWindow (samples.take 1024) with
    | true, (some test, s) => s.healthFails test
    | _, _ => s)

/-- RETEST_END (R152, Table 6.8 step 2): 1,024 fresh samples are tested. They enter the pool where the DRBG is instantiated from
them (R151), and a further window follows. -/
def execRetestEnd (samples : BitVec 1024) (s : State) : Host.Outcome State Fault Refusal :=
  act [.free, .once, .start, .image, .keys, .trng, .lanes, .tenants, .tp, .zheac, .sp, .way] s (fun s =>
    if s.sampling && decide (s.trng.state = TrngState.retest) && !s.trng.firstPassed then
      let l := windowSamples samples
      match s.testWindow l with
      | (some test, s) => s.healthFails test
      | (none, s) =>
        let s := { s with trng := { s.trng with failRun := 0, firstPassed := true } }
        if s.trng.instantiated then s else s.poolWindow l
    else s)

/-- RESEED_DUE (R151): 1 s after the last seeding at the earliest. -/
def execReseedDue (s : State) : Host.Outcome State Fault Refusal :=
  act [.now, .free, .once, .start, .image, .keys, .trng, .lanes, .tenants, .tp, .link, .zheac, .mem, .cway, .sp, .way] s (fun s =>
    if s.trng.state = TrngState.ok then
      let s := s.upTo (s.trng.seededAt + secs 1)
      ({ s with trng := { s.trng with reseedDue := true } }.tryReseed).serveWaiting
    else s)

/-- ENTROPY_REQUEST_TIMEOUT (R153): 50 ms after the arrival of the request that has waited longest (DEDUCED,
notes/assumptions/30). -/
def execEntropyRequestTimeout (s : State) : Host.Outcome State Fault Refusal :=
  act [.now, .free, .once, .start, .image, .keys, .trng, .lanes, .tenants, .tp, .zheac, .sp, .way] s (fun s =>
    match s.trng.state, s.trng.waiting with
    | .startup, (c, t) :: rest | .retest, (c, t) :: rest =>
      let s := s.upTo (t + ms 50)
      { s with trng := { s.trng with waiting := rest } }.entropyDenied c
    | _, _ => s)

end Sys2Proof.Machine
end

