-- ==== Sys2Proof/Machine/LiveWord.lean ====
section
/-!
DEFINITION. A word written by the WRITE verb (17_operator_access R443): what its owner makes of it, and the commands that write
one live word.
-/

namespace Sys2Proof.Machine

/-- What a word of a WRITE meets at its owner: it is unused, holds no writable field, holds only fields that the image
sets, gets a value that its field does not have, may not be written now, or takes the value. -/
inductive WordWrite where
  | unused
  | notWritable
  | notLive
  | badValue
  | wrongState
  | takes (apply : State → State)

/-- STATUS with which a word refuses the whole WRITE; none when it does not. -/
def WordWrite.refuses : WordWrite → Option Nat
  | .unused => none
  | .notWritable => some stNotWritable
  | .notLive => some stNotLive
  | .badValue => some stBadValue
  | .wrongState => some stWrongState
  | .takes _ => none

/-- A word is applied: a word that is unused is ignored and counted (R443). -/
def WordWrite.run (w : WordWrite) (s : State) : State :=
  match w with
  | .takes f => f s
  | .unused => { s with sp := { s.sp with unusedWrites := satInc 36 s.sp.unusedWrites } }
  | _ => s

namespace State

/-- A WRITE refused at the word with an offset counts that word (R443). -/
def writeRefused (s : State) (status offset : Nat) : Served :=
  { st := { s with sp := { s.sp with unusedWrites := satInc 36 s.sp.unusedWrites } }, status := status,
    words := [BitVec.ofNat 18 offset] }

/-- The operator writes one live word at an address. -/
def writeLive (s : State) (r : VerbCall) (address value : Nat) (w : State → WordWrite) : State :=
  s.serve r 0o02 (isOperator r.caller) none [address, 1, value] (fun s =>
    match (w s).refuses with
    | some st => s.writeRefused st 0
    | none => { st := (w s).run s, status := stDone })

end State

end Sys2Proof.Machine
end

