-- ==== Sys2Proof/Machine/Milepost.lean ====
section
/-!
DEFINITION. Milepost and Waymark (19_milepost): selections, windows and snapshots, the sampler's settings, and the words.
-/

namespace Sys2Proof.Machine

/-- The fixed counters of an engine block (R476). -/
def fixedCounter (b c : Nat) : Bool := decide (16 ≤ b ∧ b ≤ 23 ∧ 16 ≤ c)

/-- The counting events, and the occupancy events, of a block (Table 19.2): the highest code of each. -/
def eventCodes (b : Nat) : Nat × Nat :=
  if b < 16 then (0o012, 0o202)
  else if b < 24 then (0o011, 0o202)
  else if b = 24 then (0o004, 0o200)
  else if b = 25 then (0o011, 0o203)
  else if b = 26 then (0o003, 0o200)
  else if b < 31 then (0o007, 0o202)
  else if b = 31 then (0o005, 0o201)
  else if b = 32 then (0o005, 0o201)
  else if b = 33 then (0o003, 0o201)
  else if b = 34 then (0o006, 0o202)
  else (0o004, 0o200)

/-- An EVENT is listed for a block, or counts nothing. -/
def eventListed (b e : Nat) : Bool :=
  decide (e ≤ (eventCodes b).1) || decide (0o200 ≤ e ∧ e ≤ (eventCodes b).2)

namespace State

def mileSel (s : State) (k : Nat) : Nat := tabGet 0 s.mile.sel k

/-- A counter and its WRAP flag are cleared. -/
def clearCounter (s : State) (k : Nat) : State :=
  { s with mile := { s.mile with
    count := tabPut 0 s.mile.count k 0, wraps := s.mile.wraps.filter (fun (j : Nat) => decide (j ≠ k)) } }

/-- A SEL word (R473). -/
def writeSel (b c value : Nat) : WordWrite :=
  let v := fld 17 8 (value / 2 ^ 8)
  let chain := selChain v
  if fixedCounter b c || !eventListed b (selEvent v) || (chain && (decide (c % 2 = 1) || decide (selEvent v ≠ 0))) then .badValue
  else .takes (fun s =>
    let k := 32 * b + c
    let old := s.mileSel k
    if v = old then s
    else
      let s := (s.clearCounter k)
      let s := if selChain old != chain then s.clearCounter (k + 1) else s
      { s with mile := { s.mile with sel := tabPut 0 s.mile.sel k v, changed := s.mile.changed ||| 2 ^ b } })

/-- A THRESH word clears nothing; those of the fixed counters accept no write (R473, R476) (DEDUCED, notes/assumptions/70).
-/
def writeThresh (b c value : Nat) : WordWrite :=
  if fixedCounter b c then .badValue
  else .takes (fun s => { s with mile := { s.mile with thresh := tabPut 0 s.mile.thresh (32 * b + c) value } })

/-! ## Issue slots (R476, R477) -/

/-- The four classes of a side of an engine at the model time, transmit classes first: what was neither retired nor wasted
nor stands with a frame in progress was front or back (DESIGN CHOICE, notes/assumptions/69). -/
def slotClass (s : State) (engine : Nat) (rx : Bool) (cls : Nat) : Nat :=
  let k := 4 * engine + (if rx then 2 else 0)
  let retired := tabGet 0 s.mile.slots k
  let wasted := tabGet 0 s.mile.slots (k + 1)
  let cycles := match s.mile.slotsFrom with
    | some t => s.now - t
    | none => 0
  let rest := cycles - retired - wasted
  let held := Config.openSlots k s.now % (min 578 rest + 1)
  let back := Config.backSlots k s.now % (rest - held + 1)
  match cls with
  | 0 => retired
  | 1 => wasted
  | 2 => rest - held - back
  | _ => back

/-- Counter `c` of block `b` as it reads. -/
def counterNow (s : State) (b c : Nat) : Nat :=
  if fixedCounter b c then wideWord 2 (s.slotClass (b - 16) (decide (24 ≤ c)) ((c - 16) / 2 % 4)) (c % 2)
  else tabGet 0 s.mile.count (32 * b + c)

/-- Every counter that is not 0. -/
def allCounters (s : State) : Tab Nat :=
  ((List.range 1152).map (fun k => (k, s.counterNow (k / 32) (k % 32)))).filter (fun e => decide (e.2 ≠ 0))

/-! ## Windows (R479 to R481) -/

/-- The copy of the last snapshot has ended: its slot holds it. -/
def endCopy (s : State) : State :=
  match s.mile.copying with
  | some c => { s with mile := { s.mile with
      ring := tabPut none s.mile.ring (c.seq % 8) (some c), lastSeq := c.seq, copying := none } }
  | none => s

/-- A window ends: a snapshot while RUN is 1, and a new window whose WRAP flags and port totals are clear. -/
def endWindow (s : State) (short run : Bool) : State :=
  match s.mile.began with
  | none => { s with mile := { s.mile with run := run } }
  | some t =>
    let m := s.mile
    let seq := m.seq % 262143 + 1
    let snap : Snapshot := { seq := seq, time := (s.now - s.start.t0) % 2 ^ 54, window := s.now - t, short := short,
                             first := m.first, changed := m.changed, counts := s.allCounters, wraps := m.wraps,
                             rx := m.rx, tx := m.tx }
    let begun := run && !m.run
    { s with mile := { m with
      seq := if m.run then seq else m.seq, copying := if m.run then some snap else m.copying
      wraps := [], reported := [], changed := 0, rx := [], tx := [], winNow := m.win, began := some s.now
      first := begun || (m.first && !m.run), run := run } }

/-- A boundary that an operator write asks for: it waits for a copy that runs (Table 19.8) (DEDUCED, notes/assumptions/70).
-/
def boundary (s : State) (x : Boundary) : State :=
  if s.mile.copying.isSome then { s with mile := { s.mile with later := s.mile.later ++ [x] } }
  else match x with
    | .snapNow => s.endWindow true s.mile.run
    | .run on => s.endWindow true on

/-- RUN as the boundaries that wait will leave it. -/
def runWritten (s : State) : Bool :=
  s.mile.later.foldl (fun b x => match x with
    | .run on => on
    | .snapNow => b) s.mile.run

def writeRun (value : Nat) : WordWrite :=
  .takes (fun s => if value.testBit 17 = s.runWritten then s else s.boundary (.run (value.testBit 17)))

def writeSnapNow (value : Nat) : WordWrite := .takes (fun s => if value.testBit 17 then s.boundary .snapNow else s)

def writeWin (value : Nat) : WordWrite :=
  if value = 0 then .badValue else .takes (fun s => { s with mile := { s.mile with win := value } })

/-! ## Waymark settings (R483 to R487) -/

/-- EN, STOP_WHEN_FULL and DITHER: when EN becomes 1 the first interval is drawn. -/
def writeWayControl (s : State) (value : Nat) : WordWrite :=
  let d := bits value 15 12
  if s.way.set.rate < 2 ^ d then .badValue
  else .takes (fun s =>
    let on := value.testBit 17
    let w := { s.way with en := on, stopWhenFull := value.testBit 16, set := { s.way.set with dither := d } }
    { s with way := if on && !s.way.en then State.wayDraw w else w })

def writeWayRate (s : State) (value : Nat) : WordWrite :=
  if value = 0 ∨ value < 2 ^ s.way.set.dither then .badValue
  else .takes (fun s => { s with way := { s.way with set := { s.way.set with rate := value } } })

/-- FILTER_KIND and FILTER_VAL; a value outside the kind's range is refused. -/
def writeWayFilter (value : Nat) : WordWrite :=
  let kind := bits value 17 16
  let v := bits value 13 0
  if (kind = 1 ∧ 16 ≤ v) ∨ (kind = 2 ∧ 18 ≤ v) then .badValue
  else .takes (fun s => { s with way := { s.way with set := { s.way.set with kind := kind, val := v } } })

def writeWayPage (value : Nat) : WordWrite :=
  .takes (fun s => { s with way := { s.way with page := bits value 3 0 } })

/-- DEDUCED, notes/assumptions/71. -/
def writeWayClear (value : Nat) : WordWrite :=
  .takes (fun s => if value.testBit 17 then
    { s with way := { s.way with wrIndex := 0, full := false, stopped := false } } else s)

/-! ## Words -/

/-- A word of a snapshot (Table 19.4). -/
def snapWord (c : Snapshot) (o : Nat) : Nat :=
  if o = 0 ∨ o = 0o2777 then c.seq
  else if o ≤ 3 then wideWord 3 c.time (o - 1)
  else if o ≤ 5 then wideWord 2 c.window (o - 4)
  else if o = 6 then flag 17 (decide (c.changed ≠ 0)) + flag 16 c.short + flag 15 c.first
  else if o ≤ 8 then wideWord 2 c.changed (o - 7)
  else if 0o20 ≤ o ∧ o < 0o20 + 0o40 * 36 then tabGet 0 c.counts (o - 0o20)
  else if 0o2220 ≤ o ∧ o < 0o2220 + 72 then wrapWord c.wraps ((o - 0o2220) / 2) (o % 2)
  else if 0o2330 ≤ o ∧ o < 0o2330 + 72 then
    let p := (o - 0o2330) / 4
    let t := if (o - 0o2330) % 4 < 2 then c.rx else c.tx
    wideWord 2 (tabGet 0 t p % 2 ^ 36) (o % 2)
  else 0
where
  /-- WRAP flags of counters 31 to 16 of a block, then of 15 to 0. -/
  wrapWord (wraps : List Nat) (b half : Nat) : Nat :=
    maskOf 16 (fun i => wraps.contains (32 * b + (if half = 0 then 16 else 0) + i))

/-- A word of a slot of the ring. While the slot is being written SNAP_SEQ reads 0, and any other word may be the old or the
new one (DEDUCED, notes/assumptions/70). -/
def ringWord (s : State) (slot o : Nat) : Nat :=
  let old := match tabGet none s.mile.ring slot with
    | some c => snapWord c o
    | none => 0
  match s.mile.copying with
  | some c =>
    if c.seq % 8 = slot then
      if o = 0 then 0 else if Config.freeBool (s.free + o) then snapWord c o else old
    else old
  | none => old

/-- NEXT_TIME: when the current window ends. -/
def nextTime (s : State) : Nat :=
  match s.mile.began with
  | some t => t + us (100 * s.mile.winNow) - s.start.t0
  | none => 0

end State

/-- The Milepost words 0o200000 to 0o277777 (Table 19.9). -/
def readMilepost (s : State) (a : Nat) : Nat :=
  let m := s.mile
  if a < 0o244000 then
    let b := (a - 0o200000) / 0o1000
    let i := (a - 0o200000) % 0o1000
    if i < 0o40 then s.counterNow b i
    else if i < 0o100 then
      (if fixedCounter b (i - 0o40) then flag 8 (decide (i % 2 = 0)) else s.mileSel (32 * b + (i - 0o40)))
    else if i < 0o140 then tabGet 0 m.thresh (32 * b + (i - 0o100))
    else if i ≤ 0o141 then State.snapWord.wrapWord m.wraps b (i - 0o140)
    else if i = 0o142 then fld 17 12 b
    else 0
  else if a = 0o244000 then flag 17 m.run
  else if a = 0o244001 then m.win
  else if a = 0o244002 then m.lastSeq
  else if 0o244003 ≤ a ∧ a ≤ 0o244005 then wideWord 3 s.nextTime (a - 0o244003)
  else if 0o250000 ≤ a ∧ a ≤ 0o277777 then s.ringWord ((a - 0o250000) / 0o3000) ((a - 0o250000) % 0o3000)
  else 0

/-- The Waymark words 0o300000 to 0o307777 (Table 19.10). -/
def readWaymark (s : State) (a : Nat) : Nat :=
  let w := s.way
  if a = 0o300000 then flag 17 w.en + flag 16 w.stopWhenFull + fld 15 12 w.set.dither
  else if a = 0o300001 then w.set.rate
  else if a = 0o300002 then fld 17 16 w.set.kind + fld 13 0 w.set.val
  else if a = 0o300003 then w.page
  else if a = 0o300004 then flag 17 w.full + fld 11 0 w.wrIndex
  else if a = 0o300005 ∨ a = 0o300006 then wideWord 2 w.total (a - 0o300005)
  else if a = 0o300007 then w.skipped
  else if a = 0o300010 then w.lost
  else if a = 0o300011 then fld 6 0 w.inFlight
  else if 0o302000 ≤ a ∧ a ≤ 0o305777 then
    ((tabGet [] w.entries (256 * w.page + (a - 0o302000) / 8))[(a % 8)]?).getD 0
  else 0

/-- A word of Milepost or Waymark that a WRITE names: its own live field, a read field, or an unused word. -/
def writeMilepost (s : State) (a value : Nat) : WordWrite :=
  if a < 0o244000 then
    let b := (a - 0o200000) / 0o1000
    let i := (a - 0o200000) % 0o1000
    if i < 0o40 then .notWritable
    else if i < 0o100 then State.writeSel b (i - 0o40) value
    else if i < 0o140 then State.writeThresh b (i - 0o100) value
    else if i ≤ 0o142 then .notWritable
    else .unused
  else if a = 0o244000 then State.writeRun value
  else if a = 0o244001 then State.writeWin value
  else if a ≤ 0o244005 then .notWritable
  else if a = 0o244006 then State.writeSnapNow value
  else if 0o250000 ≤ a ∧ a ≤ 0o277777 then .notWritable
  else if a = 0o300000 then s.writeWayControl value
  else if a = 0o300001 then s.writeWayRate value
  else if a = 0o300002 then State.writeWayFilter value
  else if a = 0o300003 then State.writeWayPage value
  else if 0o300004 ≤ a ∧ a ≤ 0o300011 then .notWritable
  else if a = 0o300012 then State.writeWayClear value
  else if 0o302000 ≤ a ∧ a ≤ 0o305777 then .notWritable
  else .unused

/-! ## Commands -/

/-- MILEPOST_SEL_WRITE (R473). -/
def execMilepostSelWrite (r : VerbCall) (block : Fin 36) (counter : Fin 32) (value : Word) (s : State) :
    Host.Outcome State Fault Refusal :=
  act [.once, .image, .keys, .tenants, .tp, .sp] s (fun s => s.writeLive r (0o200040 + 0o1000 * block.val + counter.val) value.toNat
    (fun _ => State.writeSel block counter value.toNat))

/-- THRESH_WRITE (R473). -/
def execThreshWrite (r : VerbCall) (block : Fin 36) (counter : Fin 32) (value : Word) (s : State) :
    Host.Outcome State Fault Refusal :=
  act [.once, .image, .keys, .tenants, .tp, .sp] s (fun s => s.writeLive r (0o200100 + 0o1000 * block.val + counter.val) value.toNat
    (fun _ => State.writeThresh block counter value.toNat))

/-- WINDOW_BOUNDARY (R479): WIN_100US × 100 µs after the window began. -/
def execWindowBoundary (s : State) : Host.Outcome State Fault Refusal :=
  act [.now, .free, .tp] s (fun s =>
    match s.mile.began with
    | some t => (s.upTo (t + us (100 * s.mile.winNow))).endCopy.endWindow false s.mile.run
    | none => s)

/-- SNAP_NOW (R479). -/
def execSnapNow (r : VerbCall) (s : State) : Host.Outcome State Fault Refusal :=
  act [.once, .image, .keys, .tenants, .tp, .sp] s (fun s => s.writeLive r 0o244006 (2 ^ 17) (fun _ => State.writeSnapNow (2 ^ 17)))

/-- RUN_WRITE (R479). -/
def execRunWrite (r : VerbCall) (on : Bool) (s : State) : Host.Outcome State Fault Refusal :=
  act [.once, .image, .keys, .tenants, .tp, .sp] s (fun s => s.writeLive r 0o244000 (flag 17 on) (fun _ => State.writeRun (flag 17 on)))

/-- WIN_100US_WRITE (R479). -/
def execWin100usWrite (r : VerbCall) (value : Word) (s : State) : Host.Outcome State Fault Refusal :=
  act [.once, .image, .keys, .tenants, .tp, .sp] s (fun s => s.writeLive r 0o244001 value.toNat (fun _ => State.writeWin value.toNat))

/-- SNAPSHOT_COPY_DONE (R481): the boundaries that waited for the copy fall, each when the copy before it has ended. -/
def execSnapshotCopyDone (s : State) : Host.Outcome State Fault Refusal :=
  act [] s (fun s =>
    if s.mile.copying.isNone then s
    else
      let s := s.endCopy
      match s.mile.later with
      | x :: rest =>
        let s := { s with mile := { s.mile with later := [] } }.boundary x
        rest.foldl State.boundary s
      | [] => s)

/-- WAYMARK_CONTROL_WRITE (R484). -/
def execWaymarkControlWrite (r : VerbCall) (value : Word) (s : State) : Host.Outcome State Fault Refusal :=
  act [.once, .image, .keys, .tenants, .tp, .sp, .way] s (fun s => s.writeLive r 0o300000 value.toNat (fun s => s.writeWayControl value.toNat))

/-- WAYMARK_RATE_WRITE (R484). -/
def execWaymarkRateWrite (r : VerbCall) (value : Word) (s : State) : Host.Outcome State Fault Refusal :=
  act [.once, .image, .keys, .tenants, .tp, .sp, .way] s (fun s => s.writeLive r 0o300001 value.toNat (fun s => s.writeWayRate value.toNat))

/-- WAYMARK_FILTER_WRITE (R483). -/
def execWaymarkFilterWrite (r : VerbCall) (value : Word) (s : State) : Host.Outcome State Fault Refusal :=
  act [.once, .image, .keys, .tenants, .tp, .sp, .way] s (fun s => s.writeLive r 0o300002 value.toNat (fun _ => State.writeWayFilter value.toNat))

/-- WAYMARK_CLEAR (R487). -/
def execWaymarkClear (r : VerbCall) (s : State) : Host.Outcome State Fault Refusal :=
  act [.once, .image, .keys, .tenants, .tp, .sp, .way] s (fun s => s.writeLive r 0o300012 (2 ^ 17) (fun _ => State.writeWayClear (2 ^ 17)))

end Sys2Proof.Machine
end

