-- ==== Sys2Proof/Machine/Progress.lean ====
section
/-!
DEFINITION. The progress monitor (21_progress_guarantee R518 to R528).
-/

namespace Sys2Proof.Machine

/-- PROGRESS_BOUND_EXCEEDED (R522, Table 21.8): the scan finds the eligible head frame of a queue past its TB, unless an
exempt wait holds its age below. A tenant that is FAULTED, RESETTING or FENCED is not watched (DEDUCED,
notes/assumptions/78). -/
def execProgressBoundExceeded (queue : Fin 16384) (s : State) : Host.Outcome State Fault Refusal :=
  actUnit [.now, .free, .once, .lanes, .tenants, .tp, .way] s (fun s =>
    let q := queue.val
    match (s.queue q).frames.head?, s.tenantOfQueue q with
    | some f, some t =>
      let n := s.qEgress q
      let late := f.since + f.exempt + ns (s.boundTb t n) + 1
      let watched := decide ((s.tenant t).state = TenState.healthy ∨ (s.tenant t).state = TenState.degraded)
      if f.eligible && watched && (decide (late ≤ s.now) || !s.exemptNow t q f) then
        ((s.upTo late).emit 0o212001 1 t (fld 17 13 n + fld 12 9 t)).faultTenant t 2
      else s
    | _, _ => s)

/-- FABRIC_BOUND_EXCEEDED (R523): an operation of class F0 to F3 runs to its end (DEDUCED, notes/assumptions/78). -/
def execFabricBoundExceeded (cls : Fin 4) (s : State) : Host.Outcome State Fault Refusal :=
  actUnit [] s (fun s => s.emitOwn 0o213002 0 0 (fld 17 16 cls.val))

/-- Model time of the oldest hold of a lane (they are kept one higher). -/
def heldFrom (v : Lane) : Option Nat :=
  (v.heldSince.map (fun e => e.2 - 1)).min?

/-- PAUSE_MAX_EXCEEDED (R527, Table 21.7): once per hold. -/
def execPauseMaxExceeded (lane : Fin 16) (s : State) : Host.Outcome State Fault Refusal :=
  actUnit [.now, .free, .lanes, .tp] s (fun s =>
    match s.laneLead lane with
    | some n =>
      match heldFrom (s.lane n) with
      | some t =>
        if (s.lane n).holdReported then s
        else
          let s := s.upTo (t + ms (bits (s.cfg 0o006 0 3) 17 4))
          (s.setLane n { s.lane n with holdReported := true }).emitOwn 0o211003 0 0 (fld 17 14 n)
      | none => s
    | none => s)

/-- A promoted request takes its place: the oldest is served first, of equal ages the lower requester (DEDUCED,
notes/assumptions/78). -/
def promote (l : List (Nat × Nat)) (issued requester : Nat) : List (Nat × Nat) :=
  let before := fun (e : Nat × Nat) => decide (e.1 < issued ∨ (e.1 = issued ∧ e.2 ≤ requester))
  l.filter before ++ [(issued, requester)] ++ l.filter (fun e => !before e)

/-- REQUEST_PROMOTION (R518, R519): an F0 request whose age, in CK_FAB cycles, has reached AGE_PROMOTE, or that has met 3
bank conflicts, is served ahead of those not promoted. Those promoted before are served within 256 CK_FAB cycles
(Table 21.5). -/
def execRequestPromotion (requester age conflicts : Nat) (s : State) : Host.Outcome State Fault Refusal :=
  actUnit [.promoted] s (fun s =>
    if bits (s.cfg 0o006 0 0) 17 6 ≤ age ∨ 3 ≤ conflicts then
      let standing := s.promoted.filter (fun (e : Nat × Nat) => decide (s.now < e.1 + 2 * (age + 256)))
      { s with promoted := promote standing (s.now - 2 * age) requester }
    else s)

end Sys2Proof.Machine
end

