-- ==== Sys2Proof/Machine/Journal.lean ====
section
/-!
DEFINITION. The journal as a replay unit reads it (20_trip_recorder R503 to R505): the records of its blocks, the span from a base,
the load of that base, and GO.
-/

namespace Sys2Proof.Machine

/-! ## Codes of the units' words -/

def laneStateOf (n : Nat) : LaneState :=
  match n with
  | 0 => .off
  | 1 => .training
  | 2 => .up
  | 3 => .hold
  | 4 => .down
  | _ => .damped

def tenStateOf (n : Nat) : TenState :=
  match n with
  | 0 => .healthy
  | 1 => .degraded
  | 2 => .faulted
  | 3 => .resetting
  | _ => .fenced

def resetPhaseOf (n : Nat) : ResetPhase :=
  match n with
  | 0 => .draining
  | 1 => .emptying
  | 2 => .keyWait false
  | _ => .region

def txStateOf (n : Nat) : TxState :=
  match n with
  | 0 => .unbound
  | 1 => .noKey
  | 2 => .running
  | 3 => .leaseWait
  | 4 => .stuck
  | _ => .exhausted

def rxStateOf (n : Nat) : RxState :=
  match n with
  | 0 => .unbound
  | 1 => .noKey
  | 2 => .running
  | 3 => .overlap
  | 4 => .noticeWait
  | _ => .stuck

def slotStateOf (n : Nat) : SlotState :=
  match n with
  | 0 => .empty
  | 1 => .valid
  | 2 => .destroyed
  | _ => .fault

def partnerOf (n : Nat) : Partner :=
  match n with
  | 0 => .absent
  | 1 => .training
  | 2 => .up
  | _ => .single

def memStateOf (n : Nat) : MemState :=
  match n with
  | 0 => .noneConfigured
  | 1 => .ready
  | 2 => .waiting
  | 3 => .unavailable
  | _ => .training

def trngStateOf (n : Nat) : TrngState :=
  match n with
  | 0 => .startup
  | 1 => .ok
  | 2 => .retest
  | _ => .failed

def junStateOf (n : Nat) : JunState :=
  match n with
  | 0 => .freeRun
  | 1 => .acquiring
  | 2 => .locked
  | 3 => .holdover
  | _ => .lost

def zStateOf (n : Nat) : ZState :=
  match n with
  | 0 => .idle
  | 1 => .settle
  | 2 => .active
  | 3 => .keyed
  | 4 => .backoff
  | _ => .unusable

/-! ## Records (R495) -/

/-- Content of a record: r1 is word 1. -/
def TripRec.r (e : TripRec) (i : Nat) : Nat := nth e.body (i - 1)

/-- `n` words of a record from word `i`, as one quantity. -/
def TripRec.wide (e : TripRec) (i n : Nat) : Nat := ((e.body.drop (i - 1)).take n).foldl (fun a w => a * 2 ^ 18 + w) 0

/-- The records in words of a block, the time of the record before them given; PAD and TIME records are none of their own. -/
def recordsIn (block : Nat) : Nat → Nat → List Nat → List TripRec
  | 0, _, _ => []
  | _ + 1, _, [] => []
  | fuel + 1, time, r0 :: rest =>
    let n := 4 * (bits r0 11 8 + 1) - 1
    let type := bits r0 17 12
    let body := rest.take n
    let time := if type = 1 then (body.take 3).foldl (fun a w => a * 2 ^ 18 + w) 0 else time + bits r0 7 0
    let more := recordsIn block fuel time (rest.drop n)
    if type ≤ 1 then more else { block := block, time := time, type := type, body := body } :: more

def Block.records (b : Block) : List TripRec := recordsIn b.seq 443 b.time ((b.words.drop 8).take blockRoom)

/-- The base that begins before `l` is complete: its BASE_END says so (R496). -/
def baseComplete (l : List TripRec) : Bool :=
  match l.find? (fun e => decide (e.type = 0o14 ∨ e.type = 0o16)) with
  | some e => decide (e.type = 0o16) && (e.r 3).testBit 17
  | none => false

/-- The first complete base of records that stands in the block `from_`, or in any block when that is 0, with what follows its
BASE_BEGIN (R504). -/
def findBase (from_ : Nat) : List TripRec → Option (TripRec × List TripRec)
  | [] => none
  | e :: rest =>
    if e.type = 0o14 && (from_ = 0 || e.block = from_) && baseComplete rest then some (e, rest) else findBase from_ rest

/-- Every block of a list, in BLOCK_SEQ order, passes, each with the block before it at hand after the first (R503). -/
def chainGood : Option Block → List Block → Bool
  | _, [] => true
  | none, b :: rest => b.passes none none && chainGood (some b) rest
  | some p, b :: rest => decide (b.seq = p.seq + 1) && b.passes (some p) none && chainGood (some b) rest

/-- Pattern bytes (R505). -/
def pattern (n : Nat) : List Nat := (List.range n).map (fun k => k % 256)

/-- The source address of a pattern frame on a port (R505). -/
def patternSa (port : Nat) : List Nat := [0x02, 0x4B, 0x52, 0x00, 0x00, port]

namespace State

/-- The SSCI of a link slot's substitute (Table 20.4). -/
def substituteSsci (s : State) (n : Nat) : Nat :=
  if n < 32768 then s.txSsci (n / 2)
  else
    let e := (s.rxStream ((n - 32768) / 2)).entry
    (((s.laneLead (entLane e)).bind s.lanePeer).getD 0) * 2 ^ 16 + entPeerSci e % 2 ^ 16

/-- The substitute of slot n installed with GEN g (Table 20.4) (DEDUCED, notes/assumptions/77). -/
def substituteOf (s : State) (n gen : Nat) : Nat :=
  if n < 65536 then substituteLink "KR1856-ANALYSIS-LINK" (beBytes 3 n ++ [gen]) (s.substituteSsci n)
  else slotValue (substitute "KR1856-ANALYSIS-LINK" (beBytes 3 n ++ [gen]))

/-! ## The base (R505) -/

/-- A held frame of the base joins its queue, with pattern bytes (DEDUCED, notes/assumptions/75). -/
def loadQueued (s : State) (e : TripRec) : State :=
  let q := bits (e.r 1) 13 0
  let len := bits (e.r 2) 17 4
  match s.tenantOfQueue q with
  | some t =>
    let v := s.queue q
    let p := if held v .reserved + cellsOf len ≤ s.qWord q 2 then Place.reserved else .shared
    let stream := if (e.r 3).testBit 17 then some (bits (e.r 3) 13 0) else none
    s.setQueue q { v with frames := v.frames ++ [{
      data := pattern (len - 4), place := p, tenant := t, tc := s.qTc q, stream := stream, ingress := bits (e.r 4) 17 13
      since := s.now }] }
  | none => s

/-- A STATE value is forced on its unit (Table 20.2). -/
def setUnit (s : State) (unit index value : Nat) : State :=
  if unit = 1 then s.partnerEnter (partnerOf value)
  else if unit = 2 then
    { s with jun := { s.jun with
      state := junStateOf (bits value 17 15), selected := bits value 14 12, bwStage := bits value 11 9
      gen := bits value 8 4, hist := value.testBit 3, xoFail := value.testBit 2 } }
  else if unit = 3 then { s with trng := { s.trng with state := trngStateOf value } }
  else if unit = 4 then { s with start := { s.start with memState := memStateOf value } }
  else if unit = 6 then
    let g := index % 16
    s.setGroup g { s.zgroup g with
      state := zStateOf (bits value 17 15), lastReason := bits value 14 10, gen := bits value 9 5, consec := bits value 4 0 }
  else s

/-- The base is loaded over what the units hold. -/
def loadItem (s : State) (i : BaseItem) : State :=
  match i with
  | .lane n state cause gen =>
    s.setLane n { s.lane n with state := laneStateOf state, cause := cause.toNat, gen := gen.toNat }
  | .tenant t state gen phase =>
    let st := tenStateOf state
    let r : TenReset := { phase := resetPhaseOf phase, started := s.now }
    s.setTenant t { s.tenant t with
      state := st, gen := gen.toNat, reset := if st = TenState.resetting then some r else none }
  | .tx x state an gen nextPn =>
    let v := s.txStream x.toNat
    let first := nextPn.toNat / 2 ^ 32 * 2 ^ 32
    let lease := entPinned v.entry
    s.setTx x.toNat { v with
      state := txStateOf state, an := an.toNat, gen := gen.toNat, nextPn := nextPn.toNat, newAn := false, oldAn := none
      asked := false, ahead := none
      leaseStart := if lease then first else 0, leaseEnd := if lease then first + 2 ^ 32 - 1 else 0 }
  | .rx x state an gen low0 low1 =>
    let p := fun (l : Option (BitVec 64)) =>
      ({ nextRx := (l.map BitVec.toNat).getD 0, lowest := l.map BitVec.toNat } : RxPn)
    s.setRx x.toNat { s.rxStream x.toNat with
      state := rxStateOf state, an := an.toNat, gen := gen.toNat, even := p low0, odd := p low1 }
  | .slot n state gen =>
    let st := slotStateOf state
    let v := s.slot n.toNat
    let own := decide (65536 ≤ n.toNat)
    let value := if st = SlotState.valid then (if own then v.value else s.substituteOf n.toNat gen.toNat) else 0
    s.setSlot n.toNat { state := st, kind := slotUse n.toNat, gen := gen.toNat, value := value }
  | .epoch r value => s.setRegion r { s.region r with epoch := value.toNat }
  | .state unit index value => s.setUnit unit index value.toNat
  | .moderation t m => s.setTenant t { s.tenant t with moderation := m }
  | .bucket kind t n debt =>
    let put := fun (tab : Tab Bucket) => tabPut {} tab (16 * t.val + n.val) { debt := debt, time := s.now }
    { s with tp := match kind with
      | 0 => { s.tp with commitTok := put s.tp.commitTok }
      | 1 => { s.tp with ceilTok := put s.tp.ceilTok }
      | 2 => { s.tp with policeTok := put s.tp.policeTok } }
  | .station n up echo down valid =>
    s.setCtx n.toNat { s.ctx n.toNat with upSeq := up.toNat, echoSeen := echo.toNat, downSeq := down.toNat, valid := valid }

/-- The queues, lanes and drains hold nothing before the base is loaded. -/
def emptyQueues (s : State) : State :=
  { s with tp := { s.tp with
    queues := tabMap {} s.tp.queues (fun _ v => { v with frames := [], inFlight := none })
    lanes := tabMap {} s.tp.lanes (fun _ c => { c with sending := none, mgmt := [] })
    drains := [] } }

/-- DEDUCED, notes/assumptions/75. -/
def loadBase (s : State) (base : TripRec) (rest : List TripRec) : State :=
  let own := rest.takeWhile (fun e => decide (e.type ≠ 0o16))
  let s := (Config.baseItems ((own.filter (fun e => decide (e.type = 0o15))).map TripRec.body)).foldl loadItem s.emptyQueues
  let s := (own.filter (fun e => decide (e.type = 0o04))).foldl loadQueued s
  { s with trip := { s.trip with
    state := .replaying, result := 1, reason := 0, divGroups := 0, divCheck := 0, divTime := 0, checks := 0, forced := []
    replayTime := base.wide 8 3, replayAt := s.now, span := rest } }

/-! ## GO (R504) -/

/-- The blocks that region 17 holds, by BLOCK_SEQ. -/
def heldBlocks (s : State) : Tab (Option Block) :=
  ((List.range s.tripBlocks).filterMap s.regionBlock).foldl (fun t b =>
    if nth b.words 0 = 0o625166 then tabPut none t b.seq (some b) else t) []

/-- What GO finds: the reason with which it is refused, or the base and the records of its span after the BASE_BEGIN (DEDUCED,
notes/assumptions/75). -/
def goSpan (s : State) : Nat ⊕ (TripRec × List TripRec) :=
  if !s.replayMode || s.replaying then .inl 5
  else
    let blocks := s.heldBlocks.filterMap Prod.snd
    match findBase s.trip.replayFrom (blocks.flatMap Block.records) with
    | none => .inl 3
    | some (base, rest) =>
      let node := s.cfg 0o001 0 0
      if base.r 1 ≠ s.identity then .inl 1
      else if base.wide 5 3 ≠ s.publicDigest ∨ base.r 4 ≠ fld 17 17 (bits node 17 17) + fld 15 0 node then .inl 2
      else if chainGood none (blocks.filter (fun b => decide (base.block ≤ b.seq))) then .inr (base, rest)
      else .inl 4

/-- GO: refused with its reason, or the base is loaded. -/
def goServe (s : State) : State :=
  match s.goSpan with
  | .inl reason => { s with trip := { s.trip with result := 4, reason := reason } }.emitOwn 0o201007 0 0 reason
  | .inr (base, rest) => s.loadBase base rest

end State

end Sys2Proof.Machine
end

