-- ==== Sys2Proof/Machine/Trip.lean ====
section
/-!
DEFINITION. The Trip Recorder (20_trip_recorder R496 to R502, R511): arming, freezing, bases, checkpoints, gaps, the export of
the journal, and its words.
-/

namespace Sys2Proof.Machine

/-! ## Checkpoints (R497) -/

namespace State

/-- The levels of a tenant's buckets on a lane, in ten-thousandths of a byte, each as a signed number of four words (DESIGN CHOICE,
notes/assumptions/73). -/
def bucketWords (s : State) (t n : Nat) : List Nat :=
  let level := fun (tab : Tab Bucket) (rate cycles : Nat) =>
    wideWords 4 (2 ^ 72 + s.bucketDepth n rate cycles - s.bucketDebt (tabGet {} tab (16 * t + n)) rate)
  level s.tp.commitTok (s.commitRate t n) (us 100) ++ level s.tp.ceilTok (s.ceilRate t n) (ms 1) ++
    level s.tp.policeTok (s.ceilRate t n) (us 10)

/-- The words of a group, in address order. -/
def groupWords (s : State) (g : Nat) : List Nat :=
  let lowest := fun (p : RxPn) => wideWords 4 (p.lowest.getD 0)
  match g with
  | 0 => (List.range 16).flatMap (fun t => (List.range 3).map (fun i => readTenants s (0o020000 + 0o1000 * t + i)))
  | 1 => (List.range 32768).map (fun i => readQueues s (0o040000 + i))
  | 2 => (List.range 0o3000).map (fun i => readTurnpike s (0o140000 + i)) ++
      (List.range 256).flatMap (fun k => s.bucketWords (k / 16) (k % 16))
  | 3 => (List.range 16).flatMap (fun n => [readLanes s (0o010000 + 0o400 * n), readLanes s (0o010001 + 0o400 * n)])
  | 4 => (List.range 16384).flatMap (fun x => readStreams s (0o400000 + 8 * x) :: wideWords 4 (s.txStream x).nextPn)
  | 5 => (List.range 16384).flatMap (fun x =>
      readStreams s (0o400004 + 8 * x) :: (lowest (s.rxStream x).even ++ lowest (s.rxStream x).odd))
  | 6 => (List.range 69632).map (fun n => fld 17 16 (s.slot n).state.code + fld 15 11 (s.slot n).gen) ++
      (List.range 17).flatMap (fun r => wideWords 2 (s.region r).epoch)
  | _ => (List.range 16).flatMap (fun t => (List.range 16).flatMap (fun c => wideWords 2 (tabGet 0 (s.tenant t).refused (c + 1))))

/-- SUB0 to SUB7. -/
def groupSubs (s : State) : List Nat := (List.range 8).map (fun g => digestTop 18 (packNats (s.groupWords g)))

/-- The CHECK record. -/
def checkRecord (s : State) : List Nat :=
  wideWords 3 s.sinceStart ++ wideWords 3 (digestTop 54 (packNats s.groupSubs)) ++ s.groupSubs ++ [0]

/-- The word at a journal position (R494). -/
def journalWord (s : State) (p : Nat) : Nat :=
  let line := tabGet none s.trip.region (64 * (p / 1792 % s.tripBlocks) + p % 1792 / 28)
  nth (lineWords (line.getD 0)) (p % 28)

/-! ## Arming and freezing (R499, R500) -/

/-- ARM written 1: a run begins, unless memory is not ready, MODE is 0 (MODE 2 acts as MODE 0 in FIELD, R503) or a replay
runs. While a run records nothing begins (DEDUCED, notes/assumptions/73). -/
def armOn (s : State) : WordWrite :=
  let off := s.tripMode = 0 || (s.tripMode = 2 && s.cus.startState = LcState.field)
  match s.trip.state with
  | .recording | .freezing => .takes (fun s => { s with trip := { s.trip with arm := true } })
  | .replaying => .wrongState
  | _ =>
    if s.memReady && !off then .takes (fun s => { s with trip := { s.trip with arm := true } }.startRun false)
    else .wrongState

/-- ARM written 0 is a trigger of the operator's cause. -/
def armOff : WordWrite := .takes (fun s => { s with trip := { s.trip with arm := false } }.trigger 3 0)

/-- The word 0o310001 in a WRITE: ARM, then FREEZE_NOW, then GO (DEDUCED, notes/assumptions/73). -/
def writeArm (s : State) (value : Nat) : WordWrite :=
  let rest := fun (s : State) =>
    let s := if value.testBit 16 then s.trigger 3 0 else s
    if value.testBit 15 then s.goServe else s
  match (if value.testBit 17 then s.armOn else armOff) with
  | .takes f => .takes (fun s => rest (f s))
  | w => w

/-- A word of the Trip Recorder that a WRITE names. -/
def writeTrip (s : State) (a value : Nat) : WordWrite :=
  if a = 0o310001 then s.writeArm value
  else if a = 0o310021 then .takes (fun s => { s with trip := { s.trip with
    replayFrom := value * 2 ^ 18 + s.trip.replayFrom % 2 ^ 18 } })
  else if a = 0o310022 then .takes (fun s => { s with trip := { s.trip with
    replayFrom := s.trip.replayFrom / 2 ^ 18 * 2 ^ 18 + value } })
  else if a = 0o310000 ∨ (0o310002 ≤ a ∧ a ≤ 0o310015) ∨ a = 0o310020 ∨ (0o310023 ≤ a ∧ a ≤ 0o310031) then .notWritable
  else if 0o310100 ≤ a ∧ a ≤ 0o310137 then .notLive
  else .unused

end State

/-! ## Words -/

/-- The Trip Recorder words 0o310000 to 0o317777 (Table 20.9). -/
def readTrip (s : State) (a : Nat) : Nat :=
  let t := s.trip
  if a = 0o310000 then fld 17 15 t.state.code + fld 14 12 t.cause
  else if a = 0o310001 then flag 17 t.arm
  else if a = 0o310002 then t.run
  else if a = 0o310003 ∨ a = 0o310004 then wideWord 2 t.blockSeq (a - 0o310003)
  else if a = 0o310005 ∨ a = 0o310006 then wideWord 2 s.oldestBlock (a - 0o310005)
  else if a = 0o310007 ∨ a = 0o310010 then wideWord 2 t.baseSeq (a - 0o310007)
  else if a = 0o310011 then t.gaps
  else if a = 0o310012 then t.freezeEvent
  else if a = 0o310013 then t.keptBad
  else if a = 0o310014 ∨ a = 0o310015 then wideWord 2 t.checks (a - 0o310014)
  else if a = 0o310020 then fld 17 15 t.result + fld 14 12 t.reason + fld 7 0 t.divGroups
  else if a = 0o310021 ∨ a = 0o310022 then wideWord 2 t.replayFrom (a - 0o310021)
  else if a = 0o310023 ∨ a = 0o310024 then wideWord 2 t.divCheck (a - 0o310023)
  else if 0o310025 ≤ a ∧ a ≤ 0o310027 then wideWord 3 t.divTime (a - 0o310025)
  else if a = 0o310030 ∨ a = 0o310031 then wideWord 2 t.replayPos (a - 0o310030)
  else if 0o310100 ≤ a ∧ a ≤ 0o310137 then s.cfg 0o012 0 (a - 0o310100)
  else 0

/-! ## Commands -/

/-- ARM (R499, R500). -/
def execArm (r : VerbCall) (on : Bool) (s : State) : Host.Outcome State Fault Refusal :=
  act [.free, .once, .image, .keys, .tenants, .tp, .sp] s (fun s => s.writeLive r 0o310001 (flag 17 on) (fun s => if on then s.armOn else State.armOff))

/-- FREEZE_NOW (R500): ARM keeps its value. -/
def execFreezeNow (r : VerbCall) (s : State) : Host.Outcome State Fault Refusal :=
  act [.once, .image, .keys, .tenants, .tp, .sp] s (fun s => s.writeLive r 0o310001 (2 ^ 16 + flag 17 s.trip.arm) (fun _ => .takes (fun s => s.trigger 3 0)))

/-- POST_BLOCKS_WRITTEN (R500): recording has stopped at the boundary that the trigger set. -/
def execPostBlocksWritten (s : State) : Host.Outcome State Fault Refusal :=
  act [] s (fun s =>
    if s.trip.state = TripState.freezing && decide (s.trip.stopAt ≤ s.trip.blockSeq) then
      { s with trip := { s.trip with cur := [], records := 0 } }.freezeNow
    else s)

/-- BASE_CAPTURE (R496): at least BASE_S seconds after the previous capture, while SPILL_HELD is 0. -/
def execBaseCapture (s : State) : Host.Outcome State Fault Refusal :=
  act [.now, .free, .tp] s (fun s =>
    if s.recording && s.tp.queues.all (fun e => decide (State.held e.2 .spill = 0)) then
      (s.upTo (s.trip.capturedAt + secs (bits (s.tripWord 1) 17 6))).captureBase false
    else s)

/-- CHECKPOINT_CAPTURE (R497): CHECK_MS after the previous one. -/
def execCheckpointCapture (s : State) : Host.Outcome State Fault Refusal :=
  act [.now, .free, .tp] s (fun s =>
    if s.recording then
      let s := s.upTo s.trip.checkDue
      let s := s.record 0o17 s.checkRecord
      { s with trip := { s.trip with checks := satInc 36 s.trip.checks, checkDue := s.trip.checkDue + ms (s.tripWord 2) } }
    else s)

/-- GAP_RECORD (R498): space has returned in the staging buffer (DESIGN CHOICE, notes/assumptions/72). -/
def execGapRecord (s : State) : Host.Outcome State Fault Refusal :=
  act [.now, .free, .tp] s (fun s =>
    let lost := s.trip.lost
    if s.recording && decide (lost ≠ 0) then
      -- The time until 4 words fit again.
      let s := s.upTo (s.now + (s.stagedNow + 320 - 35 * 2 ^ 20 + 167) / 168)
      let s := { s with trip := { s.trip with lost := 0, gaps := satInc 18 s.trip.gaps } }
      (s.record 0o20 (wideWords 2 lost ++ [0])).emitOwn 0o201002 0 0 0
    else s)

/-- EXPORT of source 0o2 (R448, R494, R502): words from a position of the journal, which ends at its last complete block
(DEDUCED, notes/assumptions/74). -/
def execExportJournal (r : VerbCall) (position : BitVec 36) (count : Word) (s : State) : Host.Outcome State Fault Refusal :=
  act [.once, .image, .keys, .tenants, .tp, .sp] s (fun s =>
    s.serve r 0o16 (State.isOperator r.caller) none ([2] ++ wideWords 2 position.toNat ++ [count.toNat]) (fun s =>
      if !decide (1 ≤ count.toNat ∧ count.toNat ≤ 640) then { st := s, status := stBadValue }
      else if s.mem.quarantined || s.start.memState = MemState.unavailable then { st := s, status := stWrongState }
      else
        let pos := position.toNat
        let oldest := 1792 * s.oldestBlock
        let last := 1792 * s.trip.blockSeq
        let gap := decide (pos < oldest)
        let start := if gap then oldest else pos
        let n := if start < last then min count.toNat (last - start) else 0
        let out := (List.range n).map (fun i => BitVec.ofNat 18 (s.journalWord (start + i)))
        { st := s, status := stDone
          words := ((wideWords 2 ((start + n) % 2 ^ 36)).map (BitVec.ofNat 18)) ++ [BitVec.ofNat 18 (flag 17 gap)] ++ out }))

end Sys2Proof.Machine
end

