-- ==== Sys2Proof/Machine/Start.lean ====
section
/-!
DEFINITION. The start sequence (03_start_of_day), the host reset and the supply monitor (02_package_and_barrier R45 to
R57, 22_electrical_timing R546), and the start status words.
-/

namespace Sys2Proof.Machine

namespace State

/-- A start ends without RUNNING (Table 3.4). -/
def endStart (s : State) (o : StartOutcome) : State :=
  { s with start := { s.start with outcome := o, tEnd := some s.now } }.startPress.settleAlert

/-- STRANDED (Table 3.4) (DEDUCED, notes/assumptions/15; DEDUCED, notes/assumptions/16). -/
def strand (s : State) : State := (s.emitDev 0o023002).endStart .stranded

/-- Step 4 has ended: the start goes as far as its life-cycle state lets it (Table 3.2). -/
def afterStep4 (s : State) : State :=
  let st := s.lcState
  let s := { s with cus := { s.cus with startState := st } }
  match st with
  | .retired => s.endStart .held
  | .blank => { s with start := { s.start with phase := 4 } }.endStart .held
  | _ => { s with start := { s.start with phase := 4 } }

/-- Completes pending rungs forward, in order, with the fuses of each done pair that verified (R64, R125) (DEDUCED,
notes/assumptions/16; DEDUCED, notes/assumptions/17). -/
def completeForward : List (Ladder × Nat) → List (Bool × Bool) → State → State
  | [], _, s => { s with cus := { s.cus with pend := none }, start := { s.start with phase := 4 } }.afterStep4
  | (l, k) :: rest, fs, s =>
    let f := fs.headD (true, true)
    let s := { s with cus := { s.cus with pend := some (l, k) } }.blowRung l k (flag 1 f.1 + flag 0 f.2)
    if f.1 && f.2 then
      completeForward rest fs.tail ({ s with start := { s.start with fwdDone := true } }.emitDev 0o010001)
    else (s.emitDev 0o014002).endStart .transitionHalt

/-- The start is under way and the given step is the last that has ended. -/
def startAt (s : State) (phase : Nat) : Bool :=
  s.start.begun && decide (s.start.outcome = StartOutcome.starting) && decide (s.start.phase = phase)

/-- Code of a slot as SLOT gives it: 1 A, 2 B, 3 staged. -/
def setSlotResult (s : State) (slot code : Nat) : State :=
  if slot = 3 then { s with start := { s.start with resStaged := code } }
  else if slot = 1 then { s with start := { s.start with resA := code } }
  else { s with start := { s.start with resB := code } }

end State

/-! ## Resets and supplies -/

/-- The SPI NOR's pins NVM_CK, NVM_CS_N and NVM_IO[3:0] are driven (R79): from step 6 of a start on, until it ends otherwise
than RUNNING; else they are at high impedance, and slots may be programmed from outside (R86). -/
def State.nvmDriven (s : State) : Bool :=
  s.start.begun && (match s.start.outcome with
    | .starting => decide (5 ≤ s.start.phase)
    | .running => true
    | .stranded | .transitionHalt | .held => false)

/-- What an external programmer has written into the slots since the SPI NOR's pins were released (R86). -/
def State.programmed (s : State) (l : List (Fin 3 × List Byte)) : State :=
  let slots := l.foldl (fun t e => tabPut [] t (e.1.val + 1) (e.2.map BitVec.toNat)) s.nor.slots
  { s with nor := { s.nor with slots := slots } }

/-- HOST_RST_N_RELEASE (R58, R38, R62): step 1 of a start, unless a host rail is below its reset threshold (R45): the host then
stays in reset until it rises. -/
def execHostRstNRelease (nvmVsel : Bool) (railLow : BitVec 7) (capture : PufState) (programmed : List (Fin 3 × List Byte))
    (s : State) : Host.Outcome State Fault Refusal :=
  act [.pins, .start, .nor] s (fun s =>
    if s.pins.hostRstLow then
      let s := { s.programmed programmed with
        pins := { s.pins with hostRstLow := false, nvmVsel := nvmVsel, railLow := railLow.toNat } }
      if railLow = 0 then s.beginStart s.pins.resetCause capture.toNat else s
    else s)

/-- HOST_RST_N_ASSERTION (R546): a low shorter than 0.1 µs is ignored, one of 0.3 µs or longer always resets, and one
between the two may or may not (DEDUCED, notes/assumptions/20). -/
def execHostRstNAssertion (lowNs : Nat) (s : State) : Host.Outcome State Fault Refusal :=
  act [.free, .once, .pins, .start, .nor, .image, .cus, .keys, .trng, .jun, .lanes, .tenants, .tp, .link, .zheac, .mem, .cway, .stn, .sp, .way, .promoted] s (fun s =>
    if s.pins.hostRstLow || decide (lowNs < 100) then s
    else
      let hit := decide (300 ≤ lowNs) || Config.freeBool s.free
      let s := { s with free := s.free + 1 }
      if hit then
        let s := s.hostReset 1
        { s with pins := { s.pins with hostRstLow := true, resetCause := 1 } }
      else s)

/-- SUPPLY_WARNING (R47). -/
def execSupplyWarning (rail : Fin 7) (s : State) : Host.Outcome State Fault Refusal :=
  act [.pins] s (fun s => { s with pins := { s.pins with railWarn := s.pins.railWarn ||| 2 ^ rail.val } })

/-- The host rails after one of them fell. -/
def railsAfter (low rail : Nat) (fall : RailFall) : Nat :=
  match fall with
  | .recovers => low &&& (0o177 - 2 ^ rail)
  | .stays => low ||| 2 ^ rail
  | .powerLost => 0o177

/-- SUPPLY_MONITOR_RESET (R47, R58, R80): the host section resets, and starts once no rail is below its threshold and HOST_RST_N
is high (R45). A loss of host power is a fall of every rail; the start that follows it is one of power-up, and begins with a release
of HOST_RST_N (Table 2.8; DEDUCED, notes/assumptions/19). -/
def execSupplyMonitorReset (rail : Fin 7) (fall : RailFall) (capture : PufState) (s : State) :
    Host.Outcome State Fault Refusal :=
  act [.once, .pins, .start, .nor, .image, .cus, .keys, .trng, .jun, .lanes, .tenants, .tp, .link, .zheac, .mem, .cway, .stn, .sp, .way, .promoted] s (fun s =>
    let lost := decide (fall = RailFall.powerLost)
    let s := s.hostReset (if lost then 0 else 2)
    let s := { s with pins := { s.pins with
      railWarn := s.pins.railWarn ||| 2 ^ rail.val
      railLow := railsAfter s.pins.railLow rail.val fall
      hostRstLow := s.pins.hostRstLow || lost
      resetCause := if lost then 0 else 2 } }
    if s.pins.hostRstLow || decide (s.pins.railLow ≠ 0) then s else s.beginStart 2 capture.toNat)

/-- XO_IN_RUNS (R63): a start held before step 2 goes on. -/
def execXoInRuns (s : State) : Host.Outcome State Fault Refusal :=
  act [.pins] s (fun s => { s with pins := { s.pins with xoRuns := true } })

/-! ## Steps of Table 3.1 -/

/-- ROOT_APLL_LOCKED: step 2, with the wipe of every slot (R146), Junction in FREE RUN and the Causeway link started at
step 2b (R74). -/
def execRootApllLocked (failing : List Nat) (s : State) : Host.Outcome State Fault Refusal :=
  act [.start, .keys, .jun] s (fun s =>
    if s.startAt 1 && s.pins.xoRuns then
      let s := { s with
        start := { s.start with phase := 2 }
        jun := { s.jun with since := s.now }
        mile := { s.mile with slotsFrom := some s.now } }
      (s.wipeAll failing).startCauseway
    else s)

/-- OTP_READ: step 3. Without a pending rung step 4 takes no time (R61). -/
def execOtpRead (s : State) : Host.Outcome State Fault Refusal :=
  act [.start, .cus] s (fun s =>
    if s.startAt 2 then
      let s := { s with
        start := { s.start with phase := 3 }
        cus := { s.cus with startState := s.lcState, pend := s.pendingRungs.head? } }
      if s.pendingRungs.isEmpty then s.afterStep4 else s
    else s)

/-- FORWARD_COMPLETION: step 4 with pending rungs (R64) (DEDUCED, notes/assumptions/17). -/
def execForwardCompletion (fuses : List (Bool × Bool)) (s : State) : Host.Outcome State Fault Refusal :=
  act [.start, .cus, .otp] s (fun s =>
    if s.startAt 3 && !s.pendingRungs.isEmpty then State.completeForward s.pendingRungs fuses s else s)

/-- PUF_REREADOUT (R65). -/
def execPufRereadout (capture : PufState) (s : State) : Host.Outcome State Fault Refusal :=
  act [.start] s (fun s =>
    if s.startAt 4 && s.start.reReadout then
      { s with start := { s.start with captures := s.start.captures + 1, reReadout := false, capture := some capture.toNat } }
    else s)

/-- The PUF secret that the capture in the holding buffer gives under the lowest valid helper bank (R119, R133); none when it
does not correct. -/
def State.secret (s : State) : Option Nat :=
  match s.start.capture, State.lowestBank s.helperValid with
  | some c, some b => pufSecret c (s.helperBits b)
  | _, _ => none

/-- ROOT_DERIVED: step 5 (R65, R133 to R137): the capture is cleared once the root is derived. A capture that does not correct is
read again up to three times; a device without a valid helper bank corrects nothing (DEDUCED, notes/assumptions/15). -/
def execRootDerived (s : State) : Host.Outcome State Fault Refusal :=
  act [.start, .cus, .keys, .trng] s (fun s =>
    if s.startAt 4 && !s.start.reReadout then
      match s.secret with
      | some k =>
        let s := { s with
          start := { s.start with phase := 5, root := if s.start.captures ≤ 1 then 1 else 2, capture := none } }.deriveKeys k
        if s.cus.startState = LcState.test then s.endStart .held else s
      | none =>
        if s.start.captures ≥ 4 then
          let s := { s with start := { s.start with root := 3, capture := none } }
          ((s.emitDev 0o023002).emitDev 0o044001).endStart .stranded
        else { s with start := { s.start with reReadout := true } }
    else s)

/-- SFDP_DISCOVERY: step 6 (R67, R86, R103, R104) (DEDUCED, notes/assumptions/18). -/
def execSfdpDiscovery (nor : NorRead) (s : State) : Host.Outcome State Fault Refusal :=
  act [.start, .nor] s (fun s =>
    if s.startAt 5 then
      let boot := if nor.usable && decide (24 < nor.sizeMib) then nor.boot else none
      let writable := nor.usable && nor.erase4k && decide (32 ≤ nor.sizeMib)
      let s := { s with
        start := { s.start with phase := 6 }
        nor := { slots := s.nor.slots, usable := nor.usable, writable := writable, sizeMib := nor.sizeMib, boot := boot,
                 journal := if nor.usable then nor.journal.filterMap (fun (e : Nat × List Word) => leaseOf e.1 e.2) else [] } }
      let s := { s with nor := { s.nor with appendSector := s.journalStart } }
      let s := if writable then s else s.emitDev 0o021013
      match boot with
      | none => { s with start := { s.start with cands := [1, 2] } }
      | some b =>
        if !bootValid b then { s with start := { s.start with bootBad := true, cands := [1, 2] } }
        else if (wordAt b 2).toNat.testBit 17 then
          if writable then { s with start := { s.start with clearing := true } }
          else { s with start := { s.start with bootStuck := true, cands := [1, 2] } }
        else { s with start := { s.start with cands := [1, 2] } }
    else s)

/-- BOOT_RECORD_CLEARED (R69): the request is consumed before the staged slot is read; a request that cannot be cleared is
never acted on (DEDUCED, notes/assumptions/18). -/
def execBootRecordCleared (refused readsBack : Bool) (s : State) : Host.Outcome State Fault Refusal :=
  act [.start, .nor] s (fun s =>
    if s.startAt 6 && s.start.clearing then
      let s := { s with start := { s.start with clearing := false } }
      if refused || !readsBack then
        { s with start := { s.start with bootStuck := true, cands := [1, 2] } }.emitDev 0o021013
      else
        let seq := match s.nor.boot with
          | some b => (wordAt b 1).toNat + 1
          | none => 1
        { s with
          start := { s.start with bootReq := true, cands := [3, 1, 2] }
          nor := { s.nor with boot := some (bootRecord seq false) } }
    else s)

/-- SLOT_VERIFIED: step 7 for one candidate (R69, R70). In PROVISION without a fused hash it is each candidate that is marked 0o4
(R66; DESIGN CHOICE, notes/assumptions/15). -/
def execSlotVerified (readError : Option Nat) (s : State) : Host.Outcome State Fault Refusal :=
  act [.start, .image, .cus] s (fun s =>
    match s.start.cands with
    | [] => s
    | c :: rest =>
      if s.startAt 6 && !s.start.clearing && s.image.accepted.isNone then
        let v := s.verifySlot c readError
        let d := s.slotRead c readError
        let s := s.setSlotResult c v.1
        let s := { s with start := { s.start with cands := rest } }
        let s := if s.headerRead c d then { s with start := { s.start with nvmDiv := headerDiv d.header } } else s
        let provision := decide (s.cus.startState = LcState.provision)
        if v.1 = 1 then
          let s := { s with start := { s.start with phase := 7 } }
          if provision then s.endStart .held
          else { s with
            start := { s.start with slot := c }
            image := { s.image with accepted := v.2 } }
        else
          let s := s.emitDev 0o021001
          if rest.isEmpty then
            (if provision then { s with start := { s.start with phase := 7 } }.endStart .held else s.strand)
          else s
      else s)

/-- IMAGE_APPLIED: step 8. -/
def execImageApplied (s : State) : Host.Outcome State Fault Refusal :=
  act [.free, .once, .start, .image, .cus, .keys, .trng, .jun, .lanes, .tenants, .tp, .link, .zheac, .cway, .stn, .way] s (fun s =>
    match s.image.accepted with
    | some i =>
      if s.startAt 7 then
        let s := { s with
          start := { s.start with phase := 8 }
          image := { s.image with running := some i, runSource := s.start.slot, accepted := none } }
        s.applyAll
      else s
    | none => s)

/-- SDRAM_TRAINING_END: step 9 (R73). -/
def execSdramTrainingEnd (failed : BitVec 4) (s : State) : Host.Outcome State Fault Refusal :=
  act [.start] s (fun s =>
    if s.startAt 8 && decide (s.start.memState = MemState.training) then
      let ch := s.channelsConfigured
      let bad := ch.filter (fun c => failed.toNat.testBit c)
      let s := { s with start := { s.start with
        phase := 9,
        channels := ch.map (fun c => (c, if bad.contains c then 2 else 1)) } }
      if bad.isEmpty then s
      else { s with start := { s.start with memState := .unavailable } }.emitDev 0o123001
    else s)

/-- Kept blocks that fail R501: each TAG is checked when the start runs in the LC_STATE of the run. -/
def State.badBlocks (s : State) : Nat :=
  let key := if s.cus.startState.code = s.trip.runState then some s.tripKey else none
  let held := (List.range s.trip.blockSeq).drop s.oldestBlock
  (held.filter (fun i => !(s.journalBlock i).any (fun b =>
    decide (b.seq = i) && b.passes (if s.oldestBlock < i then s.journalBlock (i - 1) else none) key))).length

/-- Step 10 checks the kept journal (R501), `upsets` the lines of region 17 that changed while it was kept. Without one, MODE 1 with AT_START begins a run (R499) (DEDUCED,
notes/assumptions/24). -/
def State.startTrip (s : State) (upsets : List (Nat × BitVec 512)) : State :=
  if s.trip.state = TripState.kept then
    let region := upsets.foldl (fun r e => tabPut none r e.1 (some e.2.toNat)) s.trip.region
    let s := { s with trip := { s.trip with region := region } }
    let bad := s.badBlocks
    if bad = 0 then s else { s with trip := { s.trip with keptBad := sat 18 bad } }.emitDev 0o203004
  else if s.tripMode = 1 && (s.tripWord 0).testBit 15 && s.memReady then s.startRun true
  else s

/-- OUTCOME_RUNNING: step 10, at the later of steps 9 and 2a (R73, R77). The first Milepost window begins (R479). -/
def execOutcomeRunning (upsets : List (Nat × BitVec 512)) (s : State) : Host.Outcome State Fault Refusal :=
  act [.free, .once, .start, .image, .cus, .keys, .trng, .lanes, .tenants, .tp, .link, .zheac, .way, .mem, .sp] s (fun s =>
    if (s.startAt 9 || (s.startAt 8 && decide (s.start.memState = MemState.noneConfigured))) &&
        decide (s.trng.state ≠ TrngState.startup) then
      let s := { s with
        start := { s.start with phase := 10, outcome := .running, tEnd := some s.now }
        mile := { s.mile with began := some s.now } }
      let s := if s.start.memState = MemState.training then s.settleMemory else s
      (s.emitDev 0o020003).startPress.settleAlert.startPins.startTrip upsets
    else s)

/-- MEMORY_KEYS_DRAWN (R73): memory waiting for entropy becomes ready. -/
def execMemoryKeysDrawn (s : State) : Host.Outcome State Fault Refusal :=
  act [.start, .keys, .trng, .mem] s (fun s => if s.start.memState = MemState.waiting then s.settleMemory else s)

/-- MPORT_LINK_UP: step 2c, and each reconnection of the cable (R548). -/
def execMportLinkUp (s : State) : Host.Outcome State Fault Refusal :=
  act [.start] s (fun s =>
    if s.start.begun && decide (2 ≤ s.start.phase) then { s with start := { s.start with mportUp := true } } else s)

/-- MPORT_LINK_DOWN (R548). -/
def execMportLinkDown (s : State) : Host.Outcome State Fault Refusal :=
  act [.start] s (fun s => { s with start := { s.start with mportUp := false } })

/-! ## Words -/

/-- The start status words 0o002000 to 0o002005 (Table 3.8). -/
def readStart (s : State) (a : Nat) : Nat :=
  let t := s.start
  if a = 0o002000 then
    fld 17 15 t.outcome.code + fld 14 9 t.phase + fld 8 6 t.cause + fld 5 3 t.slot + fld 2 0 t.root
  else if a = 0o002001 then fld 17 15 t.resStaged + fld 14 12 t.resA + fld 11 9 t.resB
  else if a = 0o002002 then sat 18 ((t.tEnd.getD s.now - t.t0) / us 10)
  else if a = 0o002003 then flag 17 t.fwdDone + flag 16 t.bootReq + flag 15 t.bootBad + flag 14 t.bootStuck
  else if a = 0o002004 then fld 9 0 t.nvmDiv
  else if a = 0o002005 then
    fld 17 15 t.memState.code + (List.range 4).foldl (fun v c => v + tabGet 0 t.channels c * 4 ^ c) 0
  else 0

/-- The supply and strap words 0o173770 to 0o173772 (Table 2.11) (DEDUCED, notes/assumptions/66). -/
def readSupply (s : State) (a : Nat) : Nat :=
  if a = 0o173770 then fld 6 0 s.pins.railWarn
  else if a = 0o173771 then fld 17 15 s.cway.lastCause + fld 14 0 s.cway.restarts
  else if a = 0o173772 then flag 17 s.pins.nvmVsel
  else 0

end Sys2Proof.Machine
end

