-- ==== Sys2Proof/Machine/Verge.lean ====
section
/-!
DEFINITION. Commands of the Verge die (15_verge_and_stations R358 to R372; 02_package_and_barrier R48, R49; 22_electrical
R547).
-/

namespace Sys2Proof.Machine

/-! ## Supplies, resets and clock -/

/-- VF33_LOSS (R48). -/
def execVf33Loss (s : State) : Host.Outcome State Fault Refusal :=
  act [.cway, .verge] s (fun s => if s.verge.vf33Low then s else s.vergeReset 1 { s.verge with vf33Low := true })

/-- VF33_RELEASE (R48): the die waits for its clock. -/
def execVf33Release (s : State) : Host.Outcome State Fault Refusal :=
  act [.verge] s (fun s => { s with verge := { s.verge with vf33Low := false } })

/-- FIELD_RST_N (R49, R547): a low of 1 µs or longer resets the die, one shorter than 0.1 µs is ignored, and one between the
two may or may not (DEDUCED, notes/assumptions/20). -/
def execFieldRstN (lowNs : Nat) (s : State) : Host.Outcome State Fault Refusal :=
  act [.free, .cway, .verge] s (fun s =>
    if s.verge.rstLow || decide (lowNs < 100) then s
    else
      let hit := decide (1000 ≤ lowNs) || Config.freeBool s.free
      let s := { s with free := s.free + 1 }
      if hit then s.vergeReset 2 { s.verge with rstLow := true } else s)

/-- FIELD_RST_N_RELEASE (R547). -/
def execFieldRstNRelease (s : State) : Host.Outcome State Fault Refusal :=
  act [.verge] s (fun s => { s with verge := { s.verge with rstLow := false } })

/-- VERGE_CLOCK_LOSS (R331): neither D0 nor D1 shows a transition for 1 µs. -/
def execVergeClockLoss (s : State) : Host.Outcome State Fault Refusal :=
  act [.cway, .verge] s (fun s => if s.verge.clockLost then s else s.vergeReset 3 { s.verge with clockLost := true })

/-- VERGE_CDR_LOCK (R331, R364): ports run on their retained configuration. -/
def execVergeCdrLock (s : State) : Host.Outcome State Fault Refusal :=
  act [.verge] s (fun s =>
    if s.start.linkStarted && !s.verge.vf33Low && !s.verge.rstLow && !s.verge.locked then
      let s := { s with verge := { s.verge with clockLost := false, locked := true } }
      (List.range 10).foldl (fun s p => if (s.port p).mode = 0 then s else s.portConfigure p (s.port p).config) s
    else s)

/-! ## Configuration and commands of a port (R364) -/

def isPortConfig : Msg → Bool
  | .portConfig _ _ _ => true
  | _ => false

/-- PORT_CONFIG_RX (R353, R364): the port may forward whole frames from now on. -/
def execPortConfigRx (fault : MsgFault) (s : State) : Host.Outcome State Fault Refusal :=
  act [.cway, .verge] s (fun s =>
    match s.take .down .state fault isPortConfig with
    | (some (.portConfig p g v), s) =>
      let w := s.port p
      let w := if w.genSet then w else { w with gen := g, genSet := true }
      ((s.setPort p { w with fwd := true }).portConfigure p v).refresh p
    | (_, s) => s)

def isPortCmd (action : Nat) : Msg → Bool
  | .portCmd _ _ a => decide (a = action)
  | _ => false

/-- A PORT_CMD up to its effect: refused with STALE when its condition names another generation (R352). -/
def State.portCommand (s : State) (action : Nat) (fault : MsgFault) (run : State → Nat → State) : State :=
  match s.take .down .state fault (isPortCmd action) with
  | (some (.portCmd p cond _), s) =>
    let stale := match cond with
      | some g => decide ((s.port p).gen ≠ g)
      | none => false
    let s := if stale then s else (run s p).refresh p
    s.sendMsg .up .state (.cmdReply p (if stale then 1 else 0))
  | (_, s) => s

/-- PORT_CMD_RETRY (R363): a DOWN port returns to IDLE. -/
def execPortCmdRetry (fault : MsgFault) (s : State) : Host.Outcome State Fault Refusal :=
  act [.cway, .verge] s (fun s => s.portCommand 1 fault (fun s p =>
    if (s.port p).state = PortState.down then
      ((s.portEnter p .idle { State.portRelease (s.port p) with ldRun := 0 }).vergeEvent p 0o140003 p).portStart p
    else s))

/-- PORT_CMD_CLEAR (R364): the port's counters are cleared. -/
def execPortCmdClear (fault : MsgFault) (s : State) : Host.Outcome State Fault Refusal :=
  act [.cway, .verge] s (fun s => s.portCommand 2 fault (fun s p =>
    s.setPort p { s.port p with
      framesRx := 0, frameErr := 0, gapAborts := 0, duplicates := 0, early := 0, holdLost := 0, framesTx := 0,
      downQuota := 0, downLd := 0 }))

def isStateQuery : Msg → Bool
  | .stateQuery => true
  | _ => false

/-- STATE_QUERY_RX (R343): a STATE_UPDATE for every unit. -/
def execStateQueryRx (fault : MsgFault) (s : State) : Host.Outcome State Fault Refusal :=
  act [.cway, .verge] s (fun s =>
    match s.take .down .state fault isStateQuery with
    | (some _, s) => (List.range 10 ++ [0o12, 0o13]).foldl (fun s u => s.refresh u) s
    | (none, s) => s)

/-! ## Upstream (R366 to R372) -/

namespace State

/-- The port receives (R358, R361). -/
def portHears (s : State) (p : Nat) : Bool := s.vergeRuns && decide ((s.port p).mode ≠ 0) && !(s.port p).de

/-- Reception of a frame has ended. -/
def portHunt (s : State) (p : Nat) : State :=
  let v := { s.port p with inFrame := false }
  if v.state = PortState.receiving then (s.portEnter p .idle v).portStart p else s.setPort p v

/-- Bytes that the upstream hold holds (R372). -/
def holdBytes (s : State) : Nat :=
  ((s.chan .up .station).waiting.map (fun m => match m with
    | .stationUp _ f => f.length
    | _ => 0)).sum

end State

/-- SOF_RECEIVED (R368): the port enters RECEIVING. -/
def execSofReceived (port : Fin 10) (s : State) : Host.Outcome State Fault Refusal :=
  act [.cway, .verge] s (fun s =>
    let p := port.val
    if s.portHears p then
      let v := { s.port p with inFrame := true }
      (if v.state = PortState.idle then s.portEnter p .receiving v else s.setPort p v).refresh p
    else s)

/-- A frame that R368 lets through meets the steps of Table 15.3 (R369). -/
def State.portFrame (s : State) (p : Nat) (f : List Nat) : State :=
  let v := { s.port p with framesRx := satInc 36 (s.port p).framesRx }
  let s := s.setPort p v
  let n := nfStation f
  let s := if nfMetered f && !s.isN then s.meterCopy (.meterSection n p (nfMeter f)) else s
  if tabGet none s.verge.dups (n % 4096) = some (n, nfSeq f) then
    s.setPort p { v with duplicates := satInc 18 v.duplicates }
  else
    let s := { s with verge := { s.verge with dups := tabPut none s.verge.dups (n % 4096) (some (n, nfSeq f)) } }
    if !v.fwd then s.setPort p { v with early := satInc 18 v.early }
    else if s.holdBytes + f.length > 65536 then s.setPort p { v with holdLost := satInc 18 v.holdLost }
    else s.sendMsg .up .station (.stationUp p f)

/-- STATION_FRAME_RX (R368, R369, Table 15.3): the bytes of a frame from its SOF on; without one the port goes on hunting. -/
def execStationFrameRx (port : Fin 10) (bytes : List Byte) (s : State) : Host.Outcome State Fault Refusal :=
  act [.cway, .verge] s (fun s =>
    let p := port.val
    let f := bytesOf bytes
    if !s.portHears p || !nfSof f then s
    else
      let s := s.portHunt p
      let v := s.port p
      (if frameBad f then (s.setPort p { v with frameErr := satInc 18 v.frameErr }).vergeOnce p p 0o141004 p
       else s.portFrame p f).refresh p)

/-- GAP_ABORT (R368): only an asynchronous port aborts on a gap. -/
def execGapAbort (port : Fin 10) (s : State) : Host.Outcome State Fault Refusal :=
  act [.cway, .verge] s (fun s =>
    let p := port.val
    let v := s.port p
    if s.portHears p && v.inFrame && decide (v.mode ≠ 2) then
      ((s.portHunt p).setPort p { (s.portHunt p).port p with gapAborts := satInc 18 v.gapAborts }).refresh p
    else s)

/-- SYNC_CLOCK_STOP (R360): the frame in progress on a synchronous port is aborted. A downstream frame cut short is no
longer queued and not counted as sent (DEDUCED, notes/assumptions/51). -/
def execSyncClockStop (port : Fin 10) (s : State) : Host.Outcome State Fault Refusal :=
  act [.cway, .verge] s (fun s =>
    let p := port.val
    if (s.port p).mode ≠ 2 || !s.vergeRuns then s
    else
      let s := if (s.port p).inFrame then s.portHunt p else s
      let v := s.port p
      let s := if v.state = PortState.transmitting && !v.tail then
          (s.portEnter p .idle { State.portRelease v with queue := v.queue.tail }).portStart p
        else s
      s.refresh p)

/-! ## Downstream (R361 to R363, R381) -/

def isStationDown : Msg → Bool
  | .stationDown _ => true
  | _ => false

/-- STATION_DOWN_RX (R381): the port queues up to 16 frames; one that is off or DOWN refuses with LANE-DOWN. -/
def execStationDownRx (fault : MsgFault) (s : State) : Host.Outcome State Fault Refusal :=
  act [.cway, .verge] s (fun s =>
    match s.take .down .station fault isStationDown with
    | (some (.stationDown f), s) =>
      let p := f.port
      let v := s.port p
      let s :=
        if v.state = PortState.off || v.state = PortState.down then s.setPort p { v with downLd := satInc 18 v.downLd }
        else if v.queue.length ≥ 16 then s.setPort p { v with downQuota := satInc 18 v.downQuota }
        else (s.setPort p { v with queue := v.queue ++ [f] }).portStart p
      s.refresh p
    | (_, s) => s)

/-- CTS_ASSERTED (R362, R363): it begins the LEAD time, or returns a probing DOWN port to IDLE. -/
def execCtsAsserted (port : Fin 10) (s : State) : Host.Outcome State Fault Refusal :=
  act [.cway, .verge] s (fun s =>
    let p := port.val
    let v := s.port p
    if !s.vergeRuns then s
    else if v.state = PortState.down && v.rts then
      (((s.portEnter p .idle { State.portRelease v with ldRun := 0 }).vergeEvent p 0o140003 p).portStart p).refresh p
    else ((s.setPort p { v with cts := true }).portCts p).refresh p)

/-- CTS_TIMEOUT (R362, R363): the frame is refused with LANE-DOWN, and after three in a row the port enters DOWN; a probe
without an answer ends. -/
def execCtsTimeout (port : Fin 10) (s : State) : Host.Outcome State Fault Refusal :=
  act [.cway, .verge] s (fun s =>
    let p := port.val
    let v := s.port p
    if v.state = PortState.waitCts && !v.lead then
      let w : Port := { State.portRelease v with
        queue := v.queue.tail, downLd := satInc 18 v.downLd, ldRun := v.ldRun + 1 }
      (if w.ldRun ≥ 3 then ((s.portEnter p .down w).portRefuseAll p).vergeEvent p 0o141002 p
       else (s.portEnter p .idle w).portStart p).refresh p
    else if v.state = PortState.down && v.rts then (s.setPort p (State.portRelease v)).refresh p
    else s)

/-- LEAD_EXPIRY (Table 15.1 step 3). -/
def execLeadExpiry (port : Fin 10) (s : State) : Host.Outcome State Fault Refusal :=
  act [.cway, .verge] s (fun s =>
    let p := port.val
    let v := s.port p
    if v.lead then (s.portEnter p .transmitting { v with lead := false }).refresh p else s)

/-- DOWNSTREAM_TX_END: the frame has left and the TAIL time begins. -/
def execDownstreamTxEnd (port : Fin 10) (s : State) : Host.Outcome State Fault Refusal :=
  act [.cway, .verge] s (fun s =>
    let p := port.val
    let v := s.port p
    match v.queue with
    | f :: rest =>
      if v.state = PortState.transmitting && !v.lead && !v.tail then
        ((s.setPort p { v with queue := rest, tail := true, framesTx := satInc 36 v.framesTx }).send (.station f)).refresh p
      else s
    | [] => s)

/-- TAIL_EXPIRY (Table 15.1 step 4). -/
def execTailExpiry (port : Fin 10) (s : State) : Host.Outcome State Fault Refusal :=
  act [.cway, .verge] s (fun s =>
    let p := port.val
    let v := s.port p
    if v.tail then ((s.portEnter p .idle (State.portRelease v)).portStart p).refresh p else s)

/-- DCD_CHANGE (R362): a port that DCD gates may begin asserting RTS. -/
def execDcdChange (port : Fin 10) (level : Bool) (s : State) : Host.Outcome State Fault Refusal :=
  act [.cway, .verge] s (fun s =>
    let p := port.val
    if s.vergeRuns then
      let v := { s.port p with dcd := level }
      let s := s.setPort p v
      let s := if v.state = PortState.waitCts && !v.rts && !(v.dcdGate && v.dcd) then
          (s.setPort p { v with rts := true }).portCts p
        else s
      s.refresh p
    else s)

/-- PORT_DOWN_PROBE (R363): RTS without data, every 10 s. -/
def execPortDownProbe (port : Fin 10) (s : State) : Host.Outcome State Fault Refusal :=
  act [.cway, .verge] s (fun s =>
    let p := port.val
    let v := s.port p
    if v.state = PortState.down && !v.rts then (s.setPort p { v with rts := true }).refresh p else s)

/-- FIELD_INPUT_CHANGE (R365). -/
def execFieldInputChange (input : Fin 8) (level : Bool) (s : State) : Host.Outcome State Fault Refusal :=
  act [.cway, .verge] s (fun s =>
    let i := input.val
    let g := s.verge
    if s.vergeRuns && decide (g.levels.testBit i ≠ level) then
      let s := { s with verge := { g with
        levels := if level then g.levels + 2 ^ i else g.levels - 2 ^ i
        edges := tabPut 0 g.edges i (satInc 18 (tabGet 0 g.edges i))
        finGen := (g.finGen + 1) % 32 } }
      (s.vergeOnce 0o12 i 0o140001 (fld 17 15 i + flag 14 level)).refresh 0o12
    else s)

end Sys2Proof.Machine
end

