-- ==== Sys2Proof/Machine/Registers.lean ====
section
/-!
DEFINITION. The register map (17_operator_access Table 17.12) and the verbs READ and WRITE (R441 to R444).
-/

namespace Sys2Proof.Machine

/-! ## Words that no other file reads -/

/-- The image status words 0o002006 to 0o003777 (Table 4.13) (DEDUCED, notes/assumptions/66). -/
def readImage (s : State) (a : Nat) : Nat :=
  let g := s.image
  let head := fun (f : Image → Nat) => match g.running with
    | some i => f i
    | none => 0
  if a = 0o002006 then fld 17 15 g.runSource + fld 5 0 (head Image.rung)
  else if a = 0o002007 then fld 17 15 g.applyState + fld 14 9 g.applyResult + fld 8 6 g.applySlotCode
  else if a = 0o002010 then sat 18 g.pending.length
  else if a = 0o002011 then fld 17 9 g.diffType
  else if a = 0o002012 then g.diffInst
  else if a = 0o002013 ∨ a = 0o002014 then wideWord 2 (head Image.release) (a - 0o002013)
  else if a = 0o002015 then head (fun i => i.sections.length)
  else if a = 0o002016 then head Image.buildDate
  else if a = 0o002017 ∨ a = 0o002020 then wideWord 2 (head Image.bound) (a - 0o002017)
  else if a = 0o002021 then fld 17 15 g.stagedState + fld 14 12 g.stagedCode
  else if 0o002040 ≤ a ∧ a ≤ 0o002065 then wideWord 22 (head Image.digest) (a - 0o002040)
  else if 0o003400 ≤ a ∧ a ≤ 0o003452 then
    (if s.lcState = LcState.field && s.keys.root = some LcState.field then
      wideWord 43 (s.keys.bindPub % 2 ^ 768) (a - 0o003400) else 0)
  else 0

namespace State

/-- How many entries hold an unacknowledged alarm of a class. -/
def unackOf (s : State) (c : Nat) : Nat :=
  (s.alarm.entries.filter (fun e => entryUnack e.2 && decide (evClass e.2.event = c))).length

/-- DEVICE_SCOPE (Table 18.10). METRO_STATE is as the legal window last showed it (DEDUCED, notes/assumptions/66). -/
def deviceScope (s : State) : Nat :=
  flag 17 (s.mem.quarantined || decide (s.start.memState = MemState.unavailable)) +
    flag 16 (decide (s.trng.state = TrngState.failed)) + flag 15 s.jun.xoFail +
    flag 14 (decide (s.jun.state = JunState.lost)) + flag 13 (decide (s.cway.partner = Partner.absent)) +
    flag 12 (!s.isN && s.cway.statusKnown && decide (bits (s.windowWord 0o100) 17 15 ≠ 1)) + flag 11 (decide (s.ladderValue .lease = 8191))

/-- Word `i` of an alarm entry (Table 18.10). -/
def alarmWord (n : AlarmEntry) (i : Nat) : Nat :=
  if n.state = AlarmState.free then 0
  else match i with
  | 0 => n.event
  | 1 => fld 17 14 n.kind + fld 13 0 n.number
  | 2 => fld 17 16 (match n.state with
      | .free => 0
      | .activeUnack => 1
      | .activeAck => 2
      | .clearedUnack => 3) + fld 15 0 n.count
  | 3 => n.arg
  | 4 => wideWord 2 n.firstS 0
  | 5 => wideWord 2 n.firstS 1
  | 6 => wideWord 2 n.lastS 0
  | _ => wideWord 2 n.lastS 1

/-- Word `i` of a record of the operator event ring (Table 18.2). -/
def ringRecWord (r : EventRec) (i : Nat) : Nat :=
  match i with
  | 0 => r.event
  | 1 => fld 17 14 r.kind + fld 13 0 r.number
  | 2 => r.seq
  | 3 => r.arg
  | 4 => wideWord 3 r.time 0
  | 5 => wideWord 3 r.time 1
  | 6 => wideWord 3 r.time 2
  | _ => flag 17 r.latched

end State

/-- The alarm words 0o176000 to 0o177777 (Table 18.10). -/
def readAlarms (s : State) (a : Nat) : Nat :=
  let m := s.alarm
  if a = 0o176000 then
    flag 17 m.alertLow + flag 16 m.overflow + fld 15 9 m.entries.length +
      fld 8 2 ((m.entries.filter (fun e => entryUnack e.2)).length)
  else if a = 0o176001 then fld 17 11 (s.unackOf 2) + fld 10 4 (s.unackOf 3)
  else if a = 0o176002 then fld 17 11 (s.unackOf 4) + fld 10 4 (s.unackOf 5)
  else if a = 0o176003 ∨ a = 0o176004 then wideWord 2 m.events (a - 0o176003)
  else if a = 0o176005 then m.alarmLost
  else if a = 0o176006 then m.eventSeq
  else if a = 0o176007 then m.acks
  else if a = 0o176010 then s.deviceScope
  else if a = 0o176011 then
    maskOf 16 (fun t => let v := (s.tenant t).state
      decide (v = TenState.faulted) || decide (v = TenState.resetting) || decide (v = TenState.fenced))
  else if a = 0o176012 then
    maskOf 16 (fun n => let v := (s.lane n).state
      decide (v = LaneState.down) || decide (v = LaneState.damped))
  else if a = 0o176100 then m.p0
  else if a = 0o176101 then m.p1
  else if 0o176102 ≤ a ∧ a ≤ 0o176277 then (wordAt m.body (a - 0o176102)).toNat
  else if 0o176400 ≤ a ∧ a < 0o177400 then State.alarmWord (s.alarmEntry ((a - 0o176400) / 8)) (a % 8)
  else if 0o177400 ≤ a then
    match m.ring.find? (fun r => decide (r.seq % 32 = (a - 0o177400) / 8)) with
    | some r => State.ringRecWord r (a % 8)
    | none => 0
  else 0

/-! ## The map -/

/-- A word of the address space (Table 17.12). -/
def readWord (s : State) (a : Nat) : Nat :=
  if a = 0 then s.identity
  else if a ≤ 0o000777 then readSignpost s a
  else if a ≤ 0o001777 then readCustody s a
  else if a ≤ 0o002005 then readStart s a
  else if a ≤ 0o003777 then readImage s a
  else if a ≤ 0o005777 then readJunction s a
  else if a ≤ 0o007777 then readKeys s a
  else if a ≤ 0o017777 then readLanes s a
  else if a ≤ 0o037777 then readTenants s a
  else if a ≤ 0o137777 then readQueues s a
  else if a ≤ 0o147777 then readTurnpike s a
  else if a ≤ 0o157777 then readLink s a
  else if a ≤ 0o167777 then readMemory s a
  else if a ≤ 0o170777 then readCauseway s a
  else if a ≤ 0o173767 then readVerge s a
  else if a ≤ 0o173777 then readSupply s a
  else if a ≤ 0o175777 then readLegal s a
  else if a ≤ 0o177777 then readAlarms s a
  else if a ≤ 0o277777 then readMilepost s a
  else if a ≤ 0o307777 then readWaymark s a
  else if a ≤ 0o317777 then readTrip s a
  else if a ≤ 0o377777 then 0
  else readStreams s a

namespace State

/-- A tenant reaches a word: the identity word, its own window, the status words of its own queues, the words of its own
streams (R441). -/
def tenantReach (s : State) (t a : Nat) : Bool :=
  decide (a = 0) || (decide (0o020000 ≤ a) && decide (a ≤ 0o037777) && decide ((a - 0o020000) / 0o1000 = t)) ||
    (decide (0o040000 ≤ a) && decide (a ≤ 0o137777) && decide (s.tenantOfQueue ((a - 0o040000) / 2) = some t)) ||
    (decide (0o400000 ≤ a) &&
      decide ((if a % 8 < 4 then s.tenantOfTx ((a - 0o400000) / 8) else s.tenantOfRx ((a - 0o400000) / 8)) = some t))

/-- A request without a session reaches a word (R78, R438). -/
def plainReach (a : Nat) : Bool := decide (a ≤ 0o003777) || (decide (0o176000 ≤ a) && decide (a ≤ 0o177777))

/-- A caller reaches `n` words from an address (R441). -/
def reads (s : State) (c : Caller) (a n : Nat) : Bool :=
  match c with
  | .operator _ => true
  | .tenant t => (List.range n).all (fun i => s.tenantReach t (a + i))
  | .plain => s.plainMode && (List.range n).all (fun i => plainReach (a + i))

/-! ## WRITE -/

/-- A word that holds only read fields. -/
def lies (a : Nat) (l : List (Nat × Nat)) : Bool := l.any (fun r => decide (r.1 ≤ a) && decide (a ≤ r.2))

/-- The ranges of words, other than those of a live or read/write field, that the field maps fill with read fields, where
the range holds no block of equal parts. -/
def readRanges : List (Nat × Nat) :=
  [(0o000001, 0o000013), (0o000020, 0o000023), (0o000100, 0o000377), (0o001000, 0o001004), (0o001006, 0o001007),
    (0o002000, 0o002021), (0o002040, 0o002065), (0o003400, 0o003452), (0o004000, 0o004010), (0o004020, 0o004037),
    (0o006000, 0o006004), (0o006006, 0o006016), (0o006100, 0o006152), (0o140000, 0o140006), (0o146040, 0o146077),
    (0o147740, 0o147760), (0o151000, 0o151005), (0o151010, 0o151013), (0o152001, 0o152016), (0o160000, 0o160020),
    (0o170000, 0o170010), (0o170020, 0o170025), (0o170030, 0o170032), (0o172200, 0o172210), (0o172300, 0o172303),
    (0o173000, 0o173004), (0o173010, 0o173047), (0o173101, 0o173117), (0o173771, 0o173772),
    (0o176000, 0o176012), (0o176400, 0o177777), (0o400000, 0o777777)]

/-- The ranges that the image sets and that hold no writable field. -/
def imageRanges : List (Nat × Nat) :=
  [(0o000400, 0o000437), (0o001005, 0o001005), (0o004100, 0o004106), (0o144000, 0o144777), (0o151006, 0o151006),
    (0o162000, 0o162077), (0o176102, 0o176277)]

/-- A word of a lane's block that a WRITE names (R205): on the other lanes of a group only word B is used. -/
def writeLane (s : State) (a : Nat) : WordWrite :=
  let n := (a - 0o010000) / 0o400
  let i := (a - 0o010000) % 0o400
  if i = 0 then .notWritable
  else if (s.laneLead n).any (fun m => decide (m ≠ n)) then .unused
  else if i ≤ 0o021 then .notWritable
  else if 0o040 ≤ i ∧ i ≤ 0o057 then .notLive
  else .unused

/-- A live write of a word of MODERATION (R227). -/
def writeModeration (t i v : Nat) : WordWrite :=
  let good := if i = 0 then decide (1 ≤ bits v 17 12) && decide (bits v 17 12 ≤ 32)
    else if i = 2 then decide (10 ≤ v) else true
  let w := if i = 0 then fld 17 12 (bits v 17 12) else if i = 3 then flag 17 (v.testBit 17) else v
  if good then
    .takes (fun s => s.setModeration t (wordsSet (s.tenant t).moderation i (BitVec.ofNat 18 w)))
  else .badValue

/-- A word of a tenant's window that a WRITE names (R230). -/
def writeTenant (s : State) (a v : Nat) : WordWrite :=
  let t := (a - 0o020000) / 0o1000
  let i := (a - 0o020000) % 0o1000
  if !s.configured t then .unused
  else if i = 0o006 then
    match s.ackSeq t v with
    | some _ => .takes (fun s => (s.ackSeq t v).getD s)
    | none => .badValue
  else if i ≤ 0o010 then .notWritable
  else if 0o011 ≤ i ∧ i ≤ 0o014 then writeModeration t (i - 0o011) v
  else if 0o100 ≤ i ∧ i < 0o140 then .notWritable
  else if 0o400 ≤ i ∧ i ≤ 0o477 then .notLive
  else .unused

/-- What the word at an address makes of a written value (R443). -/
def writeWord (s : State) (a v : Nat) : WordWrite :=
  if a = 0 then .notWritable
  else if 0o010000 ≤ a ∧ a ≤ 0o017777 then s.writeLane a
  else if 0o020000 ≤ a ∧ a ≤ 0o037777 then s.writeTenant a v
  else if 0o040000 ≤ a ∧ a ≤ 0o137777 then
    (if (s.tenantOfQueue ((a - 0o040000) / 2)).isSome then .notWritable else .unused)
  else if 0o200000 ≤ a ∧ a ≤ 0o307777 then writeMilepost s a v
  else if 0o310000 ≤ a ∧ a ≤ 0o317777 then s.writeTrip a v
  else if 0o174000 ≤ a ∧ a ≤ 0o175777 then (if s.isN then .unused else .notWritable)
  else if a = 0o006005 then
    (if bits v 16 0 < 69632 then .takes (fun s => { s with keys := { s.keys with slotSel := bits v 16 0 } }) else .badValue)
  else if a = 0o146000 then .takes (fun s => { s with tp := { s.tp with qsel := bits v 13 0 } })
  else if a = 0o152000 then
    .takes (fun s => { s with link := { s.link with dirRx := v.testBit 17, streamSel := bits v 13 0 } })
  else if a = 0o173100 then .takes (fun s => { s with stn := { s.stn with sel := bits v 15 0 } })
  else if a = 0o173770 then
    .takes (fun s => { s with pins := { s.pins with
      railWarn := s.pins.railWarn ^^^ (s.pins.railWarn &&& bits v 6 0) } })
  else if a = 0o176100 then
    .takes (fun s => { s with alarm := { s.alarm with p0 := fld 17 15 (bits v 17 15) } }.settleAlert)
  else if a = 0o176101 then .takes (fun s => { s with alarm := { s.alarm with p1 := fld 17 10 (bits v 17 10) } })
  else if 0o141000 ≤ a ∧ a < 0o141200 then (if a % 8 ≤ 4 then .notWritable else .unused)
  else if 0o142000 ≤ a ∧ a < 0o142400 then (if a % 16 ≤ 2 then .notWritable else .unused)
  else if 0o150000 ≤ a ∧ a < 0o150400 then (if a % 16 < 12 then .notWritable else .unused)
  else if 0o161000 ≤ a ∧ a < 0o161440 then (if a % 16 ≤ 6 then .notWritable else .unused)
  else if 0o171000 ≤ a ∧ a < 0o172200 then
    (if a % 64 ≤ 0o14 then .notWritable else if 0o40 ≤ a % 64 ∧ a % 64 ≤ 0o45 then .notLive else .unused)
  else if lies a imageRanges then .notLive
  else if lies a readRanges then .notWritable
  else .unused

/-- The first word of a WRITE that fails, with its STATUS and offset. -/
def firstRefused (s : State) (a : Nat) (ws : List Word) : Option (Nat × Nat) :=
  (List.range ws.length).findSome? (fun i =>
    ((s.writeWord (a + i) (wordAt ws i).toNat).refuses).map (fun st => (st, i)))

/-- The owners apply the words in address order (R443). -/
def writeWords (s : State) (a : Nat) (ws : List Word) : State :=
  (List.range ws.length).foldl (fun s i => (s.writeWord (a + i) (wordAt ws i).toNat).run s) s

/-- The generation-bearing word of the unit whose words a WRITE names (R444): the tenant's W (DEDUCED,
notes/assumptions/65). -/
def writeUnit (s : State) (a : Nat) : Option (Nat × Nat) :=
  if 0o020000 ≤ a ∧ a ≤ 0o037777 then
    let t := (a - 0o020000) / 0o1000
    some (tenantWindow t, (s.tenant t).gen)
  else none

end State

/-! ## Commands -/

/-- READ (R441, R442). -/
def execRead (r : VerbCall) (address count : Word) (s : State) : Host.Outcome State Fault Refusal :=
  act [.once, .image, .keys, .tenants, .tp, .sp] s (fun s =>
    let a := address.toNat
    let n := count.toNat
    s.serve r 0o01 (s.reads r.caller a n) none [a, n] (fun s =>
      if decide (1 ≤ n ∧ n ≤ 640 ∧ a + n ≤ 2 ^ 18) then
        { st := s, status := stDone, words := (List.range n).map (fun i => BitVec.ofNat 18 (readWord s (a + i))) }
      else { st := s, status := stBadValue }))

/-- WRITE (R443): by the operator, or by a tenant to its own ACK_SEQ (DEDUCED, notes/assumptions/65). -/
def execWrite (r : VerbCall) (address : Word) (words : List Word) (s : State) : Host.Outcome State Fault Refusal :=
  act [.free, .once, .pins, .start, .image, .keys, .trng, .jun, .lanes, .tenants, .tp, .link, .zheac, .mem, .cway, .stn, .sp, .way] s (fun s =>
    let a := address.toNat
    let n := words.length
    let allowed := match r.caller with
      | .operator _ => true
      | .tenant t => decide (a = tenantWindow t + 6 ∧ n = 1)
      | .plain => false
    s.serve r 0o02 allowed (s.writeUnit a) (a :: n :: words.map BitVec.toNat) (fun s =>
      if decide (1 ≤ n ∧ n ≤ 16 ∧ a + n ≤ 2 ^ 18) then
        match s.firstRefused a words with
        | some (st, i) => s.writeRefused st i
        | none => { st := s.writeWords a words, status := stDone }
      else { st := s, status := stBadValue }))

end Sys2Proof.Machine
end

