-- ==== Sys2Proof/Machine/Replay.lean ====
section
/-!
DEFINITION. Replay on an ANALYSIS unit (20_trip_recorder R503 to R507, Table 20.5): what the records force, and the commands.
-/

namespace Sys2Proof.Machine

namespace State

/-! ## Forced changes (R505, Table 20.5) -/

/-- A LANE record: the lane enters the state, with what follows for its frames and the events of its owner. -/
def forceLane (s : State) (n : Nat) (st : LaneState) (cause : Nat) : State :=
  let was := (s.lane n).state
  if was = st then s
  else
    let up := decide (was = LaneState.up)
    let s := if up then s.cutFrame n else s
    let v := s.lane n
    let held := v.holdUntil.isSome
    let v := { v with
      cause := cause
      flaps := if up then satInc 18 v.flaps else v.flaps
      upSince := if st = LaneState.up then s.now else v.upSince
      holdUntil := if st = LaneState.hold then some s.now else if st = LaneState.training then v.holdUntil else none }
    let s := s.laneEnter n st v
    let s := if up && decide (cause = 5) then s.emit 0o051004 5 n 0 else s
    match st with
    | .up => s.emit (if held then 0o050002 else 0o050001) 5 n 0
    | .damped => (s.emit 0o053005 5 n 0).refuseLane n
    | .down =>
      let s := if was = LaneState.damped then s.endAlarm 0o053005 5 n
        else if up || held then s.emit 0o051003 5 n 0 else s
      s.refuseLane n
    | .off | .training | .hold => s

/-- A transmit slot takes the substitute of its GEN; the AN of the stream is the one that selects the slot. -/
def forceTx (s : State) (n gen : Nat) : State :=
  let v := s.txStream (n / 2)
  let an := if v.an % 2 = n % 2 then v.an else (v.an + 1) % 4
  (s.installTx (n / 2) an (s.substituteOf n gen)).2

def forceRx (s : State) (n gen : Nat) : State :=
  let x := (n - 32768) / 2
  let v := s.rxStream x
  let an := if v.an % 2 = n % 2 then v.an else (v.an + 1) % 4
  (s.installRx x an (s.substituteOf n gen) false).2

/-- A KEY record (R505): OP, and GEN after it. A memory key is delivered by its STATE record, and a station key ends the derivation
that has waited longest. -/
def forceKey (s : State) (n op gen : Nat) : State :=
  if op = 0 then
    if n < 32768 then s.forceTx n gen
    else if n < 65536 then s.forceRx n gen
    else if n < 65553 then s
    else if 66048 ≤ n then
      match s.stationJobs with
      | station :: _ => s.stationDerived station
      | [] => s
    else s.installKey n (s.substituteOf n gen)
  else if op = 1 then
    if s.keyValid n then
      let s := s.destroyContained n
      if n < 32768 then s.setTx (n / 2) { s.txStream (n / 2) with oldAn := none } else s
    else s
  else if op = 2 then
    if n < 32768 then s.txStuck (n / 2) else if n < 65536 then s.rxStuck ((n - 32768) / 2) else s
  else if s.canInstall n then (s.slotFails n).containSlotFault n
  else s

/-- The partner follows STATE records (R503): without a field side the frames bound for VP are refused. -/
def forcePartner (s : State) (p : Partner) : State :=
  let s := s.partnerEnter p
  match p with
  | .up | .single => s
  | .absent | .training => s.refuseVpQueues

/-- A journaled lease of a transmit stream: it follows the stream's lease. -/
def forceLease (s : State) (x : Nat) : State :=
  let v := s.txStream x
  s.leaseJournaled x (if v.leaseEnd = 0 then v.nextPn else v.leaseEnd + 1)

/-- A STATE record: the memory key of a tenant is the replay unit's own (Table 20.4) (DEDUCED, notes/assumptions/76). -/
def forceState (s : State) (unit index value : Nat) : State :=
  if unit = 1 then s.forcePartner (partnerOf value)
  else if unit = 5 then
    let d := s.draw 256
    d.2.tenantKeyDelivered (index % 16) d.1
  else if unit = 7 then s.forceLease index
  else s.setUnit unit index value

/-- A replay ends (R506, Table 20.3). -/
def endReplay (s : State) (result reason : Nat) : State :=
  let s := { s with trip := { s.trip with state := .replayDone, result := result, reason := reason } }
  if result = 2 then s.emitOwn 0o200005 0 0 reason else s

/-- A CONTROL record: the request's effect, when it was served (R505). An APPLY_STAGED ends the replay (Table 20.5); the
spec gives that end no REPLAY_REASON (DEDUCED, notes/assumptions/75). -/
def forceControl (s : State) (verb status : Nat) (tenant : Bool) (args : List Nat) : State :=
  let a := nth args
  if verb = 0o10 then { s with free := s.free + 1 }.endReplay 2 (Config.freeNat s.free % 8)
  else if status ≠ stDone then s
  else if verb = 0o02 then s.writeWords (a 0) (((args.drop 2).take (a 1)).map (BitVec.ofNat 18))
  else if verb = 0o12 then
    let t := a 0 % 16
    match (s.tenant t).state with
    | .fenced | .resetting => s
    | _ => if s.configured t then s.startReset t (if tenant then 1 else 2) else s
  else if verb = 0o13 then
    let t := a 0 % 16
    if s.configured t && decide ((s.tenant t).state = TenState.fenced) && !(s.tenant t).fencedForStart then
      (s.emit 0o060007 1 t 0).startReset t 4
    else s
  else if verb = 0o17 then
    let mode := bits (a 0) 17 16
    if mode = 0 then
      let n := s.alarmEntry (a 0)
      if a 0 < 64 && decide (n.event = a 1) && decide (fld 17 14 n.kind + fld 13 0 n.number = a 2) && entryUnack n then
        let s := s.setAlarmEntry (a 0) (entryAcked n)
        { s with alarm := { s.alarm with acks := satInc 18 s.alarm.acks } }.settleAlert
      else s
    else if mode = 1 then (s.ackEntries (fun n => decide (evClass n.event = bits (a 0) 15 13))).1
    else (({ s with alarm := { s.alarm with overflow := false } }).ackEntries (fun _ => true)).1
  else s

/-- A management frame of a recorded length starts on a lane (R505); its bytes are a pattern's. -/
def forceMgmt (s : State) (n len : Nat) : State :=
  let c := s.sched n
  let f : MgmtFrame := { kind := 0, bytes := pattern len }
  if c.sending.isNone then s.setSched n { c with sending := some (.mgmt f) } else s.setSched n { c with mgmt := f :: c.mgmt }

/-- A MEM record: the failure is forced on the line's next access; a late read changes nothing but its time (DEDUCED,
notes/assumptions/76). -/
def forceMem (s : State) (late : Bool) (region level index : Nat) (ecc : Bool) : State :=
  if late then s
  else { s with trip := { s.trip with forced := s.trip.forced ++ [(lineKey region level index, ecc)] } }

/-- A CHECK record is compared with the replay unit's own groups (R506) (DEDUCED, notes/assumptions/75). -/
def compareCheck (s : State) (time : Nat) (subs : List Nat) : State :=
  let own := s.groupSubs
  let s := { s with trip := { s.trip with checks := satInc 36 s.trip.checks } }
  let div := maskOf 8 (fun g => decide (own[g]?.getD 0 ≠ subs[g]?.getD 0))
  if div = 0 then s
  else
    let s := s.endReplay 3 0
    { s with trip := { s.trip with divGroups := div, divCheck := s.trip.checks, divTime := time } }.emitOwn 0o201006 0 0 div

/-- The pattern frame of a client record (R505). -/
def patternClient (e : TripRec) : List Nat :=
  let port := bits (e.r 1) 17 13
  let head := beBytes 6 (e.wide 3 3) ++ patternSa port ++
    (if (e.r 1).testBit 8 then beBytes 2 0x8100 ++ beBytes 2 (bits (e.r 1) 7 5 * 2 ^ 13 + bits (e.r 6) 17 6) else []) ++
    beBytes 2 (bits (e.r 7) 17 2)
  withFcs (head ++ pattern (bits (e.r 2) 17 4 - 4 - head.length))

/-- A client frame of a record enters the MAC of its lane. What Signpost or flow control makes of a frame comes from the records of
theirs (Table 20.5). -/
def forceClient (s : State) (n : Nat) (f : List Nat) : State :=
  if pairAt f 12 = 0x8808 || (decide (frameDa f = s.laneMac n) && (s.mgmtTenant n f).isSome) then s.frameIn n f.length
  else s.clientFrame n f

/-- The pattern frame of a trunk record (R505): sealed for its stream under the slot that its AN selects, or with 0xFF in every SCI
byte; its last ICV byte is inverted when the record says so. Its destination address is 0 (DESIGN CHOICE, notes/assumptions/76). -/
def patternTrunk (s : State) (e : TripRec) : List Nat :=
  let an := bits (e.r 3) 17 16
  let stream := if (e.r 3).testBit 15 then some (bits (e.r 3) 13 0) else none
  let low := e.wide 4 2 % 2 ^ 32
  let (value, pn, sci) := match stream with
    | some x =>
      let v := s.rxStream x
      ((s.lookup (slotRx x an)).getD 0, recoverPn ((rxPn v an).lowest.getD 0) low, entPeerSci v.entry)
    | none => (0, low, 2 ^ 64 - 1)
  let f := secSeal value an pn sci (beBytes 6 0 ++ patternSa (bits (e.r 1) 17 13) ++ pattern (bits (e.r 2) 17 4 - 48))
  if (e.r 1).testBit 10 then
    let d := frameData f
    withFcs (d.dropLast ++ [byteAt d (d.length - 1) ^^^ 0xFF])
  else f

/-- The pattern Nirolfold frame of a STATION record under its station's substitute key. -/
def patternStation (s : State) (e : TripRec) : List Nat :=
  let station := bits (e.r 3) 15 0
  let key := deriveStation ((s.lookup slotFleet).getD 0) station
  let mlen := bits (e.r 11) 17 10
  nfSeal key 1 station (e.wide 4 3 % 2 ^ 48) (e.wide 7 3 % 2 ^ 48) (pattern mlen) (pattern (bits (e.r 2) 17 7 - 32 - mlen))
    (if (e.r 1).testBit 10 then 2 ^ 64 - 1 else 0)

/-- The classifier result of a record's word. -/
def forcedEntry (w : Nat) : Option Nat := if w.testBit 5 then none else some (bits w 17 6)

/-- One record (R505): base records and FREEZE change nothing here (DEDUCED, notes/assumptions/76). -/
def applyRecord (s : State) (e : TripRec) : State :=
  if !s.replaying then s
  else
    let s := { s with trip := { s.trip with replayPos := e.block } }
    let lane := bits (e.r 1) 17 14
    match e.type with
    | 0o02 =>
      let n := bits (e.r 1) 17 13 % 16
      if bits (e.r 1) 12 11 = 0 then s.forceClient n (patternClient e)
      else (s.frameIn n (bits (e.r 2) 17 4)).trunkFrame n (s.patternTrunk e) (some (forcedEntry (e.r 6)))
    | 0o03 =>
      let f := s.patternStation e
      let port := match s.dirEntry (nfStation f) with
        | some d => dirPort d
        | none => 0
      (s.occur 34 0o005).stnUp port f (some (forcedEntry (e.r 10)))
    | 0o05 =>
      let q := bits (e.r 2) 15 0
      if (e.r 1).testBit 13 then s.pfcReceived lane (bits (e.r 1) 12 5) (fun _ => q) else s.pauseReceived lane q
    | 0o06 => s.forceLane lane (laneStateOf (bits (e.r 1) 13 11)) (bits (e.r 1) 10 8)
    | 0o07 => s.forceKey (bits (e.r 1) 16 0) (bits (e.r 2) 17 16) (bits (e.r 2) 15 11)
    | 0o10 =>
      s.forceMem (decide (bits (e.r 1) 17 16 = 2)) (bits (e.r 1) 15 11) (bits (e.r 1) 10 8) (e.wide 2 2) ((e.r 1).testBit 7)
    | 0o11 => s.forceControl (bits (e.r 1) 17 12) (bits (e.r 1) 11 6) ((e.r 1).testBit 5) (e.body.drop 1)
    | 0o12 => s.forceMgmt (bits (e.r 1) 17 13 % 16) (bits (e.r 2) 17 4)
    | 0o13 => s.forceState (bits (e.r 1) 17 12) (e.r 2) (e.r 3)
    | 0o17 => s.compareCheck e.time ((e.body.drop 6).take 8)
    | 0o20 => s.endReplay 2 2
    | _ => s

end State

/-! ## Commands -/

/-- GO (R504): the write of 1 to GO. -/
def execGo (r : VerbCall) (s : State) : Host.Outcome State Fault Refusal :=
  act [.free, .once, .start, .image, .keys, .trng, .jun, .lanes, .tenants, .tp, .link, .zheac, .mem, .cway, .stn, .sp] s (fun s =>
    s.writeLive r 0o310001 (2 ^ 15 + flag 17 s.trip.arm) (fun _ => .takes State.goServe))

/-- REPLAY_CYCLE (R505, R506): the records of the next recorded cycle; the replay ends with the last. -/
def execReplayCycle (s : State) : Host.Outcome State Fault Refusal :=
  act [.now, .free, .once, .pins, .start, .image, .cus, .keys, .trng, .jun, .lanes, .tenants, .tp, .link, .zheac, .mem, .cway, .stn, .sp, .way] s (fun s =>
    if s.replaying then
      let time := match s.trip.span with
        | e :: _ => e.time
        | [] => s.trip.replayTime
      let now := s.trip.span.takeWhile (fun e => decide (e.time = time))
      let s := { s with trip := { s.trip with span := s.trip.span.dropWhile (fun e => decide (e.time = time)) } }
      let s := now.foldl State.applyRecord (s.upTo (s.trip.replayAt + (time - s.trip.replayTime)))
      if s.trip.span.isEmpty && s.replaying then s.endReplay 2 0 else s
    else s)

end Sys2Proof.Machine
end

