-- ==== Sys2Proof/Machine/Stage.lean ====
section
/-!
DEFINITION. The staged slot and apply-staged (04_spango_image R97 to R100, Table 4.7; 17_operator_access R445).
-/

namespace Sys2Proof.Machine

namespace State

/-! ## APPLY_STAGED -/

/-- Apply-staged is refused, or ends refused (R99, R445). -/
def applyRefused (s : State) (result code : Nat) : State :=
  { s with image := { s.image with applyResult := result, applyState := 4, applySlotCode := code } }.emitDev 0o021005

/-- A second apply-staged while one runs changes APPLY_RESULT only (Table 4.12). -/
def applyBusy (s : State) : State := { s with image := { s.image with applyResult := 3 } }.emitDev 0o021005

/-- STATUS that an APPLY_RESULT names. -/
def applyStatus (result : Nat) : Nat :=
  if result = 1 then stSDiff else if result = 2 then stVerify else if result = 3 then stBusy else stWrongState

/-- An apply runs: its slot is being verified, or sections are pending. -/
def applyRuns (s : State) : Bool := decide (s.image.applyState = 1) || s.image.applying.isSome

/-- APPLY_RESULT and APPLY_SLOT_CODE with which R99 refuses apply-staged; none when it accepts (DEDUCED,
notes/assumptions/67). -/
def applyReason (s : State) : Option (Nat × Nat) :=
  if s.start.outcome ≠ StartOutcome.running then some (4, 0)
  else if s.applyRuns || s.image.staging.isSome then some (3, 0)
  else if s.image.stagedState ≠ 2 then some (2, s.image.stagedCode)
  else none

/-- A section as apply-staged compares it (R100): the digest of its body. In ANALYSIS a secret section is its substitute. -/
def sectionKey (analysis : Bool) (c : Section) : Nat × Nat × Nat :=
  (c.type, c.inst, if c.wrap && analysis then 0 else c.digest)

/-- The sections in which two images differ, with what stands in the new one: those of the new image in its order, then
those removed (DEDUCED, notes/assumptions/67). -/
def sectionDiffs (analysis : Bool) (old new : List Section) : List (Section × Option Section) :=
  (new.filter (fun c => !(old.map (sectionKey analysis)).contains (sectionKey analysis c))).map (fun c => (c, some c)) ++
    (old.filter (fun c => !new.any (fun d => d.type = c.type && d.inst = c.inst))).map (fun c => (c, none))

/-- The rates of a tenant change from those of `old` to those of `s`: every bucket keeps its level, limited to its new depth
(R252; DEDUCED, notes/assumptions/36). -/
def moveBuckets (old s : State) (t : Nat) : State :=
  let keep := fun (rate : State → Nat → Nat) (time : Nat) (tab : Tab Bucket) =>
    (List.range 16).foldl (fun tab n =>
      let depth := fun (s : State) => s.bucketDepth n (rate s n) time
      let debt := old.bucketDebt (tabGet {} tab (16 * t + n)) (rate old n) + depth s - depth old
      tabPut {} tab (16 * t + n) (if debt = 0 then {} else { debt := debt, time := s.now })) tab
  { s with tp := { s.tp with
    commitTok := keep (fun s => s.commitRate t) (us 100) s.tp.commitTok
    ceilTok := keep (fun s => s.ceilRate t) (ms 1) s.tp.ceilTok
    policeTok := keep (fun s => s.ceilRate t) (us 10) s.tp.policeTok } }

/-- An L section takes effect (Table 4.8 step 4). -/
def applyL (s : State) (c : Section) (new : Option Section) : State :=
  let old := s
  let s := s.putSection c.type c.inst new
  if c.type = 0o022 then moveBuckets old s c.inst
  else if c.type = 0o023 then s.forwardParams
  else if c.type = 0o024 then s.loadAlarmPolicy
  else if c.type = 0o025 then s.loadModeration
  else s

/-! ## D sections (Table 4.7) -/

/-- A tenant's pending sections: at once when it holds no frame, else its drain begins (R248). In RESETTING the end of the
reset is the boundary (Table 4.12). -/
def drainTenant (s : State) (t : Nat) : State :=
  if (s.tenant t).reset.isSome then s
  else if s.tenantHolds t then
    s.beginDrain t
  else s.applyTenant t

/-- A stream whose slots hold no key. -/
def unkeyed (s : State) (slot : Nat → Nat) : Bool := !s.keyValid (slot 0) && !s.keyValid (slot 1)

/-- The streams of a block that hold no key take its entries. -/
def applyBlock (s : State) (b : Nat) : State :=
  let s := (List.range 64).foldl (fun (s : State) i =>
    let x := 64 * (b % 256) + i
    if b < 256 then (if s.unkeyed (slotTx x) then s.applyTxEntry x else s)
    else (if s.unkeyed (slotRx x) then s.applyRxEntry x else s)) s
  s.settleBlock 0o016 b

/-- Pinned keys of receive streams, which take no lease; those of transmit streams wait for the next lease. -/
def applyPins (s : State) (b : Nat) : State :=
  let s := if b < 256 then s else (List.range 64).foldl (fun (s : State) i =>
    let x := 64 * (b - 256) + i
    if entPinned (s.rxStream x).entry then s.applyRxPin x else s) s
  s.settleBlock 0o017 b

/-- A port holds no frame in either direction. -/
def portQuiet (s : State) (p : Nat) : Bool :=
  let v := s.port p
  !v.inFrame && !v.lead && !v.tail && (match v.state with
    | .off | .idle | .down => true
    | .receiving | .transmitting | .waitCts => false)

/-- An idle port takes its pending section while the partner is up (Table 14.7). -/
def applyPort (s : State) (p : Nat) : State :=
  if (s.pending? 0o020 p).isSome && s.linked && s.portQuiet p then
    ((s.takePending 0o020 p).sendPortConfig p).settleApply
  else s

/-- What one pending D section does at its boundary, or on its way to it (DEDUCED, notes/assumptions/67). -/
def beginSection (s : State) (type inst : Nat) : State :=
  if type = 0o013 ∨ type = 0o014 ∨ type = 0o015 then (if s.tenantPending inst then s.drainTenant inst else s)
  else if type = 0o016 then s.applyBlock inst
  else if type = 0o017 then s.applyPins inst
  else if type = 0o020 then s.applyPort inst
  else s.settleDirectory

/-- The sections of a verified staged image are compared and applied (R100, Table 4.8 steps 3 to 6). -/
def applyImage (s : State) (old new : Image) : State :=
  let diffs := sectionDiffs s.analysis old.sections new.sections
  match diffs.find? (fun d => decide (d.1.cls = 1)) with
  | some d =>
    { s with image := { s.image with diffType := d.1.type, diffInst := d.1.inst } }.applyRefused 1 0
  | none =>
    let s := (diffs.filter (fun d => decide (d.1.cls = 3))).foldl (fun (s : State) d => s.applyL d.1 d.2) s
    let l := (diffs.filter (fun d => decide (d.1.cls = 2))).map
      (fun d => ({ type := d.1.type, inst := d.1.inst, new := d.2 } : PendingSection))
    let old := if l.any (fun p => decide (p.type = 0o021)) then (s.stn.pipeline.map StnItem.station).dedup else []
    let s := { s with
      image := { s.image with applyState := 2, applying := some new, pending := l }
      stn := { s.stn with oldDir := old } }
    (l.foldl (fun (s : State) p => s.beginSection p.type p.inst) s).settleApply

/-! ## The staging verbs -/

/-- An operator's request on the open staging write: the STATUS that refuses it, if any does (R445) (DEDUCED,
notes/assumptions/68). -/
def stagingRefuses (s : State) (c : Caller) : Option Nat :=
  match s.image.staging, c with
  | none, _ => some stWrongState
  | some g, .operator n =>
    if g.session ≠ n.val then some stBusy
    else if g.programming.isSome || g.verifying then some stBusy else none
  | some _, _ => some stBusy

/-- A verb whose response waits for what the device does first: `begin_` gives the state once it is accepted, else the STATUS
that refuses it. -/
def serveLater (s : State) (r : VerbCall) (verb : Nat) (args : List Nat) (begin_ : State → Nat ⊕ State) : State :=
  match (if s.callerOpen r.caller && isOperator r.caller && r.cond.isNone then begin_ s else .inl 0) with
  | .inr t => t
  | .inl st => s.serve r verb (isOperator r.caller) none args (fun s => { st := s, status := st })

/-- The session of the open staging write gets its response. -/
def stagingRespond (s : State) (session verb status : Nat) (words : List Word) : State :=
  s.respondLater (.operator (Fin.ofNat 32 session)) verb status words []

end State

/-! ## Commands -/

/-- APPLY_STAGED (R99, R445). -/
def execApplyStaged (r : VerbCall) (s : State) : Host.Outcome State Fault Refusal :=
  act [.once, .image, .keys, .tenants, .tp, .sp] s (fun s =>
    s.serve r 0o10 (State.isOperator r.caller) none [] (fun s =>
      match s.applyReason with
      | some (k, code) => { st := if s.applyRuns then s.applyBusy else s.applyRefused k code, status := State.applyStatus k }
      | none =>
        { st := { s with image := { s.image with
            applyState := 1, applyResult := 0, applySlotCode := 0, diffType := 0, diffInst := 0 } }
          status := stAccepted }))

/-- APPLY_VERIFICATION_DONE (R100, Table 4.8 steps 2 to 4). -/
def execApplyVerificationDone (readError : Option Nat) (s : State) : Host.Outcome State Fault Refusal :=
  act [.free, .once, .image, .cus, .keys, .trng, .lanes, .tenants, .tp, .link, .zheac, .cway, .stn, .sp, .way] s (fun s =>
    if s.image.applyState = 1 then
      let v := s.verifySlot 3 readError
      let s := { s with image := { s.image with stagedCode := v.1 } }
      match v.2, s.image.running with
      | some new, some old => s.applyImage old new
      | _, _ => s.applyRefused 2 v.1
    else s)

/-- D_SECTION_BOUNDARY (R97, Table 4.7): the unit of a pending section may have reached its boundary. A tenant that drains takes
its sections once its queues are empty. -/
def execDSectionBoundary (type inst : Nat) (s : State) : Host.Outcome State Fault Refusal :=
  act [.free, .once, .image, .cus, .keys, .trng, .lanes, .tenants, .tp, .link, .zheac, .cway, .stn, .sp, .way] s (fun s =>
    if (s.pending? type inst).isNone then s
    else if type = 0o013 ∨ type = 0o014 ∨ type = 0o015 then
      (if s.tenantHolds inst || (s.tenant inst).reset.isSome then s else s.applyTenant inst)
    else s.beginSection type inst)

/-- STAGE_OPEN (R445, Table 4.12). -/
def execStageOpen (r : VerbCall) (s : State) : Host.Outcome State Fault Refusal :=
  act [.once, .image, .keys, .tenants, .tp, .sp] s (fun s =>
    s.serve r 0o05 (State.isOperator r.caller) none [] (fun s =>
      match r.caller with
      | .operator n =>
        if s.start.outcome ≠ StartOutcome.running then { st := s, status := stWrongState }
        else if s.image.staging.isSome || s.applyRuns then { st := s, status := stBusy }
        else
          { st := { s with image := { s.image with
              stagedState := 1
              staging := some { session := n.val, next := 0, erased := [], programming := none, verifying := false } } }
            status := stDone }
      | _ => { st := s, status := stNotPermitted }))

/-- The sectors of 4 KiB that bytes enter and that the staging write has not erased yet (R445). -/
def newSectors (erased : List Nat) (offset length : Nat) : List Nat :=
  ((List.range ((offset + length - 1) / 4096 + 1)).drop (offset / 4096)).filter (fun k => !erased.contains k)

/-- Sectors of the staged slot are erased, unless the SPI NOR refuses writes (R86). -/
def State.eraseStaged (s : State) (sectors : List Nat) : State :=
  if s.norRefuses then s else s.programSlot 3 0 [] sectors

/-- STAGE_DATA (R445): consecutive bytes; every 4 KiB sector is erased as the first write enters it. -/
def execStageData (r : VerbCall) (offset : Nat) (bytes : List Byte) (s : State) : Host.Outcome State Fault Refusal :=
  act [.once, .nor, .image, .keys, .tenants, .tp, .sp] s (fun s =>
    s.serveLater r 0o06 [] (fun s =>
      match s.stagingRefuses r.caller, s.image.staging with
      | some st, _ => .inl st
      | none, some g =>
        if offset = g.next ∧ 1 ≤ bytes.length ∧ bytes.length ≤ 1024 ∧ offset + bytes.length ≤ 2 ^ 23 then
          let sectors := newSectors g.erased offset bytes.length
          .inr ({ s with image := { s.image with
            staging := some { g with programming := some (bytes.map BitVec.toNat), erased := g.erased ++ sectors } } }.eraseStaged
              sectors)
        else .inl stBadValue
      | none, none => .inl stWrongState))

/-- STAGE_DATA_PROGRAMMED (R445, R86) (DEDUCED, notes/assumptions/18; DEDUCED, notes/assumptions/68). -/
def execStageDataProgrammed (refused : Bool) (s : State) : Host.Outcome State Fault Refusal :=
  act [.nor, .image, .keys, .tenants, .tp, .sp] s (fun s =>
    match s.image.staging with
    | some g =>
      match g.programming with
      | some bytes =>
        if refused || s.norRefuses then
          ({ s with image := { s.image with staging := some { g with programming := none } } }.emitDev 0o021013).stagingRespond
            g.session 0o06 stWrongState []
        else
          ({ s with image := { s.image with
            staging := some { g with programming := none, next := g.next + bytes.length } } }.programSlot 3 g.next bytes
              []).stagingRespond g.session 0o06 stDone []
      | none => s
    | none => s)

/-- STAGE_CLOSE (R445): the staged slot is verified. -/
def execStageClose (r : VerbCall) (s : State) : Host.Outcome State Fault Refusal :=
  act [.once, .image, .keys, .tenants, .tp, .sp] s (fun s =>
    s.serveLater r 0o07 [] (fun s =>
      match s.stagingRefuses r.caller, s.image.staging with
      | some st, _ => .inl st
      | none, some g => .inr { s with image := { s.image with staging := some { g with verifying := true } } }
      | none, none => .inl stWrongState))

/-- STAGED_SLOT_VERIFIED (R445). -/
def execStagedSlotVerified (readError : Option Nat) (s : State) : Host.Outcome State Fault Refusal :=
  act [.image, .keys, .tenants, .tp, .sp] s (fun s =>
    match s.image.staging with
    | some g =>
      if g.verifying then
        let v := s.verifySlot 3 readError
        let ok := decide (v.1 = 1)
        let s := { s with image := { s.image with
          staging := none, stagedState := if ok then 2 else 3, stagedCode := v.1 } }
        (s.emitDev (if ok then 0o020006 else 0o021007)).stagingRespond g.session 0o07 (if ok then stDone else stVerify)
          [BitVec.ofNat 18 v.1]
      else s
    | none => s)

end Sys2Proof.Machine
end

