-- ==== Sys2Proof/Machine/Tollhouse.lean ====
section
/-!
DEFINITION. Commands of the Tollhouse die and of its link (16_tollhouse; 14_causeway R345 to R349).
-/

namespace Sys2Proof.Machine

namespace State

/-- Custody closes (R399, Table 16.3): in VERIFIED only by the seal, after VERIFY, with an authority installed and room in
the log. -/
def tollCloseCustody (s : State) (cause : Nat) : State :=
  if s.toll.metro = Metro.custody then
    let t := s.legalTime
    let ok := decide (cause = 0) && s.toll.verifyMark && s.toll.authority.isSome && !s.logFull
    let s := { s with toll := { s.toll with verifyMark := false, unvCause := if ok then 0 else s.toll.unvCause } }
    (s.metroBecomes t (if ok then .verified else .unverified) (fun s => s.writeLog t 0o155010 0 (argE9 cause))).settleLog t
  else s

/-- A hold of TH_KEY_N is timed from now while the seal is open, on VT_33 (R399). -/
def tollHold (s : State) : State :=
  { s with toll := { s.toll with
    holdSince := if s.toll.keyHeld && !s.toll.sealClosed && !s.toll.onBackup then some s.now else none } }

/-- HALTED, with the step of Table 16.2 whose check failed (DEDUCED, notes/assumptions/55; DEDUCED, notes/assumptions/56).
-/
def tollHalt (s : State) (step : Nat) : State :=
  let t := s.legalTime
  s.metroBecomes t .halted (fun s => s.writeLog t 0o155025 0 (argE9 step))

end State

/-! ## Power-up and supply (R391 to R394) -/

/-- TH_POWER_ON_RESET (R391): MRAM keeps its contents; everything else starts afresh. -/
def execThPowerOnReset (onVbat : Bool) (s : State) : Host.Outcome State Fault Refusal :=
  act [.toll] s (fun s =>
    if s.isN || s.toll.powered then s
    else { s with toll := { s.toll with
      powered := true, booted := false, onBackup := onVbat, keyHeld := false, holdSince := none, verifyMark := false,
      clockFault := false, assembly := [], arrived := [], results := [], statusSent := [], thSeq := 0, kept := [],
      reports := s.toll.reports.map (fun r => { r with seq := 0 })
      sectionsOk := 0, badTag := 0, repeat_ := 0, lateRefused := 0, future := 0, unknownStn := 0, malformed := 0 } })

/-- TH_SELF_CHECK_DONE (Table 16.2): the step that failed is 3, 4 or 5. TIME resumes from the value last stored; after the
first power-up the clock is lost (R396) (DEDUCED, notes/assumptions/55). -/
def execThSelfCheckDone (failed : Option (Fin 3)) (s : State) : Host.Outcome State Fault Refusal :=
  act [.toll] s (fun s =>
    if !s.toll.powered || s.toll.booted then s
    else
      let first := !s.toll.bootedOnce
      let s := { s with toll := { s.toll with booted := true, bootedOnce := true, measuredAt := s.now, savedAt := s.now } }
      let s := s.setLegal (secs s.toll.savedTime)
      let s := if first then s.tollOpen 0 0 else if s.toll.onBackup then s.flagInterval 0o20 else s
      match failed with
      | some k => s.tollHalt (k.val + 3)
      | none =>
        let t := s.legalTime
        let s := s.tollLog t 0o155001 0 (argE9 (if first then 0 else 1))
        if first then s
        else
          let m := s.toll.metro
          let s := if m = Metro.blank then s else { s with toll := { s.toll with unvCause := s.toll.unvCause ||| 1 } }
          (s.metroBecomes t (if m = Metro.blank then .blank else .unverified)
            (fun s => s.writeLog t 0o155024 0 (argE9 1))).settleLog t)

/-- TH_SWITCH_TO_VBAT (R392, R393). -/
def execThSwitchToVbat (mv : Word) (s : State) : Host.Outcome State Fault Refusal :=
  act [.toll] s (fun s =>
    if !s.toll.powered || s.toll.onBackup then s
    else
      let s := { s with toll := { s.toll with onBackup := true, holdSince := none } }
      if s.toll.booted then
        let s := ({ s with toll := { s.toll with vbatMv := mv.toNat } }).flagInterval 0o20
        (s.tollLog s.legalTime 0o155002 0 (argE9 mv.toNat)).tollCloseCustody 3
      else s)

/-- TH_RETURN_TO_VT33 (R392). A link that has not failed meanwhile carries TH_HELLO again (R348). -/
def execThReturnToVt33 (mv : Word) (s : State) : Host.Outcome State Fault Refusal :=
  act [.cway, .toll] s (fun s =>
    if !s.toll.onBackup then s
    else
      let s := { s with toll := { s.toll with onBackup := false } }
      if s.toll.booted then
        let s := ({ s with toll := { s.toll with vbatMv := mv.toNat } }).tollHold
        let s := s.tollLog s.legalTime 0o155003 0 (argE9 mv.toNat)
        if s.wayOpen .thUp then s.tollHello else s
      else s)

/-- TH_SUPPLY_LOSS (R56): both supplies are absent (DEDUCED, notes/assumptions/55). -/
def execThSupplyLoss (s : State) : Host.Outcome State Fault Refusal :=
  act [.toll] s (fun s => { s with toll := { s.toll with powered := false, booted := false, onBackup := false, holdSince := none } })

/-- VBAT_MEASUREMENT (R393, R394), once per minute (DEDUCED, notes/assumptions/58). -/
def execVbatMeasurement (mv : Word) (s : State) : Host.Outcome State Fault Refusal :=
  act [.now, .free, .tp, .toll] s (fun s =>
    if !s.toll.booted then s
    else
      let s := s.upTo (s.toll.measuredAt + secs 60)
      let low := decide (mv.toNat < 3100)
      let s := { s with toll := { s.toll with measuredAt := s.now, vbatMv := mv.toNat, batLow := low } }
      let day := s.legalTime / 86400
      if !low then s
      else if s.toll.onBackup then s.tollCause 2 0o155011 mv.toNat
      else if s.toll.lowDay = some day then s
      else { s with toll := { s.toll with lowDay := some day } }.tollLog s.legalTime 0o155011 0 (argE9 mv.toNat))

/-! ## Clock (R395, R396) -/

/-- CRYSTAL_STOPPED (R396). -/
def execCrystalStopped (s : State) : Host.Outcome State Fault Refusal :=
  act [.toll] s (fun s =>
    if !s.toll.booted || s.toll.clockFault then s
    else { s with toll := { s.toll with clockFault := true } }.tollCause 1 0o155024 0)

/-- CRYSTAL_RESUMED (R396). -/
def execCrystalResumed (s : State) : Host.Outcome State Fault Refusal :=
  act [.toll] s (fun s => { s with toll := { s.toll with clockFault := false } })

/-- TIME_SAVE (R396), every 60 s; an MRAM record that has become uncorrectable leads to HALTED (Table 16.3) (DEDUCED,
notes/assumptions/56). -/
def execTimeSave (mramOk : Bool) (s : State) : Host.Outcome State Fault Refusal :=
  act [.now, .free, .tp, .toll] s (fun s =>
    if !s.toll.booted then s
    else
      let s := s.upTo (s.toll.savedAt + secs 60)
      let s := { s with toll := { s.toll with savedTime := s.legalTime, savedAt := s.now } }
      if mramOk || decide (s.toll.metro = Metro.halted) then s else s.tollHalt 5)

/-- TIME_RANGE_END (R395). -/
def execTimeRangeEnd (s : State) : Host.Outcome State Fault Refusal :=
  act [.now, .free, .tp, .toll] s (fun s =>
    if !s.toll.booted || s.toll.stopped then s
    else
      let s := s.upTo (s.whenLegal timeEnd)
      let s := { s with toll := { s.toll with timeBase := secs timeEnd, timeAt := s.now, stopped := true } }
      s.tollCause 1 0o155024 2)

/-! ## Seal, key and custody (R398 to R400) -/

/-- SEAL_LOOP_OPEN (R398, R400). -/
def execSealLoopOpen (s : State) : Host.Outcome State Fault Refusal :=
  act [.toll] s (fun s =>
    if !s.toll.booted || !s.toll.sealClosed then s
    else ({ s with toll := { s.toll with sealClosed := false } }.tollCause 8 0o155004 0).tollHold)

/-- SEAL_LOOP_CLOSED (R398, R399). -/
def execSealLoopClosed (s : State) : Host.Outcome State Fault Refusal :=
  act [.toll] s (fun s =>
    if !s.toll.booted || s.toll.sealClosed then s
    else
      let s := { s with toll := { s.toll with sealClosed := true, holdSince := none } }
      (s.tollLog s.legalTime 0o155005 0 (argE9 0)).tollCloseCustody 0)

/-- TH_KEY_PRESS (R398, R400). -/
def execThKeyPress (s : State) : Host.Outcome State Fault Refusal :=
  act [.toll] s (fun s =>
    if !s.toll.booted || s.toll.keyHeld then s
    else
      let s := { s with toll := { s.toll with keyHeld := true } }
      if s.toll.sealClosed then s.tollCause 4 0o155006 0 else s.tollHold)

/-- TH_KEY_RELEASE (R399). -/
def execThKeyRelease (s : State) : Host.Outcome State Fault Refusal :=
  act [.toll] s (fun s => { s with toll := { s.toll with keyHeld := false, holdSince := none } })

/-- CUSTODY_OPEN (R399): TH_KEY_N has been held for 2.0 s; an open custody is extended. -/
def execCustodyOpen (s : State) : Host.Outcome State Fault Refusal :=
  act [.now, .free, .tp, .toll] s (fun s =>
    match s.toll.holdSince with
    | none => s
    | some since =>
      if s.toll.metro = Metro.halted then s
      else
        let s := s.upTo (since + secs 2)
        let s := { s with toll := { s.toll with holdSince := none, custodyEnd := s.now + secs 1800 } }
        if s.toll.metro = Metro.custody then s
        else
          let t := s.legalTime
          let s := { s with toll := { s.toll with verifyMark := false } }
          (s.metroBecomes t .custody (fun s => s.writeLog t 0o155007 0 (argE9 0))).settleLog t)

/-- CUSTODY_TIMEOUT (R399). -/
def execCustodyTimeout (s : State) : Host.Outcome State Fault Refusal :=
  act [.now, .free, .tp, .toll] s (fun s =>
    if s.toll.metro = Metro.custody && s.toll.booted then (s.upTo s.toll.custodyEnd).tollCloseCustody 1 else s)

/-! ## Commands (R401, R402, Table 16.4) -/

/-- Results of R402. -/
def thDone : Nat := 0o00
def thNoCustody : Nat := 0o01
def thBadDate : Nat := 0o02
def thBadSignature : Nat := 0o03
def thBadValue : Nat := 0o04
def thLimit : Nat := 0o05
def thHalted : Nat := 0o06
def thFull : Nat := 0o07
def thMismatch : Nat := 0o10
def thStaleSet : Nat := 0o11
def thLogFull : Nat := 0o12
def thFragment : Nat := 0o13
def thAbsent : Nat := 0o77

/-- The CMD codes of Table 16.4. -/
def thCommands : List Nat := [0o01, 0o02, 0o03, 0o04, 0o05, 0o10, 0o11, 0o12, 0o13, 0o14, 0o15, 0o16]

def cmdOf (w : List Word) : Nat := bits (wordAt w 0).toNat 17 12

/-- A TH_COMMAND with this CMD, or with an unknown one. -/
def isThCommand (cmd : Nat) : Msg → Bool
  | .thCommand _ w => decide (cmdOf w = cmd) || !thCommands.contains (cmdOf w)
  | _ => false

namespace State

/-- What a command does (R402): HALTED refuses everything; then its form; then custody, which BLANK asks of every command but
READ-IDENT; then room in the log (R418); then its effect. A refused time command is logged (Table 16.11). -/
def thCommand (s : State) (cmd args : Nat) (custody : Bool) (ok : List Word → Bool) (run : State → List Word → State × Nat)
    (w : List Word) : State × Nat :=
  let a := w.drop 1
  let known := cmdOf w = cmd
  let (s, r) :=
    if s.toll.metro = Metro.halted then (s, thHalted)
    else if !known || !(decide (w.length = args + 1) && setField w 0 11 0 = 0 && ok a) then (s, thBadValue)
    else if custody && s.toll.metro ≠ Metro.custody then (s, thNoCustody)
    else if s.toll.metro = Metro.blank && cmd ≠ 0o01 then (s, thNoCustody)
    else if custody && s.logFull then (s, thLogFull)
    else run s a
  if r ≠ 0 && (cmdOf w = 0o04 || cmdOf w = 0o10) then
    (s.tollLog s.legalTime 0o155014 0
      [BitVec.ofNat 18 (fld 17 12 (cmdOf w) + fld 11 6 r), 0, wordAt a 0, wordAt a 1], r)
  else (s, r)

/-- The TH_COMMAND at the head of the link is taken and answered (DEDUCED, notes/assumptions/59). -/
def thServe (s : State) (cmd args : Nat) (custody : Bool) (ok : List Word → Bool)
    (run : State → List Word → State × Nat) : State :=
  match s.take .thDown .legal .good (isThCommand cmd) with
  | (some (.thCommand n w), s) => s.tollRequest (.thCommand n w) n (fun s => s.thCommand cmd args custody ok run w)
  | (_, s) => s

end State

/-- The arguments as received are all allowed. -/
def anyArgs (_ : List Word) : Bool := true

/-- READ-IDENT (DEDUCED, notes/assumptions/59). -/
def execThReadIdent (s : State) : Host.Outcome State Fault Refusal :=
  act [.cway, .toll] s (fun s => s.thServe 0o01 0 false anyArgs (fun s _ =>
    (s.tollKeep (fun n => .windowWrite n 0 identityBlock), thDone)))

/-- The reply page of READ-POINT (Table 16.10), filled to the length of READ-RECORD's. -/
def pointPage (p : Nat) (v : TollPoint) : List Word :=
  [BitVec.ofNat 18 (fld 17 6 p + fld 5 3 v.tariff + flag 2 v.mismatched)] ++ wide 2 (setVersion v.set) ++ [0, 0] ++
    (List.range 8).flatMap (fun r => wide 3 (tabGet 0 v.regs r)) ++ wide 3 v.cur ++ wide 3 v.peak ++ wide 2 v.peakInterval ++
    List.replicate 4 0

/-- READ-POINT. -/
def execThReadPoint (s : State) : Host.Outcome State Fault Refusal :=
  act [.cway, .toll] s (fun s => s.thServe 0o02 1 false (fun a => setField a 0 17 12 = 0) (fun s a =>
    let p := setField a 0 11 0
    (s.tollKeep (fun n => .windowWrite n 0o200 (pointPage p (s.point p))), thDone)))

/-- READ-RECORD: the stored record, signed anew (DEDUCED, notes/assumptions/56). -/
def execThReadRecord (mramOk : Bool) (s : State) : Host.Outcome State Fault Refusal :=
  act [.free, .cway, .toll] s (fun s => s.thServe 0o03 2 false anyArgs (fun s a =>
    let seq := setWide a 0 2
    let w := tabGet [] s.toll.ring (seq % 65536)
    if !mramOk then (s.tollHalt 5, thHalted)
    else if w.isEmpty || setWide w 1 2 ≠ seq then (s, thBadValue)
    else
      let (sig, s) := s.tollSign w
      (s.tollKeep (fun n => .windowWrite n 0o200 (w ++ sig)), thDone)))

/-- ADJUST-TIME (R397) (DEDUCED, notes/assumptions/59). -/
def execThAdjustTime (s : State) : Host.Outcome State Fault Refusal :=
  act [.cway, .toll] s (fun s => s.thServe 0o04 1 false
    (fun a => decide (1 ≤ (ofTwos 18 (setField a 0 17 0)).natAbs ∧ (ofTwos 18 (setField a 0 17 0)).natAbs ≤ 30)) (fun s a =>
      let late := match s.toll.adjustedAt with
        | some t => decide (t + secs 86400 ≤ s.now)
        | none => true
      if !(late && (s.toll.metro = Metro.verified || s.toll.metro = Metro.unverified)) then (s, thLimit)
      else
        let v := ofTwos 18 (setField a 0 17 0)
        let old := s.legalTime
        let s := { s with toll := { s.toll with adjustedAt := some s.now } }.tollLog old 0o155013 0 [0, 0, 0, wordAt a 0]
        let s := s.setLegal (min ((s.legalCycles : Int) + v * (secs 1 : Int)).toNat (secs timeEnd))
        let new := s.legalTime
        let s := if new < s.toll.curStart then s.tollReopen old new
          else if s.toll.curStart + s.intervalLen ≤ new then s.tollBoundary (s.toll.curStart + s.intervalLen) 0o4
          else s
        (s, thDone)))

/-- DEMAND-RESET. -/
def execThDemandReset (s : State) : Host.Outcome State Fault Refusal :=
  act [.cway, .toll] s (fun s => s.thServe 0o05 1 false (fun a => setField a 0 16 12 = 0) (fun s a =>
    let p := setField a 0 11 0
    if setField a 0 17 17 = 1 then
      ((s.mapPoints (fun v => { v with peak := 0 })).tollLog s.legalTime 0o155027 0 (argE9 0o7777), thDone)
    else ((s.updPoint p { s.point p with peak := 0 }).tollLog s.legalTime 0o155027 p (argE9 p), thDone)))

/-- SET-TIME (R397). -/
def execThSetTime (s : State) : Host.Outcome State Fault Refusal :=
  act [.cway, .toll] s (fun s => s.thServe 0o10 2 true (fun a => setField a 1 0 0 = 0) (fun s a =>
    let y := 2000 + setField a 0 17 9
    let m := setField a 0 8 5
    let d := setField a 0 4 0
    let h := setField a 1 17 13
    let mi := setField a 1 12 7
    let sec := setField a 1 6 1
    if !validDate y m d h mi sec then (s, thBadDate)
    else
      let old := s.legalTime
      let new := timeOf y m d h mi sec
      let s := s.tollLog old 0o155012 0 ([BitVec.ofNat 18 (fld 17 12 0o10), 0] ++ wide 2 new)
      ((s.setLegal (secs new)).tollReopen old new, thDone)))

/-- SET-CAL (DEDUCED, notes/assumptions/53). -/
def execThSetCal (s : State) : Host.Outcome State Fault Refusal :=
  act [.cway, .toll] s (fun s => s.thServe 0o11 1 true
    (fun a => decide ((ofTwos 18 (setField a 0 17 0)).natAbs ≤ 20000)) (fun s a =>
      let v := ofTwos 18 (setField a 0 17 0)
      let old := s.toll.cal
      let s := { s with toll := { s.toll with cal := v } }
      (s.tollLog s.legalTime 0o155012 0
        ([BitVec.ofNat 18 (fld 17 12 0o11), BitVec.ofNat 18 (twos 18 old)] ++ wide 2 (twos 36 v)), thDone)))

/-- SET-INTERVAL (R406): from the first full hour; the interval in force cancels an earlier one. -/
def execThSetInterval (s : State) : Host.Outcome State Fault Refusal :=
  act [.cway, .toll] s (fun s => s.thServe 0o12 1 true
    (fun a => setField a 0 15 0 = 0 && decide (setField a 0 17 16 ≤ 2)) (fun s a =>
      let code := setField a 0 17 16
      let hour := (s.legalTime / 3600 + 1) * 3600
      let old := s.toll.interval
      let s := { s with toll := { s.toll with pendInterval := if code = old then none else some (code, hour) } }
      (s.tollLog s.legalTime 0o155012 0
        ([BitVec.ofNat 18 (fld 17 12 0o12), BitVec.ofNat 18 (fld 17 16 old)] ++ wide 2 code), thDone)))

/-- The 64 bytes of a P-256 public key in 29 words. -/
def keyBytes (v : Nat) : List Nat := (List.range 64).map (fun i => v / 2 ^ (8 * (63 - i)) % 256)

/-- INSTALL-AUTHORITY. -/
def execThInstallAuthority (s : State) : Host.Outcome State Fault Refusal :=
  act [.cway, .toll] s (fun s => s.thServe 0o13 29 true (fun a => setField a 0 17 8 = 0) (fun s a =>
    let key := setWide a 0 29
    let s := { s with toll := { s.toll with authority := some key } }
    (s.tollLog s.legalTime 0o155026 0 (wide 3 (shaTop 54 (sha256 (keyBytes key))) ++ [0]), thDone)))

/-- INSTALL-METER-KEY (R412). -/
def execThInstallMeterKey (s : State) : Host.Outcome State Fault Refusal :=
  act [.cway, .toll] s (fun s => s.thServe 0o14 49 true (fun a => setField a 0 17 8 = 0) (fun s a =>
    match openMeterKey (setWide a 0 29) (a.drop 29) with
    | some key => ({ s with toll := { s.toll with meterKey := some key } }.tollLog s.legalTime 0o155026 0 (argE9 1), thDone)
    | none => (s, thBadValue)))

/-- VERIFY. -/
def execThVerify (s : State) : Host.Outcome State Fault Refusal :=
  act [.cway, .toll] s (fun s => s.thServe 0o15 0 true anyArgs (fun s _ =>
    ({ s with toll := { s.toll with verifyMark := true } }, thDone)))

/-- CLOSE-CUSTODY. -/
def execThCloseCustody (s : State) : Host.Outcome State Fault Refusal :=
  act [.cway, .toll] s (fun s => s.thServe 0o16 0 true anyArgs (fun s _ => (s.tollCloseCustody 2, thDone)))

/-! ## Parameter sets (R403, R404) -/

def isLegalParams : Msg → Bool
  | .legalParams _ _ => true
  | _ => false

namespace State

/-- A set is refused, and that is logged. -/
def refuseSet (s : State) (p version result : Nat) : State × Nat :=
  (s.tollLog s.legalTime 0o155016 p (wide 2 version ++ [0, BitVec.ofNat 18 result]), result)

/-- A set's signature verifies under the installed authority key (check 2 of R404). -/
def setSigned (s : State) (w : List Word) : Bool :=
  match s.toll.authority with
  | some k => p256.verify k (shaWords (w.take 344)) (setWide w 344 29)
  | none => false

/-- The checks of R404 on a complete set (DEDUCED, notes/assumptions/57). -/
def takeSet (s : State) (p : Nat) (w : List Word) : State × Nat :=
  let v := setVersion w
  let stored := (s.point p).stored
  let used := (s.toll.points.flatMap (fun e =>
    (if e.2.configured then [calendarId e.2.set] else []) ++
      (if e.2.waiting.isEmpty then [] else [calendarId e.2.waiting]))).dedup
  if !setForm w then s.refuseSet p 0 thBadValue
  else if !s.setSigned w then s.refuseSet p v thBadSignature
  else if setInterval w ≠ s.toll.interval then s.refuseSet p v thMismatch
  else if !(setRanges w && decide (setPoint w = p)) then s.refuseSet p v thBadValue
  else if !stored.isEmpty && setDigest w = setDigest stored then (s, thDone)
  else if !stored.isEmpty && v ≤ setVersion stored then s.refuseSet p v thStaleSet
  else if !used.contains (calendarId w) && 32 ≤ used.length then s.refuseSet p v thFull
  else if s.logFull then s.refuseSet p v thLogFull
  else (s.updPoint p { s.point p with waiting := w }, thDone)

/-- A fragment (R403): one out of order discards the assembly of its set (DEDUCED, notes/assumptions/57). -/
def takeFragment (s : State) (p1 : Word) (w : List Word) : State × Nat :=
  let p := bits p1.toNat 17 6
  let frag := bits p1.toNat 5 3
  let last := bits p1.toNat 2 0
  let put := fun (s : State) (a : Option Assembly) =>
    { s with toll := { s.toll with assembly := tabPut none s.toll.assembly p a } }
  let whole := match tabGet none s.toll.assembly p with
    | some a => if frag = a.next ∧ last = a.last then some (a.words ++ w) else none
    | none => none
  match (if frag = 0 then some w else whole) with
  | none => (put s none).refuseSet p 0 thFragment
  | some l =>
    if frag < last then (put s (some { next := frag + 1, last := last, words := l }), thDone)
    else (put s none).takeSet p l

end State

/-- LEGAL_PARAMS_RX (R403, R404). -/
def execLegalParamsRx (s : State) : Host.Outcome State Fault Refusal :=
  act [.cway, .toll] s (fun s =>
    match s.take .thDown .legal .good isLegalParams with
    | (some (.legalParams n w), s) =>
      s.tollRequest (.legalParams n w) n (fun s =>
        if s.toll.metro = Metro.halted then (s, thHalted) else s.takeFragment (wordAt w 0) (w.drop 1))
    | (_, s) => s)

/-- INTERVAL_CHANGE_APPLY (R406) (DEDUCED, notes/assumptions/60). -/
def execIntervalChangeApply (s : State) : Host.Outcome State Fault Refusal :=
  act [.toll] s (fun s =>
    match s.toll.pendInterval with
    | some (code, _) => if s.toll.changeDue && s.toll.booted then s.tollChange code else s
    | none => s)

/-! ## Inputs (R410, R411) -/

/-- PULSE_COUNT (R410). -/
def execPulseCount (input : Fin 8) (s : State) : Host.Outcome State Fault Refusal :=
  act [.toll] s (fun s =>
    if !s.metering then s
    else (s.pointsWith (fun w => setSource w = 1 && setInput w = input.val)).foldl
      (fun s p => s.addVolume p (s.point p).tariff (setConstant (s.point p).set) true) s)

namespace State

/-- A sample of a point's analogue input (R411). -/
def addSample (s : State) (code p : Nat) : State :=
  let v := s.point p
  if 250 * code < 36 * 262144 ∨ 210 * 262144 < 250 * code then
    let s := s.flagInterval 0o20
    if v.loopLogged then s
    else (s.updPoint p { v with loopLogged := true }).tollLog s.legalTime 0o155022 p (argE9 1)
  else
    -- Flow as a part of full scale, over 16 × 262,144.
    let part := 25 * code - 4 * 262144
    if part * 1000 < setLowCut v.set * (16 * 262144) then s
    else
      let sum := v.fraction + part * setConstant v.set
      (s.updPoint p { v with fraction := sum % flowUnit }).addVolume p v.tariff (sum / flowUnit) true

end State

/-- ANALOGUE_SAMPLE (R411), on VT_33 only (R393). -/
def execAnalogueSample (input : Fin 4) (code : Word) (s : State) : Host.Outcome State Fault Refusal :=
  act [.toll] s (fun s =>
    if !s.metering || s.toll.onBackup then s
    else (s.pointsWith (fun w => setSource w = 2 && setInput w = input.val)).foldl (fun s p => s.addSample code.toNat p) s)

/-! ## Station metering sections (R413, R414) -/

/-- `n` bytes from byte `i`, the most significant first. -/
def sectionBytes (b : List Nat) (i n : Nat) : Nat := ofBytes ((b.drop i).take n)

namespace State

/-- Checks 4 to 8 of R414 on entry `i` of a section. -/
def meterEntry (s : State) (station : Nat) (b : List Nat) (i : Nat) : State :=
  let sub := sectionBytes b (8 + 8 * i) 1
  let reading := sectionBytes b (10 + 8 * i) 6
  let dec := sectionBytes b 1 4
  let mseq := sectionBytes b 5 3
  match s.pointsWith (fun w => setSource w = 3 && setStation w = station && setSubindex w = sub) with
  | [] => s
  | p :: _ =>
    let v := s.point p
    let s := if (sectionBytes b (9 + 8 * i) 1).testBit 1 && !v.tamperLogged then
        (s.updPoint p { v with tamperLogged := true }).tollLog s.legalTime 0o155031 p (argE9 station)
      else s
    let v := s.point p
    let len := intervalMin s.toll.interval
    let past := (v.history.find? (fun h => h.1 = dec)).map Prod.snd
    let before := decide (dec < s.toll.changedMin)
    let repeated := match v.lastMseq with
      | some m => decide (mseq ≤ m)
      | none => false
    if repeated then { s with toll := { s.toll with repeat_ := satInc 18 s.toll.repeat_ } }
    else if !before && (dec % len ≠ 0 || decide (s.curMin < dec)) then
      { s with toll := { s.toll with future := satInc 18 s.toll.future } }
    else if before || decide (setLateness v.set < (s.curMin - dec) / len) || (decide (dec < s.curMin) && past.isNone) then
      { s with toll := { s.toll with lateRefused := satInc 18 s.toll.lateRefused, lateRun := s.toll.lateRun + 1 } }
    else
      let s := s.updPoint p { v with lastMseq := some mseq }
      match v.lastReading with
      | none => s.updPoint p { v with lastMseq := some mseq, lastReading := some reading }
      | some last =>
        if reading < last then s.tollLog s.legalTime 0o155022 p (argE9 2)
        else
          let s := s.updPoint p { v with lastMseq := some mseq, lastReading := some reading }
          if dec = s.curMin then s.addVolume p v.tariff (reading - last) true
          else
            let s := s.addVolume p (past.getD 0) (reading - last) false
            if s.toll.marked.contains dec then s
            else { s with toll := { s.toll with
              marked := s.toll.marked.filter (fun m => decide (m < dec)) ++ [dec] ++
                s.toll.marked.filter (fun m => decide (dec < m)) } }

/-- R414 on a section (DEDUCED, notes/assumptions/60). -/
def meterSection (s : State) (station : Nat) (b : List Nat) : State :=
  let head := sectionBytes b 0 1
  let count := head % 32
  if !s.metering then s
  else if head / 32 ≠ 1 || decide (22 < count) || b.length ≠ 24 + 8 * count then
    { s with toll := { s.toll with malformed := satInc 18 s.toll.malformed } }
  else if (s.pointsWith (fun w => setSource w = 3 && setStation w = station)).isEmpty then
    { s with toll := { s.toll with unknownStn := satInc 18 s.toll.unknownStn } }
  else if (s.toll.meterKey.map (fun k => meterTag k station (b.take (8 + 8 * count)))) ≠ some (ofBytes (b.drop (8 + 8 * count))) then
    { s with toll := { s.toll with badTag := satInc 18 s.toll.badTag, badRun := s.toll.badRun + 1 } }
  else
    (List.range count).foldl (fun s i => s.meterEntry station b i)
      { s with toll := { s.toll with sectionsOk := satInc 36 s.toll.sectionsOk } }

end State

def isMeterSection : Msg → Bool
  | .meterSection _ _ _ => true
  | _ => false

/-- METER_SECTION_RX (R414). -/
def execMeterSectionRx (s : State) : Host.Outcome State Fault Refusal :=
  act [.cway, .toll] s (fun s =>
    match s.take .thDown .legal .good isMeterSection with
    | (some m, s) => { s with toll := { s.toll with arrived := s.toll.arrived ++ [m] } }
    | (none, s) => s)

/-- METERING_TICK (R414), every 1/32 s. -/
def execMeteringTick (s : State) : Host.Outcome State Fault Refusal :=
  act [.now, .free, .tp, .toll] s (fun s =>
    if !s.toll.booted then s
    else
      let tick := secs 1 / 32
      let s := s.upTo ((s.now / tick + 1) * tick)
      let l := s.toll.arrived
      l.foldl (fun s m => match m with
        | .meterSection station _ b => s.meterSection station b
        | _ => s) { s with toll := { s.toll with arrived := [] } })

/-! ## Boundaries, reports and display -/

/-- INTERVAL_BOUNDARY (R415, Table 16.8). -/
def execIntervalBoundary (s : State) : Host.Outcome State Fault Refusal :=
  act [.now, .free, .tp, .toll] s (fun s =>
    let t := s.toll.curStart + s.intervalLen
    if !s.toll.booted || s.toll.stopped || s.toll.changeDue || decide (timeEnd < t) then s
    else (s.upTo (s.whenLegal t)).tollBoundary t 0)

/-- REPORT_SIGNED (R419): the oldest unsigned record or entry is reported under its signature, p13 to p41. -/
def execReportSigned (s : State) : Host.Outcome State Fault Refusal :=
  act [.free, .cway, .toll] s (fun s =>
    match s.toll.reports.findIdx? (fun r => r.signature.isEmpty) with
    | none => s
    | some i =>
      match s.toll.reports[i]? with
      | none => s
      | some r =>
        if !s.tollOnVt then s
        else
          let (sig, s) := s.tollSign r.words
          let n := s.toll.thSeq % 262143 + 1
          let s := { s with toll := { s.toll with reports := s.toll.reports.set i { r with signature := sig, seq := n } } }
          s.tollKeep (fun n => .logEntry n (r.words ++ sig)))

/-- The status block without TIME. -/
def statusKey (w : List Word) : List Word := w.take 1 ++ w.drop 3

/-- STATUS_WINDOW_REFRESH (R420): at once after a change of the status block, otherwise 1 s after the last. -/
def execStatusWindowRefresh (s : State) : Host.Outcome State Fault Refusal :=
  act [.now, .free, .tp, .cway, .toll] s (fun s =>
    if !s.wayOpen .thUp then s
    else
      let s := if statusKey s.statusBlock = s.toll.statusSent then s.upTo (s.toll.statusAt + secs 1) else s
      let w := s.statusBlock
      let s := { s with toll := { s.toll with statusSent := statusKey w, statusAt := s.now } }
      s.tollKeep (fun n => .windowWrite n 0o100 w))

/-- DISPLAY_CYCLE (R427): one line for each register that is not zero. -/
def execDisplayCycle (s : State) : Host.Outcome State Fault Refusal :=
  act [] s (fun s =>
    if s.tollOnVt then
      let lines := (s.toll.points.filter (fun e => e.2.configured)).flatMap (fun e =>
        (e.2.regs.filter (fun r => decide (r.2 ≠ 0))).map (fun r => (e.1, r.1, r.2)))
      s.send (.display s.toll.metro.code s.legalTime lines)
    else s)

/-! ## The link (R345 to R349) -/

def isThAck : Msg → Bool
  | .thAck _ => true
  | _ => false

/-- TH_ACK_RX (R347). -/
def execThAckRx (s : State) : Host.Outcome State Fault Refusal :=
  act [.cway, .toll] s (fun s =>
    match s.take .thDown .legal .good isThAck with
    | (some (.thAck n), s) => s.tollAck n
    | (_, s) => s)

/-- A TYPE that may cross the link from the host, or from the Tollhouse (Table 14.4). -/
def mayCross (toTollhouse : Bool) (type : Nat) : Bool :=
  if toTollhouse then decide (0o30 ≤ type ∧ type ≤ 0o32) else decide (0o33 ≤ type ∧ type ≤ 0o36)

/-- LINK_MESSAGE_RELAY (R346, R349): the oldest class 3 message that has come is forwarded; `foreign` is the TYPE of another
message that is bound to or from the Tollhouse: the Verge die discards it, and its event and count reach the host with the next
refresh of the metering hold's unit (DESIGN CHOICE, notes/assumptions/50). -/
def execLinkMessageRelay (toTollhouse : Bool) (foreign : Option (BitVec 6)) (fault : MsgFault) (s : State) :
    Host.Outcome State Fault Refusal :=
  act [.cway, .verge] s (fun s =>
    match foreign with
    | some ty =>
      if mayCross toTollhouse ty.toNat || !s.vergeRuns || s.isN then s
      else (s.vergeEvent 0o13 0o131007 ty.toNat).refresh 0o13
    | none =>
      match s.take (if toTollhouse then .down else .thUp) .legal fault (fun _ => true) with
      | (none, s) => s
      | (some m, s) =>
        if !toTollhouse then s.sendMsg .up .legal m
        else if s.isN then
          match m with
          | .thCommand n _ => s.sendMsg .up .legal (.thReply n thAbsent)
          | .legalParams n _ => s.sendMsg .up .legal (.thReply n thAbsent)
          | _ => s
        else s.sendMsg .thDown .legal m)

/-- TH_LINK_HEARTBEAT_TIMEOUT (R345, R348). -/
def execThLinkHeartbeatTimeout (s : State) : Host.Outcome State Fault Refusal :=
  act [.cway, .verge] s (fun s => if s.verge.thLink then s.thLinkDown.refresh 0o13 else s)

/-- TOLLHOUSE_LINK_UP (R348): the Tollhouse sends TH_HELLO and its reports, and held metering sections go out. -/
def execTollhouseLinkUp (s : State) : Host.Outcome State Fault Refusal :=
  act [.cway, .verge, .toll] s (fun s =>
    if s.isN || s.verge.thLink || !s.tollOnVt || !s.vergeRuns then s
    else
      let s := { s with verge := { s.verge with thLink := true } }
      let s := s.setChan .thDown .legal ((s.chan .thDown .legal).fresh (credit0 .thDown .legal))
      let s := s.setChan .thUp .legal { credit := credit0 .thUp .legal }
      ((s.tollHello.pump .thDown .legal).holdGo).refresh 0o13)

end Sys2Proof.Machine
end

