-- ==== Sys2Proof/Machine/Dispatch.lean ====
section
/-!
DEFINITION. One arm for each command.
-/

namespace Sys2Proof.Machine

def exec (i : Instr) (s : State) : Host.Outcome State Fault Refusal :=
  match i with
  | .hostRstNRelease nvmVsel railLow capture programmed => Sys2Proof.Machine.execHostRstNRelease nvmVsel railLow capture programmed s
  | .hostRstNAssertion lowNs => Sys2Proof.Machine.execHostRstNAssertion lowNs s
  | .supplyWarning rail => Sys2Proof.Machine.execSupplyWarning rail s
  | .supplyMonitorReset rail fall capture => Sys2Proof.Machine.execSupplyMonitorReset rail fall capture s
  | .xoInRuns => Sys2Proof.Machine.execXoInRuns s
  | .rootApllLocked failing => Sys2Proof.Machine.execRootApllLocked failing s
  | .otpRead => Sys2Proof.Machine.execOtpRead s
  | .forwardCompletion fuses => Sys2Proof.Machine.execForwardCompletion fuses s
  | .pufRereadout capture => Sys2Proof.Machine.execPufRereadout capture s
  | .rootDerived => Sys2Proof.Machine.execRootDerived s
  | .sfdpDiscovery nor => Sys2Proof.Machine.execSfdpDiscovery nor s
  | .bootRecordCleared refused readsBack => Sys2Proof.Machine.execBootRecordCleared refused readsBack s
  | .slotVerified readError => Sys2Proof.Machine.execSlotVerified readError s
  | .imageApplied => Sys2Proof.Machine.execImageApplied s
  | .sdramTrainingEnd failed => Sys2Proof.Machine.execSdramTrainingEnd failed s
  | .outcomeRunning upsets => Sys2Proof.Machine.execOutcomeRunning upsets s
  | .memoryKeysDrawn => Sys2Proof.Machine.execMemoryKeysDrawn s
  | .mportLinkUp => Sys2Proof.Machine.execMportLinkUp s
  | .vf33Loss => Sys2Proof.Machine.execVf33Loss s
  | .vf33Release => Sys2Proof.Machine.execVf33Release s
  | .fieldRstN lowNs => Sys2Proof.Machine.execFieldRstN lowNs s
  | .vergeClockLoss => Sys2Proof.Machine.execVergeClockLoss s
  | .vergeCdrLock => Sys2Proof.Machine.execVergeCdrLock s
  | .applyStaged r => Sys2Proof.Machine.execApplyStaged r s
  | .applyVerificationDone readError => Sys2Proof.Machine.execApplyVerificationDone readError s
  | .dSectionBoundary type inst => Sys2Proof.Machine.execDSectionBoundary type inst s
  | .bootRecordWritten refused readsBack capture => Sys2Proof.Machine.execBootRecordWritten refused readsBack capture s
  | .commitCopyDone refused worn readError => Sys2Proof.Machine.execCommitCopyDone refused worn readError s
  | .leaseJournalAppend refused => Sys2Proof.Machine.execLeaseJournalAppend refused s
  | .stageOpen r => Sys2Proof.Machine.execStageOpen r s
  | .stageData r offset bytes => Sys2Proof.Machine.execStageData r offset bytes s
  | .stageDataProgrammed refused => Sys2Proof.Machine.execStageDataProgrammed refused s
  | .stageClose r => Sys2Proof.Machine.execStageClose r s
  | .stagedSlotVerified readError => Sys2Proof.Machine.execStagedSlotVerified readError s
  | .custBtnPress releasedMs => Sys2Proof.Machine.execCustBtnPress releasedMs s
  | .custBtnRelease => Sys2Proof.Machine.execCustBtnRelease s
  | .custJmpInstalled => Sys2Proof.Machine.execCustJmpInstalled s
  | .custJmpRemoved => Sys2Proof.Machine.execCustJmpRemoved s
  | .windowOpen => Sys2Proof.Machine.execWindowOpen s
  | .nojmpPress => Sys2Proof.Machine.execNojmpPress s
  | .windowTimeout => Sys2Proof.Machine.execWindowTimeout s
  | .closeWindow r => Sys2Proof.Machine.execCloseWindow r s
  | .enrol r => Sys2Proof.Machine.execEnrol r s
  | .toProvision r => Sys2Proof.Machine.execToProvision r s
  | .fuseAuthority r hash => Sys2Proof.Machine.execFuseAuthority r hash s
  | .toField r => Sys2Proof.Machine.execToField r s
  | .toAnalysis r => Sys2Proof.Machine.execToAnalysis r s
  | .retire r => Sys2Proof.Machine.execRetire r s
  | .restartWithStaged r readError => Sys2Proof.Machine.execRestartWithStaged r readError s
  | .commitStagedToA r => Sys2Proof.Machine.execCommitStagedToA r s
  | .commitStagedToB r => Sys2Proof.Machine.execCommitStagedToB r s
  | .raiseImageRung r n => Sys2Proof.Machine.execRaiseImageRung r n s
  | .registerDestroyDone failing => Sys2Proof.Machine.execRegisterDestroyDone failing s
  | .enrolCapture capture => Sys2Proof.Machine.execEnrolCapture capture s
  | .helperBankWritten stop => Sys2Proof.Machine.execHelperBankWritten stop s
  | .authorityBankWritten stop => Sys2Proof.Machine.execAuthorityBankWritten stop s
  | .intentPairWritten a b => Sys2Proof.Machine.execIntentPairWritten a b s
  | .donePairWritten a b => Sys2Proof.Machine.execDonePairWritten a b s
  | .leaseLadderAdvance ia ib a b => Sys2Proof.Machine.execLeaseLadderAdvance ia ib a b s
  | .stationKeyDerived station => Sys2Proof.Machine.execStationKeyDerived station s
  | .entropyWindowEnd samples => Sys2Proof.Machine.execEntropyWindowEnd samples s
  | .healthTestFailure samples => Sys2Proof.Machine.execHealthTestFailure samples s
  | .retestEnd samples => Sys2Proof.Machine.execRetestEnd samples s
  | .reseedDue => Sys2Proof.Machine.execReseedDue s
  | .entropyRequestTimeout => Sys2Proof.Machine.execEntropyRequestTimeout s
  | .memoryKeyRetry tenant => Sys2Proof.Machine.execMemoryKeyRetry tenant s
  | .refActivityLost ref => Sys2Proof.Machine.execRefActivityLost ref s
  | .refActivityGood ref => Sys2Proof.Machine.execRefActivityGood ref s
  | .frequencyResult ref ppb => Sys2Proof.Machine.execFrequencyResult ref ppb s
  | .wtrExpiry ref => Sys2Proof.Machine.execWtrExpiry ref s
  | .bwStageSettled loop => Sys2Proof.Machine.execBwStageSettled loop s
  | .lockedReached loop => Sys2Proof.Machine.execLockedReached loop s
  | .holdFreqUpdate loop => Sys2Proof.Machine.execHoldFreqUpdate loop s
  | .holdLimitReached => Sys2Proof.Machine.execHoldLimitReached s
  | .xoFailure => Sys2Proof.Machine.execXoFailure s
  | .laneFault lane losses receiving => Sys2Proof.Machine.execLaneFault lane losses receiving s
  | .laneErrorThreshold lane corrected uncorrectable receiving => Sys2Proof.Machine.execLaneErrorThreshold lane corrected uncorrectable receiving s
  | .laneUp lane => Sys2Proof.Machine.execLaneUp lane s
  | .linkHoldExpiry lane => Sys2Proof.Machine.execLinkHoldExpiry lane s
  | .dampExpiry lane => Sys2Proof.Machine.execDampExpiry lane s
  | .clientFrameRx lane bytes => Sys2Proof.Machine.execClientFrameRx lane bytes s
  | .trunkFrameRx lane f => Sys2Proof.Machine.execTrunkFrameRx lane f s
  | .pauseFrameRx lane quanta => Sys2Proof.Machine.execPauseFrameRx lane quanta s
  | .pfcFrameRx lane enable quanta => Sys2Proof.Machine.execPfcFrameRx lane enable quanta s
  | .pauseTimerExpiry lane prio => Sys2Proof.Machine.execPauseTimerExpiry lane prio s
  | .pauseRefresh lane => Sys2Proof.Machine.execPauseRefresh lane s
  | .txFrameComplete lane => Sys2Proof.Machine.execTxFrameComplete lane s
  | .schedulerPick lane engineWait => Sys2Proof.Machine.execSchedulerPick lane engineWait s
  | .degradedExpiry tenant => Sys2Proof.Machine.execDegradedExpiry tenant s
  | .tenantReset r tenant => Sys2Proof.Machine.execTenantReset r tenant s
  | .unfence r tenant => Sys2Proof.Machine.execUnfence r tenant s
  | .resetDrainEnd tenant => Sys2Proof.Machine.execResetDrainEnd tenant s
  | .resetQueuesEmptied tenant => Sys2Proof.Machine.execResetQueuesEmptied tenant s
  | .regionResetComplete region => Sys2Proof.Machine.execRegionResetComplete region s
  | .resetWindowExpiry tenant => Sys2Proof.Machine.execResetWindowExpiry tenant s
  | .ackSeqWrite r tenant value => Sys2Proof.Machine.execAckSeqWrite r tenant value s
  | .notifyFrameSend tenant => Sys2Proof.Machine.execNotifyFrameSend tenant s
  | .spillAcceptTimeout queue ahead => Sys2Proof.Machine.execSpillAcceptTimeout queue ahead s
  | .spillReadBack queue good => Sys2Proof.Machine.execSpillReadBack queue good s
  | .drainTimeout tenant => Sys2Proof.Machine.execDrainTimeout tenant s
  | .delayQuietExpiry queue => Sys2Proof.Machine.execDelayQuietExpiry queue s
  | .oldTxSlotDestroy stream => Sys2Proof.Machine.execOldTxSlotDestroy stream s
  | .noticeAckTimeout stream => Sys2Proof.Machine.execNoticeAckTimeout stream s
  | .noticeWaitTimeout stream => Sys2Proof.Machine.execNoticeWaitTimeout stream s
  | .leaseQueryRx lane words => Sys2Proof.Machine.execLeaseQueryRx lane words s
  | .leaseNoticeRx lane words => Sys2Proof.Machine.execLeaseNoticeRx lane words s
  | .noticeAckRx lane words => Sys2Proof.Machine.execNoticeAckRx lane words s
  | .helloRx lane words => Sys2Proof.Machine.execHelloRx lane words s
  | .replyRx lane words => Sys2Proof.Machine.execReplyRx lane words s
  | .finishRx lane words => Sys2Proof.Machine.execFinishRx lane words s
  | .installedRx lane words => Sys2Proof.Machine.execInstalledRx lane words s
  | .refuseRx lane words => Sys2Proof.Machine.execRefuseRx lane words s
  | .handshakeRetransmit group => Sys2Proof.Machine.execHandshakeRetransmit group s
  | .finishWaitTimeout group => Sys2Proof.Machine.execFinishWaitTimeout group s
  | .pkOperationDone => Sys2Proof.Machine.execPkOperationDone s
  | .linkKeysDerived group => Sys2Proof.Machine.execLinkKeysDerived group s
  | .backoffExpiry group => Sys2Proof.Machine.execBackoffExpiry group s
  | .rekeyDue group => Sys2Proof.Machine.execRekeyDue group s
  | .settleExpiry group => Sys2Proof.Machine.execSettleExpiry group s
  | .tableRead r table first count => Sys2Proof.Machine.execTableRead r table first count s
  | .memoryReadComplete region level index read latency => Sys2Proof.Machine.execMemoryReadComplete region level index read latency s
  | .reencryptionComplete region level index siblings => Sys2Proof.Machine.execReencryptionComplete region level index siblings s
  | .directoryRequest region line write evict => Sys2Proof.Machine.execDirectoryRequest region line write evict s
  | .snoop engine region line evicting => Sys2Proof.Machine.execSnoop engine region line evicting s
  | .snoopAnswer engine region line => Sys2Proof.Machine.execSnoopAnswer engine region line s
  | .l0Release engine region line dirty => Sys2Proof.Machine.execL0Release engine region line dirty s
  | .dapAccess region line write raw => Sys2Proof.Machine.execDapAccess region line write raw s
  | .trainAligned => Sys2Proof.Machine.execTrainAligned s
  | .trainingTimeout => Sys2Proof.Machine.execTrainingTimeout s
  | .channelFail channels => Sys2Proof.Machine.execChannelFail channels s
  | .heartbeatRx atVerge pair fault => Sys2Proof.Machine.execHeartbeatRx atVerge pair fault s
  | .heartbeatDue verge => Sys2Proof.Machine.execHeartbeatDue verge s
  | .creditRx way cls words => Sys2Proof.Machine.execCreditRx way cls words s
  | .ackRx way cls => Sys2Proof.Machine.execAckRx way cls s
  | .nakRx way cls retrained => Sys2Proof.Machine.execNakRx way cls retrained s
  | .gobackTimeout way cls retrained => Sys2Proof.Machine.execGobackTimeout way cls retrained s
  | .retrainTimer success => Sys2Proof.Machine.execRetrainTimer success s
  | .portConfigRx fault => Sys2Proof.Machine.execPortConfigRx fault s
  | .portCmdRetry fault => Sys2Proof.Machine.execPortCmdRetry fault s
  | .portCmdClear fault => Sys2Proof.Machine.execPortCmdClear fault s
  | .stateUpdateRx fault => Sys2Proof.Machine.execStateUpdateRx fault s
  | .stateQueryRx fault => Sys2Proof.Machine.execStateQueryRx fault s
  | .cmdReplyRx fault => Sys2Proof.Machine.execCmdReplyRx fault s
  | .stationUpRx fault => Sys2Proof.Machine.execStationUpRx fault s
  | .stationDownRx fault => Sys2Proof.Machine.execStationDownRx fault s
  | .legalParamsRx => Sys2Proof.Machine.execLegalParamsRx s
  | .thAckRx => Sys2Proof.Machine.execThAckRx s
  | .windowWriteRx fault => Sys2Proof.Machine.execWindowWriteRx fault s
  | .logEntryRx fault => Sys2Proof.Machine.execLogEntryRx fault s
  | .thReplyRx fault => Sys2Proof.Machine.execThReplyRx fault s
  | .thHelloRx fault => Sys2Proof.Machine.execThHelloRx fault s
  | .meterSectionRx => Sys2Proof.Machine.execMeterSectionRx s
  | .linkMessageRelay toTollhouse foreign fault => Sys2Proof.Machine.execLinkMessageRelay toTollhouse foreign fault s
  | .thLinkHeartbeatTimeout => Sys2Proof.Machine.execThLinkHeartbeatTimeout s
  | .tollhouseLinkUp => Sys2Proof.Machine.execTollhouseLinkUp s
  | .stationFrameRx port bytes => Sys2Proof.Machine.execStationFrameRx port bytes s
  | .gapAbort port => Sys2Proof.Machine.execGapAbort port s
  | .syncClockStop port => Sys2Proof.Machine.execSyncClockStop port s
  | .ctsAsserted port => Sys2Proof.Machine.execCtsAsserted port s
  | .ctsTimeout port => Sys2Proof.Machine.execCtsTimeout port s
  | .leadExpiry port => Sys2Proof.Machine.execLeadExpiry port s
  | .downstreamTxEnd port => Sys2Proof.Machine.execDownstreamTxEnd port s
  | .tailExpiry port => Sys2Proof.Machine.execTailExpiry port s
  | .dcdChange port level => Sys2Proof.Machine.execDcdChange port level s
  | .portDownProbe port => Sys2Proof.Machine.execPortDownProbe port s
  | .fieldInputChange input level => Sys2Proof.Machine.execFieldInputChange input level s
  | .vpFrameDequeue => Sys2Proof.Machine.execVpFrameDequeue s
  | .thPowerOnReset onVbat => Sys2Proof.Machine.execThPowerOnReset onVbat s
  | .thSelfCheckDone failed => Sys2Proof.Machine.execThSelfCheckDone failed s
  | .thSwitchToVbat mv => Sys2Proof.Machine.execThSwitchToVbat mv s
  | .thReturnToVt33 mv => Sys2Proof.Machine.execThReturnToVt33 mv s
  | .vbatMeasurement mv => Sys2Proof.Machine.execVbatMeasurement mv s
  | .crystalStopped => Sys2Proof.Machine.execCrystalStopped s
  | .crystalResumed => Sys2Proof.Machine.execCrystalResumed s
  | .timeSave mramOk => Sys2Proof.Machine.execTimeSave mramOk s
  | .timeRangeEnd => Sys2Proof.Machine.execTimeRangeEnd s
  | .sealLoopOpen => Sys2Proof.Machine.execSealLoopOpen s
  | .sealLoopClosed => Sys2Proof.Machine.execSealLoopClosed s
  | .thKeyPress => Sys2Proof.Machine.execThKeyPress s
  | .custodyOpen => Sys2Proof.Machine.execCustodyOpen s
  | .custodyTimeout => Sys2Proof.Machine.execCustodyTimeout s
  | .thReadIdent => Sys2Proof.Machine.execThReadIdent s
  | .thReadPoint => Sys2Proof.Machine.execThReadPoint s
  | .thReadRecord mramOk => Sys2Proof.Machine.execThReadRecord mramOk s
  | .thAdjustTime => Sys2Proof.Machine.execThAdjustTime s
  | .thDemandReset => Sys2Proof.Machine.execThDemandReset s
  | .thSetTime => Sys2Proof.Machine.execThSetTime s
  | .thSetCal => Sys2Proof.Machine.execThSetCal s
  | .thSetInterval => Sys2Proof.Machine.execThSetInterval s
  | .thInstallAuthority => Sys2Proof.Machine.execThInstallAuthority s
  | .thInstallMeterKey => Sys2Proof.Machine.execThInstallMeterKey s
  | .thVerify => Sys2Proof.Machine.execThVerify s
  | .thCloseCustody => Sys2Proof.Machine.execThCloseCustody s
  | .intervalChangeApply => Sys2Proof.Machine.execIntervalChangeApply s
  | .pulseCount input => Sys2Proof.Machine.execPulseCount input s
  | .analogueSample input code => Sys2Proof.Machine.execAnalogueSample input code s
  | .meteringTick => Sys2Proof.Machine.execMeteringTick s
  | .intervalBoundary => Sys2Proof.Machine.execIntervalBoundary s
  | .reportSigned => Sys2Proof.Machine.execReportSigned s
  | .statusWindowRefresh => Sys2Proof.Machine.execStatusWindowRefresh s
  | .displayCycle => Sys2Proof.Machine.execDisplayCycle s
  | .thCommandWaitTimeout session => Sys2Proof.Machine.execThCommandWaitTimeout session s
  | .signpostOpen lane bytes => Sys2Proof.Machine.execSignpostOpen lane bytes s
  | .request lane bytes => Sys2Proof.Machine.execRequest lane bytes s
  | .plainRequest lane bytes => Sys2Proof.Machine.execPlainRequest lane bytes s
  | .openingTimeout c => Sys2Proof.Machine.execOpeningTimeout c s
  | .sessionIdleTimeout c => Sys2Proof.Machine.execSessionIdleTimeout c s
  | .authLockExpiry tenant => Sys2Proof.Machine.execAuthLockExpiry tenant s
  | .read r address count => Sys2Proof.Machine.execRead r address count s
  | .write r address words => Sys2Proof.Machine.execWrite r address words s
  | .thResult r hostSeq => Sys2Proof.Machine.execThResult r hostSeq s
  | .exportReports r position count => Sys2Proof.Machine.execExportReports r position count s
  | .exportJournal r position count => Sys2Proof.Machine.execExportJournal r position count s
  | .close r => Sys2Proof.Machine.execClose r s
  | .alarmAckEntry r a0 event kindNumber => Sys2Proof.Machine.execAlarmAckEntry r a0 event kindNumber s
  | .alarmAckClass r a0 => Sys2Proof.Machine.execAlarmAckClass r a0 s
  | .alarmAckAll r => Sys2Proof.Machine.execAlarmAckAll r s
  | .alertHoldExpiry => Sys2Proof.Machine.execAlertHoldExpiry s
  | .milepostSelWrite r block counter value => Sys2Proof.Machine.execMilepostSelWrite r block counter value s
  | .threshWrite r block counter value => Sys2Proof.Machine.execThreshWrite r block counter value s
  | .windowBoundary => Sys2Proof.Machine.execWindowBoundary s
  | .snapNow r => Sys2Proof.Machine.execSnapNow r s
  | .runWrite r on => Sys2Proof.Machine.execRunWrite r on s
  | .win100usWrite r value => Sys2Proof.Machine.execWin100usWrite r value s
  | .snapshotCopyDone => Sys2Proof.Machine.execSnapshotCopyDone s
  | .waymarkControlWrite r value => Sys2Proof.Machine.execWaymarkControlWrite r value s
  | .waymarkRateWrite r value => Sys2Proof.Machine.execWaymarkRateWrite r value s
  | .waymarkFilterWrite r value => Sys2Proof.Machine.execWaymarkFilterWrite r value s
  | .waymarkClear r => Sys2Proof.Machine.execWaymarkClear r s
  | .arm r on => Sys2Proof.Machine.execArm r on s
  | .freezeNow r => Sys2Proof.Machine.execFreezeNow r s
  | .postBlocksWritten => Sys2Proof.Machine.execPostBlocksWritten s
  | .baseCapture => Sys2Proof.Machine.execBaseCapture s
  | .checkpointCapture => Sys2Proof.Machine.execCheckpointCapture s
  | .gapRecord => Sys2Proof.Machine.execGapRecord s
  | .go r => Sys2Proof.Machine.execGo r s
  | .replayCycle => Sys2Proof.Machine.execReplayCycle s
  | .progressBoundExceeded queue => Sys2Proof.Machine.execProgressBoundExceeded queue s
  | .fabricBoundExceeded cls => Sys2Proof.Machine.execFabricBoundExceeded cls s
  | .pauseMaxExceeded lane => Sys2Proof.Machine.execPauseMaxExceeded lane s
  | .requestPromotion requester age conflicts => Sys2Proof.Machine.execRequestPromotion requester age conflicts s
  | .thSupplyLoss => Sys2Proof.Machine.execThSupplyLoss s
  | .signalRegained lane => Sys2Proof.Machine.execSignalRegained lane s
  | .helperBankVoided fuses => Sys2Proof.Machine.execHelperBankVoided fuses s
  | .sofReceived port => Sys2Proof.Machine.execSofReceived port s
  | .thKeyRelease => Sys2Proof.Machine.execThKeyRelease s
  | .mportLinkDown => Sys2Proof.Machine.execMportLinkDown s
  | .fieldRstNRelease => Sys2Proof.Machine.execFieldRstNRelease s
  | .thCommand r args => Sys2Proof.Machine.execThCommand r args s
  | .portCommand r a0 => Sys2Proof.Machine.execPortCommand r a0 s
  | .flapWindowExpiry lane => Sys2Proof.Machine.execFlapWindowExpiry lane s
  | .sec60sExpiry => Sys2Proof.Machine.execSec60sExpiry s

end Sys2Proof.Machine
end

