-- ==== Sys2Proof/Safety.lean ====
section
/-!
DEFINITION. The terms in which the statements speak of a run: what two states agree on, what a command may change, and what every
reachable state keeps.
-/

namespace Sys2Proof.Machine

/-! ## Frames -/

/-- Two states agree in one part. -/
def State.same (s t : State) : Part → Prop
  | .now => t.now = s.now
  | .isN => t.isN = s.isN
  | .free => t.free = s.free
  | .once => t.once = s.once
  | .pins => t.pins = s.pins
  | .start => t.start = s.start
  | .nor => t.nor = s.nor
  | .image => t.image = s.image
  | .cus => t.cus = s.cus
  | .otp => t.otp = s.otp
  | .keys => t.keys = s.keys
  | .trng => t.trng = s.trng
  | .jun => t.jun = s.jun
  | .lanes => t.lanes = s.lanes
  | .tenants => t.tenants = s.tenants
  | .tp => t.tp = s.tp
  | .link => t.link = s.link
  | .zheac => t.zheac = s.zheac
  | .mem => t.mem = s.mem
  | .cway => t.cway = s.cway
  | .verge => t.verge = s.verge
  | .stn => t.stn = s.stn
  | .toll => t.toll = s.toll
  | .alarm => t.alarm = s.alarm
  | .sp => t.sp = s.sp
  | .mile => t.mile = s.mile
  | .way => t.way = s.way
  | .trip => t.trip = s.trip
  | .promoted => t.promoted = s.promoted
  | .notes => t.notes = s.notes
  | .sent => t.sent = s.sent
  | .pending => t.pending = s.pending

/-- From `s` to `t` nothing but the named parts has changed. -/
def State.onlyChanges (s t : State) (ps : List Part) : Prop := ∀ p, p ∉ ps → s.same t p

/-- What any command may change, since events and counts of it reach there: alarms and events, Milepost, the Trip Recorder, and
what is sent. -/
def observers : List Part := [.alarm, .mile, .trip, .notes, .sent]

/-- A response to a caller with this verb, STATUS and words is among what the command sent. -/
def State.answers (t : State) (c : Caller) (verb status : Nat) (words : List Word) : Bool :=
  t.sent.any (fun m => match m with
    | .response r => decide (r.dest = c ∧ r.verb = verb ∧ r.status = status ∧ r.words = words)
    | _ => false)

/-- The caller's session is OPEN and the request's condition, if it has one, holds for the unit it acts on (R434, R444). -/
def State.mayAct (s : State) (r : VerbCall) (unit : Option (Nat × Nat)) : Bool :=
  s.callerOpen r.caller && decide (State.condStatus r unit = none)

/-- The next message on the wire of a class is `m`, in SEQ order, and its way is open (R339, R341). -/
def State.arrives (s : State) (w : Way) (c : MsgClass) (m : Msg) : Bool :=
  s.wayOpen w && (match (s.chan w c).wire with
    | (seq, n) :: _ => decide (n = m ∧ seq = (s.chan w c).expected)
    | [] => false)

/-- A message of a class that satisfies `p` waits to be sent, or has been sent and is not yet acknowledged. -/
def State.holds (s : State) (w : Way) (c : MsgClass) (p : Msg → Bool) : Bool :=
  ((s.chan w c).waiting ++ (s.chan w c).unacked.map Prod.snd).any p

/-- The next message on the Tollhouse's link is a command of these words, and repeats none that it has answered (R401). -/
def State.thTakes (s : State) (hostSeq : Nat) (w : List Word) : Bool :=
  s.arrives .thDown .legal (.thCommand hostSeq w) && !s.toll.results.any (fun e => decide (e.1 = .thCommand hostSeq w))

/-- The last request that the Tollhouse has answered, with its result. -/
def State.thAnswered (t : State) (m : Msg) (result : Nat) : Bool := decide (t.toll.results.head? = some (m, result))

/-- A STATE_UPDATE of a Verge unit with these words. -/
def updateOf (u : Nat) (ws : List Nat) : Msg → Bool
  | .stateUpdate v w _ => decide (v = u ∧ w = ws)
  | _ => false

/-- A response leaves the caller's session open: no counter of it is at its end (R436). -/
def State.stays (s : State) (c : Caller) : Bool :=
  match s.session? c with
  | some v => decide (v.txSeq + 1 < 2 ^ 36 ∧ v.rxSeq + 1 < 2 ^ 36)
  | none => true

/-- What the classifier compares of a client frame on lane `n`, given with its FCS (R210, R212). -/
def clientKey (n : Nat) (bytes : List Byte) : State.Key := State.keyOf n false (frameData (bytesOf bytes))

/-- A frame whose FCS and length are good comes on lane `n`, an Ethernet trunk that is UP (R267, Table 8.6). -/
def State.trunkArrives (s : State) (lane n : Nat) (f : List Nat) : Bool :=
  decide (s.laneLead lane = some n) && s.laneIsTrunk n && s.laneUpNow n && !s.replayMode && decide (s.laneMode n ≠ 6) &&
    fcsGood f && decide (64 ≤ f.length ∧ f.length ≤ s.laneMaxFrame n)

/-- And it is a protected frame, of at least the least length, which names no receive stream that the checks of Table 11.4 refuse. -/
def State.secArrives (s : State) (lane n x : Nat) (f : List Nat) : Bool :=
  s.trunkArrives lane n f && decide (pairAt f 12 = 0x88E5 ∧ 96 ≤ f.length ∧ secTci (frameData f) / 4 * 4 = 0x2C ∧
    secSl (frameData f) = 0 ∧ s.rxOf n (secSci (frameData f)) = some x)

/-- No request waits at the directory or for an engine, and no line is being evicted. -/
def State.dirIdle (s : State) : Bool :=
  s.mem.backlog.isEmpty && s.mem.dir.all (fun e => e.2.waiting.isEmpty && !e.2.evicting)

/-- A read of a line below the root that its unit has asked for completes, and no replayed record decides it (R322, R505). -/
def State.readDue (s : State) (r k i : Nat) : Bool :=
  s.memAccess r && s.hasLine r k i && !(s.region r).closed && decide (s.minorOver r k i ≠ 0) && s.readIssued r k i &&
    s.trip.forced.all (fun e => decide (e.1 ≠ State.lineKey r k i))

/-- A request for a data line reaches its engine: memory is ready, the line exists, its region open and at rest (R320). -/
def State.lineServed (s : State) (r line : Nat) : Bool :=
  s.memReady && !s.mem.quarantined && decide (line < levelLines s.memBody r 0) && !(s.region r).closed && !(s.region r).resetting &&
    s.mem.reencs.isEmpty && s.mem.backlog.isEmpty && s.hasCredit (lineEngine s.memBody r line) 0 0

/-- Its level-1 line waits for nothing and can be given to the engine. -/
def State.l1Idle (s : State) (r line : Nat) : Bool :=
  let v := s.dirLine (State.lineKey r 1 (line / 24))
  v.waiting.isEmpty && !v.evicting && s.l0Room v (lineEngine s.memBody r line)

/-- The path on which a frame reaches Signpost, with its lane: the M-port, or a client lane of a tenant (R428, R429, R209). -/
def State.spPath (s : State) (lane : Option (Fin 16)) (f : List Nat) : Option (Option Nat × Nat) :=
  match lane with
  | none =>
    if s.start.mportUp && decide (64 ≤ f.length ∧ f.length ≤ 1518) && fcsGood f && decide (pairAt f 12 = s.mportEtype) &&
        (decide (frameDa f = s.mportMac) || decide (frameDa f = 0xFFFFFFFFFFFF)) && s.filterPasses (frameSa f) then some (none, 0)
    else none
  | some l =>
    (s.laneLead l).bind (fun n =>
      if s.laneIsClient n && s.laneUpNow n && !s.replayMode && fcsGood f && decide (64 ≤ f.length ∧ f.length ≤ s.laneMaxFrame n) &&
          decide (pairAt f 12 ≠ 0x8808 ∧ frameDa f = s.laneMac n) then (s.mgmtTenant n f).map (fun t => (some t, n))
      else none)

/-- The Signpost message in a frame of a path. -/
def spMessage (p : Option Nat) (bytes : List Byte) : List Nat := (bytesOf bytes).drop (if p.isSome then 18 else 14)

/-- A message of a KIND comes in a frame of a path, and is well formed (R430, R431). -/
def State.spTakes (s : State) (lane : Option (Fin 16)) (bytes : List Byte) (p : Option Nat) (kind : Nat) : Bool :=
  decide ((s.spPath lane (bytesOf bytes)).map Prod.fst = some p) && decide (s.framesWaiting < 64) &&
    spFormOk p bytes.length (spMessage p bytes) && decide (spKind (spMessage p bytes) = kind)

/-- The TAG of an OPEN verifies under the principal key of its path (R432). -/
def State.openVerifies (s : State) (p : Option Nat) (m : List Nat) : Bool :=
  match s.lookup (State.principalSlot p) with
  | some value => decide (hmac384 (beBytes 32 (slotKey value)) (spHead m ++ spText m) / 2 ^ 256 = spTag m)
  | none => false

/-- The body of a REQUEST, where its TAG verifies under the key of its session (R435). -/
def State.requestOpens (s : State) (p : Option Nat) (m : List Nat) : Option (List Nat) :=
  (s.lookup (State.sessSlot (State.frameCaller p m))).bind (fun value =>
    if gcmTag (slotKey value) (spIv 0x01 (spSeq m)) (spHead m) (spText m) = spTag m then
      some (spBody (gcmText (slotKey value) (spIv 0x01 (spSeq m)) (spText m)))
    else none)

/-- The selected reference stands: it is available, and nothing that Junction has not yet taken up takes it away (R163, R166, R168). -/
def State.junStands (s : State) : Bool :=
  (List.range 2).all (fun r => !(s.junRef r).act || s.junFed r) &&
    (List.range 4).all (fun r => (s.junRef r).wtrUntil.isNone) && !s.junRevert &&
    decide (s.jun.selected ≠ 0) && s.junAvailable (s.jun.selected - 1)

/-- A request reaches the custodian, the window open (R113, R116). -/
def State.custody (s : State) (r : VerbCall) : Bool :=
  s.mayAct r none && State.cusCarrier s r.caller && decide (s.cus.win = WinState.opened ∧ s.now < s.cus.closeAt) && !State.cusDeaf s

/-- And no command of it runs, nor stands a rung pending (R122). -/
def State.custodyFree (s : State) (r : VerbCall) : Bool :=
  s.custody r && s.cus.running.isNone && !s.cus.otpStopped

/-- No frame of the queue still waits for the spill path. -/
def State.settled (s : State) (q : Nat) : Bool := (s.queue q).frames.all (fun f => !f.unaccepted)

/-- R236 admits a frame of a length to a queue of a tenant. -/
def State.admits (s : State) (t q len : Nat) : Bool :=
  (if s.qEgress q < 16 then
    decide (s.laneLen (s.qEgress q) len ≤ s.laneMaxFrame (s.qEgress q)) && !s.laneRefuses (s.qEgress q) &&
      (s.qFlow q || s.policeOk t (s.qEgress q))
  else !s.fieldAbsent) && (s.placeFor q (cellsOf len)).isSome

/-- The queue took one more frame: of this length, for this tenant, where R236 places it. -/
def State.queuedOne (s t : State) (q tenant len : Nat) : Prop :=
  (t.queue q).frames.dropLast = (s.queue q).frames ∧
    (t.queue q).frames.getLast?.map (fun f => (f.len, f.tenant, some f.place)) =
      some (len, tenant, s.placeFor q (cellsOf len))

/-- The parts of the state, besides the observers, that a command may change. -/
def writes : Instr → List Part
  | .hostRstNRelease .. => [.pins, .start, .nor]
  | .hostRstNAssertion .. => [.free, .once, .pins, .start, .nor, .image, .cus, .keys, .trng, .jun, .lanes, .tenants, .tp, .link, .zheac, .mem, .cway, .stn, .sp, .way, .promoted]
  | .supplyWarning ..
  | .xoInRuns => [.pins]
  | .supplyMonitorReset ..
  | .bootRecordWritten .. => [.once, .pins, .start, .nor, .image, .cus, .keys, .trng, .jun, .lanes, .tenants, .tp, .link, .zheac, .mem, .cway, .stn, .sp, .way, .promoted]
  | .rootApllLocked .. => [.start, .keys, .jun]
  | .otpRead => [.start, .cus]
  | .forwardCompletion ..
  | .intentPairWritten .. => [.start, .cus, .otp]
  | .pufRereadout ..
  | .sdramTrainingEnd ..
  | .mportLinkUp
  | .mportLinkDown => [.start]
  | .rootDerived => [.start, .cus, .keys, .trng]
  | .sfdpDiscovery ..
  | .bootRecordCleared .. => [.start, .nor]
  | .slotVerified .. => [.start, .image, .cus]
  | .imageApplied => [.free, .once, .start, .image, .cus, .keys, .trng, .jun, .lanes, .tenants, .tp, .link, .zheac, .cway, .stn, .way]
  | .outcomeRunning .. => [.free, .once, .start, .image, .cus, .keys, .trng, .lanes, .tenants, .tp, .link, .zheac, .mem, .sp, .way]
  | .memoryKeysDrawn => [.start, .keys, .trng, .mem]
  | .vf33Loss
  | .vergeClockLoss
  | .portConfigRx ..
  | .portCmdRetry ..
  | .portCmdClear ..
  | .stateQueryRx ..
  | .stationDownRx ..
  | .linkMessageRelay ..
  | .thLinkHeartbeatTimeout
  | .stationFrameRx ..
  | .gapAbort ..
  | .syncClockStop ..
  | .ctsAsserted ..
  | .ctsTimeout ..
  | .leadExpiry ..
  | .downstreamTxEnd ..
  | .tailExpiry ..
  | .dcdChange ..
  | .portDownProbe ..
  | .fieldInputChange ..
  | .sofReceived .. => [.cway, .verge]
  | .vf33Release
  | .vergeCdrLock
  | .fieldRstNRelease => [.verge]
  | .fieldRstN .. => [.free, .cway, .verge]
  | .applyStaged ..
  | .stageOpen ..
  | .stageClose ..
  | .ackSeqWrite ..
  | .tableRead ..
  | .read ..
  | .thResult ..
  | .exportReports ..
  | .exportJournal ..
  | .close ..
  | .alarmAckEntry ..
  | .alarmAckClass ..
  | .alarmAckAll ..
  | .milepostSelWrite ..
  | .threshWrite ..
  | .snapNow ..
  | .runWrite ..
  | .win100usWrite ..
  | .freezeNow .. => [.once, .image, .keys, .tenants, .tp, .sp]
  | .applyVerificationDone ..
  | .dSectionBoundary .. => [.free, .once, .image, .cus, .keys, .trng, .lanes, .tenants, .tp, .link, .zheac, .cway, .stn, .sp, .way]
  | .commitCopyDone .. => [.nor, .cus]
  | .leaseJournalAppend .. => [.nor, .image, .keys, .tenants, .tp, .link, .zheac, .sp]
  | .stageData .. => [.once, .nor, .image, .keys, .tenants, .tp, .sp]
  | .stageDataProgrammed .. => [.nor, .image, .keys, .tenants, .tp, .sp]
  | .stagedSlotVerified .. => [.image, .keys, .tenants, .tp, .sp]
  | .custBtnPress ..
  | .custBtnRelease
  | .custJmpInstalled
  | .custJmpRemoved => [.cus]
  | .windowOpen
  | .nojmpPress
  | .windowTimeout => [.now, .free, .cus, .tp]
  | .closeWindow ..
  | .enrol ..
  | .toProvision ..
  | .fuseAuthority ..
  | .toField ..
  | .restartWithStaged ..
  | .raiseImageRung .. => [.once, .image, .cus, .keys, .tenants, .tp, .sp]
  | .toAnalysis ..
  | .retire .. => [.free, .once, .image, .cus, .keys, .lanes, .tenants, .tp, .zheac, .stn, .sp, .way]
  | .commitStagedToA ..
  | .commitStagedToB .. => [.once, .nor, .image, .cus, .keys, .tenants, .tp, .sp]
  | .registerDestroyDone .. => [.cus, .keys]
  | .enrolCapture .. => [.free, .cus]
  | .helperBankWritten ..
  | .authorityBankWritten ..
  | .helperBankVoided .. => [.cus, .otp]
  | .donePairWritten .. => [.free, .once, .start, .image, .cus, .otp, .keys, .lanes, .tenants, .tp, .zheac, .stn, .sp, .way]
  | .leaseLadderAdvance .. => [.cus, .otp, .tenants, .link, .stn]
  | .stationKeyDerived .. => [.free, .once, .image, .keys, .lanes, .tenants, .tp, .cway, .stn, .way]
  | .entropyWindowEnd .. => [.free, .once, .start, .image, .keys, .trng, .lanes, .tenants, .tp, .link, .zheac, .mem, .cway, .sp, .way]
  | .healthTestFailure ..
  | .retestEnd ..
  | .laneFault ..
  | .laneErrorThreshold ..
  | .laneUp ..
  | .replyRx ..
  | .refuseRx ..
  | .pkOperationDone => [.free, .once, .start, .image, .keys, .trng, .lanes, .tenants, .tp, .zheac, .sp, .way]
  | .reseedDue => [.now, .free, .once, .start, .image, .keys, .trng, .lanes, .tenants, .tp, .link, .zheac, .mem, .cway, .sp, .way]
  | .entropyRequestTimeout
  | .handshakeRetransmit ..
  | .finishWaitTimeout .. => [.now, .free, .once, .start, .image, .keys, .trng, .lanes, .tenants, .tp, .zheac, .sp, .way]
  | .memoryKeyRetry ..
  | .resetQueuesEmptied .. => [.free, .once, .image, .keys, .trng, .lanes, .tenants, .tp, .mem, .cway, .sp, .way]
  | .refActivityLost ..
  | .frequencyResult ..
  | .wtrExpiry ..
  | .bwStageSettled ..
  | .lockedReached ..
  | .holdFreqUpdate ..
  | .holdLimitReached => [.now, .free, .jun, .tp]
  | .refActivityGood .. => [.free, .jun]
  | .xoFailure => [.free, .pins, .jun]
  | .linkHoldExpiry ..
  | .resetDrainEnd ..
  | .spillAcceptTimeout ..
  | .progressBoundExceeded .. => [.now, .free, .once, .lanes, .tenants, .tp, .way]
  | .dampExpiry ..
  | .pauseTimerExpiry ..
  | .pauseRefresh ..
  | .pauseMaxExceeded ..
  | .flapWindowExpiry .. => [.now, .free, .lanes, .tp]
  | .clientFrameRx ..
  | .signpostOpen ..
  | .request ..
  | .plainRequest .. => [.free, .once, .image, .keys, .trng, .lanes, .tenants, .tp, .cway, .sp, .way]
  | .trunkFrameRx .. => [.free, .once, .start, .image, .cus, .keys, .trng, .lanes, .tenants, .tp, .link, .zheac, .cway, .sp, .way]
  | .pauseFrameRx ..
  | .pfcFrameRx ..
  | .signalRegained .. => [.lanes]
  | .txFrameComplete .. => [.free, .image, .keys, .lanes, .tenants, .tp, .sp, .way]
  | .schedulerPick ..
  | .installedRx ..
  | .linkKeysDerived .. => [.free, .once, .start, .image, .cus, .keys, .trng, .lanes, .tenants, .tp, .link, .zheac, .sp, .way]
  | .degradedExpiry ..
  | .resetWindowExpiry ..
  | .delayQuietExpiry .. => [.now, .free, .tenants, .tp]
  | .tenantReset ..
  | .unfence .. => [.free, .once, .image, .keys, .lanes, .tenants, .tp, .sp, .way]
  | .regionResetComplete .. => [.free, .once, .image, .keys, .lanes, .tenants, .tp, .mem, .cway, .stn, .way, .promoted]
  | .notifyFrameSend ..
  | .thCommandWaitTimeout ..
  | .openingTimeout ..
  | .sessionIdleTimeout .. => [.now, .free, .image, .keys, .tenants, .tp, .sp]
  | .spillReadBack .. => [.free, .once, .lanes, .tenants, .tp, .way]
  | .drainTimeout .. => [.now, .free, .once, .image, .lanes, .tenants, .tp, .cway, .way]
  | .oldTxSlotDestroy .. => [.free, .once, .start, .keys, .lanes, .tenants, .tp, .link, .way]
  | .noticeAckTimeout .. => [.now, .free, .tenants, .tp, .link]
  | .noticeWaitTimeout .. => [.now, .free, .image, .keys, .trng, .tenants, .tp, .link, .zheac, .sp]
  | .leaseQueryRx ..
  | .leaseNoticeRx .. => [.once, .image, .keys, .tenants, .tp, .link, .zheac, .sp]
  | .noticeAckRx .. => [.once, .tenants, .link, .zheac]
  | .helloRx .. => [.free, .once, .start, .image, .keys, .trng, .lanes, .tenants, .tp, .link, .zheac, .sp, .way]
  | .finishRx .. => [.image, .keys, .tenants, .tp, .zheac, .sp]
  | .backoffExpiry ..
  | .rekeyDue ..
  | .settleExpiry .. => [.now, .free, .once, .start, .image, .keys, .trng, .lanes, .tenants, .tp, .link, .zheac, .sp, .way]
  | .memoryReadComplete ..
  | .reencryptionComplete ..
  | .dapAccess .. => [.free, .once, .start, .image, .lanes, .tenants, .tp, .mem, .cway, .stn, .way, .promoted]
  | .directoryRequest ..
  | .snoop ..
  | .snoopAnswer ..
  | .l0Release .. => [.free, .once, .image, .lanes, .tenants, .tp, .mem, .cway, .stn, .way, .promoted]
  | .trainAligned
  | .trainingTimeout
  | .heartbeatDue ..
  | .creditRx ..
  | .ackRx ..
  | .windowWriteRx ..
  | .logEntryRx ..
  | .thHelloRx .. => [.cway]
  | .channelFail ..
  | .nakRx ..
  | .gobackTimeout .. => [.free, .once, .image, .keys, .lanes, .tenants, .tp, .cway, .stn, .sp, .way]
  | .heartbeatRx ..
  | .retrainTimer .. => [.image, .cway, .verge]
  | .stateUpdateRx .. => [.once, .tenants, .tp, .cway, .stn]
  | .cmdReplyRx ..
  | .thReplyRx .. => [.image, .keys, .tenants, .tp, .cway, .sp]
  | .stationUpRx ..
  | .vpFrameDequeue => [.free, .once, .keys, .lanes, .tenants, .tp, .cway, .stn, .way]
  | .legalParamsRx
  | .thAckRx
  | .meterSectionRx
  | .thReturnToVt33 ..
  | .thReadIdent
  | .thReadPoint
  | .thAdjustTime
  | .thDemandReset
  | .thSetTime
  | .thSetCal
  | .thSetInterval
  | .thInstallAuthority
  | .thInstallMeterKey
  | .thVerify
  | .thCloseCustody => [.cway, .toll]
  | .tollhouseLinkUp => [.cway, .verge, .toll]
  | .thPowerOnReset ..
  | .thSelfCheckDone ..
  | .thSwitchToVbat ..
  | .crystalStopped
  | .crystalResumed
  | .sealLoopOpen
  | .sealLoopClosed
  | .thKeyPress
  | .intervalChangeApply
  | .pulseCount ..
  | .analogueSample ..
  | .thSupplyLoss
  | .thKeyRelease => [.toll]
  | .vbatMeasurement ..
  | .timeSave ..
  | .timeRangeEnd
  | .custodyOpen
  | .custodyTimeout
  | .meteringTick
  | .intervalBoundary => [.now, .free, .tp, .toll]
  | .thReadRecord ..
  | .reportSigned => [.free, .cway, .toll]
  | .statusWindowRefresh => [.now, .free, .tp, .cway, .toll]
  | .displayCycle
  | .snapshotCopyDone
  | .postBlocksWritten
  | .fabricBoundExceeded .. => []
  | .authLockExpiry .. => [.now, .free, .tp, .sp]
  | .write .. => [.free, .once, .pins, .start, .image, .keys, .trng, .jun, .lanes, .tenants, .tp, .link, .zheac, .mem, .cway, .stn, .sp, .way]
  | .alertHoldExpiry
  | .windowBoundary
  | .baseCapture
  | .checkpointCapture
  | .gapRecord => [.now, .free, .tp]
  | .waymarkControlWrite ..
  | .waymarkRateWrite ..
  | .waymarkFilterWrite ..
  | .waymarkClear .. => [.once, .image, .keys, .tenants, .tp, .sp, .way]
  | .arm .. => [.free, .once, .image, .keys, .tenants, .tp, .sp]
  | .go .. => [.free, .once, .start, .image, .keys, .trng, .jun, .lanes, .tenants, .tp, .link, .zheac, .mem, .cway, .stn, .sp]
  | .replayCycle => [.now, .free, .once, .pins, .start, .image, .cus, .keys, .trng, .jun, .lanes, .tenants, .tp, .link, .zheac, .mem, .cway, .stn, .sp, .way]
  | .requestPromotion .. => [.promoted]
  | .thCommand ..
  | .portCommand .. => [.once, .image, .keys, .tenants, .tp, .cway, .sp]
  | .sec60sExpiry => [.now, .free, .tp, .mem]

/-! ## What every step keeps -/

/-- The fuses of an OTP word that a region of Table 5.5 uses: those of its rungs (R124), or all 18 of a bank's word (DESIGN
CHOICE, notes/assumptions/29). -/
def fuseMask (w : Nat) : Nat :=
  if w = 1 then 0o17
  else if w = 17 ∨ w = 2065 then 0o7777
  else if w < 2066 then 0o177777
  else if w < 2586 then (if (w - 2066) % 260 ≤ 257 then 0o777777 else 0)
  else if w < 2634 then (if (w - 2586) % 24 ≤ 22 then 0o777777 else 0)
  else 0

/-- What a running custodian command waits for names a bank or a rung that the OTP has. -/
def CusPhase.fits : CusPhase → Bool
  | .voiding l => l.all (fun b => decide (b < 2))
  | .writingHelper b _ | .checking b | .voidingNew b | .writingAuthority b _ => decide (b < 2)
  | .intent l k | .done l k => decide (1 ≤ k ∧ k ≤ l.top)
  | .capturing _ | .destroying | .bootRecord | .copying _ => true

/-- The OTP is a table in canonical form whose blown fuses all lie where Table 5.5 has them, and a command that runs will
blow no other (R123) (DESIGN CHOICE, notes/assumptions/29). -/
def State.otpSound (s : State) : Bool :=
  tabWf 0 s.otp && s.otp.all (fun e => decide (e.2 &&& fuseMask e.1 = e.2)) &&
    (match s.cus.running with
    | some (_, p) => p.fits
    | none => true)

/-- The state with every secret that the block derives from forgotten: the keys of the register, the root, the DRBG's working
state and its personalisation value. Where a slot stands, its KIND and its GEN stay. -/
def State.withoutKeys (s : State) : State :=
  { s with
    keys := { s.keys with
      slots := s.keys.slots.map (fun e => (e.1, { e.2 with value := 0 })), base := { s.keys.base with value := 0 }, rootValue := 0 }
    trng := { s.trng with drbg := {}, pers := none } }

end Sys2Proof.Machine
end

