-- ==== Sys2Proof/Certificates/Slice0/Obligations.lean ====
section
/-!
DEFINITION. The statements about the KR-1856, from the rules of spec/. A statement of completion says that a command of the kind
named answers a next state, and what that state holds, in every state that meets its hypotheses.
-/

open Sys2Proof Sys2Proof.Machine

/-- R58, R546, R45, R47, R63, R548: the pins, supplies and the M-port link. -/
def Obligations.PinsAndSuppliesComplete : Prop :=
  (∀ (v : Bool) (capture : PufState) (programmed : List (Fin 3 × List Byte)) (s : State), s.pins.hostRstLow = true →
    ∃ t, exec (.hostRstNRelease v 0 capture programmed) s = .next t ∧
      t.start =
        { begun := true, phase := 1, captures := 1, capture := some capture.toNat, cause := s.pins.resetCause, t0 := s.now } ∧
        t.pins = { s.pins with hostRstLow := false, nvmVsel := v, railLow := 0, railWarn := 0 }) ∧
  (∀ (v : Bool) (low : BitVec 7) (capture : PufState) (programmed : List (Fin 3 × List Byte)) (s : State), s.pins.hostRstLow =
    true → low ≠ 0 →
    ∃ t, exec (.hostRstNRelease v low capture programmed) s = .next t ∧
      t.start = s.start ∧ t.pins = { s.pins with hostRstLow := false, nvmVsel := v, railLow := low.toNat }) ∧
  (∀ (lowNs : Nat) (s : State), s.pins.hostRstLow = false → 300 ≤ lowNs →
    ∃ t, exec (.hostRstNAssertion lowNs) s = .next t ∧
      t.pins = { s.pins with hostRstLow := true, resetCause := 1 } ∧ t.start = {} ∧ t.lanes = [] ∧ t.tenants = [] ∧ t.keys =
        { defective := s.keys.defective } ∧ t.sp = {} ∧ t.otp = s.otp ∧ t.verge = s.verge ∧ t.toll = s.toll) ∧
  (∀ (lowNs : Nat) (s : State), s.pins.hostRstLow = false → lowNs < 100 →
    ∃ t, exec (.hostRstNAssertion lowNs) s = .next t ∧
      s.onlyChanges t observers) ∧
  (∀ (rail : Fin 7) (s : State), ∃ t, exec (.supplyWarning rail) s = .next t ∧
      t.pins = { s.pins with railWarn := s.pins.railWarn ||| 2 ^ rail.val }) ∧
  (∀ (rail : Fin 7) (capture : PufState) (s : State), s.pins.hostRstLow = false → railsAfter s.pins.railLow rail.val .recovers =
    0 →
    ∃ t, exec (.supplyMonitorReset rail .recovers capture) s = .next t ∧
      t.start = { begun := true, phase := 1, captures := 1, capture := some capture.toNat, cause := 2, t0 := s.now } ∧ t.lanes =
        [] ∧ t.tenants = [] ∧ t.otp = s.otp ∧ t.verge = s.verge ∧ t.toll = s.toll) ∧
  (∀ (rail : Fin 7) (capture : PufState) (s : State), ∃ t, exec (.supplyMonitorReset rail .stays capture) s = .next t ∧
      t.start = {} ∧ t.lanes = [] ∧ t.tenants = [] ∧ t.pins.railLow.testBit rail.val = true ∧ t.otp = s.otp ∧ t.toll = s.toll) ∧
  (∀ (rail : Fin 7) (capture : PufState) (s : State), ∃ t, exec (.supplyMonitorReset rail .powerLost capture) s = .next t ∧
      t.start = {} ∧ t.pins.hostRstLow = true ∧ t.pins.resetCause = 0 ∧ t.verge = s.verge ∧ t.toll = s.toll) ∧
  (∀ s : State, ∃ t, exec .xoInRuns s = .next t ∧
      t.pins = { s.pins with xoRuns := true }) ∧
  (∀ s : State, s.start.begun = true → 2 ≤ s.start.phase →
    ∃ t, exec .mportLinkUp s = .next t ∧
      t.start = { s.start with mportUp := true }) ∧
  (∀ s : State, ∃ t, exec .mportLinkDown s = .next t ∧
      t.start = { s.start with mportUp := false })

/-- Table 3.1, steps 2 to 5 (R61, R64, R65, R134, R146): the steps before the image is read. -/
def Obligations.StartStepsToRootComplete : Prop :=
  (∀ (failing : List Nat) (s : State), s.startAt 1 = true → s.pins.xoRuns = true →
    ∃ t, exec (.rootApllLocked failing) s = .next t ∧
      t.start = { s.start with phase := 2, linkStarted := true } ∧ t.jun = { s.jun with since := s.now } ∧ (∀ n, t.slot n = if n
        ∈ failing ∧ n < 69632 then { state := .fault } else {})) ∧
  (∀ s : State, s.startAt 2 = true → s.pendingRungs = [] → s.lcState ≠ .retired →
    ∃ t, exec .otpRead s = .next t ∧
      t.cus.startState = s.lcState ∧ t.start.phase = 4) ∧
  (∀ s : State, s.startAt 2 = true → s.pendingRungs ≠ [] →
    ∃ t, exec .otpRead s = .next t ∧
      t.cus.startState = s.lcState ∧ t.cus.pend = s.pendingRungs.head? ∧ t.start = { s.start with phase := 3 }) ∧
  (∀ (fuses : List (Bool × Bool)) (s : State), s.startAt 3 = true → s.pendingRungs ≠ [] → fuses.all (fun f => f.1 && f.2) = true
    →
    ∃ t, exec (.forwardCompletion fuses) s = .next t ∧
      t.cus.startState = t.lcState ∧ t.start.fwdDone = true ∧ (∀ p ∈ s.pendingRungs, t.rungDone p.1 p.2 = true)) ∧
  (∀ (capture : PufState) (s : State), s.startAt 4 = true → s.start.reReadout = true →
    ∃ t, exec (.pufRereadout capture) s = .next t ∧
      t.start = { s.start with captures := s.start.captures + 1, reReadout := false, capture := some capture.toNat }) ∧
  (∀ (k : Nat) (s : State), s.startAt 4 = true → s.start.reReadout = false → s.secret = some k →
    ∃ t, exec .rootDerived s = .next t ∧
      t.keys.root = some s.cus.startState ∧ t.keys.rootValue = kdf384 (beBytes 48 k) "KR1856-ROOT" (rootContext
        s.cus.startState) 384 ∧ t.start.phase = 5 ∧ t.start.capture = none ∧ t.start.root = if s.start.captures ≤ 1 then 1 else
        2) ∧
  (∀ s : State, s.startAt 4 = true → s.start.reReadout = false → s.secret = none → s.start.captures < 4 →
    ∃ t, exec .rootDerived s = .next t ∧
      t.start = { s.start with reReadout := true } ∧ t.keys = s.keys) ∧
  (∀ s : State, s.startAt 4 = true → s.start.reReadout = false → s.secret = none → 4 ≤ s.start.captures →
    ∃ t, exec .rootDerived s = .next t ∧
      t.start.outcome = .stranded ∧ t.start.root = 3 ∧ t.start.capture = none ∧ t.keys = s.keys)

/-- Table 3.1, steps 6 to 8 (R61, R67, R69, R70). -/
def Obligations.StartStepsOfTheImageComplete : Prop :=
  (∀ (nor : NorRead) (s : State), s.startAt 5 = true → nor.boot = none →
    ∃ t, exec (.sfdpDiscovery nor) s = .next t ∧
      t.start = { s.start with phase := 6, cands := [1, 2] } ∧ t.nor.usable = nor.usable ∧ t.nor.writable = (nor.usable &&
        nor.erase4k && decide (32 ≤ nor.sizeMib)) ∧ t.nor.sizeMib = nor.sizeMib ∧ t.nor.boot = none ∧ t.nor.slots = s.nor.slots) ∧
  (∀ (nor : NorRead) (b : List Word) (s : State), s.startAt 5 = true → nor.usable = true → nor.erase4k = true → 32 ≤ nor.sizeMib
    → nor.boot = some b → bootValid b = true → (wordAt b 2).toNat.testBit 17 = true →
    ∃ t, exec (.sfdpDiscovery nor) s = .next t ∧
      t.start = { s.start with phase := 6, clearing := true } ∧ t.nor.boot = some b) ∧
  (∀ (b : List Word) (s : State), s.startAt 6 = true → s.start.clearing = true → s.nor.boot = some b →
    ∃ t, exec (.bootRecordCleared false true) s = .next t ∧
      t.start = { s.start with clearing := false, bootReq := true, cands := [3, 1, 2] } ∧ t.nor =
        { s.nor with boot := some (bootRecord ((wordAt b 1).toNat + 1) false) }) ∧
  (∀ (refused readsBack : Bool) (s : State), s.startAt 6 = true → s.start.clearing = true → (refused || !readsBack) = true →
    ∃ t, exec (.bootRecordCleared refused readsBack) s = .next t ∧
      t.start = { s.start with clearing := false, bootStuck := true, cands := [1, 2] } ∧ t.nor = s.nor) ∧
  (∀ (readError : Option Nat) (c : Nat) (rest : List Nat) (s : State), s.startAt 6 = true → s.start.clearing = false →
    s.image.accepted = none → s.start.cands = c :: rest → s.cus.startState ≠ .provision →
    ∃ t, exec (.slotVerified readError) s = .next t ∧
      t.start.cands = rest ∧ (if c = 3 then t.start.resStaged else if c = 1 then t.start.resA else t.start.resB) = (s.verifySlot
        c readError).1 ∧ (if (s.verifySlot c readError).1 = 1 then t.start.phase = 7 ∧ t.start.slot = c ∧ t.image.accepted =
        (s.verifySlot c readError).2 else t.image = s.image ∧ t.start.outcome = (if rest = [] then .stranded else .starting))) ∧
  (∀ (i : Image) (s : State), s.startAt 7 = true → s.image.accepted = some i →
    ∃ t, exec .imageApplied s = .next t ∧
      t.start.phase = 8 ∧ t.image.running = some i ∧ t.image.runSource = s.start.slot ∧ t.image.accepted = none ∧
        t.start.memState = (if t.channelsConfigured = [] then .noneConfigured else .training))

/-- Table 3.1, steps 9 and 10 (R73, R77). -/
def Obligations.StartEndsRunning : Prop :=
  (∀ (failed : BitVec 4) (s : State), s.startAt 8 = true → s.start.memState = .training →
    ∃ t, exec (.sdramTrainingEnd failed) s = .next t ∧
      t.start.phase = 9 ∧ t.start.channels = s.channelsConfigured.map (fun c => (c, if failed.toNat.testBit c then 2 else 1)) ∧
        t.start.memState = (if s.channelsConfigured.any (fun c => failed.toNat.testBit c) then .unavailable else .training)) ∧
  (∀ (upsets : List (Nat × BitVec 512)) (s : State), s.startAt 9 = true → s.trng.state ≠ .startup →
    ∃ t, exec (.outcomeRunning upsets) s = .next t ∧
      t.start.outcome = .running ∧ t.start.phase = 10 ∧ t.start.tEnd = some s.now) ∧
  (∀ (upsets : List (Nat × BitVec 512)) (s : State), s.startAt 8 = true → s.start.memState = .noneConfigured → s.trng.state ≠
    .startup →
    ∃ t, exec (.outcomeRunning upsets) s = .next t ∧
      t.start.outcome = .running ∧ t.start.phase = 10 ∧ t.start.tEnd = some s.now) ∧
  (∀ s : State, s.start.memState = .waiting → s.drbgServes = true → s.trng.generates + 17 < 65536 → (∀ n ∈ State.memorySlots,
    s.canInstall n = true) →
    ∃ t, exec .memoryKeysDrawn s = .next t ∧
      t.start = { s.start with memState := .ready } ∧ (∀ n ∈ State.memorySlots, t.keyValid n = true))

/-- R161, R163 to R166: the reference monitors. The times at which a monitor gives its result are those of R164 and R163. -/
def Obligations.JunctionReferencesComplete : Prop :=
  (∀ (ref : Fin 4) (s : State), s.junLoaded = true → (s.junRef ref).act = true → (∀ k, k < 4 → s.junFed k = true) → (∀ k, k < 4
    → (s.junRef k).wtrUntil = none) →
    ∃ t, exec (.refActivityLost ref) s = .next t ∧
      t.junRef ref =
        { s.junRef ref with act := false, freqOk := false, wtrUntil := none, disquals := if (s.junRef ref).qual then satInc 18 (s.junRef ref).disquals else (s.junRef ref).disquals }
        ∧ (∀ k, k < 4 → k ≠ ref.val → t.junRef k = s.junRef k)) ∧
  (∀ (ref : Fin 4) (s : State), s.junLoaded = true → (s.junRef ref).act = true → s.junFed ref = false →
    ∃ t, exec (.refActivityLost ref) s = .next t ∧
      (t.junRef ref).act = false ∧ (t.junRef ref).freqOk = false ∧ t.now = max s.now (s.junEdgesEnd ref)) ∧
  (∀ (ref : Fin 4) (s : State), s.junLoaded = true → (s.junRef ref).act = false → s.junFed ref = true →
    ∃ t, exec (.refActivityGood ref) s = .next t ∧
      (t.junRef ref).act = true ∧ (t.junRef ref).freqOk = (s.junRef ref).freqOk ∧ (t.junRef ref).resultAt = s.now + secs 1) ∧
  (∀ (ref : Fin 4) (ppb : Int) (s : State), s.junLoaded = true → s.jun.xoFail = false → (s.junRef ref).act = true → s.junFed ref
    = true → (s.junRef ref).freqOk = false → (s.junRef ref).ever = false → ppb.natAbs ≤ s.junAccept * 100 →
    ∃ t, exec (.frequencyResult ref ppb) s = .next t ∧
      (t.junRef ref).qual = true ∧ (t.junRef ref).ever = true ∧ (t.junRef ref).wtrUntil = none ∧ (t.junRef ref).offset = some
        (max (-131071) (min 131071 ppb)) ∧ t.now = max s.now (s.junRef ref).resultAt) ∧
  (∀ (ref : Fin 4) (ppb : Int) (s : State), s.junLoaded = true → s.jun.xoFail = false → (s.junRef ref).act = true → s.junFed ref
    = true → (s.junRef ref).freqOk = true → s.junAccept ≤ s.junReject → s.junReject * 100 < ppb.natAbs →
    ∃ t, exec (.frequencyResult ref ppb) s = .next t ∧
      (t.junRef ref).act = true ∧ (t.junRef ref).freqOk = false ∧ (t.junRef ref).wtrUntil = none ∧ (t.junRef ref).disquals =
        satInc 18 (s.junRef ref).disquals) ∧
  (∀ (ref : Fin 4) (u : Nat) (s : State), s.junLoaded = true → (s.junRef ref).wtrUntil = some u →
    ∃ t, exec (.wtrExpiry ref) s = .next t ∧
      (t.junRef ref).wtrUntil = none ∧ t.now = max s.now u)

/-- R170, R172, R173, R175: the states of Junction. That the loop is told in samples of 0.1 s is the model's choice
(notes/assumptions/31). -/
def Obligations.JunctionStatesComplete : Prop :=
  (∀ (loop : List LoopSample) (s : State), s.junStands = true → s.jun.state = .acquiring → s.jun.bwStage < 4 → 20 ≤ loop.length
    → (∀ m ∈ loop, m.phaseErr.natAbs < 1000) →
    ∃ t, exec (.bwStageSettled loop) s = .next t ∧
      t.jun.state = .acquiring ∧ t.jun.selected = s.jun.selected ∧ t.jun.bwStage = (if s.jun.bwStage = 2 ∧ s.junTrackBw = 3 then
        4 else s.jun.bwStage + 1) ∧ t.jun.quiet = 0) ∧
  (∀ (loop : List LoopSample) (s : State), s.junStands = true → s.jun.state = .acquiring → s.jun.bwStage = 4 → 100 ≤ loop.length
    → (∀ m ∈ loop, m.phaseErr.natAbs < 500) →
    ∃ t, exec (.lockedReached loop) s = .next t ∧
      t.jun.state = .locked ∧ t.jun.selected = s.jun.selected ∧ t.jun.gen = (s.jun.gen + 1) % 32) ∧
  (∀ (loop : List LoopSample) (y : Int) (s : State), s.junStands = true → s.jun.state = .locked → y.natAbs ≤ 60000000 → 600 ≤
    loop.length → (∀ m ∈ loop, m.y = y) →
    ∃ t, exec (.holdFreqUpdate loop) s = .next t ∧
      t.jun.state = .locked ∧ t.jun.holdFreq = y ∧ t.jun.hist = true ∧ t.jun.outFreq = y) ∧
  (∀ (loop : List LoopSample) (s : State), s.junStands = true → s.jun.state = .locked → s.jun.ys.length + loop.length < 600 →
    ∃ t, exec (.holdFreqUpdate loop) s = .next t ∧
      t.jun.state = .locked ∧ t.jun.holdFreq = s.jun.holdFreq ∧ t.jun.hist = s.jun.hist) ∧
  (∀ s : State, s.jun.state = .holdover → (∀ k, k < 4 → s.junAvailable k = false ∧ (s.junRef k).wtrUntil = none) →
    ∃ t, exec .holdLimitReached s = .next t ∧
      t.jun.state = .lost ∧ t.jun.selected = 0 ∧ t.jun.outFreq = s.jun.outFreq ∧ t.jun.gen = (s.jun.gen + 1) % 32 ∧ t.now = max
        s.now (s.jun.since + secs (60 * s.junHoldLimit))) ∧
  (∀ s : State, s.jun.xoFail = false → s.start.begun = true → 2 ≤ s.start.phase →
    ∃ t, exec .xoFailure s = .next t ∧
      t.jun.xoFail = true ∧ t.pins.xoRuns = false ∧ (∀ k, k < 4 → (t.junRef k).freqOk = false))

/-- R108 to R112: the button, the jumper and the window. -/
def Obligations.CustodyWindowComplete : Prop :=
  (∀ (releasedMs : Nat) (s : State), s.cus.btn = false → 100 ≤ releasedMs → s.cus.jmp = true → s.cus.win = .closed →
    s.start.outcome ≠ .starting →
    ∃ t, exec (.custBtnPress releasedMs) s = .next t ∧
      t.cus = { s.cus with btn := true, timing := true, armed := true, jmpThroughout := true, pressAt := s.now, win := .arming }) ∧
  (∀ s : State, ∃ t, exec .custBtnRelease s = .next t ∧
      t.cus = { s.cus with btn := false, timing := false, win := if s.cus.win = .arming then .closed else s.cus.win }) ∧
  (∀ s : State, ∃ t, exec .custJmpInstalled s = .next t ∧
      t.cus = { s.cus with jmp := true }) ∧
  (∀ s : State, s.cus.win = .opened →
    ∃ t, exec .custJmpRemoved s = .next t ∧
      t.cus = { s.cus with jmp := false, jmpThroughout := false, win := .closed, lastClose := 2 }) ∧
  (∀ s : State, s.cus.btn = true → s.cus.timing = true → s.cus.jmp = true → s.cus.jmpThroughout = true → s.start.outcome ≠
    .starting →
    ∃ t, exec .windowOpen s = .next t ∧
      t.cus.win = .opened ∧ t.cus.timing = false ∧ t.cus.armed = false ∧ t.now = max s.now (s.cus.pressAt + secs 2) ∧
        t.cus.closeAt = t.now + secs (60 * s.winMinutes) ∧ t.cus.winCount = if s.cus.win = .opened ∧ t.now < s.cus.closeAt then
        s.cus.winCount else satInc 13 s.cus.winCount) ∧
  (∀ s : State, s.cus.btn = true → s.cus.timing = true → (s.cus.jmp && s.cus.jmpThroughout) = false → s.start.outcome ≠
    .starting →
    ∃ t, exec .nojmpPress s = .next t ∧
      t.cus.timing = false ∧ t.cus.nojmp = satInc 18 s.cus.nojmp ∧ t.now = max s.now (s.cus.pressAt + secs 2)) ∧
  (∀ s : State, s.cus.win = .opened →
    ∃ t, exec .windowTimeout s = .next t ∧
      t.cus = { s.cus with win := .closed, lastClose := 1 } ∧ t.now = max s.now s.cus.closeAt)

/-- R113, R116, R117, R119, R120 and Tables 5.3 and 5.4: the custodian commands that change the life cycle. That a command
after a rung is left pending is not run is the model's choice (notes/assumptions/26); these states have none. -/
def Obligations.CustodyCommandsOfLifeComplete : Prop :=
  (∀ (r : VerbCall) (s : State), s.custody r = true → s.cus.startState ≠ .retired →
    ∃ t, exec (.closeWindow r) s = .next t ∧
      t.answers r.caller 0o11 0 [] = true ∧ t.cus.win = .closed ∧ t.cus.lastClose = 3 ∧ t.cus.running = s.cus.running ∧
        t.cus.cmdLast = 1 ∧ t.cus.cmdResult = 1) ∧
  (∀ (r : VerbCall) (s : State), s.custodyFree r = true → s.cus.startState = .blank → s.helperUsed 0 = false → s.helperUsed 1 =
    false →
    ∃ t, exec (.enrol r) s = .next t ∧
      t.answers r.caller 0o11 0o17 [] = true ∧ t.cus =
        { s.cus with cmdLast := 2, cmdResult := 7, running := some (2, .capturing s.firstCapture) }) ∧
  (∀ (r : VerbCall) (s : State), s.custodyFree r = true → s.cus.startState = .blank → s.helperUsed 0 = true → s.helperVoid 0 =
    false → s.helperUsed 1 = false →
    ∃ t, exec (.enrol r) s = .next t ∧
      t.answers r.caller 0o11 0o17 [] = true ∧ t.cus =
        { s.cus with cmdLast := 2, cmdResult := 7, running := some (2, .voiding [0]) }) ∧
  (∀ (r : VerbCall) (s : State), s.custodyFree r = true → s.cus.startState = .test →
    ∃ t, exec (.toProvision r) s = .next t ∧
      t.answers r.caller 0o11 0o17 [] = true ∧ t.cus =
        { s.cus with cmdLast := 3, cmdResult := 7, running := some (3, .intent .lc 2) }) ∧
  (∀ (r : VerbCall) (hash : List Word) (s : State), s.custodyFree r = true → s.cus.startState = .provision → s.authUsed 0 =
    false → s.authValid 1 = false →
    ∃ t, exec (.fuseAuthority r hash) s = .next t ∧
      t.answers r.caller 0o11 0o17 [] = true ∧ t.cus =
        { s.cus with cmdLast := 4, cmdResult := 7, running := some (4, .writingAuthority 0 hash) }) ∧
  (∀ (r : VerbCall) (s : State), s.custodyFree r = true → s.cus.startState = .provision → (State.lowestBank s.authValid).isSome
    = true →
    ∃ t, exec (.toField r) s = .next t ∧
      t.answers r.caller 0o11 0o17 [] = true ∧ t.cus =
        { s.cus with cmdLast := 5, cmdResult := 7, running := some (5, .intent .lc 3) }) ∧
  (∀ (r : VerbCall) (s : State), s.custodyFree r = true → s.cus.startState = .field → s.inRunning = true →
    ∃ t, exec (.toAnalysis r) s = .next t ∧
      t.answers r.caller 0o11 0o17 [] = true ∧ t.cus =
        { s.cus with cmdLast := 6, cmdResult := 7, running := some (6, .destroying) }) ∧
  (∀ (r : VerbCall) (s : State), s.custodyFree r = true → (s.cus.startState = .field ∨ s.cus.startState = .analysis) →
    s.inRunning = true →
    ∃ t, exec (.retire r) s = .next t ∧
      t.answers r.caller 0o11 0o17 [] = true ∧ t.cus =
        { s.cus with cmdLast := 7, cmdResult := 7, running := some (7, .destroying) }) ∧
  (∀ (r : VerbCall) (s : State), s.custodyFree r = true → (s.cus.startState = .blank ∨ s.cus.startState = .test ∨
    s.cus.startState = .provision) → s.inRunning = false →
    ∃ t, exec (.retire r) s = .next t ∧
      t.answers r.caller 0o11 0o17 [] = true ∧ t.cus =
        { s.cus with cmdLast := 7, cmdResult := 7, running := some (7, .intent .lc 5) })

/-- R101, R102, R116, R126: the custodian commands of images and the image ladder. -/
def Obligations.CustodyCommandsOfImagesComplete : Prop :=
  (∀ (r : VerbCall) (readError : Option Nat) (s : State), s.custodyFree r = true → s.inService = true → s.image.stagedState = 2
    → s.image.staging = none →
    ∃ t, exec (.restartWithStaged r readError) s = .next t ∧
      t.answers r.caller 0o11 0o17 [] = true ∧ t.cus.cmdLast = 0o10 ∧ t.cus.running = (if (s.verifySlot 3 readError).1 = 1 then
        some (0o10, .bootRecord) else none) ∧ t.cus.cmdResult = (if (s.verifySlot 3 readError).1 = 1 then 7 else 4)) ∧
  (∀ (r : VerbCall) (i : Image) (s : State), s.custodyFree r = true → s.inService = true → s.image.running = some i → slotDigest
    (s.slotRead 3 none) = i.digest →
    ∃ t, exec (.commitStagedToA r) s = .next t ∧
      t.answers r.caller 0o11 0o17 [] = true ∧ t.cus =
        { s.cus with cmdLast := 0o11, cmdResult := 7, running := some (0o11, .copying 1) } ∧ (s.norRefuses = false → tabGet []
        t.nor.slots 1 = [])) ∧
  (∀ (r : VerbCall) (i : Image) (s : State), s.custodyFree r = true → s.inService = true → s.image.running = some i → slotDigest
    (s.slotRead 3 none) = i.digest →
    ∃ t, exec (.commitStagedToB r) s = .next t ∧
      t.answers r.caller 0o11 0o17 [] = true ∧ t.cus =
        { s.cus with cmdLast := 0o12, cmdResult := 7, running := some (0o12, .copying 2) } ∧ (s.norRefuses = false → tabGet []
        t.nor.slots 2 = [])) ∧
  (∀ (r : VerbCall) (n : BitVec 6) (i : Image) (s : State), s.custodyFree r = true → s.inService = true → s.image.running = some
    i → s.ladderValue .image < n.toNat → n.toNat ≤ i.rung →
    ∃ t, exec (.raiseImageRung r n) s = .next t ∧
      t.answers r.caller 0o11 0o17 [] = true ∧ t.cus =
        { s.cus with cmdLast := 0o13, cmdResult := 7, running := some (0o13, .intent .image n.toNat) })

/-- R119 to R122 and R146: what a running custodian command waits for. The messages that an enrolment draws are free
(notes/assumptions/81). -/
def Obligations.CustodyStepsComplete : Prop :=
  (∀ (failing : List Nat) (cmd : Nat) (s : State), s.cus.running = some (cmd, .destroying) →
    ∃ t, exec (.registerDestroyDone failing) s = .next t ∧
      t.keys.root = none ∧ t.cus.running = some (cmd, .intent .lc (if cmd = 6 then 4 else 5)) ∧ (∀ n, slotUse n ≠ 0 → (t.slot
        n).state = .destroyed ∨ (t.slot n).state = .fault)) ∧
  (∀ (cmd b : Nat) (rest : List Nat) (s : State), s.cus.running = some (cmd, .voiding (b :: rest)) →
    ∃ t, exec (.helperBankVoided 0o777777) s = .next t ∧
      t.otpWord (State.helperBase b + 257) = s.otpWord (State.helperBase b + 257) ||| 0o777777 ∧ t.cus =
        { s.cus with running := some (cmd, if rest = [] then .capturing s.firstCapture else .voiding rest) }) ∧
  (∀ (fuses : Word) (cmd b : Nat) (rest : List Nat) (s : State), s.cus.running = some (cmd, .voiding (b :: rest)) → fuses ≠
    0o777777 →
    ∃ t, exec (.helperBankVoided fuses) s = .next t ∧
      t.otpWord (State.helperBase b + 257) = s.otpWord (State.helperBase b + 257) ||| fuses.toNat ∧ t.cus =
        { s.cus with cmdResult := 6, running := none }) ∧
  (∀ (capture : PufState) (cmd : Nat) (l : List Nat) (s : State), s.cus.running = some (cmd, .capturing l) → l.length < 2 →
    ∃ t, exec (.enrolCapture capture) s = .next t ∧
      t.cus = { s.cus with running := some (cmd, .capturing (l ++ [capture.toNat])) }) ∧
  (∀ (capture : PufState) (cmd a b : Nat) (s : State), s.cus.running = some (cmd, .capturing [a, b]) →
    ∃ t, exec (.enrolCapture capture) s = .next t ∧
      ∃ messages, t.cus =
        { s.cus with running := some (cmd, .writingHelper s.newBank (helperWords [a, b, capture.toNat] messages)) }) ∧
  (∀ (capture : PufState) (cmd b : Nat) (s : State), s.cus.running = some (cmd, .checking b) →
    ∃ t, exec (.enrolCapture capture) s = .next t ∧
      t.cus =
        { s.cus with running := some (cmd, if (pufSecret capture.toNat (s.helperBits b)).isSome then .intent .lc 1 else .voidingNew b) }) ∧
  (∀ (words : List Word) (cmd b : Nat) (s : State), s.cus.running = some (cmd, .writingHelper b words) →
    ∃ t, exec (.helperBankWritten none) s = .next t ∧
      t.cus = { s.cus with running := some (cmd, .checking b) } ∧ (∀ w, t.otpWord w = if State.helperBase b ≤ w ∧ w <
        State.helperBase b + words.length then s.otpWord w ||| (wordAt words (w - State.helperBase b)).toNat else s.otpWord w)) ∧
  (∀ (e : OtpStop) (words : List Word) (cmd b : Nat) (s : State), s.cus.running = some (cmd, .writingHelper b words) →
    ∃ t, exec (.helperBankWritten (some e)) s = .next t ∧
      t.cus = { s.cus with cmdResult := 6, running := none }) ∧
  (∀ (hash : List Word) (cmd b : Nat) (s : State), s.cus.running = some (cmd, .writingAuthority b hash) →
    ∃ t, exec (.authorityBankWritten none) s = .next t ∧
      t.cus = { s.cus with cmdResult := 1, running := none } ∧ (∀ w, t.otpWord w = if State.authBase b ≤ w ∧ w < State.authBase
        b + hash.length + 1 then s.otpWord w ||| (wordAt (hash ++ [crc18 hash]) (w - State.authBase b)).toNat else s.otpWord w)) ∧
  (∀ (a b : Bool) (cmd k : Nat) (l : Ladder) (s : State), s.cus.running = some (cmd, .intent l k) → (a || b) = true →
    ∃ t, exec (.intentPairWritten a b) s = .next t ∧
      t.cus = { s.cus with pend := some (l, k), running := some (cmd, .done l k) } ∧ t.rungBits l k = s.rungBits l k ||| (flag 3
        a + flag 2 b)) ∧
  (∀ (cmd k : Nat) (l : Ladder) (s : State), s.cus.running = some (cmd, .intent l k) →
    ∃ t, exec (.intentPairWritten false false) s = .next t ∧
      t.cus.cmdResult = 6 ∧ t.cus.running = none ∧ t.cus.pend = s.cus.pend ∧ t.rungBits l k = s.rungBits l k) ∧
  (∀ (cmd k : Nat) (s : State), s.cus.running = some (cmd, .done .lc k) →
    ∃ t, exec (.donePairWritten true true) s = .next t ∧
      t.rungDone .lc k = true ∧ t.start.outcome = .held ∧ t.cus.halted = true ∧ t.cus.pend = none ∧ t.cus.cmdResult = 1 ∧
        t.cus.running = none ∧ t.cus.win ≠ .opened) ∧
  (∀ (cmd k : Nat) (l : Ladder) (s : State), s.cus.running = some (cmd, .done l k) → l ≠ .lc →
    ∃ t, exec (.donePairWritten true true) s = .next t ∧
      t.rungDone l k = true ∧ t.cus = { s.cus with pend := none, cmdResult := 1, running := none })

/-- R101, R102, R127: the lease ladder, restart-with-staged and commit-staged. -/
def Obligations.LeaseLadderAndBootRecordComplete : Prop :=
  (∀ (q : Advance) (rest : List Advance) (s : State), s.cus.advances = q :: rest → s.cusWritesOtp = false → s.cus.otpStopped =
    false → s.ladderValue .lease < 8191 →
    ∃ t, exec (.leaseLadderAdvance true true true true) s = .next t ∧
      t.rungDone .lease (s.ladderValue .lease + 1) = true ∧ t.cus.otpStopped = false) ∧
  (∀ (q : Advance) (rest : List Advance) (s : State), s.cus.advances = q :: rest → s.cusWritesOtp = false → 8191 ≤ s.ladderValue
    .lease →
    ∃ t, exec (.leaseLadderAdvance true true true true) s = .next t ∧
      t.otp = s.otp ∧ t.cus = { s.cus with advances := rest, exhReported := true }) ∧
  (∀ (cmd : Nat) (capture : PufState) (s : State), s.cus.running = some (cmd, .bootRecord) → s.norRefuses = false →
    ∃ t, exec (.bootRecordWritten false true capture) s = .next t ∧
      t.start = { begun := true, phase := 1, captures := 1, capture := some capture.toNat, cause := 3, t0 := s.now } ∧
        t.nor.boot = some (bootRecord
        (match s.nor.boot with | some b => if bootValid b then (wordAt b 1).toNat + 1 else 1 | none => 1) true) ∧ t.cus.running
        = none) ∧
  (∀ (worn : List (Nat × Byte)) (readError : Option Nat) (cmd target : Nat) (s : State), s.cus.running = some (cmd, .copying
    target) → s.norRefuses = false → s.cus.otpStopped = false →
    ∃ t, exec (.commitCopyDone false worn readError) s = .next t ∧
      t.nor = (s.copySlot 3 target (worn.map (fun e => (e.1, e.2.toNat)))).nor ∧ ((t.verifySlot target readError).1 ≠ 1 → t.cus
        = { s.cus with cmdResult := 4, running := none }) ∧ (∀ i, t.verifySlot target readError = (1, some i) → if i.rung ≤
        s.ladderValue .image then t.cus = { s.cus with cmdResult := 1, running := none } else t.cus =
        { s.cus with running := some (cmd, .intent .image i.rung) }))

/-- R149 to R153: the noise source, its health tests and the DRBG. The bits of a window come as the command's operand, and the
pool left after an instantiation is the model's choice (notes/assumptions/30). -/
def Obligations.EntropyComplete : Prop :=
  (∀ (samples : BitVec 1024) (s : State), s.sampling = true → s.trng.state = .startup → s.trng.firstPassed = false →
    (s.testWindow (windowSamples samples)).1 = none →
    ∃ t, exec (.entropyWindowEnd samples) s = .next t ∧
      t.trng.firstPassed = true ∧ t.trng.failRun = 0 ∧ t.trng.state = .startup ∧ t.trng.pool = (s.trng.pool ++ windowSamples
        samples).take 2048) ∧
  (∀ (samples : BitVec 1024) (s : State), s.sampling = true → s.trng.state = .startup → s.trng.firstPassed = true →
    s.trng.waiting = [] → (s.testWindow (windowSamples samples)).1 = none →
    ∃ t, exec (.entropyWindowEnd samples) s = .next t ∧
      t.trng.state = .ok ∧ t.trng.instantiated = true ∧ t.trng.reseeds = satInc 36 s.trng.reseeds ∧ t.trng.generates = 0 ∧
        t.trng.reseedDue = false ∧ t.trng.failRun = 0) ∧
  (∀ (samples : BitVec 1024) (s : State), s.sampling = true → s.trng.state = .ok → s.trng.reseedDue = false → s.trng.waiting =
    [] → (s.testWindow (windowSamples samples)).1 = none →
    ∃ t, exec (.entropyWindowEnd samples) s = .next t ∧
      t.trng.state = .ok ∧ t.trng.failRun = 0 ∧ t.trng.pool = (s.trng.pool ++ windowSamples samples).take 2048) ∧
  (∀ (samples : List Bool) (test : Nat) (s : State), s.sampling = true → s.trng.failRun < 2 → (s.testWindow (samples.take
    1024)).1 = some test →
    ∃ t, exec (.healthTestFailure samples) s = .next t ∧
      t.trng.state = .retest ∧ t.trng.failRun = s.trng.failRun + 1 ∧ t.trng.lastTest = test ∧ t.trng.healthFails = satInc 18
        s.trng.healthFails ∧ t.trng.pool = [] ∧ t.trng.firstPassed = false) ∧
  (∀ (samples : List Bool) (test : Nat) (s : State), s.sampling = true → 2 ≤ s.trng.failRun → (s.testWindow (samples.take
    1024)).1 = some test →
    ∃ t, exec (.healthTestFailure samples) s = .next t ∧
      t.trng.state = .failed ∧ t.trng.pool = [] ∧ t.trng.lastTest = test ∧ t.trng.healthFails = satInc 18 s.trng.healthFails) ∧
  (∀ (samples : BitVec 1024) (s : State), s.sampling = true → s.trng.state = .retest → s.trng.firstPassed = false →
    (s.testWindow (windowSamples samples)).1 = none →
    ∃ t, exec (.retestEnd samples) s = .next t ∧
      t.trng.state = .retest ∧ t.trng.failRun = 0 ∧ t.trng.firstPassed = true ∧ t.trng.pool = if s.trng.instantiated then
        s.trng.pool else (s.trng.pool ++ windowSamples samples).take 2048) ∧
  (∀ s : State, s.trng.state = .ok → 1024 ≤ s.trng.pool.length → s.trng.waiting = [] →
    ∃ t, exec .reseedDue s = .next t ∧
      t.now = max s.now (s.trng.seededAt + secs 1) ∧ t.trng.reseedDue = false ∧ t.trng.pool = s.trng.pool.drop 1024 ∧
        t.trng.reseeds = satInc 36 s.trng.reseeds ∧ t.trng.generates = 0 ∧ t.trng.seededAt = t.now) ∧
  (∀ s : State, s.trng.state = .ok → s.trng.pool.length < 1024 →
    ∃ t, exec .reseedDue s = .next t ∧
      t.trng = { s.trng with reseedDue := true } ∧ t.now = max s.now (s.trng.seededAt + secs 1)) ∧
  (∀ (c : Consumer) (u : Nat) (rest : List (Consumer × Nat)) (s : State), (s.trng.state = .startup ∨ s.trng.state = .retest) →
    s.trng.waiting = (c, u) :: rest →
    ∃ t, exec .entropyRequestTimeout s = .next t ∧
      t.now = max s.now (u + ms 50) ∧ satInc 18 s.trng.entUnavail ≤ t.trng.entUnavail)

/-- R48, R49, R331, R364, R547: resets of the Verge die. -/
def Obligations.VergeResetsComplete : Prop :=
  (∀ s : State, s.verge.vf33Low = false →
    ∃ t, exec .vf33Loss s = .next t ∧
      t.verge.vf33Low = true ∧ t.verge.locked = false ∧ t.verge.resetFlag = true ∧ t.verge.cause = 1 ∧ (∀ p, (t.port p).state =
        .off) ∧ (∀ p, (t.port p).config = [])) ∧
  (∀ s : State, ∃ t, exec .vf33Release s = .next t ∧
      t.verge = { s.verge with vf33Low := false }) ∧
  (∀ (lowNs : Nat) (s : State), s.verge.rstLow = false → 1000 ≤ lowNs →
    ∃ t, exec (.fieldRstN lowNs) s = .next t ∧
      t.verge.rstLow = true ∧ t.verge.locked = false ∧ t.verge.resetFlag = true ∧ (∀ p, (t.port p).state = .off) ∧ (∀ p, (t.port
        p).config = [])) ∧
  (∀ (lowNs : Nat) (s : State), s.verge.rstLow = false → lowNs < 100 →
    ∃ t, exec (.fieldRstN lowNs) s = .next t ∧
      s.onlyChanges t observers) ∧
  (∀ s : State, ∃ t, exec .fieldRstNRelease s = .next t ∧
      t.verge = { s.verge with rstLow := false }) ∧
  (∀ s : State, s.verge.clockLost = false → s.verge.vf33Low = false → s.verge.rstLow = false →
    ∃ t, exec .vergeClockLoss s = .next t ∧
      t.verge.clockLost = true ∧ t.verge.locked = false ∧ t.verge.resetFlag = true ∧ t.verge.cause = 3 ∧ (∀ p, p < 10 → t.port p
        = { config := (s.port p).config })) ∧
  (∀ s : State, s.start.linkStarted = true → s.verge.vf33Low = false → s.verge.rstLow = false → s.verge.locked = false →
    ∃ t, exec .vergeCdrLock s = .next t ∧
      t.verge.locked = true ∧ t.verge.clockLost = false ∧ (∀ p, p < 10 → (s.port p).mode ≠ 0 → (t.port p).state ≠ .off))

/-- R343, R353, R363, R364, R381: the messages that the Verge die takes. -/
def Obligations.VergeMessagesComplete : Prop :=
  (∀ (p g : Nat) (v : List Word) (s : State), s.arrives .down .state (.portConfig p g v) = true →
    ∃ t, exec (.portConfigRx .good) s = .next t ∧
      (t.port p).config = v ∧ (t.port p).fwd = true ∧ ((t.port p).state = .off ↔ (t.port p).mode = 0)) ∧
  (∀ (p : Nat) (s : State), s.arrives .down .state (.portCmd p none 1) = true → (s.port p).state = .down →
    ∃ t, exec (.portCmdRetry .good) s = .next t ∧
      (t.port p).state ≠ .down ∧ (t.port p).ldRun = 0 ∧ t.holds .up .state (fun m => decide (m = .cmdReply p 0)) = true) ∧
  (∀ (p : Nat) (s : State), s.arrives .down .state (.portCmd p none 2) = true →
    ∃ t, exec (.portCmdClear .good) s = .next t ∧
      t.port p =
        { s.port p with framesRx := 0, frameErr := 0, gapAborts := 0, duplicates := 0, early := 0, holdLost := 0, framesTx := 0, downQuota := 0, downLd := 0 }
        ∧ t.holds .up .state (fun m => decide (m = .cmdReply p 0)) = true) ∧
  (∀ s : State, s.arrives .down .state .stateQuery = true →
    ∃ t, exec (.stateQueryRx .good) s = .next t ∧
      (∀ u ∈ List.range 10 ++ [0o12, 0o13], t.holds .up .state (updateOf u (s.vergeWords u)) = true)) ∧
  (∀ (f : DownFrame) (s : State), s.arrives .down .station (.stationDown f) = true → (s.port f.port).state ≠ .off → (s.port
    f.port).state ≠ .down → (s.port f.port).queue.length < 16 →
    ∃ t, exec (.stationDownRx .good) s = .next t ∧
      (t.port f.port).queue = (s.port f.port).queue ++ [f])

/-- R360, R368, R369, R371, R372: upstream reception. -/
def Obligations.PortReceptionComplete : Prop :=
  (∀ (port : Fin 10) (s : State), s.portHears port = true →
    ∃ t, exec (.sofReceived port) s = .next t ∧
      (t.port port).inFrame = true ∧ ((s.port port).state = .idle → (t.port port).state = .receiving)) ∧
  (∀ (port : Fin 10) (bytes : List Byte) (s : State), s.portHears port = true → nfSof (bytesOf bytes) = true → frameBad (bytesOf
    bytes) = false → tabGet none s.verge.dups (nfStation (bytesOf bytes) % 4096) ≠ some (nfStation (bytesOf bytes), nfSeq
    (bytesOf bytes)) → (s.port port).fwd = true → s.holdBytes + bytes.length ≤ 65536 →
    ∃ t, exec (.stationFrameRx port bytes) s = .next t ∧
      (t.port port).framesRx = satInc 36 (s.port port).framesRx ∧ t.holds .up .station (fun m => decide (m = .stationUp port
        (bytesOf bytes))) = true ∧ (t.port port).inFrame = false) ∧
  (∀ (port : Fin 10) (bytes : List Byte) (s : State), s.portHears port = true → nfSof (bytesOf bytes) = true → frameBad (bytesOf
    bytes) = false → tabGet none s.verge.dups (nfStation (bytesOf bytes) % 4096) = some (nfStation (bytesOf bytes), nfSeq
    (bytesOf bytes)) →
    ∃ t, exec (.stationFrameRx port bytes) s = .next t ∧
      (t.port port).framesRx = satInc 36 (s.port port).framesRx ∧ (t.port port).duplicates = satInc 18 (s.port port).duplicates
        ∧ t.chan .up .station = s.chan .up .station) ∧
  (∀ (port : Fin 10) (bytes : List Byte) (s : State), s.portHears port = true → nfSof (bytesOf bytes) = true → frameBad (bytesOf
    bytes) = true →
    ∃ t, exec (.stationFrameRx port bytes) s = .next t ∧
      (t.port port).frameErr = satInc 18 (s.port port).frameErr ∧ (t.port port).framesRx = (s.port port).framesRx ∧ (t.port
        port).inFrame = false) ∧
  (∀ (port : Fin 10) (bytes : List Byte) (s : State), nfSof (bytesOf bytes) = false →
    ∃ t, exec (.stationFrameRx port bytes) s = .next t ∧
      s.onlyChanges t observers) ∧
  (∀ (port : Fin 10) (s : State), s.portHears port = true → (s.port port).inFrame = true → (s.port port).mode ≠ 2 →
    ∃ t, exec (.gapAbort port) s = .next t ∧
      (t.port port).gapAborts = satInc 18 (s.port port).gapAborts ∧ (t.port port).inFrame = false) ∧
  (∀ (port : Fin 10) (s : State), (s.port port).mode = 2 → s.vergeRuns = true → (s.port port).inFrame = true →
    ∃ t, exec (.syncClockStop port) s = .next t ∧
      (t.port port).inFrame = false ∧ (t.port port).framesTx = (s.port port).framesTx) ∧
  (∀ (port : Fin 10) (level : Bool) (s : State), s.vergeRuns = true →
    ∃ t, exec (.dcdChange port level) s = .next t ∧
      (t.port port).dcd = level) ∧
  (∀ (input : Fin 8) (level : Bool) (s : State), s.vergeRuns = true → s.verge.levels.testBit input ≠ level →
    ∃ t, exec (.fieldInputChange input level) s = .next t ∧
      t.verge.levels.testBit input = level ∧ tabGet 0 t.verge.edges input = satInc 18 (tabGet 0 s.verge.edges input) ∧
        t.verge.finGen = (s.verge.finGen + 1) % 32)

/-- R361 to R363 and Table 15.1: the downstream sequence. -/
def Obligations.PortTransmissionComplete : Prop :=
  (∀ (port : Fin 10) (s : State), s.vergeRuns = true → (s.port port).state = .waitCts → (s.port port).rts = true →
    ∃ t, exec (.ctsAsserted port) s = .next t ∧
      (t.port port).cts = true ∧ (t.port port).lead = true ∧ (t.port port).ldRun = 0 ∧ (t.port port).state = .waitCts) ∧
  (∀ (port : Fin 10) (s : State), s.vergeRuns = true → (s.port port).state = .down → (s.port port).rts = true →
    ∃ t, exec (.ctsAsserted port) s = .next t ∧
      (t.port port).state ≠ .down ∧ (t.port port).ldRun = 0) ∧
  (∀ (port : Fin 10) (s : State), (s.port port).state = .waitCts → (s.port port).lead = false → (s.port port).ldRun < 2 →
    ∃ t, exec (.ctsTimeout port) s = .next t ∧
      (t.port port).queue = (s.port port).queue.tail ∧ (t.port port).downLd = satInc 18 (s.port port).downLd ∧ (t.port
        port).ldRun = (s.port port).ldRun + 1 ∧ (t.port port).state ≠ .down) ∧
  (∀ (port : Fin 10) (s : State), (s.port port).state = .waitCts → (s.port port).lead = false → 2 ≤ (s.port port).ldRun →
    ∃ t, exec (.ctsTimeout port) s = .next t ∧
      (t.port port).queue = [] ∧ (t.port port).state = .down) ∧
  (∀ (port : Fin 10) (s : State), (s.port port).lead = true →
    ∃ t, exec (.leadExpiry port) s = .next t ∧
      (t.port port).state = .transmitting ∧ (t.port port).lead = false ∧ (t.port port).queue = (s.port port).queue) ∧
  (∀ (port : Fin 10) (f : DownFrame) (rest : List DownFrame) (s : State), (s.port port).state = .transmitting → (s.port
    port).lead = false → (s.port port).tail = false → (s.port port).queue = f :: rest →
    ∃ t, exec (.downstreamTxEnd port) s = .next t ∧
      (t.port port).queue = rest ∧ (t.port port).tail = true ∧ (t.port port).framesTx = satInc 36 (s.port port).framesTx ∧
        Sent.station f ∈ t.sent) ∧
  (∀ (port : Fin 10) (s : State), (s.port port).tail = true →
    ∃ t, exec (.tailExpiry port) s = .next t ∧
      (t.port port).tail = false ∧ (t.port port).queue = (s.port port).queue ∧ ((s.port port).queue = [] → (t.port port).state =
        .idle)) ∧
  (∀ (port : Fin 10) (s : State), (s.port port).state = .down → (s.port port).rts = false →
    ∃ t, exec (.portDownProbe port) s = .next t ∧
      t.port port = { s.port port with rts := true })

/-- R190 to R195, R566: the states of Table 8.4. -/
def Obligations.LaneStatesComplete : Prop :=
  (∀ (lane : Fin 16) (n cause : Nat) (losses : List LaneLoss) (receiving : Bool) (s : State), s.wireLane lane = some n →
    s.laneUpNow n = true → firstLoss losses = some cause →
    ∃ t, exec (.laneFault lane losses receiving) s = .next t ∧
      (t.lane n).state = (if s.laneFlapMax n ≤ (s.lane n).window.length + 1 then .damped else if s.laneHold n = 0 then .down
        else .hold) ∧ (t.lane n).cause = cause ∧ (t.lane n).flaps = satInc 18 (s.lane n).flaps ∧ (t.lane n).gen = ((s.lane
        n).gen + 1) % 32) ∧
  (∀ (lane : Fin 16) (n : Nat) (corrected uncorrectable : Nat) (receiving : Bool) (s : State), s.wireLane lane = some n →
    s.laneUpNow n = true → s.laneErrDown n ≠ 0 → s.laneErrDown n < uncorrectable →
    ∃ t, exec (.laneErrorThreshold lane corrected uncorrectable receiving) s = .next t ∧
      (t.lane n).state = (if s.laneFlapMax n ≤ (s.lane n).window.length + 1 then .damped else if s.laneHold n = 0 then .down
        else .hold) ∧ (t.lane n).cause = 5 ∧ (t.lane n).fecUncorr = satAdd 36 (s.lane n).fecUncorr uncorrectable ∧ (t.lane
        n).fecCorr = satAdd 36 (s.lane n).fecCorr corrected) ∧
  (∀ (lane : Fin 16) (n : Nat) (corrected uncorrectable : Nat) (receiving : Bool) (s : State), s.wireLane lane = some n →
    (s.lane n).errors = [] → uncorrectable ≤ s.laneErrDown n →
    ∃ t, exec (.laneErrorThreshold lane corrected uncorrectable receiving) s = .next t ∧
      t.lane n =
        { s.lane n with fecCorr := satAdd 36 (s.lane n).fecCorr corrected, fecUncorr := satAdd 36 (s.lane n).fecUncorr uncorrectable, errors := if uncorrectable = 0 then [] else [(s.now, uncorrectable)] }) ∧
  (∀ (lane : Fin 16) (n : Nat) (s : State), s.wireLane lane = some n → ((s.lane n).state = .training ∨ (s.laneTrain n = false ∧
    ((s.lane n).state = .hold ∨ (s.lane n).state = .down))) → s.laneLocked n = true →
    ∃ t, exec (.laneUp lane) s = .next t ∧
      (t.lane n).state = .up ∧ (t.lane n).gen = ((s.lane n).gen + 1) % 32 ∧ (t.lane n).upSince = s.now ∧ (t.lane n).holdUntil =
        none) ∧
  (∀ (lane : Fin 16) (n : Nat) (u : Nat) (s : State), s.wireLane lane = some n → (s.lane n).holdUntil = some u →
    ∃ t, exec (.linkHoldExpiry lane) s = .next t ∧
      (t.lane n).state = .down ∧ (t.lane n).holdUntil = none ∧ t.now = max s.now u) ∧
  (∀ (lane : Fin 16) (n : Nat) (s : State), s.wireLane lane = some n → (s.lane n).state = .damped →
    ∃ t, exec (.dampExpiry lane) s = .next t ∧
      (t.lane n).state = .down ∧ (t.lane n).window = [] ∧ t.now = max s.now (s.lane n).dampUntil) ∧
  (∀ (lane : Fin 16) (n : Nat) (s : State), s.wireLane lane = some n → s.laneTrain n = true → (s.lane n).state = .hold →
    ∃ t, exec (.signalRegained lane) s = .next t ∧
      t.lane n =
        { s.lane n with state := .training, gen := ((s.lane n).gen + 1) % 32, clockEnd := if (s.lane n).cdr then s.now else (s.lane n).clockEnd }) ∧
  (∀ (lane : Fin 16) (n : Nat) (u : Nat) (rest : List Nat) (s : State), s.wireLane lane = some n → (s.lane n).window = u :: rest
    →
    ∃ t, exec (.flapWindowExpiry lane) s = .next t ∧
      t.lane n = { s.lane n with window := rest } ∧ t.now = max s.now (u + secs 60))

/-- R197 to R199: PAUSE and PFC. -/
def Obligations.LaneFlowControlCompletes : Prop :=
  (∀ (lane : Fin 16) (n : Nat) (quanta : BitVec 16) (s : State), s.wireLane lane = some n → s.laneUpNow n = true →
    s.laneIsClient n = true → s.lanePauseEn n = true → s.laneRate n ≠ 0 →
    ∃ t, exec (.pauseFrameRx lane quanta) s = .next t ∧
      (t.lane n).pauseRx = decide (quanta ≠ 0) ∧ tabGet 0 (t.lane n).heldUntil 8 = (if quanta = 0 then 0 else s.now +
        s.quantaCycles n quanta.toNat) ∧ (t.lane n).pfcRx = (s.lane n).pfcRx ∧ (t.lane n).ctlDropped = (s.lane n).ctlDropped) ∧
  (∀ (lane : Fin 16) (n : Nat) (quanta : BitVec 16) (s : State), s.wireLane lane = some n → s.laneUpNow n = true → s.lanePauseEn
    n = false →
    ∃ t, exec (.pauseFrameRx lane quanta) s = .next t ∧
      t.lane n = { s.lane n with ctlDropped := satInc 18 (s.lane n).ctlDropped }) ∧
  (∀ (lane : Fin 16) (n : Nat) (quanta : BitVec 16) (s : State), s.wireLane lane = some n → s.laneUpNow n = false →
    ∃ t, exec (.pauseFrameRx lane quanta) s = .next t ∧
      s.onlyChanges t observers) ∧
  (∀ (lane : Fin 16) (n : Nat) (enable : Byte) (quanta : BitVec 128) (s : State), s.wireLane lane = some n → s.laneUpNow n =
    true → s.laneIsClient n = true → s.lanePfcEn n = true → enable.toNat &&& s.lanePfcPrio n ≠ 0 → s.laneRate n ≠ 0 →
    ∃ t, exec (.pfcFrameRx lane enable quanta) s = .next t ∧
      (∀ p : Fin 8, (t.lane n).pfcRx.testBit p = if (enable.toNat &&& s.lanePfcPrio n).testBit p then decide (quanta.toNat / 2 ^
        (16 * (7 - p.val)) % 2 ^ 16 ≠ 0) else (s.lane n).pfcRx.testBit p) ∧ (t.lane n).pauseRx = (s.lane n).pauseRx) ∧
  (∀ (lane : Fin 16) (n : Nat) (enable : Byte) (quanta : BitVec 128) (s : State), s.wireLane lane = some n → s.laneUpNow n =
    true → enable.toNat &&& s.lanePfcPrio n = 0 →
    ∃ t, exec (.pfcFrameRx lane enable quanta) s = .next t ∧
      t.lane n = { s.lane n with ctlDropped := satInc 18 (s.lane n).ctlDropped }) ∧
  (∀ (lane : Fin 16) (n u : Nat) (s : State), s.unitsHeld = false → s.laneLead lane = some n → tabGet 0 (s.lane n).heldUntil 8 =
    u → u ≠ 0 →
    ∃ t, exec (.pauseTimerExpiry lane none) s = .next t ∧
      (t.lane n).pauseRx = false ∧ (t.lane n).pfcRx = (s.lane n).pfcRx ∧ tabGet 0 (t.lane n).heldUntil 8 = 0 ∧ t.now = max s.now
        u) ∧
  (∀ (lane : Fin 16) (n u : Nat) (p : Fin 8) (s : State), s.unitsHeld = false → s.laneLead lane = some n → tabGet 0 (s.lane
    n).heldUntil p = u → u ≠ 0 →
    ∃ t, exec (.pauseTimerExpiry lane (some p)) s = .next t ∧
      (∀ k : Fin 8, (t.lane n).pfcRx.testBit k = (decide (k ≠ p) && (s.lane n).pfcRx.testBit k)) ∧ (t.lane n).pauseRx = (s.lane
        n).pauseRx ∧ t.now = max s.now u) ∧
  (∀ (lane : Fin 16) (n u : Nat) (s : State), s.unitsHeld = false → s.replayMode = false → s.laneLead lane = some n →
    s.laneUpNow n = true → (s.lane n).sentAt = [(8, u)] →
    ∃ t, exec (.pauseRefresh lane) s = .next t ∧
      Sent.frame n (controlFrame (s.laneMac n) 256 65535) ∈ t.sent ∧ t.now = max s.now (u - 1 + s.quantaCycles n 32768) ∧
        (t.lane n).sentAt = [(8, t.now + 1)]) ∧
  (∀ (lane : Fin 16) (n p u : Nat) (s : State), s.unitsHeld = false → s.replayMode = false → s.laneLead lane = some n →
    s.laneUpNow n = true → (s.lane n).sentAt = [(p, u)] → p < 8 →
    ∃ t, exec (.pauseRefresh lane) s = .next t ∧
      Sent.frame n (controlFrame (s.laneMac n) (2 ^ p) 65535) ∈ t.sent ∧ t.now = max s.now (u - 1 + s.quantaCycles n 32768))

/-- R77, R197, R208, R210, R212, R231, R236: a client frame, from its lane to its queue. Which EtherTypes open a tag is the
model's reading (notes/assumptions/84). -/
def Obligations.ClientFramesComplete : Prop :=
  (∀ (lane : Fin 16) (n : Nat) (bytes : List Byte) (s : State), s.laneLead lane = some n → s.laneIsClient n = true → s.laneUpNow
    n = true → s.replayMode = false → (fcsGood (bytesOf bytes) = false ∨ bytes.length < 64) →
    ∃ t, exec (.clientFrameRx lane bytes) s = .next t ∧
      (t.lane n).lineErr = satInc 18 (s.lane n).lineErr ∧ t.tp.queues = s.tp.queues) ∧
  (∀ (lane : Fin 16) (n : Nat) (bytes : List Byte) (s : State), s.laneLead lane = some n → s.laneIsClient n = true → s.laneUpNow
    n = true → s.replayMode = false → fcsGood (bytesOf bytes) = true → 64 ≤ bytes.length → s.laneMaxFrame n < bytes.length →
    ∃ t, exec (.clientFrameRx lane bytes) s = .next t ∧
      (t.lane n).oversize = satInc 18 (s.lane n).oversize ∧ t.tp.queues = s.tp.queues) ∧
  (∀ (lane : Fin 16) (n : Nat) (bytes : List Byte) (s : State), s.laneLead lane = some n → s.laneIsClient n = true → s.laneUpNow
    n = true → s.replayMode = false → fcsGood (bytesOf bytes) = true → 64 ≤ bytes.length → bytes.length ≤ s.laneMaxFrame n →
    pairAt (bytesOf bytes) 12 = 0x8808 → pairAt (bytesOf bytes) 14 ≠ 1 → pairAt (bytesOf bytes) 14 ≠ 0x0101 →
    ∃ t, exec (.clientFrameRx lane bytes) s = .next t ∧
      (t.lane n).ctlDropped = satInc 18 (s.lane n).ctlDropped ∧ t.tp.queues = s.tp.queues) ∧
  (∀ (lane : Fin 16) (n : Nat) (bytes : List Byte) (s : State), s.laneLead lane = some n → s.laneIsClient n = true → s.laneUpNow
    n = true → s.replayMode = false → fcsGood (bytesOf bytes) = true → 64 ≤ bytes.length → bytes.length ≤ s.laneMaxFrame n →
    pairAt (bytesOf bytes) 12 ≠ 0x8808 → frameDa (bytesOf bytes) ≠ s.laneMac n → s.selectTenant n (frameVlan (bytesOf bytes)) =
    none →
    ∃ t, exec (.clientFrameRx lane bytes) s = .next t ∧
      tabGet 0 t.tp.noTenant n = satInc 18 (tabGet 0 s.tp.noTenant n) ∧ t.tp.queues = s.tp.queues) ∧
  (∀ (lane : Fin 16) (n : Nat) (bytes : List Byte) (u i q tc : Nat) (stream : Option Nat) (s : State), s.laneLead lane = some n
    → s.laneIsClient n = true → s.laneUpNow n = true → s.replayMode = false → fcsGood (bytesOf bytes) = true → 64 ≤ bytes.length
    → bytes.length ≤ s.laneMaxFrame n → pairAt (bytesOf bytes) 12 ≠ 0x8808 → frameDa (bytesOf bytes) ≠ s.laneMac n →
    s.selectTenant n (frameVlan (bytesOf bytes)) = some u → s.start.outcome = .running → tabGet none s.tp.drains u = none →
    s.classify u (clientKey n bytes) = some i → State.entryResult (State.classEntry (s.classifier u) i) = (q, tc, stream) →
    State.stateCode (s.tenant u).state = none → s.settled q = true → s.admits u q bytes.length = true →
    ∃ t, exec (.clientFrameRx lane bytes) s = .next t ∧
      s.queuedOne t q u bytes.length ∧ (t.queue q).frames.getLast?.map QFrame.data = some (frameData (bytesOf bytes)))

/-- R154, R215, R217, R218, R221, R222: resets of a tenant (Table 9.5). In memory without configuration no key is drawn, and a
trigger of the same cycle stands over an earlier one (the model's choice, notes/assumptions/34). -/
def Obligations.TenantResetsComplete : Prop :=
  (∀ (r : VerbCall) (tenant : Fin 16) (s : State), s.mayAct r (some (tenantWindow tenant, (s.tenant tenant).gen)) = true →
    (State.isOperator r.caller = true ∨ r.caller = .tenant tenant) → s.configured tenant = true → (s.tenant tenant).state ≠
    .fenced → (s.tenant tenant).state ≠ .resetting →
    ∃ t, exec (.tenantReset r tenant) s = .next t ∧
      t.answers r.caller 0o12 0 [] = true ∧ (t.tenant tenant).state = .resetting ∧ (t.tenant tenant).trigger = (if
        State.isOperator r.caller then 2 else 1) ∧ (t.tenant tenant).gen = ((s.tenant tenant).gen + 1) % 32 ∧ (t.tenant
        tenant).resetCount = satInc 18 (s.tenant tenant).resetCount) ∧
  (∀ (r : VerbCall) (tenant : Fin 16) (v : TenReset) (s : State), s.mayAct r (some (tenantWindow tenant, (s.tenant tenant).gen))
    = true → State.isOperator r.caller = true → s.configured tenant = true → (s.tenant tenant).state = .resetting → (s.tenant
    tenant).reset = some v → v.started = s.now → (s.tenant tenant).trigger = 1 →
    ∃ t, exec (.tenantReset r tenant) s = .next t ∧
      t.answers r.caller 0o12 0 [] = true ∧ (t.tenant tenant).trigger = 2 ∧ (t.tenant tenant).reset = some v ∧ (t.tenant
        tenant).resetCount = (s.tenant tenant).resetCount) ∧
  (∀ (r : VerbCall) (tenant : Fin 16) (s : State), s.mayAct r (some (tenantWindow tenant, (s.tenant tenant).gen)) = true →
    State.isOperator r.caller = true → s.configured tenant = true → (s.tenant tenant).state = .fenced → (s.tenant
    tenant).fencedForStart = false →
    ∃ t, exec (.unfence r tenant) s = .next t ∧
      t.answers r.caller 0o13 0 [] = true ∧ (t.tenant tenant).state = .resetting ∧ (t.tenant tenant).trigger = 4 ∧ (t.tenant
        tenant).window = []) ∧
  (∀ (tenant : Fin 16) (r : TenReset) (s : State), s.unitsHeld = false → (s.tenant tenant).reset = some r → r.phase = .draining
    →
    ∃ t, exec (.resetDrainEnd tenant) s = .next t ∧
      (t.tenant tenant).reset = some { r with phase := .emptying } ∧ (∀ q ∈ s.tenantQueues tenant, (t.queue q).frames = [])) ∧
  (∀ (tenant : Fin 16) (r : TenReset) (s : State), s.unitsHeld = false → (s.tenant tenant).reset = some r → r.phase = .emptying
    → s.tenantPending tenant = true →
    ∃ t, exec (.resetQueuesEmptied tenant) s = .next t ∧
      t.tenantPending tenant = false) ∧
  (∀ (tenant : Fin 16) (r : TenReset) (s : State), s.unitsHeld = false → (s.tenant tenant).reset = some r → r.phase = .emptying
    → s.tenantPending tenant = false → s.start.memState = .noneConfigured → s.mem.quarantined = false → (s.region tenant).epoch
    < 2 ^ 24 - 1 →
    ∃ t, exec (.resetQueuesEmptied tenant) s = .next t ∧
      (t.region tenant).resetting = true ∧ (t.tenant tenant).reset.map (fun x => x.phase) = some .region ∧ t.slot (slotMem
        tenant) = s.slot (slotMem tenant)) ∧
  (∀ (tenant : Fin 16) (r : TenReset) (s : State), s.unitsHeld = false → (s.tenant tenant).reset = some r → r.phase = .emptying
    → s.tenantPending tenant = false → s.start.memState ≠ .noneConfigured → s.replaying = false → s.drbgServes = true →
    s.canInstall (slotMem tenant) = true → s.mem.quarantined = false → (s.region tenant).epoch < 2 ^ 24 - 1 →
    ∃ t, exec (.resetQueuesEmptied tenant) s = .next t ∧
      t.lookup (slotMem tenant) = some (slotValue (s.draw 256).1) ∧ (t.tenant tenant).reset.map (fun x => x.phase) = some
        .region ∧ (t.region tenant).resetting = true) ∧
  (∀ (tenant : Fin 16) (r : TenReset) (s : State), s.unitsHeld = false → (s.tenant tenant).reset = some r → r.phase = .keyWait
    true → s.replaying = false → s.drbgServes = true → s.canInstall (slotMem tenant) = true → s.mem.quarantined = false →
    (s.region tenant).epoch < 2 ^ 24 - 1 →
    ∃ t, exec (.memoryKeyRetry tenant) s = .next t ∧
      t.lookup (slotMem tenant) = some (slotValue (s.draw 256).1) ∧ (t.tenant tenant).reset.map (fun x => x.phase) = some
        .region ∧ (t.region tenant).resetting = true) ∧
  (∀ (tenant : Fin 16) (x : Nat) (rest : List Nat) (s : State), s.unitsHeld = false → (s.tenant tenant).window = x :: rest →
    ∃ t, exec (.resetWindowExpiry tenant) s = .next t ∧
      (t.tenant tenant).window = rest ∧ t.now = max s.now (x + secs 600)) ∧
  (∀ (tenant : Fin 16) (s : State), s.unitsHeld = false → (s.tenant tenant).state = .degraded →
    ∃ t, exec (.degradedExpiry tenant) s = .next t ∧
      (t.tenant tenant).state = .healthy ∧ (t.tenant tenant).degCause = 0 ∧ (t.tenant tenant).gen = ((s.tenant tenant).gen + 1)
        % 32 ∧ t.now = max s.now ((s.tenant tenant).degAt + secs 1))

/-- R225, R226: ACK_SEQ and the notification frame. The limit of 63 records is the width of COUNT (the model's choice,
notes/assumptions/35). -/
def Obligations.TenantEventsComplete : Prop :=
  (∀ (r : VerbCall) (tenant : Fin 16) (value : Word) (s : State), s.mayAct r (some (tenantWindow tenant, (s.tenant tenant).gen))
    = true → (State.isOperator r.caller = true ∨ r.caller = .tenant tenant) → s.configured tenant = true → (value.toNat + 2 ^ 18
    - (s.tenant tenant).ackSeq) % 2 ^ 18 ≤ ((s.tenant tenant).produced + 2 ^ 18 - (s.tenant tenant).ackSeq) % 2 ^ 18 →
    ∃ t, exec (.ackSeqWrite r tenant value) s = .next t ∧
      t.answers r.caller 0o02 0 [] = true ∧ (t.tenant tenant).ackSeq = value.toNat) ∧
  (∀ (tenant : Fin 16) (d key : Nat) (s : State), s.unitsHeld = false → s.replayMode = false → s.configured tenant = true →
    s.notifyEn tenant = true → (s.tenant tenant).notifyDue = false → s.callerOpen (State.tenantCaller tenant) = true →
    s.notifyDueAt tenant = some d → s.lookup (State.sessSlot (State.tenantCaller tenant)) = some key → s.tp.mgmtWait = [] →
    s.mgmtHeld + cellsOf (s.itemLen (.notify tenant)) ≤ 512 →
    ∃ t, exec (.notifyFrameSend tenant) s = .next t ∧
      Sent.notify tenant (s.notifyLane tenant) ((s.notifyRecords tenant).map TenRec.seq) ∈ t.sent ∧ (t.tenant tenant).notified =
        ((s.tenant tenant).notified + (s.notifyRecords tenant).length) % 2 ^ 18 ∧ (t.tenant tenant).notifySent = satInc 18
        (s.tenant tenant).notifySent ∧ t.now = max s.now d)

/-- R238 to R240, R249, R257 and R264: one decision of a lane scheduler. How the deficits carry over a visit is the model's
reading (notes/assumptions/37). -/
def Obligations.SchedulerPickCompletes : Prop :=
  (∀ (lane : Fin 16) (n w : Nat) (f : MgmtFrame) (rest : List MgmtFrame) (s : State), s.unitsHeld = false → s.laneLead lane =
    some n → s.laneStarts n = true → s.mgmtUse (s.sched n) * 100 ≤ s.laneRate n * 125 → (s.sched n).mgmt = f :: rest →
    ∃ t, exec (.schedulerPick lane w) s = .next t ∧
      (t.sched n).sending = some (.mgmt f) ∧ (t.sched n).mgmt = rest ∧ t.tp.queues = s.tp.queues ∧ Sent.frame n f.bytes ∈ t.sent) ∧
  (∀ (lane : Fin 16) (n w u q : Nat) (commit : Bool) (c : Sched) (f : QFrame) (rest : List QFrame) (s : State), s.unitsHeld =
    false → s.laneLead lane = some n → s.laneStarts n = true → s.mgmtFirst n = none → s.laneIsTrunk n = false → s.pickTenant n =
    some (commit, u, q, c) → (s.queue q).frames = f :: rest →
    ∃ t, exec (.schedulerPick lane w) s = .next t ∧
      (t.queue q).frames = rest ∧ ((t.queue q).inFlight.map QFrame.data = some f.data) ∧ (t.sched n).sending = some (.data q 0
        0) ∧ Sent.picked n q f.len none 0 0 ∈ t.sent ∧ Sent.frame n (withFcs f.data) ∈ t.sent) ∧
  (∀ (lane : Fin 16) (n w u q x value : Nat) (commit : Bool) (c : Sched) (f : QFrame) (rest : List QFrame) (s : State),
    s.unitsHeld = false → s.laneLead lane = some n → s.laneStarts n = true → s.mgmtFirst n = none → s.laneIsTrunk n = true →
    s.engineOther n = none → s.pickTenant n = some (commit, u, q, c) → (s.queue q).frames = f :: rest → f.stream = some x →
    entValid (s.txStream x).entry = true → entLane (s.txStream x).entry = n → (s.txStream x).newAn = false → s.lookup (slotTx x
    (s.txStream x).an) = some value → (s.txStream x).state ≠ .exhausted → (s.txStream x).nextPn < 2 ^ 64 → (s.leased (s.txStream
    x) = false ∨ (s.txStream x).nextPn < (s.txStream x).leaseEnd) →
    ∃ t, exec (.schedulerPick lane w) s = .next t ∧
      (t.queue q).frames = rest ∧ (t.sched n).sending = some (.data q (s.txStream x).an (s.txStream x).nextPn) ∧ Sent.picked n q
        (f.len + 32) (some x) (s.txStream x).an (s.txStream x).nextPn ∈ t.sent ∧ Sent.frame n (secSeal value (s.txStream x).an
        (s.txStream x).nextPn (s.txSci x) f.data) ∈ t.sent ∧ (t.txStream x).nextPn = (s.txStream x).nextPn + 1)

/-- R234, R235, R248, R251: frames that leave their lanes or cells. What the spill path accepts, and when, is told (the
model's choice, notes/assumptions/38). -/
def Obligations.TurnpikeComplete : Prop :=
  (∀ (lane : Fin 16) (n q an pn : Nat) (f : QFrame) (s : State), s.unitsHeld = false → s.laneLead lane = some n → (s.sched
    n).sending = some (.data q an pn) → (s.queue q).inFlight = some f →
    ∃ t, exec (.txFrameComplete lane) s = .next t ∧
      (t.sched n).sending = none ∧ (t.queue q).inFlight = none ∧ (t.queue q).frames = (s.queue q).frames) ∧
  (∀ (lane : Fin 16) (n : Nat) (f : MgmtFrame) (s : State), s.unitsHeld = false → s.laneLead lane = some n → (s.sched n).sending
    = some (.mgmt f) →
    ∃ t, exec (.txFrameComplete lane) s = .next t ∧
      (t.sched n).sending = none ∧ t.tp.queues = s.tp.queues) ∧
  (∀ (queue : Fin 16384) (ahead u : Nat) (l rest : List QFrame) (f : QFrame) (s : State), s.unitsHeld = false → s.tenantOfQueue
    queue = some u → (s.queue queue).frames = l ++ f :: rest → (l.filter QFrame.unaccepted).length = ahead → f.unaccepted = true
    →
    ∃ t, exec (.spillAcceptTimeout queue ahead) s = .next t ∧
      (t.queue queue).frames.map (fun g => (g.data, g.unaccepted)) = l.map (fun g => (g.data, false)) ++ rest.map (fun g =>
        (g.data, g.unaccepted)) ∧ tabGet 0 (t.queue queue).refused 1 = satInc 36 (tabGet 0 (s.queue queue).refused 1) ∧ t.now =
        max s.now (f.since + us 1)) ∧
  (∀ (queue : Fin 16384) (u : Nat) (l rest : List QFrame) (f : QFrame) (s : State), s.unitsHeld = false → (s.queue queue).frames
    = l ++ f :: rest → (∀ g ∈ l, g.place ≠ .spill) → f.place = .spill → s.settled queue = true → s.tenantOfQueue queue = some u
    → s.memReady = true → (tabGet {} s.mem.regions u).broken = false → State.held (s.queue queue) .reserved + cellsOf f.len ≤
    s.qWord queue 2 →
    ∃ t, exec (.spillReadBack queue true) s = .next t ∧
      (t.queue queue).frames = l ++ { f with place := .reserved, unaccepted := false } :: rest) ∧
  (∀ (queue : Fin 16384) (u : Nat) (l rest : List QFrame) (f : QFrame) (s : State), s.unitsHeld = false → (s.queue queue).frames
    = l ++ f :: rest → (∀ g ∈ l, g.place ≠ .spill) → f.place = .spill → s.settled queue = true → s.tenantOfQueue queue = some u
    →
    ∃ t, exec (.spillReadBack queue false) s = .next t ∧
      (t.queue queue).frames = l ++ rest ∧ tabGet 0 (t.queue queue).refused 0o12 = satInc 36 (tabGet 0 (s.queue queue).refused
        0o12)) ∧
  (∀ (tenant : Fin 16) (d : Drain) (s : State), s.unitsHeld = false → tabGet none s.tp.drains tenant = some d →
    ∃ t, exec (.drainTimeout tenant) s = .next t ∧
      tabGet none t.tp.drains tenant = none ∧ (d.held = [] → ∀ q ∈ s.tenantQueues tenant, (t.queue q).frames = []) ∧ t.now = max
        s.now (d.since + ms 10)) ∧
  (∀ (queue : Fin 16384) (x : Nat) (s : State), s.unitsHeld = false → (s.queue queue).releasedAt = some x →
    ∃ t, exec (.delayQuietExpiry queue) s = .next t ∧
      (t.queue queue).releasedAt = none ∧ (t.queue queue).delayEventAt = none ∧ t.now = max s.now (x + secs 1))

/-- R445 (and R436: the session's counters have not run out): the staging write. -/
def Obligations.StagingComplete : Prop :=
  (∀ (n : Fin 32) (s : State), s.callerOpen (.operator n) = true → s.stays (.operator n) = true → s.start.outcome = .running →
    s.image.staging = none → s.applyRuns = false →
    ∃ t, exec (.stageOpen { caller := .operator n, cond := none }) s = .next t ∧
      t.answers (.operator n) 0o05 0 [] = true ∧ t.image.stagedState = 1 ∧ t.image.staging = some
        { session := n, next := 0, erased := [], programming := none, verifying := false }) ∧
  (∀ (n : Fin 32) (g : Staging) (offset : Nat) (bytes : List Byte) (s : State), s.callerOpen (.operator n) = true →
    s.image.staging = some g → g.session = n → g.programming = none → g.verifying = false → offset = g.next → 1 ≤ bytes.length →
    bytes.length ≤ 1024 → offset + bytes.length ≤ 2 ^ 23 →
    ∃ t, exec (.stageData { caller := .operator n, cond := none } offset bytes) s = .next t ∧
      t.sent = [] ∧ t.image.staging.map (fun x => (x.session, x.next, x.programming, x.verifying)) = some (g.session, g.next,
        some (bytesOf bytes), false) ∧ (∀ k, offset / 4096 ≤ k → k ≤ (offset + bytes.length - 1) / 4096 → ∃ x, t.image.staging =
        some x ∧ k ∈ x.erased)) ∧
  (∀ (n : Fin 32) (g : Staging) (bytes : List Nat) (s : State), s.image.staging = some g → g.session = n → g.programming = some
    bytes → s.norRefuses = false → s.stays (.operator n) = true →
    ∃ t, exec (.stageDataProgrammed false) s = .next t ∧
      t.answers (.operator n) 0o06 0 [] = true ∧ t.image.staging = some
        { g with programming := none, next := g.next + bytes.length } ∧ ((tabGet [] t.nor.slots 3).drop g.next).take
        bytes.length = bytes) ∧
  (∀ (n : Fin 32) (g : Staging) (s : State), s.callerOpen (.operator n) = true → s.image.staging = some g → g.session = n →
    g.programming = none → g.verifying = false →
    ∃ t, exec (.stageClose { caller := .operator n, cond := none }) s = .next t ∧
      t.sent = [] ∧ t.image.staging = some { g with verifying := true }) ∧
  (∀ (n : Fin 32) (g : Staging) (readError : Option Nat) (s : State), s.image.staging = some g → g.session = n → g.verifying =
    true →
    ∃ t, exec (.stagedSlotVerified readError) s = .next t ∧
      t.image.staging = none ∧ t.image.stagedCode = (s.verifySlot 3 readError).1 ∧ t.image.stagedState = (if (s.verifySlot 3
        readError).1 = 1 then 2 else 3) ∧ t.answers (.operator n) 0o07 (if (s.verifySlot 3 readError).1 = 1 then 0 else 0o21)
        [BitVec.ofNat 18 (s.verifySlot 3 readError).1] = true)

/-- R97, R99, R100, R248 and Tables 4.7 and 4.8: apply-staged. -/
def Obligations.LiveApplyCompletes : Prop :=
  (∀ (r : VerbCall) (s : State), s.mayAct r none = true → State.isOperator r.caller = true → s.applyReason = none →
    ∃ t, exec (.applyStaged r) s = .next t ∧
      t.answers r.caller 0o10 0o17 [] = true ∧ t.image.applyState = 1 ∧ t.image.applyResult = 0 ∧ t.image.applySlotCode = 0) ∧
  (∀ (readError : Option Nat) (s : State), s.image.applyState = 1 →
    ∃ t, exec (.applyVerificationDone readError) s = .next t ∧
      t.image.stagedCode = (s.verifySlot 3 readError).1 ∧ ((s.verifySlot 3 readError).2 = none → t.image.applyState = 4 ∧
        t.image.applyResult = 2 ∧ t.image.applySlotCode = (s.verifySlot 3 readError).1) ∧ (∀ new old, (s.verifySlot 3
        readError).2 = some new → s.image.running = some old → (State.sectionDiffs s.analysis old.sections new.sections).any
        (fun x => decide (x.1.cls = 1)) = false → t.image.applyState = 2 ∨ t.image.applyState = 3)) ∧
  (∀ (type inst : Nat) (p : PendingSection) (s : State), s.image.running ≠ none → (∀ q ∈ s.image.pending, q.new.all (fun c =>
    c.type = q.type && c.inst = q.inst) = true) → s.pending? type inst = some p → (type = 0o013 ∨ type = 0o014 ∨ type = 0o015) →
    s.tenantHolds inst = false → (s.tenant inst).reset = none →
    ∃ t, exec (.dSectionBoundary type inst) s = .next t ∧
      t.pending? 0o013 inst = none ∧ t.pending? 0o014 inst = none ∧ t.pending? 0o015 inst = none ∧ t.inForce? type inst = p.new) ∧
  (∀ (inst : Nat) (p : PendingSection) (s : State), s.image.running ≠ none → (∀ q ∈ s.image.pending, q.new.all (fun c => c.type
    = q.type && c.inst = q.inst) = true) → s.pending? 0o020 inst = some p → s.linked = true → s.portQuiet inst = true →
    ∃ t, exec (.dSectionBoundary 0o020 inst) s = .next t ∧
      t.pending? 0o020 inst = none ∧ t.holds .down .state
        (fun m => match m with | .portConfig q _ _ => decide (q = inst) | _ => false) = true) ∧
  (∀ (p : PendingSection) (s : State), s.image.running ≠ none → (∀ q ∈ s.image.pending, q.new.all (fun c => c.type = q.type &&
    c.inst = q.inst) = true) → s.pending? 0o021 0 = some p → (∀ n ∈ s.stn.oldDir, s.stn.pipeline.any (fun i => decide (i.station
    = n)) = false) →
    ∃ t, exec (.dSectionBoundary 0o021 0) s = .next t ∧
      t.pending? 0o021 0 = none ∧ t.stn.oldDir = []) ∧
  (∀ (inst : Nat) (p : PendingSection) (s : State), s.image.running ≠ none → (∀ q ∈ s.image.pending, q.new.all (fun c => c.type
    = q.type && c.inst = q.inst) = true) → s.pending? 0o016 inst = some p → inst < 256 → (∀ i ∈ List.range 64, s.unkeyed (slotTx
    (64 * inst + i)) = true) →
    ∃ t, exec (.dSectionBoundary 0o016 inst) s = .next t ∧
      t.pending? 0o016 inst = none ∧ (∀ i ∈ List.range 64, (t.txStream (64 * inst + i)).entry = entryIn p.new 8 i)) ∧
  (∀ (inst x : Nat) (p : PendingSection) (s : State), s.image.running ≠ none → (∀ q ∈ s.image.pending, q.new.all (fun c =>
    c.type = q.type && c.inst = q.inst) = true) → s.pending? 0o017 inst = some p → 256 ≤ inst → x / 64 + 256 = inst → entPinned
    (s.rxStream x).entry = true → entryIn p.new 32 (x % 64) ≠ [] →
    ∃ t, exec (.dSectionBoundary 0o017 inst) s = .next t ∧
      (t.rxStream x).pin = entryIn p.new 32 (x % 64))

/-- R186 to R188, R266, R267 and Table 11.4: a frame on a trunk lane, from its codeword or its bytes to its stream. The packet
number is recovered from its low bits, and a codeword that fails to decode is taken as received, by the model's choice
(notes/assumptions/41, 83). -/
def Obligations.TrunkFramesComplete : Prop :=
  (∀ (lane : Fin 16) (n : Nat) (bytes : List Byte) (s : State), s.laneLead lane = some n → s.laneIsTrunk n = true → s.laneUpNow
    n = true → s.replayMode = false → s.laneMode n ≠ 6 → (fcsGood (bytesOf bytes) = false ∨ bytes.length < 64) →
    ∃ t, exec (.trunkFrameRx lane (.frame bytes)) s = .next t ∧
      (t.lane n).lineErr = satInc 18 (s.lane n).lineErr ∧ t.link = s.link) ∧
  (∀ (lane : Fin 16) (n : Nat) (bytes : List Byte) (s : State), s.trunkArrives lane n (bytesOf bytes) = true → pairAt (bytesOf
    bytes) 12 ≠ 0x8808 → pairAt (bytesOf bytes) 12 ≠ 0x88B5 → pairAt (bytesOf bytes) 12 ≠ 0x88E5 →
    ∃ t, exec (.trunkFrameRx lane (.frame bytes)) s = .next t ∧
      (t.laneCipher n).noStream = satInc 36 (s.laneCipher n).noStream ∧ t.link.rx = s.link.rx) ∧
  (∀ (lane : Fin 16) (n : Nat) (bytes : List Byte) (s : State), s.trunkArrives lane n (bytesOf bytes) = true → pairAt (bytesOf
    bytes) 12 = 0x88E5 → 96 ≤ bytes.length → (secTci (frameData (bytesOf bytes)) / 4 * 4 ≠ 0x2C ∨ secSl (frameData (bytesOf
    bytes)) ≠ 0 ∨ s.rxOf n (secSci (frameData (bytesOf bytes))) = none) →
    ∃ t, exec (.trunkFrameRx lane (.frame bytes)) s = .next t ∧
      (t.laneCipher n).noStream = satInc 36 (s.laneCipher n).noStream ∧ t.link.rx = s.link.rx) ∧
  (∀ (lane : Fin 16) (n x : Nat) (bytes : List Byte) (s : State), s.secArrives lane n x (bytesOf bytes) = true → s.keyValid
    (slotRx x (secTci (frameData (bytesOf bytes)) % 4)) = false →
    ∃ t, exec (.trunkFrameRx lane (.frame bytes)) s = .next t ∧
      (t.laneCipher n).noKeyRx = satInc 36 (s.laneCipher n).noKeyRx ∧ (t.rxStream x).bad = satInc 18 (s.rxStream x).bad) ∧
  (∀ (lane : Fin 16) (n x : Nat) (bytes : List Byte) (s : State), s.secArrives lane n x (bytesOf bytes) = true → s.keyValid
    (slotRx x (secTci (frameData (bytesOf bytes)) % 4)) = true → (State.rxPn (s.rxStream x) (secTci (frameData (bytesOf bytes))
    % 4)).lowest = none →
    ∃ t, exec (.trunkFrameRx lane (.frame bytes)) s = .next t ∧
      (t.laneCipher n).replays = satInc 36 (s.laneCipher n).replays ∧ (t.rxStream x).bad = satInc 18 (s.rxStream x).bad) ∧
  (∀ (lane : Fin 16) (n x low value : Nat) (bytes : List Byte) (s : State), s.secArrives lane n x (bytesOf bytes) = true →
    s.lookup (slotRx x (secTci (frameData (bytesOf bytes)) % 4)) = some value → (State.rxPn (s.rxStream x) (secTci (frameData
    (bytesOf bytes)) % 4)).lowest = some low → secOpen value (State.recoverPn low (secPn (frameData (bytesOf bytes))))
    (frameData (bytesOf bytes)) = none →
    ∃ t, exec (.trunkFrameRx lane (.frame bytes)) s = .next t ∧
      (t.laneCipher n).icvFails = satInc 36 (s.laneCipher n).icvFails ∧ (t.rxStream x).bad = satInc 18 (s.rxStream x).bad) ∧
  (∀ (lane : Fin 16) (n x low value : Nat) (data : List Nat) (bytes : List Byte) (s : State), s.secArrives lane n x (bytesOf
    bytes) = true → s.lookup (slotRx x (secTci (frameData (bytesOf bytes)) % 4)) = some value → (State.rxPn (s.rxStream x)
    (secTci (frameData (bytesOf bytes)) % 4)).lowest = some low → secOpen value (State.recoverPn low (secPn (frameData (bytesOf
    bytes)))) (frameData (bytesOf bytes)) = some data → State.recoverPn low (secPn (frameData (bytesOf bytes))) < low →
    ∃ t, exec (.trunkFrameRx lane (.frame bytes)) s = .next t ∧
      (t.laneCipher n).replays = satInc 36 (s.laneCipher n).replays ∧ (t.rxStream x).bad = satInc 18 (s.rxStream x).bad) ∧
  (∀ (lane : Fin 16) (n x low value : Nat) (data : List Nat) (bytes : List Byte) (s : State), s.secArrives lane n x (bytesOf
    bytes) = true → s.lookup (slotRx x (secTci (frameData (bytesOf bytes)) % 4)) = some value → (State.rxPn (s.rxStream x)
    (secTci (frameData (bytesOf bytes)) % 4)).lowest = some low → secOpen value (State.recoverPn low (secPn (frameData (bytesOf
    bytes)))) (frameData (bytesOf bytes)) = some data → low ≤ State.recoverPn low (secPn (frameData (bytesOf bytes))) →
    ∃ t, exec (.trunkFrameRx lane (.frame bytes)) s = .next t ∧
      (t.laneCipher n).verifiedRx = satInc 36 (s.laneCipher n).verifiedRx ∧ (t.rxStream x).frames = satInc 36 (s.rxStream
        x).frames ∧ (State.rxPn (t.rxStream x) (secTci (frameData (bytesOf bytes)) % 4)).nextRx = max (State.rxPn (s.rxStream x)
        (secTci (frameData (bytesOf bytes)) % 4)).nextRx (State.recoverPn low (secPn (frameData (bytesOf bytes))) + 1)) ∧
  (∀ (lane : Fin 16) (n : Nat) (levels : BitVec 15750) (s : State), s.laneLead lane = some n → s.laneIsTrunk n = true →
    s.laneMode n = 6 → s.replayMode = false → (s.lane n).state ≠ .off → (s.lane n).state ≠ .damped → (s.laneUpNow n = true →
    s.laneErrDown n = 0 ∧ ((s.lane n).lineRx.codeword levels.toNat).frames = []) →
    ∃ t, exec (.trunkFrameRx lane (.codeword levels)) s = .next t ∧
      (t.lane n).lineRx = ((s.lane n).lineRx.codeword levels.toNat).rx ∧ (t.lane n).fecCorr = satAdd 36 (s.lane n).fecCorr (flag
        0 ((s.lane n).lineRx.codeword levels.toNat).corrected) ∧ (t.lane n).fecUncorr = satAdd 36 (s.lane n).fecUncorr (flag 0
        ((s.lane n).lineRx.codeword levels.toNat).failed) ∧ (t.lane n).delinErr = (if ((s.lane n).lineRx.codeword
        levels.toNat).misplaced then satInc 18 (s.lane n).delinErr else (s.lane n).delinErr))

/-- R104, R272, R274, R276, R303 and Table 11.5 step 5: leases, and the messages about them. -/
def Obligations.LeasesComplete : Prop :=
  (∀ (stream : Fin 16384) (a : Nat) (s : State), s.unitsHeld = false → s.replaying = false → (s.txStream stream).oldAn = some a
    →
    ∃ t, exec (.oldTxSlotDestroy stream) s = .next t ∧
      (t.txStream stream).oldAn = none ∧ t.keyValid (slotTx stream a) = false) ∧
  (∀ (x st : Nat) (rest : List (Nat × Nat)) (s : State), s.link.journal = (x, st) :: rest → s.norRefuses = false →
    ∃ t, exec (.leaseJournalAppend false) s = .next t ∧
      t.link.journal = rest ∧ t.link.leasesTaken = satInc 18 s.link.leasesTaken ∧ t.nor.journal.getLast?.map (fun r =>
        (r.stream, r.first, r.last)) = some (x, st, st + 2 ^ 32 - 1) ∧ (t.txStream x).asked = false) ∧
  (∀ (x st : Nat) (rest : List (Nat × Nat)) (s : State), s.link.journal = (x, st) :: rest →
    ∃ t, exec (.leaseJournalAppend true) s = .next t ∧
      t.link.journal = rest ∧ (t.txStream x).denied = some 3 ∧ t.nor.journal = s.nor.journal) ∧
  (∀ (stream : Fin 16384) (e : Nat) (s : State), (s.txStream stream).noticeUntil = some e →
    ∃ t, exec (.noticeAckTimeout stream) s = .next t ∧
      (t.txStream stream).state = State.stuckOr (s.txStream stream) .running ∧ (t.txStream stream).noticeUntil = none ∧ t.now =
        max s.now e) ∧
  (∀ (stream : Fin 16384) (s : State), (s.rxStream stream).state = .noticeWait → s.entropyWaits (.challenge stream) = true →
    ∃ t, exec (.noticeWaitTimeout stream) s = .next t ∧
      (t.rxStream stream).repeats = (s.rxStream stream).repeats + 1 ∧ (t.rxStream stream).queriedAt = t.now) ∧
  (∀ (stream : Fin 16384) (s : State), (s.rxStream stream).state = .noticeWait → s.drbgServes = true →
    ∃ t, exec (.noticeWaitTimeout stream) s = .next t ∧
      (t.rxStream stream).repeats = (s.rxStream stream).repeats + 1 ∧ (t.rxStream stream).challenge.isSome = true) ∧
  (∀ (lane : Fin 16) (words : List Word) (n x : Nat) (s : State), s.zheacLane lane = some n → s.leaseOk words 6 = true →
    s.leaseTx n 18 words = some x → s.notices (s.txStream x) = true → ((s.txStream x).state ≠ .leaseWait ∨ (s.txStream
    x).noticeUntil.isSome = true) →
    ∃ t, exec (.leaseQueryRx lane words) s = .next t ∧
      Sent.lease n 7 x (s.txStream x).nextPn (zWide words 6) ∈ t.sent ∧ t.zheac.notices = satInc 18 s.zheac.notices) ∧
  (∀ (lane : Fin 16) (words : List Word) (n x : Nat) (s : State), s.zheacLane lane = some n → s.leaseOk words 6 = true →
    s.leaseTx n 18 words = some x → s.notices (s.txStream x) = true → (s.txStream x).state = .leaseWait → (s.txStream
    x).noticeUntil = none →
    ∃ t, exec (.leaseQueryRx lane words) s = .next t ∧
      (t.txStream x).query = some (zWide words 6)) ∧
  (∀ (lane : Fin 16) (words : List Word) (n x : Nat) (s : State), s.zheacLane lane = some n → s.leaseOk words 7 = true →
    s.leaseRx n words = some x → entNotice (s.rxStream x).entry = true → (s.rxStream x).state = .noticeWait → (s.rxStream
    x).challenge = some (zWide words 10) →
    ∃ t, exec (.leaseNoticeRx lane words) s = .next t ∧
      (t.rxStream x).state = .running ∧ State.rxPn (t.rxStream x) (s.rxStream x).an =
        { nextRx := zWide words 6, lowest := some (zWide words 6) }) ∧
  (∀ (lane : Fin 16) (words : List Word) (n x : Nat) (s : State), s.zheacLane lane = some n → s.leaseOk words 7 = true →
    s.leaseRx n words = some x → (s.rxStream x).state = .noticeWait → (s.rxStream x).challenge ≠ some (zWide words 10) →
    ∃ t, exec (.leaseNoticeRx lane words) s = .next t ∧
      t.link = s.link) ∧
  (∀ (lane : Fin 16) (words : List Word) (n x low : Nat) (s : State), s.zheacLane lane = some n → s.leaseOk words 7 = true →
    s.leaseRx n words = some x → entNotice (s.rxStream x).entry = true → (s.rxStream x).state ≠ .noticeWait → (State.rxPn
    (s.rxStream x) (s.rxStream x).an).lowest = some low →
    ∃ t, exec (.leaseNoticeRx lane words) s = .next t ∧
      (State.rxPn (t.rxStream x) (s.rxStream x).an).lowest = some (max low (zWide words 6))) ∧
  (∀ (lane : Fin 16) (words : List Word) (n x : Nat) (s : State), s.zheacLane lane = some n → s.leaseOk words 8 = true →
    s.leaseTx n 18 words = some x → (s.txStream x).noticeUntil.isSome = true → zWide words 6 = (s.txStream x).nextPn →
    ∃ t, exec (.noticeAckRx lane words) s = .next t ∧
      (t.txStream x).state = State.stuckOr (s.txStream x) .running ∧ (t.txStream x).noticeUntil = none) ∧
  (∀ (lane : Fin 16) (words : List Word) (n : Nat) (s : State), s.zheacLane lane = some n → s.leaseOk words 8 = true → s.leaseTx
    n 18 words = none →
    ∃ t, exec (.noticeAckRx lane words) s = .next t ∧
      t.zheac.tagFails = satInc 18 s.zheac.tagFails ∧ t.link = s.link)

/-- R330, R333, R340 to R344 and Table 14.3: the partner. -/
def Obligations.PartnerStatesComplete : Prop :=
  (∀ s : State, s.cway.partner = .absent → s.start.linkStarted = true → s.vergeRuns = true → s.replayMode = false →
    ∃ t, exec .trainAligned s = .next t ∧
      t.cway.partner = .training ∧ t.cway.gen = (s.cway.gen + 1) % 32) ∧
  (∀ s : State, s.cway.partner = .training → s.replayMode = false →
    ∃ t, exec .trainingTimeout s = .next t ∧
      t.cway.partner = .absent ∧ t.cway.gen = (s.cway.gen + 1) % 32) ∧
  (∀ (pair : Fin 2) (s : State), s.cway.partner = .training → s.vergeRuns = true → s.replayMode = false →
    ∃ t, exec (.heartbeatRx false pair .good) s = .next t ∧
      t.cway.partner = .up ∧ t.cway.gen = (s.cway.gen + 1) % 32 ∧ t.cway.chOk = 15) ∧
  (∀ (pair : Fin 2) (s : State), s.cway.partner = .up → s.cway.chOk.testBit (pair.val + 2) = true → s.vergeRuns = true →
    s.replayMode = false →
    ∃ t, exec (.heartbeatRx false pair .crc) s = .next t ∧
      t.cway.crcErr = satInc 36 s.cway.crcErr ∧ t.cway.partner = .up) ∧
  (∀ (pair : Fin 2) (s : State), s.cway.partner = .up → s.cway.chOk.testBit (pair.val + 2) = true → s.vergeRuns = true →
    s.replayMode = false → s.verge.resetFlag = true → s.cway.seen = false → s.cway.resetMet = true →
    ∃ t, exec (.heartbeatRx false pair .good) s = .next t ∧
      t.cway.seen = true ∧ t.cway.lastCause = s.verge.cause ∧ t.cway.restarts = satInc 15 s.cway.restarts) ∧
  (∀ (pair : Fin 2) (s : State), s.cway.partner = .up → s.cway.chOk.testBit pair.val = true → s.cway.seen = true → s.vergeRuns =
    true → s.replayMode = false →
    ∃ t, exec (.heartbeatRx true pair .good) s = .next t ∧
      t.verge = { s.verge with resetFlag := false }) ∧
  (∀ s : State, s.cway.partner ≠ .absent →
    ∃ t, exec (.heartbeatDue false) s = .next t ∧
      t.cway = { s.cway with hbHost := (s.cway.hbHost + 1) % 2 ^ 18 }) ∧
  (∀ s : State, s.cway.partner ≠ .absent →
    ∃ t, exec (.heartbeatDue true) s = .next t ∧
      t.cway = { s.cway with hbVerge := (s.cway.hbVerge + 1) % 2 ^ 18 }) ∧
  (∀ s : State, s.cway.partner = .up → s.cway.chOk = 15 → s.replayMode = false →
    ∃ t, exec (.channelFail 1) s = .next t ∧
      t.cway.partner = .single ∧ t.cway.chOk = 14 ∧ t.cway.gen = (s.cway.gen + 1) % 32) ∧
  (∀ s : State, s.cway.partner = .up → s.cway.chOk = 15 → s.replayMode = false →
    ∃ t, exec (.channelFail 15) s = .next t ∧
      t.cway.partner = .absent ∧ t.cway.chOk = 0 ∧ t.cway.gen = (s.cway.gen + 1) % 32 ∧ t.cway.absentEvents = satInc 18
        s.cway.absentEvents ∧ t.chan .down .state = {}) ∧
  (∀ s : State, s.cway.partner = .single → s.replayMode = false →
    ∃ t, exec (.retrainTimer true) s = .next t ∧
      t.cway.partner = .up ∧ t.cway.gen = (s.cway.gen + 1) % 32 ∧ t.cway.chOk = 15)

/-- R337 to R339: credit and go-back of one class of one way, with nothing more to send. -/
def Obligations.CausewayTransportCompletes : Prop :=
  (∀ (way : Way) (cls : MsgClass) (words : Nat) (s : State), s.wayOpen way = true → ((way, cls) ≠ (Way.up, MsgClass.station) ∨
    s.withheld = false) → (s.chan way cls).waiting = [] →
    ∃ t, exec (.creditRx way cls words) s = .next t ∧
      (t.chan way cls).owed = (s.chan way cls).owed - min words (s.chan way cls).owed ∧ (t.chan way cls).credit = min (credit0
        way cls) ((s.chan way cls).credit + min words (s.chan way cls).owed)) ∧
  (∀ (way : Way) (cls : MsgClass) (s : State), s.wayOpen way = true → 0 < (s.chan way cls).received → (s.chan way cls).waiting =
    [] →
    ∃ t, exec (.ackRx way cls) s = .next t ∧
      (t.chan way cls).unacked = (s.chan way cls).unacked.drop (s.chan way cls).received ∧ (t.chan way cls).goBacks = 0) ∧
  (∀ (way : Way) (cls : MsgClass) (s : State), s.wayOpen way = true → (s.chan way cls).naked = true → (s.chan way cls).waiting =
    [] → (s.chan way cls).goBacks < 15 →
    ∃ t, exec (.nakRx way cls true) s = .next t ∧
      (t.chan way cls).wire = (s.chan way cls).unacked.drop (s.chan way cls).received ∧ (t.chan way cls).naked = false ∧ (t.chan
        way cls).goBacks = (s.chan way cls).goBacks + 1) ∧
  (∀ (way : Way) (cls : MsgClass) (s : State), s.wayOpen way = true → (s.chan way cls).unacked ≠ [] → (s.chan way cls).goBacks <
    15 →
    ∃ t, exec (.gobackTimeout way cls true) s = .next t ∧
      (t.chan way cls).wire = (s.chan way cls).unacked ∧ (t.chan way cls).goBacks = (s.chan way cls).goBacks + 1)

/-- R147, R346, R351, R374, R375, R378, R379, R444: messages from the Verge die, and station frames. -/
def Obligations.HostMessagesComplete : Prop :=
  (∀ (u : Nat) (ws : List Nat) (s : State), s.arrives .up .state (.stateUpdate u ws []) = true →
    ∃ t, exec (.stateUpdateRx .good) s = .next t ∧
      tabGet [] t.cway.shadow u = ws) ∧
  (∀ (p a : Nat) (n : Fin 32) (rest : List (Nat × Nat × Nat)) (s : State), s.arrives .up .state (.cmdReply p 0) = true →
    s.sp.portWaiting = (n.val, p, a) :: rest → s.callerOpen (.operator n) = true →
    ∃ t, exec (.cmdReplyRx .good) s = .next t ∧
      t.sp.portWaiting = rest ∧ t.answers (.operator n) 0o20 0 [] = true) ∧
  (∀ (u a : Nat) (ws : List Nat) (s : State), s.arrives .up .state (.stateUpdate u ws [(0o131007, a)]) = true →
    ∃ t, exec (.stateUpdateRx .good) s = .next t ∧
      t.cway.thBlocked = satInc 18 s.cway.thBlocked) ∧
  (∀ (p : Nat) (f : List Nat) (s : State), s.arrives .up .station (.stationUp p f) = true → s.keys.derivations = [] → s.dirEntry
    (nfStation f) = none →
    ∃ t, exec (.stationUpRx .good) s = .next t ∧
      tabGet 0 t.tp.noTenant 16 = satInc 18 (tabGet 0 s.tp.noTenant 16) ∧ t.stn = s.stn) ∧
  (∀ (p key : Nat) (f text : List Nat) (e : List Word) (s : State), s.arrives .up .station (.stationUp p f) = true →
    s.keys.derivations = [] → s.dirEntry (nfStation f) = some e → dirPort e = p → s.keyValid slotFleet = true → s.stationKey
    (nfStation f) = some key → s.ctxReadable (nfStation f) = true → nfOpen key f = some text → (s.ctx (nfStation f)).valid =
    true → (s.ctx (nfStation f)).upSeq < nfSeq f →
    ∃ t, exec (.stationUpRx .good) s = .next t ∧
      (t.ctx (nfStation f)).upSeq = nfSeq f ∧ (t.ctx (nfStation f)).upCount = satInc 32 (s.ctx (nfStation f)).upCount ∧
        t.stn.accepted = satInc 36 s.stn.accepted) ∧
  (∀ (p key : Nat) (f : List Nat) (e : List Word) (s : State), s.arrives .up .station (.stationUp p f) = true →
    s.keys.derivations = [] → s.dirEntry (nfStation f) = some e → dirPort e = p → s.keyValid slotFleet = true → s.stationKey
    (nfStation f) = some key → s.ctxReadable (nfStation f) = true → nfOpen key f = none →
    ∃ t, exec (.stationUpRx .good) s = .next t ∧
      tabGet 0 t.stn.refused rcIcv = satInc 36 (tabGet 0 s.stn.refused rcIcv) ∧ (t.ctx (nfStation f)).refused = satInc 32 (s.ctx
        (nfStation f)).refused ∧ (t.ctx (nfStation f)).upSeq = (s.ctx (nfStation f)).upSeq) ∧
  (∀ (station : BitVec 16) (fleet : Nat) (s : State), s.unitsHeld = false → s.replaying = false → s.keys.derivations = [.station
    station.toNat] → s.lookup slotFleet = some fleet → s.keys.cache = [] → s.stn.pipeline = [] → s.canInstall (slotCache 0) =
    true →
    ∃ t, exec (.stationKeyDerived station) s = .next t ∧
      t.keys.derivations = [] ∧ t.stationKey station.toNat = some (slotKey (slotValue (deriveStation fleet station.toNat)))) ∧
  (∀ (q seq key : Nat) (d : Drr) (f : QFrame) (rest : List QFrame) (e : List Word) (s : State), s.unitsHeld = false → s.linked =
    true → s.stn.downReady = true → s.stn.exhausted = false → drr (fun q => s.qWeight q * 256) s.headLen s.vpReady s.tp.vp =
    some (q, d) → (s.queue q).frames = f :: rest → s.dirEntry (vpStation f.data) = some e → dirEtype e = vpEtype f.data → vpTlen
    f.data ≤ 1115 → 28 + vpTlen f.data ≤ f.data.length → s.ctxReadable (vpStation f.data) = true → s.keyValid slotFleet = true →
    s.stationKey (vpStation f.data) = some key → s.nextDown (vpStation f.data) = some seq →
    ∃ t, exec .vpFrameDequeue s = .next t ∧
      (t.queue q).frames = rest ∧ (t.ctx (vpStation f.data)).downSeq = seq ∧ t.holds .down .station (fun m => decide (m =
        .stationDown
        { port := dirPort e, bytes := nfSeal key 2 (vpStation f.data) seq (s.ctx (vpStation f.data)).upSeq [] (vpText f.data) 0, queue := some q }))
        = true)

/-- R312, R313, R317, R318, R322, R324, R328, R565: protected memory as its commands change it, with no request held at the
directory. -/
def Obligations.MemoryChecksComplete : Prop :=
  (∀ (region : Fin 17) (index latency data : Nat) (read : SdramLine) (s : State), s.unitsHeld = false → s.readDue region 0 index
    = true → s.lineRead region 0 index read = some data →
    ∃ t, exec (.memoryReadComplete region 0 index read latency) s = .next t ∧
      t.mem.regions = s.mem.regions ∧ t.mem.eccCorr = (if read.ecc = .corrected then satInc 36 s.mem.eccCorr else s.mem.eccCorr)) ∧
  (∀ (region : Fin 17) (level : Fin 7) (index latency data : Nat) (read : SdramLine) (s : State), s.unitsHeld = false → level ≠
    0 → s.readDue region level index = true → s.dirIdle = true → s.mem.cached.length < cacheLines → s.lineRead region level
    index read = some data →
    ∃ t, exec (.memoryReadComplete region level index read latency) s = .next t ∧
      t.ctrLine (State.lineKey region level index) = ctrOf data ∧ t.mem.cached.contains (State.lineKey region level index) =
        true ∧ t.mem.walks.contains (State.lineKey region level index) = false ∧ t.mem.regions = s.mem.regions) ∧
  (∀ (region : Fin 17) (level : Fin 7) (index latency : Nat) (read : SdramLine) (s : State), s.unitsHeld = false → s.readDue
    region level index = true → s.lineRead region level index read = none →
    ∃ t, exec (.memoryReadComplete region level index read latency) s = .next t ∧
      (t.region region).fails = satInc 18 (s.region region).fails ∧ (t.mem.failRegion, t.mem.failLevel, t.mem.failIndex) =
        (region.val, level.val, index) ∧ t.mem.eccUncorr = (if read.ecc = .uncorrectable then satInc 18 s.mem.eccUncorr else
        s.mem.eccUncorr)) ∧
  (∀ (region : Fin 17) (level : Fin 8) (index : Nat) (e : Reenc) (siblings : List (Fin 24 × SdramLine)) (s : State), s.unitsHeld
    = false → s.dirIdle = true → s.mem.reencs = [e] → (e.region, e.level, e.index) = (region.val, level.val, index) → (s.ctrLine
    (State.lineKey region level index)).minors.all (fun m => decide (m.1 = e.child) || siblings.any (fun b => decide (b.1.val =
    m.1))) = true →
    ∃ t, exec (.reencryptionComplete region level index siblings) s = .next t ∧
      t.mem.reencs = [] ∧ (t.ctrLine (State.lineKey region level index)).overflows = (s.ctrLine (State.lineKey region level
        index)).overflows + 1 ∧ tabGet 0 (t.ctrLine (State.lineKey region level index)).minors e.child = 1 ∧ t.mem.reenc =
        satInc 36 s.mem.reenc) ∧
  (∀ s : State, s.unitsHeld = false → s.dirIdle = true → (s.region 16).resetting = true → s.mem.reencs.any (fun e => decide
    (e.region = 16)) = false → s.mem.quarantined = false → s.stn.pipeline = [] →
    ∃ t, exec (.regionResetComplete 16) s = .next t ∧
      (t.region 16).epoch = (s.region 16).epoch + 1 ∧ (t.region 16).resetting = false ∧ t.stn.contexts = []) ∧
  (∀ (region : Fin 17) (r : TenReset) (s : State), s.unitsHeld = false → s.dirIdle = true → region.val < 16 → (s.region
    region).resetting = true → s.mem.reencs.any (fun e => decide (e.region = region.val)) = false → s.mem.quarantined = false →
    (s.tenant region).reset = some r → r.phase = .region → (s.slot (slotMem region)).state ≠ .fault →
    ∃ t, exec (.regionResetComplete region) s = .next t ∧
      (t.region region).epoch = (s.region region).epoch + 1 ∧ (t.region region).resetting = false ∧ (t.tenant region).reset =
        none ∧ (t.tenant region).state = (if r.fences then .fenced else .healthy)) ∧
  (∀ (region : Fin 17) (s : State), s.unitsHeld = false → s.dirIdle = true → (s.region region).resetting = true →
    s.mem.reencs.any (fun e => decide (e.region = region.val)) = false → s.mem.quarantined = true →
    ∃ t, exec (.regionResetComplete region) s = .next t ∧
      (t.region region).epoch = (s.region region).epoch ∧ (t.region region).resetting = false) ∧
  (∀ (x : Nat) (rest : List Nat) (s : State), s.unitsHeld = false → s.mem.sec = x :: rest →
    ∃ t, exec .sec60sExpiry s = .next t ∧
      t.mem = { s.mem with sec := rest } ∧ t.now = max s.now (x + secs 60)) ∧
  (∀ (region : Fin 19) (line : Nat) (write : Option (BitVec 512)) (raw : SdramLine) (s : State), s.cus.startState ≠ .analysis →
    (s.cus.startState = .field → region.val ≠ 18 ∨ write.isSome = true) →
    ∃ t, exec (.dapAccess region line write raw) s = .next t ∧
      t.mem = { s.mem with blocked := satInc 18 s.mem.blocked } ∧ Sent.dap none ∈ t.sent) ∧
  (∀ (region : Fin 19) (line : Nat) (raw : SdramLine) (s : State), (s.cus.startState = .field ∧ region.val = 18 ∨
    s.cus.startState = .analysis ∧ 17 ≤ region.val) → s.memReady = true → s.mem.quarantined = false → line < s.regionLines
    region → raw.ecc ≠ .uncorrectable → tabGet none s.trip.region line = none →
    ∃ t, exec (.dapAccess region line none raw) s = .next t ∧
      Sent.dap (some raw.data.toNat) ∈ t.sent ∧ t.mem = s.mem) ∧
  (∀ (line : Nat) (data : BitVec 512) (raw : SdramLine) (s : State), s.cus.startState = .analysis → s.memReady = true →
    s.mem.quarantined = false → line < s.regionLines 17 →
    ∃ t, exec (.dapAccess 17 line (some data) raw) s = .next t ∧
      tabGet none t.trip.region line = some data.toNat ∧ Sent.dap (some 0) ∈ t.sent) ∧
  (∀ (region : Fin 19) (line : Nat) (raw : SdramLine) (s : State), s.cus.startState = .analysis → region.val < 17 → s.memReady =
    true → s.mem.quarantined = false → line < s.regionLines region → (s.region region).resetting = false → s.minorOver region 0
    line ≠ 0 →
    ∃ t, exec (.dapAccess region line none raw) s = .next t ∧
      Sent.dap (s.lineRead region 0 line raw) ∈ t.sent) ∧
  (∀ (region : Fin 19) (line : Nat) (write : Option (BitVec 512)) (raw : SdramLine) (s : State), s.cus.startState = .analysis →
    region.val < 17 → s.memReady = true → s.mem.quarantined = false → line < s.regionLines region → (write = none → s.minorOver
    region 0 line = 0) →
    ∃ t, exec (.dapAccess region line write raw) s = .next t ∧
      Sent.dap (some 0) ∈ t.sent)

/-- R316, R318, R320, R321, R514: the directory of level-1 lines, with no other request held at the line. Which requests hold
a credit, and the requesters' order, are the model's reading (notes/assumptions/47). -/
def Obligations.DirectoryCompletes : Prop :=
  (∀ (region : Fin 17) (line : Nat) (s : State), s.unitsHeld = false → s.lineServed region line = true → s.l1Idle region line =
    true → s.present region 1 (line / 24) = true → s.mem.cached.length < cacheLines → (s.dirLine (State.lineKey region 1 (line /
    24))).owned = false →
    ∃ t, exec (.directoryRequest region line none none) s = .next t ∧
      lineEngine s.memBody region line ∈ (t.dirLine (State.lineKey region 1 (line / 24))).holders ∧ (t.dirLine (State.lineKey
        region 1 (line / 24))).waiting = []) ∧
  (∀ (region : Fin 17) (line : Nat) (s : State), s.unitsHeld = false → s.lineServed region line = true → s.l1Idle region line =
    true → s.mem.lines = [] → s.mem.walks = [] → s.mem.cached.length + 8 ≤ cacheLines → (s.dirLine (State.lineKey region 1 (line
    / 24))).owned = false →
    ∃ t, exec (.directoryRequest region line none none) s = .next t ∧
      lineEngine s.memBody region line ∈ (t.dirLine (State.lineKey region 1 (line / 24))).holders ∧ (t.dirLine (State.lineKey
        region 1 (line / 24))).waiting = []) ∧
  (∀ (region : Fin 17) (line : Nat) (data : BitVec 512) (s : State), s.unitsHeld = false → s.lineServed region line = true →
    s.l1Idle region line = true → s.present region 1 (line / 24) = true → s.mem.cached.length < cacheLines → (s.dirLine
    (State.lineKey region 1 (line / 24))).holders.all (fun e => decide (e = lineEngine s.memBody region line)) = true → tabGet 0
    (s.ctrLine (State.lineKey region 1 (line / 24))).minors (line % 24) < 2 ^ 18 - 1 →
    ∃ t, exec (.directoryRequest region line (some data) none) s = .next t ∧
      (t.dirLine (State.lineKey region 1 (line / 24))).holders = [lineEngine s.memBody region line] ∧ (t.dirLine (State.lineKey
        region 1 (line / 24))).owned = true ∧ tabGet 0 (t.ctrLine (State.lineKey region 1 (line / 24))).minors (line % 24) =
        tabGet 0 (s.ctrLine (State.lineKey region 1 (line / 24))).minors (line % 24) + 1) ∧
  (∀ (region : Fin 17) (line : Nat) (data : BitVec 512) (s : State), s.unitsHeld = false → s.lineServed region line = true →
    s.l1Idle region line = true → s.present region 1 (line / 24) = true → s.mem.cached.length < cacheLines → (s.dirLine
    (State.lineKey region 1 (line / 24))).holders = [] → tabGet 0 (s.ctrLine (State.lineKey region 1 (line / 24))).minors (line
    % 24) = 2 ^ 18 - 1 → (s.ctrLine (State.lineKey region 1 (line / 24))).overflows < 2 ^ 40 - 1 →
    ∃ t, exec (.directoryRequest region line (some data) none) s = .next t ∧
      t.mem.reencs.map (fun e => (e.region, e.level, e.index, e.child)) = [(region.val, 1, line / 24, line % 24)]) ∧
  (∀ (region : Fin 17) (line : Nat) (write : Option (BitVec 512)) (er : Fin 17) (ek : Fin 7) (ei : Nat) (s : State), s.unitsHeld
    = false → s.memReady = true → s.mem.quarantined = false → line < levelLines s.memBody region 0 → (s.region region).closed =
    false → s.hasCredit (lineEngine s.memBody region line) 0 0 = false → 2 ≤ ek.val → s.parentFree er ek ei = true →
    s.mem.dirty.contains (State.lineKey er ek ei) = false →
    ∃ t, exec (.directoryRequest region line write (some (er, ek, ei))) s = .next t ∧
      t.mem.cached = s.mem.cached.filter (fun k => decide (k ≠ State.lineKey er ek ei)) ∧ t.mem.backlog.map (fun q => (q.region,
        q.line)) = s.mem.backlog.map (fun q => (q.region, q.line)) ++ [(region.val, line)] ∧ t.mem.dir = s.mem.dir) ∧
  (∀ (engine : Fin 4) (region : Fin 17) (line : Nat) (evicting : Bool) (s : State), s.unitsHeld = false → s.dirIdle = true →
    (s.dirLine (State.lineKey region 1 line)).snooped.contains engine.val = true →
    ∃ t, exec (.snoop engine region line evicting) s = .next t ∧
      (t.dirLine (State.lineKey region 1 line)).answers = (s.dirLine (State.lineKey region 1 line)).answers ++ [(engine.val,
        evicting)] ∧ t.mem.crossings = (if evicting then satInc 18 s.mem.crossings else s.mem.crossings)) ∧
  (∀ (engine : Fin 4) (region : Fin 17) (line : Nat) (s : State), s.unitsHeld = false → (s.dirLine (State.lineKey region 1
    line)).answers = [(engine.val, true)] →
    ∃ t, exec (.snoopAnswer engine region line) s = .next t ∧
      (t.dirLine (State.lineKey region 1 line)).answers = [] ∧ (t.dirLine (State.lineKey region 1 line)).holders = (s.dirLine
        (State.lineKey region 1 line)).holders) ∧
  (∀ (engine : Fin 4) (region : Fin 17) (line : Nat) (s : State), s.unitsHeld = false → s.dirIdle = true → (s.dirLine
    (State.lineKey region 1 line)).answers = [(engine.val, false)] →
    ∃ t, exec (.snoopAnswer engine region line) s = .next t ∧
      (t.dirLine (State.lineKey region 1 line)).answers = [] ∧ (t.dirLine (State.lineKey region 1 line)).holders = (s.dirLine
        (State.lineKey region 1 line)).holders.filter (fun h => decide (h ≠ engine.val))) ∧
  (∀ (engine : Fin 4) (region : Fin 17) (line : Nat) (dirty : Bool) (s : State), s.unitsHeld = false → s.dirIdle = true →
    engine.val ∈ (s.dirLine (State.lineKey region 1 line)).holders →
    ∃ t, exec (.l0Release engine region line dirty) s = .next t ∧
      (t.dirLine (State.lineKey region 1 line)).holders = (s.dirLine (State.lineKey region 1 line)).holders.filter (fun h =>
        decide (h ≠ engine.val)) ∧ (dirty = true → 1 < regionDepth s.memBody region → t.mem.dirty.contains (State.lineKey region
        1 line) = true))

/-- R290, R293, R294, R297, R299, R300 and Table 12.4: what each message of a handshake does. -/
def Obligations.HandshakeMessagesComplete : Prop :=
  (∀ (lane : Fin 16) (words : List Word) (n g k : Nat) (s : State), s.zheacLane lane = some n → s.helloOk words = true →
    s.groupOfLane n = some g → s.helloReason g words = none → (s.zgroup g).hs = none → (s.zgroup g).eph = some k → (s.zgroup
    g).ephReady = false →
    ∃ t, exec (.helloRx lane words) s = .next t ∧
      (t.zgroup g).state = .active ∧ (t.zgroup g).lastHsId = zHsId words ∧ (t.zgroup g).hs.map (fun d => (d.initiator, d.hsId,
        d.lane)) = some (false, zHsId words, n)) ∧
  (∀ (lane : Fin 16) (words : List Word) (n g r : Nat) (s : State), s.zheacLane lane = some n → s.helloOk words = true →
    s.groupOfLane n = some g → s.helloReason g words = some r →
    ∃ t, exec (.helloRx lane words) s = .next t ∧
      Sent.zheac g 5 n (zHsId words) false [] [] r ∈ t.sent ∧ (t.zgroup g).hs = (s.zgroup g).hs) ∧
  (∀ (lane : Fin 16) (words : List Word) (n g : Nat) (h : Handshake) (s : State), s.zheacLane lane = some n → s.helloOk words =
    true → s.groupOfLane n = some g → s.helloReason g words = none → (s.zgroup g).hs = some h → h.initiator = false → h.hsId =
    zHsId words → h.message ≠ [] →
    ∃ t, exec (.helloRx lane words) s = .next t ∧
      Sent.zheac g 2 n h.hsId h.myStart h.mine h.acceptTheirs 0 ∈ t.sent ∧ (t.zgroup g).hs = some h) ∧
  (∀ (lane : Fin 16) (words : List Word) (n g : Nat) (h : Handshake) (s : State), s.zheacLane lane = some n → s.hsOf n (zHsId
    words) = some (g, h) → h.initiator = true → h.phase = .helloSent → s.replyOk words (some h.mine.length) = true → p384.isPub
    (State.zEphPub words) = true →
    ∃ t, exec (.replyRx lane words) s = .next t ∧
      (t.zgroup g).hs.map (fun d => (d.phase, d.peerEph, d.peerNonce)) = some (.verifying, State.zEphPub words, State.zNonce
        words) ∧ t.zheac.running ≠ none) ∧
  (∀ (lane : Fin 16) (words : List Word) (n g : Nat) (h : Handshake) (s : State), s.zheacLane lane = some n → s.hsOf n (zHsId
    words) = some (g, h) → h.initiator = true → h.phase = .helloSent → s.replyOk words (some h.mine.length) = true → p384.isPub
    (State.zEphPub words) = false →
    ∃ t, exec (.replyRx lane words) s = .next t ∧
      (t.zgroup g).state = .backoff ∧ (t.zgroup g).hs = none ∧ (t.zgroup g).lastReason = zrBadKey) ∧
  (∀ (lane : Fin 16) (words : List Word) (n g : Nat) (h : Handshake) (s : State), s.zheacLane lane = some n → s.hsOf n (zHsId
    words) = some (g, h) → h.initiator = false → h.phase = .replySent → s.finishOk words (some h.mine.length) = true →
    ∃ t, exec (.finishRx lane words) s = .next t ∧
      (t.zgroup g).hs.map (fun d => d.phase) = some .verifying ∧ t.zheac.running ≠ none) ∧
  (∀ (lane : Fin 16) (words : List Word) (n g : Nat) (h : Handshake) (s : State), s.zheacLane lane = some n → s.hsOf n (zHsId
    words) = some (g, h) → h.initiator = false → h.phase = .installedSent → s.finishOk words (some h.mine.length) = true →
    ∃ t, exec (.finishRx lane words) s = .next t ∧
      Sent.zheac g 4 n h.hsId false [] h.installed 0 ∈ t.sent ∧ (t.zgroup g).hs = some h) ∧
  (∀ (lane : Fin 16) (words : List Word) (n g : Nat) (h : Handshake) (s : State), s.zheacLane lane = some n → s.hsOf n (zHsId
    words) = some (g, h) → h.initiator = true → h.phase = .finishSent → h.peerInstalled = none → h.derived = false →
    s.installedOk words (some h.mine.length) = true →
    ∃ t, exec (.installedRx lane words) s = .next t ∧
      (t.zgroup g).hs.map (fun d => d.peerInstalled) = some (some (zBitmap words 5 h.mine.length))) ∧
  (∀ (lane : Fin 16) (words : List Word) (n g : Nat) (h : Handshake) (s : State), s.zheacLane lane = some n → s.hsOf n (zHsId
    words) = some (g, h) → h.initiator = false → h.phase = .installedSent → h.mine = [] → s.zheacStreams g = [] → s.installedOk
    words (some 0) = true →
    ∃ t, exec (.installedRx lane words) s = .next t ∧
      (t.zgroup g).state = .keyed ∧ (t.zgroup g).hs = none ∧ (t.zgroup g).ok = satInc 18 (s.zgroup g).ok ∧ (t.zgroup g).consec =
        0) ∧
  (∀ (lane : Fin 16) (words : List Word) (n g : Nat) (h : Handshake) (s : State), s.zheacLane lane = some n → s.hsOf n (zHsId
    words) = some (g, h) → s.refuseOk words = true → (wordAt words 5).toNat ≠ zrLane →
    ∃ t, exec (.refuseRx lane words) s = .next t ∧
      (t.zgroup g).state = .backoff ∧ (t.zgroup g).hs = none ∧ (t.zgroup g).lastReason = (wordAt words 5).toNat ∧ (t.zgroup
        g).failedCount = satInc 18 (s.zgroup g).failedCount)

/-- R291, R292, R295, R298 to R302 and Tables 12.4 and 12.7: steps and timers. The states name an ephemeral that is drawn and
not yet generated, so that no draw of the DRBG comes in between. -/
def Obligations.HandshakeStepsComplete : Prop :=
  (∀ (group : Fin 16) (h : Handshake) (s : State), (s.zgroup group).hs = some h → (h.phase = .helloSent ∨ h.phase = .finishSent
    ∧ h.peerInstalled = none ∨ h.phase = .installedSent) → h.sends < 3 →
    ∃ t, exec (.handshakeRetransmit group) s = .next t ∧
      (t.zgroup group).hs.map (fun d => d.sends) = some (h.sends + 1) ∧ t.now = max s.now (h.sentAt + ms 20)) ∧
  (∀ (group : Fin 16) (h : Handshake) (s : State), (s.zgroup group).hs = some h → (h.phase = .helloSent ∨ h.phase = .finishSent
    ∧ h.peerInstalled = none ∨ h.phase = .installedSent) → 3 ≤ h.sends →
    ∃ t, exec (.handshakeRetransmit group) s = .next t ∧
      (t.zgroup group).state = .backoff ∧ (t.zgroup group).hs = none ∧ (t.zgroup group).lastReason = zrTimeout) ∧
  (∀ (group : Fin 16) (h : Handshake) (s : State), (s.zgroup group).hs = some h → h.phase = .replySent →
    ∃ t, exec (.finishWaitTimeout group) s = .next t ∧
      (t.zgroup group).state = .backoff ∧ (t.zgroup group).hs = none ∧ (t.zgroup group).lastReason = zrTimeout ∧ t.now = max
        s.now (h.sentAt + ms 70)) ∧
  (∀ (j : PkJob) (k : Nat) (s : State), s.zheac.running = some j → j.op = .generate → (s.zgroup j.group).eph = some k →
    (s.zgroup j.group).ephReady = false → (s.zgroup j.group).hs = none →
    ∃ t, exec .pkOperationDone s = .next t ∧
      (t.zgroup j.group).ephReady = true ∧ (t.zgroup j.group).ephPub = ((s.lookup (slotZheacEph k)).map p384.pub).getD 0) ∧
  (∀ (j : PkJob) (h : Handshake) (s : State), s.zheac.running = some j → j.op = .verify → (s.zgroup j.group).hs = some h →
    h.number = j.number → h.phase = .verifying → s.peerVerifies h = true →
    ∃ t, exec .pkOperationDone s = .next t ∧
      (t.zgroup j.group).hs.map (fun d => d.phase) = some (if h.initiator then .ecdh else .keysPending) ∧ (h.initiator = false →
        t.keys.derivations.getLast? = some (.link j.group) ∧ (t.zgroup j.group).eph = none)) ∧
  (∀ (j : PkJob) (h : Handshake) (s : State), s.zheac.running = some j → j.op = .verify → (s.zgroup j.group).hs = some h →
    h.number = j.number → h.phase = .verifying → s.peerVerifies h = false →
    ∃ t, exec .pkOperationDone s = .next t ∧
      (t.zgroup j.group).state = .backoff ∧ (t.zgroup j.group).lastReason = zrIdentity) ∧
  (∀ (j : PkJob) (h : Handshake) (d : Nat) (s : State), s.zheac.running = some j → j.op = .ecdh → (s.zgroup j.group).hs = some h
    → h.number = j.number → h.phase = .ecdh → s.ephKey j.group = some d → s.drbgServes = true →
    ∃ t, exec .pkOperationDone s = .next t ∧
      (t.zgroup j.group).hs.map (fun e => (e.phase, e.z)) = some (.signing, p384.ecdh d h.peerEph)) ∧
  (∀ (j : PkJob) (h : Handshake) (d : Nat) (s : State), s.zheac.running = some j → j.op = .sign → (s.zgroup j.group).hs = some h
    → h.number = j.number → h.phase = .signing → s.lookup slotZheacId = some d →
    ∃ t, exec .pkOperationDone s = .next t ∧
      (t.zgroup j.group).hs.map (fun e => (e.phase, e.sends)) = some (if h.initiator then .finishSent else .replySent, 1) ∧
        (h.initiator = true → t.keys.derivations.getLast? = some (.link j.group))) ∧
  (∀ (group : Fin 16) (h : Handshake) (s : State), (s.zgroup group).hs = some h → s.keys.derivations.head? = some (.link
    group.val) → h.initiator = true → h.peerInstalled = none →
    ∃ t, exec (.linkKeysDerived group) s = .next t ∧
      (t.zgroup group).hs.map (fun d => d.derived) = some true ∧ t.keys.derivations = s.keys.derivations.tail) ∧
  (∀ (group : Fin 16) (h : Handshake) (s : State), (s.zgroup group).hs = some h → s.keys.derivations.head? = some (.link
    group.val) → h.initiator = false → h.theirs = [] →
    ∃ t, exec (.linkKeysDerived group) s = .next t ∧
      (t.zgroup group).hs.map (fun d => (d.phase, d.sends)) = some (.installedSent, 1) ∧ t.keys.derivations =
        s.keys.derivations.tail) ∧
  (∀ (group : Fin 16) (k : Nat) (s : State), (s.zgroup group).state = .backoff → (s.zgroup group).hs = none → (s.zgroup
    group).startOut = true → (s.zgroup group).eph = some k → (s.zgroup group).ephReady = false → s.groupUpLane group ≠ none →
    ∃ t, exec (.backoffExpiry group) s = .next t ∧
      (t.zgroup group).state = .active ∧ (t.zgroup group).hs.map (fun d => (d.initiator, d.myStart)) = some (true, true) ∧ t.now
        = max s.now (s.zgroup group).backoffUntil) ∧
  (∀ (group : Fin 16) (k : Nat) (s : State), (s.zgroup group).state = .settle → (s.zgroup group).hs = none → (s.zgroup
    group).startOut = true → (s.zgroup group).eph = some k → (s.zgroup group).ephReady = false → s.groupUpLane group ≠ none →
    ∃ t, exec (.settleExpiry group) s = .next t ∧
      (t.zgroup group).state = .active ∧ (t.zgroup group).hs.map (fun d => (d.initiator, d.myStart)) = some (true, true) ∧ t.now
        = max s.now (s.zgroup group).settleUntil) ∧
  (∀ (group : Fin 16) (k x : Nat) (s : State), (s.zgroup group).state = .keyed → (s.zgroup group).hs = none → (s.zgroup
    group).startOut = false → (s.zgroup group).eph = some k → (s.zgroup group).ephReady = false → s.groupUpLane group ≠ none →
    s.zheacStreams group = [x] → State.listable (s.txStream x) = true → s.txKeyed x = true → s.canInstall (slotTx x
    (State.nextAn (s.txStream x))) = true →
    ∃ t, exec (.rekeyDue group) s = .next t ∧
      (t.zgroup group).state = .active ∧ (t.zgroup group).hs.map (fun d => (d.initiator, d.mine)) = some (true,
        [{ an := State.nextAn (s.txStream x), stream := x }]))

/-- R430 to R438, R451 and Table 17.3: the sessions of Signpost, on the M-port and on a tenant's path. -/
def Obligations.SessionsComplete : Prop :=
  (∀ (lane : Option (Fin 16)) (bytes : List Byte) (n : Nat) (rest : List Nat) (s : State), s.spTakes lane bytes none 0o01 = true
    → s.locked none = false → s.openVerifies none (spMessage none bytes) = true → openBodyOk (spBody (spText (spMessage none
    bytes))) = true → s.drbgServes = true → s.operFree = n :: rest → n < 32 → s.canInstall (slotOperSession n) = true →
    ∃ t, exec (.signpostOpen lane bytes) s = .next t ∧
      (tabGet {} t.sp.oper n).state = .opening ∧ (tabGet {} t.sp.oper n).until_ = s.now + secs 1 ∧ t.keyValid (slotOperSession
        n) = true ∧ Sent.openReply none (frameSa (bytesOf bytes)) 0 n ∈ t.sent) ∧
  (∀ (lane : Option (Fin 16)) (bytes : List Byte) (u : Nat) (s : State), s.spTakes lane bytes (some u) 0o01 = true → s.locked
    (some u) = false → s.openVerifies (some u) (spMessage (some u) bytes) = true → openBodyOk (spBody (spText (spMessage (some
    u) bytes))) = true → s.drbgServes = true → u < 16 → (s.slot (slotTenSession u)).state ≠ .fault → s.keys.defective.contains
    (slotTenSession u) = false → s.registerDestroying = false →
    ∃ t, exec (.signpostOpen lane bytes) s = .next t ∧
      (tabGet {} t.sp.ten u).state = .opening ∧ (tabGet {} t.sp.ten u).until_ = s.now + secs 1 ∧ t.keyValid (slotTenSession u) =
        true ∧ Sent.openReply (some u) (frameSa (bytesOf bytes)) 0 u ∈ t.sent) ∧
  (∀ (lane : Option (Fin 16)) (bytes : List Byte) (p : Option Nat) (s : State), s.spTakes lane bytes p 0o01 = true → s.locked p
    = false → s.openVerifies p (spMessage p bytes) = false →
    ∃ t, exec (.signpostOpen lane bytes) s = .next t ∧
      t.sp.authFails = satInc 18 s.sp.authFails ∧ t.sp.oper = s.sp.oper ∧ t.sp.ten = s.sp.ten) ∧
  (∀ (lane : Option (Fin 16)) (bytes : List Byte) (p : Option Nat) (s : State), s.spTakes lane bytes p 0o01 = true → s.locked p
    = true →
    ∃ t, exec (.signpostOpen lane bytes) s = .next t ∧
      t.sp.openFails = satInc 18 s.sp.openFails ∧ t.sp.oper = s.sp.oper ∧ t.sp.ten = s.sp.ten) ∧
  (∀ (lane : Option (Fin 16)) (bytes : List Byte) (p : Option Nat) (v : Session) (body : List Nat) (s : State), s.spTakes lane
    bytes p 0o03 = true → s.session? (State.frameCaller p (spMessage p bytes)) = some v → v.state = .opened → s.now < v.until_ →
    s.requestOpens p (spMessage p bytes) = some body → v.busy = false → v.rxSeq < spSeq (spMessage p bytes) → requestForm body =
    true →
    ∃ t, exec (.request lane bytes) s = .next t ∧
      t.session? (State.frameCaller p (spMessage p bytes)) = some
        { v with rxSeq := spSeq (spMessage p bytes), rxTag := spTag (spMessage p bytes), busy := true, until_ := s.now + secs s.sessionIdle }) ∧
  (∀ (lane : Option (Fin 16)) (bytes : List Byte) (p : Option Nat) (v : Session) (body : List Nat) (s : State), s.spTakes lane
    bytes p 0o03 = true → s.session? (State.frameCaller p (spMessage p bytes)) = some v → v.state = .opening → s.now < v.until_
    → s.requestOpens p (spMessage p bytes) = some body → spSeq (spMessage p bytes) = 1 → requestForm body = true →
    ∃ t, exec (.request lane bytes) s = .next t ∧
      (t.session? (State.frameCaller p (spMessage p bytes))).map (fun d => (d.state, d.busy, d.rxSeq)) = some (.opened, true, 1)) ∧
  (∀ (lane : Option (Fin 16)) (bytes : List Byte) (p : Option Nat) (v : Session) (body : List Nat) (s : State), s.spTakes lane
    bytes p 0o03 = true → s.session? (State.frameCaller p (spMessage p bytes)) = some v → v.state = .opened → s.now < v.until_ →
    s.requestOpens p (spMessage p bytes) = some body → spSeq (spMessage p bytes) < v.rxSeq →
    ∃ t, exec (.request lane bytes) s = .next t ∧
      t.sp.replayed = satInc 18 s.sp.replayed ∧ (t.session? (State.frameCaller p (spMessage p bytes))).map (fun d => d.rxSeq) =
        some v.rxSeq) ∧
  (∀ (lane : Option (Fin 16)) (bytes : List Byte) (p : Option Nat) (v : Session) (s : State), s.spTakes lane bytes p 0o03 = true
    → s.session? (State.frameCaller p (spMessage p bytes)) = some v → v.state ≠ .idle → s.now < v.until_ → s.requestOpens p
    (spMessage p bytes) = none →
    ∃ t, exec (.request lane bytes) s = .next t ∧
      t.sp.authFails = satInc 18 s.sp.authFails ∧ t.session? (State.frameCaller p (spMessage p bytes)) = some v) ∧
  (∀ (lane : Option (Fin 16)) (bytes : List Byte) (s : State), s.spTakes lane bytes none 0o07 = true → s.plainAllowed (bits
    ((spBody (spText (spMessage none bytes))).headD 0) 17 12) = true → requestForm (spBody (spText (spMessage none bytes))) =
    true →
    ∃ t, exec (.plainRequest lane bytes) s = .next t ∧
      t.sp = { s.sp with plainSeq := spSeq (spMessage none bytes), plainPeer := frameSa (bytesOf bytes) }) ∧
  (∀ (lane : Option (Fin 16)) (bytes : List Byte) (s : State), s.spTakes lane bytes none 0o07 = true → s.plainAllowed (bits
    ((spBody (spText (spMessage none bytes))).headD 0) 17 12) = false →
    ∃ t, exec (.plainRequest lane bytes) s = .next t ∧
      t.answers .plain (bits ((spBody (spText (spMessage none bytes))).headD 0) 17 12) 0o05 [] = true ∧ t.sp.notPermitted =
        satInc 18 s.sp.notPermitted) ∧
  (∀ (c : Caller) (v : Session) (s : State), s.session? c = some v → v.state = .opening →
    ∃ t, exec (.openingTimeout c) s = .next t ∧
      t.session? c = some {} ∧ t.now = max s.now v.until_) ∧
  (∀ (c : Caller) (v : Session) (s : State), s.session? c = some v → v.state = .opened →
    ∃ t, exec (.sessionIdleTimeout c) s = .next t ∧
      t.session? c = some {} ∧ t.now = max s.now v.until_) ∧
  (∀ (tenant : Option (Fin 16)) (e : Nat) (rest : List (Nat × Nat)) (s : State), s.sp.locks = (State.pathNo tenant, e) :: rest →
    ∃ t, exec (.authLockExpiry tenant) s = .next t ∧
      t.sp.locks = rest ∧ t.now = max s.now e) ∧
  (∀ (r : VerbCall) (s : State), r.caller ≠ .plain → s.mayAct r none = true →
    ∃ t, exec (.close r) s = .next t ∧
      t.answers r.caller 0o21 0 [] = true ∧ t.session? r.caller = some {})

/-- R307, R440, R444, R447, R448: verbs of the operator that reach Zheac, the Tollhouse, a port, or the reports held. -/
def Obligations.OperatorVerbsComplete : Prop :=
  (∀ (args : List Word) (n : Fin 32) (s : State), s.callerOpen (.operator n) = true → 1 ≤ args.length → args.length ≤ 253 → bits
    (wordAt args 0).toNat 11 0 = 0 →
    ∃ t, exec (.thCommand { caller := .operator n, cond := none } args) s = .next t ∧
      t.sp.thWaiting = s.sp.thWaiting ++ [(n.val, s.nextHostSeq, s.now + secs 1)] ∧ t.cway.outstanding = s.cway.outstanding ++
        [(s.nextHostSeq, .thCommand s.nextHostSeq args)] ∧ t.cway.nextHostSeq = s.nextHostSeq % 262143 + 1) ∧
  (∀ (r : VerbCall) (hostSeq : Word) (x : Nat) (rest : List (Nat × Option Nat)) (s : State), s.mayAct r none = true →
    State.isOperator r.caller = true → s.sp.results = (hostSeq.toNat, some x) :: rest →
    ∃ t, exec (.thResult r hostSeq) s = .next t ∧
      t.answers r.caller 0o15 0 [BitVec.ofNat 18 (fld 17 12 x)] = true) ∧
  (∀ (r : VerbCall) (hostSeq : Word) (rest : List (Nat × Option Nat)) (s : State), s.mayAct r none = true → State.isOperator
    r.caller = true → s.sp.results = (hostSeq.toNat, none) :: rest →
    ∃ t, exec (.thResult r hostSeq) s = .next t ∧
      t.answers r.caller 0o15 0o16 [] = true) ∧
  (∀ (a0 : Word) (n : Fin 32) (s : State), s.callerOpen (.operator n) = true → s.linked = true → bits a0.toNat 17 14 ≤ 9 → bits
    a0.toNat 13 3 = 0 → (bits a0.toNat 2 0 = 1 ∨ bits a0.toNat 2 0 = 2) →
    ∃ t, exec (.portCommand { caller := .operator n, cond := none } a0) s = .next t ∧
      t.sp.portWaiting = s.sp.portWaiting ++ [(n.val, bits a0.toNat 17 14, bits a0.toNat 2 0)] ∧ t.holds .down .state (fun m =>
        decide (m = .portCmd (bits a0.toNat 17 14) none (bits a0.toNat 2 0))) = true) ∧
  (∀ (r : VerbCall) (first count : Word) (s : State), s.mayAct r none = true → State.isOperator r.caller = true → 1 ≤
    count.toNat → first.toNat + count.toNat ≤ 17 →
    ∃ t, exec (.tableRead r 0o11 first count) s = .next t ∧
      t.answers r.caller 0o04 0 ((List.range (8 * count.toNat)).map (fun i => BitVec.ofNat 18 (zheacRecord s (first.toNat + i /
        8) (i % 8)))) = true) ∧
  (∀ (r : VerbCall) (position : BitVec 36) (count : Word) (s : State), s.mayAct r none = true → State.isOperator r.caller = true
    → 1 ≤ count.toNat → count.toNat ≤ 14 → s.cway.reports = [] → s.cway.reportCount + 1 ≤ position.toNat →
    ∃ t, exec (.exportReports r position count) s = .next t ∧
      t.answers r.caller 0o16 0 (wide 2 position.toNat ++ [0]) = true) ∧
  (∀ (r : VerbCall) (position : BitVec 36) (count : Word) (w : List Nat) (s : State), s.mayAct r none = true → State.isOperator
    r.caller = true → 1 ≤ count.toNat → count.toNat ≤ 14 → s.cway.reports = [w] → s.cway.reportCount = position.toNat →
    ∃ t, exec (.exportReports r position count) s = .next t ∧
      t.answers r.caller 0o16 0 (wide 2 (position.toNat + 1) ++ [0] ++ (w.map (BitVec.ofNat 18) ++ [0, 0])) = true)

/-- R391 to R396 and Table 16.2: supply and clock of the Tollhouse die. -/
def Obligations.TollhouseSupplyAndClockComplete : Prop :=
  (∀ (onVbat : Bool) (s : State), s.isN = false → s.toll.powered = false →
    ∃ t, exec (.thPowerOnReset onVbat) s = .next t ∧
      t.toll.powered = true ∧ t.toll.booted = false ∧ t.toll.onBackup = onVbat ∧ t.toll.metro = s.toll.metro ∧ t.toll.points =
        s.toll.points ∧ t.toll.results = []) ∧
  (∀ s : State, s.toll.powered = true → s.toll.booted = false → s.toll.bootedOnce = true → s.toll.metro ≠ .blank →
    ∃ t, exec (.thSelfCheckDone none) s = .next t ∧
      t.toll.booted = true ∧ t.toll.metro = .unverified ∧ t.toll.timeBase = secs s.toll.savedTime ∧ t.toll.timeAt = s.now) ∧
  (∀ (k : Fin 3) (s : State), s.toll.powered = true → s.toll.booted = false →
    ∃ t, exec (.thSelfCheckDone (some k)) s = .next t ∧
      t.toll.booted = true ∧ t.toll.metro = .halted) ∧
  (∀ (mv : Word) (s : State), s.toll.booted = true → s.toll.powered = true → s.toll.onBackup = false →
    ∃ t, exec (.thSwitchToVbat mv) s = .next t ∧
      t.toll.onBackup = true ∧ t.toll.vbatMv = mv.toNat ∧ t.toll.holdSince = none) ∧
  (∀ (mv : Word) (s : State), s.toll.booted = true → s.toll.onBackup = true →
    ∃ t, exec (.thReturnToVt33 mv) s = .next t ∧
      t.toll.onBackup = false ∧ t.toll.vbatMv = mv.toNat) ∧
  (∀ s : State, ∃ t, exec .thSupplyLoss s = .next t ∧
      t.toll = { s.toll with powered := false, booted := false, onBackup := false, holdSince := none }) ∧
  (∀ (mv : Word) (s : State), s.toll.booted = true → 3100 ≤ mv.toNat →
    ∃ t, exec (.vbatMeasurement mv) s = .next t ∧
      t.toll = { s.toll with measuredAt := t.now, vbatMv := mv.toNat, batLow := false } ∧ t.now = max s.now (s.toll.measuredAt +
        secs 60)) ∧
  (∀ (mv : Word) (s : State), s.toll.booted = true → s.toll.onBackup = true → mv.toNat < 3100 → s.toll.metro = .verified →
    ∃ t, exec (.vbatMeasurement mv) s = .next t ∧
      t.toll.batLow = true ∧ t.toll.metro = .unverified ∧ t.toll.unvCause = s.toll.unvCause ||| 2) ∧
  (∀ s : State, s.toll.booted = true → s.toll.clockFault = false → s.toll.metro = .verified →
    ∃ t, exec .crystalStopped s = .next t ∧
      t.toll.clockFault = true ∧ t.toll.metro = .unverified ∧ t.toll.unvCause = s.toll.unvCause ||| 1) ∧
  (∀ s : State, ∃ t, exec .crystalResumed s = .next t ∧
      t.toll = { s.toll with clockFault := false }) ∧
  (∀ s : State, s.toll.booted = true →
    ∃ t, exec (.timeSave true) s = .next t ∧
      t.toll = { s.toll with savedTime := t.legalTime, savedAt := t.now } ∧ t.now = max s.now (s.toll.savedAt + secs 60)) ∧
  (∀ s : State, s.toll.booted = true → s.toll.metro ≠ .halted →
    ∃ t, exec (.timeSave false) s = .next t ∧
      t.toll.metro = .halted) ∧
  (∀ s : State, s.toll.booted = true → s.toll.stopped = false →
    ∃ t, exec .timeRangeEnd s = .next t ∧
      t.toll.stopped = true ∧ t.toll.timeBase = secs timeEnd ∧ t.now = max s.now (s.whenLegal timeEnd))

/-- R398 to R400 and Table 16.3: seal, key and custody. -/
def Obligations.SealKeyAndCustodyComplete : Prop :=
  (∀ s : State, s.toll.booted = true → s.toll.sealClosed = true → s.toll.metro = .verified →
    ∃ t, exec .sealLoopOpen s = .next t ∧
      t.toll.sealClosed = false ∧ t.toll.metro = .unverified ∧ t.toll.unvCause = s.toll.unvCause ||| 8) ∧
  (∀ s : State, s.toll.booted = true → s.toll.sealClosed = false → s.toll.metro = .custody → s.toll.verifyMark = true →
    s.toll.authority ≠ none → s.logUnacked + 3 < 8192 →
    ∃ t, exec .sealLoopClosed s = .next t ∧
      t.toll.sealClosed = true ∧ t.toll.metro = .verified ∧ t.toll.unvCause = 0 ∧ t.toll.verifyMark = false) ∧
  (∀ s : State, s.toll.booted = true → s.toll.sealClosed = false → s.toll.metro = .custody → s.toll.verifyMark = false →
    ∃ t, exec .sealLoopClosed s = .next t ∧
      t.toll.sealClosed = true ∧ t.toll.metro = .unverified) ∧
  (∀ s : State, s.toll.booted = true → s.toll.keyHeld = false → s.toll.sealClosed = true → s.toll.metro = .verified →
    ∃ t, exec .thKeyPress s = .next t ∧
      t.toll.keyHeld = true ∧ t.toll.metro = .unverified ∧ t.toll.unvCause = s.toll.unvCause ||| 4) ∧
  (∀ s : State, s.toll.booted = true → s.toll.keyHeld = false → s.toll.sealClosed = false → s.toll.onBackup = false →
    ∃ t, exec .thKeyPress s = .next t ∧
      t.toll = { s.toll with keyHeld := true, holdSince := some s.now }) ∧
  (∀ s : State, ∃ t, exec .thKeyRelease s = .next t ∧
      t.toll = { s.toll with keyHeld := false, holdSince := none }) ∧
  (∀ (x : Nat) (s : State), s.toll.holdSince = some x → s.toll.metro ≠ .halted →
    ∃ t, exec .custodyOpen s = .next t ∧
      t.toll.metro = .custody ∧ t.toll.holdSince = none ∧ t.now = max s.now (x + secs 2) ∧ t.toll.custodyEnd = t.now + secs 1800) ∧
  (∀ s : State, s.toll.booted = true → s.toll.metro = .custody →
    ∃ t, exec .custodyTimeout s = .next t ∧
      t.toll.metro = .unverified ∧ t.now = max s.now s.toll.custodyEnd)

/-- R397, R399, R401, R402, R406, R412 and Table 16.4: each command as the Tollhouse executes it. -/
def Obligations.TollhouseCommandsComplete : Prop :=
  (∀ (n : Nat) (w : List Word) (s : State), s.thTakes n w = true → cmdOf w = 0o01 → w.length = 1 → setField w 0 11 0 = 0 →
    s.toll.metro ≠ .halted →
    ∃ t, exec .thReadIdent s = .next t ∧
      t.thAnswered (.thCommand n w) 0 = true ∧ t.toll.thSeq = s.toll.thSeq % 262143 + 1 ∧ t.toll.kept = s.toll.kept ++
        [.windowWrite t.toll.thSeq 0 identityBlock]) ∧
  (∀ (n : Nat) (w : List Word) (s : State), s.thTakes n w = true → cmdOf w = 0o02 → w.length = 2 → setField w 0 11 0 = 0 →
    s.toll.metro ≠ .halted → s.toll.metro ≠ .blank → setField w 1 17 12 = 0 →
    ∃ t, exec .thReadPoint s = .next t ∧
      t.thAnswered (.thCommand n w) 0 = true ∧ t.toll.kept = s.toll.kept ++ [.windowWrite t.toll.thSeq 0o200 (pointPage
        (setField w 1 11 0) (s.point (setField w 1 11 0)))]) ∧
  (∀ (n : Nat) (w : List Word) (s : State), s.thTakes n w = true → cmdOf w = 0o03 → w.length = 3 → setField w 0 11 0 = 0 →
    s.toll.metro ≠ .halted → s.toll.metro ≠ .blank → tabGet [] s.toll.ring (setWide w 1 2 % 65536) ≠ [] → setWide (tabGet []
    s.toll.ring (setWide w 1 2 % 65536)) 1 2 = setWide w 1 2 →
    ∃ t, exec (.thReadRecord true) s = .next t ∧
      t.thAnswered (.thCommand n w) 0 = true ∧ t.free = s.free + 1 ∧ t.toll.kept = s.toll.kept ++ [.windowWrite t.toll.thSeq
        0o200 (tabGet [] s.toll.ring (setWide w 1 2 % 65536) ++ (s.tollSign (tabGet [] s.toll.ring (setWide w 1 2 % 65536))).1)]) ∧
  (∀ (n : Nat) (w : List Word) (s : State), s.thTakes n w = true → cmdOf w = 0o04 → w.length = 2 → setField w 0 11 0 = 0 → 1 ≤
    (ofTwos 18 (setField w 1 17 0)).natAbs → (ofTwos 18 (setField w 1 17 0)).natAbs ≤ 30 → s.toll.adjustedAt.all (fun x => x +
    secs 86400 ≤ s.now) = true → (s.toll.metro = .verified ∨ s.toll.metro = .unverified) →
    ∃ t, exec .thAdjustTime s = .next t ∧
      t.thAnswered (.thCommand n w) 0 = true ∧ t.toll.adjustedAt = some s.now ∧ t.toll.timeAt = s.now ∧ t.toll.timeBase = min
        ((s.legalCycles : Int) + ofTwos 18 (setField w 1 17 0) * (secs 1 : Int)).toNat (secs timeEnd)) ∧
  (∀ (n : Nat) (w : List Word) (s : State), s.thTakes n w = true → cmdOf w = 0o05 → w.length = 2 → setField w 0 11 0 = 0 →
    s.toll.metro ≠ .halted → s.toll.metro ≠ .blank → setField w 1 17 12 = 0 →
    ∃ t, exec .thDemandReset s = .next t ∧
      t.thAnswered (.thCommand n w) 0 = true ∧ (t.point (setField w 1 11 0)).peak = 0 ∧ (t.point (setField w 1 11 0)).regs =
        (s.point (setField w 1 11 0)).regs) ∧
  (∀ (n : Nat) (w : List Word) (s : State), s.thTakes n w = true → cmdOf w = 0o05 → w.length = 2 → setField w 0 11 0 = 0 →
    s.toll.metro ≠ .halted → s.toll.metro ≠ .blank → setField w 1 17 17 = 1 → setField w 1 16 12 = 0 →
    ∃ t, exec .thDemandReset s = .next t ∧
      t.thAnswered (.thCommand n w) 0 = true ∧ ∀ p, (t.point p).peak = 0) ∧
  (∀ (n : Nat) (w : List Word) (s : State), s.thTakes n w = true → cmdOf w = 0o10 → w.length = 3 → setField w 0 11 0 = 0 →
    s.toll.metro = .custody → s.logFull = false → setField w 2 0 0 = 0 → validDate (2000 + setField w 1 17 9) (setField w 1 8 5)
    (setField w 1 4 0) (setField w 2 17 13) (setField w 2 12 7) (setField w 2 6 1) = true →
    ∃ t, exec .thSetTime s = .next t ∧
      t.thAnswered (.thCommand n w) 0 = true ∧ t.toll.timeAt = s.now ∧ t.toll.timeBase = secs (timeOf (2000 + setField w 1 17 9)
        (setField w 1 8 5) (setField w 1 4 0) (setField w 2 17 13) (setField w 2 12 7) (setField w 2 6 1))) ∧
  (∀ (n : Nat) (w : List Word) (s : State), s.thTakes n w = true → cmdOf w = 0o11 → w.length = 2 → setField w 0 11 0 = 0 →
    s.toll.metro = .custody → s.logFull = false → (ofTwos 18 (setField w 1 17 0)).natAbs ≤ 20000 →
    ∃ t, exec .thSetCal s = .next t ∧
      t.thAnswered (.thCommand n w) 0 = true ∧ t.toll.cal = ofTwos 18 (setField w 1 17 0)) ∧
  (∀ (n : Nat) (w : List Word) (s : State), s.thTakes n w = true → cmdOf w = 0o12 → w.length = 2 → setField w 0 11 0 = 0 →
    s.toll.metro = .custody → s.logFull = false → setField w 1 15 0 = 0 → setField w 1 17 16 ≤ 2 → setField w 1 17 16 ≠
    s.toll.interval →
    ∃ t, exec .thSetInterval s = .next t ∧
      t.thAnswered (.thCommand n w) 0 = true ∧ t.toll.pendInterval = some (setField w 1 17 16, (s.legalTime / 3600 + 1) * 3600)
        ∧ t.toll.interval = s.toll.interval) ∧
  (∀ (n : Nat) (w : List Word) (s : State), s.thTakes n w = true → cmdOf w = 0o13 → w.length = 30 → setField w 0 11 0 = 0 →
    s.toll.metro = .custody → s.logFull = false → setField w 1 17 8 = 0 →
    ∃ t, exec .thInstallAuthority s = .next t ∧
      t.thAnswered (.thCommand n w) 0 = true ∧ t.toll.authority = some (setWide w 1 29)) ∧
  (∀ (n : Nat) (w : List Word) (s : State), s.thTakes n w = true → cmdOf w = 0o14 → w.length = 50 → setField w 0 11 0 = 0 →
    s.toll.metro = .custody → s.logFull = false → setField w 1 17 8 = 0 →
    ∃ t, exec .thInstallMeterKey s = .next t ∧
      (∀ key, openMeterKey (setWide w 1 29) (w.drop 30) = some key → t.thAnswered (.thCommand n w) 0 = true ∧ t.toll.meterKey =
        some key) ∧ (openMeterKey (setWide w 1 29) (w.drop 30) = none → t.thAnswered (.thCommand n w) 4 = true ∧ t.toll.meterKey
        = s.toll.meterKey)) ∧
  (∀ (n : Nat) (w : List Word) (s : State), s.thTakes n w = true → cmdOf w = 0o15 → w.length = 1 → setField w 0 11 0 = 0 →
    s.toll.metro = .custody → s.logFull = false →
    ∃ t, exec .thVerify s = .next t ∧
      t.thAnswered (.thCommand n w) 0 = true ∧ t.toll.verifyMark = true) ∧
  (∀ (n : Nat) (w : List Word) (s : State), s.thTakes n w = true → cmdOf w = 0o16 → w.length = 1 → setField w 0 11 0 = 0 →
    s.toll.metro = .custody → s.logFull = false →
    ∃ t, exec .thCloseCustody s = .next t ∧
      t.thAnswered (.thCommand n w) 0 = true ∧ t.toll.metro = .unverified ∧ t.toll.verifyMark = false)

/-- R403, R406, R409 to R411, R414, R415, R419, R420, R427: metering as its events change it. -/
def Obligations.MeteringCompletes : Prop :=
  (∀ (n : Nat) (w0 : Word) (w : List Word) (s : State), s.arrives .thDown .legal (.legalParams n (w0 :: w)) = true →
    s.toll.results.any (fun e => decide (e.1 = .legalParams n (w0 :: w))) = false → s.toll.metro ≠ .halted → bits w0.toNat 5 3 =
    0 → 0 < bits w0.toNat 2 0 →
    ∃ t, exec .legalParamsRx s = .next t ∧
      t.thAnswered (.legalParams n (w0 :: w)) 0 = true ∧ tabGet none t.toll.assembly (bits w0.toNat 17 6) = some
        { next := 1, last := bits w0.toNat 2 0, words := w }) ∧
  (∀ (n : Nat) (w : List Word) (s : State), s.arrives .thDown .legal (.legalParams n w) = true → s.toll.results.any (fun e =>
    decide (e.1 = .legalParams n w)) = false → s.toll.metro = .halted →
    ∃ t, exec .legalParamsRx s = .next t ∧
      t.thAnswered (.legalParams n w) 6 = true ∧ t.toll.assembly = s.toll.assembly) ∧
  (∀ (n : Nat) (w0 : Word) (w : List Word) (s : State), s.arrives .thDown .legal (.legalParams n (w0 :: w)) = true →
    s.toll.results.any (fun e => decide (e.1 = .legalParams n (w0 :: w))) = false → s.toll.metro ≠ .halted → 0 < bits w0.toNat 5
    3 → tabGet none s.toll.assembly (bits w0.toNat 17 6) = none →
    ∃ t, exec .legalParamsRx s = .next t ∧
      t.thAnswered (.legalParams n (w0 :: w)) 0o13 = true ∧ tabGet none t.toll.assembly (bits w0.toNat 17 6) = none) ∧
  (∀ (code hour : Nat) (s : State), s.toll.booted = true → s.toll.pendInterval = some (code, hour) → s.toll.changeDue = true →
    ∃ t, exec .intervalChangeApply s = .next t ∧
      t.toll.interval = code ∧ t.toll.pendInterval = none ∧ t.toll.changeDue = false) ∧
  (∀ (input : Fin 8) (p : Nat) (s : State), s.metering = true → s.pointsWith (fun w => setSource w = 1 && setInput w =
    input.val) = [p] →
    ∃ t, exec (.pulseCount input) s = .next t ∧
      tabGet 0 (t.point p).regs (s.point p).tariff = min (tabGet 0 (s.point p).regs (s.point p).tariff + setConstant (s.point
        p).set) regMax ∧ (t.point p).cur = min ((s.point p).cur + setConstant (s.point p).set) regMax) ∧
  (∀ (input : Fin 4) (code : Word) (p : Nat) (s : State), s.metering = true → s.toll.onBackup = false → s.pointsWith (fun w =>
    setSource w = 2 && setInput w = input.val) = [p] → 36 * 262144 ≤ 250 * code.toNat → 250 * code.toNat ≤ 210 * 262144 →
    setLowCut (s.point p).set * (16 * 262144) ≤ (25 * code.toNat - 4 * 262144) * 1000 →
    ∃ t, exec (.analogueSample input code) s = .next t ∧
      (t.point p).fraction = ((s.point p).fraction + (25 * code.toNat - 4 * 262144) * setConstant (s.point p).set) % flowUnit ∧
        (t.point p).cur = min ((s.point p).cur + ((s.point p).fraction + (25 * code.toNat - 4 * 262144) * setConstant (s.point
        p).set) / flowUnit) regMax) ∧
  (∀ (x y : Nat) (b : List Nat) (s : State), s.arrives .thDown .legal (.meterSection x y b) = true →
    ∃ t, exec .meterSectionRx s = .next t ∧
      t.toll.arrived = s.toll.arrived ++ [.meterSection x y b]) ∧
  (∀ s : State, s.toll.booted = true →
    ∃ t, exec .meteringTick s = .next t ∧
      t.toll.arrived = [] ∧ t.now = max s.now ((s.now / (secs 1 / 32) + 1) * (secs 1 / 32))) ∧
  (∀ s : State, s.toll.booted = true → s.toll.stopped = false → s.toll.changeDue = false → s.toll.curStart + s.intervalLen ≤
    timeEnd →
    ∃ t, exec .intervalBoundary s = .next t ∧
      t.toll.curStart = s.toll.curStart + s.intervalLen ∧ t.now = max s.now (s.whenLegal (s.toll.curStart + s.intervalLen))) ∧
  (∀ (before rest : List TollReport) (r : TollReport) (s : State), s.toll.reports = before ++ r :: rest → before.all (fun x =>
    !x.signature.isEmpty) = true → r.signature = [] → s.tollOnVt = true →
    ∃ t, exec .reportSigned s = .next t ∧
      t.toll.reports = before ++ { r with signature := (s.tollSign r.words).1, seq := s.toll.thSeq % 262143 + 1 } :: rest ∧
        t.free = s.free + 1 ∧ t.toll.kept = s.toll.kept ++ [.logEntry (s.toll.thSeq % 262143 + 1) (r.words ++ (s.tollSign
        r.words).1)]) ∧
  (∀ s : State, s.wayOpen .thUp = true → statusKey s.statusBlock ≠ s.toll.statusSent →
    ∃ t, exec .statusWindowRefresh s = .next t ∧
      t.toll.statusSent = statusKey s.statusBlock ∧ t.toll.statusAt = s.now ∧ t.toll.kept = s.toll.kept ++ [.windowWrite
        t.toll.thSeq 0o100 s.statusBlock]) ∧
  (∀ s : State, s.wayOpen .thUp = true → statusKey s.statusBlock = s.toll.statusSent →
    ∃ t, exec .statusWindowRefresh s = .next t ∧
      t.now = max s.now (s.toll.statusAt + secs 1) ∧ t.toll.statusAt = t.now ∧ t.toll.kept.length = s.toll.kept.length + 1) ∧
  (∀ s : State, s.tollOnVt = true →
    ∃ t, exec .displayCycle s = .next t ∧
      (∃ lines, Sent.display s.toll.metro.code s.legalTime lines ∈ t.sent))

/-- R345 to R349, R420, R447: the Tollhouse link and what the host takes from it. -/
def Obligations.LegalMessagesComplete : Prop :=
  (∀ (n : Nat) (m : Msg) (rest : List Msg) (s : State), s.arrives .thDown .legal (.thAck n) = true → s.toll.kept = m :: rest →
    msgSeq m = n →
    ∃ t, exec .thAckRx s = .next t ∧
      t.toll.kept = rest) ∧
  (∀ (m : Msg) (s : State), s.arrives .down .legal m = true → s.isN = false →
    ∃ t, exec (.linkMessageRelay true none .good) s = .next t ∧
      t.holds .thDown .legal (fun x => decide (x = m)) = true) ∧
  (∀ (m : Msg) (s : State), s.arrives .thUp .legal m = true →
    ∃ t, exec (.linkMessageRelay false none .good) s = .next t ∧
      t.holds .up .legal (fun x => decide (x = m)) = true) ∧
  (∀ (dir : Bool) (ty : BitVec 6) (s : State), mayCross dir ty.toNat = false → s.vergeRuns = true → s.isN = false → s.linked =
    true →
    ∃ t, exec (.linkMessageRelay dir (some ty) .good) s = .next t ∧
      t.holds .up .state
        (fun m => match m with | .stateUpdate u _ evs => decide (u = 0o13) && evs.contains (0o131007, ty.toNat) | _ => false) =
        true ∧ t.cway.thBlocked = s.cway.thBlocked) ∧
  (∀ (dir : Bool) (ty : BitVec 6) (s : State), mayCross dir ty.toNat = false → s.vergeRuns = true → s.isN = false → s.linked =
    false →
    ∃ t, exec (.linkMessageRelay dir (some ty) .good) s = .next t ∧
      t.verge.events = s.verge.events ++ [(0o13, 0o131007, ty.toNat)] ∧ t.cway = s.cway) ∧
  (∀ s : State, s.verge.thLink = true →
    ∃ t, exec .thLinkHeartbeatTimeout s = .next t ∧
      t.verge.thLink = false ∧ (t.chan .thUp .legal) = {}) ∧
  (∀ s : State, s.isN = false → s.verge.thLink = false → s.tollOnVt = true → s.vergeRuns = true →
    ∃ t, exec .tollhouseLinkUp s = .next t ∧
      t.verge.thLink = true ∧ t.toll.kept.head? = some (.thHello (s.toll.thSeq % 262143 + 1) identityBlock)) ∧
  (∀ (n off : Nat) (w : List Word) (s : State), s.arrives .up .legal (.windowWrite n off w) = true → s.cway.taken.contains n =
    false →
    ∃ t, exec (.windowWriteRx .good) s = .next t ∧
      t.cway.thLast = n ∧ (∀ i ∈ List.range w.length, off + i < 1024 → tabGet 0 t.cway.window (off + i) = (wordAt w i).toNat) ∧
        t.holds .down .legal (fun m => decide (m = .thAck n)) = true) ∧
  (∀ (n : Nat) (w : List Word) (s : State), s.arrives .up .legal (.logEntry n w) = true → s.cway.taken.contains n = false →
    ∃ t, exec (.logEntryRx .good) s = .next t ∧
      t.cway.thLast = n ∧ t.cway.reportCount = s.cway.reportCount + 1 ∧ t.cway.reports.head? = some (n :: w.map BitVec.toNat) ∧
        t.holds .down .legal (fun m => decide (m = .thAck n)) = true) ∧
  (∀ (n : Nat) (w : List Word) (s : State), s.arrives .up .legal (.thHello n w) = true → s.isN = false → s.cway.taken.contains n
    = false →
    ∃ t, exec (.thHelloRx .good) s = .next t ∧
      t.cway.th = 1 ∧ t.cway.thLast = n ∧ t.holds .down .legal (fun m => decide (m = .thAck n)) = true) ∧
  (∀ (n x e : Nat) (k : Fin 32) (rest : List (Nat × Nat × Nat)) (s : State), s.arrives .up .legal (.thReply n x) = true →
    s.sp.thWaiting = (k.val, n, e) :: rest → s.callerOpen (.operator k) = true →
    ∃ t, exec (.thReplyRx .good) s = .next t ∧
      t.answers (.operator k) 0o14 0 [BitVec.ofNat 18 n, BitVec.ofNat 18 (fld 17 12 x)] = true ∧ t.cway.outstanding =
        s.cway.outstanding.filter (fun o => decide (o.1 ≠ n))) ∧
  (∀ (n e : Nat) (session : Fin 32) (rest : List (Nat × Nat × Nat)) (s : State), s.sp.thWaiting = (session.val, n, e) :: rest →
    s.callerOpen (.operator session) = true →
    ∃ t, exec (.thCommandWaitTimeout session) s = .next t ∧
      t.answers (.operator session) 0o14 0o16 [BitVec.ofNat 18 n] = true ∧ t.now = max s.now e)

/-- R441 to R444: the verbs READ and WRITE over the register map. A WRITE of the word of KEY_SEL, 0o006005, is spelt out. -/
def Obligations.ReadAndWriteComplete : Prop :=
  (∀ (r : VerbCall) (address count : Word) (s : State), s.mayAct r none = true → s.reads r.caller address.toNat count.toNat =
    true → 1 ≤ count.toNat → count.toNat ≤ 640 → address.toNat + count.toNat ≤ 2 ^ 18 →
    ∃ t, exec (.read r address count) s = .next t ∧
      t.answers r.caller 0o01 0 ((List.range count.toNat).map (fun i => BitVec.ofNat 18 (readWord s (address.toNat + i)))) =
        true) ∧
  (∀ (r : VerbCall) (address count : Word) (s : State), s.mayAct r none = true → s.reads r.caller address.toNat count.toNat =
    true → (count.toNat = 0 ∨ 640 < count.toNat ∨ 2 ^ 18 < address.toNat + count.toNat) →
    ∃ t, exec (.read r address count) s = .next t ∧
      t.answers r.caller 0o01 0o03 [] = true) ∧
  (∀ (r : VerbCall) (address count : Word) (s : State), s.callerOpen r.caller = true → s.reads r.caller address.toNat
    count.toNat = false →
    ∃ t, exec (.read r address count) s = .next t ∧
      t.answers r.caller 0o01 0o05 [] = true ∧ t.sp.notPermitted = satInc 18 s.sp.notPermitted) ∧
  (∀ (n : Fin 32) (address : Word) (words : List Word) (s : State), s.callerOpen (.operator n) = true → 1 ≤ words.length →
    words.length ≤ 16 → address.toNat + words.length ≤ 2 ^ 18 → s.firstRefused address.toNat words = none →
    ∃ t, exec (.write { caller := .operator n, cond := none } address words) s = .next t ∧
      t.answers (.operator n) 0o02 0 [] = true ∧ t.mile.win = (s.clear.writeWords address.toNat words).mile.win ∧ t.keys.slotSel
        = (s.clear.writeWords address.toNat words).keys.slotSel ∧ t.pins.railWarn = (s.clear.writeWords address.toNat
        words).pins.railWarn ∧ t.tp.qsel = (s.clear.writeWords address.toNat words).tp.qsel ∧ t.link.streamSel =
        (s.clear.writeWords address.toNat words).link.streamSel ∧ t.stn.sel = (s.clear.writeWords address.toNat words).stn.sel ∧
        t.alarm.p1 = (s.clear.writeWords address.toNat words).alarm.p1) ∧
  (∀ (n : Fin 32) (value : Word) (s : State), s.callerOpen (.operator n) = true → bits value.toNat 16 0 < 69632 →
    ∃ t, exec (.write { caller := .operator n, cond := none } 0o006005 [value]) s = .next t ∧
      t.answers (.operator n) 0o02 0 [] = true ∧ t.keys.slotSel = bits value.toNat 16 0) ∧
  (∀ (n : Fin 32) (address : Word) (words : List Word) (st i : Nat) (s : State), s.callerOpen (.operator n) = true → 1 ≤
    words.length → words.length ≤ 16 → address.toNat + words.length ≤ 2 ^ 18 → s.firstRefused address.toNat words = some (st, i)
    →
    ∃ t, exec (.write { caller := .operator n, cond := none } address words) s = .next t ∧
      t.answers (.operator n) 0o02 st [BitVec.ofNat 18 i] = true ∧ t.sp.unusedWrites = satInc 36 s.sp.unusedWrites ∧ t.tp = s.tp
        ∧ t.link = s.link ∧ t.way = s.way ∧ t.stn = s.stn ∧ t.pins = s.pins)

/-- R462, R463: the commands of the alarm unit. -/
def Obligations.AlarmCommandsComplete : Prop :=
  (∀ (r : VerbCall) (a0 : BitVec 16) (event kn : Word) (s : State), s.mayAct r none = true → State.isOperator r.caller = true →
    a0.toNat < 64 → (s.alarmEntry a0.toNat).state ≠ .free → (s.alarmEntry a0.toNat).event = event.toNat → fld 17 14
    (s.alarmEntry a0.toNat).kind + fld 13 0 (s.alarmEntry a0.toNat).number = kn.toNat → s.keys.defective = [] →
    ∃ t, exec (.alarmAckEntry r a0 event kn) s = .next t ∧
      t.answers r.caller 0o17 0 [if entryUnack (s.alarmEntry a0.toNat) then 1 else 0] = true ∧ t.alarmEntry a0.toNat =
        entryAcked (s.alarmEntry a0.toNat)) ∧
  (∀ (r : VerbCall) (a0 : BitVec 16) (s : State), s.mayAct r none = true → State.isOperator r.caller = true → bits a0.toNat 12 0
    = 0 → 2 ≤ bits a0.toNat 15 13 → bits a0.toNat 15 13 ≤ 5 → s.keys.defective = [] →
    ∃ t, exec (.alarmAckClass r a0) s = .next t ∧
      t.answers r.caller 0o17 0 [BitVec.ofNat 18 ((List.range 64).filter (fun i => entryUnack (s.alarmEntry i) && decide
        (evClass (s.alarmEntry i).event = bits a0.toNat 15 13))).length] = true ∧ (∀ i ∈ List.range 64, evClass (s.alarmEntry
        i).event = bits a0.toNat 15 13 → t.alarmEntry i = entryAcked (s.alarmEntry i))) ∧
  (∀ (r : VerbCall) (s : State), s.mayAct r none = true → State.isOperator r.caller = true → s.keys.defective = [] →
    ∃ t, exec (.alarmAckAll r) s = .next t ∧
      t.answers r.caller 0o17 0 [BitVec.ofNat 18 ((List.range 64).filter (fun i => entryUnack (s.alarmEntry i))).length] = true
        ∧ t.alarm.overflow = false ∧ (∀ i ∈ List.range 64, t.alarmEntry i = entryAcked (s.alarmEntry i))) ∧
  (∀ (x : Nat) (s : State), s.alarm.alertHold = some x → (s.start.outcome = .running ∨ s.start.outcome = .held) → s.alertCause =
    false →
    ∃ t, exec .alertHoldExpiry s = .next t ∧
      t.now = max s.now (x + ms 1) ∧ t.alarm.entries = s.alarm.entries ∧ t.alarm.alertLow = false ∧ t.alarm.alertHold = none) ∧
  (∀ (x : Nat) (s : State), s.alarm.alertHold = some x → s.alertCause = true →
    ∃ t, exec .alertHoldExpiry s = .next t ∧
      t.now = max s.now (x + ms 1) ∧ t.alarm.entries = s.alarm.entries ∧ t.alarm.alertLow = true)

/-- R473, R479 to R481: Milepost as its commands change it. -/
def Obligations.MilepostCommandsComplete : Prop :=
  (∀ (r : VerbCall) (block : Fin 36) (counter : Fin 32) (value : Word) (s : State), s.mayAct r none = true → State.isOperator
    r.caller = true → fixedCounter block counter = false → eventListed block (selEvent (fld 17 8 (value.toNat / 2 ^ 8))) = true
    → selChain (fld 17 8 (value.toNat / 2 ^ 8)) = false →
    ∃ t, exec (.milepostSelWrite r block counter value) s = .next t ∧
      t.answers r.caller 0o02 0 [] = true ∧ t.mileSel (32 * block.val + counter.val) = fld 17 8 (value.toNat / 2 ^ 8)) ∧
  (∀ (r : VerbCall) (block : Fin 36) (counter : Fin 32) (value : Word) (s : State), s.mayAct r none = true → State.isOperator
    r.caller = true → (fixedCounter block counter = true ∨ eventListed block (selEvent (fld 17 8 (value.toNat / 2 ^ 8))) =
    false) →
    ∃ t, exec (.milepostSelWrite r block counter value) s = .next t ∧
      t.answers r.caller 0o02 0o03 [0] = true ∧ t.mile.sel = s.mile.sel) ∧
  (∀ (r : VerbCall) (block : Fin 36) (counter : Fin 32) (value : Word) (s : State), s.mayAct r none = true → State.isOperator
    r.caller = true → ¬(16 ≤ block.val ∧ block.val ≤ 23 ∧ 16 ≤ counter.val) →
    ∃ t, exec (.threshWrite r block counter value) s = .next t ∧
      t.answers r.caller 0o02 0 [] = true ∧ tabGet 0 t.mile.thresh (32 * block.val + counter.val) = value.toNat) ∧
  (∀ (x : Nat) (s : State), s.mile.began = some x → s.mile.copying = none → s.mile.run = true →
    ∃ t, exec .windowBoundary s = .next t ∧
      t.now = max s.now (x + us (100 * s.mile.winNow)) ∧ t.mile.began = some t.now ∧ t.mile.seq = s.mile.seq % 262143 + 1 ∧
        t.mile.copying.map (fun c => (c.seq, c.short)) = some (s.mile.seq % 262143 + 1, false)) ∧
  (∀ (r : VerbCall) (x : Nat) (s : State), s.mayAct r none = true → State.isOperator r.caller = true → s.mile.began = some x →
    s.mile.copying = none → s.mile.run = true →
    ∃ t, exec (.snapNow r) s = .next t ∧
      t.answers r.caller 0o02 0 [] = true ∧ t.mile.began = some s.now ∧ t.mile.seq = s.mile.seq % 262143 + 1 ∧
        t.mile.copying.map (fun c => (c.seq, c.short)) = some (s.mile.seq % 262143 + 1, true)) ∧
  (∀ (r : VerbCall) (on : Bool) (s : State), s.mayAct r none = true → State.isOperator r.caller = true → s.mile.copying = none →
    s.mile.later = [] →
    ∃ t, exec (.runWrite r on) s = .next t ∧
      t.answers r.caller 0o02 0 [] = true ∧ t.mile.run = on) ∧
  (∀ (r : VerbCall) (value : Word) (s : State), s.mayAct r none = true → State.isOperator r.caller = true → value ≠ 0 →
    ∃ t, exec (.win100usWrite r value) s = .next t ∧
      t.answers r.caller 0o02 0 [] = true ∧ t.mile.win = value.toNat ∧ t.mile.winNow = s.mile.winNow) ∧
  (∀ (c : Snapshot) (s : State), s.mile.copying = some c → s.mile.later = [] →
    ∃ t, exec .snapshotCopyDone s = .next t ∧
      t.mile = { s.mile with ring := tabPut none s.mile.ring (c.seq % 8) (some c), lastSeq := c.seq, copying := none })

/-- R483, R484, R487: the settings of Waymark. -/
def Obligations.WaymarkCommandsComplete : Prop :=
  (∀ (r : VerbCall) (value : Word) (s : State), s.mayAct r none = true → State.isOperator r.caller = true → 2 ^ bits value.toNat
    15 12 ≤ s.way.set.rate →
    ∃ t, exec (.waymarkControlWrite r value) s = .next t ∧
      t.answers r.caller 0o02 0 [] = true ∧ t.way.en = value.toNat.testBit 17 ∧ t.way.stopWhenFull = value.toNat.testBit 16 ∧
        t.way.set = { s.way.set with dither := bits value.toNat 15 12 }) ∧
  (∀ (r : VerbCall) (value : Word) (s : State), s.mayAct r none = true → State.isOperator r.caller = true → value ≠ 0 → 2 ^
    s.way.set.dither ≤ value.toNat →
    ∃ t, exec (.waymarkRateWrite r value) s = .next t ∧
      t.answers r.caller 0o02 0 [] = true ∧ t.way = { s.way with set := { s.way.set with rate := value.toNat } }) ∧
  (∀ (r : VerbCall) (value : Word) (s : State), s.mayAct r none = true → State.isOperator r.caller = true → (bits value.toNat 17
    16 = 1 → bits value.toNat 13 0 < 16) → (bits value.toNat 17 16 = 2 → bits value.toNat 13 0 < 18) →
    ∃ t, exec (.waymarkFilterWrite r value) s = .next t ∧
      t.answers r.caller 0o02 0 [] = true ∧ t.way =
        { s.way with set := { s.way.set with kind := bits value.toNat 17 16, val := bits value.toNat 13 0 } }) ∧
  (∀ (r : VerbCall) (s : State), s.mayAct r none = true → State.isOperator r.caller = true →
    ∃ t, exec (.waymarkClear r) s = .next t ∧
      t.answers r.caller 0o02 0 [] = true ∧ t.way = { s.way with wrIndex := 0, full := false, stopped := false })

/-- R448, R496 to R500: the Trip Recorder as its commands change it. -/
def Obligations.TripCommandsComplete : Prop :=
  (∀ (r : VerbCall) (s : State), s.mayAct r none = true → State.isOperator r.caller = true → (s.trip.state = .off ∨ s.trip.state
    = .frozen) → s.memReady = true → s.tripMode = 1 →
    ∃ t, exec (.arm r true) s = .next t ∧
      t.answers r.caller 0o02 0 [] = true ∧ t.trip.arm = true ∧ t.trip.run = (s.trip.run + 1) % 2 ^ 18 ∧ t.trip.state ≠ .off) ∧
  (∀ (r : VerbCall) (s : State), s.mayAct r none = true → State.isOperator r.caller = true → s.trip.state = .recording →
    ∃ t, exec (.arm r false) s = .next t ∧
      t.answers r.caller 0o02 0 [] = true ∧ t.trip.arm = false ∧ t.trip.state = .freezing ∧ t.trip.cause = 3) ∧
  (∀ (r : VerbCall) (s : State), s.mayAct r none = true → State.isOperator r.caller = true → s.trip.state = .recording →
    ∃ t, exec (.freezeNow r) s = .next t ∧
      t.answers r.caller 0o02 0 [] = true ∧ t.trip.arm = s.trip.arm ∧ t.trip.state = .freezing ∧ t.trip.cause = 3) ∧
  (∀ s : State, s.trip.state = .freezing → s.trip.stopAt ≤ s.trip.blockSeq →
    ∃ t, exec .postBlocksWritten s = .next t ∧
      t.trip = { s.trip with state := .frozen, cur := [], records := 0 }) ∧
  (∀ s : State, s.trip.state = .recording → s.tp.queues.all (fun e => decide (State.held e.2 .spill = 0)) = true →
    ∃ t, exec .baseCapture s = .next t ∧
      t.now = max s.now (s.trip.capturedAt + secs (bits (s.tripWord 1) 17 6)) ∧ t.trip.capturedAt = t.now) ∧
  (∀ s : State, s.trip.state = .recording →
    ∃ t, exec .checkpointCapture s = .next t ∧
      t.now = max s.now s.trip.checkDue ∧ t.trip.checks = satInc 36 s.trip.checks ∧ t.trip.checkDue = s.trip.checkDue + ms
        (s.tripWord 2)) ∧
  (∀ s : State, s.trip.state = .recording → s.trip.lost ≠ 0 →
    ∃ t, exec .gapRecord s = .next t ∧
      t.trip.gaps = satInc 18 s.trip.gaps) ∧
  (∀ (r : VerbCall) (position : BitVec 36) (count : Word) (s : State), s.mayAct r none = true → State.isOperator r.caller = true
    → 1 ≤ count.toNat → count.toNat ≤ 640 → s.mem.quarantined = false → s.start.memState ≠ .unavailable → 1792 * s.trip.blockSeq
    ≤ position.toNat →
    ∃ t, exec (.exportJournal r position count) s = .next t ∧
      t.answers r.caller 0o16 0 ((wideWords 2 position.toNat).map (BitVec.ofNat 18) ++ [0]) = true) ∧
  (∀ (r : VerbCall) (position : BitVec 36) (count : Word) (s : State), s.mayAct r none = true → State.isOperator r.caller = true
    → 1 ≤ count.toNat → count.toNat ≤ 640 → s.mem.quarantined = false → s.start.memState ≠ .unavailable → 1792 * s.oldestBlock ≤
    position.toNat → position.toNat + count.toNat ≤ 1792 * s.trip.blockSeq →
    ∃ t, exec (.exportJournal r position count) s = .next t ∧
      t.answers r.caller 0o16 0 ((wideWords 2 ((position.toNat + count.toNat) % 2 ^ 36)).map (BitVec.ofNat 18) ++ [0] ++
        (List.range count.toNat).map (fun i => BitVec.ofNat 18 (s.journalWord (position.toNat + i)))) = true)

/-- R503 to R506: replay on an ANALYSIS unit. `goSpan` says what GO finds in region 17 (R504). -/
def Obligations.ReplayCompletes : Prop :=
  (∀ (r : VerbCall) (s : State), s.mayAct r none = true → State.isOperator r.caller = true →
    ∃ t, exec (.go r) s = .next t ∧
      t.answers r.caller 0o02 0 [] = true ∧ (∀ reason, s.goSpan = .inl reason → t.trip.result = 4 ∧ t.trip.reason = reason) ∧ (∀
        base rest, s.goSpan = .inr (base, rest) → t.trip.state = .replaying ∧ t.trip.result = 1 ∧ t.trip.reason = 0 ∧
        t.trip.replayTime = base.wide 8 3 ∧ t.trip.replayAt = s.now ∧ t.trip.span = rest)) ∧
  (∀ (r : VerbCall) (s : State), s.mayAct r none = true → State.isOperator r.caller = true → (s.replayMode = false ∨ s.replaying
    = true) →
    ∃ t, exec (.go r) s = .next t ∧
      t.answers r.caller 0o02 0 [] = true ∧ t.trip.result = 4 ∧ t.trip.reason = 5) ∧
  (∀ (e next : TripRec) (rest : List TripRec) (s : State), s.replaying = true → s.trip.span = e :: next :: rest → next.time ≠
    e.time → e.type = 0o21 →
    ∃ t, exec .replayCycle s = .next t ∧
      t.now = max s.now (s.trip.replayAt + (e.time - s.trip.replayTime)) ∧ t.trip.replayPos = e.block ∧ t.trip.span = next ::
        rest ∧ t.trip.state = .replaying) ∧
  (∀ (e : TripRec) (s : State), s.replaying = true → s.trip.span = [e] → e.type = 0o21 →
    ∃ t, exec .replayCycle s = .next t ∧
      t.trip.state = .replayDone ∧ t.trip.result = 2 ∧ t.trip.reason = 0 ∧ t.trip.replayPos = e.block) ∧
  (∀ (e : TripRec) (rest : List TripRec) (s : State), s.replaying = true → s.trip.span = e :: rest → e.type = 0o20 →
    ∃ t, exec .replayCycle s = .next t ∧
      t.trip.state = .replayDone ∧ t.trip.result = 2 ∧ t.trip.reason = 2 ∧ t.trip.replayPos = e.block) ∧
  (∀ (e : TripRec) (s : State), s.replaying = true → s.trip.span = [e] → e.type = 0o06 → (s.lane (bits (e.r 1) 17 14)).state ≠
    laneStateOf (bits (e.r 1) 13 11) →
    ∃ t, exec .replayCycle s = .next t ∧
      (t.lane (bits (e.r 1) 17 14)).state = laneStateOf (bits (e.r 1) 13 11) ∧ (t.lane (bits (e.r 1) 17 14)).cause = bits (e.r
        1) 10 8 ∧ t.trip.state = .replayDone) ∧
  (∀ s : State, s.replaying = false →
    ∃ t, exec .replayCycle s = .next t ∧
      t.trip = s.trip ∧ t.now = s.now)

/-- R518, R519, R522, R523, R527: the progress monitor. The observers count nothing here where that is said, so that the event
is the only one. -/
def Obligations.ProgressMonitorCompletes : Prop :=
  (∀ (queue : Fin 16384) (f : QFrame) (u : Nat) (s : State), s.unitsHeld = false → (s.queue queue).frames.head? = some f →
    s.tenantOfQueue queue = some u → f.eligible = true → ((s.tenant u).state = .healthy ∨ (s.tenant u).state = .degraded) →
    s.exemptNow u queue f = false →
    ∃ t, exec (.progressBoundExceeded queue) s = .next t ∧
      (t.tenant u).faultCause = 2 ∧ (t.tenant u).state = (if s.tenAuto u then .resetting else .faulted) ∧ t.now = max s.now
        (f.since + f.exempt + ns (s.boundTb u (s.qEgress queue)) + 1)) ∧
  (∀ (cls : Fin 4) (s : State), s.unitsHeld = false → s.mile.sel = [] → s.trip.state = .off →
    ∃ t, exec (.fabricBoundExceeded cls) s = .next t ∧
      s.onlyChanges t observers ∧ t.alarm = s.alarmAfter 0o213002 0 0 (fld 17 16 cls.val) false) ∧
  (∀ (lane : Fin 16) (n x : Nat) (s : State), s.unitsHeld = false → s.laneLead lane = some n → heldFrom (s.lane n) = some x →
    (s.lane n).holdReported = false →
    ∃ t, exec (.pauseMaxExceeded lane) s = .next t ∧
      (t.lane n).holdReported = true ∧ t.now = max s.now (x + ms (bits (s.cfg 0o006 0 3) 17 4))) ∧
  (∀ (requester age conflicts : Nat) (s : State), s.unitsHeld = false → (bits (s.cfg 0o006 0 0) 17 6 ≤ age ∨ 3 ≤ conflicts) →
    ∃ t, exec (.requestPromotion requester age conflicts) s = .next t ∧
      (s.now - 2 * age, requester) ∈ t.promoted)

/-- A step takes the command at the front of the queue (first in, first out), runs `exec` on it with the queue's rest, and
answers its outcome. The queue is the model's own (notes/assumptions/1); the commands are the events of every chapter of the
spec. -/
def Obligations.StepRunsTheFrontCommand : Prop :=
  ∀ (c : Instr) (rest : List Instr) (s : State), step { s with pending := c :: rest } = exec c { s with pending := rest }

/-- The model's choice (notes/assumptions/1): with no command waiting a step changes nothing; what happens with time is a
command of its own. -/
def Obligations.EmptyQueueIdles : Prop :=
  ∀ s : State, s.pending = [] → step s = .next s

/-- R82, R56 and the tables of every chapter for happenings that meet: whatever arrives has an outcome, so no command faults
or is refused. -/
def Obligations.EveryCommandCompletes : Prop :=
  ∀ (c : Instr) (s : State), ∃ t, exec c s = .next t

/-- The frame of every command, as R17 (no function of a die is performed on another), R20 and R28 lead one to expect:
`writes` lists, command by command, the parts that it may change. Every other general register, status word, buffer and
counter keeps its value. -/
def Obligations.CommandsChangeOnlyTheirParts : Prop :=
  ∀ (c : Instr) (s t : State), exec c s = .next t →
    s.onlyChanges t (writes c ++ observers) ∧ t.isN = s.isN ∧ t.pending = s.pending

/-- R58, R60, R123, R141 and the columns "Value after start" of the field maps: the block as power comes on. Values that the
spec does not give are the model's choice (notes/assumptions/2 to 5). -/
def Obligations.ResetIsSound : Prop :=
  State.reset.pins.hostRstLow = true ∧ State.reset.start.begun = false ∧ State.reset.verge.vf33Low = true ∧
    State.reset.toll.powered = false ∧ State.reset.otp = [] ∧ State.reset.otpSound = true ∧
    (∀ n, (State.reset.slot n).state = .empty) ∧ (∀ q, (State.reset.queue q).frames = []) ∧
    State.reset.cway.partner = .absent ∧ State.reset.alarm.alertLow = true ∧ State.reset.pending = []

/-- R123, R124, R119, R120: the device blows no fuse outside the regions of Table 5.5 and none in an unused position of a
ladder's word. `otpSound` also says that the words a command is still to write lie there. In the words of a bank every
position counts as used. -/
def Obligations.EveryStepKeepsTheOtpSound : Prop :=
  ∀ s t : State, s.otpSound = true → step s = .next t → t.otpSound = true

/-- R123: a fuse reads 1 once it is blown; no reset, start, command or failure changes that. -/
def Obligations.BlownFusesStayBlown : Prop :=
  ∀ (s t : State) (w bit : Nat), step s = .next t → (s.otpWord w).testBit bit = true → (t.otpWord w).testBit bit = true

/-- R157 (no word in the range reveals a key), for the whole address space: a READ depends on the STATE, KIND and GEN of a
slot (R141), never on the key that it holds. -/
def Obligations.NoWordRevealsAKey : Prop :=
  ∀ (s : State) (a : Nat), readWord s.withoutKeys a = readWord s a

/-- R4: the identity word and where it is readable. The hypotheses say nothing of the life-cycle state, so the clauses hold in
each. -/
def Obligations.IdentityWordIsReadable : Prop :=
  (∀ (r : VerbCall) (s : State), s.mayAct r none = true → s.reads r.caller 0 1 = true →
    ∃ t, exec (.read r 0 1) s = .next t ∧
      t.answers r.caller 0o01 0 [if s.isN then 0o342011 else 0o341011] = true) ∧
  (∀ (n : Fin 32) (s : State), s.reads (.operator n) 0 1 = true) ∧
  (∀ (n : Fin 16) (s : State), s.reads (.tenant n) 0 1 = true) ∧
  (∀ s : State, s.start.begun = true → 2 ≤ s.start.phase →
    (s.start.outcome = .stranded ∨ s.start.outcome = .transitionHalt) → s.reads .plain 0 1 = true)

/-- R174: a start discards the Junction state, the holdover value and HIST. -/
def Obligations.StartDiscardsJunction : Prop :=
  (∀ (lowNs : Nat) (s : State), s.pins.hostRstLow = false → 300 ≤ lowNs →
    ∃ t, exec (.hostRstNAssertion lowNs) s = .next t ∧
      t.jun.state = .freeRun ∧ t.jun.hist = false ∧ t.jun.holdFreq = 0 ∧ t.jun.selected = 0 ∧ t.jun.refs = []) ∧
  (∀ (rail : Fin 7) (fall : RailFall) (capture : PufState) (s : State), 
    ∃ t, exec (.supplyMonitorReset rail fall capture) s = .next t ∧
      t.jun.state = .freeRun ∧ t.jun.hist = false ∧ t.jun.holdFreq = 0 ∧ t.jun.selected = 0 ∧ t.jun.refs = []) ∧
  (∀ (cmd : Nat) (capture : PufState) (s : State), s.cus.running = some (cmd, .bootRecord) → s.norRefuses = false →
    ∃ t, exec (.bootRecordWritten false true capture) s = .next t ∧
      t.jun.state = .freeRun ∧ t.jun.hist = false ∧ t.jun.holdFreq = 0 ∧ t.jun.selected = 0 ∧ t.jun.refs = [])

/-- R110: the release between two presses that open the window. `timing` says that the press is timed, and `armed` that no
press has opened the window since the last that was timed. -/
def Obligations.PressAfterTheWindowNeedsARelease : Prop :=
  (∀ s : State, s.cus.btn = true → s.cus.timing = true → s.cus.jmp = true → s.cus.jmpThroughout = true → s.start.outcome ≠
    .starting →
    ∃ t, exec .windowOpen s = .next t ∧
      t.cus.win = .opened ∧ t.cus.timing = false ∧ t.cus.armed = false) ∧
  (∀ (releasedMs : Nat) (s : State), s.cus.btn = false → s.cus.armed = false → releasedMs < 100 →
    ∃ t, exec (.custBtnPress releasedMs) s = .next t ∧
      t.cus.btn = true ∧ t.cus.timing = false) ∧
  (∀ (releasedMs : Nat) (s : State), s.cus.btn = false → 100 ≤ releasedMs →
    ∃ t, exec (.custBtnPress releasedMs) s = .next t ∧
      t.cus.btn = true ∧ t.cus.timing = true) ∧
  (∀ s : State, s.cus.timing = false →
    ∃ t, exec .windowOpen s = .next t ∧
      t.cus = s.cus)

/-- R124: where the fuses of a rung lie, how a pair reads and is written, and the transitions of the life-cycle rungs. -/
def Obligations.RungsLieAsR124Says : Prop :=
  (Ladder.base .lc = 0 ∧ Ladder.base .image = 2 ∧ Ladder.base .lease = 18) ∧
  (∀ (s : State) (l : Ladder) (k : Nat),
    (s.rungIntent l k = true ↔ (s.otpWord (l.base + (k - 1) / 4)).testBit (4 * ((k - 1) % 4) + 3) = true ∨
      (s.otpWord (l.base + (k - 1) / 4)).testBit (4 * ((k - 1) % 4) + 2) = true) ∧
    (s.rungDone l k = true ↔ (s.otpWord (l.base + (k - 1) / 4)).testBit (4 * ((k - 1) % 4) + 1) = true ∨
      (s.otpWord (l.base + (k - 1) / 4)).testBit (4 * ((k - 1) % 4)) = true)) ∧
  (∀ (s : State) (l : Ladder) (k w bit : Nat) (done : Bool),
    ((s.blowRung l k (if done then 3 else 12)).otpWord w).testBit bit =
      ((s.otpWord w).testBit bit || (decide (w = l.base + (k - 1) / 4) &&
        decide (bit = 4 * ((k - 1) % 4) + (if done then 1 else 3) ∨ bit = 4 * ((k - 1) % 4) + (if done then 0 else 2))))) ∧
  (∀ s : State,
    (s.lcState = .retired ↔ s.rungDone .lc 5 = true) ∧
    (s.lcState = .analysis ↔ s.rungDone .lc 5 = false ∧ s.rungDone .lc 4 = true) ∧
    (s.lcState = .field ↔ s.rungDone .lc 5 = false ∧ s.rungDone .lc 4 = false ∧ s.rungDone .lc 3 = true) ∧
    (s.lcState = .provision ↔ s.rungDone .lc 5 = false ∧ s.rungDone .lc 4 = false ∧ s.rungDone .lc 3 = false ∧
      s.rungDone .lc 2 = true) ∧
    (s.lcState = .test ↔ s.rungDone .lc 5 = false ∧ s.rungDone .lc 4 = false ∧ s.rungDone .lc 3 = false ∧
      s.rungDone .lc 2 = false ∧ s.rungDone .lc 1 = true))
end

