-- ==== Sys2Proof/Laws/State.lean ====
section
/-!
SUPPORT. What the shared updates of the state leave alone: one lemma per part of the state for each of them.
-/

namespace Sys2Proof.Machine.State


@[simp] theorem send_now (s : State) (m : Sent) : (s.send m).now = s.now := by unfold send; rfl
@[simp] theorem send_isN (s : State) (m : Sent) : (s.send m).isN = s.isN := by unfold send; rfl
@[simp] theorem send_free (s : State) (m : Sent) : (s.send m).free = s.free := by unfold send; rfl
@[simp] theorem send_once (s : State) (m : Sent) : (s.send m).once = s.once := by unfold send; rfl
@[simp] theorem send_pins (s : State) (m : Sent) : (s.send m).pins = s.pins := by unfold send; rfl
@[simp] theorem send_start (s : State) (m : Sent) : (s.send m).start = s.start := by unfold send; rfl
@[simp] theorem send_nor (s : State) (m : Sent) : (s.send m).nor = s.nor := by unfold send; rfl
@[simp] theorem send_image (s : State) (m : Sent) : (s.send m).image = s.image := by unfold send; rfl
@[simp] theorem send_cus (s : State) (m : Sent) : (s.send m).cus = s.cus := by unfold send; rfl
@[simp] theorem send_otp (s : State) (m : Sent) : (s.send m).otp = s.otp := by unfold send; rfl
@[simp] theorem send_keys (s : State) (m : Sent) : (s.send m).keys = s.keys := by unfold send; rfl
@[simp] theorem send_trng (s : State) (m : Sent) : (s.send m).trng = s.trng := by unfold send; rfl
@[simp] theorem send_jun (s : State) (m : Sent) : (s.send m).jun = s.jun := by unfold send; rfl
@[simp] theorem send_lanes (s : State) (m : Sent) : (s.send m).lanes = s.lanes := by unfold send; rfl
@[simp] theorem send_tenants (s : State) (m : Sent) : (s.send m).tenants = s.tenants := by unfold send; rfl
@[simp] theorem send_tp (s : State) (m : Sent) : (s.send m).tp = s.tp := by unfold send; rfl
@[simp] theorem send_link (s : State) (m : Sent) : (s.send m).link = s.link := by unfold send; rfl
@[simp] theorem send_zheac (s : State) (m : Sent) : (s.send m).zheac = s.zheac := by unfold send; rfl
@[simp] theorem send_mem (s : State) (m : Sent) : (s.send m).mem = s.mem := by unfold send; rfl
@[simp] theorem send_cway (s : State) (m : Sent) : (s.send m).cway = s.cway := by unfold send; rfl
@[simp] theorem send_verge (s : State) (m : Sent) : (s.send m).verge = s.verge := by unfold send; rfl
@[simp] theorem send_stn (s : State) (m : Sent) : (s.send m).stn = s.stn := by unfold send; rfl
@[simp] theorem send_toll (s : State) (m : Sent) : (s.send m).toll = s.toll := by unfold send; rfl
@[simp] theorem send_alarm (s : State) (m : Sent) : (s.send m).alarm = s.alarm := by unfold send; rfl
@[simp] theorem send_sp (s : State) (m : Sent) : (s.send m).sp = s.sp := by unfold send; rfl
@[simp] theorem send_mile (s : State) (m : Sent) : (s.send m).mile = s.mile := by unfold send; rfl
@[simp] theorem send_way (s : State) (m : Sent) : (s.send m).way = s.way := by unfold send; rfl
@[simp] theorem send_trip (s : State) (m : Sent) : (s.send m).trip = s.trip := by unfold send; rfl
@[simp] theorem send_promoted (s : State) (m : Sent) : (s.send m).promoted = s.promoted := by unfold send; rfl
@[simp] theorem send_notes (s : State) (m : Sent) : (s.send m).notes = s.notes := by unfold send; rfl
@[simp] theorem send_pending (s : State) (m : Sent) : (s.send m).pending = s.pending := by unfold send; rfl

@[simp] theorem note_now (s : State) (n : Note) : (s.note n).now = s.now := by unfold note; rfl
@[simp] theorem note_isN (s : State) (n : Note) : (s.note n).isN = s.isN := by unfold note; rfl
@[simp] theorem note_free (s : State) (n : Note) : (s.note n).free = s.free := by unfold note; rfl
@[simp] theorem note_once (s : State) (n : Note) : (s.note n).once = s.once := by unfold note; rfl
@[simp] theorem note_pins (s : State) (n : Note) : (s.note n).pins = s.pins := by unfold note; rfl
@[simp] theorem note_start (s : State) (n : Note) : (s.note n).start = s.start := by unfold note; rfl
@[simp] theorem note_nor (s : State) (n : Note) : (s.note n).nor = s.nor := by unfold note; rfl
@[simp] theorem note_image (s : State) (n : Note) : (s.note n).image = s.image := by unfold note; rfl
@[simp] theorem note_cus (s : State) (n : Note) : (s.note n).cus = s.cus := by unfold note; rfl
@[simp] theorem note_otp (s : State) (n : Note) : (s.note n).otp = s.otp := by unfold note; rfl
@[simp] theorem note_keys (s : State) (n : Note) : (s.note n).keys = s.keys := by unfold note; rfl
@[simp] theorem note_trng (s : State) (n : Note) : (s.note n).trng = s.trng := by unfold note; rfl
@[simp] theorem note_jun (s : State) (n : Note) : (s.note n).jun = s.jun := by unfold note; rfl
@[simp] theorem note_lanes (s : State) (n : Note) : (s.note n).lanes = s.lanes := by unfold note; rfl
@[simp] theorem note_tenants (s : State) (n : Note) : (s.note n).tenants = s.tenants := by unfold note; rfl
@[simp] theorem note_tp (s : State) (n : Note) : (s.note n).tp = s.tp := by unfold note; rfl
@[simp] theorem note_link (s : State) (n : Note) : (s.note n).link = s.link := by unfold note; rfl
@[simp] theorem note_zheac (s : State) (n : Note) : (s.note n).zheac = s.zheac := by unfold note; rfl
@[simp] theorem note_mem (s : State) (n : Note) : (s.note n).mem = s.mem := by unfold note; rfl
@[simp] theorem note_cway (s : State) (n : Note) : (s.note n).cway = s.cway := by unfold note; rfl
@[simp] theorem note_verge (s : State) (n : Note) : (s.note n).verge = s.verge := by unfold note; rfl
@[simp] theorem note_stn (s : State) (n : Note) : (s.note n).stn = s.stn := by unfold note; rfl
@[simp] theorem note_toll (s : State) (n : Note) : (s.note n).toll = s.toll := by unfold note; rfl
@[simp] theorem note_alarm (s : State) (n : Note) : (s.note n).alarm = s.alarm := by unfold note; rfl
@[simp] theorem note_sp (s : State) (n : Note) : (s.note n).sp = s.sp := by unfold note; rfl
@[simp] theorem note_mile (s : State) (n : Note) : (s.note n).mile = s.mile := by unfold note; rfl
@[simp] theorem note_way (s : State) (n : Note) : (s.note n).way = s.way := by unfold note; rfl
@[simp] theorem note_trip (s : State) (n : Note) : (s.note n).trip = s.trip := by unfold note; rfl
@[simp] theorem note_promoted (s : State) (n : Note) : (s.note n).promoted = s.promoted := by unfold note; rfl
@[simp] theorem note_sent (s : State) (n : Note) : (s.note n).sent = s.sent := by unfold note; rfl
@[simp] theorem note_pending (s : State) (n : Note) : (s.note n).pending = s.pending := by unfold note; rfl

@[simp] theorem occurs_now (s : State) (b c m n : Nat) : (s.occurs b c m n).now = s.now := note_now ..
@[simp] theorem occurs_isN (s : State) (b c m n : Nat) : (s.occurs b c m n).isN = s.isN := note_isN ..
@[simp] theorem occurs_free (s : State) (b c m n : Nat) : (s.occurs b c m n).free = s.free := note_free ..
@[simp] theorem occurs_once (s : State) (b c m n : Nat) : (s.occurs b c m n).once = s.once := note_once ..
@[simp] theorem occurs_pins (s : State) (b c m n : Nat) : (s.occurs b c m n).pins = s.pins := note_pins ..
@[simp] theorem occurs_start (s : State) (b c m n : Nat) : (s.occurs b c m n).start = s.start := note_start ..
@[simp] theorem occurs_nor (s : State) (b c m n : Nat) : (s.occurs b c m n).nor = s.nor := note_nor ..
@[simp] theorem occurs_image (s : State) (b c m n : Nat) : (s.occurs b c m n).image = s.image := note_image ..
@[simp] theorem occurs_cus (s : State) (b c m n : Nat) : (s.occurs b c m n).cus = s.cus := note_cus ..
@[simp] theorem occurs_otp (s : State) (b c m n : Nat) : (s.occurs b c m n).otp = s.otp := note_otp ..
@[simp] theorem occurs_keys (s : State) (b c m n : Nat) : (s.occurs b c m n).keys = s.keys := note_keys ..
@[simp] theorem occurs_trng (s : State) (b c m n : Nat) : (s.occurs b c m n).trng = s.trng := note_trng ..
@[simp] theorem occurs_jun (s : State) (b c m n : Nat) : (s.occurs b c m n).jun = s.jun := note_jun ..
@[simp] theorem occurs_lanes (s : State) (b c m n : Nat) : (s.occurs b c m n).lanes = s.lanes := note_lanes ..
@[simp] theorem occurs_tenants (s : State) (b c m n : Nat) : (s.occurs b c m n).tenants = s.tenants := note_tenants ..
@[simp] theorem occurs_tp (s : State) (b c m n : Nat) : (s.occurs b c m n).tp = s.tp := note_tp ..
@[simp] theorem occurs_link (s : State) (b c m n : Nat) : (s.occurs b c m n).link = s.link := note_link ..
@[simp] theorem occurs_zheac (s : State) (b c m n : Nat) : (s.occurs b c m n).zheac = s.zheac := note_zheac ..
@[simp] theorem occurs_mem (s : State) (b c m n : Nat) : (s.occurs b c m n).mem = s.mem := note_mem ..
@[simp] theorem occurs_cway (s : State) (b c m n : Nat) : (s.occurs b c m n).cway = s.cway := note_cway ..
@[simp] theorem occurs_verge (s : State) (b c m n : Nat) : (s.occurs b c m n).verge = s.verge := note_verge ..
@[simp] theorem occurs_stn (s : State) (b c m n : Nat) : (s.occurs b c m n).stn = s.stn := note_stn ..
@[simp] theorem occurs_toll (s : State) (b c m n : Nat) : (s.occurs b c m n).toll = s.toll := note_toll ..
@[simp] theorem occurs_alarm (s : State) (b c m n : Nat) : (s.occurs b c m n).alarm = s.alarm := note_alarm ..
@[simp] theorem occurs_sp (s : State) (b c m n : Nat) : (s.occurs b c m n).sp = s.sp := note_sp ..
@[simp] theorem occurs_mile (s : State) (b c m n : Nat) : (s.occurs b c m n).mile = s.mile := note_mile ..
@[simp] theorem occurs_way (s : State) (b c m n : Nat) : (s.occurs b c m n).way = s.way := note_way ..
@[simp] theorem occurs_trip (s : State) (b c m n : Nat) : (s.occurs b c m n).trip = s.trip := note_trip ..
@[simp] theorem occurs_promoted (s : State) (b c m n : Nat) : (s.occurs b c m n).promoted = s.promoted := note_promoted ..
@[simp] theorem occurs_sent (s : State) (b c m n : Nat) : (s.occurs b c m n).sent = s.sent := note_sent ..
@[simp] theorem occurs_pending (s : State) (b c m n : Nat) : (s.occurs b c m n).pending = s.pending := note_pending ..

@[simp] theorem occur_now (s : State) (b c : Nat) : (s.occur b c).now = s.now := note_now ..
@[simp] theorem occur_isN (s : State) (b c : Nat) : (s.occur b c).isN = s.isN := note_isN ..
@[simp] theorem occur_free (s : State) (b c : Nat) : (s.occur b c).free = s.free := note_free ..
@[simp] theorem occur_once (s : State) (b c : Nat) : (s.occur b c).once = s.once := note_once ..
@[simp] theorem occur_pins (s : State) (b c : Nat) : (s.occur b c).pins = s.pins := note_pins ..
@[simp] theorem occur_start (s : State) (b c : Nat) : (s.occur b c).start = s.start := note_start ..
@[simp] theorem occur_nor (s : State) (b c : Nat) : (s.occur b c).nor = s.nor := note_nor ..
@[simp] theorem occur_image (s : State) (b c : Nat) : (s.occur b c).image = s.image := note_image ..
@[simp] theorem occur_cus (s : State) (b c : Nat) : (s.occur b c).cus = s.cus := note_cus ..
@[simp] theorem occur_otp (s : State) (b c : Nat) : (s.occur b c).otp = s.otp := note_otp ..
@[simp] theorem occur_keys (s : State) (b c : Nat) : (s.occur b c).keys = s.keys := note_keys ..
@[simp] theorem occur_trng (s : State) (b c : Nat) : (s.occur b c).trng = s.trng := note_trng ..
@[simp] theorem occur_jun (s : State) (b c : Nat) : (s.occur b c).jun = s.jun := note_jun ..
@[simp] theorem occur_lanes (s : State) (b c : Nat) : (s.occur b c).lanes = s.lanes := note_lanes ..
@[simp] theorem occur_tenants (s : State) (b c : Nat) : (s.occur b c).tenants = s.tenants := note_tenants ..
@[simp] theorem occur_tp (s : State) (b c : Nat) : (s.occur b c).tp = s.tp := note_tp ..
@[simp] theorem occur_link (s : State) (b c : Nat) : (s.occur b c).link = s.link := note_link ..
@[simp] theorem occur_zheac (s : State) (b c : Nat) : (s.occur b c).zheac = s.zheac := note_zheac ..
@[simp] theorem occur_mem (s : State) (b c : Nat) : (s.occur b c).mem = s.mem := note_mem ..
@[simp] theorem occur_cway (s : State) (b c : Nat) : (s.occur b c).cway = s.cway := note_cway ..
@[simp] theorem occur_verge (s : State) (b c : Nat) : (s.occur b c).verge = s.verge := note_verge ..
@[simp] theorem occur_stn (s : State) (b c : Nat) : (s.occur b c).stn = s.stn := note_stn ..
@[simp] theorem occur_toll (s : State) (b c : Nat) : (s.occur b c).toll = s.toll := note_toll ..
@[simp] theorem occur_alarm (s : State) (b c : Nat) : (s.occur b c).alarm = s.alarm := note_alarm ..
@[simp] theorem occur_sp (s : State) (b c : Nat) : (s.occur b c).sp = s.sp := note_sp ..
@[simp] theorem occur_mile (s : State) (b c : Nat) : (s.occur b c).mile = s.mile := note_mile ..
@[simp] theorem occur_way (s : State) (b c : Nat) : (s.occur b c).way = s.way := note_way ..
@[simp] theorem occur_trip (s : State) (b c : Nat) : (s.occur b c).trip = s.trip := note_trip ..
@[simp] theorem occur_promoted (s : State) (b c : Nat) : (s.occur b c).promoted = s.promoted := note_promoted ..
@[simp] theorem occur_sent (s : State) (b c : Nat) : (s.occur b c).sent = s.sent := note_sent ..
@[simp] theorem occur_pending (s : State) (b c : Nat) : (s.occur b c).pending = s.pending := note_pending ..

@[simp] theorem settleAlert_now (s : State) : (s.settleAlert).now = s.now := by unfold settleAlert; rfl
@[simp] theorem settleAlert_isN (s : State) : (s.settleAlert).isN = s.isN := by unfold settleAlert; rfl
@[simp] theorem settleAlert_free (s : State) : (s.settleAlert).free = s.free := by unfold settleAlert; rfl
@[simp] theorem settleAlert_once (s : State) : (s.settleAlert).once = s.once := by unfold settleAlert; rfl
@[simp] theorem settleAlert_pins (s : State) : (s.settleAlert).pins = s.pins := by unfold settleAlert; rfl
@[simp] theorem settleAlert_start (s : State) : (s.settleAlert).start = s.start := by unfold settleAlert; rfl
@[simp] theorem settleAlert_nor (s : State) : (s.settleAlert).nor = s.nor := by unfold settleAlert; rfl
@[simp] theorem settleAlert_image (s : State) : (s.settleAlert).image = s.image := by unfold settleAlert; rfl
@[simp] theorem settleAlert_cus (s : State) : (s.settleAlert).cus = s.cus := by unfold settleAlert; rfl
@[simp] theorem settleAlert_otp (s : State) : (s.settleAlert).otp = s.otp := by unfold settleAlert; rfl
@[simp] theorem settleAlert_keys (s : State) : (s.settleAlert).keys = s.keys := by unfold settleAlert; rfl
@[simp] theorem settleAlert_trng (s : State) : (s.settleAlert).trng = s.trng := by unfold settleAlert; rfl
@[simp] theorem settleAlert_jun (s : State) : (s.settleAlert).jun = s.jun := by unfold settleAlert; rfl
@[simp] theorem settleAlert_lanes (s : State) : (s.settleAlert).lanes = s.lanes := by unfold settleAlert; rfl
@[simp] theorem settleAlert_tenants (s : State) : (s.settleAlert).tenants = s.tenants := by unfold settleAlert; rfl
@[simp] theorem settleAlert_tp (s : State) : (s.settleAlert).tp = s.tp := by unfold settleAlert; rfl
@[simp] theorem settleAlert_link (s : State) : (s.settleAlert).link = s.link := by unfold settleAlert; rfl
@[simp] theorem settleAlert_zheac (s : State) : (s.settleAlert).zheac = s.zheac := by unfold settleAlert; rfl
@[simp] theorem settleAlert_mem (s : State) : (s.settleAlert).mem = s.mem := by unfold settleAlert; rfl
@[simp] theorem settleAlert_cway (s : State) : (s.settleAlert).cway = s.cway := by unfold settleAlert; rfl
@[simp] theorem settleAlert_verge (s : State) : (s.settleAlert).verge = s.verge := by unfold settleAlert; rfl
@[simp] theorem settleAlert_stn (s : State) : (s.settleAlert).stn = s.stn := by unfold settleAlert; rfl
@[simp] theorem settleAlert_toll (s : State) : (s.settleAlert).toll = s.toll := by unfold settleAlert; rfl
@[simp] theorem settleAlert_sp (s : State) : (s.settleAlert).sp = s.sp := by unfold settleAlert; rfl
@[simp] theorem settleAlert_mile (s : State) : (s.settleAlert).mile = s.mile := by unfold settleAlert; rfl
@[simp] theorem settleAlert_way (s : State) : (s.settleAlert).way = s.way := by unfold settleAlert; rfl
@[simp] theorem settleAlert_trip (s : State) : (s.settleAlert).trip = s.trip := by unfold settleAlert; rfl
@[simp] theorem settleAlert_promoted (s : State) : (s.settleAlert).promoted = s.promoted := by unfold settleAlert; rfl
@[simp] theorem settleAlert_notes (s : State) : (s.settleAlert).notes = s.notes := by unfold settleAlert; rfl
@[simp] theorem settleAlert_sent (s : State) : (s.settleAlert).sent = s.sent := by unfold settleAlert; rfl
@[simp] theorem settleAlert_pending (s : State) : (s.settleAlert).pending = s.pending := by unfold settleAlert; rfl

@[simp] theorem endAlarm_now (s : State) (e k n : Nat) : (s.endAlarm e k n).now = s.now := by unfold endAlarm; rfl
@[simp] theorem endAlarm_isN (s : State) (e k n : Nat) : (s.endAlarm e k n).isN = s.isN := by unfold endAlarm; rfl
@[simp] theorem endAlarm_free (s : State) (e k n : Nat) : (s.endAlarm e k n).free = s.free := by unfold endAlarm; rfl
@[simp] theorem endAlarm_once (s : State) (e k n : Nat) : (s.endAlarm e k n).once = s.once := by unfold endAlarm; rfl
@[simp] theorem endAlarm_pins (s : State) (e k n : Nat) : (s.endAlarm e k n).pins = s.pins := by unfold endAlarm; rfl
@[simp] theorem endAlarm_start (s : State) (e k n : Nat) : (s.endAlarm e k n).start = s.start := by unfold endAlarm; rfl
@[simp] theorem endAlarm_nor (s : State) (e k n : Nat) : (s.endAlarm e k n).nor = s.nor := by unfold endAlarm; rfl
@[simp] theorem endAlarm_image (s : State) (e k n : Nat) : (s.endAlarm e k n).image = s.image := by unfold endAlarm; rfl
@[simp] theorem endAlarm_cus (s : State) (e k n : Nat) : (s.endAlarm e k n).cus = s.cus := by unfold endAlarm; rfl
@[simp] theorem endAlarm_otp (s : State) (e k n : Nat) : (s.endAlarm e k n).otp = s.otp := by unfold endAlarm; rfl
@[simp] theorem endAlarm_keys (s : State) (e k n : Nat) : (s.endAlarm e k n).keys = s.keys := by unfold endAlarm; rfl
@[simp] theorem endAlarm_trng (s : State) (e k n : Nat) : (s.endAlarm e k n).trng = s.trng := by unfold endAlarm; rfl
@[simp] theorem endAlarm_jun (s : State) (e k n : Nat) : (s.endAlarm e k n).jun = s.jun := by unfold endAlarm; rfl
@[simp] theorem endAlarm_lanes (s : State) (e k n : Nat) : (s.endAlarm e k n).lanes = s.lanes := by unfold endAlarm; rfl
@[simp] theorem endAlarm_tenants (s : State) (e k n : Nat) : (s.endAlarm e k n).tenants = s.tenants := by unfold endAlarm; rfl
@[simp] theorem endAlarm_tp (s : State) (e k n : Nat) : (s.endAlarm e k n).tp = s.tp := by unfold endAlarm; rfl
@[simp] theorem endAlarm_link (s : State) (e k n : Nat) : (s.endAlarm e k n).link = s.link := by unfold endAlarm; rfl
@[simp] theorem endAlarm_zheac (s : State) (e k n : Nat) : (s.endAlarm e k n).zheac = s.zheac := by unfold endAlarm; rfl
@[simp] theorem endAlarm_mem (s : State) (e k n : Nat) : (s.endAlarm e k n).mem = s.mem := by unfold endAlarm; rfl
@[simp] theorem endAlarm_cway (s : State) (e k n : Nat) : (s.endAlarm e k n).cway = s.cway := by unfold endAlarm; rfl
@[simp] theorem endAlarm_verge (s : State) (e k n : Nat) : (s.endAlarm e k n).verge = s.verge := by unfold endAlarm; rfl
@[simp] theorem endAlarm_stn (s : State) (e k n : Nat) : (s.endAlarm e k n).stn = s.stn := by unfold endAlarm; rfl
@[simp] theorem endAlarm_toll (s : State) (e k n : Nat) : (s.endAlarm e k n).toll = s.toll := by unfold endAlarm; rfl
@[simp] theorem endAlarm_sp (s : State) (e k n : Nat) : (s.endAlarm e k n).sp = s.sp := by unfold endAlarm; rfl
@[simp] theorem endAlarm_mile (s : State) (e k n : Nat) : (s.endAlarm e k n).mile = s.mile := by unfold endAlarm; rfl
@[simp] theorem endAlarm_way (s : State) (e k n : Nat) : (s.endAlarm e k n).way = s.way := by unfold endAlarm; rfl
@[simp] theorem endAlarm_trip (s : State) (e k n : Nat) : (s.endAlarm e k n).trip = s.trip := by unfold endAlarm; rfl
@[simp] theorem endAlarm_promoted (s : State) (e k n : Nat) : (s.endAlarm e k n).promoted = s.promoted := by unfold endAlarm; rfl
@[simp] theorem endAlarm_notes (s : State) (e k n : Nat) : (s.endAlarm e k n).notes = s.notes := by unfold endAlarm; rfl
@[simp] theorem endAlarm_sent (s : State) (e k n : Nat) : (s.endAlarm e k n).sent = s.sent := by unfold endAlarm; rfl
@[simp] theorem endAlarm_pending (s : State) (e k n : Nat) : (s.endAlarm e k n).pending = s.pending := by unfold endAlarm; rfl

@[simp] theorem setAlarmEntry_now (s : State) (i : Nat) (v : AlarmEntry) : (s.setAlarmEntry i v).now = s.now := by unfold setAlarmEntry; rfl
@[simp] theorem setAlarmEntry_isN (s : State) (i : Nat) (v : AlarmEntry) : (s.setAlarmEntry i v).isN = s.isN := by unfold setAlarmEntry; rfl
@[simp] theorem setAlarmEntry_free (s : State) (i : Nat) (v : AlarmEntry) : (s.setAlarmEntry i v).free = s.free := by unfold setAlarmEntry; rfl
@[simp] theorem setAlarmEntry_once (s : State) (i : Nat) (v : AlarmEntry) : (s.setAlarmEntry i v).once = s.once := by unfold setAlarmEntry; rfl
@[simp] theorem setAlarmEntry_pins (s : State) (i : Nat) (v : AlarmEntry) : (s.setAlarmEntry i v).pins = s.pins := by unfold setAlarmEntry; rfl
@[simp] theorem setAlarmEntry_start (s : State) (i : Nat) (v : AlarmEntry) : (s.setAlarmEntry i v).start = s.start := by unfold setAlarmEntry; rfl
@[simp] theorem setAlarmEntry_nor (s : State) (i : Nat) (v : AlarmEntry) : (s.setAlarmEntry i v).nor = s.nor := by unfold setAlarmEntry; rfl
@[simp] theorem setAlarmEntry_image (s : State) (i : Nat) (v : AlarmEntry) : (s.setAlarmEntry i v).image = s.image := by unfold setAlarmEntry; rfl
@[simp] theorem setAlarmEntry_cus (s : State) (i : Nat) (v : AlarmEntry) : (s.setAlarmEntry i v).cus = s.cus := by unfold setAlarmEntry; rfl
@[simp] theorem setAlarmEntry_otp (s : State) (i : Nat) (v : AlarmEntry) : (s.setAlarmEntry i v).otp = s.otp := by unfold setAlarmEntry; rfl
@[simp] theorem setAlarmEntry_keys (s : State) (i : Nat) (v : AlarmEntry) : (s.setAlarmEntry i v).keys = s.keys := by unfold setAlarmEntry; rfl
@[simp] theorem setAlarmEntry_trng (s : State) (i : Nat) (v : AlarmEntry) : (s.setAlarmEntry i v).trng = s.trng := by unfold setAlarmEntry; rfl
@[simp] theorem setAlarmEntry_jun (s : State) (i : Nat) (v : AlarmEntry) : (s.setAlarmEntry i v).jun = s.jun := by unfold setAlarmEntry; rfl
@[simp] theorem setAlarmEntry_lanes (s : State) (i : Nat) (v : AlarmEntry) : (s.setAlarmEntry i v).lanes = s.lanes := by unfold setAlarmEntry; rfl
@[simp] theorem setAlarmEntry_tenants (s : State) (i : Nat) (v : AlarmEntry) : (s.setAlarmEntry i v).tenants = s.tenants := by unfold setAlarmEntry; rfl
@[simp] theorem setAlarmEntry_tp (s : State) (i : Nat) (v : AlarmEntry) : (s.setAlarmEntry i v).tp = s.tp := by unfold setAlarmEntry; rfl
@[simp] theorem setAlarmEntry_link (s : State) (i : Nat) (v : AlarmEntry) : (s.setAlarmEntry i v).link = s.link := by unfold setAlarmEntry; rfl
@[simp] theorem setAlarmEntry_zheac (s : State) (i : Nat) (v : AlarmEntry) : (s.setAlarmEntry i v).zheac = s.zheac := by unfold setAlarmEntry; rfl
@[simp] theorem setAlarmEntry_mem (s : State) (i : Nat) (v : AlarmEntry) : (s.setAlarmEntry i v).mem = s.mem := by unfold setAlarmEntry; rfl
@[simp] theorem setAlarmEntry_cway (s : State) (i : Nat) (v : AlarmEntry) : (s.setAlarmEntry i v).cway = s.cway := by unfold setAlarmEntry; rfl
@[simp] theorem setAlarmEntry_verge (s : State) (i : Nat) (v : AlarmEntry) : (s.setAlarmEntry i v).verge = s.verge := by unfold setAlarmEntry; rfl
@[simp] theorem setAlarmEntry_stn (s : State) (i : Nat) (v : AlarmEntry) : (s.setAlarmEntry i v).stn = s.stn := by unfold setAlarmEntry; rfl
@[simp] theorem setAlarmEntry_toll (s : State) (i : Nat) (v : AlarmEntry) : (s.setAlarmEntry i v).toll = s.toll := by unfold setAlarmEntry; rfl
@[simp] theorem setAlarmEntry_sp (s : State) (i : Nat) (v : AlarmEntry) : (s.setAlarmEntry i v).sp = s.sp := by unfold setAlarmEntry; rfl
@[simp] theorem setAlarmEntry_mile (s : State) (i : Nat) (v : AlarmEntry) : (s.setAlarmEntry i v).mile = s.mile := by unfold setAlarmEntry; rfl
@[simp] theorem setAlarmEntry_way (s : State) (i : Nat) (v : AlarmEntry) : (s.setAlarmEntry i v).way = s.way := by unfold setAlarmEntry; rfl
@[simp] theorem setAlarmEntry_trip (s : State) (i : Nat) (v : AlarmEntry) : (s.setAlarmEntry i v).trip = s.trip := by unfold setAlarmEntry; rfl
@[simp] theorem setAlarmEntry_promoted (s : State) (i : Nat) (v : AlarmEntry) : (s.setAlarmEntry i v).promoted = s.promoted := by unfold setAlarmEntry; rfl
@[simp] theorem setAlarmEntry_notes (s : State) (i : Nat) (v : AlarmEntry) : (s.setAlarmEntry i v).notes = s.notes := by unfold setAlarmEntry; rfl
@[simp] theorem setAlarmEntry_sent (s : State) (i : Nat) (v : AlarmEntry) : (s.setAlarmEntry i v).sent = s.sent := by unfold setAlarmEntry; rfl
@[simp] theorem setAlarmEntry_pending (s : State) (i : Nat) (v : AlarmEntry) : (s.setAlarmEntry i v).pending = s.pending := by unfold setAlarmEntry; rfl

@[simp] theorem emitOwn_now (s : State) (e k n a : Nat) : (s.emitOwn e k n a).now = s.now := by unfold emitOwn emitOwnWith; rfl
@[simp] theorem emitOwn_isN (s : State) (e k n a : Nat) : (s.emitOwn e k n a).isN = s.isN := by unfold emitOwn emitOwnWith; rfl
@[simp] theorem emitOwn_free (s : State) (e k n a : Nat) : (s.emitOwn e k n a).free = s.free := by unfold emitOwn emitOwnWith; rfl
@[simp] theorem emitOwn_once (s : State) (e k n a : Nat) : (s.emitOwn e k n a).once = s.once := by unfold emitOwn emitOwnWith; rfl
@[simp] theorem emitOwn_pins (s : State) (e k n a : Nat) : (s.emitOwn e k n a).pins = s.pins := by unfold emitOwn emitOwnWith; rfl
@[simp] theorem emitOwn_start (s : State) (e k n a : Nat) : (s.emitOwn e k n a).start = s.start := by unfold emitOwn emitOwnWith; rfl
@[simp] theorem emitOwn_nor (s : State) (e k n a : Nat) : (s.emitOwn e k n a).nor = s.nor := by unfold emitOwn emitOwnWith; rfl
@[simp] theorem emitOwn_image (s : State) (e k n a : Nat) : (s.emitOwn e k n a).image = s.image := by unfold emitOwn emitOwnWith; rfl
@[simp] theorem emitOwn_cus (s : State) (e k n a : Nat) : (s.emitOwn e k n a).cus = s.cus := by unfold emitOwn emitOwnWith; rfl
@[simp] theorem emitOwn_otp (s : State) (e k n a : Nat) : (s.emitOwn e k n a).otp = s.otp := by unfold emitOwn emitOwnWith; rfl
@[simp] theorem emitOwn_keys (s : State) (e k n a : Nat) : (s.emitOwn e k n a).keys = s.keys := by unfold emitOwn emitOwnWith; rfl
@[simp] theorem emitOwn_trng (s : State) (e k n a : Nat) : (s.emitOwn e k n a).trng = s.trng := by unfold emitOwn emitOwnWith; rfl
@[simp] theorem emitOwn_jun (s : State) (e k n a : Nat) : (s.emitOwn e k n a).jun = s.jun := by unfold emitOwn emitOwnWith; rfl
@[simp] theorem emitOwn_lanes (s : State) (e k n a : Nat) : (s.emitOwn e k n a).lanes = s.lanes := by unfold emitOwn emitOwnWith; rfl
@[simp] theorem emitOwn_tenants (s : State) (e k n a : Nat) : (s.emitOwn e k n a).tenants = s.tenants := by unfold emitOwn emitOwnWith; rfl
@[simp] theorem emitOwn_tp (s : State) (e k n a : Nat) : (s.emitOwn e k n a).tp = s.tp := by unfold emitOwn emitOwnWith; rfl
@[simp] theorem emitOwn_link (s : State) (e k n a : Nat) : (s.emitOwn e k n a).link = s.link := by unfold emitOwn emitOwnWith; rfl
@[simp] theorem emitOwn_zheac (s : State) (e k n a : Nat) : (s.emitOwn e k n a).zheac = s.zheac := by unfold emitOwn emitOwnWith; rfl
@[simp] theorem emitOwn_mem (s : State) (e k n a : Nat) : (s.emitOwn e k n a).mem = s.mem := by unfold emitOwn emitOwnWith; rfl
@[simp] theorem emitOwn_cway (s : State) (e k n a : Nat) : (s.emitOwn e k n a).cway = s.cway := by unfold emitOwn emitOwnWith; rfl
@[simp] theorem emitOwn_verge (s : State) (e k n a : Nat) : (s.emitOwn e k n a).verge = s.verge := by unfold emitOwn emitOwnWith; rfl
@[simp] theorem emitOwn_stn (s : State) (e k n a : Nat) : (s.emitOwn e k n a).stn = s.stn := by unfold emitOwn emitOwnWith; rfl
@[simp] theorem emitOwn_toll (s : State) (e k n a : Nat) : (s.emitOwn e k n a).toll = s.toll := by unfold emitOwn emitOwnWith; rfl
@[simp] theorem emitOwn_sp (s : State) (e k n a : Nat) : (s.emitOwn e k n a).sp = s.sp := by unfold emitOwn emitOwnWith; rfl
@[simp] theorem emitOwn_mile (s : State) (e k n a : Nat) : (s.emitOwn e k n a).mile = s.mile := by unfold emitOwn emitOwnWith; rfl
@[simp] theorem emitOwn_way (s : State) (e k n a : Nat) : (s.emitOwn e k n a).way = s.way := by unfold emitOwn emitOwnWith; rfl
@[simp] theorem emitOwn_trip (s : State) (e k n a : Nat) : (s.emitOwn e k n a).trip = s.trip := by unfold emitOwn emitOwnWith; rfl
@[simp] theorem emitOwn_promoted (s : State) (e k n a : Nat) : (s.emitOwn e k n a).promoted = s.promoted := by unfold emitOwn emitOwnWith; rfl
@[simp] theorem emitOwn_sent (s : State) (e k n a : Nat) : (s.emitOwn e k n a).sent = s.sent := by unfold emitOwn emitOwnWith; rfl
@[simp] theorem emitOwn_pending (s : State) (e k n a : Nat) : (s.emitOwn e k n a).pending = s.pending := by unfold emitOwn emitOwnWith; rfl

@[simp] theorem emitDev_now (s : State) (e : Nat) : (s.emitDev e).now = s.now := by unfold emitDev; exact emitOwn_now s e 0 0 0
@[simp] theorem emitDev_isN (s : State) (e : Nat) : (s.emitDev e).isN = s.isN := by unfold emitDev; exact emitOwn_isN s e 0 0 0
@[simp] theorem emitDev_free (s : State) (e : Nat) : (s.emitDev e).free = s.free := by unfold emitDev; exact emitOwn_free s e 0 0 0
@[simp] theorem emitDev_once (s : State) (e : Nat) : (s.emitDev e).once = s.once := by unfold emitDev; exact emitOwn_once s e 0 0 0
@[simp] theorem emitDev_pins (s : State) (e : Nat) : (s.emitDev e).pins = s.pins := by unfold emitDev; exact emitOwn_pins s e 0 0 0
@[simp] theorem emitDev_start (s : State) (e : Nat) : (s.emitDev e).start = s.start := by unfold emitDev; exact emitOwn_start s e 0 0 0
@[simp] theorem emitDev_nor (s : State) (e : Nat) : (s.emitDev e).nor = s.nor := by unfold emitDev; exact emitOwn_nor s e 0 0 0
@[simp] theorem emitDev_image (s : State) (e : Nat) : (s.emitDev e).image = s.image := by unfold emitDev; exact emitOwn_image s e 0 0 0
@[simp] theorem emitDev_cus (s : State) (e : Nat) : (s.emitDev e).cus = s.cus := by unfold emitDev; exact emitOwn_cus s e 0 0 0
@[simp] theorem emitDev_otp (s : State) (e : Nat) : (s.emitDev e).otp = s.otp := by unfold emitDev; exact emitOwn_otp s e 0 0 0
@[simp] theorem emitDev_keys (s : State) (e : Nat) : (s.emitDev e).keys = s.keys := by unfold emitDev; exact emitOwn_keys s e 0 0 0
@[simp] theorem emitDev_trng (s : State) (e : Nat) : (s.emitDev e).trng = s.trng := by unfold emitDev; exact emitOwn_trng s e 0 0 0
@[simp] theorem emitDev_jun (s : State) (e : Nat) : (s.emitDev e).jun = s.jun := by unfold emitDev; exact emitOwn_jun s e 0 0 0
@[simp] theorem emitDev_lanes (s : State) (e : Nat) : (s.emitDev e).lanes = s.lanes := by unfold emitDev; exact emitOwn_lanes s e 0 0 0
@[simp] theorem emitDev_tenants (s : State) (e : Nat) : (s.emitDev e).tenants = s.tenants := by unfold emitDev; exact emitOwn_tenants s e 0 0 0
@[simp] theorem emitDev_tp (s : State) (e : Nat) : (s.emitDev e).tp = s.tp := by unfold emitDev; exact emitOwn_tp s e 0 0 0
@[simp] theorem emitDev_link (s : State) (e : Nat) : (s.emitDev e).link = s.link := by unfold emitDev; exact emitOwn_link s e 0 0 0
@[simp] theorem emitDev_zheac (s : State) (e : Nat) : (s.emitDev e).zheac = s.zheac := by unfold emitDev; exact emitOwn_zheac s e 0 0 0
@[simp] theorem emitDev_mem (s : State) (e : Nat) : (s.emitDev e).mem = s.mem := by unfold emitDev; exact emitOwn_mem s e 0 0 0
@[simp] theorem emitDev_cway (s : State) (e : Nat) : (s.emitDev e).cway = s.cway := by unfold emitDev; exact emitOwn_cway s e 0 0 0
@[simp] theorem emitDev_verge (s : State) (e : Nat) : (s.emitDev e).verge = s.verge := by unfold emitDev; exact emitOwn_verge s e 0 0 0
@[simp] theorem emitDev_stn (s : State) (e : Nat) : (s.emitDev e).stn = s.stn := by unfold emitDev; exact emitOwn_stn s e 0 0 0
@[simp] theorem emitDev_toll (s : State) (e : Nat) : (s.emitDev e).toll = s.toll := by unfold emitDev; exact emitOwn_toll s e 0 0 0
@[simp] theorem emitDev_sp (s : State) (e : Nat) : (s.emitDev e).sp = s.sp := by unfold emitDev; exact emitOwn_sp s e 0 0 0
@[simp] theorem emitDev_mile (s : State) (e : Nat) : (s.emitDev e).mile = s.mile := by unfold emitDev; exact emitOwn_mile s e 0 0 0
@[simp] theorem emitDev_way (s : State) (e : Nat) : (s.emitDev e).way = s.way := by unfold emitDev; exact emitOwn_way s e 0 0 0
@[simp] theorem emitDev_trip (s : State) (e : Nat) : (s.emitDev e).trip = s.trip := by unfold emitDev; exact emitOwn_trip s e 0 0 0
@[simp] theorem emitDev_promoted (s : State) (e : Nat) : (s.emitDev e).promoted = s.promoted := by unfold emitDev; exact emitOwn_promoted s e 0 0 0
@[simp] theorem emitDev_sent (s : State) (e : Nat) : (s.emitDev e).sent = s.sent := by unfold emitDev; exact emitOwn_sent s e 0 0 0
@[simp] theorem emitDev_pending (s : State) (e : Nat) : (s.emitDev e).pending = s.pending := by unfold emitDev; exact emitOwn_pending s e 0 0 0

@[simp] theorem emit_now (s : State) (e k n a : Nat) : (s.emit e k n a).now = s.now := by
  unfold emit; exact emitOwn_now s e k n a
@[simp] theorem emit_isN (s : State) (e k n a : Nat) : (s.emit e k n a).isN = s.isN := by
  unfold emit; exact emitOwn_isN s e k n a
@[simp] theorem emit_free (s : State) (e k n a : Nat) : (s.emit e k n a).free = s.free := by
  unfold emit; exact emitOwn_free s e k n a
@[simp] theorem emit_once (s : State) (e k n a : Nat) : (s.emit e k n a).once = s.once := by
  unfold emit; exact emitOwn_once s e k n a
@[simp] theorem emit_pins (s : State) (e k n a : Nat) : (s.emit e k n a).pins = s.pins := by
  unfold emit; exact emitOwn_pins s e k n a
@[simp] theorem emit_start (s : State) (e k n a : Nat) : (s.emit e k n a).start = s.start := by
  unfold emit; exact emitOwn_start s e k n a
@[simp] theorem emit_nor (s : State) (e k n a : Nat) : (s.emit e k n a).nor = s.nor := by
  unfold emit; exact emitOwn_nor s e k n a
@[simp] theorem emit_image (s : State) (e k n a : Nat) : (s.emit e k n a).image = s.image := by
  unfold emit; exact emitOwn_image s e k n a
@[simp] theorem emit_cus (s : State) (e k n a : Nat) : (s.emit e k n a).cus = s.cus := by
  unfold emit; exact emitOwn_cus s e k n a
@[simp] theorem emit_otp (s : State) (e k n a : Nat) : (s.emit e k n a).otp = s.otp := by
  unfold emit; exact emitOwn_otp s e k n a
@[simp] theorem emit_keys (s : State) (e k n a : Nat) : (s.emit e k n a).keys = s.keys := by
  unfold emit; exact emitOwn_keys s e k n a
@[simp] theorem emit_trng (s : State) (e k n a : Nat) : (s.emit e k n a).trng = s.trng := by
  unfold emit; exact emitOwn_trng s e k n a
@[simp] theorem emit_jun (s : State) (e k n a : Nat) : (s.emit e k n a).jun = s.jun := by
  unfold emit; exact emitOwn_jun s e k n a
@[simp] theorem emit_lanes (s : State) (e k n a : Nat) : (s.emit e k n a).lanes = s.lanes := by
  unfold emit; exact emitOwn_lanes s e k n a
@[simp] theorem emit_tp (s : State) (e k n a : Nat) : (s.emit e k n a).tp = s.tp := by
  unfold emit; exact emitOwn_tp s e k n a
@[simp] theorem emit_link (s : State) (e k n a : Nat) : (s.emit e k n a).link = s.link := by
  unfold emit; exact emitOwn_link s e k n a
@[simp] theorem emit_zheac (s : State) (e k n a : Nat) : (s.emit e k n a).zheac = s.zheac := by
  unfold emit; exact emitOwn_zheac s e k n a
@[simp] theorem emit_mem (s : State) (e k n a : Nat) : (s.emit e k n a).mem = s.mem := by
  unfold emit; exact emitOwn_mem s e k n a
@[simp] theorem emit_cway (s : State) (e k n a : Nat) : (s.emit e k n a).cway = s.cway := by
  unfold emit; exact emitOwn_cway s e k n a
@[simp] theorem emit_verge (s : State) (e k n a : Nat) : (s.emit e k n a).verge = s.verge := by
  unfold emit; exact emitOwn_verge s e k n a
@[simp] theorem emit_stn (s : State) (e k n a : Nat) : (s.emit e k n a).stn = s.stn := by
  unfold emit; exact emitOwn_stn s e k n a
@[simp] theorem emit_toll (s : State) (e k n a : Nat) : (s.emit e k n a).toll = s.toll := by
  unfold emit; exact emitOwn_toll s e k n a
@[simp] theorem emit_sp (s : State) (e k n a : Nat) : (s.emit e k n a).sp = s.sp := by
  unfold emit; exact emitOwn_sp s e k n a
@[simp] theorem emit_mile (s : State) (e k n a : Nat) : (s.emit e k n a).mile = s.mile := by
  unfold emit; exact emitOwn_mile s e k n a
@[simp] theorem emit_way (s : State) (e k n a : Nat) : (s.emit e k n a).way = s.way := by
  unfold emit; exact emitOwn_way s e k n a
@[simp] theorem emit_trip (s : State) (e k n a : Nat) : (s.emit e k n a).trip = s.trip := by
  unfold emit; exact emitOwn_trip s e k n a
@[simp] theorem emit_promoted (s : State) (e k n a : Nat) : (s.emit e k n a).promoted = s.promoted := by
  unfold emit; exact emitOwn_promoted s e k n a
@[simp] theorem emit_sent (s : State) (e k n a : Nat) : (s.emit e k n a).sent = s.sent := by
  unfold emit; exact emitOwn_sent s e k n a
@[simp] theorem emit_pending (s : State) (e k n a : Nat) : (s.emit e k n a).pending = s.pending := by
  unfold emit; exact emitOwn_pending s e k n a

@[simp] theorem setTenant_now (s : State) (i : Nat) (v : Tenant) : (s.setTenant i v).now = s.now := by unfold setTenant; rfl
@[simp] theorem setTenant_isN (s : State) (i : Nat) (v : Tenant) : (s.setTenant i v).isN = s.isN := by unfold setTenant; rfl
@[simp] theorem setTenant_free (s : State) (i : Nat) (v : Tenant) : (s.setTenant i v).free = s.free := by unfold setTenant; rfl
@[simp] theorem setTenant_once (s : State) (i : Nat) (v : Tenant) : (s.setTenant i v).once = s.once := by unfold setTenant; rfl
@[simp] theorem setTenant_pins (s : State) (i : Nat) (v : Tenant) : (s.setTenant i v).pins = s.pins := by unfold setTenant; rfl
@[simp] theorem setTenant_start (s : State) (i : Nat) (v : Tenant) : (s.setTenant i v).start = s.start := by unfold setTenant; rfl
@[simp] theorem setTenant_nor (s : State) (i : Nat) (v : Tenant) : (s.setTenant i v).nor = s.nor := by unfold setTenant; rfl
@[simp] theorem setTenant_image (s : State) (i : Nat) (v : Tenant) : (s.setTenant i v).image = s.image := by unfold setTenant; rfl
@[simp] theorem setTenant_cus (s : State) (i : Nat) (v : Tenant) : (s.setTenant i v).cus = s.cus := by unfold setTenant; rfl
@[simp] theorem setTenant_otp (s : State) (i : Nat) (v : Tenant) : (s.setTenant i v).otp = s.otp := by unfold setTenant; rfl
@[simp] theorem setTenant_keys (s : State) (i : Nat) (v : Tenant) : (s.setTenant i v).keys = s.keys := by unfold setTenant; rfl
@[simp] theorem setTenant_trng (s : State) (i : Nat) (v : Tenant) : (s.setTenant i v).trng = s.trng := by unfold setTenant; rfl
@[simp] theorem setTenant_jun (s : State) (i : Nat) (v : Tenant) : (s.setTenant i v).jun = s.jun := by unfold setTenant; rfl
@[simp] theorem setTenant_lanes (s : State) (i : Nat) (v : Tenant) : (s.setTenant i v).lanes = s.lanes := by unfold setTenant; rfl
@[simp] theorem setTenant_tp (s : State) (i : Nat) (v : Tenant) : (s.setTenant i v).tp = s.tp := by unfold setTenant; rfl
@[simp] theorem setTenant_link (s : State) (i : Nat) (v : Tenant) : (s.setTenant i v).link = s.link := by unfold setTenant; rfl
@[simp] theorem setTenant_zheac (s : State) (i : Nat) (v : Tenant) : (s.setTenant i v).zheac = s.zheac := by unfold setTenant; rfl
@[simp] theorem setTenant_mem (s : State) (i : Nat) (v : Tenant) : (s.setTenant i v).mem = s.mem := by unfold setTenant; rfl
@[simp] theorem setTenant_cway (s : State) (i : Nat) (v : Tenant) : (s.setTenant i v).cway = s.cway := by unfold setTenant; rfl
@[simp] theorem setTenant_verge (s : State) (i : Nat) (v : Tenant) : (s.setTenant i v).verge = s.verge := by unfold setTenant; rfl
@[simp] theorem setTenant_stn (s : State) (i : Nat) (v : Tenant) : (s.setTenant i v).stn = s.stn := by unfold setTenant; rfl
@[simp] theorem setTenant_toll (s : State) (i : Nat) (v : Tenant) : (s.setTenant i v).toll = s.toll := by unfold setTenant; rfl
@[simp] theorem setTenant_alarm (s : State) (i : Nat) (v : Tenant) : (s.setTenant i v).alarm = s.alarm := by unfold setTenant; rfl
@[simp] theorem setTenant_sp (s : State) (i : Nat) (v : Tenant) : (s.setTenant i v).sp = s.sp := by unfold setTenant; rfl
@[simp] theorem setTenant_mile (s : State) (i : Nat) (v : Tenant) : (s.setTenant i v).mile = s.mile := by unfold setTenant; rfl
@[simp] theorem setTenant_way (s : State) (i : Nat) (v : Tenant) : (s.setTenant i v).way = s.way := by unfold setTenant; rfl
@[simp] theorem setTenant_trip (s : State) (i : Nat) (v : Tenant) : (s.setTenant i v).trip = s.trip := by unfold setTenant; rfl
@[simp] theorem setTenant_promoted (s : State) (i : Nat) (v : Tenant) : (s.setTenant i v).promoted = s.promoted := by unfold setTenant; rfl
@[simp] theorem setTenant_notes (s : State) (i : Nat) (v : Tenant) : (s.setTenant i v).notes = s.notes := by unfold setTenant; rfl
@[simp] theorem setTenant_sent (s : State) (i : Nat) (v : Tenant) : (s.setTenant i v).sent = s.sent := by unfold setTenant; rfl
@[simp] theorem setTenant_pending (s : State) (i : Nat) (v : Tenant) : (s.setTenant i v).pending = s.pending := by unfold setTenant; rfl

@[simp] theorem setSlot_now (s : State) (i : Nat) (v : Slot) : (s.setSlot i v).now = s.now := by unfold setSlot; rfl
@[simp] theorem setSlot_isN (s : State) (i : Nat) (v : Slot) : (s.setSlot i v).isN = s.isN := by unfold setSlot; rfl
@[simp] theorem setSlot_free (s : State) (i : Nat) (v : Slot) : (s.setSlot i v).free = s.free := by unfold setSlot; rfl
@[simp] theorem setSlot_once (s : State) (i : Nat) (v : Slot) : (s.setSlot i v).once = s.once := by unfold setSlot; rfl
@[simp] theorem setSlot_pins (s : State) (i : Nat) (v : Slot) : (s.setSlot i v).pins = s.pins := by unfold setSlot; rfl
@[simp] theorem setSlot_start (s : State) (i : Nat) (v : Slot) : (s.setSlot i v).start = s.start := by unfold setSlot; rfl
@[simp] theorem setSlot_nor (s : State) (i : Nat) (v : Slot) : (s.setSlot i v).nor = s.nor := by unfold setSlot; rfl
@[simp] theorem setSlot_image (s : State) (i : Nat) (v : Slot) : (s.setSlot i v).image = s.image := by unfold setSlot; rfl
@[simp] theorem setSlot_cus (s : State) (i : Nat) (v : Slot) : (s.setSlot i v).cus = s.cus := by unfold setSlot; rfl
@[simp] theorem setSlot_otp (s : State) (i : Nat) (v : Slot) : (s.setSlot i v).otp = s.otp := by unfold setSlot; rfl
@[simp] theorem setSlot_trng (s : State) (i : Nat) (v : Slot) : (s.setSlot i v).trng = s.trng := by unfold setSlot; rfl
@[simp] theorem setSlot_jun (s : State) (i : Nat) (v : Slot) : (s.setSlot i v).jun = s.jun := by unfold setSlot; rfl
@[simp] theorem setSlot_lanes (s : State) (i : Nat) (v : Slot) : (s.setSlot i v).lanes = s.lanes := by unfold setSlot; rfl
@[simp] theorem setSlot_tenants (s : State) (i : Nat) (v : Slot) : (s.setSlot i v).tenants = s.tenants := by unfold setSlot; rfl
@[simp] theorem setSlot_tp (s : State) (i : Nat) (v : Slot) : (s.setSlot i v).tp = s.tp := by unfold setSlot; rfl
@[simp] theorem setSlot_link (s : State) (i : Nat) (v : Slot) : (s.setSlot i v).link = s.link := by unfold setSlot; rfl
@[simp] theorem setSlot_zheac (s : State) (i : Nat) (v : Slot) : (s.setSlot i v).zheac = s.zheac := by unfold setSlot; rfl
@[simp] theorem setSlot_mem (s : State) (i : Nat) (v : Slot) : (s.setSlot i v).mem = s.mem := by unfold setSlot; rfl
@[simp] theorem setSlot_cway (s : State) (i : Nat) (v : Slot) : (s.setSlot i v).cway = s.cway := by unfold setSlot; rfl
@[simp] theorem setSlot_verge (s : State) (i : Nat) (v : Slot) : (s.setSlot i v).verge = s.verge := by unfold setSlot; rfl
@[simp] theorem setSlot_stn (s : State) (i : Nat) (v : Slot) : (s.setSlot i v).stn = s.stn := by unfold setSlot; rfl
@[simp] theorem setSlot_toll (s : State) (i : Nat) (v : Slot) : (s.setSlot i v).toll = s.toll := by unfold setSlot; rfl
@[simp] theorem setSlot_alarm (s : State) (i : Nat) (v : Slot) : (s.setSlot i v).alarm = s.alarm := by unfold setSlot; rfl
@[simp] theorem setSlot_sp (s : State) (i : Nat) (v : Slot) : (s.setSlot i v).sp = s.sp := by unfold setSlot; rfl
@[simp] theorem setSlot_mile (s : State) (i : Nat) (v : Slot) : (s.setSlot i v).mile = s.mile := by unfold setSlot; rfl
@[simp] theorem setSlot_way (s : State) (i : Nat) (v : Slot) : (s.setSlot i v).way = s.way := by unfold setSlot; rfl
@[simp] theorem setSlot_trip (s : State) (i : Nat) (v : Slot) : (s.setSlot i v).trip = s.trip := by unfold setSlot; rfl
@[simp] theorem setSlot_promoted (s : State) (i : Nat) (v : Slot) : (s.setSlot i v).promoted = s.promoted := by unfold setSlot; rfl
@[simp] theorem setSlot_notes (s : State) (i : Nat) (v : Slot) : (s.setSlot i v).notes = s.notes := by unfold setSlot; rfl
@[simp] theorem setSlot_sent (s : State) (i : Nat) (v : Slot) : (s.setSlot i v).sent = s.sent := by unfold setSlot; rfl
@[simp] theorem setSlot_pending (s : State) (i : Nat) (v : Slot) : (s.setSlot i v).pending = s.pending := by unfold setSlot; rfl

@[simp] theorem blow_now (s : State) (w m : Nat) : (s.blow w m).now = s.now := by unfold blow; rfl
@[simp] theorem blow_isN (s : State) (w m : Nat) : (s.blow w m).isN = s.isN := by unfold blow; rfl
@[simp] theorem blow_free (s : State) (w m : Nat) : (s.blow w m).free = s.free := by unfold blow; rfl
@[simp] theorem blow_once (s : State) (w m : Nat) : (s.blow w m).once = s.once := by unfold blow; rfl
@[simp] theorem blow_pins (s : State) (w m : Nat) : (s.blow w m).pins = s.pins := by unfold blow; rfl
@[simp] theorem blow_start (s : State) (w m : Nat) : (s.blow w m).start = s.start := by unfold blow; rfl
@[simp] theorem blow_nor (s : State) (w m : Nat) : (s.blow w m).nor = s.nor := by unfold blow; rfl
@[simp] theorem blow_image (s : State) (w m : Nat) : (s.blow w m).image = s.image := by unfold blow; rfl
@[simp] theorem blow_cus (s : State) (w m : Nat) : (s.blow w m).cus = s.cus := by unfold blow; rfl
@[simp] theorem blow_keys (s : State) (w m : Nat) : (s.blow w m).keys = s.keys := by unfold blow; rfl
@[simp] theorem blow_trng (s : State) (w m : Nat) : (s.blow w m).trng = s.trng := by unfold blow; rfl
@[simp] theorem blow_jun (s : State) (w m : Nat) : (s.blow w m).jun = s.jun := by unfold blow; rfl
@[simp] theorem blow_lanes (s : State) (w m : Nat) : (s.blow w m).lanes = s.lanes := by unfold blow; rfl
@[simp] theorem blow_tenants (s : State) (w m : Nat) : (s.blow w m).tenants = s.tenants := by unfold blow; rfl
@[simp] theorem blow_tp (s : State) (w m : Nat) : (s.blow w m).tp = s.tp := by unfold blow; rfl
@[simp] theorem blow_link (s : State) (w m : Nat) : (s.blow w m).link = s.link := by unfold blow; rfl
@[simp] theorem blow_zheac (s : State) (w m : Nat) : (s.blow w m).zheac = s.zheac := by unfold blow; rfl
@[simp] theorem blow_mem (s : State) (w m : Nat) : (s.blow w m).mem = s.mem := by unfold blow; rfl
@[simp] theorem blow_cway (s : State) (w m : Nat) : (s.blow w m).cway = s.cway := by unfold blow; rfl
@[simp] theorem blow_verge (s : State) (w m : Nat) : (s.blow w m).verge = s.verge := by unfold blow; rfl
@[simp] theorem blow_stn (s : State) (w m : Nat) : (s.blow w m).stn = s.stn := by unfold blow; rfl
@[simp] theorem blow_toll (s : State) (w m : Nat) : (s.blow w m).toll = s.toll := by unfold blow; rfl
@[simp] theorem blow_alarm (s : State) (w m : Nat) : (s.blow w m).alarm = s.alarm := by unfold blow; rfl
@[simp] theorem blow_sp (s : State) (w m : Nat) : (s.blow w m).sp = s.sp := by unfold blow; rfl
@[simp] theorem blow_mile (s : State) (w m : Nat) : (s.blow w m).mile = s.mile := by unfold blow; rfl
@[simp] theorem blow_way (s : State) (w m : Nat) : (s.blow w m).way = s.way := by unfold blow; rfl
@[simp] theorem blow_trip (s : State) (w m : Nat) : (s.blow w m).trip = s.trip := by unfold blow; rfl
@[simp] theorem blow_promoted (s : State) (w m : Nat) : (s.blow w m).promoted = s.promoted := by unfold blow; rfl
@[simp] theorem blow_notes (s : State) (w m : Nat) : (s.blow w m).notes = s.notes := by unfold blow; rfl
@[simp] theorem blow_sent (s : State) (w m : Nat) : (s.blow w m).sent = s.sent := by unfold blow; rfl
@[simp] theorem blow_pending (s : State) (w m : Nat) : (s.blow w m).pending = s.pending := by unfold blow; rfl

end Sys2Proof.Machine.State
end

