-- ==== Sys2Proof/Laws/Tab.lean ====
section
/-!
SUPPORT. What a sparse table reads after a write, and that a write keeps its canonical form.
-/

namespace Sys2Proof.Machine

variable {α : Type}

theorem tabGet_tabInsert_same (d v : α) (k : Nat) (t : Tab α) (h : ∀ e ∈ t, e.1 ≠ k) :
    tabGet d (tabInsert k v t) k = v := by
  induction t with
  | nil => simp [tabInsert, tabGet]
  | cons e t ih =>
    obtain ⟨j, w⟩ := e
    have hj : j ≠ k := h (j, w) (by simp)
    by_cases hk : k < j
    · simp [tabInsert, tabGet, hk]
    · simp [tabInsert, tabGet, hk, hj, ih (fun e he => h e (by simp [he]))]

theorem tabGet_tabInsert_other (d v : α) {k j : Nat} (hjk : k ≠ j) (t : Tab α) :
    tabGet d (tabInsert k v t) j = tabGet d t j := by
  induction t with
  | nil => simp [tabInsert, tabGet, hjk]
  | cons e t ih =>
    obtain ⟨i, w⟩ := e
    by_cases hk : k < i
    · simp [tabInsert, tabGet, hk, hjk]
    · simp [tabInsert, tabGet, hk, ih]

theorem tabGet_filter_same (d : α) (k : Nat) (t : Tab α) :
    tabGet d (t.filter (fun e => decide (e.1 ≠ k))) k = d := by
  induction t with
  | nil => simp [tabGet]
  | cons e t ih =>
    obtain ⟨i, w⟩ := e
    by_cases hi : i = k
    · simpa [hi] using ih
    · simpa [hi, tabGet] using ih

theorem tabGet_filter_other (d : α) {k j : Nat} (hjk : k ≠ j) (t : Tab α) :
    tabGet d (t.filter (fun e => decide (e.1 ≠ k))) j = tabGet d t j := by
  induction t with
  | nil => simp [tabGet]
  | cons e t ih =>
    obtain ⟨i, w⟩ := e
    by_cases hi : i = k
    · subst hi; simpa [tabGet, hjk] using ih
    · by_cases hij : i = j
      · subst hij; simp [hi, tabGet]
      · simpa [hi, tabGet, hij] using ih

/-- A number reads the value it was given. -/
@[simp] theorem tabGet_tabPut_same [DecidableEq α] (d v : α) (t : Tab α) (k : Nat) :
    tabGet d (tabPut d t k v) k = v := by
  by_cases hv : v = d
  · simp only [tabPut, hv, if_true]
    exact tabGet_filter_same d k t
  · simp only [tabPut, hv, if_false]
    exact tabGet_tabInsert_same d v k _ (by simp)

/-- Every other number reads as before. -/
@[simp] theorem tabGet_tabPut_other [DecidableEq α] (d v : α) (t : Tab α) {k j : Nat} (h : k ≠ j) :
    tabGet d (tabPut d t k v) j = tabGet d t j := by
  by_cases hv : v = d
  · simp only [tabPut, hv, if_true]
    exact tabGet_filter_other d h t
  · simp only [tabPut, hv, if_false]
    rw [tabGet_tabInsert_other d v h, tabGet_filter_other d h]

@[simp] theorem tabGet_tabMod_same [DecidableEq α] (d : α) (t : Tab α) (k : Nat) (f : α → α) :
    tabGet d (tabMod d t k f) k = f (tabGet d t k) := by
  simp [tabMod]

@[simp] theorem tabGet_tabMod_other [DecidableEq α] (d : α) (t : Tab α) {k j : Nat} (f : α → α) (h : k ≠ j) :
    tabGet d (tabMod d t k f) j = tabGet d t j := by
  simp [tabMod, h]

theorem mem_tabInsert {k : Nat} {v : α} {t : Tab α} {e : Nat × α} (h : e ∈ tabInsert k v t) :
    e = (k, v) ∨ e ∈ t := by
  induction t with
  | nil => simpa [tabInsert] using h
  | cons a t ih =>
    by_cases hk : k < a.1
    · simpa [tabInsert, hk] using h
    · simp only [tabInsert, hk, if_false, List.mem_cons] at h
      rcases h with rfl | h
      · simp
      · rcases ih h with h | h <;> simp [h]

theorem pairwise_tabInsert {k : Nat} {v : α} {t : Tab α} (hp : t.Pairwise (fun a b => a.1 < b.1))
    (hk : ∀ e ∈ t, e.1 ≠ k) : (tabInsert k v t).Pairwise (fun a b => a.1 < b.1) := by
  induction t with
  | nil => simp [tabInsert]
  | cons a t ih =>
    obtain ⟨i, w⟩ := a
    rw [List.pairwise_cons] at hp
    have hi : i ≠ k := hk (i, w) (by simp)
    by_cases h : k < i
    · simp only [tabInsert, h, if_true, List.pairwise_cons]
      refine ⟨fun e he => ?_, hp⟩
      rcases List.mem_cons.mp he with rfl | he
      · exact h
      · exact lt_trans h (hp.1 e he)
    · simp only [tabInsert, h, if_false, List.pairwise_cons]
      refine ⟨fun e he => ?_, ih hp.2 (fun e he => hk e (by simp [he]))⟩
      rcases mem_tabInsert he with rfl | he
      · show i < k; omega
      · exact hp.1 e he

/-- A write keeps a table's canonical form. -/
theorem tabWf_tabPut [DecidableEq α] (d v : α) (t : Tab α) (k : Nat) (h : tabWf d t = true) :
    tabWf d (tabPut d t k v) = true := by
  simp only [tabWf, Bool.and_eq_true, decide_eq_true_eq, List.all_eq_true] at h ⊢
  obtain ⟨hp, ha⟩ := h
  have hpf : (t.filter (fun e => decide (e.1 ≠ k))).Pairwise (fun a b => a.1 < b.1) := hp.filter _
  by_cases hv : v = d
  · simp only [tabPut, hv, if_true]
    exact ⟨hpf, fun e he => ha e (List.mem_of_mem_filter he)⟩
  · simp only [tabPut, hv, if_false]
    refine ⟨pairwise_tabInsert hpf (by simp), fun e he => ?_⟩
    rcases mem_tabInsert he with rfl | he
    · exact hv
    · exact ha e (List.mem_of_mem_filter he)

theorem tabWf_tabMod [DecidableEq α] (d : α) (t : Tab α) (k : Nat) (f : α → α) (h : tabWf d t = true) :
    tabWf d (tabMod d t k f) = true := tabWf_tabPut d _ t k h

/-- A change of every listed number keeps a table's canonical form. -/
theorem tabWf_tabMap [DecidableEq α] (d : α) (t : Tab α) (f : Nat → α → α) (h : tabWf d t = true) :
    tabWf d (tabMap d t f) = true := by
  simp only [tabWf, Bool.and_eq_true, decide_eq_true_eq, List.all_eq_true] at h ⊢
  refine ⟨(List.Pairwise.map (S := fun a b => a.1 < b.1) (fun e : Nat × α => (e.1, f e.1 e.2)) (fun a b hab => hab) h.1).filter _,
    fun e he => ?_⟩
  simpa using (List.mem_filter.mp he).2

@[simp] theorem tabWf_nil [DecidableEq α] (d : α) : tabWf d ([] : Tab α) = true := by simp [tabWf]

end Sys2Proof.Machine
end

