-- ==== Sys2Proof/Laws/Act.lean ====
section
/-!
SUPPORT. What a command can do at most, whatever it is: only the parts of the state that its meaning names change, besides what the
observers hold; and what it gives those parts.
-/

namespace Sys2Proof.Machine

/-! ## The state a command's effect begins in -/

@[simp] theorem State.clear_now (s : State) : s.clear.now = s.now := rfl
@[simp] theorem State.clear_isN (s : State) : s.clear.isN = s.isN := rfl
@[simp] theorem State.clear_free (s : State) : s.clear.free = s.free := rfl
@[simp] theorem State.clear_once (s : State) : s.clear.once = s.once := rfl
@[simp] theorem State.clear_pins (s : State) : s.clear.pins = s.pins := rfl
@[simp] theorem State.clear_start (s : State) : s.clear.start = s.start := rfl
@[simp] theorem State.clear_nor (s : State) : s.clear.nor = s.nor := rfl
@[simp] theorem State.clear_image (s : State) : s.clear.image = s.image := rfl
@[simp] theorem State.clear_cus (s : State) : s.clear.cus = s.cus := rfl
@[simp] theorem State.clear_otp (s : State) : s.clear.otp = s.otp := rfl
@[simp] theorem State.clear_keys (s : State) : s.clear.keys = s.keys := rfl
@[simp] theorem State.clear_trng (s : State) : s.clear.trng = s.trng := rfl
@[simp] theorem State.clear_jun (s : State) : s.clear.jun = s.jun := rfl
@[simp] theorem State.clear_lanes (s : State) : s.clear.lanes = s.lanes := rfl
@[simp] theorem State.clear_tenants (s : State) : s.clear.tenants = s.tenants := rfl
@[simp] theorem State.clear_tp (s : State) : s.clear.tp = s.tp := rfl
@[simp] theorem State.clear_link (s : State) : s.clear.link = s.link := rfl
@[simp] theorem State.clear_zheac (s : State) : s.clear.zheac = s.zheac := rfl
@[simp] theorem State.clear_mem (s : State) : s.clear.mem = s.mem := rfl
@[simp] theorem State.clear_cway (s : State) : s.clear.cway = s.cway := rfl
@[simp] theorem State.clear_verge (s : State) : s.clear.verge = s.verge := rfl
@[simp] theorem State.clear_stn (s : State) : s.clear.stn = s.stn := rfl
@[simp] theorem State.clear_toll (s : State) : s.clear.toll = s.toll := rfl
@[simp] theorem State.clear_alarm (s : State) : s.clear.alarm = s.alarm := rfl
@[simp] theorem State.clear_sp (s : State) : s.clear.sp = s.sp := rfl
@[simp] theorem State.clear_mile (s : State) : s.clear.mile = s.mile := rfl
@[simp] theorem State.clear_way (s : State) : s.clear.way = s.way := rfl
@[simp] theorem State.clear_trip (s : State) : s.clear.trip = s.trip := rfl
@[simp] theorem State.clear_promoted (s : State) : s.clear.promoted = s.promoted := rfl
@[simp] theorem State.clear_notes (s : State) : s.clear.notes = [] := rfl
@[simp] theorem State.clear_sent (s : State) : s.clear.sent = [] := rfl
@[simp] theorem State.clear_pending (s : State) : s.clear.pending = s.pending := rfl
@[simp] theorem State.clear_clear (s : State) : s.clear.clear = s.clear := rfl

/-- A property of every state that does not look at what was sent need only be shown of states that are clear. -/
theorem State.forall_clear {p : State → Prop} (h : ∀ s, s.clear = s → p s) (e : ∀ s, p s.clear → p s) (s : State) : p s :=
  e s (h s.clear rfl)

/-! ## The state after a command, part by part -/

@[simp] theorem actState_now (ps : List Part) (s : State) (f : State → State) :
    (actState ps s f).now = if ps.contains .now then (f s.clear).now else s.now := rfl
@[simp] theorem actState_isN (ps : List Part) (s : State) (f : State → State) :
    (actState ps s f).isN = if ps.contains .isN then (f s.clear).isN else s.isN := rfl
@[simp] theorem actState_free (ps : List Part) (s : State) (f : State → State) :
    (actState ps s f).free = if ps.contains .free then (f s.clear).free else s.free := rfl
@[simp] theorem actState_once (ps : List Part) (s : State) (f : State → State) :
    (actState ps s f).once = if ps.contains .once then (f s.clear).once else s.once := rfl
@[simp] theorem actState_pins (ps : List Part) (s : State) (f : State → State) :
    (actState ps s f).pins = if ps.contains .pins then (f s.clear).pins else s.pins := rfl
@[simp] theorem actState_start (ps : List Part) (s : State) (f : State → State) :
    (actState ps s f).start = if ps.contains .start then (f s.clear).start else s.start := rfl
@[simp] theorem actState_nor (ps : List Part) (s : State) (f : State → State) :
    (actState ps s f).nor = if ps.contains .nor then (f s.clear).nor else s.nor := rfl
@[simp] theorem actState_image (ps : List Part) (s : State) (f : State → State) :
    (actState ps s f).image = if ps.contains .image then (f s.clear).image else s.image := rfl
@[simp] theorem actState_cus (ps : List Part) (s : State) (f : State → State) :
    (actState ps s f).cus = if ps.contains .cus then (f s.clear).cus else s.cus := rfl
@[simp] theorem actState_otp (ps : List Part) (s : State) (f : State → State) :
    (actState ps s f).otp = if ps.contains .otp then (f s.clear).otp else s.otp := rfl
@[simp] theorem actState_keys (ps : List Part) (s : State) (f : State → State) :
    (actState ps s f).keys = if ps.contains .keys then (f s.clear).keys else s.keys := rfl
@[simp] theorem actState_trng (ps : List Part) (s : State) (f : State → State) :
    (actState ps s f).trng = if ps.contains .trng then (f s.clear).trng else s.trng := rfl
@[simp] theorem actState_jun (ps : List Part) (s : State) (f : State → State) :
    (actState ps s f).jun = if ps.contains .jun then (f s.clear).jun else s.jun := rfl
@[simp] theorem actState_lanes (ps : List Part) (s : State) (f : State → State) :
    (actState ps s f).lanes = if ps.contains .lanes then (f s.clear).lanes else s.lanes := rfl
@[simp] theorem actState_tenants (ps : List Part) (s : State) (f : State → State) :
    (actState ps s f).tenants = if ps.contains .tenants then (f s.clear).tenants else s.tenants := rfl
@[simp] theorem actState_tp (ps : List Part) (s : State) (f : State → State) :
    (actState ps s f).tp = if ps.contains .tp then (f s.clear).tp else s.tp := rfl
@[simp] theorem actState_link (ps : List Part) (s : State) (f : State → State) :
    (actState ps s f).link = if ps.contains .link then (f s.clear).link else s.link := rfl
@[simp] theorem actState_zheac (ps : List Part) (s : State) (f : State → State) :
    (actState ps s f).zheac = if ps.contains .zheac then (f s.clear).zheac else s.zheac := rfl
@[simp] theorem actState_mem (ps : List Part) (s : State) (f : State → State) :
    (actState ps s f).mem = if ps.contains .mem then (f s.clear).mem else s.mem := rfl
@[simp] theorem actState_cway (ps : List Part) (s : State) (f : State → State) :
    (actState ps s f).cway = if ps.contains .cway then (f s.clear).cway else s.cway := rfl
@[simp] theorem actState_verge (ps : List Part) (s : State) (f : State → State) :
    (actState ps s f).verge = if ps.contains .verge then (f s.clear).verge else s.verge := rfl
@[simp] theorem actState_stn (ps : List Part) (s : State) (f : State → State) :
    (actState ps s f).stn = if ps.contains .stn then (f s.clear).stn else s.stn := rfl
@[simp] theorem actState_toll (ps : List Part) (s : State) (f : State → State) :
    (actState ps s f).toll = if ps.contains .toll then (f s.clear).toll else s.toll := rfl
@[simp] theorem actState_sp (ps : List Part) (s : State) (f : State → State) :
    (actState ps s f).sp = if ps.contains .sp then (f s.clear).sp else s.sp := rfl
@[simp] theorem actState_way (ps : List Part) (s : State) (f : State → State) :
    (actState ps s f).way = if ps.contains .way then (f s.clear).way else s.way := rfl
@[simp] theorem actState_promoted (ps : List Part) (s : State) (f : State → State) :
    (actState ps s f).promoted = if ps.contains .promoted then (f s.clear).promoted else s.promoted := rfl
@[simp] theorem actState_sent (ps : List Part) (s : State) (f : State → State) :
    (actState ps s f).sent = (f s.clear).sent := rfl
@[simp] theorem actState_pending (ps : List Part) (s : State) (f : State → State) :
    (actState ps s f).pending = if ps.contains .pending then (f s.clear).pending else s.pending := rfl
@[simp] theorem actState_notes (ps : List Part) (s : State) (f : State → State) : (actState ps s f).notes = [] := rfl

/-! ## Frames -/

/-- An `act` leaves every part alone but those it names and the observers. -/
theorem actState_onlyChanges (ps : List Part) (s : State) (f : State → State) :
    s.onlyChanges (actState ps s f) (ps ++ observers) := by
  intro p h
  have h1 : ps.contains p = false := by simpa using fun hc => h (by simp [hc])
  cases p <;> first
    | (exfalso; apply h; simp [observers]; done)
    | simp only [State.same, actState_now, actState_isN, actState_free, actState_once, actState_pins, actState_start,
        actState_nor, actState_image, actState_cus, actState_otp, actState_keys, actState_trng, actState_jun,
        actState_lanes, actState_tenants, actState_tp, actState_link, actState_zheac, actState_mem, actState_cway,
        actState_verge, actState_stn, actState_toll, actState_sp, actState_way, actState_promoted, actState_pending, h1,
        Bool.false_eq_true, if_false]

theorem act_onlyChanges {ps : List Part} {s t : State} {f : State → State} (h : act ps s f = .next t) :
    s.onlyChanges t (ps ++ observers) := by
  cases h
  exact actState_onlyChanges ps s f

/-- More parts may be named. -/
theorem State.onlyChanges.mono {s t : State} {ps qs : List Part} (h : s.onlyChanges t ps) (hq : ∀ p ∈ ps, p ∈ qs) :
    s.onlyChanges t qs := fun p hp => h p (fun hm => hp (hq p hm))

end Sys2Proof.Machine
end

