-- ==== Sys2Proof/Laws/Keys.lean ====
section
/-!
SUPPORT. What the operations of the key register and the DRBG do: an install, a destroy and a draw, each said once.
-/

namespace Sys2Proof.Machine.State

/-- A slot of a use reads the value it was given (R139). -/
theorem slot_setSlot_same (s : State) (n : Nat) (v : Slot) (h : slotUse n ≠ 0) : (s.setSlot n v).slot n = v := by
  simp [slot, setSlot, h]

/-- Every other slot reads as before. -/
theorem slot_setSlot_other (s : State) {n m : Nat} (v : Slot) (h : n ≠ m) : (s.setSlot n v).slot m = s.slot m := by
  unfold slot setSlot
  by_cases hm : slotUse m = 0
  · simp only [hm, if_true]
    by_cases hv : v = s.keys.base
    · simp only [tabPut, hv, if_true]
      exact tabGet_filter_other _ h _
    · simp only [tabPut, hv, if_false]
      rw [tabGet_tabInsert_other _ _ h, tabGet_filter_other _ h]
  · simp [hm, h]

@[simp] theorem occur_slot (s : State) (b c n : Nat) : (s.occur b c).slot n = s.slot n := by simp [slot]
@[simp] theorem keyRecord_slot (s : State) (n op m : Nat) : (s.keyRecord n op).slot m = s.slot m := by simp [keyRecord, slot]

/-- An install that succeeds gives its slot the key with the next GEN (R142). -/
theorem slot_installKey (s : State) (n value : Nat) (h : slotUse n ≠ 0) (hi : s.canInstall n = true) :
    (s.installKey n value).slot n =
      { state := .valid, kind := slotUse n, gen := ((s.slot n).gen + 1) % 32, value := value } := by
  simp [installKey, hi, slot_setSlot_same _ _ _ h]

/-- The lookup after it returns the key (R141). -/
theorem lookup_installKey (s : State) (n value : Nat) (h : slotUse n ≠ 0) (hi : s.canInstall n = true) :
    (s.installKey n value).lookup n = some value := by
  simp [lookup, keyValid, slot_installKey s n value h hi]

/-- An install that fails leaves its slot as it is (R142). -/
theorem slot_installKey_failed (s : State) (n value : Nat) (hi : s.canInstall n = false) :
    (s.installKey n value).slot n = s.slot n := by
  simp [installKey, hi]

/-- An install leaves every other slot as it is. -/
theorem slot_installKey_other (s : State) {n m : Nat} (value : Nat) (h : n ≠ m) :
    (s.installKey n value).slot m = s.slot m := by
  unfold installKey
  split
  · simp [slot_setSlot_other _ _ h]
  · simp

/-- A slot that fails a destroy becomes FAULT (R145). -/
theorem slot_slotFails (s : State) (n : Nat) (h : slotUse n ≠ 0) :
    (s.slotFails n).slot n = { s.slot n with state := .fault, gen := ((s.slot n).gen + 1) % 32, value := 0 } := by
  simp [slotFails, slot, setSlot, keyRecord, h]

/-- A destroy, whether or not it verifies, leaves no key to look up (R145). -/
theorem lookup_destroySlot (s : State) (n : Nat) (h : slotUse n ≠ 0) : (s.destroySlot n).lookup n = none := by
  by_cases hf : (s.slot n).state = SlotState.fault
  · simp [destroySlot, hf, lookup, keyValid]
  · by_cases hd : s.keys.defective.contains n = true
    · simp only [destroySlot, hf, if_false, hd, if_true]
      simp [lookup, keyValid, slot_slotFails s n h]
    · simp only [destroySlot, hf, if_false, hd]
      simp [lookup, keyValid, slot, setSlot, keyRecord, h, destroyed]
      split <;> simp_all

/-- A draw changes the DRBG alone (R151). -/
theorem draw_eq (s : State) (bits : Nat) : (s.draw bits).2 = { s with trng := (s.draw bits).2.trng } := by
  unfold draw tryReseed reseedNow
  dsimp only
  split
  · split <;> rfl
  · rfl

end Sys2Proof.Machine.State
end

