-- ==== Sys2Proof/Laws/Units.lean ====
section
/-!
SUPPORT. What an update of one entry of a unit leaves alone, one lemma per part of the state, and what it gives: the entry reads the
value it was given, every other entry reads as before.
-/

namespace Sys2Proof.Machine.State

@[simp] theorem setJunRef_now (s : State) (r : Nat) (v : JunRef) : (s.setJunRef r v).now = s.now := by unfold setJunRef; rfl
@[simp] theorem setJunRef_isN (s : State) (r : Nat) (v : JunRef) : (s.setJunRef r v).isN = s.isN := by unfold setJunRef; rfl
@[simp] theorem setJunRef_free (s : State) (r : Nat) (v : JunRef) : (s.setJunRef r v).free = s.free := by unfold setJunRef; rfl
@[simp] theorem setJunRef_once (s : State) (r : Nat) (v : JunRef) : (s.setJunRef r v).once = s.once := by unfold setJunRef; rfl
@[simp] theorem setJunRef_pins (s : State) (r : Nat) (v : JunRef) : (s.setJunRef r v).pins = s.pins := by unfold setJunRef; rfl
@[simp] theorem setJunRef_start (s : State) (r : Nat) (v : JunRef) : (s.setJunRef r v).start = s.start := by unfold setJunRef; rfl
@[simp] theorem setJunRef_nor (s : State) (r : Nat) (v : JunRef) : (s.setJunRef r v).nor = s.nor := by unfold setJunRef; rfl
@[simp] theorem setJunRef_image (s : State) (r : Nat) (v : JunRef) : (s.setJunRef r v).image = s.image := by unfold setJunRef; rfl
@[simp] theorem setJunRef_cus (s : State) (r : Nat) (v : JunRef) : (s.setJunRef r v).cus = s.cus := by unfold setJunRef; rfl
@[simp] theorem setJunRef_otp (s : State) (r : Nat) (v : JunRef) : (s.setJunRef r v).otp = s.otp := by unfold setJunRef; rfl
@[simp] theorem setJunRef_keys (s : State) (r : Nat) (v : JunRef) : (s.setJunRef r v).keys = s.keys := by unfold setJunRef; rfl
@[simp] theorem setJunRef_trng (s : State) (r : Nat) (v : JunRef) : (s.setJunRef r v).trng = s.trng := by unfold setJunRef; rfl
@[simp] theorem setJunRef_lanes (s : State) (r : Nat) (v : JunRef) : (s.setJunRef r v).lanes = s.lanes := by unfold setJunRef; rfl
@[simp] theorem setJunRef_tenants (s : State) (r : Nat) (v : JunRef) : (s.setJunRef r v).tenants = s.tenants := by unfold setJunRef; rfl
@[simp] theorem setJunRef_tp (s : State) (r : Nat) (v : JunRef) : (s.setJunRef r v).tp = s.tp := by unfold setJunRef; rfl
@[simp] theorem setJunRef_link (s : State) (r : Nat) (v : JunRef) : (s.setJunRef r v).link = s.link := by unfold setJunRef; rfl
@[simp] theorem setJunRef_zheac (s : State) (r : Nat) (v : JunRef) : (s.setJunRef r v).zheac = s.zheac := by unfold setJunRef; rfl
@[simp] theorem setJunRef_mem (s : State) (r : Nat) (v : JunRef) : (s.setJunRef r v).mem = s.mem := by unfold setJunRef; rfl
@[simp] theorem setJunRef_cway (s : State) (r : Nat) (v : JunRef) : (s.setJunRef r v).cway = s.cway := by unfold setJunRef; rfl
@[simp] theorem setJunRef_verge (s : State) (r : Nat) (v : JunRef) : (s.setJunRef r v).verge = s.verge := by unfold setJunRef; rfl
@[simp] theorem setJunRef_stn (s : State) (r : Nat) (v : JunRef) : (s.setJunRef r v).stn = s.stn := by unfold setJunRef; rfl
@[simp] theorem setJunRef_toll (s : State) (r : Nat) (v : JunRef) : (s.setJunRef r v).toll = s.toll := by unfold setJunRef; rfl
@[simp] theorem setJunRef_alarm (s : State) (r : Nat) (v : JunRef) : (s.setJunRef r v).alarm = s.alarm := by unfold setJunRef; rfl
@[simp] theorem setJunRef_sp (s : State) (r : Nat) (v : JunRef) : (s.setJunRef r v).sp = s.sp := by unfold setJunRef; rfl
@[simp] theorem setJunRef_mile (s : State) (r : Nat) (v : JunRef) : (s.setJunRef r v).mile = s.mile := by unfold setJunRef; rfl
@[simp] theorem setJunRef_way (s : State) (r : Nat) (v : JunRef) : (s.setJunRef r v).way = s.way := by unfold setJunRef; rfl
@[simp] theorem setJunRef_trip (s : State) (r : Nat) (v : JunRef) : (s.setJunRef r v).trip = s.trip := by unfold setJunRef; rfl
@[simp] theorem setJunRef_promoted (s : State) (r : Nat) (v : JunRef) : (s.setJunRef r v).promoted = s.promoted := by unfold setJunRef; rfl
@[simp] theorem setJunRef_notes (s : State) (r : Nat) (v : JunRef) : (s.setJunRef r v).notes = s.notes := by unfold setJunRef; rfl
@[simp] theorem setJunRef_sent (s : State) (r : Nat) (v : JunRef) : (s.setJunRef r v).sent = s.sent := by unfold setJunRef; rfl
@[simp] theorem setJunRef_pending (s : State) (r : Nat) (v : JunRef) : (s.setJunRef r v).pending = s.pending := by unfold setJunRef; rfl
@[simp] theorem junRef_setJunRef_same (s : State) (r : Nat) (v : JunRef) : (s.setJunRef r v).junRef r = v := by simp [setJunRef, junRef]
@[simp] theorem junRef_setJunRef_other (s : State) {i j : Nat} (v : JunRef) (h : i ≠ j) :
    (s.setJunRef i v).junRef j = s.junRef j := by simp [setJunRef, junRef, h]

@[simp] theorem setLane_now (s : State) (n : Nat) (v : Lane) : (s.setLane n v).now = s.now := by unfold setLane; rfl
@[simp] theorem setLane_isN (s : State) (n : Nat) (v : Lane) : (s.setLane n v).isN = s.isN := by unfold setLane; rfl
@[simp] theorem setLane_free (s : State) (n : Nat) (v : Lane) : (s.setLane n v).free = s.free := by unfold setLane; rfl
@[simp] theorem setLane_once (s : State) (n : Nat) (v : Lane) : (s.setLane n v).once = s.once := by unfold setLane; rfl
@[simp] theorem setLane_pins (s : State) (n : Nat) (v : Lane) : (s.setLane n v).pins = s.pins := by unfold setLane; rfl
@[simp] theorem setLane_start (s : State) (n : Nat) (v : Lane) : (s.setLane n v).start = s.start := by unfold setLane; rfl
@[simp] theorem setLane_nor (s : State) (n : Nat) (v : Lane) : (s.setLane n v).nor = s.nor := by unfold setLane; rfl
@[simp] theorem setLane_image (s : State) (n : Nat) (v : Lane) : (s.setLane n v).image = s.image := by unfold setLane; rfl
@[simp] theorem setLane_cus (s : State) (n : Nat) (v : Lane) : (s.setLane n v).cus = s.cus := by unfold setLane; rfl
@[simp] theorem setLane_otp (s : State) (n : Nat) (v : Lane) : (s.setLane n v).otp = s.otp := by unfold setLane; rfl
@[simp] theorem setLane_keys (s : State) (n : Nat) (v : Lane) : (s.setLane n v).keys = s.keys := by unfold setLane; rfl
@[simp] theorem setLane_trng (s : State) (n : Nat) (v : Lane) : (s.setLane n v).trng = s.trng := by unfold setLane; rfl
@[simp] theorem setLane_jun (s : State) (n : Nat) (v : Lane) : (s.setLane n v).jun = s.jun := by unfold setLane; rfl
@[simp] theorem setLane_tenants (s : State) (n : Nat) (v : Lane) : (s.setLane n v).tenants = s.tenants := by unfold setLane; rfl
@[simp] theorem setLane_tp (s : State) (n : Nat) (v : Lane) : (s.setLane n v).tp = s.tp := by unfold setLane; rfl
@[simp] theorem setLane_link (s : State) (n : Nat) (v : Lane) : (s.setLane n v).link = s.link := by unfold setLane; rfl
@[simp] theorem setLane_zheac (s : State) (n : Nat) (v : Lane) : (s.setLane n v).zheac = s.zheac := by unfold setLane; rfl
@[simp] theorem setLane_mem (s : State) (n : Nat) (v : Lane) : (s.setLane n v).mem = s.mem := by unfold setLane; rfl
@[simp] theorem setLane_cway (s : State) (n : Nat) (v : Lane) : (s.setLane n v).cway = s.cway := by unfold setLane; rfl
@[simp] theorem setLane_verge (s : State) (n : Nat) (v : Lane) : (s.setLane n v).verge = s.verge := by unfold setLane; rfl
@[simp] theorem setLane_stn (s : State) (n : Nat) (v : Lane) : (s.setLane n v).stn = s.stn := by unfold setLane; rfl
@[simp] theorem setLane_toll (s : State) (n : Nat) (v : Lane) : (s.setLane n v).toll = s.toll := by unfold setLane; rfl
@[simp] theorem setLane_alarm (s : State) (n : Nat) (v : Lane) : (s.setLane n v).alarm = s.alarm := by unfold setLane; rfl
@[simp] theorem setLane_sp (s : State) (n : Nat) (v : Lane) : (s.setLane n v).sp = s.sp := by unfold setLane; rfl
@[simp] theorem setLane_mile (s : State) (n : Nat) (v : Lane) : (s.setLane n v).mile = s.mile := by unfold setLane; rfl
@[simp] theorem setLane_way (s : State) (n : Nat) (v : Lane) : (s.setLane n v).way = s.way := by unfold setLane; rfl
@[simp] theorem setLane_trip (s : State) (n : Nat) (v : Lane) : (s.setLane n v).trip = s.trip := by unfold setLane; rfl
@[simp] theorem setLane_promoted (s : State) (n : Nat) (v : Lane) : (s.setLane n v).promoted = s.promoted := by unfold setLane; rfl
@[simp] theorem setLane_notes (s : State) (n : Nat) (v : Lane) : (s.setLane n v).notes = s.notes := by unfold setLane; rfl
@[simp] theorem setLane_sent (s : State) (n : Nat) (v : Lane) : (s.setLane n v).sent = s.sent := by unfold setLane; rfl
@[simp] theorem setLane_pending (s : State) (n : Nat) (v : Lane) : (s.setLane n v).pending = s.pending := by unfold setLane; rfl
@[simp] theorem lane_setLane_same (s : State) (n : Nat) (v : Lane) : (s.setLane n v).lane n = v := by simp [setLane, lane]
@[simp] theorem lane_setLane_other (s : State) {i j : Nat} (v : Lane) (h : i ≠ j) :
    (s.setLane i v).lane j = s.lane j := by simp [setLane, lane, h]

@[simp] theorem setQueue_now (s : State) (q : Nat) (v : Queue) : (s.setQueue q v).now = s.now := by unfold setQueue; rfl
@[simp] theorem setQueue_isN (s : State) (q : Nat) (v : Queue) : (s.setQueue q v).isN = s.isN := by unfold setQueue; rfl
@[simp] theorem setQueue_free (s : State) (q : Nat) (v : Queue) : (s.setQueue q v).free = s.free := by unfold setQueue; rfl
@[simp] theorem setQueue_once (s : State) (q : Nat) (v : Queue) : (s.setQueue q v).once = s.once := by unfold setQueue; rfl
@[simp] theorem setQueue_pins (s : State) (q : Nat) (v : Queue) : (s.setQueue q v).pins = s.pins := by unfold setQueue; rfl
@[simp] theorem setQueue_start (s : State) (q : Nat) (v : Queue) : (s.setQueue q v).start = s.start := by unfold setQueue; rfl
@[simp] theorem setQueue_nor (s : State) (q : Nat) (v : Queue) : (s.setQueue q v).nor = s.nor := by unfold setQueue; rfl
@[simp] theorem setQueue_image (s : State) (q : Nat) (v : Queue) : (s.setQueue q v).image = s.image := by unfold setQueue; rfl
@[simp] theorem setQueue_cus (s : State) (q : Nat) (v : Queue) : (s.setQueue q v).cus = s.cus := by unfold setQueue; rfl
@[simp] theorem setQueue_otp (s : State) (q : Nat) (v : Queue) : (s.setQueue q v).otp = s.otp := by unfold setQueue; rfl
@[simp] theorem setQueue_keys (s : State) (q : Nat) (v : Queue) : (s.setQueue q v).keys = s.keys := by unfold setQueue; rfl
@[simp] theorem setQueue_trng (s : State) (q : Nat) (v : Queue) : (s.setQueue q v).trng = s.trng := by unfold setQueue; rfl
@[simp] theorem setQueue_jun (s : State) (q : Nat) (v : Queue) : (s.setQueue q v).jun = s.jun := by unfold setQueue; rfl
@[simp] theorem setQueue_lanes (s : State) (q : Nat) (v : Queue) : (s.setQueue q v).lanes = s.lanes := by unfold setQueue; rfl
@[simp] theorem setQueue_tenants (s : State) (q : Nat) (v : Queue) : (s.setQueue q v).tenants = s.tenants := by unfold setQueue; rfl
@[simp] theorem setQueue_link (s : State) (q : Nat) (v : Queue) : (s.setQueue q v).link = s.link := by unfold setQueue; rfl
@[simp] theorem setQueue_zheac (s : State) (q : Nat) (v : Queue) : (s.setQueue q v).zheac = s.zheac := by unfold setQueue; rfl
@[simp] theorem setQueue_mem (s : State) (q : Nat) (v : Queue) : (s.setQueue q v).mem = s.mem := by unfold setQueue; rfl
@[simp] theorem setQueue_cway (s : State) (q : Nat) (v : Queue) : (s.setQueue q v).cway = s.cway := by unfold setQueue; rfl
@[simp] theorem setQueue_verge (s : State) (q : Nat) (v : Queue) : (s.setQueue q v).verge = s.verge := by unfold setQueue; rfl
@[simp] theorem setQueue_stn (s : State) (q : Nat) (v : Queue) : (s.setQueue q v).stn = s.stn := by unfold setQueue; rfl
@[simp] theorem setQueue_toll (s : State) (q : Nat) (v : Queue) : (s.setQueue q v).toll = s.toll := by unfold setQueue; rfl
@[simp] theorem setQueue_alarm (s : State) (q : Nat) (v : Queue) : (s.setQueue q v).alarm = s.alarm := by unfold setQueue; rfl
@[simp] theorem setQueue_sp (s : State) (q : Nat) (v : Queue) : (s.setQueue q v).sp = s.sp := by unfold setQueue; rfl
@[simp] theorem setQueue_mile (s : State) (q : Nat) (v : Queue) : (s.setQueue q v).mile = s.mile := by unfold setQueue; rfl
@[simp] theorem setQueue_way (s : State) (q : Nat) (v : Queue) : (s.setQueue q v).way = s.way := by unfold setQueue; rfl
@[simp] theorem setQueue_trip (s : State) (q : Nat) (v : Queue) : (s.setQueue q v).trip = s.trip := by unfold setQueue; rfl
@[simp] theorem setQueue_promoted (s : State) (q : Nat) (v : Queue) : (s.setQueue q v).promoted = s.promoted := by unfold setQueue; rfl
@[simp] theorem setQueue_notes (s : State) (q : Nat) (v : Queue) : (s.setQueue q v).notes = s.notes := by unfold setQueue; rfl
@[simp] theorem setQueue_sent (s : State) (q : Nat) (v : Queue) : (s.setQueue q v).sent = s.sent := by unfold setQueue; rfl
@[simp] theorem setQueue_pending (s : State) (q : Nat) (v : Queue) : (s.setQueue q v).pending = s.pending := by unfold setQueue; rfl
@[simp] theorem queue_setQueue_same (s : State) (q : Nat) (v : Queue) : (s.setQueue q v).queue q = v := by simp [setQueue, queue]
@[simp] theorem queue_setQueue_other (s : State) {i j : Nat} (v : Queue) (h : i ≠ j) :
    (s.setQueue i v).queue j = s.queue j := by simp [setQueue, queue, h]

@[simp] theorem setSched_now (s : State) (n : Nat) (v : Sched) : (s.setSched n v).now = s.now := by unfold setSched; rfl
@[simp] theorem setSched_isN (s : State) (n : Nat) (v : Sched) : (s.setSched n v).isN = s.isN := by unfold setSched; rfl
@[simp] theorem setSched_free (s : State) (n : Nat) (v : Sched) : (s.setSched n v).free = s.free := by unfold setSched; rfl
@[simp] theorem setSched_once (s : State) (n : Nat) (v : Sched) : (s.setSched n v).once = s.once := by unfold setSched; rfl
@[simp] theorem setSched_pins (s : State) (n : Nat) (v : Sched) : (s.setSched n v).pins = s.pins := by unfold setSched; rfl
@[simp] theorem setSched_start (s : State) (n : Nat) (v : Sched) : (s.setSched n v).start = s.start := by unfold setSched; rfl
@[simp] theorem setSched_nor (s : State) (n : Nat) (v : Sched) : (s.setSched n v).nor = s.nor := by unfold setSched; rfl
@[simp] theorem setSched_image (s : State) (n : Nat) (v : Sched) : (s.setSched n v).image = s.image := by unfold setSched; rfl
@[simp] theorem setSched_cus (s : State) (n : Nat) (v : Sched) : (s.setSched n v).cus = s.cus := by unfold setSched; rfl
@[simp] theorem setSched_otp (s : State) (n : Nat) (v : Sched) : (s.setSched n v).otp = s.otp := by unfold setSched; rfl
@[simp] theorem setSched_keys (s : State) (n : Nat) (v : Sched) : (s.setSched n v).keys = s.keys := by unfold setSched; rfl
@[simp] theorem setSched_trng (s : State) (n : Nat) (v : Sched) : (s.setSched n v).trng = s.trng := by unfold setSched; rfl
@[simp] theorem setSched_jun (s : State) (n : Nat) (v : Sched) : (s.setSched n v).jun = s.jun := by unfold setSched; rfl
@[simp] theorem setSched_lanes (s : State) (n : Nat) (v : Sched) : (s.setSched n v).lanes = s.lanes := by unfold setSched; rfl
@[simp] theorem setSched_tenants (s : State) (n : Nat) (v : Sched) : (s.setSched n v).tenants = s.tenants := by unfold setSched; rfl
@[simp] theorem setSched_link (s : State) (n : Nat) (v : Sched) : (s.setSched n v).link = s.link := by unfold setSched; rfl
@[simp] theorem setSched_zheac (s : State) (n : Nat) (v : Sched) : (s.setSched n v).zheac = s.zheac := by unfold setSched; rfl
@[simp] theorem setSched_mem (s : State) (n : Nat) (v : Sched) : (s.setSched n v).mem = s.mem := by unfold setSched; rfl
@[simp] theorem setSched_cway (s : State) (n : Nat) (v : Sched) : (s.setSched n v).cway = s.cway := by unfold setSched; rfl
@[simp] theorem setSched_verge (s : State) (n : Nat) (v : Sched) : (s.setSched n v).verge = s.verge := by unfold setSched; rfl
@[simp] theorem setSched_stn (s : State) (n : Nat) (v : Sched) : (s.setSched n v).stn = s.stn := by unfold setSched; rfl
@[simp] theorem setSched_toll (s : State) (n : Nat) (v : Sched) : (s.setSched n v).toll = s.toll := by unfold setSched; rfl
@[simp] theorem setSched_alarm (s : State) (n : Nat) (v : Sched) : (s.setSched n v).alarm = s.alarm := by unfold setSched; rfl
@[simp] theorem setSched_sp (s : State) (n : Nat) (v : Sched) : (s.setSched n v).sp = s.sp := by unfold setSched; rfl
@[simp] theorem setSched_mile (s : State) (n : Nat) (v : Sched) : (s.setSched n v).mile = s.mile := by unfold setSched; rfl
@[simp] theorem setSched_way (s : State) (n : Nat) (v : Sched) : (s.setSched n v).way = s.way := by unfold setSched; rfl
@[simp] theorem setSched_trip (s : State) (n : Nat) (v : Sched) : (s.setSched n v).trip = s.trip := by unfold setSched; rfl
@[simp] theorem setSched_promoted (s : State) (n : Nat) (v : Sched) : (s.setSched n v).promoted = s.promoted := by unfold setSched; rfl
@[simp] theorem setSched_notes (s : State) (n : Nat) (v : Sched) : (s.setSched n v).notes = s.notes := by unfold setSched; rfl
@[simp] theorem setSched_sent (s : State) (n : Nat) (v : Sched) : (s.setSched n v).sent = s.sent := by unfold setSched; rfl
@[simp] theorem setSched_pending (s : State) (n : Nat) (v : Sched) : (s.setSched n v).pending = s.pending := by unfold setSched; rfl
@[simp] theorem sched_setSched_same (s : State) (n : Nat) (v : Sched) : (s.setSched n v).sched n = v := by simp [setSched, sched]
@[simp] theorem sched_setSched_other (s : State) {i j : Nat} (v : Sched) (h : i ≠ j) :
    (s.setSched i v).sched j = s.sched j := by simp [setSched, sched, h]

@[simp] theorem setTx_now (s : State) (x : Nat) (v : TxStream) : (s.setTx x v).now = s.now := by unfold setTx; rfl
@[simp] theorem setTx_isN (s : State) (x : Nat) (v : TxStream) : (s.setTx x v).isN = s.isN := by unfold setTx; rfl
@[simp] theorem setTx_free (s : State) (x : Nat) (v : TxStream) : (s.setTx x v).free = s.free := by unfold setTx; rfl
@[simp] theorem setTx_once (s : State) (x : Nat) (v : TxStream) : (s.setTx x v).once = s.once := by unfold setTx; rfl
@[simp] theorem setTx_pins (s : State) (x : Nat) (v : TxStream) : (s.setTx x v).pins = s.pins := by unfold setTx; rfl
@[simp] theorem setTx_start (s : State) (x : Nat) (v : TxStream) : (s.setTx x v).start = s.start := by unfold setTx; rfl
@[simp] theorem setTx_nor (s : State) (x : Nat) (v : TxStream) : (s.setTx x v).nor = s.nor := by unfold setTx; rfl
@[simp] theorem setTx_image (s : State) (x : Nat) (v : TxStream) : (s.setTx x v).image = s.image := by unfold setTx; rfl
@[simp] theorem setTx_cus (s : State) (x : Nat) (v : TxStream) : (s.setTx x v).cus = s.cus := by unfold setTx; rfl
@[simp] theorem setTx_otp (s : State) (x : Nat) (v : TxStream) : (s.setTx x v).otp = s.otp := by unfold setTx; rfl
@[simp] theorem setTx_keys (s : State) (x : Nat) (v : TxStream) : (s.setTx x v).keys = s.keys := by unfold setTx; rfl
@[simp] theorem setTx_trng (s : State) (x : Nat) (v : TxStream) : (s.setTx x v).trng = s.trng := by unfold setTx; rfl
@[simp] theorem setTx_jun (s : State) (x : Nat) (v : TxStream) : (s.setTx x v).jun = s.jun := by unfold setTx; rfl
@[simp] theorem setTx_lanes (s : State) (x : Nat) (v : TxStream) : (s.setTx x v).lanes = s.lanes := by unfold setTx; rfl
@[simp] theorem setTx_tenants (s : State) (x : Nat) (v : TxStream) : (s.setTx x v).tenants = s.tenants := by unfold setTx; rfl
@[simp] theorem setTx_tp (s : State) (x : Nat) (v : TxStream) : (s.setTx x v).tp = s.tp := by unfold setTx; rfl
@[simp] theorem setTx_zheac (s : State) (x : Nat) (v : TxStream) : (s.setTx x v).zheac = s.zheac := by unfold setTx; rfl
@[simp] theorem setTx_mem (s : State) (x : Nat) (v : TxStream) : (s.setTx x v).mem = s.mem := by unfold setTx; rfl
@[simp] theorem setTx_cway (s : State) (x : Nat) (v : TxStream) : (s.setTx x v).cway = s.cway := by unfold setTx; rfl
@[simp] theorem setTx_verge (s : State) (x : Nat) (v : TxStream) : (s.setTx x v).verge = s.verge := by unfold setTx; rfl
@[simp] theorem setTx_stn (s : State) (x : Nat) (v : TxStream) : (s.setTx x v).stn = s.stn := by unfold setTx; rfl
@[simp] theorem setTx_toll (s : State) (x : Nat) (v : TxStream) : (s.setTx x v).toll = s.toll := by unfold setTx; rfl
@[simp] theorem setTx_alarm (s : State) (x : Nat) (v : TxStream) : (s.setTx x v).alarm = s.alarm := by unfold setTx; rfl
@[simp] theorem setTx_sp (s : State) (x : Nat) (v : TxStream) : (s.setTx x v).sp = s.sp := by unfold setTx; rfl
@[simp] theorem setTx_mile (s : State) (x : Nat) (v : TxStream) : (s.setTx x v).mile = s.mile := by unfold setTx; rfl
@[simp] theorem setTx_way (s : State) (x : Nat) (v : TxStream) : (s.setTx x v).way = s.way := by unfold setTx; rfl
@[simp] theorem setTx_trip (s : State) (x : Nat) (v : TxStream) : (s.setTx x v).trip = s.trip := by unfold setTx; rfl
@[simp] theorem setTx_promoted (s : State) (x : Nat) (v : TxStream) : (s.setTx x v).promoted = s.promoted := by unfold setTx; rfl
@[simp] theorem setTx_notes (s : State) (x : Nat) (v : TxStream) : (s.setTx x v).notes = s.notes := by unfold setTx; rfl
@[simp] theorem setTx_sent (s : State) (x : Nat) (v : TxStream) : (s.setTx x v).sent = s.sent := by unfold setTx; rfl
@[simp] theorem setTx_pending (s : State) (x : Nat) (v : TxStream) : (s.setTx x v).pending = s.pending := by unfold setTx; rfl
@[simp] theorem txStream_setTx_same (s : State) (x : Nat) (v : TxStream) : (s.setTx x v).txStream x = v := by simp [setTx, txStream]
@[simp] theorem txStream_setTx_other (s : State) {i j : Nat} (v : TxStream) (h : i ≠ j) :
    (s.setTx i v).txStream j = s.txStream j := by simp [setTx, txStream, h]

@[simp] theorem setRx_now (s : State) (x : Nat) (v : RxStream) : (s.setRx x v).now = s.now := by unfold setRx; rfl
@[simp] theorem setRx_isN (s : State) (x : Nat) (v : RxStream) : (s.setRx x v).isN = s.isN := by unfold setRx; rfl
@[simp] theorem setRx_free (s : State) (x : Nat) (v : RxStream) : (s.setRx x v).free = s.free := by unfold setRx; rfl
@[simp] theorem setRx_once (s : State) (x : Nat) (v : RxStream) : (s.setRx x v).once = s.once := by unfold setRx; rfl
@[simp] theorem setRx_pins (s : State) (x : Nat) (v : RxStream) : (s.setRx x v).pins = s.pins := by unfold setRx; rfl
@[simp] theorem setRx_start (s : State) (x : Nat) (v : RxStream) : (s.setRx x v).start = s.start := by unfold setRx; rfl
@[simp] theorem setRx_nor (s : State) (x : Nat) (v : RxStream) : (s.setRx x v).nor = s.nor := by unfold setRx; rfl
@[simp] theorem setRx_image (s : State) (x : Nat) (v : RxStream) : (s.setRx x v).image = s.image := by unfold setRx; rfl
@[simp] theorem setRx_cus (s : State) (x : Nat) (v : RxStream) : (s.setRx x v).cus = s.cus := by unfold setRx; rfl
@[simp] theorem setRx_otp (s : State) (x : Nat) (v : RxStream) : (s.setRx x v).otp = s.otp := by unfold setRx; rfl
@[simp] theorem setRx_keys (s : State) (x : Nat) (v : RxStream) : (s.setRx x v).keys = s.keys := by unfold setRx; rfl
@[simp] theorem setRx_trng (s : State) (x : Nat) (v : RxStream) : (s.setRx x v).trng = s.trng := by unfold setRx; rfl
@[simp] theorem setRx_jun (s : State) (x : Nat) (v : RxStream) : (s.setRx x v).jun = s.jun := by unfold setRx; rfl
@[simp] theorem setRx_lanes (s : State) (x : Nat) (v : RxStream) : (s.setRx x v).lanes = s.lanes := by unfold setRx; rfl
@[simp] theorem setRx_tenants (s : State) (x : Nat) (v : RxStream) : (s.setRx x v).tenants = s.tenants := by unfold setRx; rfl
@[simp] theorem setRx_tp (s : State) (x : Nat) (v : RxStream) : (s.setRx x v).tp = s.tp := by unfold setRx; rfl
@[simp] theorem setRx_zheac (s : State) (x : Nat) (v : RxStream) : (s.setRx x v).zheac = s.zheac := by unfold setRx; rfl
@[simp] theorem setRx_mem (s : State) (x : Nat) (v : RxStream) : (s.setRx x v).mem = s.mem := by unfold setRx; rfl
@[simp] theorem setRx_cway (s : State) (x : Nat) (v : RxStream) : (s.setRx x v).cway = s.cway := by unfold setRx; rfl
@[simp] theorem setRx_verge (s : State) (x : Nat) (v : RxStream) : (s.setRx x v).verge = s.verge := by unfold setRx; rfl
@[simp] theorem setRx_stn (s : State) (x : Nat) (v : RxStream) : (s.setRx x v).stn = s.stn := by unfold setRx; rfl
@[simp] theorem setRx_toll (s : State) (x : Nat) (v : RxStream) : (s.setRx x v).toll = s.toll := by unfold setRx; rfl
@[simp] theorem setRx_alarm (s : State) (x : Nat) (v : RxStream) : (s.setRx x v).alarm = s.alarm := by unfold setRx; rfl
@[simp] theorem setRx_sp (s : State) (x : Nat) (v : RxStream) : (s.setRx x v).sp = s.sp := by unfold setRx; rfl
@[simp] theorem setRx_mile (s : State) (x : Nat) (v : RxStream) : (s.setRx x v).mile = s.mile := by unfold setRx; rfl
@[simp] theorem setRx_way (s : State) (x : Nat) (v : RxStream) : (s.setRx x v).way = s.way := by unfold setRx; rfl
@[simp] theorem setRx_trip (s : State) (x : Nat) (v : RxStream) : (s.setRx x v).trip = s.trip := by unfold setRx; rfl
@[simp] theorem setRx_promoted (s : State) (x : Nat) (v : RxStream) : (s.setRx x v).promoted = s.promoted := by unfold setRx; rfl
@[simp] theorem setRx_notes (s : State) (x : Nat) (v : RxStream) : (s.setRx x v).notes = s.notes := by unfold setRx; rfl
@[simp] theorem setRx_sent (s : State) (x : Nat) (v : RxStream) : (s.setRx x v).sent = s.sent := by unfold setRx; rfl
@[simp] theorem setRx_pending (s : State) (x : Nat) (v : RxStream) : (s.setRx x v).pending = s.pending := by unfold setRx; rfl
@[simp] theorem rxStream_setRx_same (s : State) (x : Nat) (v : RxStream) : (s.setRx x v).rxStream x = v := by simp [setRx, rxStream]
@[simp] theorem rxStream_setRx_other (s : State) {i j : Nat} (v : RxStream) (h : i ≠ j) :
    (s.setRx i v).rxStream j = s.rxStream j := by simp [setRx, rxStream, h]

@[simp] theorem setGroup_now (s : State) (g : Nat) (v : ZGroup) : (s.setGroup g v).now = s.now := by unfold setGroup; rfl
@[simp] theorem setGroup_isN (s : State) (g : Nat) (v : ZGroup) : (s.setGroup g v).isN = s.isN := by unfold setGroup; rfl
@[simp] theorem setGroup_free (s : State) (g : Nat) (v : ZGroup) : (s.setGroup g v).free = s.free := by unfold setGroup; rfl
@[simp] theorem setGroup_once (s : State) (g : Nat) (v : ZGroup) : (s.setGroup g v).once = s.once := by unfold setGroup; rfl
@[simp] theorem setGroup_pins (s : State) (g : Nat) (v : ZGroup) : (s.setGroup g v).pins = s.pins := by unfold setGroup; rfl
@[simp] theorem setGroup_start (s : State) (g : Nat) (v : ZGroup) : (s.setGroup g v).start = s.start := by unfold setGroup; rfl
@[simp] theorem setGroup_nor (s : State) (g : Nat) (v : ZGroup) : (s.setGroup g v).nor = s.nor := by unfold setGroup; rfl
@[simp] theorem setGroup_image (s : State) (g : Nat) (v : ZGroup) : (s.setGroup g v).image = s.image := by unfold setGroup; rfl
@[simp] theorem setGroup_cus (s : State) (g : Nat) (v : ZGroup) : (s.setGroup g v).cus = s.cus := by unfold setGroup; rfl
@[simp] theorem setGroup_otp (s : State) (g : Nat) (v : ZGroup) : (s.setGroup g v).otp = s.otp := by unfold setGroup; rfl
@[simp] theorem setGroup_keys (s : State) (g : Nat) (v : ZGroup) : (s.setGroup g v).keys = s.keys := by unfold setGroup; rfl
@[simp] theorem setGroup_trng (s : State) (g : Nat) (v : ZGroup) : (s.setGroup g v).trng = s.trng := by unfold setGroup; rfl
@[simp] theorem setGroup_jun (s : State) (g : Nat) (v : ZGroup) : (s.setGroup g v).jun = s.jun := by unfold setGroup; rfl
@[simp] theorem setGroup_lanes (s : State) (g : Nat) (v : ZGroup) : (s.setGroup g v).lanes = s.lanes := by unfold setGroup; rfl
@[simp] theorem setGroup_tenants (s : State) (g : Nat) (v : ZGroup) : (s.setGroup g v).tenants = s.tenants := by unfold setGroup; rfl
@[simp] theorem setGroup_tp (s : State) (g : Nat) (v : ZGroup) : (s.setGroup g v).tp = s.tp := by unfold setGroup; rfl
@[simp] theorem setGroup_link (s : State) (g : Nat) (v : ZGroup) : (s.setGroup g v).link = s.link := by unfold setGroup; rfl
@[simp] theorem setGroup_mem (s : State) (g : Nat) (v : ZGroup) : (s.setGroup g v).mem = s.mem := by unfold setGroup; rfl
@[simp] theorem setGroup_cway (s : State) (g : Nat) (v : ZGroup) : (s.setGroup g v).cway = s.cway := by unfold setGroup; rfl
@[simp] theorem setGroup_verge (s : State) (g : Nat) (v : ZGroup) : (s.setGroup g v).verge = s.verge := by unfold setGroup; rfl
@[simp] theorem setGroup_stn (s : State) (g : Nat) (v : ZGroup) : (s.setGroup g v).stn = s.stn := by unfold setGroup; rfl
@[simp] theorem setGroup_toll (s : State) (g : Nat) (v : ZGroup) : (s.setGroup g v).toll = s.toll := by unfold setGroup; rfl
@[simp] theorem setGroup_alarm (s : State) (g : Nat) (v : ZGroup) : (s.setGroup g v).alarm = s.alarm := by unfold setGroup; rfl
@[simp] theorem setGroup_sp (s : State) (g : Nat) (v : ZGroup) : (s.setGroup g v).sp = s.sp := by unfold setGroup; rfl
@[simp] theorem setGroup_mile (s : State) (g : Nat) (v : ZGroup) : (s.setGroup g v).mile = s.mile := by unfold setGroup; rfl
@[simp] theorem setGroup_way (s : State) (g : Nat) (v : ZGroup) : (s.setGroup g v).way = s.way := by unfold setGroup; rfl
@[simp] theorem setGroup_trip (s : State) (g : Nat) (v : ZGroup) : (s.setGroup g v).trip = s.trip := by unfold setGroup; rfl
@[simp] theorem setGroup_promoted (s : State) (g : Nat) (v : ZGroup) : (s.setGroup g v).promoted = s.promoted := by unfold setGroup; rfl
@[simp] theorem setGroup_notes (s : State) (g : Nat) (v : ZGroup) : (s.setGroup g v).notes = s.notes := by unfold setGroup; rfl
@[simp] theorem setGroup_sent (s : State) (g : Nat) (v : ZGroup) : (s.setGroup g v).sent = s.sent := by unfold setGroup; rfl
@[simp] theorem setGroup_pending (s : State) (g : Nat) (v : ZGroup) : (s.setGroup g v).pending = s.pending := by unfold setGroup; rfl
@[simp] theorem zgroup_setGroup_same (s : State) (g : Nat) (v : ZGroup) : (s.setGroup g v).zgroup g = v := by simp [setGroup, zgroup]
@[simp] theorem zgroup_setGroup_other (s : State) {i j : Nat} (v : ZGroup) (h : i ≠ j) :
    (s.setGroup i v).zgroup j = s.zgroup j := by simp [setGroup, zgroup, h]

@[simp] theorem setRegion_now (s : State) (r : Nat) (v : Region) : (s.setRegion r v).now = s.now := by unfold setRegion; rfl
@[simp] theorem setRegion_isN (s : State) (r : Nat) (v : Region) : (s.setRegion r v).isN = s.isN := by unfold setRegion; rfl
@[simp] theorem setRegion_free (s : State) (r : Nat) (v : Region) : (s.setRegion r v).free = s.free := by unfold setRegion; rfl
@[simp] theorem setRegion_once (s : State) (r : Nat) (v : Region) : (s.setRegion r v).once = s.once := by unfold setRegion; rfl
@[simp] theorem setRegion_pins (s : State) (r : Nat) (v : Region) : (s.setRegion r v).pins = s.pins := by unfold setRegion; rfl
@[simp] theorem setRegion_start (s : State) (r : Nat) (v : Region) : (s.setRegion r v).start = s.start := by unfold setRegion; rfl
@[simp] theorem setRegion_nor (s : State) (r : Nat) (v : Region) : (s.setRegion r v).nor = s.nor := by unfold setRegion; rfl
@[simp] theorem setRegion_image (s : State) (r : Nat) (v : Region) : (s.setRegion r v).image = s.image := by unfold setRegion; rfl
@[simp] theorem setRegion_cus (s : State) (r : Nat) (v : Region) : (s.setRegion r v).cus = s.cus := by unfold setRegion; rfl
@[simp] theorem setRegion_otp (s : State) (r : Nat) (v : Region) : (s.setRegion r v).otp = s.otp := by unfold setRegion; rfl
@[simp] theorem setRegion_keys (s : State) (r : Nat) (v : Region) : (s.setRegion r v).keys = s.keys := by unfold setRegion; rfl
@[simp] theorem setRegion_trng (s : State) (r : Nat) (v : Region) : (s.setRegion r v).trng = s.trng := by unfold setRegion; rfl
@[simp] theorem setRegion_jun (s : State) (r : Nat) (v : Region) : (s.setRegion r v).jun = s.jun := by unfold setRegion; rfl
@[simp] theorem setRegion_lanes (s : State) (r : Nat) (v : Region) : (s.setRegion r v).lanes = s.lanes := by unfold setRegion; rfl
@[simp] theorem setRegion_tenants (s : State) (r : Nat) (v : Region) : (s.setRegion r v).tenants = s.tenants := by unfold setRegion; rfl
@[simp] theorem setRegion_tp (s : State) (r : Nat) (v : Region) : (s.setRegion r v).tp = s.tp := by unfold setRegion; rfl
@[simp] theorem setRegion_link (s : State) (r : Nat) (v : Region) : (s.setRegion r v).link = s.link := by unfold setRegion; rfl
@[simp] theorem setRegion_zheac (s : State) (r : Nat) (v : Region) : (s.setRegion r v).zheac = s.zheac := by unfold setRegion; rfl
@[simp] theorem setRegion_cway (s : State) (r : Nat) (v : Region) : (s.setRegion r v).cway = s.cway := by unfold setRegion; rfl
@[simp] theorem setRegion_verge (s : State) (r : Nat) (v : Region) : (s.setRegion r v).verge = s.verge := by unfold setRegion; rfl
@[simp] theorem setRegion_stn (s : State) (r : Nat) (v : Region) : (s.setRegion r v).stn = s.stn := by unfold setRegion; rfl
@[simp] theorem setRegion_toll (s : State) (r : Nat) (v : Region) : (s.setRegion r v).toll = s.toll := by unfold setRegion; rfl
@[simp] theorem setRegion_alarm (s : State) (r : Nat) (v : Region) : (s.setRegion r v).alarm = s.alarm := by unfold setRegion; rfl
@[simp] theorem setRegion_sp (s : State) (r : Nat) (v : Region) : (s.setRegion r v).sp = s.sp := by unfold setRegion; rfl
@[simp] theorem setRegion_mile (s : State) (r : Nat) (v : Region) : (s.setRegion r v).mile = s.mile := by unfold setRegion; rfl
@[simp] theorem setRegion_way (s : State) (r : Nat) (v : Region) : (s.setRegion r v).way = s.way := by unfold setRegion; rfl
@[simp] theorem setRegion_trip (s : State) (r : Nat) (v : Region) : (s.setRegion r v).trip = s.trip := by unfold setRegion; rfl
@[simp] theorem setRegion_promoted (s : State) (r : Nat) (v : Region) : (s.setRegion r v).promoted = s.promoted := by unfold setRegion; rfl
@[simp] theorem setRegion_notes (s : State) (r : Nat) (v : Region) : (s.setRegion r v).notes = s.notes := by unfold setRegion; rfl
@[simp] theorem setRegion_sent (s : State) (r : Nat) (v : Region) : (s.setRegion r v).sent = s.sent := by unfold setRegion; rfl
@[simp] theorem setRegion_pending (s : State) (r : Nat) (v : Region) : (s.setRegion r v).pending = s.pending := by unfold setRegion; rfl
@[simp] theorem region_setRegion_same (s : State) (r : Nat) (v : Region) : (s.setRegion r v).region r = v := by simp [setRegion, region]
@[simp] theorem region_setRegion_other (s : State) {i j : Nat} (v : Region) (h : i ≠ j) :
    (s.setRegion i v).region j = s.region j := by simp [setRegion, region, h]

@[simp] theorem setCtrLine_now (s : State) (k : Nat) (v : CtrLine) : (s.setCtrLine k v).now = s.now := by unfold setCtrLine; rfl
@[simp] theorem setCtrLine_isN (s : State) (k : Nat) (v : CtrLine) : (s.setCtrLine k v).isN = s.isN := by unfold setCtrLine; rfl
@[simp] theorem setCtrLine_free (s : State) (k : Nat) (v : CtrLine) : (s.setCtrLine k v).free = s.free := by unfold setCtrLine; rfl
@[simp] theorem setCtrLine_once (s : State) (k : Nat) (v : CtrLine) : (s.setCtrLine k v).once = s.once := by unfold setCtrLine; rfl
@[simp] theorem setCtrLine_pins (s : State) (k : Nat) (v : CtrLine) : (s.setCtrLine k v).pins = s.pins := by unfold setCtrLine; rfl
@[simp] theorem setCtrLine_start (s : State) (k : Nat) (v : CtrLine) : (s.setCtrLine k v).start = s.start := by unfold setCtrLine; rfl
@[simp] theorem setCtrLine_nor (s : State) (k : Nat) (v : CtrLine) : (s.setCtrLine k v).nor = s.nor := by unfold setCtrLine; rfl
@[simp] theorem setCtrLine_image (s : State) (k : Nat) (v : CtrLine) : (s.setCtrLine k v).image = s.image := by unfold setCtrLine; rfl
@[simp] theorem setCtrLine_cus (s : State) (k : Nat) (v : CtrLine) : (s.setCtrLine k v).cus = s.cus := by unfold setCtrLine; rfl
@[simp] theorem setCtrLine_otp (s : State) (k : Nat) (v : CtrLine) : (s.setCtrLine k v).otp = s.otp := by unfold setCtrLine; rfl
@[simp] theorem setCtrLine_keys (s : State) (k : Nat) (v : CtrLine) : (s.setCtrLine k v).keys = s.keys := by unfold setCtrLine; rfl
@[simp] theorem setCtrLine_trng (s : State) (k : Nat) (v : CtrLine) : (s.setCtrLine k v).trng = s.trng := by unfold setCtrLine; rfl
@[simp] theorem setCtrLine_jun (s : State) (k : Nat) (v : CtrLine) : (s.setCtrLine k v).jun = s.jun := by unfold setCtrLine; rfl
@[simp] theorem setCtrLine_lanes (s : State) (k : Nat) (v : CtrLine) : (s.setCtrLine k v).lanes = s.lanes := by unfold setCtrLine; rfl
@[simp] theorem setCtrLine_tenants (s : State) (k : Nat) (v : CtrLine) : (s.setCtrLine k v).tenants = s.tenants := by unfold setCtrLine; rfl
@[simp] theorem setCtrLine_tp (s : State) (k : Nat) (v : CtrLine) : (s.setCtrLine k v).tp = s.tp := by unfold setCtrLine; rfl
@[simp] theorem setCtrLine_link (s : State) (k : Nat) (v : CtrLine) : (s.setCtrLine k v).link = s.link := by unfold setCtrLine; rfl
@[simp] theorem setCtrLine_zheac (s : State) (k : Nat) (v : CtrLine) : (s.setCtrLine k v).zheac = s.zheac := by unfold setCtrLine; rfl
@[simp] theorem setCtrLine_cway (s : State) (k : Nat) (v : CtrLine) : (s.setCtrLine k v).cway = s.cway := by unfold setCtrLine; rfl
@[simp] theorem setCtrLine_verge (s : State) (k : Nat) (v : CtrLine) : (s.setCtrLine k v).verge = s.verge := by unfold setCtrLine; rfl
@[simp] theorem setCtrLine_stn (s : State) (k : Nat) (v : CtrLine) : (s.setCtrLine k v).stn = s.stn := by unfold setCtrLine; rfl
@[simp] theorem setCtrLine_toll (s : State) (k : Nat) (v : CtrLine) : (s.setCtrLine k v).toll = s.toll := by unfold setCtrLine; rfl
@[simp] theorem setCtrLine_alarm (s : State) (k : Nat) (v : CtrLine) : (s.setCtrLine k v).alarm = s.alarm := by unfold setCtrLine; rfl
@[simp] theorem setCtrLine_sp (s : State) (k : Nat) (v : CtrLine) : (s.setCtrLine k v).sp = s.sp := by unfold setCtrLine; rfl
@[simp] theorem setCtrLine_mile (s : State) (k : Nat) (v : CtrLine) : (s.setCtrLine k v).mile = s.mile := by unfold setCtrLine; rfl
@[simp] theorem setCtrLine_way (s : State) (k : Nat) (v : CtrLine) : (s.setCtrLine k v).way = s.way := by unfold setCtrLine; rfl
@[simp] theorem setCtrLine_trip (s : State) (k : Nat) (v : CtrLine) : (s.setCtrLine k v).trip = s.trip := by unfold setCtrLine; rfl
@[simp] theorem setCtrLine_promoted (s : State) (k : Nat) (v : CtrLine) : (s.setCtrLine k v).promoted = s.promoted := by unfold setCtrLine; rfl
@[simp] theorem setCtrLine_notes (s : State) (k : Nat) (v : CtrLine) : (s.setCtrLine k v).notes = s.notes := by unfold setCtrLine; rfl
@[simp] theorem setCtrLine_sent (s : State) (k : Nat) (v : CtrLine) : (s.setCtrLine k v).sent = s.sent := by unfold setCtrLine; rfl
@[simp] theorem setCtrLine_pending (s : State) (k : Nat) (v : CtrLine) : (s.setCtrLine k v).pending = s.pending := by unfold setCtrLine; rfl
@[simp] theorem ctrLine_setCtrLine_same (s : State) (k : Nat) (v : CtrLine) : (s.setCtrLine k v).ctrLine k = v := by simp [setCtrLine, ctrLine]
@[simp] theorem ctrLine_setCtrLine_other (s : State) {i j : Nat} (v : CtrLine) (h : i ≠ j) :
    (s.setCtrLine i v).ctrLine j = s.ctrLine j := by simp [setCtrLine, ctrLine, h]

@[simp] theorem setDirLine_now (s : State) (k : Nat) (v : DirLine) : (s.setDirLine k v).now = s.now := by unfold setDirLine; rfl
@[simp] theorem setDirLine_isN (s : State) (k : Nat) (v : DirLine) : (s.setDirLine k v).isN = s.isN := by unfold setDirLine; rfl
@[simp] theorem setDirLine_free (s : State) (k : Nat) (v : DirLine) : (s.setDirLine k v).free = s.free := by unfold setDirLine; rfl
@[simp] theorem setDirLine_once (s : State) (k : Nat) (v : DirLine) : (s.setDirLine k v).once = s.once := by unfold setDirLine; rfl
@[simp] theorem setDirLine_pins (s : State) (k : Nat) (v : DirLine) : (s.setDirLine k v).pins = s.pins := by unfold setDirLine; rfl
@[simp] theorem setDirLine_start (s : State) (k : Nat) (v : DirLine) : (s.setDirLine k v).start = s.start := by unfold setDirLine; rfl
@[simp] theorem setDirLine_nor (s : State) (k : Nat) (v : DirLine) : (s.setDirLine k v).nor = s.nor := by unfold setDirLine; rfl
@[simp] theorem setDirLine_image (s : State) (k : Nat) (v : DirLine) : (s.setDirLine k v).image = s.image := by unfold setDirLine; rfl
@[simp] theorem setDirLine_cus (s : State) (k : Nat) (v : DirLine) : (s.setDirLine k v).cus = s.cus := by unfold setDirLine; rfl
@[simp] theorem setDirLine_otp (s : State) (k : Nat) (v : DirLine) : (s.setDirLine k v).otp = s.otp := by unfold setDirLine; rfl
@[simp] theorem setDirLine_keys (s : State) (k : Nat) (v : DirLine) : (s.setDirLine k v).keys = s.keys := by unfold setDirLine; rfl
@[simp] theorem setDirLine_trng (s : State) (k : Nat) (v : DirLine) : (s.setDirLine k v).trng = s.trng := by unfold setDirLine; rfl
@[simp] theorem setDirLine_jun (s : State) (k : Nat) (v : DirLine) : (s.setDirLine k v).jun = s.jun := by unfold setDirLine; rfl
@[simp] theorem setDirLine_lanes (s : State) (k : Nat) (v : DirLine) : (s.setDirLine k v).lanes = s.lanes := by unfold setDirLine; rfl
@[simp] theorem setDirLine_tenants (s : State) (k : Nat) (v : DirLine) : (s.setDirLine k v).tenants = s.tenants := by unfold setDirLine; rfl
@[simp] theorem setDirLine_tp (s : State) (k : Nat) (v : DirLine) : (s.setDirLine k v).tp = s.tp := by unfold setDirLine; rfl
@[simp] theorem setDirLine_link (s : State) (k : Nat) (v : DirLine) : (s.setDirLine k v).link = s.link := by unfold setDirLine; rfl
@[simp] theorem setDirLine_zheac (s : State) (k : Nat) (v : DirLine) : (s.setDirLine k v).zheac = s.zheac := by unfold setDirLine; rfl
@[simp] theorem setDirLine_cway (s : State) (k : Nat) (v : DirLine) : (s.setDirLine k v).cway = s.cway := by unfold setDirLine; rfl
@[simp] theorem setDirLine_verge (s : State) (k : Nat) (v : DirLine) : (s.setDirLine k v).verge = s.verge := by unfold setDirLine; rfl
@[simp] theorem setDirLine_stn (s : State) (k : Nat) (v : DirLine) : (s.setDirLine k v).stn = s.stn := by unfold setDirLine; rfl
@[simp] theorem setDirLine_toll (s : State) (k : Nat) (v : DirLine) : (s.setDirLine k v).toll = s.toll := by unfold setDirLine; rfl
@[simp] theorem setDirLine_alarm (s : State) (k : Nat) (v : DirLine) : (s.setDirLine k v).alarm = s.alarm := by unfold setDirLine; rfl
@[simp] theorem setDirLine_sp (s : State) (k : Nat) (v : DirLine) : (s.setDirLine k v).sp = s.sp := by unfold setDirLine; rfl
@[simp] theorem setDirLine_mile (s : State) (k : Nat) (v : DirLine) : (s.setDirLine k v).mile = s.mile := by unfold setDirLine; rfl
@[simp] theorem setDirLine_way (s : State) (k : Nat) (v : DirLine) : (s.setDirLine k v).way = s.way := by unfold setDirLine; rfl
@[simp] theorem setDirLine_trip (s : State) (k : Nat) (v : DirLine) : (s.setDirLine k v).trip = s.trip := by unfold setDirLine; rfl
@[simp] theorem setDirLine_promoted (s : State) (k : Nat) (v : DirLine) : (s.setDirLine k v).promoted = s.promoted := by unfold setDirLine; rfl
@[simp] theorem setDirLine_notes (s : State) (k : Nat) (v : DirLine) : (s.setDirLine k v).notes = s.notes := by unfold setDirLine; rfl
@[simp] theorem setDirLine_sent (s : State) (k : Nat) (v : DirLine) : (s.setDirLine k v).sent = s.sent := by unfold setDirLine; rfl
@[simp] theorem setDirLine_pending (s : State) (k : Nat) (v : DirLine) : (s.setDirLine k v).pending = s.pending := by unfold setDirLine; rfl
@[simp] theorem dirLine_setDirLine_same (s : State) (k : Nat) (v : DirLine) : (s.setDirLine k v).dirLine k = v := by simp [setDirLine, dirLine]
@[simp] theorem dirLine_setDirLine_other (s : State) {i j : Nat} (v : DirLine) (h : i ≠ j) :
    (s.setDirLine i v).dirLine j = s.dirLine j := by simp [setDirLine, dirLine, h]

@[simp] theorem setPort_now (s : State) (p : Nat) (v : Port) : (s.setPort p v).now = s.now := by unfold setPort; rfl
@[simp] theorem setPort_isN (s : State) (p : Nat) (v : Port) : (s.setPort p v).isN = s.isN := by unfold setPort; rfl
@[simp] theorem setPort_free (s : State) (p : Nat) (v : Port) : (s.setPort p v).free = s.free := by unfold setPort; rfl
@[simp] theorem setPort_once (s : State) (p : Nat) (v : Port) : (s.setPort p v).once = s.once := by unfold setPort; rfl
@[simp] theorem setPort_pins (s : State) (p : Nat) (v : Port) : (s.setPort p v).pins = s.pins := by unfold setPort; rfl
@[simp] theorem setPort_start (s : State) (p : Nat) (v : Port) : (s.setPort p v).start = s.start := by unfold setPort; rfl
@[simp] theorem setPort_nor (s : State) (p : Nat) (v : Port) : (s.setPort p v).nor = s.nor := by unfold setPort; rfl
@[simp] theorem setPort_image (s : State) (p : Nat) (v : Port) : (s.setPort p v).image = s.image := by unfold setPort; rfl
@[simp] theorem setPort_cus (s : State) (p : Nat) (v : Port) : (s.setPort p v).cus = s.cus := by unfold setPort; rfl
@[simp] theorem setPort_otp (s : State) (p : Nat) (v : Port) : (s.setPort p v).otp = s.otp := by unfold setPort; rfl
@[simp] theorem setPort_keys (s : State) (p : Nat) (v : Port) : (s.setPort p v).keys = s.keys := by unfold setPort; rfl
@[simp] theorem setPort_trng (s : State) (p : Nat) (v : Port) : (s.setPort p v).trng = s.trng := by unfold setPort; rfl
@[simp] theorem setPort_jun (s : State) (p : Nat) (v : Port) : (s.setPort p v).jun = s.jun := by unfold setPort; rfl
@[simp] theorem setPort_lanes (s : State) (p : Nat) (v : Port) : (s.setPort p v).lanes = s.lanes := by unfold setPort; rfl
@[simp] theorem setPort_tenants (s : State) (p : Nat) (v : Port) : (s.setPort p v).tenants = s.tenants := by unfold setPort; rfl
@[simp] theorem setPort_tp (s : State) (p : Nat) (v : Port) : (s.setPort p v).tp = s.tp := by unfold setPort; rfl
@[simp] theorem setPort_link (s : State) (p : Nat) (v : Port) : (s.setPort p v).link = s.link := by unfold setPort; rfl
@[simp] theorem setPort_zheac (s : State) (p : Nat) (v : Port) : (s.setPort p v).zheac = s.zheac := by unfold setPort; rfl
@[simp] theorem setPort_mem (s : State) (p : Nat) (v : Port) : (s.setPort p v).mem = s.mem := by unfold setPort; rfl
@[simp] theorem setPort_cway (s : State) (p : Nat) (v : Port) : (s.setPort p v).cway = s.cway := by unfold setPort; rfl
@[simp] theorem setPort_stn (s : State) (p : Nat) (v : Port) : (s.setPort p v).stn = s.stn := by unfold setPort; rfl
@[simp] theorem setPort_toll (s : State) (p : Nat) (v : Port) : (s.setPort p v).toll = s.toll := by unfold setPort; rfl
@[simp] theorem setPort_alarm (s : State) (p : Nat) (v : Port) : (s.setPort p v).alarm = s.alarm := by unfold setPort; rfl
@[simp] theorem setPort_sp (s : State) (p : Nat) (v : Port) : (s.setPort p v).sp = s.sp := by unfold setPort; rfl
@[simp] theorem setPort_mile (s : State) (p : Nat) (v : Port) : (s.setPort p v).mile = s.mile := by unfold setPort; rfl
@[simp] theorem setPort_way (s : State) (p : Nat) (v : Port) : (s.setPort p v).way = s.way := by unfold setPort; rfl
@[simp] theorem setPort_trip (s : State) (p : Nat) (v : Port) : (s.setPort p v).trip = s.trip := by unfold setPort; rfl
@[simp] theorem setPort_promoted (s : State) (p : Nat) (v : Port) : (s.setPort p v).promoted = s.promoted := by unfold setPort; rfl
@[simp] theorem setPort_notes (s : State) (p : Nat) (v : Port) : (s.setPort p v).notes = s.notes := by unfold setPort; rfl
@[simp] theorem setPort_sent (s : State) (p : Nat) (v : Port) : (s.setPort p v).sent = s.sent := by unfold setPort; rfl
@[simp] theorem setPort_pending (s : State) (p : Nat) (v : Port) : (s.setPort p v).pending = s.pending := by unfold setPort; rfl
@[simp] theorem port_setPort_same (s : State) (p : Nat) (v : Port) : (s.setPort p v).port p = v := by simp [setPort, port]
@[simp] theorem port_setPort_other (s : State) {i j : Nat} (v : Port) (h : i ≠ j) :
    (s.setPort i v).port j = s.port j := by simp [setPort, port, h]

@[simp] theorem setCtx_now (s : State) (n : Nat) (v : StnCtx) : (s.setCtx n v).now = s.now := by unfold setCtx; rfl
@[simp] theorem setCtx_isN (s : State) (n : Nat) (v : StnCtx) : (s.setCtx n v).isN = s.isN := by unfold setCtx; rfl
@[simp] theorem setCtx_free (s : State) (n : Nat) (v : StnCtx) : (s.setCtx n v).free = s.free := by unfold setCtx; rfl
@[simp] theorem setCtx_once (s : State) (n : Nat) (v : StnCtx) : (s.setCtx n v).once = s.once := by unfold setCtx; rfl
@[simp] theorem setCtx_pins (s : State) (n : Nat) (v : StnCtx) : (s.setCtx n v).pins = s.pins := by unfold setCtx; rfl
@[simp] theorem setCtx_start (s : State) (n : Nat) (v : StnCtx) : (s.setCtx n v).start = s.start := by unfold setCtx; rfl
@[simp] theorem setCtx_nor (s : State) (n : Nat) (v : StnCtx) : (s.setCtx n v).nor = s.nor := by unfold setCtx; rfl
@[simp] theorem setCtx_image (s : State) (n : Nat) (v : StnCtx) : (s.setCtx n v).image = s.image := by unfold setCtx; rfl
@[simp] theorem setCtx_cus (s : State) (n : Nat) (v : StnCtx) : (s.setCtx n v).cus = s.cus := by unfold setCtx; rfl
@[simp] theorem setCtx_otp (s : State) (n : Nat) (v : StnCtx) : (s.setCtx n v).otp = s.otp := by unfold setCtx; rfl
@[simp] theorem setCtx_keys (s : State) (n : Nat) (v : StnCtx) : (s.setCtx n v).keys = s.keys := by unfold setCtx; rfl
@[simp] theorem setCtx_trng (s : State) (n : Nat) (v : StnCtx) : (s.setCtx n v).trng = s.trng := by unfold setCtx; rfl
@[simp] theorem setCtx_jun (s : State) (n : Nat) (v : StnCtx) : (s.setCtx n v).jun = s.jun := by unfold setCtx; rfl
@[simp] theorem setCtx_lanes (s : State) (n : Nat) (v : StnCtx) : (s.setCtx n v).lanes = s.lanes := by unfold setCtx; rfl
@[simp] theorem setCtx_tenants (s : State) (n : Nat) (v : StnCtx) : (s.setCtx n v).tenants = s.tenants := by unfold setCtx; rfl
@[simp] theorem setCtx_tp (s : State) (n : Nat) (v : StnCtx) : (s.setCtx n v).tp = s.tp := by unfold setCtx; rfl
@[simp] theorem setCtx_link (s : State) (n : Nat) (v : StnCtx) : (s.setCtx n v).link = s.link := by unfold setCtx; rfl
@[simp] theorem setCtx_zheac (s : State) (n : Nat) (v : StnCtx) : (s.setCtx n v).zheac = s.zheac := by unfold setCtx; rfl
@[simp] theorem setCtx_mem (s : State) (n : Nat) (v : StnCtx) : (s.setCtx n v).mem = s.mem := by unfold setCtx; rfl
@[simp] theorem setCtx_cway (s : State) (n : Nat) (v : StnCtx) : (s.setCtx n v).cway = s.cway := by unfold setCtx; rfl
@[simp] theorem setCtx_verge (s : State) (n : Nat) (v : StnCtx) : (s.setCtx n v).verge = s.verge := by unfold setCtx; rfl
@[simp] theorem setCtx_toll (s : State) (n : Nat) (v : StnCtx) : (s.setCtx n v).toll = s.toll := by unfold setCtx; rfl
@[simp] theorem setCtx_alarm (s : State) (n : Nat) (v : StnCtx) : (s.setCtx n v).alarm = s.alarm := by unfold setCtx; rfl
@[simp] theorem setCtx_sp (s : State) (n : Nat) (v : StnCtx) : (s.setCtx n v).sp = s.sp := by unfold setCtx; rfl
@[simp] theorem setCtx_mile (s : State) (n : Nat) (v : StnCtx) : (s.setCtx n v).mile = s.mile := by unfold setCtx; rfl
@[simp] theorem setCtx_way (s : State) (n : Nat) (v : StnCtx) : (s.setCtx n v).way = s.way := by unfold setCtx; rfl
@[simp] theorem setCtx_trip (s : State) (n : Nat) (v : StnCtx) : (s.setCtx n v).trip = s.trip := by unfold setCtx; rfl
@[simp] theorem setCtx_promoted (s : State) (n : Nat) (v : StnCtx) : (s.setCtx n v).promoted = s.promoted := by unfold setCtx; rfl
@[simp] theorem setCtx_notes (s : State) (n : Nat) (v : StnCtx) : (s.setCtx n v).notes = s.notes := by unfold setCtx; rfl
@[simp] theorem setCtx_sent (s : State) (n : Nat) (v : StnCtx) : (s.setCtx n v).sent = s.sent := by unfold setCtx; rfl
@[simp] theorem setCtx_pending (s : State) (n : Nat) (v : StnCtx) : (s.setCtx n v).pending = s.pending := by unfold setCtx; rfl
@[simp] theorem ctx_setCtx_same (s : State) (n : Nat) (v : StnCtx) : (s.setCtx n v).ctx n = v := by simp [setCtx, ctx]
@[simp] theorem ctx_setCtx_other (s : State) {i j : Nat} (v : StnCtx) (h : i ≠ j) :
    (s.setCtx i v).ctx j = s.ctx j := by simp [setCtx, ctx, h]

@[simp] theorem updPoint_now (s : State) (p : Nat) (v : TollPoint) : (s.updPoint p v).now = s.now := by unfold updPoint; rfl
@[simp] theorem updPoint_isN (s : State) (p : Nat) (v : TollPoint) : (s.updPoint p v).isN = s.isN := by unfold updPoint; rfl
@[simp] theorem updPoint_free (s : State) (p : Nat) (v : TollPoint) : (s.updPoint p v).free = s.free := by unfold updPoint; rfl
@[simp] theorem updPoint_once (s : State) (p : Nat) (v : TollPoint) : (s.updPoint p v).once = s.once := by unfold updPoint; rfl
@[simp] theorem updPoint_pins (s : State) (p : Nat) (v : TollPoint) : (s.updPoint p v).pins = s.pins := by unfold updPoint; rfl
@[simp] theorem updPoint_start (s : State) (p : Nat) (v : TollPoint) : (s.updPoint p v).start = s.start := by unfold updPoint; rfl
@[simp] theorem updPoint_nor (s : State) (p : Nat) (v : TollPoint) : (s.updPoint p v).nor = s.nor := by unfold updPoint; rfl
@[simp] theorem updPoint_image (s : State) (p : Nat) (v : TollPoint) : (s.updPoint p v).image = s.image := by unfold updPoint; rfl
@[simp] theorem updPoint_cus (s : State) (p : Nat) (v : TollPoint) : (s.updPoint p v).cus = s.cus := by unfold updPoint; rfl
@[simp] theorem updPoint_otp (s : State) (p : Nat) (v : TollPoint) : (s.updPoint p v).otp = s.otp := by unfold updPoint; rfl
@[simp] theorem updPoint_keys (s : State) (p : Nat) (v : TollPoint) : (s.updPoint p v).keys = s.keys := by unfold updPoint; rfl
@[simp] theorem updPoint_trng (s : State) (p : Nat) (v : TollPoint) : (s.updPoint p v).trng = s.trng := by unfold updPoint; rfl
@[simp] theorem updPoint_jun (s : State) (p : Nat) (v : TollPoint) : (s.updPoint p v).jun = s.jun := by unfold updPoint; rfl
@[simp] theorem updPoint_lanes (s : State) (p : Nat) (v : TollPoint) : (s.updPoint p v).lanes = s.lanes := by unfold updPoint; rfl
@[simp] theorem updPoint_tenants (s : State) (p : Nat) (v : TollPoint) : (s.updPoint p v).tenants = s.tenants := by unfold updPoint; rfl
@[simp] theorem updPoint_tp (s : State) (p : Nat) (v : TollPoint) : (s.updPoint p v).tp = s.tp := by unfold updPoint; rfl
@[simp] theorem updPoint_link (s : State) (p : Nat) (v : TollPoint) : (s.updPoint p v).link = s.link := by unfold updPoint; rfl
@[simp] theorem updPoint_zheac (s : State) (p : Nat) (v : TollPoint) : (s.updPoint p v).zheac = s.zheac := by unfold updPoint; rfl
@[simp] theorem updPoint_mem (s : State) (p : Nat) (v : TollPoint) : (s.updPoint p v).mem = s.mem := by unfold updPoint; rfl
@[simp] theorem updPoint_cway (s : State) (p : Nat) (v : TollPoint) : (s.updPoint p v).cway = s.cway := by unfold updPoint; rfl
@[simp] theorem updPoint_verge (s : State) (p : Nat) (v : TollPoint) : (s.updPoint p v).verge = s.verge := by unfold updPoint; rfl
@[simp] theorem updPoint_stn (s : State) (p : Nat) (v : TollPoint) : (s.updPoint p v).stn = s.stn := by unfold updPoint; rfl
@[simp] theorem updPoint_alarm (s : State) (p : Nat) (v : TollPoint) : (s.updPoint p v).alarm = s.alarm := by unfold updPoint; rfl
@[simp] theorem updPoint_sp (s : State) (p : Nat) (v : TollPoint) : (s.updPoint p v).sp = s.sp := by unfold updPoint; rfl
@[simp] theorem updPoint_mile (s : State) (p : Nat) (v : TollPoint) : (s.updPoint p v).mile = s.mile := by unfold updPoint; rfl
@[simp] theorem updPoint_way (s : State) (p : Nat) (v : TollPoint) : (s.updPoint p v).way = s.way := by unfold updPoint; rfl
@[simp] theorem updPoint_trip (s : State) (p : Nat) (v : TollPoint) : (s.updPoint p v).trip = s.trip := by unfold updPoint; rfl
@[simp] theorem updPoint_promoted (s : State) (p : Nat) (v : TollPoint) : (s.updPoint p v).promoted = s.promoted := by unfold updPoint; rfl
@[simp] theorem updPoint_notes (s : State) (p : Nat) (v : TollPoint) : (s.updPoint p v).notes = s.notes := by unfold updPoint; rfl
@[simp] theorem updPoint_sent (s : State) (p : Nat) (v : TollPoint) : (s.updPoint p v).sent = s.sent := by unfold updPoint; rfl
@[simp] theorem updPoint_pending (s : State) (p : Nat) (v : TollPoint) : (s.updPoint p v).pending = s.pending := by unfold updPoint; rfl
@[simp] theorem point_updPoint_same (s : State) (p : Nat) (v : TollPoint) : (s.updPoint p v).point p = v := by simp [updPoint, point]
@[simp] theorem point_updPoint_other (s : State) {i j : Nat} (v : TollPoint) (h : i ≠ j) :
    (s.updPoint i v).point j = s.point j := by simp [updPoint, point, h]

@[simp] theorem tenant_setTenant_same (s : State) (t : Nat) (v : Tenant) : (s.setTenant t v).tenant t = v := by
  simp [setTenant, tenant]
@[simp] theorem tenant_setTenant_other (s : State) {i j : Nat} (v : Tenant) (h : i ≠ j) :
    (s.setTenant i v).tenant j = s.tenant j := by simp [setTenant, tenant, h]

/-- A session reads the value it was given. -/
@[simp] theorem setSession_same (s : State) (c : Caller) (v : Session) (h : c ≠ .plain) :
    (s.setSession c v).session? c = some v := by
  cases c <;> simp_all [setSession, session?]

end Sys2Proof.Machine.State
end

