-- ==== Sys2Proof/WellFormed.lean ====
section
/-!
DEFINITION. The operands that the happenings of the spec can have, where their types alone allow more: sizes of banks, records
and signatures, and numbers of slots. A meaning is total on ill-formed operands too; no statement assumes `Instr.wf`.
-/

namespace Sys2Proof

/-- The boot record is four words (R103), a lease record twelve (R104). -/
def NorRead.wf (n : NorRead) : Bool :=
  (match n.boot with
    | some w => decide (w.length = 4)
    | none => true) && n.journal.all (fun e => decide (e.2.length = 12))

/-- The operands of a command are such as the spec gives it: slots of the key register are numbered below 69,632 (R139); three
ladders have 8,259 rungs at most (R123); a slot of the SPI NOR has 8 MiB (R84); region 17 has 2^26 lines at most (R494); a hash has
22 words (R120); a lane fault has a cause (R192); level 1 is the lowest counter line (R312); a body has fewer than 1,024 words
(R431); requesters have numbers below 32 (log entry 47). -/
def Instr.wf : Instr → Bool
  | .hostRstNRelease _ _ _ programmed => programmed.all (fun e => decide (e.2.length ≤ 2 ^ 23))
  | .rootApllLocked failing => failing.all (fun n => decide (n < 69632))
  | .forwardCompletion fuses => decide (fuses.length ≤ 8259)
  | .sfdpDiscovery nor => nor.wf
  | .outcomeRunning upsets => upsets.all (fun e => decide (e.1 < 2 ^ 26))
  | .commitCopyDone _ worn _ => worn.all (fun e => decide (e.1 < 2 ^ 23))
  | .fuseAuthority _ hash => decide (hash.length = 22)
  | .registerDestroyDone failing => failing.all (fun n => decide (n < 69632))
  | .laneFault _ losses _ => !losses.isEmpty
  | .reencryptionComplete _ level _ _ => decide (1 ≤ level.val)
  | .write _ _ words => decide (words.length < 1024)
  | .requestPromotion requester _ _ => decide (requester < 32)
  | .thCommand _ args => decide (args.length < 1024)
  | .hostRstNAssertion .. | .supplyWarning .. | .supplyMonitorReset .. | .xoInRuns | .otpRead | .pufRereadout ..
  | .rootDerived | .bootRecordCleared .. | .slotVerified .. | .imageApplied | .sdramTrainingEnd .. | .memoryKeysDrawn
  | .mportLinkUp | .vf33Loss | .vf33Release | .fieldRstN .. | .vergeClockLoss | .vergeCdrLock | .applyStaged ..
  | .applyVerificationDone .. | .dSectionBoundary .. | .bootRecordWritten .. | .leaseJournalAppend .. | .stageOpen ..
  | .stageData .. | .stageDataProgrammed .. | .stageClose .. | .stagedSlotVerified .. | .custBtnPress .. | .custBtnRelease
  | .custJmpInstalled | .custJmpRemoved | .windowOpen | .nojmpPress | .windowTimeout | .closeWindow .. | .enrol ..
  | .toProvision .. | .toField .. | .toAnalysis .. | .retire .. | .restartWithStaged .. | .commitStagedToA ..
  | .commitStagedToB .. | .raiseImageRung .. | .enrolCapture .. | .helperBankWritten .. | .authorityBankWritten ..
  | .intentPairWritten .. | .donePairWritten .. | .leaseLadderAdvance .. | .stationKeyDerived .. | .entropyWindowEnd ..
  | .healthTestFailure .. | .retestEnd .. | .reseedDue | .entropyRequestTimeout | .memoryKeyRetry .. | .refActivityLost ..
  | .refActivityGood .. | .frequencyResult .. | .wtrExpiry .. | .bwStageSettled .. | .lockedReached .. | .holdFreqUpdate ..
  | .holdLimitReached | .xoFailure | .laneErrorThreshold .. | .laneUp .. | .linkHoldExpiry .. | .dampExpiry ..
  | .clientFrameRx .. | .trunkFrameRx .. | .pauseFrameRx .. | .pfcFrameRx .. | .pauseTimerExpiry .. | .pauseRefresh ..
  | .txFrameComplete .. | .schedulerPick .. | .degradedExpiry .. | .tenantReset .. | .unfence .. | .resetDrainEnd ..
  | .resetQueuesEmptied .. | .regionResetComplete .. | .resetWindowExpiry .. | .ackSeqWrite .. | .notifyFrameSend ..
  | .spillAcceptTimeout .. | .spillReadBack .. | .drainTimeout .. | .delayQuietExpiry .. | .oldTxSlotDestroy ..
  | .noticeAckTimeout .. | .noticeWaitTimeout .. | .leaseQueryRx .. | .leaseNoticeRx .. | .noticeAckRx .. | .helloRx ..
  | .replyRx .. | .finishRx .. | .installedRx .. | .refuseRx .. | .handshakeRetransmit .. | .finishWaitTimeout ..
  | .pkOperationDone | .linkKeysDerived .. | .backoffExpiry .. | .rekeyDue .. | .settleExpiry .. | .tableRead ..
  | .memoryReadComplete .. | .directoryRequest .. | .snoop .. | .snoopAnswer .. | .l0Release .. | .dapAccess ..
  | .trainAligned | .trainingTimeout | .channelFail .. | .heartbeatRx .. | .heartbeatDue .. | .creditRx .. | .ackRx ..
  | .nakRx .. | .gobackTimeout .. | .retrainTimer .. | .portConfigRx .. | .portCmdRetry .. | .portCmdClear ..
  | .stateUpdateRx .. | .stateQueryRx .. | .cmdReplyRx .. | .stationUpRx .. | .stationDownRx .. | .legalParamsRx | .thAckRx
  | .windowWriteRx .. | .logEntryRx .. | .thReplyRx .. | .thHelloRx .. | .meterSectionRx | .linkMessageRelay ..
  | .thLinkHeartbeatTimeout | .tollhouseLinkUp | .stationFrameRx .. | .gapAbort .. | .syncClockStop .. | .ctsAsserted ..
  | .ctsTimeout .. | .leadExpiry .. | .downstreamTxEnd .. | .tailExpiry .. | .dcdChange .. | .portDownProbe ..
  | .fieldInputChange .. | .vpFrameDequeue | .thPowerOnReset .. | .thSelfCheckDone .. | .thSwitchToVbat ..
  | .thReturnToVt33 .. | .vbatMeasurement .. | .crystalStopped | .crystalResumed | .timeSave .. | .timeRangeEnd
  | .sealLoopOpen | .sealLoopClosed | .thKeyPress | .custodyOpen | .custodyTimeout | .thReadIdent | .thReadPoint
  | .thReadRecord .. | .thAdjustTime | .thDemandReset | .thSetTime | .thSetCal | .thSetInterval | .thInstallAuthority
  | .thInstallMeterKey | .thVerify | .thCloseCustody | .intervalChangeApply | .pulseCount .. | .analogueSample ..
  | .meteringTick | .intervalBoundary | .reportSigned | .statusWindowRefresh | .displayCycle | .thCommandWaitTimeout ..
  | .signpostOpen .. | .request .. | .plainRequest .. | .openingTimeout .. | .sessionIdleTimeout .. | .authLockExpiry ..
  | .read .. | .thResult .. | .exportReports .. | .exportJournal .. | .close .. | .alarmAckEntry .. | .alarmAckClass ..
  | .alarmAckAll .. | .alertHoldExpiry | .milepostSelWrite .. | .threshWrite .. | .windowBoundary | .snapNow ..
  | .runWrite .. | .win100usWrite .. | .snapshotCopyDone | .waymarkControlWrite .. | .waymarkRateWrite ..
  | .waymarkFilterWrite .. | .waymarkClear .. | .arm .. | .freezeNow .. | .postBlocksWritten | .baseCapture
  | .checkpointCapture | .gapRecord | .go .. | .replayCycle | .progressBoundExceeded .. | .fabricBoundExceeded ..
  | .pauseMaxExceeded .. | .thSupplyLoss | .signalRegained .. | .helperBankVoided .. | .sofReceived .. | .thKeyRelease
  | .mportLinkDown | .fieldRstNRelease | .portCommand .. | .flapWindowExpiry .. | .sec60sExpiry => true

end Sys2Proof
end

