-- ==== Sys2Proof/Tests/Slice0.lean ====
section
/-!
SUPPORT. Tests: operands that `Instr.wf` refuses, the spec's worked examples on single functions and words, and for every statement
with hypotheses a state and operands that meet them.
-/

namespace Sys2Proof.Tests

open Sys2Proof Sys2Proof.Machine

set_option linter.unusedVariables false
set_option Elab.async false

/-! ## Small states -/

def W4 : State := { start := { begun := true, phase := 4, captures := 1, capture := some 0 }, otp := [(2322, 147000)] }
/-- An image that holds the given sections. -/
def imageOfSections (l : List Section) : Image :=
  { rung := 0, release := 0, buildDate := 0, bound := 0, nvmDiv := 0, digest := 0, sections := l }
/-- A section of class D. -/
def sectionOf (type inst : Nat) (body : List Word) : Section :=
  { type := type, inst := inst, cls := 1, wrap := false, body := body, plain := none, digest := 0 }
/-- A running device whose image holds the given sections. -/
def runningWith (l : List Section) : State :=
  { start := { begun := true, phase := 10, outcome := .running },
    pins := { hostRstLow := false }, image := { running := some (imageOfSections l) }, cus := { startState := .field } }
def op0 : VerbCall := { caller := .operator 0, cond := none }
def withSession (s : State) : State := { s with sp := { s.sp with oper := [(0, { state := .opened })] } }
/-- A FIELD device in RUNNING with an OPEN operator session and the custody window open. -/
def fieldWindow : State :=
  { withSession (runningWith []) with cus := { startState := .field, win := .opened, closeAt := 1000 } }
/-- An image with the digest of a slot of zeros. -/
def zeroImage : Image := { imageOfSections [] with digest := slotDigest { bytes := List.replicate 144 0, readError := none } }
/-- A device of a life-cycle state in HELD, with its OTP, the custody window open. -/
def heldIn (st : LcState) (otp : Tab Nat) : State :=
  { start := { begun := true, phase := 10, outcome := .held }, pins := { hostRstLow := false }
    cus := { startState := st, win := .opened, closeAt := 1000 }, otp := otp }
/-- A window of samples that passes the health tests. -/
def goodWindow : BitVec 1024 := BitVec.ofNat 1024 ((2 ^ 1024 - 1) / 3)
/-- Bytes as an operand has them. -/
def asBytes (l : List Nat) : List Byte := l.map (BitVec.ofNat 8)
/-- A Verge die that runs, its partner UP, with the given port 0. -/
def vergeUp (p : Port) : State :=
  { pins := { hostRstLow := false }, start := { begun := true, phase := 10, outcome := .running, linkStarted := true },
    cway := { partner := .up }, verge := { vf33Low := false, clockLost := false, locked := true, ports := [(0, p)] } }
/-- A message on the wire of a class, the next in order. -/
def onWire (s : State) (w : Way) (c : MsgClass) (m : Msg) : State := s.setChan w c { wire := [(0, m)], credit := 5000 }
/-- A downstream frame of port 0. -/
def down0 : DownFrame := { port := 0, bytes := [0xD3, 0x91], queue := none }
/-- The first word of a configuration of a port with a MODE. -/
def portMode (m : Nat) : List Word := [BitVec.ofNat 18 (m * 2 ^ 16), 0, 0, 0, 0, 0]
/-- A LANE section of lane 0: ROLE, MODE 3 and the bits of word 0 given, LINK_HOLD 1 ms, FLAP_MAX 3. -/
def laneSec (role bits : Nat) : Section :=
  sectionOf 4 0 [BitVec.ofNat 18 (role * 2 ^ 16 + 3 * 2 ^ 13 + bits), 256, BitVec.ofNat 18 (3 * 2 ^ 12 + 1), 1518,
    BitVec.ofNat 18 (255 * 2 ^ 10), 0, 0, 1, 5, 0]
/-- A running device with lane 0 as given. -/
def laneDev (role bits : Nat) (v : Lane) : State := { runningWith [laneSec role bits] with lanes := [(0, v)] }
/-- A running device that recovers REFA and REFB from lane 0, which is UP. -/
def junDev : State :=
  { runningWith [sectionOf 3 0 ([0, BitVec.ofNat 18 (92 * 2 ^ 9 + 120), 60] ++
      (List.range 4).map (fun r => BitVec.ofNat 18 ((r + 1) * 2 ^ 15))), laneSec 1 0] with
    lanes := [(0, { state := .up, cdr := true })] }
/-- Sections of tenant 0: client lane 0, one block of queues, VLAN 5; queue 0 leaves on lane 1 of the given role; every frame of VLAN 5 goes there. -/
def tenSecs (role : Nat) : List Section :=
  [laneSec 1 512, sectionOf 4 1 [BitVec.ofNat 18 (role * 2 ^ 16 + 3 * 2 ^ 13), 256, BitVec.ofNat 18 (3 * 2 ^ 12 + 1), 1518, 0, 0, 0, 2, 5, 0],
   sectionOf 11 0 ([0, 2, 1, 0, 0, 0, 0, 0, BitVec.ofNat 18 (2 ^ 17 + 5)] ++ List.replicate 21 0),
   sectionOf 13 0 [BitVec.ofNat 18 (2 ^ 17 + 2 ^ 12 + 2 ^ 8), 1024, 8, 8, 0, 6, 2, 0],
   sectionOf 12 0 [BitVec.ofNat 18 (2 ^ 17 + 31 * 2 ^ 11), BitVec.ofNat 18 (2 ^ 16 + 5), BitVec.ofNat 18 (2 ^ 17), 0, 0, 0, 0, 0, 0, 0, 0, 0, 0, 0, 0, 0]]
def tenDev (v : Tenant) : State :=
  { withSession (runningWith (tenSecs 1)) with lanes := [(0, { state := .up }), (1, { state := .up })], tenants := [(0, v)] }
/-- A client frame of VLAN 5 up to its FCS. -/
def data5 (len : Nat) : List Nat := padTo (len - 4) (beBytes 6 77 ++ beBytes 6 99 ++ [0x81, 0, 0, 5, 8, 0])
/-- The same with its FCS. -/
def frame5 (len : Nat) : List Byte := asBytes (withFcs (data5 len))
/-- A queued frame of a length. -/
def qf (len : Nat) (p : Place) : QFrame :=
  { data := List.replicate (len - 4) 0, place := p, tenant := 0, tc := 0, stream := none, ingress := 0, since := 0 }
def tenQ (v : Tenant) (q : Queue) : State := { tenDev v with tp := { queues := [(0, q)] } }
/-- Stream 3 of lane 1, a trunk lane, is RUNNING on AN 1, and one of its frames is queued. -/
def trunkDev : State :=
  { tenQ {} { frames := [{ qf 64 .reserved with stream := some 3 }] } with
    image := { running := some (imageOfSections (tenSecs 2)) }
    keys := { slots := [(7, { state := .valid, kind := 1, gen := 1 })] }
    link := { tx := [(3, { state := .running, an := 1, nextPn := 9, entry := [BitVec.ofNat 18 (2 ^ 17 + 2 ^ 13), 0, 0, 0] })] } }
/-- A frame for AN 1 with a packet number of the stream whose peer SCI is 77, protected under the value 0. -/
def trunkF (pn : Nat) : List Byte := asBytes (secSeal 0 1 pn 77 (data5 64))
/-- Receive stream 3 of trunk lane 1, RUNNING on AN 1 from packet number 4. -/
def rxDev (v : RxStream) : State :=
  { tenQ {} {} with
    image := { running := some (imageOfSections (tenSecs 2)) }
    keys := { slots := [(32775, { state := .valid, kind := 2, gen := 1 })] }
    link := { rx := [(3, { v with
      state := if v.state = .unbound then .running else v.state
      an := 1
      odd := { nextRx := 5, lowest := some 4 }
      entry := if v.entry.isEmpty then [BitVec.ofNat 18 (2 ^ 17 + 2 ^ 13), 0, 0, 0, 0, 77] else v.entry })] } }
def pinnedEntry : List Word := [BitVec.ofNat 18 (2 ^ 17 + 2 ^ 13 + 2 ^ 12 + 2 ^ 11), 0, 0, 0]
def norGood : NorUnit := { usable := true, writable := true, sizeMib := 32 }
/-- Pinned transmit stream 3 of trunk lane 1, and a lease of it that waits for its record. -/
def leaseDev : State :=
  { trunkDev with
    nor := norGood
    link := { tx := [(3, { state := .running, an := 1, nextPn := 9, entry := pinnedEntry })], journal := [(3, 7)] } }
/-- A lease message of a type for stream 3 with packet number 9 and challenge 0, its tag under the value 0. -/
def leaseMsg (type : Nat) : List Word :=
  let n := if type = 7 then 22 else 18
  let m := [2 ^ 12 + type * 2 ^ 6, 0, 0, 0, n, 3] ++ (if type = 6 then [] else wideWords 4 9) ++ (if type = 8 then [] else wideWords 4 0)
  (m ++ wideWords 8 (leaseTag 0 m)).map (BitVec.ofNat 18)
/-- A host whose partner is as given, the Verge die running, out of reset. -/
def partnered (p : Partner) : State :=
  { runningWith [] with
    start := { begun := true, phase := 10, outcome := .running, linkStarted := true }
    cway := { partner := p, chOk := 15 }
    verge := { vf33Low := false, clockLost := false, locked := true } }
/-- A VP owner, tenant 0, whose queue 0 leaves on VP; station 5 at port 2 of the directory, its key in the cache, memory ready. -/
def stationDev : State :=
  { tenQ {} { frames := [{ qf 64 .reserved with data := vpFrame 77 5 0 0x9000 5 1 [1, 2, 3] }] } with
    image := { running := some (imageOfSections
      [sectionOf 11 0 ([BitVec.ofNat 18 (2 ^ 17), 2, 1, 0, 0, 0, 0, 0, BitVec.ofNat 18 (2 ^ 17 + 5)] ++ List.replicate 21 0),
       sectionOf 13 0 [BitVec.ofNat 18 (2 ^ 17 + 16 * 2 ^ 12 + 2 ^ 8), 1024, 8, 8, 0, 6, 2, 0],
       sectionOf 17 0 [BitVec.ofNat 18 (2 ^ 17 + 5), BitVec.ofNat 18 (2 * 2 ^ 14), 0, 0x9000, 0, 0, 0, 0]]) }
    start := { begun := true, phase := 10, outcome := .running, linkStarted := true, memState := .ready }
    keys := { slots := [(slotFleet, { state := .valid }), (slotCache 0, { state := .valid })], cache := [(5, 0)] }
    cway := { partner := .up, chOk := 15, chans := [(2, { credit := 4096 })] }
    verge := { vf33Low := false, clockLost := false, locked := true }
    stn := { downReady := true, downEpoch := 1 } }
/-- A data frame of station 5 under the key 0. -/
def stationF (seq : Nat) : List Nat := nfSeal 0 1 5 seq 0 [] [1, 2, 3] 0
/-- Ready memory: one channel of 8 GiB, region 16 and 64 MiB for tenant 0; two levels of counter lines and more. -/
def memDev (m : MemoryUnit) : State :=
  { stationDev with
    image := { running := some (imageOfSections
      [sectionOf 5 0 ([BitVec.ofNat 18 (2 ^ 14 + 8 * 2 ^ 9), 0, BitVec.ofNat 18 (64 * 2 ^ 8), BitVec.ofNat 18 (2 ^ 7), BitVec.ofNat 18 (64 * 2 ^ 8)] ++
        List.replicate 30 0)]) }
    mem := m }
/-- The same with the memory keys of tenant 0 and of the device. -/
def memKeyed (m : MemoryUnit) : State :=
  { memDev m with keys := { slots := [(slotMem 0, { state := .valid }), (slotDevMem, { state := .valid })] } }
/-- A line as SDRAM holds it, with its plaintext, under the keys of value 0. -/
def sdramLine (s : State) (r k i plain : Nat) : SdramLine :=
  let block := fun j => counterBlock (s.majorOver r k i) (s.minorOver r k i) i j r k
  let data := if k = 0 then lineText 0 block plain else plain
  { data := BitVec.ofNat 512 data, tag := BitVec.ofNat 64 (lineTag 0 block data), ecc := .clean }
/-- Data line 0 of tenant 0 has been written once, and engine 0 holds the line over it; the counter line 0 of level 1 is being read. -/
def readMem : MemoryUnit :=
  { lines := [(State.lineKey 0 1 0, { minors := [(0, 1)] }), (State.lineKey 0 2 0, { minors := [(0, 1)] })]
    dir := [(State.lineKey 0 1 0, { holders := [0] })], walks := [State.lineKey 0 1 0] }
def memRequest (line : Nat) : MemReq := { region := 0, line := line, write := none, requester := 0, issued := 0 }
def line0 : SdramLine := { data := 0, tag := 0, ecc := .clean }
/-- Node 7 whose lane 1 is a trunk toward node 9, with a group as given. -/
def zheacDev (v : ZGroup) : State :=
  { trunkDev with
    image := { running := some (imageOfSections
      [sectionOf 1 0 ([BitVec.ofNat 18 (2 ^ 17 + 7)] ++ List.replicate 15 0),
       sectionOf 4 1 [BitVec.ofNat 18 (2 * 2 ^ 16 + 3 * 2 ^ 13), 256, BitVec.ofNat 18 (3 * 2 ^ 12 + 1), 1518, 0, 0, 0, 2, 5, BitVec.ofNat 18 (2 ^ 17 + 9)]]) }
    link := { tx := [(3, { state := .running, an := 1, nextPn := 9, everKeyed := true, entry := [BitVec.ofNat 18 (2 ^ 17 + 2 ^ 13), 5, 0, 0] })] }
    zheac := { groups := [(1, v)] } }
/-- A handshake message of a type for HS_ID 5 with the given words after the header, as many as its length says. -/
def zMsg (type n : Nat) (w : List Word) : List Word :=
  [BitVec.ofNat 18 (2 ^ 12 + type * 2 ^ 6), BitVec.ofNat 18 (2 ^ 17 + 9), BitVec.ofNat 18 (2 ^ 17 + 7), 5, BitVec.ofNat 18 n] ++ w ++
    List.replicate (n - 5 - w.length) 0
def hs5 (initiator : Bool) (phase : HsPhase) : Handshake := { initiator := initiator, hsId := 5, number := 4, phase := phase }
/-- What follows the header of a HELLO or REPLY of no streams, with the base point as EPH_PUB. -/
def zPub : List Word := List.replicate 16 (0 : Word) ++ (wideWords 43 (p384.gx <<< 384 ||| p384.gy)).map (BitVec.ofNat 18)
/-- A handshake that verifies a FINISH of node 9, signed under the private key 1 with nonce 1. -/
def hsSigned : Handshake :=
  let h := { hs5 false .verifying with peerNode := some 9 }
  { h with peerSig := p384.sign 1 1 h.digestI }
/-- Node 7 with the certificate of node 9: the base point. -/
def certDev : State :=
  { zheacDev {} with image := { running := some (imageOfSections
      [sectionOf 7 0 (BitVec.ofNat 18 (2 ^ 17 + 9) :: (wideWords 43 (p384.gx <<< 384 ||| p384.gy)).map (BitVec.ofNat 18) ++
        List.replicate 20 0)]) } }
/-- A running device whose M-port is up, with eight operator sessions, an operator key and a DRBG that serves. -/
def spDev (v : Session) : State :=
  { runningWith [sectionOf 1 0 ([0, 0, 0x88B6, 0, 0, 1, BitVec.ofNat 18 (5 * 2 ^ 6), BitVec.ofNat 18 (8 * 2 ^ 12), 0] ++ List.replicate 10 0)] with
    start := { begun := true, phase := 10, outcome := .running, mportUp := true }
    keys := { slots := [(slotOperSession 2, { state := .valid }), (slotOperator, { state := .valid })] }
    trng := { state := .ok }
    sp := { oper := [(2, v)] } }
/-- A frame for the M-port around a message, from source 77. -/
def spF (m : List Nat) : List Byte := asBytes (spFrame (spDev {}).mportMac 77 none 0x88B6 m)
/-- An OPEN of the operator under the key 0 with the nonce 0. -/
def openM : List Nat := spSign 0 0o01 false 0 (16 :: List.replicate 15 0)
/-- The body of a READ of the identity word, and a REQUEST with it in session 2 under the key 0. -/
def requestB : List Nat := [0o010003, 0, 1, 0]
def requestM (seq : Nat) : List Nat := spSeal 0 0x01 0o03 false 2 seq requestB
def plainM : List Nat := packNats (spHeader 0o07 false 0 1 4 ++ requestB)
/-- Tenant 0 of tenDev with MGMT_VLAN 6, its key and a DRBG that serves; and a frame of its path for lane 0. -/
def tenOpen : State :=
  { tenDev {} with
    keys := { slots := [(slotTenantKey 0, { state := .valid }), (slotTenSession 0, { state := .valid })] }
    sp := { ten := [(0, { state := .opened })] }, trng := { state := .ok } }
def tenF (m : List Nat) : List Byte := asBytes (spFrame (tenOpen.laneMac 0) 77 (some (tenOpen.mgmtVlan 0)) 0x88B6 m)
/-- A Tollhouse that runs on VT_33, its link and the Causeway up. -/
def tollDev (u : TollUnit) : State :=
  { withSession (partnered .up) with
    verge := { vf33Low := false, clockLost := false, locked := true, thLink := true }
    toll := { u with powered := true, booted := true, bootedOnce := true } }
/-- The same in custody, the command on the wire as HOST_SEQ 5. -/
def tollCmd (u : TollUnit) (w : List Word) : State :=
  onWire (tollDev { u with metro := if u.metro = .blank then .custody else u.metro }) .thDown .legal (.thCommand 5 w)
def tollPoint1 (source input : Nat) : TollPoint :=
  { set := List.replicate 8 0 ++ [BitVec.ofNat 18 (source * 2 ^ 16 + input * 2 ^ 13), 0, 0, 0, 3] ++ List.replicate 363 0, tariff := 2,
    regs := [(2, 7)] }
/-- Alarm 3 is a FAULTED tenant 4, unacknowledged; alarm 5 is a cleared class 3 one. -/
def alarmDev : State :=
  { fieldWindow with alarm :=
      { overflow := true, entries := [(3, { state := .activeUnack, event := 0o062003, kind := 1, number := 4, count := 1 }),
                                      (5, { state := .clearedUnack, event := 0o113003, kind := 8, number := 1, count := 1 })] } }
def snap9 : Snapshot :=
  { seq := 9, time := 4, window := 3, short := false, first := true, changed := 0, counts := [], wraps := [], rx := [], tx := [] }
/-- A device with ready memory, region 17 of 64 MiB and a Trip Recorder in MODE 1. -/
def tripDev (u : TripUnit) : State :=
  { fieldWindow with
    image := { running := some (imageOfSections
      [sectionOf 5 0 ([BitVec.ofNat 18 (2 ^ 14 + 8 * 2 ^ 9), BitVec.ofNat 18 (2 ^ 11)] ++ List.replicate 33 0),
       sectionOf 10 0 ([BitVec.ofNat 18 (2 ^ 16), BitVec.ofNat 18 (9 * 2 ^ 6), 100, 2] ++ List.replicate 28 0)]) }
    start := { begun := true, phase := 10, outcome := .running, memState := .ready }
    trip := u }
/-- An ANALYSIS unit in MODE 2. -/
def replayDev (u : TripUnit) : State :=
  { tripDev u with
    image := { running := some (imageOfSections [sectionOf 10 0 (BitVec.ofNat 18 (2 * 2 ^ 16) :: List.replicate 31 0)]) }
    cus := { startState := .analysis } }

/-! ## Operands that are not well formed -/

def norRead1 (boot : Option (List Word)) (rec : List Word) : NorRead :=
  { usable := true, erase4k := true, sizeMib := 64, boot := boot, journal := [(0, rec)] }

theorem test_wf_slots : Instr.wf (.rootApllLocked [69632]) = false := by decide
theorem test_wf_destroy : Instr.wf (.registerDestroyDone [69631, 70000]) = false := by decide
theorem test_wf_rungs : Instr.wf (.forwardCompletion (List.replicate 8260 (true, true))) = false := by decide +kernel
theorem test_wf_boot : Instr.wf (.sfdpDiscovery (norRead1 (some [0]) (List.replicate 12 0))) = false := by decide
theorem test_wf_lease : Instr.wf (.sfdpDiscovery (norRead1 none [0])) = false := by decide
theorem test_wf_upset : Instr.wf (.outcomeRunning [(67108864, 1)]) = false := by decide
theorem test_wf_worn : Instr.wf (.commitCopyDone false [(8388608, 0)] none) = false := by decide
theorem test_wf_hash : Instr.wf (.fuseAuthority op0 [0]) = false := by decide
theorem test_wf_loss : Instr.wf (.laneFault 0 [] true) = false := by decide
theorem test_wf_level : Instr.wf (.reencryptionComplete 0 0 0 []) = false := by decide
theorem test_wf_requester : Instr.wf (.requestPromotion 32 0 0) = false := by decide
theorem test_wf_body : Instr.wf (.write op0 0 (List.replicate 1024 0)) = false := by decide +kernel
theorem test_wf_args : Instr.wf (.thCommand op0 (List.replicate 1024 0)) = false := by decide +kernel
/-- A region reset of level 1 is well formed, and so is a journal record of twelve words. -/
theorem test_wf_good : (Instr.wf (.reencryptionComplete 0 1 0 [(0, line0)]) &&
    Instr.wf (.sfdpDiscovery (norRead1 (some (List.replicate 4 0)) (List.replicate 12 0)))) = true := by decide

/-! ## The spec's worked examples -/

/-- The example after R9. -/
theorem test_pack : packWords [0o341011, 0, 0o777777, 0o012245] = [0x70, 0x82, 0x40, 0x00, 0x0F, 0xFF, 0xFC, 0x14, 0xA5] := by decide
/-- The example after R88: the CRC-18 of one word of zero. -/
theorem test_crc18 : crc18 [0] = 0o614440 := by decide +kernel
/-- The example after R4. -/
theorem test_identity_m : readWord {} 0 = 0o341011 := by decide +kernel
theorem test_identity_n : readWord { isN := true } 0 = 0o342011 := by decide +kernel
/-- The example after Table 6.2. -/
theorem test_slotTx : slotTx 1029 3 = 2059 := by decide
theorem test_slotRx : slotRx 1029 2 = 34826 := by decide
/-- The example after Table 6.11. -/
theorem test_slot_word :
    readWord { keys := { slotSel := 2059, slots := [(2059, { state := .valid, kind := 1, gen := 1 })] } } 0o006006 = 0o204200 := by
  decide +kernel
theorem test_slot_word_destroyed :
    readWord { keys := { slotSel := 2059, slots := [(2059, { state := .destroyed, kind := 1, gen := 2 })] } } 0o006006 = 0o410200 := by
  decide +kernel
/-- The example of R266. -/
theorem test_recover_pn : State.recoverPn 0x1FFFFFFF0 0x3 = 0x200000003 := by decide
/-- The example after Table 14.8. -/
theorem test_partner_word : readWord { cway := { partner := .up, th := 1, gen := 2, chOk := 15 } } 0o170000 = 0o221360 := by
  decide +kernel
/-- The example of chapter 17: T3 is FENCED in generation 9. -/
theorem test_fenced_word :
    readWord { runningWith [sectionOf 11 3 (List.replicate 30 0)] with
      tenants := [(3, { state := .fenced, faultCause := 1, gen := 9 })] } 0o023000 = 0o440051 := by
  decide +kernel
/-- R546: a low of HOST_RST_N of at least 0.3 µs resets. -/
theorem test_reset_low : (match exec (.hostRstNAssertion 300) { pins := { hostRstLow := false } } with
    | .next t => t.pins.hostRstLow
    | _ => false) = true := by decide +kernel

/-! ## The algorithms of the standards (PRESUMED, notes/assumptions/80): examples published with FIPS 180, FIPS 197, SP 800-38D, of
P-256, and the check value of CRC-32 -/

theorem test_sha256_abc :
    sha256 (ascii "abc") = 0xba7816bf8f01cfea414140de5dae2223b00361a396177a9cb410ff61f20015ad := by decide +kernel
theorem test_sha384_abc :
    sha384 (ascii "abc") =
      0xcb00753f45a35e8bb5a03d699ac65007272c32ab0eded1631a8b605a43ff5bed8086072ba1e7cc2358baeca134c825a7 := by decide +kernel
theorem test_aes256 :
    aes (ofBytes (List.range 32)) 0x00112233445566778899aabbccddeeff = 0x8ea2b7ca516745bfeafc49904b496089 := by decide +kernel
theorem test_gcm256 :
    ofBytes (gcmText 0 0 (List.replicate 16 0)) = 0xcea7403d4d606b6e074ec5d3baf39d18 ∧
      gcmTag 0 0 [] (gcmText 0 0 (List.replicate 16 0)) = 0xd0d1c8a799996bf0265b98b5d48ab919 := by decide +kernel
theorem test_crc32 : crc32 (ascii "123456789") = 0xCBF43926 := by decide +kernel
theorem test_p256_double :
    (p256.affine (p256.times 2 p256.base)).map Prod.fst =
      some 0x7cf27b188d034f7e8a52380304b51ac3c08969e277f21b35a60b48fc47669978 := by decide +kernel

/-! ## What meets the hypotheses of the statements -/

set_option maxRecDepth 100000

theorem test_met_PinsAndSuppliesComplete :
    (∃ (v : Bool) (capture : PufState) (programmed : List (Fin 3 × List Byte)) (s : State), s.pins.hostRstLow = true) ∧
    (∃ (v : Bool) (low : BitVec 7) (capture : PufState) (programmed : List (Fin 3 × List Byte)) (s : State), s.pins.hostRstLow =
      true ∧ low ≠ 0) ∧
    (∃ (lowNs : Nat) (s : State), s.pins.hostRstLow = false ∧ 300 ≤ lowNs) ∧
    (∃ (lowNs : Nat) (s : State), s.pins.hostRstLow = false ∧ lowNs < 100) ∧
    (∃ (rail : Fin 7) (capture : PufState) (s : State), s.pins.hostRstLow = false ∧ railsAfter s.pins.railLow rail.val .recovers
      = 0) ∧
    (∃ (s : State), s.start.begun = true ∧ 2 ≤ s.start.phase) :=
  ⟨⟨true, 5, [], State.reset, by decide +kernel⟩,
    ⟨true, 4, 5, [], State.reset, by decide +kernel⟩,
    ⟨300, { pins := { hostRstLow := false } }, by decide +kernel⟩,
    ⟨99, { pins := { hostRstLow := false } }, by decide +kernel⟩,
    ⟨2, 9, { pins := { hostRstLow := false, railLow := 4 } }, by decide +kernel⟩,
    ⟨{ start := { begun := true, phase := 2 } }, by decide +kernel⟩⟩

theorem test_met_StartStepsToRootComplete :
    (∃ (failing : List Nat) (s : State), s.startAt 1 = true ∧ s.pins.xoRuns = true) ∧
    (∃ (s : State), s.startAt 2 = true ∧ s.pendingRungs = [] ∧ s.lcState ≠ .retired) ∧
    (∃ (s : State), s.startAt 2 = true ∧ s.pendingRungs ≠ []) ∧
    (∃ (fuses : List (Bool × Bool)) (s : State), s.startAt 3 = true ∧ s.pendingRungs ≠ [] ∧ fuses.all (fun f => f.1 && f.2) =
      true) ∧
    (∃ (capture : PufState) (s : State), s.startAt 4 = true ∧ s.start.reReadout = true) ∧
    (∃ (k : Nat) (s : State), s.startAt 4 = true ∧ s.start.reReadout = false ∧ s.secret = some k) ∧
    (∃ (s : State), s.startAt 4 = true ∧ s.start.reReadout = false ∧ s.secret = none ∧ s.start.captures < 4) ∧
    (∃ (s : State), s.startAt 4 = true ∧ s.start.reReadout = false ∧ s.secret = none ∧ 4 ≤ s.start.captures) :=
  ⟨⟨[5], { start := { begun := true, phase := 1 } }, by decide +kernel⟩,
    ⟨{ start := { begun := true, phase := 2 } }, by decide +kernel⟩,
    ⟨{ start := { begun := true, phase := 2 }, otp := [(0, 12)] }, by decide +kernel⟩,
    ⟨[(true, true)], { start := { begun := true, phase := 3 }, otp := [(0, 12)] }, by decide +kernel⟩,
    ⟨6, { start := { begun := true, phase := 4, reReadout := true } }, by decide +kernel⟩,
    ⟨(pufSecret 0 0).getD 0, W4, by decide +kernel⟩,
    ⟨{ W4 with otp := [] }, by decide +kernel⟩,
    ⟨{ W4 with otp := [], start := { begun := true, phase := 4, captures := 4 } }, by decide +kernel⟩⟩

theorem test_met_StartStepsOfTheImageComplete :
    (∃ (nor : NorRead) (s : State), s.startAt 5 = true ∧ nor.boot = none) ∧
    (∃ (nor : NorRead) (b : List Word) (s : State), s.startAt 5 = true ∧ nor.usable = true ∧ nor.erase4k = true ∧ 32 ≤
      nor.sizeMib ∧ nor.boot = some b ∧ bootValid b = true ∧ (wordAt b 2).toNat.testBit 17 = true) ∧
    (∃ (b : List Word) (s : State), s.startAt 6 = true ∧ s.start.clearing = true ∧ s.nor.boot = some b) ∧
    (∃ (refused : Bool) (readsBack : Bool) (s : State), s.startAt 6 = true ∧ s.start.clearing = true ∧ (refused || !readsBack) =
      true) ∧
    (∃ (readError : Option Nat) (c : Nat) (rest : List Nat) (s : State), s.startAt 6 = true ∧ s.start.clearing = false ∧
      s.image.accepted = none ∧ s.start.cands = c :: rest ∧ s.cus.startState ≠ .provision) ∧
    (∃ (i : Image) (s : State), s.startAt 7 = true ∧ s.image.accepted = some i) :=
  ⟨⟨{ usable := true, erase4k := true, sizeMib := 32, boot := none, journal := [] },
      { start := { begun := true, phase := 5 } }, by decide +kernel⟩,
    ⟨{ usable := true, erase4k := true, sizeMib := 32, boot := some (bootRecord 1 true), journal := [] }, bootRecord 1 true,
      { start := { begun := true, phase := 5 } }, by decide +kernel⟩,
    ⟨bootRecord 1 true,
      { start := { begun := true, phase := 6, clearing := true }, nor := { boot := some (bootRecord 1 true) } },
      by decide +kernel⟩,
    ⟨true, true, { start := { begun := true, phase := 6, clearing := true } }, by decide +kernel⟩,
    ⟨none, 1, [2], { start := { begun := true, phase := 6, cands := [1, 2] } }, by decide +kernel⟩,
    ⟨imageOfSections [],
      { start := { begun := true, phase := 7, slot := 1 }, image := { accepted := some (imageOfSections []) } },
      by decide +kernel⟩⟩

theorem test_met_StartEndsRunning :
    (∃ (failed : BitVec 4) (s : State), s.startAt 8 = true ∧ s.start.memState = .training) ∧
    (∃ (upsets : List (Nat × BitVec 512)) (s : State), s.startAt 9 = true ∧ s.trng.state ≠ .startup) ∧
    (∃ (upsets : List (Nat × BitVec 512)) (s : State), s.startAt 8 = true ∧ s.start.memState = .noneConfigured ∧ s.trng.state ≠
      .startup) ∧
    (∃ (s : State), s.start.memState = .waiting ∧ s.drbgServes = true ∧ s.trng.generates + 17 < 65536 ∧ (∀ n ∈
      State.memorySlots, s.canInstall n = true)) :=
  ⟨⟨0, { start := { begun := true, phase := 8, memState := .training } }, by decide +kernel⟩,
    ⟨[], { start := { begun := true, phase := 9 }, trng := { state := .ok } }, by decide +kernel⟩,
    ⟨[], { start := { begun := true, phase := 8 }, trng := { state := .failed } }, by decide +kernel⟩,
    ⟨{ start := { memState := .waiting }, trng := { state := .ok } }, by decide +kernel⟩⟩

theorem test_met_JunctionReferencesComplete :
    (∃ (ref : Fin 4) (s : State), s.junLoaded = true ∧ (s.junRef ref).act = true ∧ ((∀ k, k < 4 → s.junFed k = true)) ∧ ((∀ k, k
      < 4 → (s.junRef k).wtrUntil = none))) ∧
    (∃ (ref : Fin 4) (s : State), s.junLoaded = true ∧ (s.junRef ref).act = true ∧ s.junFed ref = false) ∧
    (∃ (ref : Fin 4) (s : State), s.junLoaded = true ∧ (s.junRef ref).act = false ∧ s.junFed ref = true) ∧
    (∃ (ref : Fin 4) (ppb : Int) (s : State), s.junLoaded = true ∧ s.jun.xoFail = false ∧ (s.junRef ref).act = true ∧ s.junFed
      ref = true ∧ (s.junRef ref).freqOk = false ∧ (s.junRef ref).ever = false ∧ ppb.natAbs ≤ s.junAccept * 100) ∧
    (∃ (ref : Fin 4) (ppb : Int) (s : State), s.junLoaded = true ∧ s.jun.xoFail = false ∧ (s.junRef ref).act = true ∧ s.junFed
      ref = true ∧ (s.junRef ref).freqOk = true ∧ s.junAccept ≤ s.junReject ∧ s.junReject * 100 < ppb.natAbs) ∧
    (∃ (ref : Fin 4) (u : Nat) (s : State), s.junLoaded = true ∧ (s.junRef ref).wtrUntil = some u) :=
  ⟨⟨3, { junDev with jun := { refs := [(3, { act := true, freqOk := true })] } }, by decide +kernel⟩,
    ⟨0, { runningWith [sectionOf 3 0 []] with jun := { refs := [(0, { act := true, freqOk := true })] } }, by decide +kernel⟩,
    ⟨2, junDev, by decide +kernel⟩,
    ⟨1, 0, { junDev with jun := { refs := [(1, { act := true })] } }, by decide +kernel⟩,
    ⟨1, 20000, { junDev with jun := { refs := [(1, { act := true, freqOk := true })] } }, by decide +kernel⟩,
    ⟨0, 5, { junDev with jun := { refs := [(0, { wtrUntil := some 5 })] } }, by decide +kernel⟩⟩

theorem test_met_JunctionStatesComplete :
    (∃ (loop : List LoopSample) (s : State), s.junStands = true ∧ s.jun.state = .acquiring ∧ s.jun.bwStage < 4 ∧ 20 ≤
      loop.length ∧ (∀ m ∈ loop, m.phaseErr.natAbs < 1000)) ∧
    (∃ (loop : List LoopSample) (s : State), s.junStands = true ∧ s.jun.state = .acquiring ∧ s.jun.bwStage = 4 ∧ 100 ≤
      loop.length ∧ (∀ m ∈ loop, m.phaseErr.natAbs < 500)) ∧
    (∃ (loop : List LoopSample) (y : Int) (s : State), s.junStands = true ∧ s.jun.state = .locked ∧ y.natAbs ≤ 60000000 ∧ 600 ≤
      loop.length ∧ (∀ m ∈ loop, m.y = y)) ∧
    (∃ (loop : List LoopSample) (s : State), s.junStands = true ∧ s.jun.state = .locked ∧ s.jun.ys.length + loop.length < 600) ∧
    (∃ (s : State), s.jun.state = .holdover ∧ ((∀ k, k < 4 → s.junAvailable k = false ∧ (s.junRef k).wtrUntil = none))) ∧
    (∃ (s : State), s.jun.xoFail = false ∧ s.start.begun = true ∧ 2 ≤ s.start.phase) :=
  ⟨⟨List.replicate 20 { phaseErr := -3, y := 70000000 },
      { junDev with jun := { state := .acquiring, bwStage := 2, selected := 1, refs := [(0, { act := true, freqOk := true })] } },
      by decide +kernel⟩,
    ⟨List.replicate 100 { phaseErr := 1, y := 5 },
      { junDev with jun := { state := .acquiring, bwStage := 4, selected := 1, refs := [(0, { act := true, freqOk := true })] } },
      by decide +kernel⟩,
    ⟨List.replicate 600 { phaseErr := 1, y := 5 }, 5,
      { junDev with jun := { state := .locked, selected := 1, refs := [(0, { act := true, freqOk := true })] } },
      by decide +kernel⟩,
    ⟨[{ phaseErr := 1, y := 5 }],
      { junDev with jun := { state := .locked, selected := 1, refs := [(0, { act := true, freqOk := true })] } },
      by decide +kernel⟩,
    ⟨{ jun := { state := .holdover, outFreq := 9 } }, by decide +kernel⟩,
    ⟨junDev, by decide +kernel⟩⟩

theorem test_met_CustodyWindowComplete :
    (∃ (releasedMs : Nat) (s : State), s.cus.btn = false ∧ 100 ≤ releasedMs ∧ s.cus.jmp = true ∧ s.cus.win = .closed ∧
      s.start.outcome ≠ .starting) ∧
    (∃ (s : State), s.cus.win = .opened) ∧
    (∃ (s : State), s.cus.btn = true ∧ s.cus.timing = true ∧ s.cus.jmp = true ∧ s.cus.jmpThroughout = true ∧ s.start.outcome ≠
      .starting) ∧
    (∃ (s : State), s.cus.btn = true ∧ s.cus.timing = true ∧ (s.cus.jmp && s.cus.jmpThroughout) = false ∧ s.start.outcome ≠
      .starting) ∧
    (∃ (s : State), s.cus.win = .opened) :=
  ⟨⟨100, { runningWith [] with cus := { jmp := true } }, by decide +kernel⟩,
    ⟨{ cus := { jmp := true, win := .opened } }, by decide +kernel⟩,
    ⟨{ runningWith [] with cus := { jmp := true, btn := true, timing := true, jmpThroughout := true } }, by decide +kernel⟩,
    ⟨{ runningWith [] with cus := { btn := true, timing := true } }, by decide +kernel⟩,
    ⟨{ cus := { win := .opened, closeAt := 9 } }, by decide +kernel⟩⟩

theorem test_met_CustodyCommandsOfLifeComplete :
    (∃ (r : VerbCall) (s : State), s.custody r = true ∧ s.cus.startState ≠ .retired) ∧
    (∃ (r : VerbCall) (s : State), s.custodyFree r = true ∧ s.cus.startState = .blank ∧ s.helperUsed 0 = false ∧ s.helperUsed 1
      = false) ∧
    (∃ (r : VerbCall) (s : State), s.custodyFree r = true ∧ s.cus.startState = .blank ∧ s.helperUsed 0 = true ∧ s.helperVoid 0 =
      false ∧ s.helperUsed 1 = false) ∧
    (∃ (r : VerbCall) (s : State), s.custodyFree r = true ∧ s.cus.startState = .test) ∧
    (∃ (r : VerbCall) (hash : List Word) (s : State), s.custodyFree r = true ∧ s.cus.startState = .provision ∧ s.authUsed 0 =
      false ∧ s.authValid 1 = false) ∧
    (∃ (r : VerbCall) (s : State), s.custodyFree r = true ∧ s.cus.startState = .provision ∧ (State.lowestBank
      s.authValid).isSome = true) ∧
    (∃ (r : VerbCall) (s : State), s.custodyFree r = true ∧ s.cus.startState = .field ∧ s.inRunning = true) ∧
    (∃ (r : VerbCall) (s : State), s.custodyFree r = true ∧ (s.cus.startState = .field ∨ s.cus.startState = .analysis) ∧
      s.inRunning = true) ∧
    (∃ (r : VerbCall) (s : State), s.custodyFree r = true ∧ (s.cus.startState = .blank ∨ s.cus.startState = .test ∨
      s.cus.startState = .provision) ∧ s.inRunning = false) :=
  ⟨⟨{ caller := .plain, cond := none }, heldIn .blank [], by decide +kernel⟩,
    ⟨{ caller := .plain, cond := none }, heldIn .blank [], by decide +kernel⟩,
    ⟨{ caller := .plain, cond := none }, heldIn .blank [(2066, 1)], by decide +kernel⟩,
    ⟨{ caller := .plain, cond := none }, heldIn .test [], by decide +kernel⟩,
    ⟨{ caller := .plain, cond := none }, [], heldIn .provision [], by decide +kernel⟩,
    ⟨{ caller := .plain, cond := none }, heldIn .provision [(2586, 1), (2608, 123986)], by decide +kernel⟩,
    ⟨op0, fieldWindow, by decide +kernel⟩,
    ⟨op0, fieldWindow, by decide +kernel⟩,
    ⟨{ caller := .plain, cond := none }, heldIn .test [], by decide +kernel⟩⟩

theorem test_met_CustodyCommandsOfImagesComplete :
    (∃ (r : VerbCall) (readError : Option Nat) (s : State), s.custodyFree r = true ∧ s.inService = true ∧ s.image.stagedState =
      2 ∧ s.image.staging = none) ∧
    (∃ (r : VerbCall) (i : Image) (s : State), s.custodyFree r = true ∧ s.inService = true ∧ s.image.running = some i ∧
      slotDigest (s.slotRead 3 none) = i.digest) ∧
    (∃ (r : VerbCall) (i : Image) (s : State), s.custodyFree r = true ∧ s.inService = true ∧ s.image.running = some i ∧
      slotDigest (s.slotRead 3 none) = i.digest) ∧
    (∃ (r : VerbCall) (n : BitVec 6) (i : Image) (s : State), s.custodyFree r = true ∧ s.inService = true ∧ s.image.running =
      some i ∧ s.ladderValue .image < n.toNat ∧ n.toNat ≤ i.rung) :=
  ⟨⟨op0, none, { fieldWindow with image := { stagedState := 2 } }, by decide +kernel⟩,
    ⟨op0, zeroImage,
      { fieldWindow with nor := { slots := [(3, List.replicate 144 0)] }, image := { running := some zeroImage } },
      by decide +kernel⟩,
    ⟨op0, zeroImage,
      { fieldWindow with nor := { slots := [(3, List.replicate 144 0)] }, image := { running := some zeroImage } },
      by decide +kernel⟩,
    ⟨op0, 1, { imageOfSections [] with rung := 1 },
      { fieldWindow with image := { running := some { imageOfSections [] with rung := 1 } } }, by decide +kernel⟩⟩

theorem test_met_CustodyStepsComplete :
    (∃ (failing : List Nat) (cmd : Nat) (s : State), s.cus.running = some (cmd, .destroying)) ∧
    (∃ (cmd : Nat) (b : Nat) (rest : List Nat) (s : State), s.cus.running = some (cmd, .voiding (b :: rest))) ∧
    (∃ (fuses : Word) (cmd : Nat) (b : Nat) (rest : List Nat) (s : State), s.cus.running = some (cmd, .voiding (b :: rest)) ∧
      fuses ≠ 0o777777) ∧
    (∃ (capture : PufState) (cmd : Nat) (l : List Nat) (s : State), s.cus.running = some (cmd, .capturing l) ∧ l.length < 2) ∧
    (∃ (capture : PufState) (cmd : Nat) (a : Nat) (b : Nat) (s : State), s.cus.running = some (cmd, .capturing [a, b])) ∧
    (∃ (capture : PufState) (cmd : Nat) (b : Nat) (s : State), s.cus.running = some (cmd, .checking b)) ∧
    (∃ (words : List Word) (cmd : Nat) (b : Nat) (s : State), s.cus.running = some (cmd, .writingHelper b words)) ∧
    (∃ (e : OtpStop) (words : List Word) (cmd : Nat) (b : Nat) (s : State), s.cus.running = some (cmd, .writingHelper b words)) ∧
    (∃ (hash : List Word) (cmd : Nat) (b : Nat) (s : State), s.cus.running = some (cmd, .writingAuthority b hash)) ∧
    (∃ (a : Bool) (b : Bool) (cmd : Nat) (k : Nat) (l : Ladder) (s : State), s.cus.running = some (cmd, .intent l k) ∧ (a || b)
      = true) ∧
    (∃ (cmd : Nat) (k : Nat) (l : Ladder) (s : State), s.cus.running = some (cmd, .intent l k)) ∧
    (∃ (cmd : Nat) (k : Nat) (s : State), s.cus.running = some (cmd, .done .lc k)) ∧
    (∃ (cmd : Nat) (k : Nat) (l : Ladder) (s : State), s.cus.running = some (cmd, .done l k) ∧ l ≠ .lc) :=
  ⟨⟨[7], 6, { runningWith [] with cus := { running := some (6, .destroying) } }, by decide +kernel⟩,
    ⟨2, 0, [1], { cus := { running := some (2, .voiding [0, 1]) } }, by decide +kernel⟩,
    ⟨7, 2, 0, [1], { cus := { running := some (2, .voiding [0, 1]) } }, by decide +kernel⟩,
    ⟨5, 2, [3], { cus := { running := some (2, .capturing [3]) } }, by decide +kernel⟩,
    ⟨5, 2, 3, 4, { cus := { running := some (2, .capturing [3, 4]) } }, by decide +kernel⟩,
    ⟨0, 2, 0, { cus := { running := some (2, .checking 0) } }, by decide +kernel⟩,
    ⟨[5, 0, 3], 2, 1, { cus := { running := some (2, .writingHelper 1 [5, 0, 3]) }, otp := [(2326, 10)] }, by decide +kernel⟩,
    ⟨{ word := 1, fuses := 2 }, [5, 0, 3], 2, 1,
      { cus := { running := some (2, .writingHelper 1 [5, 0, 3]) }, otp := [(2326, 10)] }, by decide +kernel⟩,
    ⟨List.replicate 22 3, 4, 0, { cus := { running := some (4, .writingAuthority 0 (List.replicate 22 3)) } },
      by decide +kernel⟩,
    ⟨true, false, 3, 2, .lc, { cus := { running := some (3, .intent .lc 2) } }, by decide +kernel⟩,
    ⟨3, 2, .lc, { cus := { running := some (3, .intent .lc 2) } }, by decide +kernel⟩,
    ⟨3, 2, { cus := { running := some (3, .done .lc 2), win := .opened, pend := some (.lc, 2) } }, by decide +kernel⟩,
    ⟨0o13, 2, .image, { cus := { running := some (0o13, .done .image 2), win := .opened, pend := some (.image, 2) } },
      by decide +kernel⟩⟩

theorem test_met_LeaseLadderAndBootRecordComplete :
    (∃ (q : Advance) (rest : List Advance) (s : State), s.cus.advances = q :: rest ∧ s.cusWritesOtp = false ∧ s.cus.otpStopped =
      false ∧ s.ladderValue .lease < 8191) ∧
    (∃ (q : Advance) (rest : List Advance) (s : State), s.cus.advances = q :: rest ∧ s.cusWritesOtp = false ∧ 8191 ≤
      s.ladderValue .lease) ∧
    (∃ (cmd : Nat) (capture : PufState) (s : State), s.cus.running = some (cmd, .bootRecord) ∧ s.norRefuses = false) ∧
    (∃ (worn : List (Nat × Byte)) (readError : Option Nat) (cmd : Nat) (target : Nat) (s : State), s.cus.running = some (cmd,
      .copying target) ∧ s.norRefuses = false ∧ s.cus.otpStopped = false) :=
  ⟨⟨.firstLease, [], { cus := { advances := [.firstLease] } }, by decide +kernel⟩,
    ⟨.downEpoch, [], { cus := { advances := [.downEpoch] }, otp := [(2065, 0o3400)] }, by decide +kernel⟩,
    ⟨8, 4, { nor := norGood, cus := { running := some (8, .bootRecord) } }, by decide +kernel⟩,
    ⟨[], none, 9, 1, { nor := norGood, cus := { running := some (9, .copying 1) } }, by decide +kernel⟩⟩

theorem test_met_EntropyComplete :
    (∃ (samples : BitVec 1024) (s : State), s.sampling = true ∧ s.trng.state = .startup ∧ s.trng.firstPassed = false ∧
      (s.testWindow (windowSamples samples)).1 = none) ∧
    (∃ (samples : BitVec 1024) (s : State), s.sampling = true ∧ s.trng.state = .startup ∧ s.trng.firstPassed = true ∧
      s.trng.waiting = [] ∧ (s.testWindow (windowSamples samples)).1 = none) ∧
    (∃ (samples : BitVec 1024) (s : State), s.sampling = true ∧ s.trng.state = .ok ∧ s.trng.reseedDue = false ∧ s.trng.waiting =
      [] ∧ (s.testWindow (windowSamples samples)).1 = none) ∧
    (∃ (samples : List Bool) (test : Nat) (s : State), s.sampling = true ∧ s.trng.failRun < 2 ∧ (s.testWindow (samples.take
      1024)).1 = some test) ∧
    (∃ (samples : List Bool) (test : Nat) (s : State), s.sampling = true ∧ 2 ≤ s.trng.failRun ∧ (s.testWindow (samples.take
      1024)).1 = some test) ∧
    (∃ (samples : BitVec 1024) (s : State), s.sampling = true ∧ s.trng.state = .retest ∧ s.trng.firstPassed = false ∧
      (s.testWindow (windowSamples samples)).1 = none) ∧
    (∃ (s : State), s.trng.state = .ok ∧ 1024 ≤ s.trng.pool.length ∧ s.trng.waiting = []) ∧
    (∃ (s : State), s.trng.state = .ok ∧ s.trng.pool.length < 1024) ∧
    (∃ (c : Consumer) (u : Nat) (rest : List (Consumer × Nat)) (s : State), (s.trng.state = .startup ∨ s.trng.state = .retest) ∧
      s.trng.waiting = (c, u) :: rest) :=
  ⟨⟨goodWindow, { start := { phase := 2 } }, by decide +kernel⟩,
    ⟨goodWindow, { start := { phase := 2 }, trng := { firstPassed := true, pool := List.replicate 1024 true } },
      by decide +kernel⟩,
    ⟨goodWindow, { start := { phase := 2 }, trng := { state := .ok } }, by decide +kernel⟩,
    ⟨List.replicate 41 true, 1, { start := { phase := 2 }, trng := { state := .ok, failRun := 1, pool := [true] } },
      by decide +kernel⟩,
    ⟨List.replicate 41 false, 1, { start := { phase := 2 }, trng := { state := .retest, failRun := 2, pool := [true] } },
      by decide +kernel⟩,
    ⟨goodWindow, { start := { phase := 2 }, trng := { state := .retest, failRun := 1 } }, by decide +kernel⟩,
    ⟨{ trng := { state := .ok, pool := List.replicate 1024 false } }, by decide +kernel⟩,
    ⟨{ trng := { state := .ok, pool := [true] } }, by decide +kernel⟩,
    ⟨.challenge 0, 0, [], { trng := { state := .retest, waiting := [(.challenge 0, 0)] } }, by decide +kernel⟩⟩

theorem test_met_VergeResetsComplete :
    (∃ (s : State), s.verge.vf33Low = false) ∧
    (∃ (lowNs : Nat) (s : State), s.verge.rstLow = false ∧ 1000 ≤ lowNs) ∧
    (∃ (lowNs : Nat) (s : State), s.verge.rstLow = false ∧ lowNs < 100) ∧
    (∃ (s : State), s.verge.clockLost = false ∧ s.verge.vf33Low = false ∧ s.verge.rstLow = false) ∧
    (∃ (s : State), s.start.linkStarted = true ∧ s.verge.vf33Low = false ∧ s.verge.rstLow = false ∧ s.verge.locked = false) :=
  ⟨⟨vergeUp { config := portMode 1, state := .idle, fwd := true }, by decide +kernel⟩,
    ⟨1000, vergeUp { config := portMode 1, state := .idle, fwd := true }, by decide +kernel⟩,
    ⟨99, vergeUp { config := portMode 1, state := .idle, fwd := true }, by decide +kernel⟩,
    ⟨vergeUp { config := portMode 1, state := .idle, fwd := true }, by decide +kernel⟩,
    ⟨{ start := { linkStarted := true }, verge := { vf33Low := false, ports := [(3, { config := portMode 2 })] } },
      by decide +kernel⟩⟩

theorem test_met_VergeMessagesComplete :
    (∃ (p : Nat) (g : Nat) (v : List Word) (s : State), s.arrives .down .state (.portConfig p g v) = true) ∧
    (∃ (p : Nat) (s : State), s.arrives .down .state (.portCmd p none 1) = true ∧ (s.port p).state = .down) ∧
    (∃ (p : Nat) (s : State), s.arrives .down .state (.portCmd p none 2) = true) ∧
    (∃ (s : State), s.arrives .down .state .stateQuery = true) ∧
    (∃ (f : DownFrame) (s : State), s.arrives .down .station (.stationDown f) = true ∧ (s.port f.port).state ≠ .off ∧ (s.port
      f.port).state ≠ .down ∧ (s.port f.port).queue.length < 16) :=
  ⟨⟨0, 4, portMode 3, onWire (vergeUp {}) .down .state (.portConfig 0 4 (portMode 3)), by decide +kernel⟩,
    ⟨0, onWire (vergeUp { config := portMode 1, state := .down }) .down .state (.portCmd 0 none 1), by decide +kernel⟩,
    ⟨0, onWire (vergeUp { config := portMode 1, framesRx := 9, early := 2 }) .down .state (.portCmd 0 none 2),
      by decide +kernel⟩,
    ⟨onWire (vergeUp {}) .down .state .stateQuery, by decide +kernel⟩,
    ⟨down0, onWire (vergeUp { config := portMode 1, state := .idle, fwd := true }) .down .station (.stationDown down0),
      by decide +kernel⟩⟩

theorem test_met_PortReceptionComplete :
    (∃ (port : Fin 10) (s : State), s.portHears port = true) ∧
    (∃ (port : Fin 10) (bytes : List Byte) (s : State), s.portHears port = true ∧ nfSof (bytesOf bytes) = true ∧ frameBad
      (bytesOf bytes) = false ∧ tabGet none s.verge.dups (nfStation (bytesOf bytes) % 4096) ≠ some (nfStation (bytesOf bytes),
      nfSeq (bytesOf bytes)) ∧ (s.port port).fwd = true ∧ s.holdBytes + bytes.length ≤ 65536) ∧
    (∃ (port : Fin 10) (bytes : List Byte) (s : State), s.portHears port = true ∧ nfSof (bytesOf bytes) = true ∧ frameBad
      (bytesOf bytes) = false ∧ tabGet none s.verge.dups (nfStation (bytesOf bytes) % 4096) = some (nfStation (bytesOf bytes),
      nfSeq (bytesOf bytes))) ∧
    (∃ (port : Fin 10) (bytes : List Byte) (s : State), s.portHears port = true ∧ nfSof (bytesOf bytes) = true ∧ frameBad
      (bytesOf bytes) = true) ∧
    (∃ (port : Fin 10) (bytes : List Byte) (s : State), nfSof (bytesOf bytes) = false) ∧
    (∃ (port : Fin 10) (s : State), s.portHears port = true ∧ (s.port port).inFrame = true ∧ (s.port port).mode ≠ 2) ∧
    (∃ (port : Fin 10) (s : State), (s.port port).mode = 2 ∧ s.vergeRuns = true ∧ (s.port port).inFrame = true) ∧
    (∃ (port : Fin 10) (level : Bool) (s : State), s.vergeRuns = true) ∧
    (∃ (input : Fin 8) (level : Bool) (s : State), s.vergeRuns = true ∧ s.verge.levels.testBit input ≠ level) :=
  ⟨⟨0, vergeUp { config := portMode 1, state := .idle, fwd := true }, by decide +kernel⟩,
    ⟨0, asBytes (stationF 1), vergeUp { config := portMode 1, state := .idle, fwd := true }, by decide +kernel⟩,
    ⟨0, asBytes (stationF 1),
      { vergeUp {} with verge := { (vergeUp { config := portMode 1, state := .idle, fwd := true }).verge with dups := [(5, some (5, 1))] } },
      by decide +kernel⟩,
    ⟨0, asBytes ((stationF 1).set 3 31), vergeUp { config := portMode 1, state := .receiving, inFrame := true },
      by decide +kernel⟩,
    ⟨0, [7, 0], vergeUp { config := portMode 1, state := .receiving, inFrame := true }, by decide +kernel⟩,
    ⟨0, vergeUp { config := portMode 1, state := .receiving, inFrame := true }, by decide +kernel⟩,
    ⟨0, vergeUp { config := portMode 2, state := .receiving, inFrame := true }, by decide +kernel⟩,
    ⟨0, true, vergeUp { config := portMode 1, state := .idle, fwd := true }, by decide +kernel⟩,
    ⟨7, true, vergeUp { config := portMode 1, state := .idle, fwd := true }, by decide +kernel⟩⟩

theorem test_met_PortTransmissionComplete :
    (∃ (port : Fin 10) (s : State), s.vergeRuns = true ∧ (s.port port).state = .waitCts ∧ (s.port port).rts = true) ∧
    (∃ (port : Fin 10) (s : State), s.vergeRuns = true ∧ (s.port port).state = .down ∧ (s.port port).rts = true) ∧
    (∃ (port : Fin 10) (s : State), (s.port port).state = .waitCts ∧ (s.port port).lead = false ∧ (s.port port).ldRun < 2) ∧
    (∃ (port : Fin 10) (s : State), (s.port port).state = .waitCts ∧ (s.port port).lead = false ∧ 2 ≤ (s.port port).ldRun) ∧
    (∃ (port : Fin 10) (s : State), (s.port port).lead = true) ∧
    (∃ (port : Fin 10) (f : DownFrame) (rest : List DownFrame) (s : State), (s.port port).state = .transmitting ∧ (s.port
      port).lead = false ∧ (s.port port).tail = false ∧ (s.port port).queue = f :: rest) ∧
    (∃ (port : Fin 10) (s : State), (s.port port).tail = true) ∧
    (∃ (port : Fin 10) (s : State), (s.port port).state = .down ∧ (s.port port).rts = false) :=
  ⟨⟨0, vergeUp { config := portMode 1, state := .waitCts, rts := true, queue := [down0] }, by decide +kernel⟩,
    ⟨0, vergeUp { config := portMode 1, state := .down, rts := true }, by decide +kernel⟩,
    ⟨0, vergeUp { config := portMode 1, state := .waitCts, rts := true, queue := [down0] }, by decide +kernel⟩,
    ⟨0, vergeUp { config := portMode 1, state := .waitCts, rts := true, ldRun := 2, queue := [down0,down0] }, by decide +kernel⟩,
    ⟨0, vergeUp { config := portMode 1, state := .waitCts, rts := true, lead := true, queue := [down0] }, by decide +kernel⟩,
    ⟨0, down0, [], vergeUp { config := portMode 1, state := .transmitting, queue := [down0] }, by decide +kernel⟩,
    ⟨0, vergeUp { config := portMode 1, state := .transmitting, tail := true }, by decide +kernel⟩,
    ⟨0, vergeUp { config := portMode 1, state := .down }, by decide +kernel⟩⟩

theorem test_met_LaneStatesComplete :
    (∃ (lane : Fin 16) (n : Nat) (cause : Nat) (losses : List LaneLoss) (receiving : Bool) (s : State), s.wireLane lane = some n
      ∧ s.laneUpNow n = true ∧ firstLoss losses = some cause) ∧
    (∃ (lane : Fin 16) (n : Nat) (corrected : Nat) (uncorrectable : Nat) (receiving : Bool) (s : State), s.wireLane lane = some
      n ∧ s.laneUpNow n = true ∧ s.laneErrDown n ≠ 0 ∧ s.laneErrDown n < uncorrectable) ∧
    (∃ (lane : Fin 16) (n : Nat) (corrected : Nat) (uncorrectable : Nat) (receiving : Bool) (s : State), s.wireLane lane = some
      n ∧ (s.lane n).errors = [] ∧ uncorrectable ≤ s.laneErrDown n) ∧
    (∃ (lane : Fin 16) (n : Nat) (s : State), s.wireLane lane = some n ∧ ((s.lane n).state = .training ∨ (s.laneTrain n = false
      ∧ ((s.lane n).state = .hold ∨ (s.lane n).state = .down))) ∧ s.laneLocked n = true) ∧
    (∃ (lane : Fin 16) (n : Nat) (u : Nat) (s : State), s.wireLane lane = some n ∧ (s.lane n).holdUntil = some u) ∧
    (∃ (lane : Fin 16) (n : Nat) (s : State), s.wireLane lane = some n ∧ (s.lane n).state = .damped) ∧
    (∃ (lane : Fin 16) (n : Nat) (s : State), s.wireLane lane = some n ∧ s.laneTrain n = true ∧ (s.lane n).state = .hold) ∧
    (∃ (lane : Fin 16) (n : Nat) (u : Nat) (rest : List Nat) (s : State), s.wireLane lane = some n ∧ (s.lane n).window = u ::
      rest) :=
  ⟨⟨0, 0, 1, [.remoteFault, .signal], true, laneDev 1 0 { state := .up, gen := 31 }, by decide +kernel⟩,
    ⟨0, 0, 3, 6, false, laneDev 1 0 { state := .up }, by decide +kernel⟩,
    ⟨0, 0, 3, 5, false, laneDev 1 0 { state := .up }, by decide +kernel⟩,
    ⟨0, 0, laneDev 1 1024 { state := .training }, by decide +kernel⟩,
    ⟨0, 0, 7, laneDev 1 0 { state := .hold, holdUntil := some 7 }, by decide +kernel⟩,
    ⟨0, 0, laneDev 1 0 { state := .damped, dampUntil := 9, window := [1, 2, 3] }, by decide +kernel⟩,
    ⟨0, 0, laneDev 1 1024 { state := .hold, holdUntil := some 7 }, by decide +kernel⟩,
    ⟨0, 0, 4, [9], laneDev 1 0 { state := .up, window := [4, 9] }, by decide +kernel⟩⟩

theorem test_met_LaneFlowControlCompletes :
    (∃ (lane : Fin 16) (n : Nat) (quanta : BitVec 16) (s : State), s.wireLane lane = some n ∧ s.laneUpNow n = true ∧
      s.laneIsClient n = true ∧ s.lanePauseEn n = true ∧ s.laneRate n ≠ 0) ∧
    (∃ (lane : Fin 16) (n : Nat) (quanta : BitVec 16) (s : State), s.wireLane lane = some n ∧ s.laneUpNow n = true ∧
      s.laneIsClient n = true ∧ s.lanePauseEn n = true ∧ s.laneRate n ≠ 0) ∧
    (∃ (lane : Fin 16) (n : Nat) (quanta : BitVec 16) (s : State), s.wireLane lane = some n ∧ s.laneUpNow n = true ∧
      s.lanePauseEn n = false) ∧
    (∃ (lane : Fin 16) (n : Nat) (quanta : BitVec 16) (s : State), s.wireLane lane = some n ∧ s.laneUpNow n = false) ∧
    (∃ (lane : Fin 16) (n : Nat) (enable : Byte) (quanta : BitVec 128) (s : State), s.wireLane lane = some n ∧ s.laneUpNow n =
      true ∧ s.laneIsClient n = true ∧ s.lanePfcEn n = true ∧ enable.toNat &&& s.lanePfcPrio n ≠ 0 ∧ s.laneRate n ≠ 0) ∧
    (∃ (lane : Fin 16) (n : Nat) (enable : Byte) (quanta : BitVec 128) (s : State), s.wireLane lane = some n ∧ s.laneUpNow n =
      true ∧ enable.toNat &&& s.lanePfcPrio n = 0) ∧
    (∃ (lane : Fin 16) (n : Nat) (u : Nat) (s : State), s.unitsHeld = false ∧ s.laneLead lane = some n ∧ tabGet 0 (s.lane
      n).heldUntil 8 = u ∧ u ≠ 0) ∧
    (∃ (lane : Fin 16) (n : Nat) (u : Nat) (p : Fin 8) (s : State), s.unitsHeld = false ∧ s.laneLead lane = some n ∧ tabGet 0
      (s.lane n).heldUntil p = u ∧ u ≠ 0) ∧
    (∃ (lane : Fin 16) (n : Nat) (u : Nat) (s : State), s.unitsHeld = false ∧ s.replayMode = false ∧ s.laneLead lane = some n ∧
      s.laneUpNow n = true ∧ (s.lane n).sentAt = [(8, u)]) ∧
    (∃ (lane : Fin 16) (n : Nat) (p : Nat) (u : Nat) (s : State), s.unitsHeld = false ∧ s.replayMode = false ∧ s.laneLead lane =
      some n ∧ s.laneUpNow n = true ∧ (s.lane n).sentAt = [(p, u)] ∧ p < 8) :=
  ⟨⟨0, 0, 1, laneDev 1 512 { state := .up }, by decide +kernel⟩,
    ⟨0, 0, 0, laneDev 1 512 { state := .up, pauseRx := true, heldUntil := [(8, 5)] }, by decide +kernel⟩,
    ⟨0, 0, 1, laneDev 1 0 { state := .up }, by decide +kernel⟩,
    ⟨0, 0, 1, laneDev 1 512 { state := .hold }, by decide +kernel⟩,
    ⟨0, 0, 5, BitVec.ofNat 128 (2 ^ 80), laneDev 1 256 { state := .up, pfcRx := 3 }, by decide +kernel⟩,
    ⟨0, 0, 0, 1, laneDev 1 256 { state := .up }, by decide +kernel⟩,
    ⟨0, 0, 7, laneDev 1 512 { state := .up, pauseRx := true, heldUntil := [(8, 7)] }, by decide +kernel⟩,
    ⟨0, 0, 7, 1, laneDev 1 256 { state := .up, pfcRx := 3, heldUntil := [(0, 9), (1, 7)] }, by decide +kernel⟩,
    ⟨0, 0, 1, laneDev 1 512 { state := .up, pauseTx := true, sentAt := [(8, 1)] }, by decide +kernel⟩,
    ⟨0, 0, 2, 1, laneDev 1 256 { state := .up, pfcTx := 4, sentAt := [(2, 1)] }, by decide +kernel⟩⟩

theorem test_met_ClientFramesComplete :
    (∃ (lane : Fin 16) (n : Nat) (bytes : List Byte) (s : State), s.laneLead lane = some n ∧ s.laneIsClient n = true ∧
      s.laneUpNow n = true ∧ s.replayMode = false ∧ (fcsGood (bytesOf bytes) = false ∨ bytes.length < 64)) ∧
    (∃ (lane : Fin 16) (n : Nat) (bytes : List Byte) (s : State), s.laneLead lane = some n ∧ s.laneIsClient n = true ∧
      s.laneUpNow n = true ∧ s.replayMode = false ∧ (fcsGood (bytesOf bytes) = false ∨ bytes.length < 64)) ∧
    (∃ (lane : Fin 16) (n : Nat) (bytes : List Byte) (s : State), s.laneLead lane = some n ∧ s.laneIsClient n = true ∧
      s.laneUpNow n = true ∧ s.replayMode = false ∧ fcsGood (bytesOf bytes) = true ∧ 64 ≤ bytes.length ∧ s.laneMaxFrame n <
      bytes.length) ∧
    (∃ (lane : Fin 16) (n : Nat) (bytes : List Byte) (s : State), s.laneLead lane = some n ∧ s.laneIsClient n = true ∧
      s.laneUpNow n = true ∧ s.replayMode = false ∧ fcsGood (bytesOf bytes) = true ∧ 64 ≤ bytes.length ∧ bytes.length ≤
      s.laneMaxFrame n ∧ pairAt (bytesOf bytes) 12 = 0x8808 ∧ pairAt (bytesOf bytes) 14 ≠ 1 ∧ pairAt (bytesOf bytes) 14 ≠
      0x0101) ∧
    (∃ (lane : Fin 16) (n : Nat) (bytes : List Byte) (s : State), s.laneLead lane = some n ∧ s.laneIsClient n = true ∧
      s.laneUpNow n = true ∧ s.replayMode = false ∧ fcsGood (bytesOf bytes) = true ∧ 64 ≤ bytes.length ∧ bytes.length ≤
      s.laneMaxFrame n ∧ pairAt (bytesOf bytes) 12 ≠ 0x8808 ∧ frameDa (bytesOf bytes) ≠ s.laneMac n ∧ s.selectTenant n
      (frameVlan (bytesOf bytes)) = none) ∧
    (∃ (lane : Fin 16) (n : Nat) (bytes : List Byte) (u : Nat) (i : Nat) (q : Nat) (tc : Nat) (stream : Option Nat) (s : State),
      s.laneLead lane = some n ∧ s.laneIsClient n = true ∧ s.laneUpNow n = true ∧ s.replayMode = false ∧ fcsGood (bytesOf bytes)
      = true ∧ 64 ≤ bytes.length ∧ bytes.length ≤ s.laneMaxFrame n ∧ pairAt (bytesOf bytes) 12 ≠ 0x8808 ∧ frameDa (bytesOf
      bytes) ≠ s.laneMac n ∧ s.selectTenant n (frameVlan (bytesOf bytes)) = some u ∧ s.start.outcome = .running ∧ tabGet none
      s.tp.drains u = none ∧ s.classify u (clientKey n bytes) = some i ∧ State.entryResult (State.classEntry (s.classifier u) i)
      = (q, tc, stream) ∧ State.stateCode (s.tenant u).state = none ∧ s.settled q = true ∧ s.admits u q bytes.length = true) :=
  ⟨⟨0, 0, frame5 63, tenDev {}, by decide +kernel⟩,
    ⟨0, 0, (frame5 64).set 20 1, tenDev {}, by decide +kernel⟩,
    ⟨0, 0, frame5 1519, tenDev {}, by decide +kernel⟩,
    ⟨0, 0, asBytes (withFcs (padTo 60 (List.replicate 12 1 ++ [0x88, 0x08, 0, 2]))), tenDev {}, by decide +kernel⟩,
    ⟨0, 0, asBytes (withFcs (padTo 60 (List.replicate 12 1 ++ [8, 0]))), tenDev {}, by decide +kernel⟩,
    ⟨0, 0, frame5 64, 0, 0, 0, 0, none, tenDev {}, by decide +kernel⟩⟩

theorem test_met_TenantResetsComplete :
    (∃ (r : VerbCall) (tenant : Fin 16) (s : State), s.mayAct r (some (tenantWindow tenant, (s.tenant tenant).gen)) = true ∧
      (State.isOperator r.caller = true ∨ r.caller = .tenant tenant) ∧ s.configured tenant = true ∧ (s.tenant tenant).state ≠
      .fenced ∧ (s.tenant tenant).state ≠ .resetting) ∧
    (∃ (r : VerbCall) (tenant : Fin 16) (v : TenReset) (s : State), s.mayAct r (some (tenantWindow tenant, (s.tenant
      tenant).gen)) = true ∧ State.isOperator r.caller = true ∧ s.configured tenant = true ∧ (s.tenant tenant).state =
      .resetting ∧ (s.tenant tenant).reset = some v ∧ v.started = s.now ∧ (s.tenant tenant).trigger = 1) ∧
    (∃ (r : VerbCall) (tenant : Fin 16) (s : State), s.mayAct r (some (tenantWindow tenant, (s.tenant tenant).gen)) = true ∧
      State.isOperator r.caller = true ∧ s.configured tenant = true ∧ (s.tenant tenant).state = .fenced ∧ (s.tenant
      tenant).fencedForStart = false) ∧
    (∃ (tenant : Fin 16) (r : TenReset) (s : State), s.unitsHeld = false ∧ (s.tenant tenant).reset = some r ∧ r.phase =
      .draining) ∧
    (∃ (tenant : Fin 16) (r : TenReset) (s : State), s.unitsHeld = false ∧ (s.tenant tenant).reset = some r ∧ r.phase =
      .emptying ∧ s.tenantPending tenant = true) ∧
    (∃ (tenant : Fin 16) (r : TenReset) (s : State), s.unitsHeld = false ∧ (s.tenant tenant).reset = some r ∧ r.phase =
      .emptying ∧ s.tenantPending tenant = false ∧ s.start.memState = .noneConfigured ∧ s.mem.quarantined = false ∧ (s.region
      tenant).epoch < 2 ^ 24 - 1) ∧
    (∃ (tenant : Fin 16) (r : TenReset) (s : State), s.unitsHeld = false ∧ (s.tenant tenant).reset = some r ∧ r.phase =
      .emptying ∧ s.tenantPending tenant = false ∧ s.start.memState ≠ .noneConfigured ∧ s.replaying = false ∧ s.drbgServes =
      true ∧ s.canInstall (slotMem tenant) = true ∧ s.mem.quarantined = false ∧ (s.region tenant).epoch < 2 ^ 24 - 1) ∧
    (∃ (tenant : Fin 16) (r : TenReset) (s : State), s.unitsHeld = false ∧ (s.tenant tenant).reset = some r ∧ r.phase = .keyWait
      true ∧ s.replaying = false ∧ s.drbgServes = true ∧ s.canInstall (slotMem tenant) = true ∧ s.mem.quarantined = false ∧
      (s.region tenant).epoch < 2 ^ 24 - 1) ∧
    (∃ (tenant : Fin 16) (x : Nat) (rest : List Nat) (s : State), s.unitsHeld = false ∧ (s.tenant tenant).window = x :: rest) ∧
    (∃ (tenant : Fin 16) (s : State), s.unitsHeld = false ∧ (s.tenant tenant).state = .degraded) :=
  ⟨⟨op0, 0, tenDev { state := .degraded }, by decide +kernel⟩,
    ⟨op0, 0, { phase := .emptying, started := 0 }, tenDev
      { state := .resetting, trigger := 1, reset := some { phase := .emptying, started := 0 } }, by decide +kernel⟩,
    ⟨op0, 0, tenDev { state := .fenced, window := [1, 2, 3] }, by decide +kernel⟩,
    ⟨0, { phase := .draining, started := 0, fences := false }, tenQ
      { state := .resetting, reset := some { phase := .draining, started := 0, fences := false } }
      { frames := [qf 64 .reserved, qf 65 .reserved] }, by decide +kernel⟩,
    ⟨0, { phase := .emptying, started := 0, fences := false },
      { tenDev { state := .resetting, reset := some { phase := .emptying, started := 0, fences := false } } with image := { running := some (imageOfSections (tenSecs 1)), pending := [{ type := 12, inst := 0, new := none }] } },
      by decide +kernel⟩,
    ⟨0, { phase := .emptying, started := 0, fences := false }, tenQ
      { state := .resetting, reset := some { phase := .emptying, started := 0, fences := false } }
      { frames := [qf 64 .reserved] }, by decide +kernel⟩,
    ⟨0, { phase := .emptying, started := 0, fences := false },
      { tenDev { state := .resetting, reset := some { phase := .emptying, started := 0, fences := false } } with trng := { state := .ok }, start := { memState := .ready } },
      by decide +kernel⟩,
    ⟨0, { phase := .keyWait true, started := 0, fences := false },
      { tenDev { state := .resetting, reset := some { phase := .keyWait true, started := 0, fences := false } } with trng := { state := .ok } },
      by decide +kernel⟩,
    ⟨0, 4, [5], tenDev { window := [4, 5] }, by decide +kernel⟩,
    ⟨0, tenDev { state := .degraded, degCause := 8 }, by decide +kernel⟩⟩

theorem test_met_TenantEventsComplete :
    (∃ (r : VerbCall) (tenant : Fin 16) (value : Word) (s : State), s.mayAct r (some (tenantWindow tenant, (s.tenant
      tenant).gen)) = true ∧ (State.isOperator r.caller = true ∨ r.caller = .tenant tenant) ∧ s.configured tenant = true ∧
      (value.toNat + 2 ^ 18 - (s.tenant tenant).ackSeq) % 2 ^ 18 ≤ ((s.tenant tenant).produced + 2 ^ 18 - (s.tenant
      tenant).ackSeq) % 2 ^ 18) ∧
    (∃ (tenant : Fin 16) (d : Nat) (key : Nat) (s : State), s.unitsHeld = false ∧ s.replayMode = false ∧ s.configured tenant =
      true ∧ s.notifyEn tenant = true ∧ (s.tenant tenant).notifyDue = false ∧ s.callerOpen (State.tenantCaller tenant) = true ∧
      s.notifyDueAt tenant = some d ∧ s.lookup (State.sessSlot (State.tenantCaller tenant)) = some key ∧ s.tp.mgmtWait = [] ∧
      s.mgmtHeld + cellsOf (s.itemLen (.notify tenant)) ≤ 512) :=
  ⟨⟨op0, 0, 3, tenDev { produced := 4, ackSeq := 1, lostRun := 2 }, by decide +kernel⟩,
    ⟨0, 0, 0,
      { tenDev { produced := 1, ring := [{ event := 1, kind := 0, number := 0, seq := 1, arg := 0, time := 0 }], moderation := [0, 0, 0, BitVec.ofNat 18 (2 ^ 17)] } with sp := { ten := [(0, { state := .opened })] }, keys := { slots := [(slotTenSession 0, { state := .valid })] } },
      by decide +kernel⟩⟩

theorem test_met_SchedulerPickCompletes :
    (∃ (lane : Fin 16) (n : Nat) (w : Nat) (f : MgmtFrame) (rest : List MgmtFrame) (s : State), s.unitsHeld = false ∧ s.laneLead
      lane = some n ∧ s.laneStarts n = true ∧ s.mgmtUse (s.sched n) * 100 ≤ s.laneRate n * 125 ∧ (s.sched n).mgmt = f :: rest) ∧
    (∃ (lane : Fin 16) (n : Nat) (w : Nat) (u : Nat) (q : Nat) (commit : Bool) (c : Sched) (f : QFrame) (rest : List QFrame) (s
      : State), s.unitsHeld = false ∧ s.laneLead lane = some n ∧ s.laneStarts n = true ∧ s.mgmtFirst n = none ∧ s.laneIsTrunk n
      = false ∧ s.pickTenant n = some (commit, u, q, c) ∧ (s.queue q).frames = f :: rest) ∧
    (∃ (lane : Fin 16) (n : Nat) (w : Nat) (u : Nat) (q : Nat) (x : Nat) (value : Nat) (commit : Bool) (c : Sched) (f : QFrame)
      (rest : List QFrame) (s : State), s.unitsHeld = false ∧ s.laneLead lane = some n ∧ s.laneStarts n = true ∧ s.mgmtFirst n =
      none ∧ s.laneIsTrunk n = true ∧ s.engineOther n = none ∧ s.pickTenant n = some (commit, u, q, c) ∧ (s.queue q).frames = f
      :: rest ∧ f.stream = some x ∧ entValid (s.txStream x).entry = true ∧ entLane (s.txStream x).entry = n ∧ (s.txStream
      x).newAn = false ∧ s.lookup (slotTx x (s.txStream x).an) = some value ∧ (s.txStream x).state ≠ .exhausted ∧ (s.txStream
      x).nextPn < 2 ^ 64 ∧ (s.leased (s.txStream x) = false ∨ (s.txStream x).nextPn < (s.txStream x).leaseEnd)) :=
  ⟨⟨0, 0, 0, { kind := 0, bytes := [1, 2] }, [],
      { tenDev {} with tp := { lanes := [(0, { mgmt := [{ kind := 0, bytes := [1, 2] }] })] } }, by decide +kernel⟩,
    ⟨1, 1, 0, 0, 0, true, { lastCommit := 0, queues := [(0, { granted := true, deficits := [(0, 172)] })] }, qf 64 .reserved,
      [], tenQ {} { frames := [qf 64 .reserved] }, by decide +kernel⟩,
    ⟨1, 1, 0, 0, 0, 3, 0, true, { lastCommit := 0, queues := [(0, { granted := true, deficits := [(0, 140)] })] },
      { qf 64 .reserved with stream := some 3 }, [], trunkDev, by decide +kernel⟩⟩

theorem test_met_TurnpikeComplete :
    (∃ (lane : Fin 16) (n : Nat) (q : Nat) (an : Nat) (pn : Nat) (f : QFrame) (s : State), s.unitsHeld = false ∧ s.laneLead lane
      = some n ∧ (s.sched n).sending = some (.data q an pn) ∧ (s.queue q).inFlight = some f) ∧
    (∃ (lane : Fin 16) (n : Nat) (f : MgmtFrame) (s : State), s.unitsHeld = false ∧ s.laneLead lane = some n ∧ (s.sched
      n).sending = some (.mgmt f)) ∧
    (∃ (queue : Fin 16384) (ahead : Nat) (u : Nat) (l : List QFrame) (rest : List QFrame) (f : QFrame) (s : State), s.unitsHeld
      = false ∧ s.tenantOfQueue queue = some u ∧ (s.queue queue).frames = l ++ f :: rest ∧ (l.filter QFrame.unaccepted).length =
      ahead ∧ f.unaccepted = true) ∧
    (∃ (queue : Fin 16384) (ahead : Nat) (u : Nat) (l : List QFrame) (rest : List QFrame) (f : QFrame) (s : State), s.unitsHeld
      = false ∧ s.tenantOfQueue queue = some u ∧ (s.queue queue).frames = l ++ f :: rest ∧ (l.filter QFrame.unaccepted).length =
      ahead ∧ f.unaccepted = true) ∧
    (∃ (queue : Fin 16384) (u : Nat) (l : List QFrame) (rest : List QFrame) (f : QFrame) (s : State), s.unitsHeld = false ∧
      (s.queue queue).frames = l ++ f :: rest ∧ (∀ g ∈ l, g.place ≠ .spill) ∧ f.place = .spill ∧ s.settled queue = true ∧
      s.tenantOfQueue queue = some u ∧ s.memReady = true ∧ (tabGet {} s.mem.regions u).broken = false ∧ State.held (s.queue
      queue) .reserved + cellsOf f.len ≤ s.qWord queue 2) ∧
    (∃ (queue : Fin 16384) (u : Nat) (l : List QFrame) (rest : List QFrame) (f : QFrame) (s : State), s.unitsHeld = false ∧
      (s.queue queue).frames = l ++ f :: rest ∧ (∀ g ∈ l, g.place ≠ .spill) ∧ f.place = .spill ∧ s.settled queue = true ∧
      s.tenantOfQueue queue = some u) ∧
    (∃ (tenant : Fin 16) (d : Drain) (s : State), s.unitsHeld = false ∧ tabGet none s.tp.drains tenant = some d) ∧
    (∃ (queue : Fin 16384) (x : Nat) (s : State), s.unitsHeld = false ∧ (s.queue queue).releasedAt = some x) :=
  ⟨⟨1, 1, 0, 0, 0, qf 64 .reserved,
      { tenQ {} {} with tp := { queues := [(0, { inFlight := some (qf 64 .reserved) })], lanes := [(1, { sending := some (.data 0 0 0) })] } },
      by decide +kernel⟩,
    ⟨1, 1, { kind := 0, bytes := [1] },
      { tenDev {} with tp := { lanes := [(1, { sending := some (.mgmt { kind := 0, bytes := [1] }) })] } }, by decide +kernel⟩,
    ⟨0, 0, 0, [qf 64 .reserved], [], { qf 64 .spill with unaccepted := true }, tenQ {}
      { frames := [qf 64 .reserved, { qf 64 .spill with unaccepted := true }] }, by decide +kernel⟩,
    ⟨0, 1, 0, [{ qf 70 .spill with unaccepted := true }], [{ qf 71 .spill with unaccepted := true }],
      { qf 64 .spill with unaccepted := true }, tenQ {}
      { frames := [{ qf 70 .spill with unaccepted := true }, { qf 64 .spill with unaccepted := true }, { qf 71 .spill with unaccepted := true }] },
      by decide +kernel⟩,
    ⟨0, 0, [qf 64 .reserved], [], qf 64 .spill,
      { tenQ {} { frames := [qf 64 .reserved, qf 64 .spill] } with start := { begun := true, phase := 10, outcome := .running, memState := .ready } },
      by decide +kernel⟩,
    ⟨0, 0, [qf 64 .reserved], [], qf 64 .spill, tenQ {} { frames := [qf 64 .reserved, qf 64 .spill] }, by decide +kernel⟩,
    ⟨0, { since := 5 },
      { tenQ {} {} with tp := { queues := [(0, { frames := [qf 64 .reserved] })], drains := [(0, some { since := 5 })] } },
      by decide +kernel⟩,
    ⟨0, 9, tenQ {} { releasedAt := some 9, delayEventAt := some 3 }, by decide +kernel⟩⟩

theorem test_met_StagingComplete :
    (∃ (n : Fin 32) (s : State), s.callerOpen (.operator n) = true ∧ s.stays (.operator n) = true ∧ s.start.outcome = .running ∧
      s.image.staging = none ∧ s.applyRuns = false) ∧
    (∃ (n : Fin 32) (g : Staging) (offset : Nat) (bytes : List Byte) (s : State), s.callerOpen (.operator n) = true ∧
      s.image.staging = some g ∧ g.session = n ∧ g.programming = none ∧ g.verifying = false ∧ offset = g.next ∧ 1 ≤ bytes.length
      ∧ bytes.length ≤ 1024 ∧ offset + bytes.length ≤ 2 ^ 23) ∧
    (∃ (n : Fin 32) (g : Staging) (bytes : List Nat) (s : State), s.image.staging = some g ∧ g.session = n ∧ g.programming =
      some bytes ∧ s.norRefuses = false ∧ s.stays (.operator n) = true) ∧
    (∃ (n : Fin 32) (g : Staging) (s : State), s.callerOpen (.operator n) = true ∧ s.image.staging = some g ∧ g.session = n ∧
      g.programming = none ∧ g.verifying = false) ∧
    (∃ (n : Fin 32) (g : Staging) (readError : Option Nat) (s : State), s.image.staging = some g ∧ g.session = n ∧ g.verifying =
      true) :=
  ⟨⟨0, fieldWindow, by decide +kernel⟩,
    ⟨0, { session := 0, next := 4000, erased := [], programming := none, verifying := false }, 4000, List.replicate 200 7,
      { fieldWindow with image := { staging := some { session := 0, next := 4000, erased := [], programming := none, verifying := false } }, nor := { usable := true, writable := true, sizeMib := 32 } },
      by decide +kernel⟩,
    ⟨0, { session := 0, next := 5, erased := [], programming := some [1, 2, 3], verifying := false }, [1, 2, 3],
      { fieldWindow with image := { staging := some { session := 0, next := 5, erased := [], programming := some [1, 2, 3], verifying := false } }, nor := { usable := true, writable := true, sizeMib := 32 } },
      by decide +kernel⟩,
    ⟨0, { session := 0, next := 5, erased := [], programming := none, verifying := false },
      { fieldWindow with image := { staging := some { session := 0, next := 5, erased := [], programming := none, verifying := false } }, nor := { usable := true, writable := true, sizeMib := 32 } },
      by decide +kernel⟩,
    ⟨0, { session := 0, next := 5, erased := [], programming := none, verifying := true }, none,
      { fieldWindow with image := { staging := some { session := 0, next := 5, erased := [], programming := none, verifying := true } }, nor := { usable := true, writable := true, sizeMib := 32 } },
      by decide +kernel⟩⟩

theorem test_met_LiveApplyCompletes :
    (∃ (r : VerbCall) (s : State), s.mayAct r none = true ∧ State.isOperator r.caller = true ∧ s.applyReason = none) ∧
    (∃ (readError : Option Nat) (s : State), s.image.applyState = 1) ∧
    (∃ (type : Nat) (inst : Nat) (p : PendingSection) (s : State), s.image.running ≠ none ∧ (∀ q ∈ s.image.pending, q.new.all
      (fun c => c.type = q.type && c.inst = q.inst) = true) ∧ s.pending? type inst = some p ∧ (type = 0o013 ∨ type = 0o014 ∨
      type = 0o015) ∧ s.tenantHolds inst = false ∧ (s.tenant inst).reset = none) ∧
    (∃ (inst : Nat) (p : PendingSection) (s : State), s.image.running ≠ none ∧ (∀ q ∈ s.image.pending, q.new.all (fun c =>
      c.type = q.type && c.inst = q.inst) = true) ∧ s.pending? 0o020 inst = some p ∧ s.linked = true ∧ s.portQuiet inst = true) ∧
    (∃ (p : PendingSection) (s : State), s.image.running ≠ none ∧ (∀ q ∈ s.image.pending, q.new.all (fun c => c.type = q.type &&
      c.inst = q.inst) = true) ∧ s.pending? 0o021 0 = some p ∧ (∀ n ∈ s.stn.oldDir, s.stn.pipeline.any (fun i => decide
      (i.station = n)) = false)) ∧
    (∃ (inst : Nat) (p : PendingSection) (s : State), s.image.running ≠ none ∧ (∀ q ∈ s.image.pending, q.new.all (fun c =>
      c.type = q.type && c.inst = q.inst) = true) ∧ s.pending? 0o016 inst = some p ∧ inst < 256 ∧ (∀ i ∈ List.range 64,
      s.unkeyed (slotTx (64 * inst + i)) = true)) ∧
    (∃ (inst : Nat) (x : Nat) (p : PendingSection) (s : State), s.image.running ≠ none ∧ (∀ q ∈ s.image.pending, q.new.all (fun
      c => c.type = q.type && c.inst = q.inst) = true) ∧ s.pending? 0o017 inst = some p ∧ 256 ≤ inst ∧ x / 64 + 256 = inst ∧
      entPinned (s.rxStream x).entry = true ∧ entryIn p.new 32 (x % 64) ≠ []) :=
  ⟨⟨{ caller := .operator 0, cond := none }, { fieldWindow with image := { stagedState := 2 } }, by decide +kernel⟩,
    ⟨none, { fieldWindow with image := { applyState := 1 }, nor := { slots := [(3, List.replicate 144 0)] } },
      by decide +kernel⟩,
    ⟨11, 0, { type := 11, inst := 0, new := some (sectionOf 11 0 [5]) },
      { runningWith [sectionOf 1 0 []] with image := { running := some (imageOfSections [sectionOf 1 0 []]), pending := [{ type := 11, inst := 0, new := some (sectionOf 11 0 [5]) }] } },
      by decide +kernel⟩,
    ⟨2, { type := 16, inst := 2, new := none },
      { runningWith [sectionOf 1 0 []] with image := { running := some (imageOfSections [sectionOf 1 0 []]), pending := [{ type := 16, inst := 2, new := none }] }, cway := { partner := .up } },
      by decide +kernel⟩,
    ⟨{ type := 17, inst := 0, new := none },
      { runningWith [sectionOf 1 0 []] with image := { running := some (imageOfSections [sectionOf 1 0 []]), pending := [{ type := 17, inst := 0, new := none }] } },
      by decide +kernel⟩,
    ⟨0, { type := 14, inst := 0, new := some (sectionOf 14 0 [BitVec.ofNat 18 (2 ^ 17), 1, 2, 3, 4, 5, 6, 7]) },
      { runningWith [sectionOf 1 0 []] with image := { running := some (imageOfSections [sectionOf 1 0 []]), pending := [{ type := 14, inst := 0, new := some (sectionOf 14 0 [BitVec.ofNat 18 (2 ^ 17), 1, 2, 3, 4, 5, 6, 7]) }] } },
      by decide +kernel⟩,
    ⟨256, 0, { type := 15, inst := 256, new := some (sectionOf 15 256 (BitVec.ofNat 18 (2 ^ 17) :: List.replicate 31 1)) },
      { runningWith [sectionOf 1 0 []] with image := { running := some (imageOfSections [sectionOf 1 0 []]), pending := [{ type := 15, inst := 256, new := some (sectionOf 15 256 (BitVec.ofNat 18 (2 ^ 17) :: List.replicate 31 1)) }] }, link := { rx := [(0, { entry := [BitVec.ofNat 18 (2 ^ 17 + 2 ^ 12)] })] } },
      by decide +kernel⟩⟩

theorem test_met_TrunkFramesComplete :
    (∃ (lane : Fin 16) (n : Nat) (bytes : List Byte) (s : State), s.laneLead lane = some n ∧ s.laneIsTrunk n = true ∧
      s.laneUpNow n = true ∧ s.replayMode = false ∧ s.laneMode n ≠ 6 ∧ (fcsGood (bytesOf bytes) = false ∨ bytes.length < 64)) ∧
    (∃ (lane : Fin 16) (n : Nat) (bytes : List Byte) (s : State), s.trunkArrives lane n (bytesOf bytes) = true ∧ pairAt (bytesOf
      bytes) 12 ≠ 0x8808 ∧ pairAt (bytesOf bytes) 12 ≠ 0x88B5 ∧ pairAt (bytesOf bytes) 12 ≠ 0x88E5) ∧
    (∃ (lane : Fin 16) (n : Nat) (bytes : List Byte) (s : State), s.trunkArrives lane n (bytesOf bytes) = true ∧ pairAt (bytesOf
      bytes) 12 = 0x88E5 ∧ 96 ≤ bytes.length ∧ (secTci (frameData (bytesOf bytes)) / 4 * 4 ≠ 0x2C ∨ secSl (frameData (bytesOf
      bytes)) ≠ 0 ∨ s.rxOf n (secSci (frameData (bytesOf bytes))) = none)) ∧
    (∃ (lane : Fin 16) (n : Nat) (x : Nat) (bytes : List Byte) (s : State), s.secArrives lane n x (bytesOf bytes) = true ∧
      s.keyValid (slotRx x (secTci (frameData (bytesOf bytes)) % 4)) = false) ∧
    (∃ (lane : Fin 16) (n : Nat) (x : Nat) (bytes : List Byte) (s : State), s.secArrives lane n x (bytesOf bytes) = true ∧
      s.keyValid (slotRx x (secTci (frameData (bytesOf bytes)) % 4)) = true ∧ (State.rxPn (s.rxStream x) (secTci (frameData
      (bytesOf bytes)) % 4)).lowest = none) ∧
    (∃ (lane : Fin 16) (n : Nat) (x : Nat) (low : Nat) (value : Nat) (bytes : List Byte) (s : State), s.secArrives lane n x
      (bytesOf bytes) = true ∧ s.lookup (slotRx x (secTci (frameData (bytesOf bytes)) % 4)) = some value ∧ (State.rxPn
      (s.rxStream x) (secTci (frameData (bytesOf bytes)) % 4)).lowest = some low ∧ secOpen value (State.recoverPn low (secPn
      (frameData (bytesOf bytes)))) (frameData (bytesOf bytes)) = none) ∧
    (∃ (lane : Fin 16) (n : Nat) (x : Nat) (low : Nat) (value : Nat) (data : List Nat) (bytes : List Byte) (s : State),
      s.secArrives lane n x (bytesOf bytes) = true ∧ s.lookup (slotRx x (secTci (frameData (bytesOf bytes)) % 4)) = some value ∧
      (State.rxPn (s.rxStream x) (secTci (frameData (bytesOf bytes)) % 4)).lowest = some low ∧ secOpen value (State.recoverPn
      low (secPn (frameData (bytesOf bytes)))) (frameData (bytesOf bytes)) = some data ∧ State.recoverPn low (secPn (frameData
      (bytesOf bytes))) < low) ∧
    (∃ (lane : Fin 16) (n : Nat) (x : Nat) (low : Nat) (value : Nat) (data : List Nat) (bytes : List Byte) (s : State),
      s.secArrives lane n x (bytesOf bytes) = true ∧ s.lookup (slotRx x (secTci (frameData (bytesOf bytes)) % 4)) = some value ∧
      (State.rxPn (s.rxStream x) (secTci (frameData (bytesOf bytes)) % 4)).lowest = some low ∧ secOpen value (State.recoverPn
      low (secPn (frameData (bytesOf bytes)))) (frameData (bytesOf bytes)) = some data ∧ low ≤ State.recoverPn low (secPn
      (frameData (bytesOf bytes)))) ∧
    (∃ (lane : Fin 16) (n : Nat) (levels : BitVec 15750) (s : State), s.laneLead lane = some n ∧ s.laneIsTrunk n = true ∧
      s.laneMode n = 6 ∧ s.replayMode = false ∧ (s.lane n).state ≠ .off ∧ (s.lane n).state ≠ .damped ∧ ((s.laneUpNow n = true →
      s.laneErrDown n = 0 ∧ ((s.lane n).lineRx.codeword levels.toNat).frames = []))) :=
  ⟨⟨1, 1, (trunkF 5).set 20 1, rxDev {}, by decide +kernel⟩,
    ⟨1, 1, frame5 64, rxDev {}, by decide +kernel⟩,
    ⟨1, 1, asBytes (secSeal 0 1 5 78 (data5 64)), rxDev {}, by decide +kernel⟩,
    ⟨1, 1, 3, asBytes (secSeal 0 2 5 77 (data5 64)), rxDev {}, by decide +kernel⟩,
    ⟨1, 1, 3, asBytes (secSeal 0 2 5 77 (data5 64)), { rxDev {} with keys := { slots := [(32774, { state := .valid })] } },
      by decide +kernel⟩,
    ⟨1, 1, 3, 4, 0, asBytes (secSeal 1 1 5 77 (data5 64)), rxDev {}, by decide +kernel⟩,
    ⟨1, 1, 3, 4, 0, data5 64, trunkF 3, rxDev {}, by decide +kernel⟩,
    ⟨1, 1, 3, 4, 0, data5 64, trunkF 4, rxDev {}, by decide +kernel⟩,
    ⟨1, 1, 0,
      { runningWith [sectionOf 4 1 (BitVec.ofNat 18 (2 * 2 ^ 16 + 6 * 2 ^ 13) :: List.replicate 9 0)] with lanes := [(1, { state := .down, lineRx := { good := 3 } })] },
      by decide +kernel⟩⟩

theorem test_met_LeasesComplete :
    (∃ (stream : Fin 16384) (a : Nat) (s : State), s.unitsHeld = false ∧ s.replaying = false ∧ (s.txStream stream).oldAn = some
      a) ∧
    (∃ (x : Nat) (st : Nat) (rest : List (Nat × Nat)) (s : State), s.link.journal = (x, st) :: rest ∧ s.norRefuses = false) ∧
    (∃ (x : Nat) (st : Nat) (rest : List (Nat × Nat)) (s : State), s.link.journal = (x, st) :: rest) ∧
    (∃ (stream : Fin 16384) (e : Nat) (s : State), (s.txStream stream).noticeUntil = some e) ∧
    (∃ (stream : Fin 16384) (s : State), (s.rxStream stream).state = .noticeWait ∧ s.entropyWaits (.challenge stream) = true) ∧
    (∃ (stream : Fin 16384) (s : State), (s.rxStream stream).state = .noticeWait ∧ s.drbgServes = true) ∧
    (∃ (lane : Fin 16) (words : List Word) (n : Nat) (x : Nat) (s : State), s.zheacLane lane = some n ∧ s.leaseOk words 6 = true
      ∧ s.leaseTx n 18 words = some x ∧ s.notices (s.txStream x) = true ∧ ((s.txStream x).state ≠ .leaseWait ∨ (s.txStream
      x).noticeUntil.isSome = true)) ∧
    (∃ (lane : Fin 16) (words : List Word) (n : Nat) (x : Nat) (s : State), s.zheacLane lane = some n ∧ s.leaseOk words 6 = true
      ∧ s.leaseTx n 18 words = some x ∧ s.notices (s.txStream x) = true ∧ (s.txStream x).state = .leaseWait ∧ (s.txStream
      x).noticeUntil = none) ∧
    (∃ (lane : Fin 16) (words : List Word) (n : Nat) (x : Nat) (s : State), s.zheacLane lane = some n ∧ s.leaseOk words 7 = true
      ∧ s.leaseRx n words = some x ∧ entNotice (s.rxStream x).entry = true ∧ (s.rxStream x).state = .noticeWait ∧ (s.rxStream
      x).challenge = some (zWide words 10)) ∧
    (∃ (lane : Fin 16) (words : List Word) (n : Nat) (x : Nat) (s : State), s.zheacLane lane = some n ∧ s.leaseOk words 7 = true
      ∧ s.leaseRx n words = some x ∧ (s.rxStream x).state = .noticeWait ∧ (s.rxStream x).challenge ≠ some (zWide words 10)) ∧
    (∃ (lane : Fin 16) (words : List Word) (n : Nat) (x : Nat) (low : Nat) (s : State), s.zheacLane lane = some n ∧ s.leaseOk
      words 7 = true ∧ s.leaseRx n words = some x ∧ entNotice (s.rxStream x).entry = true ∧ (s.rxStream x).state ≠ .noticeWait ∧
      (State.rxPn (s.rxStream x) (s.rxStream x).an).lowest = some low) ∧
    (∃ (lane : Fin 16) (words : List Word) (n : Nat) (x : Nat) (s : State), s.zheacLane lane = some n ∧ s.leaseOk words 8 = true
      ∧ s.leaseTx n 18 words = some x ∧ (s.txStream x).noticeUntil.isSome = true ∧ zWide words 6 = (s.txStream x).nextPn) ∧
    (∃ (lane : Fin 16) (words : List Word) (n : Nat) (s : State), s.zheacLane lane = some n ∧ s.leaseOk words 8 = true ∧
      s.leaseTx n 18 words = none) :=
  ⟨⟨3, 1, { trunkDev with link := { tx := [(3, { oldAn := some 1 })] } }, by decide +kernel⟩,
    ⟨3, 7, [], leaseDev, by decide +kernel⟩,
    ⟨3, 7, [], leaseDev, by decide +kernel⟩,
    ⟨3, 70, { leaseDev with link := { tx := [(3, { state := .leaseWait, noticeUntil := some 70 })] } }, by decide +kernel⟩,
    ⟨3, { rxDev { state := .noticeWait } with trng := { waiting := [(.challenge 3, 0)] } }, by decide +kernel⟩,
    ⟨3, { rxDev { state := .noticeWait } with trng := { state := .ok } }, by decide +kernel⟩,
    ⟨1, leaseMsg 6, 1, 3, leaseDev, by decide +kernel⟩,
    ⟨1, leaseMsg 6, 1, 3, { leaseDev with link := { tx := [(3, { state := .leaseWait, an := 1, entry := pinnedEntry })] } },
      by decide +kernel⟩,
    ⟨1, leaseMsg 7, 1, 3, rxDev
      { state := .noticeWait, challenge := some 0, entry := [BitVec.ofNat 18 (2 ^ 17 + 2 ^ 13 + 2 ^ 12 + 2 ^ 11), 9, 0, 0, 0, 3] },
      by decide +kernel⟩,
    ⟨1, leaseMsg 7, 1, 3, rxDev
      { state := .noticeWait, challenge := some 1, entry := [BitVec.ofNat 18 (2 ^ 17 + 2 ^ 13 + 2 ^ 12 + 2 ^ 11), 9, 0, 0, 0, 3] },
      by decide +kernel⟩,
    ⟨1, leaseMsg 7, 1, 3, 4, rxDev { entry := [BitVec.ofNat 18 (2 ^ 17 + 2 ^ 13 + 2 ^ 12 + 2 ^ 11), 9, 0, 0, 0, 3] },
      by decide +kernel⟩,
    ⟨1, leaseMsg 8, 1, 3,
      { leaseDev with link := { tx := [(3, { state := .leaseWait, an := 1, nextPn := 9, noticeUntil := some 70, entry := pinnedEntry })] } },
      by decide +kernel⟩,
    ⟨1, (leaseMsg 8).set 12 1, 1, leaseDev, by decide +kernel⟩⟩

theorem test_met_PartnerStatesComplete :
    (∃ (s : State), s.cway.partner = .absent ∧ s.start.linkStarted = true ∧ s.vergeRuns = true ∧ s.replayMode = false) ∧
    (∃ (s : State), s.cway.partner = .training ∧ s.replayMode = false) ∧
    (∃ (pair : Fin 2) (s : State), s.cway.partner = .training ∧ s.vergeRuns = true ∧ s.replayMode = false) ∧
    (∃ (pair : Fin 2) (s : State), s.cway.partner = .up ∧ s.cway.chOk.testBit (pair.val + 2) = true ∧ s.vergeRuns = true ∧
      s.replayMode = false) ∧
    (∃ (pair : Fin 2) (s : State), s.cway.partner = .up ∧ s.cway.chOk.testBit (pair.val + 2) = true ∧ s.vergeRuns = true ∧
      s.replayMode = false ∧ s.verge.resetFlag = true ∧ s.cway.seen = false ∧ s.cway.resetMet = true) ∧
    (∃ (pair : Fin 2) (s : State), s.cway.partner = .up ∧ s.cway.chOk.testBit pair.val = true ∧ s.cway.seen = true ∧ s.vergeRuns
      = true ∧ s.replayMode = false) ∧
    (∃ (s : State), s.cway.partner ≠ .absent) ∧
    (∃ (s : State), s.cway.partner ≠ .absent) ∧
    (∃ (s : State), s.cway.partner = .up ∧ s.cway.chOk = 15 ∧ s.replayMode = false) ∧
    (∃ (s : State), s.cway.partner = .up ∧ s.cway.chOk = 15 ∧ s.replayMode = false) ∧
    (∃ (s : State), s.cway.partner = .single ∧ s.replayMode = false) :=
  ⟨⟨partnered .absent, by decide +kernel⟩,
    ⟨partnered .training, by decide +kernel⟩,
    ⟨0, partnered .training, by decide +kernel⟩,
    ⟨1, partnered .up, by decide +kernel⟩,
    ⟨1, { partnered .up with cway := { partner := .up, chOk := 15, resetMet := true } }, by decide +kernel⟩,
    ⟨1, { partnered .up with cway := { partner := .up, chOk := 15, seen := true } }, by decide +kernel⟩,
    ⟨partnered .up, by decide +kernel⟩,
    ⟨partnered .up, by decide +kernel⟩,
    ⟨partnered .up, by decide +kernel⟩,
    ⟨partnered .up, by decide +kernel⟩,
    ⟨{ partnered .single with cway := { partner := .single, chOk := 5 } }, by decide +kernel⟩⟩

theorem test_met_CausewayTransportCompletes :
    (∃ (way : Way) (cls : MsgClass) (words : Nat) (s : State), s.wayOpen way = true ∧ ((way, cls) ≠ (Way.up, MsgClass.station) ∨
      s.withheld = false) ∧ (s.chan way cls).waiting = []) ∧
    (∃ (way : Way) (cls : MsgClass) (s : State), s.wayOpen way = true ∧ 0 < (s.chan way cls).received ∧ (s.chan way cls).waiting
      = []) ∧
    (∃ (way : Way) (cls : MsgClass) (s : State), s.wayOpen way = true ∧ (s.chan way cls).naked = true ∧ (s.chan way cls).waiting
      = [] ∧ (s.chan way cls).goBacks < 15) ∧
    (∃ (way : Way) (cls : MsgClass) (s : State), s.wayOpen way = true ∧ (s.chan way cls).unacked ≠ [] ∧ (s.chan way cls).goBacks
      < 15) :=
  ⟨⟨.down, .station, 9, (partnered .up).setChan .down .station { owed := 12, credit := 4000 }, by decide +kernel⟩,
    ⟨.down, .state, (partnered .up).setChan .down .state
      { unacked := [(7, .stateQuery), (0, .stateQuery)], next := 1, expected := 0, wire := [(0, .stateQuery)], goBacks := 3 },
      by decide +kernel⟩,
    ⟨.down, .state, (partnered .up).setChan .down .state
      { unacked := [(7, .stateQuery), (0, .stateQuery)], next := 1, expected := 0, naked := true }, by decide +kernel⟩,
    ⟨.thUp, .legal,
      { partnered .up with verge := { (partnered .up).verge with thLink := true }, toll := { booted := true } }.setChan .thUp
      .legal { unacked := [(7, .stateQuery)] }, by decide +kernel⟩⟩

theorem test_met_HostMessagesComplete :
    (∃ (u : Nat) (ws : List Nat) (s : State), s.arrives .up .state (.stateUpdate u ws []) = true) ∧
    (∃ (p : Nat) (a : Nat) (n : Fin 32) (rest : List (Nat × Nat × Nat)) (s : State), s.arrives .up .state (.cmdReply p 0) = true
      ∧ s.sp.portWaiting = (n.val, p, a) :: rest ∧ s.callerOpen (.operator n) = true) ∧
    (∃ (u : Nat) (a : Nat) (ws : List Nat) (s : State), s.arrives .up .state (.stateUpdate u ws [(0o131007, a)]) = true) ∧
    (∃ (p : Nat) (f : List Nat) (s : State), s.arrives .up .station (.stationUp p f) = true ∧ s.keys.derivations = [] ∧
      s.dirEntry (nfStation f) = none) ∧
    (∃ (p : Nat) (key : Nat) (f : List Nat) (text : List Nat) (e : List Word) (s : State), s.arrives .up .station (.stationUp p
      f) = true ∧ s.keys.derivations = [] ∧ s.dirEntry (nfStation f) = some e ∧ dirPort e = p ∧ s.keyValid slotFleet = true ∧
      s.stationKey (nfStation f) = some key ∧ s.ctxReadable (nfStation f) = true ∧ nfOpen key f = some text ∧ (s.ctx (nfStation
      f)).valid = true ∧ (s.ctx (nfStation f)).upSeq < nfSeq f) ∧
    (∃ (p : Nat) (key : Nat) (f : List Nat) (e : List Word) (s : State), s.arrives .up .station (.stationUp p f) = true ∧
      s.keys.derivations = [] ∧ s.dirEntry (nfStation f) = some e ∧ dirPort e = p ∧ s.keyValid slotFleet = true ∧ s.stationKey
      (nfStation f) = some key ∧ s.ctxReadable (nfStation f) = true ∧ nfOpen key f = none) ∧
    (∃ (station : BitVec 16) (fleet : Nat) (s : State), s.unitsHeld = false ∧ s.replaying = false ∧ s.keys.derivations =
      [.station station.toNat] ∧ s.lookup slotFleet = some fleet ∧ s.keys.cache = [] ∧ s.stn.pipeline = [] ∧ s.canInstall
      (slotCache 0) = true) ∧
    (∃ (q : Nat) (seq : Nat) (key : Nat) (d : Drr) (f : QFrame) (rest : List QFrame) (e : List Word) (s : State), s.unitsHeld =
      false ∧ s.linked = true ∧ s.stn.downReady = true ∧ s.stn.exhausted = false ∧ drr (fun q => s.qWeight q * 256) s.headLen
      s.vpReady s.tp.vp = some (q, d) ∧ (s.queue q).frames = f :: rest ∧ s.dirEntry (vpStation f.data) = some e ∧ dirEtype e =
      vpEtype f.data ∧ vpTlen f.data ≤ 1115 ∧ 28 + vpTlen f.data ≤ f.data.length ∧ s.ctxReadable (vpStation f.data) = true ∧
      s.keyValid slotFleet = true ∧ s.stationKey (vpStation f.data) = some key ∧ s.nextDown (vpStation f.data) = some seq) :=
  ⟨⟨3, [1, 0, 0, 0, 0, 4, 5, 6, 0, 0, 2, 3], onWire stationDev .up .state (.stateUpdate 3 [1, 0, 0, 0, 0, 4, 5, 6, 0, 0, 2, 3]
      []), by decide +kernel⟩,
    ⟨2, 1, 0, [(0, 2, 1)], onWire
      { withSession (partnered .up) with sp := { (withSession (partnered .up)).sp with portWaiting := [(0, 2, 1), (0, 2, 1)] } }
      .up .state (.cmdReply 2 0), by decide +kernel⟩,
    ⟨11, 2, [], onWire stationDev .up .state (.stateUpdate 11 [] [(0o131007, 2)]), by decide +kernel⟩,
    ⟨2, nfSeal 0 1 6 1 0 [] [1, 2, 3] 0, onWire stationDev .up .station (.stationUp 2 (nfSeal 0 1 6 1 0 [] [1, 2, 3] 0)),
      by decide +kernel⟩,
    ⟨2, 0, stationF 8, [1, 2, 3], [BitVec.ofNat 18 (2 ^ 17 + 5), BitVec.ofNat 18 (2 * 2 ^ 14), 0, 0x9000, 0, 0, 0, 0], onWire
      { stationDev with stn := { contexts := [(5, { valid := true, upSeq := 7 })] } } .up .station (.stationUp 2 (stationF 8)),
      by decide +kernel⟩,
    ⟨2, 0, nfSeal 0 1 5 1 0 [] [1, 2, 3] 1, [BitVec.ofNat 18 (2 ^ 17 + 5), BitVec.ofNat 18 (2 * 2 ^ 14), 0, 0x9000, 0, 0, 0, 0],
      onWire stationDev .up .station (.stationUp 2 (nfSeal 0 1 5 1 0 [] [1, 2, 3] 1)), by decide +kernel⟩,
    ⟨9, 0, { stationDev with keys := { slots := [(slotFleet, { state := .valid })], derivations := [.station 9] } },
      by decide +kernel⟩,
    ⟨0, 2 ^ 35 + 1, 0, { granted := true, deficits := [(0, 192)] },
      { qf 64 .reserved with data := vpFrame 77 5 0 0x9000 5 1 [1, 2, 3] }, [], [BitVec.ofNat 18 (2 ^ 17 + 5), BitVec.ofNat 18
      (2 * 2 ^ 14), 0, 0x9000, 0, 0, 0, 0], stationDev, by decide +kernel⟩⟩

theorem test_met_MemoryChecksComplete :
    (∃ (region : Fin 17) (index : Nat) (latency : Nat) (data : Nat) (read : SdramLine) (s : State), s.unitsHeld = false ∧
      s.readDue region 0 index = true ∧ s.lineRead region 0 index read = some data) ∧
    (∃ (region : Fin 17) (index : Nat) (latency : Nat) (data : Nat) (read : SdramLine) (s : State), s.unitsHeld = false ∧
      s.readDue region 0 index = true ∧ s.lineRead region 0 index read = some data) ∧
    (∃ (region : Fin 17) (level : Fin 7) (index : Nat) (latency : Nat) (data : Nat) (read : SdramLine) (s : State), s.unitsHeld
      = false ∧ level ≠ 0 ∧ s.readDue region level index = true ∧ s.dirIdle = true ∧ s.mem.cached.length < cacheLines ∧
      s.lineRead region level index read = some data) ∧
    (∃ (region : Fin 17) (level : Fin 7) (index : Nat) (latency : Nat) (read : SdramLine) (s : State), s.unitsHeld = false ∧
      s.readDue region level index = true ∧ s.lineRead region level index read = none) ∧
    (∃ (region : Fin 17) (level : Fin 7) (index : Nat) (latency : Nat) (read : SdramLine) (s : State), s.unitsHeld = false ∧
      s.readDue region level index = true ∧ s.lineRead region level index read = none) ∧
    (∃ (region : Fin 17) (level : Fin 8) (index : Nat) (e : Reenc) (siblings : List (Fin 24 × SdramLine)) (s : State),
      s.unitsHeld = false ∧ s.dirIdle = true ∧ s.mem.reencs = [e] ∧ (e.region, e.level, e.index) = (region.val, level.val,
      index) ∧ (s.ctrLine (State.lineKey region level index)).minors.all (fun m => decide (m.1 = e.child) || siblings.any (fun b
      => decide (b.1.val = m.1))) = true) ∧
    (∃ (s : State), s.unitsHeld = false ∧ s.dirIdle = true ∧ (s.region 16).resetting = true ∧ s.mem.reencs.any (fun e => decide
      (e.region = 16)) = false ∧ s.mem.quarantined = false ∧ s.stn.pipeline = []) ∧
    (∃ (region : Fin 17) (r : TenReset) (s : State), s.unitsHeld = false ∧ s.dirIdle = true ∧ region.val < 16 ∧ (s.region
      region).resetting = true ∧ s.mem.reencs.any (fun e => decide (e.region = region.val)) = false ∧ s.mem.quarantined = false
      ∧ (s.tenant region).reset = some r ∧ r.phase = .region ∧ (s.slot (slotMem region)).state ≠ .fault) ∧
    (∃ (region : Fin 17) (s : State), s.unitsHeld = false ∧ s.dirIdle = true ∧ (s.region region).resetting = true ∧
      s.mem.reencs.any (fun e => decide (e.region = region.val)) = false ∧ s.mem.quarantined = true) ∧
    (∃ (x : Nat) (rest : List Nat) (s : State), s.unitsHeld = false ∧ s.mem.sec = x :: rest) ∧
    (∃ (region : Fin 19) (line : Nat) (write : Option (BitVec 512)) (raw : SdramLine) (s : State), s.cus.startState ≠ .analysis
      ∧ ((s.cus.startState = .field → region.val ≠ 18 ∨ write.isSome = true))) ∧
    (∃ (region : Fin 19) (line : Nat) (write : Option (BitVec 512)) (raw : SdramLine) (s : State), s.cus.startState ≠ .analysis
      ∧ ((s.cus.startState = .field → region.val ≠ 18 ∨ write.isSome = true))) ∧
    (∃ (region : Fin 19) (line : Nat) (raw : SdramLine) (s : State), (s.cus.startState = .field ∧ region.val = 18 ∨
      s.cus.startState = .analysis ∧ 17 ≤ region.val) ∧ s.memReady = true ∧ s.mem.quarantined = false ∧ line < s.regionLines
      region ∧ raw.ecc ≠ .uncorrectable ∧ tabGet none s.trip.region line = none) ∧
    (∃ (region : Fin 19) (line : Nat) (raw : SdramLine) (s : State), (s.cus.startState = .field ∧ region.val = 18 ∨
      s.cus.startState = .analysis ∧ 17 ≤ region.val) ∧ s.memReady = true ∧ s.mem.quarantined = false ∧ line < s.regionLines
      region ∧ raw.ecc ≠ .uncorrectable ∧ tabGet none s.trip.region line = none) ∧
    (∃ (line : Nat) (data : BitVec 512) (raw : SdramLine) (s : State), s.cus.startState = .analysis ∧ s.memReady = true ∧
      s.mem.quarantined = false ∧ line < s.regionLines 17) ∧
    (∃ (region : Fin 19) (line : Nat) (raw : SdramLine) (s : State), s.cus.startState = .analysis ∧ region.val < 17 ∧ s.memReady
      = true ∧ s.mem.quarantined = false ∧ line < s.regionLines region ∧ (s.region region).resetting = false ∧ s.minorOver
      region 0 line ≠ 0) ∧
    (∃ (region : Fin 19) (line : Nat) (raw : SdramLine) (s : State), s.cus.startState = .analysis ∧ region.val < 17 ∧ s.memReady
      = true ∧ s.mem.quarantined = false ∧ line < s.regionLines region ∧ (s.region region).resetting = false ∧ s.minorOver
      region 0 line ≠ 0) ∧
    (∃ (region : Fin 19) (line : Nat) (write : Option (BitVec 512)) (raw : SdramLine) (s : State), s.cus.startState = .analysis
      ∧ region.val < 17 ∧ s.memReady = true ∧ s.mem.quarantined = false ∧ line < s.regionLines region ∧ ((write = none →
      s.minorOver region 0 line = 0))) ∧
    (∃ (region : Fin 19) (line : Nat) (write : Option (BitVec 512)) (raw : SdramLine) (s : State), s.cus.startState = .analysis
      ∧ region.val < 17 ∧ s.memReady = true ∧ s.mem.quarantined = false ∧ line < s.regionLines region ∧ ((write = none →
      s.minorOver region 0 line = 0))) :=
  ⟨⟨0, 0, 9, 5, sdramLine (memKeyed readMem) 0 0 0 5, memKeyed readMem, by decide +kernel⟩,
    ⟨0, 0, 9, 5, { sdramLine (memKeyed readMem) 0 0 0 5 with ecc := .corrected }, memKeyed readMem, by decide +kernel⟩,
    ⟨0, 1, 0, 9, ctrData 0 0 1 { minors := [(0, 1)] }, sdramLine (memKeyed readMem) 0 1 0 (ctrData 0 0 1
      { minors := [(0, 1)] }), memKeyed readMem, by decide +kernel⟩,
    ⟨0, 0, 0, 9, { line0 with ecc := .uncorrectable }, memKeyed readMem, by decide +kernel⟩,
    ⟨0, 1, 0, 9, line0, memKeyed readMem, by decide +kernel⟩,
    ⟨0, 1, 0, { region := 0, level := 1, index := 0, child := 3, data := some 6 }, [(0, sdramLine (memKeyed readMem) 0 0 0 5)],
      memKeyed { readMem with reencs := [{ region := 0, level := 1, index := 0, child := 3, data := some 6 }] },
      by decide +kernel⟩,
    ⟨memDev { regions := [(16, { resetting := true })] }, by decide +kernel⟩,
    ⟨0, { started := 0, phase := .region },
      { memDev { regions := [(0, { resetting := true, epoch := 4 })] } with tenants := [(0, { state := .resetting, reset := some { started := 0, phase := .region } })] },
      by decide +kernel⟩,
    ⟨0, memDev { quarantined := true, regions := [(0, { resetting := true })] }, by decide +kernel⟩,
    ⟨7, [8], memDev { sec := [7, 8] }, by decide +kernel⟩,
    ⟨18, 0, some 0, line0, memDev {}, by decide +kernel⟩,
    ⟨18, 0, none, line0, { memDev {} with cus := { startState := .provision } }, by decide +kernel⟩,
    ⟨18, 7, { line0 with data := 5 }, memDev {}, by decide +kernel⟩,
    ⟨17, 7, { line0 with data := 5 }, { tripDev {} with cus := { startState := .analysis } }, by decide +kernel⟩,
    ⟨7, 5, line0, { tripDev {} with cus := { startState := .analysis } }, by decide +kernel⟩,
    ⟨0, 0, sdramLine (memKeyed readMem) 0 0 0 5, { memKeyed readMem with cus := { startState := .analysis } },
      by decide +kernel⟩,
    ⟨0, 0, line0, { memKeyed readMem with cus := { startState := .analysis } }, by decide +kernel⟩,
    ⟨0, 0, some 3, line0, { memKeyed {} with cus := { startState := .analysis } }, by decide +kernel⟩,
    ⟨0, 0, none, line0, { memKeyed {} with cus := { startState := .analysis } }, by decide +kernel⟩⟩

theorem test_met_DirectoryCompletes :
    (∃ (region : Fin 17) (line : Nat) (s : State), s.unitsHeld = false ∧ s.lineServed region line = true ∧ s.l1Idle region line
      = true ∧ s.present region 1 (line / 24) = true ∧ s.mem.cached.length < cacheLines ∧ (s.dirLine (State.lineKey region 1
      (line / 24))).owned = false) ∧
    (∃ (region : Fin 17) (line : Nat) (s : State), s.unitsHeld = false ∧ s.lineServed region line = true ∧ s.l1Idle region line
      = true ∧ s.mem.lines = [] ∧ s.mem.walks = [] ∧ s.mem.cached.length + 8 ≤ cacheLines ∧ (s.dirLine (State.lineKey region 1
      (line / 24))).owned = false) ∧
    (∃ (region : Fin 17) (line : Nat) (data : BitVec 512) (s : State), s.unitsHeld = false ∧ s.lineServed region line = true ∧
      s.l1Idle region line = true ∧ s.present region 1 (line / 24) = true ∧ s.mem.cached.length < cacheLines ∧ (s.dirLine
      (State.lineKey region 1 (line / 24))).holders.all (fun e => decide (e = lineEngine s.memBody region line)) = true ∧ tabGet
      0 (s.ctrLine (State.lineKey region 1 (line / 24))).minors (line % 24) < 2 ^ 18 - 1) ∧
    (∃ (region : Fin 17) (line : Nat) (data : BitVec 512) (s : State), s.unitsHeld = false ∧ s.lineServed region line = true ∧
      s.l1Idle region line = true ∧ s.present region 1 (line / 24) = true ∧ s.mem.cached.length < cacheLines ∧ (s.dirLine
      (State.lineKey region 1 (line / 24))).holders = [] ∧ tabGet 0 (s.ctrLine (State.lineKey region 1 (line / 24))).minors
      (line % 24) = 2 ^ 18 - 1 ∧ (s.ctrLine (State.lineKey region 1 (line / 24))).overflows < 2 ^ 40 - 1) ∧
    (∃ (region : Fin 17) (line : Nat) (write : Option (BitVec 512)) (er : Fin 17) (ek : Fin 7) (ei : Nat) (s : State),
      s.unitsHeld = false ∧ s.memReady = true ∧ s.mem.quarantined = false ∧ line < levelLines s.memBody region 0 ∧ (s.region
      region).closed = false ∧ s.hasCredit (lineEngine s.memBody region line) 0 0 = false ∧ 2 ≤ ek.val ∧ s.parentFree er ek ei =
      true ∧ s.mem.dirty.contains (State.lineKey er ek ei) = false) ∧
    (∃ (engine : Fin 4) (region : Fin 17) (line : Nat) (evicting : Bool) (s : State), s.unitsHeld = false ∧ s.dirIdle = true ∧
      (s.dirLine (State.lineKey region 1 line)).snooped.contains engine.val = true) ∧
    (∃ (engine : Fin 4) (region : Fin 17) (line : Nat) (s : State), s.unitsHeld = false ∧ (s.dirLine (State.lineKey region 1
      line)).answers = [(engine.val, true)]) ∧
    (∃ (engine : Fin 4) (region : Fin 17) (line : Nat) (s : State), s.unitsHeld = false ∧ s.dirIdle = true ∧ (s.dirLine
      (State.lineKey region 1 line)).answers = [(engine.val, false)]) ∧
    (∃ (engine : Fin 4) (region : Fin 17) (line : Nat) (dirty : Bool) (s : State), s.unitsHeld = false ∧ s.dirIdle = true ∧
      engine.val ∈ (s.dirLine (State.lineKey region 1 line)).holders) :=
  ⟨⟨0, 0, memKeyed { cached := [State.lineKey 0 1 0] }, by decide +kernel⟩,
    ⟨0, 0, memKeyed {}, by decide +kernel⟩,
    ⟨0, 0, 7, memKeyed { cached := [State.lineKey 0 1 0] }, by decide +kernel⟩,
    ⟨0, 5, 7, memKeyed { cached := [State.lineKey 0 1 0], lines := [(State.lineKey 0 1 0, { minors := [(5, 2 ^ 18 - 1)] })] },
      by decide +kernel⟩,
    ⟨0, 0, none, 0, 2, 5, memKeyed
      { cached := [State.lineKey 0 2 5, State.lineKey 0 3 0], dir := [(State.lineKey 0 1 5, { waiting := List.replicate 4 (memRequest 120) })] },
      by decide +kernel⟩,
    ⟨2, 0, 0, true, (memDev {}).setDirLine (State.lineKey 0 1 0) { snooped := [2], holders := [2] }, by decide +kernel⟩,
    ⟨2, 0, 0, (memDev {}).setDirLine (State.lineKey 0 1 0) { answers := [(2, true)], holders := [2] }, by decide +kernel⟩,
    ⟨2, 0, 0, (memDev {}).setDirLine (State.lineKey 0 1 0) { answers := [(2, false)], holders := [2] }, by decide +kernel⟩,
    ⟨2, 0, 0, true, (memDev {}).setDirLine (State.lineKey 0 1 0) { owned := true, holders := [2] }, by decide +kernel⟩⟩

theorem test_met_HandshakeMessagesComplete :
    (∃ (lane : Fin 16) (words : List Word) (n : Nat) (g : Nat) (k : Nat) (s : State), s.zheacLane lane = some n ∧ s.helloOk
      words = true ∧ s.groupOfLane n = some g ∧ s.helloReason g words = none ∧ (s.zgroup g).hs = none ∧ (s.zgroup g).eph = some
      k ∧ (s.zgroup g).ephReady = false) ∧
    (∃ (lane : Fin 16) (words : List Word) (n : Nat) (g : Nat) (r : Nat) (s : State), s.zheacLane lane = some n ∧ s.helloOk
      words = true ∧ s.groupOfLane n = some g ∧ s.helloReason g words = some r) ∧
    (∃ (lane : Fin 16) (words : List Word) (n : Nat) (g : Nat) (h : Handshake) (s : State), s.zheacLane lane = some n ∧
      s.helloOk words = true ∧ s.groupOfLane n = some g ∧ s.helloReason g words = none ∧ (s.zgroup g).hs = some h ∧ h.initiator
      = false ∧ h.hsId = zHsId words ∧ h.message ≠ []) ∧
    (∃ (lane : Fin 16) (words : List Word) (n : Nat) (g : Nat) (h : Handshake) (s : State), s.zheacLane lane = some n ∧ s.hsOf n
      (zHsId words) = some (g, h) ∧ h.initiator = true ∧ h.phase = .helloSent ∧ s.replyOk words (some h.mine.length) = true ∧
      p384.isPub (State.zEphPub words) = true) ∧
    (∃ (lane : Fin 16) (words : List Word) (n : Nat) (g : Nat) (h : Handshake) (s : State), s.zheacLane lane = some n ∧ s.hsOf n
      (zHsId words) = some (g, h) ∧ h.initiator = true ∧ h.phase = .helloSent ∧ s.replyOk words (some h.mine.length) = true ∧
      p384.isPub (State.zEphPub words) = false) ∧
    (∃ (lane : Fin 16) (words : List Word) (n : Nat) (g : Nat) (h : Handshake) (s : State), s.zheacLane lane = some n ∧ s.hsOf n
      (zHsId words) = some (g, h) ∧ h.initiator = false ∧ h.phase = .replySent ∧ s.finishOk words (some h.mine.length) = true) ∧
    (∃ (lane : Fin 16) (words : List Word) (n : Nat) (g : Nat) (h : Handshake) (s : State), s.zheacLane lane = some n ∧ s.hsOf n
      (zHsId words) = some (g, h) ∧ h.initiator = false ∧ h.phase = .installedSent ∧ s.finishOk words (some h.mine.length) =
      true) ∧
    (∃ (lane : Fin 16) (words : List Word) (n : Nat) (g : Nat) (h : Handshake) (s : State), s.zheacLane lane = some n ∧ s.hsOf n
      (zHsId words) = some (g, h) ∧ h.initiator = true ∧ h.phase = .finishSent ∧ h.peerInstalled = none ∧ h.derived = false ∧
      s.installedOk words (some h.mine.length) = true) ∧
    (∃ (lane : Fin 16) (words : List Word) (n : Nat) (g : Nat) (h : Handshake) (s : State), s.zheacLane lane = some n ∧ s.hsOf n
      (zHsId words) = some (g, h) ∧ h.initiator = false ∧ h.phase = .installedSent ∧ h.mine = [] ∧ s.zheacStreams g = [] ∧
      s.installedOk words (some 0) = true) ∧
    (∃ (lane : Fin 16) (words : List Word) (n : Nat) (g : Nat) (h : Handshake) (s : State), s.zheacLane lane = some n ∧ s.hsOf n
      (zHsId words) = some (g, h) ∧ s.refuseOk words = true ∧ (wordAt words 5).toNat ≠ zrLane) :=
  ⟨⟨1, zMsg 1 64 zPub, 1, 1, 0, zheacDev { eph := some 0 }, by decide +kernel⟩,
    ⟨1, zMsg 1 64 [], 1, 1, 0o07, zheacDev {}, by decide +kernel⟩,
    ⟨1, zMsg 1 64 zPub, 1, 1, { hs5 false .replySent with message := [1] }, zheacDev
      { hs := some { hs5 false .replySent with message := [1] } }, by decide +kernel⟩,
    ⟨1, zMsg 2 107 zPub, 1, 1, hs5 true .helloSent, zheacDev { state := .active, hs := some (hs5 true .helloSent) },
      by decide +kernel⟩,
    ⟨1, zMsg 2 107 [], 1, 1, hs5 true .helloSent, zheacDev { state := .active, hs := some (hs5 true .helloSent) },
      by decide +kernel⟩,
    ⟨1, zMsg 3 48 [], 1, 1, hs5 false .replySent, zheacDev { state := .active, hs := some (hs5 false .replySent) },
      by decide +kernel⟩,
    ⟨1, zMsg 3 48 [], 1, 1, hs5 false .installedSent, zheacDev { state := .active, hs := some (hs5 false .installedSent) },
      by decide +kernel⟩,
    ⟨1, zMsg 4 5 [], 1, 1, hs5 true .finishSent, zheacDev { state := .active, hs := some (hs5 true .finishSent) },
      by decide +kernel⟩,
    ⟨1, zMsg 4 5 [], 1, 1, hs5 false .installedSent,
      { zheacDev { state := .active, hs := some (hs5 false .installedSent) } with link := {} }, by decide +kernel⟩,
    ⟨1, zMsg 5 6 [3], 1, 1, hs5 true .helloSent, zheacDev { state := .active, hs := some (hs5 true .helloSent) },
      by decide +kernel⟩⟩

theorem test_met_HandshakeStepsComplete :
    (∃ (group : Fin 16) (h : Handshake) (s : State), (s.zgroup group).hs = some h ∧ (h.phase = .helloSent ∨ h.phase =
      .finishSent ∧ h.peerInstalled = none ∨ h.phase = .installedSent) ∧ h.sends < 3) ∧
    (∃ (group : Fin 16) (h : Handshake) (s : State), (s.zgroup group).hs = some h ∧ (h.phase = .helloSent ∨ h.phase =
      .finishSent ∧ h.peerInstalled = none ∨ h.phase = .installedSent) ∧ 3 ≤ h.sends) ∧
    (∃ (group : Fin 16) (h : Handshake) (s : State), (s.zgroup group).hs = some h ∧ h.phase = .replySent) ∧
    (∃ (j : PkJob) (k : Nat) (s : State), s.zheac.running = some j ∧ j.op = .generate ∧ (s.zgroup j.group).eph = some k ∧
      (s.zgroup j.group).ephReady = false ∧ (s.zgroup j.group).hs = none) ∧
    (∃ (j : PkJob) (h : Handshake) (s : State), s.zheac.running = some j ∧ j.op = .verify ∧ (s.zgroup j.group).hs = some h ∧
      h.number = j.number ∧ h.phase = .verifying ∧ s.peerVerifies h = true) ∧
    (∃ (j : PkJob) (h : Handshake) (s : State), s.zheac.running = some j ∧ j.op = .verify ∧ (s.zgroup j.group).hs = some h ∧
      h.number = j.number ∧ h.phase = .verifying ∧ s.peerVerifies h = false) ∧
    (∃ (j : PkJob) (h : Handshake) (d : Nat) (s : State), s.zheac.running = some j ∧ j.op = .ecdh ∧ (s.zgroup j.group).hs = some
      h ∧ h.number = j.number ∧ h.phase = .ecdh ∧ s.ephKey j.group = some d ∧ s.drbgServes = true) ∧
    (∃ (j : PkJob) (h : Handshake) (d : Nat) (s : State), s.zheac.running = some j ∧ j.op = .sign ∧ (s.zgroup j.group).hs = some
      h ∧ h.number = j.number ∧ h.phase = .signing ∧ s.lookup slotZheacId = some d) ∧
    (∃ (group : Fin 16) (h : Handshake) (s : State), (s.zgroup group).hs = some h ∧ s.keys.derivations.head? = some (.link
      group.val) ∧ h.initiator = true ∧ h.peerInstalled = none) ∧
    (∃ (group : Fin 16) (h : Handshake) (s : State), (s.zgroup group).hs = some h ∧ s.keys.derivations.head? = some (.link
      group.val) ∧ h.initiator = false ∧ h.theirs = []) ∧
    (∃ (group : Fin 16) (k : Nat) (s : State), (s.zgroup group).state = .backoff ∧ (s.zgroup group).hs = none ∧ (s.zgroup
      group).startOut = true ∧ (s.zgroup group).eph = some k ∧ (s.zgroup group).ephReady = false ∧ s.groupUpLane group ≠ none) ∧
    (∃ (group : Fin 16) (k : Nat) (s : State), (s.zgroup group).state = .settle ∧ (s.zgroup group).hs = none ∧ (s.zgroup
      group).startOut = true ∧ (s.zgroup group).eph = some k ∧ (s.zgroup group).ephReady = false ∧ s.groupUpLane group ≠ none) ∧
    (∃ (group : Fin 16) (k : Nat) (x : Nat) (s : State), (s.zgroup group).state = .keyed ∧ (s.zgroup group).hs = none ∧
      (s.zgroup group).startOut = false ∧ (s.zgroup group).eph = some k ∧ (s.zgroup group).ephReady = false ∧ s.groupUpLane
      group ≠ none ∧ s.zheacStreams group = [x] ∧ State.listable (s.txStream x) = true ∧ s.txKeyed x = true ∧ s.canInstall
      (slotTx x (State.nextAn (s.txStream x))) = true) :=
  ⟨⟨1, { hs5 true .helloSent with sends := 1 }, zheacDev
      { state := .active, hs := some { hs5 true .helloSent with sends := 1 } }, by decide +kernel⟩,
    ⟨1, { hs5 true .helloSent with sends := 3 }, zheacDev
      { state := .active, hs := some { hs5 true .helloSent with sends := 3 } }, by decide +kernel⟩,
    ⟨1, hs5 false .replySent, zheacDev { state := .active, hs := some (hs5 false .replySent) }, by decide +kernel⟩,
    ⟨{ group := 1, number := 0, op := .generate, urgent := false }, 0,
      { zheacDev {} with zheac := { groups := [(1, { eph := some 0 })], running := some { group := 1, number := 0, op := .generate, urgent := false } }, keys := { slots := [(slotZheacEph 0, { state := .valid, value := 2 })] } },
      by decide +kernel⟩,
    ⟨{ group := 1, number := 4, op := .verify, urgent := false }, hsSigned,
      { certDev with zheac := { groups := [(1, { state := .active, hs := some hsSigned })], running := some { group := 1, number := 4, op := .verify, urgent := false } } },
      by decide +kernel⟩,
    ⟨{ group := 1, number := 4, op := .verify, urgent := false }, hs5 false .verifying,
      { zheacDev {} with zheac := { groups := [(1, { state := .active, hs := some (hs5 false .verifying) })], running := some { group := 1, number := 4, op := .verify, urgent := false } } },
      by decide +kernel⟩,
    ⟨{ group := 1, number := 4, op := .ecdh, urgent := false }, hs5 false .ecdh, 2,
      { zheacDev {} with zheac := { groups := [(1, { state := .active, eph := some 0, hs := some (hs5 false .ecdh) })], running := some { group := 1, number := 4, op := .ecdh, urgent := false } }, keys := { slots := [(slotZheacEph 0, { state := .valid, value := 2 })] }, trng := { state := .ok } },
      by decide +kernel⟩,
    ⟨{ group := 1, number := 4, op := .sign, urgent := false }, hs5 false .signing, 2,
      { zheacDev {} with zheac := { groups := [(1, { state := .active, hs := some (hs5 false .signing) })], running := some { group := 1, number := 4, op := .sign, urgent := false } }, keys := { slots := [(slotZheacId, { state := .valid, value := 2 })] } },
      by decide +kernel⟩,
    ⟨1, hs5 true .finishSent,
      { zheacDev { state := .active, hs := some (hs5 true .finishSent) } with keys := { derivations := [.link 1] } },
      by decide +kernel⟩,
    ⟨1, hs5 false .keysPending,
      { zheacDev { state := .active, hs := some (hs5 false .keysPending) } with keys := { derivations := [.link 1] } },
      by decide +kernel⟩,
    ⟨1, 0, zheacDev { state := .backoff, eph := some 0, backoffUntil := 50 }, by decide +kernel⟩,
    ⟨1, 0, zheacDev { state := .settle, eph := some 0, settleUntil := 50 }, by decide +kernel⟩,
    ⟨1, 0, 3, zheacDev { state := .keyed, eph := some 0, startOut := false }, by decide +kernel⟩⟩

theorem test_met_SessionsComplete :
    (∃ (lane : Option (Fin 16)) (bytes : List Byte) (n : Nat) (rest : List Nat) (s : State), s.spTakes lane bytes none 0o01 =
      true ∧ s.locked none = false ∧ s.openVerifies none (spMessage none bytes) = true ∧ openBodyOk (spBody (spText (spMessage
      none bytes))) = true ∧ s.drbgServes = true ∧ s.operFree = n :: rest ∧ n < 32 ∧ s.canInstall (slotOperSession n) = true) ∧
    (∃ (lane : Option (Fin 16)) (bytes : List Byte) (u : Nat) (s : State), s.spTakes lane bytes (some u) 0o01 = true ∧ s.locked
      (some u) = false ∧ s.openVerifies (some u) (spMessage (some u) bytes) = true ∧ openBodyOk (spBody (spText (spMessage (some
      u) bytes))) = true ∧ s.drbgServes = true ∧ u < 16 ∧ (s.slot (slotTenSession u)).state ≠ .fault ∧ s.keys.defective.contains
      (slotTenSession u) = false ∧ s.registerDestroying = false) ∧
    (∃ (lane : Option (Fin 16)) (bytes : List Byte) (p : Option Nat) (s : State), s.spTakes lane bytes p 0o01 = true ∧ s.locked
      p = false ∧ s.openVerifies p (spMessage p bytes) = false) ∧
    (∃ (lane : Option (Fin 16)) (bytes : List Byte) (p : Option Nat) (s : State), s.spTakes lane bytes p 0o01 = true ∧ s.locked
      p = true) ∧
    (∃ (lane : Option (Fin 16)) (bytes : List Byte) (p : Option Nat) (v : Session) (body : List Nat) (s : State), s.spTakes lane
      bytes p 0o03 = true ∧ s.session? (State.frameCaller p (spMessage p bytes)) = some v ∧ v.state = .opened ∧ s.now < v.until_
      ∧ s.requestOpens p (spMessage p bytes) = some body ∧ v.busy = false ∧ v.rxSeq < spSeq (spMessage p bytes) ∧ requestForm
      body = true) ∧
    (∃ (lane : Option (Fin 16)) (bytes : List Byte) (p : Option Nat) (v : Session) (body : List Nat) (s : State), s.spTakes lane
      bytes p 0o03 = true ∧ s.session? (State.frameCaller p (spMessage p bytes)) = some v ∧ v.state = .opening ∧ s.now <
      v.until_ ∧ s.requestOpens p (spMessage p bytes) = some body ∧ spSeq (spMessage p bytes) = 1 ∧ requestForm body = true) ∧
    (∃ (lane : Option (Fin 16)) (bytes : List Byte) (p : Option Nat) (v : Session) (body : List Nat) (s : State), s.spTakes lane
      bytes p 0o03 = true ∧ s.session? (State.frameCaller p (spMessage p bytes)) = some v ∧ v.state = .opened ∧ s.now < v.until_
      ∧ s.requestOpens p (spMessage p bytes) = some body ∧ spSeq (spMessage p bytes) < v.rxSeq) ∧
    (∃ (lane : Option (Fin 16)) (bytes : List Byte) (p : Option Nat) (v : Session) (s : State), s.spTakes lane bytes p 0o03 =
      true ∧ s.session? (State.frameCaller p (spMessage p bytes)) = some v ∧ v.state ≠ .idle ∧ s.now < v.until_ ∧ s.requestOpens
      p (spMessage p bytes) = none) ∧
    (∃ (lane : Option (Fin 16)) (bytes : List Byte) (s : State), s.spTakes lane bytes none 0o07 = true ∧ s.plainAllowed (bits
      ((spBody (spText (spMessage none bytes))).headD 0) 17 12) = true ∧ requestForm (spBody (spText (spMessage none bytes))) =
      true) ∧
    (∃ (lane : Option (Fin 16)) (bytes : List Byte) (s : State), s.spTakes lane bytes none 0o07 = true ∧ s.plainAllowed (bits
      ((spBody (spText (spMessage none bytes))).headD 0) 17 12) = false) ∧
    (∃ (c : Caller) (v : Session) (s : State), s.session? c = some v ∧ v.state = .opening) ∧
    (∃ (c : Caller) (v : Session) (s : State), s.session? c = some v ∧ v.state = .opened) ∧
    (∃ (tenant : Option (Fin 16)) (e : Nat) (rest : List (Nat × Nat)) (s : State), s.sp.locks = (State.pathNo tenant, e) ::
      rest) ∧
    (∃ (r : VerbCall) (s : State), r.caller ≠ .plain ∧ s.mayAct r none = true) :=
  ⟨⟨none, spF openM, 0, [1, 2, 3, 4, 5, 6, 7], spDev {}, by decide +kernel⟩,
    ⟨some 0, tenF (spSign 0 0o01 true 0 (16 :: List.replicate 15 0)), 0, tenOpen, by decide +kernel⟩,
    ⟨none, spF (openM.set 40 1), none, spDev {}, by decide +kernel⟩,
    ⟨none, spF openM, none, { spDev {} with sp := { locks := [(0, 9)] } }, by decide +kernel⟩,
    ⟨none, spF (requestM 6), none, { state := .opened, rxSeq := 5, until_ := 9 }, requestB, spDev
      { state := .opened, rxSeq := 5, until_ := 9 }, by decide +kernel⟩,
    ⟨none, spF (requestM 1), none, { state := .opening, until_ := 9 }, requestB, spDev { state := .opening, until_ := 9 },
      by decide +kernel⟩,
    ⟨none, spF (requestM 4), none, { state := .opened, rxSeq := 5, until_ := 9 }, requestB, spDev
      { state := .opened, rxSeq := 5, until_ := 9 }, by decide +kernel⟩,
    ⟨none, spF ((requestM 6).set 25 1), none, { state := .opened, rxSeq := 5, until_ := 9 }, spDev
      { state := .opened, rxSeq := 5, until_ := 9 }, by decide +kernel⟩,
    ⟨none, asBytes (spFrame 0x024B52000000 77 none 0x88B6 plainM),
      { spDev {} with start := { begun := true, phase := 10, outcome := .held, mportUp := true } }, by decide +kernel⟩,
    ⟨none, spF plainM, spDev {}, by decide +kernel⟩,
    ⟨.operator 2, { state := .opening, until_ := 9 }, spDev { state := .opening, until_ := 9 }, by decide +kernel⟩,
    ⟨.operator 2, { state := .opened, until_ := 9 }, spDev { state := .opened, until_ := 9 }, by decide +kernel⟩,
    ⟨some 3, 8, [], { spDev {} with sp := { locks := [(4, 8)] } }, by decide +kernel⟩,
    ⟨{ caller := .operator 2, cond := none }, spDev { state := .opened, rxSeq := 5 }, by decide +kernel⟩⟩

theorem test_met_OperatorVerbsComplete :
    (∃ (args : List Word) (n : Fin 32) (s : State), s.callerOpen (.operator n) = true ∧ 1 ≤ args.length ∧ args.length ≤ 253 ∧
      bits (wordAt args 0).toNat 11 0 = 0) ∧
    (∃ (r : VerbCall) (hostSeq : Word) (x : Nat) (rest : List (Nat × Option Nat)) (s : State), s.mayAct r none = true ∧
      State.isOperator r.caller = true ∧ s.sp.results = (hostSeq.toNat, some x) :: rest) ∧
    (∃ (r : VerbCall) (hostSeq : Word) (rest : List (Nat × Option Nat)) (s : State), s.mayAct r none = true ∧ State.isOperator
      r.caller = true ∧ s.sp.results = (hostSeq.toNat, none) :: rest) ∧
    (∃ (a0 : Word) (n : Fin 32) (s : State), s.callerOpen (.operator n) = true ∧ s.linked = true ∧ bits a0.toNat 17 14 ≤ 9 ∧
      bits a0.toNat 13 3 = 0 ∧ (bits a0.toNat 2 0 = 1 ∨ bits a0.toNat 2 0 = 2)) ∧
    (∃ (r : VerbCall) (first : Word) (count : Word) (s : State), s.mayAct r none = true ∧ State.isOperator r.caller = true ∧ 1 ≤
      count.toNat ∧ first.toNat + count.toNat ≤ 17) ∧
    (∃ (r : VerbCall) (position : BitVec 36) (count : Word) (s : State), s.mayAct r none = true ∧ State.isOperator r.caller =
      true ∧ 1 ≤ count.toNat ∧ count.toNat ≤ 14 ∧ s.cway.reports = [] ∧ s.cway.reportCount + 1 ≤ position.toNat) ∧
    (∃ (r : VerbCall) (position : BitVec 36) (count : Word) (w : List Nat) (s : State), s.mayAct r none = true ∧
      State.isOperator r.caller = true ∧ 1 ≤ count.toNat ∧ count.toNat ≤ 14 ∧ s.cway.reports = [w] ∧ s.cway.reportCount =
      position.toNat) :=
  ⟨⟨[0o10000], 2, spDev { state := .opened }, by decide +kernel⟩,
    ⟨{ caller := .operator 2, cond := none }, 7, 1, [],
      { spDev {} with sp := { oper := [(2, { state := .opened })], results := [(7, some 1)] } }, by decide +kernel⟩,
    ⟨{ caller := .operator 2, cond := none }, 7, [],
      { spDev {} with sp := { oper := [(2, { state := .opened })], results := [(7, none)] } }, by decide +kernel⟩,
    ⟨BitVec.ofNat 18 (3 * 2 ^ 14 + 1), 2, { spDev { state := .opened } with cway := { partner := .up } }, by decide +kernel⟩,
    ⟨{ caller := .operator 2, cond := none }, 15, 2, spDev { state := .opened }, by decide +kernel⟩,
    ⟨{ caller := .operator 2, cond := none }, 1, 14, spDev { state := .opened }, by decide +kernel⟩,
    ⟨{ caller := .operator 2, cond := none }, 5, 14, [3, 4, 5],
      { spDev { state := .opened } with cway := { reports := [[3, 4, 5]], reportCount := 5 } }, by decide +kernel⟩⟩

theorem test_met_TollhouseSupplyAndClockComplete :
    (∃ (onVbat : Bool) (s : State), s.isN = false ∧ s.toll.powered = false) ∧
    (∃ (s : State), s.toll.powered = true ∧ s.toll.booted = false ∧ s.toll.bootedOnce = true ∧ s.toll.metro ≠ .blank) ∧
    (∃ (k : Fin 3) (s : State), s.toll.powered = true ∧ s.toll.booted = false) ∧
    (∃ (mv : Word) (s : State), s.toll.booted = true ∧ s.toll.powered = true ∧ s.toll.onBackup = false) ∧
    (∃ (mv : Word) (s : State), s.toll.booted = true ∧ s.toll.onBackup = true) ∧
    (∃ (mv : Word) (s : State), s.toll.booted = true ∧ 3100 ≤ mv.toNat) ∧
    (∃ (mv : Word) (s : State), s.toll.booted = true ∧ s.toll.onBackup = true ∧ mv.toNat < 3100 ∧ s.toll.metro = .verified) ∧
    (∃ (s : State), s.toll.booted = true ∧ s.toll.clockFault = false ∧ s.toll.metro = .verified) ∧
    (∃ (s : State), s.toll.booted = true) ∧
    (∃ (s : State), s.toll.booted = true ∧ s.toll.metro ≠ .halted) ∧
    (∃ (s : State), s.toll.booted = true ∧ s.toll.stopped = false) :=
  ⟨⟨false, State.reset, by decide +kernel⟩,
    ⟨{ toll := { powered := true, bootedOnce := true, metro := .verified, savedTime := 9 } }, by decide +kernel⟩,
    ⟨1, { toll := { powered := true } }, by decide +kernel⟩,
    ⟨3600, tollDev {}, by decide +kernel⟩,
    ⟨3600, { tollDev { onBackup := true } with cway := {} }, by decide +kernel⟩,
    ⟨3100, tollDev {}, by decide +kernel⟩,
    ⟨3099, tollDev { onBackup := true, metro := .verified }, by decide +kernel⟩,
    ⟨tollDev { metro := .verified }, by decide +kernel⟩,
    ⟨tollDev {}, by decide +kernel⟩,
    ⟨tollDev {}, by decide +kernel⟩,
    ⟨tollDev {}, by decide +kernel⟩⟩

theorem test_met_SealKeyAndCustodyComplete :
    (∃ (s : State), s.toll.booted = true ∧ s.toll.sealClosed = true ∧ s.toll.metro = .verified) ∧
    (∃ (s : State), s.toll.booted = true ∧ s.toll.sealClosed = false ∧ s.toll.metro = .custody ∧ s.toll.verifyMark = true ∧
      s.toll.authority ≠ none ∧ s.logUnacked + 3 < 8192) ∧
    (∃ (s : State), s.toll.booted = true ∧ s.toll.sealClosed = false ∧ s.toll.metro = .custody ∧ s.toll.verifyMark = false) ∧
    (∃ (s : State), s.toll.booted = true ∧ s.toll.keyHeld = false ∧ s.toll.sealClosed = true ∧ s.toll.metro = .verified) ∧
    (∃ (s : State), s.toll.booted = true ∧ s.toll.keyHeld = false ∧ s.toll.sealClosed = false ∧ s.toll.onBackup = false) ∧
    (∃ (x : Nat) (s : State), s.toll.holdSince = some x ∧ s.toll.metro ≠ .halted) ∧
    (∃ (s : State), s.toll.booted = true ∧ s.toll.metro = .custody) :=
  ⟨⟨tollDev { sealClosed := true, metro := .verified }, by decide +kernel⟩,
    ⟨tollDev { metro := .custody, verifyMark := true, authority := some 3 }, by decide +kernel⟩,
    ⟨tollDev { metro := .custody }, by decide +kernel⟩,
    ⟨tollDev { sealClosed := true, metro := .verified }, by decide +kernel⟩,
    ⟨tollDev {}, by decide +kernel⟩,
    ⟨4, tollDev { holdSince := some 4, metro := .unverified }, by decide +kernel⟩,
    ⟨tollDev { metro := .custody, custodyEnd := 9 }, by decide +kernel⟩⟩

theorem test_met_TollhouseCommandsComplete :
    (∃ (n : Nat) (w : List Word) (s : State), s.thTakes n w = true ∧ cmdOf w = 0o01 ∧ w.length = 1 ∧ setField w 0 11 0 = 0 ∧
      s.toll.metro ≠ .halted) ∧
    (∃ (n : Nat) (w : List Word) (s : State), s.thTakes n w = true ∧ cmdOf w = 0o02 ∧ w.length = 2 ∧ setField w 0 11 0 = 0 ∧
      s.toll.metro ≠ .halted ∧ s.toll.metro ≠ .blank ∧ setField w 1 17 12 = 0) ∧
    (∃ (n : Nat) (w : List Word) (s : State), s.thTakes n w = true ∧ cmdOf w = 0o03 ∧ w.length = 3 ∧ setField w 0 11 0 = 0 ∧
      s.toll.metro ≠ .halted ∧ s.toll.metro ≠ .blank ∧ tabGet [] s.toll.ring (setWide w 1 2 % 65536) ≠ [] ∧ setWide (tabGet []
      s.toll.ring (setWide w 1 2 % 65536)) 1 2 = setWide w 1 2) ∧
    (∃ (n : Nat) (w : List Word) (s : State), s.thTakes n w = true ∧ cmdOf w = 0o04 ∧ w.length = 2 ∧ setField w 0 11 0 = 0 ∧ 1 ≤
      (ofTwos 18 (setField w 1 17 0)).natAbs ∧ (ofTwos 18 (setField w 1 17 0)).natAbs ≤ 30 ∧ s.toll.adjustedAt.all (fun x => x +
      secs 86400 ≤ s.now) = true ∧ (s.toll.metro = .verified ∨ s.toll.metro = .unverified)) ∧
    (∃ (n : Nat) (w : List Word) (s : State), s.thTakes n w = true ∧ cmdOf w = 0o05 ∧ w.length = 2 ∧ setField w 0 11 0 = 0 ∧
      s.toll.metro ≠ .halted ∧ s.toll.metro ≠ .blank ∧ setField w 1 17 12 = 0) ∧
    (∃ (n : Nat) (w : List Word) (s : State), s.thTakes n w = true ∧ cmdOf w = 0o05 ∧ w.length = 2 ∧ setField w 0 11 0 = 0 ∧
      s.toll.metro ≠ .halted ∧ s.toll.metro ≠ .blank ∧ setField w 1 17 17 = 1 ∧ setField w 1 16 12 = 0) ∧
    (∃ (n : Nat) (w : List Word) (s : State), s.thTakes n w = true ∧ cmdOf w = 0o10 ∧ w.length = 3 ∧ setField w 0 11 0 = 0 ∧
      s.toll.metro = .custody ∧ s.logFull = false ∧ setField w 2 0 0 = 0 ∧ validDate (2000 + setField w 1 17 9) (setField w 1 8
      5) (setField w 1 4 0) (setField w 2 17 13) (setField w 2 12 7) (setField w 2 6 1) = true) ∧
    (∃ (n : Nat) (w : List Word) (s : State), s.thTakes n w = true ∧ cmdOf w = 0o11 ∧ w.length = 2 ∧ setField w 0 11 0 = 0 ∧
      s.toll.metro = .custody ∧ s.logFull = false ∧ (ofTwos 18 (setField w 1 17 0)).natAbs ≤ 20000) ∧
    (∃ (n : Nat) (w : List Word) (s : State), s.thTakes n w = true ∧ cmdOf w = 0o12 ∧ w.length = 2 ∧ setField w 0 11 0 = 0 ∧
      s.toll.metro = .custody ∧ s.logFull = false ∧ setField w 1 15 0 = 0 ∧ setField w 1 17 16 ≤ 2 ∧ setField w 1 17 16 ≠
      s.toll.interval) ∧
    (∃ (n : Nat) (w : List Word) (s : State), s.thTakes n w = true ∧ cmdOf w = 0o13 ∧ w.length = 30 ∧ setField w 0 11 0 = 0 ∧
      s.toll.metro = .custody ∧ s.logFull = false ∧ setField w 1 17 8 = 0) ∧
    (∃ (n : Nat) (w : List Word) (s : State), s.thTakes n w = true ∧ cmdOf w = 0o14 ∧ w.length = 50 ∧ setField w 0 11 0 = 0 ∧
      s.toll.metro = .custody ∧ s.logFull = false ∧ setField w 1 17 8 = 0) ∧
    (∃ (n : Nat) (w : List Word) (s : State), s.thTakes n w = true ∧ cmdOf w = 0o15 ∧ w.length = 1 ∧ setField w 0 11 0 = 0 ∧
      s.toll.metro = .custody ∧ s.logFull = false) ∧
    (∃ (n : Nat) (w : List Word) (s : State), s.thTakes n w = true ∧ cmdOf w = 0o16 ∧ w.length = 1 ∧ setField w 0 11 0 = 0 ∧
      s.toll.metro = .custody ∧ s.logFull = false) :=
  ⟨⟨5, [BitVec.ofNat 18 (1 * 2 ^ 12)], tollCmd {} ([BitVec.ofNat 18 (1 * 2 ^ 12)]), by decide +kernel⟩,
    ⟨5, [BitVec.ofNat 18 (2 * 2 ^ 12), 3], tollCmd {} ([BitVec.ofNat 18 (2 * 2 ^ 12), 3]), by decide +kernel⟩,
    ⟨5, [BitVec.ofNat 18 (3 * 2 ^ 12), 0, 4], tollCmd { ring := [(4, [9, 0, 4, 0])] } ([BitVec.ofNat 18 (3 * 2 ^ 12), 0, 4]),
      by decide +kernel⟩,
    ⟨5, [BitVec.ofNat 18 (4 * 2 ^ 12), BitVec.ofInt 18 (-30)], tollCmd { metro := .unverified } ([BitVec.ofNat 18 (4 * 2 ^ 12),
      BitVec.ofInt 18 (-30)]), by decide +kernel⟩,
    ⟨5, [BitVec.ofNat 18 (5 * 2 ^ 12), 3], tollCmd { points := [(3, { peak := 8, regs := [(1, 2)] })] } ([BitVec.ofNat 18 (5 * 2
      ^ 12), 3]), by decide +kernel⟩,
    ⟨5, [BitVec.ofNat 18 (5 * 2 ^ 12), BitVec.ofNat 18 (2 ^ 17)], tollCmd { points := [(3, { peak := 8, cur := 4 })] }
      ([BitVec.ofNat 18 (5 * 2 ^ 12), BitVec.ofNat 18 (2 ^ 17)]), by decide +kernel⟩,
    ⟨5, [BitVec.ofNat 18 (8 * 2 ^ 12), BitVec.ofNat 18 (24 * 2 ^ 9 + 2 * 2 ^ 5 + 29), BitVec.ofNat 18 (13 * 2 ^ 13 + 59 * 2 ^ 7
      + 58)], tollCmd {} ([BitVec.ofNat 18 (8 * 2 ^ 12), BitVec.ofNat 18 (24 * 2 ^ 9 + 2 * 2 ^ 5 + 29), BitVec.ofNat 18 (13 * 2
      ^ 13 + 59 * 2 ^ 7 + 58)]), by decide +kernel⟩,
    ⟨5, [BitVec.ofNat 18 (9 * 2 ^ 12), BitVec.ofInt 18 (-20000)], tollCmd {} ([BitVec.ofNat 18 (9 * 2 ^ 12), BitVec.ofInt 18
      (-20000)]), by decide +kernel⟩,
    ⟨5, [BitVec.ofNat 18 (10 * 2 ^ 12), BitVec.ofNat 18 (2 * 2 ^ 16)], tollCmd {} ([BitVec.ofNat 18 (10 * 2 ^ 12), BitVec.ofNat
      18 (2 * 2 ^ 16)]), by decide +kernel⟩,
    ⟨5, [BitVec.ofNat 18 (11 * 2 ^ 12)] ++ ([0] ++ List.replicate 28 5), tollCmd {} ([BitVec.ofNat 18 (11 * 2 ^ 12)] ++ ([0] ++
      List.replicate 28 5)), by decide +kernel⟩,
    ⟨5, [BitVec.ofNat 18 (12 * 2 ^ 12)] ++ ([0] ++ List.replicate 48 5), tollCmd {} ([BitVec.ofNat 18 (12 * 2 ^ 12)] ++ ([0] ++
      List.replicate 48 5)), by decide +kernel⟩,
    ⟨5, [BitVec.ofNat 18 (13 * 2 ^ 12)], tollCmd {} ([BitVec.ofNat 18 (13 * 2 ^ 12)]), by decide +kernel⟩,
    ⟨5, [BitVec.ofNat 18 (14 * 2 ^ 12)], tollCmd {} ([BitVec.ofNat 18 (14 * 2 ^ 12)]), by decide +kernel⟩⟩

theorem test_met_MeteringCompletes :
    (∃ (n : Nat) (w0 : Word) (w : List Word) (s : State), s.arrives .thDown .legal (.legalParams n (w0 :: w)) = true ∧
      s.toll.results.any (fun e => decide (e.1 = .legalParams n (w0 :: w))) = false ∧ s.toll.metro ≠ .halted ∧ bits w0.toNat 5 3
      = 0 ∧ 0 < bits w0.toNat 2 0) ∧
    (∃ (n : Nat) (w : List Word) (s : State), s.arrives .thDown .legal (.legalParams n w) = true ∧ s.toll.results.any (fun e =>
      decide (e.1 = .legalParams n w)) = false ∧ s.toll.metro = .halted) ∧
    (∃ (n : Nat) (w0 : Word) (w : List Word) (s : State), s.arrives .thDown .legal (.legalParams n (w0 :: w)) = true ∧
      s.toll.results.any (fun e => decide (e.1 = .legalParams n (w0 :: w))) = false ∧ s.toll.metro ≠ .halted ∧ 0 < bits w0.toNat
      5 3 ∧ tabGet none s.toll.assembly (bits w0.toNat 17 6) = none) ∧
    (∃ (code : Nat) (hour : Nat) (s : State), s.toll.booted = true ∧ s.toll.pendInterval = some (code, hour) ∧ s.toll.changeDue
      = true) ∧
    (∃ (input : Fin 8) (p : Nat) (s : State), s.metering = true ∧ s.pointsWith (fun w => setSource w = 1 && setInput w =
      input.val) = [p]) ∧
    (∃ (input : Fin 4) (code : Word) (p : Nat) (s : State), s.metering = true ∧ s.toll.onBackup = false ∧ s.pointsWith (fun w =>
      setSource w = 2 && setInput w = input.val) = [p] ∧ 36 * 262144 ≤ 250 * code.toNat ∧ 250 * code.toNat ≤ 210 * 262144 ∧
      setLowCut (s.point p).set * (16 * 262144) ≤ (25 * code.toNat - 4 * 262144) * 1000) ∧
    (∃ (x : Nat) (y : Nat) (b : List Nat) (s : State), s.arrives .thDown .legal (.meterSection x y b) = true) ∧
    (∃ (s : State), s.toll.booted = true) ∧
    (∃ (s : State), s.toll.booted = true ∧ s.toll.stopped = false ∧ s.toll.changeDue = false ∧ s.toll.curStart + s.intervalLen ≤
      timeEnd) ∧
    (∃ (before : List TollReport) (rest : List TollReport) (r : TollReport) (s : State), s.toll.reports = before ++ r :: rest ∧
      before.all (fun x => !x.signature.isEmpty) = true ∧ r.signature = [] ∧ s.tollOnVt = true) ∧
    (∃ (s : State), s.wayOpen .thUp = true ∧ statusKey s.statusBlock ≠ s.toll.statusSent) ∧
    (∃ (s : State), s.wayOpen .thUp = true ∧ statusKey s.statusBlock = s.toll.statusSent) ∧
    (∃ (s : State), s.tollOnVt = true) :=
  ⟨⟨5, BitVec.ofNat 18 (3 * 64 + 1), [8, 9], onWire (tollDev {}) .thDown .legal (.legalParams 5 [BitVec.ofNat 18 (3 * 64 + 1),
      8, 9]), by decide +kernel⟩,
    ⟨5, [8, 9], onWire (tollDev { metro := .halted }) .thDown .legal (.legalParams 5 [8, 9]), by decide +kernel⟩,
    ⟨5, BitVec.ofNat 18 (3 * 64 + 9), [8, 9], onWire (tollDev {}) .thDown .legal (.legalParams 5 [BitVec.ofNat 18 (3 * 64 + 9),
      8, 9]), by decide +kernel⟩,
    ⟨2, 3600, tollDev { pendInterval := some (2, 3600), changeDue := true, points := [(5, tollPoint1 1 3)] }, by decide +kernel⟩,
    ⟨3, 5, tollDev { metro := .unverified, points := [(5, tollPoint1 1 3)] }, by decide +kernel⟩,
    ⟨1, 200000, 5, tollDev { metro := .unverified, points := [(5, tollPoint1 2 1)] }, by decide +kernel⟩,
    ⟨5, 1, [32], onWire (tollDev {}) .thDown .legal (.meterSection 5 1 [32]), by decide +kernel⟩,
    ⟨tollDev { metro := .unverified, arrived := [.meterSection 5 1 [32]] }, by decide +kernel⟩,
    ⟨tollDev { curStart := 900 }, by decide +kernel⟩,
    ⟨[], [], { isRecord := false, words := [1] }, tollDev { reports := [{ isRecord := false, words := [1] }] },
      by decide +kernel⟩,
    ⟨tollDev {}, by decide +kernel⟩,
    ⟨tollDev { statusSent := statusKey (tollDev {}).statusBlock }, by decide +kernel⟩,
    ⟨tollDev { points := [(5, tollPoint1 1 3)] }, by decide +kernel⟩⟩

theorem test_met_LegalMessagesComplete :
    (∃ (n : Nat) (m : Msg) (rest : List Msg) (s : State), s.arrives .thDown .legal (.thAck n) = true ∧ s.toll.kept = m :: rest ∧
      msgSeq m = n) ∧
    (∃ (m : Msg) (s : State), s.arrives .down .legal m = true ∧ s.isN = false) ∧
    (∃ (m : Msg) (s : State), s.arrives .thUp .legal m = true) ∧
    (∃ (dir : Bool) (ty : BitVec 6) (s : State), mayCross dir ty.toNat = false ∧ s.vergeRuns = true ∧ s.isN = false ∧ s.linked =
      true) ∧
    (∃ (dir : Bool) (ty : BitVec 6) (s : State), mayCross dir ty.toNat = false ∧ s.vergeRuns = true ∧ s.isN = false ∧ s.linked =
      false) ∧
    (∃ (s : State), s.verge.thLink = true) ∧
    (∃ (s : State), s.isN = false ∧ s.verge.thLink = false ∧ s.tollOnVt = true ∧ s.vergeRuns = true) ∧
    (∃ (n : Nat) (off : Nat) (w : List Word) (s : State), s.arrives .up .legal (.windowWrite n off w) = true ∧
      s.cway.taken.contains n = false) ∧
    (∃ (n : Nat) (w : List Word) (s : State), s.arrives .up .legal (.logEntry n w) = true ∧ s.cway.taken.contains n = false) ∧
    (∃ (n : Nat) (w : List Word) (s : State), s.arrives .up .legal (.thHello n w) = true ∧ s.isN = false ∧ s.cway.taken.contains
      n = false) ∧
    (∃ (n : Nat) (x : Nat) (e : Nat) (k : Fin 32) (rest : List (Nat × Nat × Nat)) (s : State), s.arrives .up .legal (.thReply n
      x) = true ∧ s.sp.thWaiting = (k.val, n, e) :: rest ∧ s.callerOpen (.operator k) = true) ∧
    (∃ (n : Nat) (e : Nat) (session : Fin 32) (rest : List (Nat × Nat × Nat)) (s : State), s.sp.thWaiting = (session.val, n, e)
      :: rest ∧ s.callerOpen (.operator session) = true) :=
  ⟨⟨4, .thHello 4 [], [.logEntry 5 []], onWire (tollDev { kept := [.thHello 4 [], .logEntry 5 []] }) .thDown .legal (.thAck 4),
      by decide +kernel⟩,
    ⟨.thAck 4, onWire (tollDev {}) .down .legal (.thAck 4), by decide +kernel⟩,
    ⟨.thHello 4 [], onWire (tollDev {}) .thUp .legal (.thHello 4 []), by decide +kernel⟩,
    ⟨true, 5, tollDev {}, by decide +kernel⟩,
    ⟨false, 0o30, { tollDev {} with cway := {} }, by decide +kernel⟩,
    ⟨tollDev {}, by decide +kernel⟩,
    ⟨{ tollDev {} with verge := { (tollDev {}).verge with thLink := false } }, by decide +kernel⟩,
    ⟨4, 0o100, [3, 4], onWire (tollDev {}) .up .legal (.windowWrite 4 0o100 [3, 4]), by decide +kernel⟩,
    ⟨4, [0o155022, 0, 1], onWire (tollDev {}) .up .legal (.logEntry 4 [0o155022, 0, 1]), by decide +kernel⟩,
    ⟨4, [3], onWire (tollDev {}) .up .legal (.thHello 4 [3]), by decide +kernel⟩,
    ⟨4, 0, 90, 0, [], onWire
      { tollDev {} with sp := { (tollDev {}).sp with thWaiting := [(0, 4, 90)], results := [(4, none)] } } .up .legal (.thReply
      4 0), by decide +kernel⟩,
    ⟨4, 90, 0, [], { tollDev {} with sp := { (tollDev {}).sp with thWaiting := [(0, 4, 90)] } }, by decide +kernel⟩⟩

theorem test_met_ReadAndWriteComplete :
    (∃ (r : VerbCall) (address : Word) (count : Word) (s : State), s.mayAct r none = true ∧ s.reads r.caller address.toNat
      count.toNat = true ∧ 1 ≤ count.toNat ∧ count.toNat ≤ 640 ∧ address.toNat + count.toNat ≤ 2 ^ 18) ∧
    (∃ (r : VerbCall) (address : Word) (count : Word) (s : State), s.mayAct r none = true ∧ s.reads r.caller address.toNat
      count.toNat = true ∧ (count.toNat = 0 ∨ 640 < count.toNat ∨ 2 ^ 18 < address.toNat + count.toNat)) ∧
    (∃ (r : VerbCall) (address : Word) (count : Word) (s : State), s.callerOpen r.caller = true ∧ s.reads r.caller address.toNat
      count.toNat = false) ∧
    (∃ (n : Fin 32) (address : Word) (words : List Word) (s : State), s.callerOpen (.operator n) = true ∧ 1 ≤ words.length ∧
      words.length ≤ 16 ∧ address.toNat + words.length ≤ 2 ^ 18 ∧ s.firstRefused address.toNat words = none) ∧
    (∃ (n : Fin 32) (value : Word) (s : State), s.callerOpen (.operator n) = true ∧ bits value.toNat 16 0 < 69632) ∧
    (∃ (n : Fin 32) (address : Word) (words : List Word) (st : Nat) (i : Nat) (s : State), s.callerOpen (.operator n) = true ∧ 1
      ≤ words.length ∧ words.length ≤ 16 ∧ address.toNat + words.length ≤ 2 ^ 18 ∧ s.firstRefused address.toNat words = some
      (st, i)) :=
  ⟨⟨{ caller := .operator 0, cond := none }, 0, 9, fieldWindow, by decide +kernel⟩,
    ⟨{ caller := .operator 0, cond := none }, 0, 641, fieldWindow, by decide +kernel⟩,
    ⟨{ caller := .tenant 0, cond := none }, 1, 1, { tenDev {} with sp := { ten := [(0, { state := .opened })] } },
      by decide +kernel⟩,
    ⟨0, 0o244001, [77], fieldWindow, by decide +kernel⟩,
    ⟨0, 69631, fieldWindow, by decide +kernel⟩,
    ⟨0, 0o006005, [5, 5], 1, 1, fieldWindow, by decide +kernel⟩⟩

theorem test_met_AlarmCommandsComplete :
    (∃ (r : VerbCall) (a0 : BitVec 16) (event : Word) (kn : Word) (s : State), s.mayAct r none = true ∧ State.isOperator
      r.caller = true ∧ a0.toNat < 64 ∧ (s.alarmEntry a0.toNat).state ≠ .free ∧ (s.alarmEntry a0.toNat).event = event.toNat ∧
      fld 17 14 (s.alarmEntry a0.toNat).kind + fld 13 0 (s.alarmEntry a0.toNat).number = kn.toNat ∧ s.keys.defective = []) ∧
    (∃ (r : VerbCall) (a0 : BitVec 16) (s : State), s.mayAct r none = true ∧ State.isOperator r.caller = true ∧ bits a0.toNat 12
      0 = 0 ∧ 2 ≤ bits a0.toNat 15 13 ∧ bits a0.toNat 15 13 ≤ 5 ∧ s.keys.defective = []) ∧
    (∃ (r : VerbCall) (s : State), s.mayAct r none = true ∧ State.isOperator r.caller = true ∧ s.keys.defective = []) ∧
    (∃ (x : Nat) (s : State), s.alarm.alertHold = some x ∧ (s.start.outcome = .running ∨ s.start.outcome = .held) ∧ s.alertCause
      = false) ∧
    (∃ (x : Nat) (s : State), s.alarm.alertHold = some x ∧ s.alertCause = true) :=
  ⟨⟨{ caller := .operator 0, cond := none }, 3, 0o062003, BitVec.ofNat 18 (2 ^ 14 + 4), alarmDev, by decide +kernel⟩,
    ⟨{ caller := .operator 0, cond := none }, BitVec.ofNat 16 (2 * 2 ^ 13), alarmDev, by decide +kernel⟩,
    ⟨{ caller := .operator 0, cond := none }, alarmDev, by decide +kernel⟩,
    ⟨4, { runningWith [] with alarm := { alertHold := some 4 } }, by decide +kernel⟩,
    ⟨4, { alarmDev with alarm := { alarmDev.alarm with alertHold := some 4 } }, by decide +kernel⟩⟩

theorem test_met_MilepostCommandsComplete :
    (∃ (r : VerbCall) (block : Fin 36) (counter : Fin 32) (value : Word) (s : State), s.mayAct r none = true ∧ State.isOperator
      r.caller = true ∧ fixedCounter block counter = false ∧ eventListed block (selEvent (fld 17 8 (value.toNat / 2 ^ 8))) =
      true ∧ selChain (fld 17 8 (value.toNat / 2 ^ 8)) = false) ∧
    (∃ (r : VerbCall) (block : Fin 36) (counter : Fin 32) (value : Word) (s : State), s.mayAct r none = true ∧ State.isOperator
      r.caller = true ∧ (fixedCounter block counter = true ∨ eventListed block (selEvent (fld 17 8 (value.toNat / 2 ^ 8))) =
      false)) ∧
    (∃ (r : VerbCall) (block : Fin 36) (counter : Fin 32) (value : Word) (s : State), s.mayAct r none = true ∧ State.isOperator
      r.caller = true ∧ ¬(16 ≤ block.val ∧ block.val ≤ 23 ∧ 16 ≤ counter.val)) ∧
    (∃ (x : Nat) (s : State), s.mile.began = some x ∧ s.mile.copying = none ∧ s.mile.run = true) ∧
    (∃ (r : VerbCall) (x : Nat) (s : State), s.mayAct r none = true ∧ State.isOperator r.caller = true ∧ s.mile.began = some x ∧
      s.mile.copying = none ∧ s.mile.run = true) ∧
    (∃ (r : VerbCall) (on : Bool) (s : State), s.mayAct r none = true ∧ State.isOperator r.caller = true ∧ s.mile.copying = none
      ∧ s.mile.later = []) ∧
    (∃ (r : VerbCall) (value : Word) (s : State), s.mayAct r none = true ∧ State.isOperator r.caller = true ∧ value ≠ 0) ∧
    (∃ (c : Snapshot) (s : State), s.mile.copying = some c ∧ s.mile.later = []) :=
  ⟨⟨{ caller := .operator 0, cond := none }, 35, 1, BitVec.ofNat 18 (4 * 2 ^ 10), fieldWindow, by decide +kernel⟩,
    ⟨{ caller := .operator 0, cond := none }, 16, 16, 0, fieldWindow, by decide +kernel⟩,
    ⟨{ caller := .operator 0, cond := none }, 35, 1, 9, fieldWindow, by decide +kernel⟩,
    ⟨5, { fieldWindow with mile := { began := some 5 } }, by decide +kernel⟩,
    ⟨{ caller := .operator 0, cond := none }, 5, { fieldWindow with mile := { began := some 5, seq := 262143 } },
      by decide +kernel⟩,
    ⟨{ caller := .operator 0, cond := none }, false, { fieldWindow with mile := { began := some 5 } }, by decide +kernel⟩,
    ⟨{ caller := .operator 0, cond := none }, 3, fieldWindow, by decide +kernel⟩,
    ⟨snap9, { fieldWindow with mile := { began := some 5, copying := some snap9 } }, by decide +kernel⟩⟩

theorem test_met_WaymarkCommandsComplete :
    (∃ (r : VerbCall) (value : Word) (s : State), s.mayAct r none = true ∧ State.isOperator r.caller = true ∧ 2 ^ bits
      value.toNat 15 12 ≤ s.way.set.rate) ∧
    (∃ (r : VerbCall) (value : Word) (s : State), s.mayAct r none = true ∧ State.isOperator r.caller = true ∧ value ≠ 0 ∧ 2 ^
      s.way.set.dither ≤ value.toNat) ∧
    (∃ (r : VerbCall) (value : Word) (s : State), s.mayAct r none = true ∧ State.isOperator r.caller = true ∧ ((bits value.toNat
      17 16 = 1 → bits value.toNat 13 0 < 16)) ∧ ((bits value.toNat 17 16 = 2 → bits value.toNat 13 0 < 18))) ∧
    (∃ (r : VerbCall) (s : State), s.mayAct r none = true ∧ State.isOperator r.caller = true) :=
  ⟨⟨{ caller := .operator 0, cond := none }, BitVec.ofNat 18 (2 ^ 17 + 3 * 2 ^ 12), fieldWindow, by decide +kernel⟩,
    ⟨{ caller := .operator 0, cond := none }, 1, fieldWindow, by decide +kernel⟩,
    ⟨{ caller := .operator 0, cond := none }, BitVec.ofNat 18 (2 * 2 ^ 16 + 17), fieldWindow, by decide +kernel⟩,
    ⟨{ caller := .operator 0, cond := none }, { fieldWindow with way := { wrIndex := 9, full := true, stopped := true } },
      by decide +kernel⟩⟩

theorem test_met_TripCommandsComplete :
    (∃ (r : VerbCall) (s : State), s.mayAct r none = true ∧ State.isOperator r.caller = true ∧ (s.trip.state = .off ∨
      s.trip.state = .frozen) ∧ s.memReady = true ∧ s.tripMode = 1) ∧
    (∃ (r : VerbCall) (s : State), s.mayAct r none = true ∧ State.isOperator r.caller = true ∧ s.trip.state = .recording) ∧
    (∃ (r : VerbCall) (s : State), s.mayAct r none = true ∧ State.isOperator r.caller = true ∧ s.trip.state = .recording) ∧
    (∃ (s : State), s.trip.state = .freezing ∧ s.trip.stopAt ≤ s.trip.blockSeq) ∧
    (∃ (s : State), s.trip.state = .recording ∧ s.tp.queues.all (fun e => decide (State.held e.2 .spill = 0)) = true) ∧
    (∃ (s : State), s.trip.state = .recording) ∧
    (∃ (s : State), s.trip.state = .recording ∧ s.trip.lost ≠ 0) ∧
    (∃ (r : VerbCall) (position : BitVec 36) (count : Word) (s : State), s.mayAct r none = true ∧ State.isOperator r.caller =
      true ∧ 1 ≤ count.toNat ∧ count.toNat ≤ 640 ∧ s.mem.quarantined = false ∧ s.start.memState ≠ .unavailable ∧ 1792 *
      s.trip.blockSeq ≤ position.toNat) ∧
    (∃ (r : VerbCall) (position : BitVec 36) (count : Word) (s : State), s.mayAct r none = true ∧ State.isOperator r.caller =
      true ∧ 1 ≤ count.toNat ∧ count.toNat ≤ 640 ∧ s.mem.quarantined = false ∧ s.start.memState ≠ .unavailable ∧ 1792 *
      s.oldestBlock ≤ position.toNat ∧ position.toNat + count.toNat ≤ 1792 * s.trip.blockSeq) :=
  ⟨⟨{ caller := .operator 0, cond := none }, tripDev {}, by decide +kernel⟩,
    ⟨{ caller := .operator 0, cond := none }, tripDev { state := .recording, arm := true }, by decide +kernel⟩,
    ⟨{ caller := .operator 0, cond := none }, tripDev { state := .recording, arm := true }, by decide +kernel⟩,
    ⟨tripDev { state := .freezing, stopAt := 2, blockSeq := 2, cur := [4], cause := 3 }, by decide +kernel⟩,
    ⟨tripDev { state := .recording }, by decide +kernel⟩,
    ⟨tripDev { state := .recording, checkDue := 5 }, by decide +kernel⟩,
    ⟨tripDev { state := .recording, lost := 5, fill := 35 * 2 ^ 20 }, by decide +kernel⟩,
    ⟨{ caller := .operator 0, cond := none }, 1792, 640, tripDev { blockSeq := 1 }, by decide +kernel⟩,
    ⟨{ caller := .operator 0, cond := none }, 27, 2, tripDev
      { blockSeq := 1, region := [(0, some (2 ^ 8 * 3)), (1, some (2 ^ 494 * 5))] }, by decide +kernel⟩⟩

theorem test_met_ReplayCompletes :
    (∃ (r : VerbCall) (s : State), s.mayAct r none = true ∧ State.isOperator r.caller = true) ∧
    (∃ (r : VerbCall) (s : State), s.mayAct r none = true ∧ State.isOperator r.caller = true ∧ (s.replayMode = false ∨
      s.replaying = true)) ∧
    (∃ (e : TripRec) (next : TripRec) (rest : List TripRec) (s : State), s.replaying = true ∧ s.trip.span = e :: next :: rest ∧
      next.time ≠ e.time ∧ e.type = 0o21) ∧
    (∃ (e : TripRec) (s : State), s.replaying = true ∧ s.trip.span = [e] ∧ e.type = 0o21) ∧
    (∃ (e : TripRec) (rest : List TripRec) (s : State), s.replaying = true ∧ s.trip.span = e :: rest ∧ e.type = 0o20) ∧
    (∃ (e : TripRec) (s : State), s.replaying = true ∧ s.trip.span = [e] ∧ e.type = 0o06 ∧ (s.lane (bits (e.r 1) 17 14)).state ≠
      laneStateOf (bits (e.r 1) 13 11)) ∧
    (∃ (s : State), s.replaying = false) :=
  ⟨⟨{ caller := .operator 0, cond := none }, tripDev {}, by decide +kernel⟩,
    ⟨{ caller := .operator 0, cond := none }, tripDev {}, by decide +kernel⟩,
    ⟨{ block := 4, time := 9, type := 0o21, body := [] }, { block := 4, time := 10, type := 0o21, body := [] }, [], replayDev
      { state := .replaying, span := [{ block := 4, time := 9, type := 0o21, body := [] }, { block := 4, time := 10, type := 0o21, body := [] }] },
      by decide +kernel⟩,
    ⟨{ block := 4, time := 9, type := 0o21, body := [] }, replayDev
      { state := .replaying, span := [{ block := 4, time := 9, type := 0o21, body := [] }] }, by decide +kernel⟩,
    ⟨{ block := 4, time := 9, type := 0o20, body := [0, 3, 0] }, [{ block := 4, time := 9, type := 0o21, body := [] }],
      replayDev
      { state := .replaying, span := [{ block := 4, time := 9, type := 0o20, body := [0, 3, 0] }, { block := 4, time := 9, type := 0o21, body := [] }] },
      by decide +kernel⟩,
    ⟨{ block := 4, time := 9, type := 0o06, body := [5 * 2 ^ 14 + 3 * 2 ^ 11 + 256, 0, 0] }, replayDev
      { state := .replaying, span := [{ block := 4, time := 9, type := 0o06, body := [5 * 2 ^ 14 + 3 * 2 ^ 11 + 256, 0, 0] }] },
      by decide +kernel⟩,
    ⟨tripDev {}, by decide +kernel⟩⟩

theorem test_met_ProgressMonitorCompletes :
    (∃ (queue : Fin 16384) (f : QFrame) (u : Nat) (s : State), s.unitsHeld = false ∧ (s.queue queue).frames.head? = some f ∧
      s.tenantOfQueue queue = some u ∧ f.eligible = true ∧ ((s.tenant u).state = .healthy ∨ (s.tenant u).state = .degraded) ∧
      s.exemptNow u queue f = false) ∧
    (∃ (cls : Fin 4) (s : State), s.unitsHeld = false ∧ s.mile.sel = [] ∧ s.trip.state = .off) ∧
    (∃ (lane : Fin 16) (n : Nat) (x : Nat) (s : State), s.unitsHeld = false ∧ s.laneLead lane = some n ∧ heldFrom (s.lane n) =
      some x ∧ (s.lane n).holdReported = false) ∧
    (∃ (requester : Nat) (age : Nat) (conflicts : Nat) (s : State), s.unitsHeld = false ∧ (bits (s.cfg 0o006 0 0) 17 6 ≤ age ∨ 3
      ≤ conflicts)) :=
  ⟨⟨0, { qf 64 .reserved with eligible := true }, 0, tenQ {} { frames := [{ qf 64 .reserved with eligible := true }] },
      by decide +kernel⟩,
    ⟨2, fieldWindow, by decide +kernel⟩,
    ⟨0, 0, 6, { tenDev {} with lanes := [(0, { heldSince := [(3, 7)] })] }, by decide +kernel⟩,
    ⟨5, 4, 3, { fieldWindow with promoted := [(0, 2)] }, by decide +kernel⟩⟩

theorem test_met_StartDiscardsJunction :
    (∃ (lowNs : Nat) (s : State), s.pins.hostRstLow = false ∧ 300 ≤ lowNs) ∧
    (∃ (cmd : Nat) (capture : PufState) (s : State), s.cus.running = some (cmd, .bootRecord) ∧ s.norRefuses = false) :=
  ⟨⟨300, { pins := { hostRstLow := false }, jun := { state := .holdover, hist := true, holdFreq := 7, selected := 2 } },
      by decide +kernel⟩,
    ⟨8, 9,
      { fieldWindow with cus := { running := some (8, .bootRecord) }, nor := norGood, jun := { state := .locked, hist := true, holdFreq := 7, selected := 2 } },
      by decide +kernel⟩⟩

theorem test_met_PressAfterTheWindowNeedsARelease :
    (∃ (s : State), s.cus.btn = true ∧ s.cus.timing = true ∧ s.cus.jmp = true ∧ s.cus.jmpThroughout = true ∧ s.start.outcome ≠
      .starting) ∧
    (∃ (releasedMs : Nat) (s : State), s.cus.btn = false ∧ s.cus.armed = false ∧ releasedMs < 100) ∧
    (∃ (releasedMs : Nat) (s : State), s.cus.btn = false ∧ 100 ≤ releasedMs) ∧
    (∃ (s : State), s.cus.timing = false) :=
  ⟨⟨{ runningWith [] with cus := { jmp := true, btn := true, timing := true, jmpThroughout := true } }, by decide +kernel⟩,
    ⟨99, { runningWith [] with cus := { jmp := true, armed := false } }, by decide +kernel⟩,
    ⟨100, { runningWith [] with cus := { jmp := true } }, by decide +kernel⟩,
    ⟨{ runningWith [] with cus := { jmp := true, btn := true, jmpThroughout := true } }, by decide +kernel⟩⟩

theorem test_met_EmptyQueueIdles : ∃ s : State, s.pending = [] := ⟨State.reset, rfl⟩

theorem test_met_CommandsChangeOnlyTheirParts : ∃ t, exec .xoInRuns State.reset = .next t := ⟨_, rfl⟩

theorem test_met_EveryStepKeepsTheOtpSound :
    ∃ s t : State, s.otpSound = true ∧ s.pending ≠ [] ∧ step s = .next t :=
  ⟨{ otp := [(0, 15)], cus := { running := some (3, .intent .lc 2) }, pending := [.intentPairWritten true true] }, _,
    by decide +kernel, by simp, rfl⟩

theorem test_met_BlownFusesStayBlown :
    ∃ s t : State, s.pending ≠ [] ∧ step s = .next t ∧ (s.otpWord 0).testBit 3 = true :=
  ⟨{ otp := [(0, 8)], pending := [.supplyMonitorReset 0 .stays 0] }, _, by simp, rfl, by decide +kernel⟩

theorem test_met_IdentityWordIsReadable :
    (∃ (r : VerbCall) (s : State), s.mayAct r none = true ∧ s.reads r.caller 0 1 = true) :=
  ⟨{ caller := .operator 0, cond := none }, fieldWindow, by decide +kernel⟩

theorem test_met_IdentityWordIsReadable_plain :
    ∃ s : State, s.start.begun = true ∧ 2 ≤ s.start.phase ∧
      (s.start.outcome = .stranded ∨ s.start.outcome = .transitionHalt) :=
  ⟨{ start := { begun := true, phase := 7, outcome := .stranded } }, by decide +kernel⟩

end Sys2Proof.Tests
end

namespace Sys2Proof.Machine

/-- Every command is an `act` that names exactly the parts listed for it in `writes`. The frames of the model follow from this
alone, whatever the effect of the command is. -/
theorem exec_eq_act_writes (c : Instr) (s : State) : ∃ f, exec c s = act (writes c) s f := by
  cases c <;> exact ⟨_, rfl⟩

/-- VARIANT is fixed in silicon (00_scope, Table 0.1; notes/assumptions/5). -/
theorem isN_not_mem_writes (c : Instr) : Part.isN ∉ writes c := by
  have hc : (writes c).contains .isN = false := by cases c <;> rfl
  simpa using hc

/-- The queue belongs to `step`, which takes from it (notes/assumptions/1). -/
theorem pending_not_mem_writes (c : Instr) : Part.pending ∉ writes c := by
  have hc : (writes c).contains .pending = false := by cases c <;> rfl
  simpa using hc

theorem exec_onlyChanges {c : Instr} {s t : State} (h : exec c s = .next t) : s.onlyChanges t (writes c ++ observers) := by
  obtain ⟨f, hf⟩ := exec_eq_act_writes c s
  exact act_onlyChanges (hf ▸ h)

theorem exec_isN {c : Instr} {s t : State} (h : exec c s = .next t) : t.isN = s.isN :=
  exec_onlyChanges h .isN (by simp [isN_not_mem_writes, observers])

theorem exec_pending {c : Instr} {s t : State} (h : exec c s = .next t) : t.pending = s.pending :=
  exec_onlyChanges h .pending (by simp [pending_not_mem_writes, observers])

/-- Settles O52: every command is an `act` on the parts that `writes` lists for it, and neither VARIANT nor the queue is among
them. -/
theorem commandsChangeOnlyTheirParts : Obligations.CommandsChangeOnlyTheirParts :=
  fun _ _ _ h => ⟨exec_onlyChanges h, exec_isN h, exec_pending h⟩

end Sys2Proof.Machine

namespace Sys2Proof.Machine

/-! ## The ports of the Verge die -/

/-- A table listed by number and stripped of its unlisted value reads the value listed. -/
theorem tabGet_filter_map {α : Type} [DecidableEq α] (d : α) (f : Nat → α) (l : List Nat) (k : Nat) :
    tabGet d ((l.map (fun p => (p, f p))).filter (fun e => decide (e.2 ≠ d))) k = if k ∈ l then f k else d := by
  induction l with
  | nil => rfl
  | cons j l ih =>
    rw [List.map_cons, List.filter_cons]
    by_cases hk : j = k
    · subst hk
      by_cases hj : f j = d
      · simpa [hj] using ih
      · simp [tabGet, hj]
    · have hkl : k ∈ j :: l ↔ k ∈ l := by simp [Ne.symm hk]
      by_cases hj : f j = d <;> simpa [tabGet, hj, hk, hkl] using ih

@[simp] theorem actState_port (ps : List Part) (s : State) (f : State → State) (p : Nat) :
    (actState ps s f).port p = if ps.contains .verge then (f s.clear).port p else s.port p := by
  simp only [State.port, actState_verge]
  split <;> rfl

namespace State

@[simp] theorem clear_port (s : State) (p : Nat) : s.clear.port p = s.port p := rfl

/-- Between two states the Verge die has changed in these ports and in nothing else. -/
structure ChangesPorts (s t : State) (l : List Nat) : Prop where
  verge : t.verge = { s.verge with ports := t.verge.ports }
  port : ∀ p, p ∉ l → t.port p = s.port p

theorem ChangesPorts.refl (s : State) (l : List Nat) : s.ChangesPorts s l := ⟨rfl, fun _ _ => rfl⟩

theorem ChangesPorts.trans {s t u : State} {l m n : List Nat} (h : s.ChangesPorts t l) (h' : t.ChangesPorts u m)
    (hl : l ⊆ n) (hm : m ⊆ n) : s.ChangesPorts u n := by
  exact ⟨by rw [h'.verge, h.verge],
    fun p hn => (h'.port p (fun hp => hn (hm hp))).trans (h.port p (fun hp => hn (hl hp)))⟩

theorem ChangesPorts.locked {s t : State} {l : List Nat} (h : s.ChangesPorts t l) : t.verge.locked = s.verge.locked := by
  rw [h.verge]

theorem ChangesPorts.clockLost {s t : State} {l : List Nat} (h : s.ChangesPorts t l) :
    t.verge.clockLost = s.verge.clockLost := by rw [h.verge]

theorem setPort_changesPorts (s : State) (p : Nat) (v : Port) : s.ChangesPorts (s.setPort p v) [p] :=
  ⟨rfl, fun _ h => port_setPort_other s v (fun e => h (by simp [e]))⟩

theorem portEnter_changesPorts (s : State) (p : Nat) (st : PortState) (v : Port) :
    s.ChangesPorts (s.portEnter p st v) [p] := setPort_changesPorts ..

@[simp] theorem portEnter_state (s : State) (p : Nat) (st : PortState) (v : Port) :
    ((s.portEnter p st v).port p).state = st := by simp [portEnter]

theorem portCts_changesPorts (s : State) (p : Nat) : s.ChangesPorts (s.portCts p) [p] := by
  unfold portCts
  dsimp only
  split
  · exact setPort_changesPorts ..
  · exact .refl ..

@[simp] theorem portCts_state (s : State) (p : Nat) : ((s.portCts p).port p).state = (s.port p).state := by
  unfold portCts
  dsimp only
  split
  · simp
  · rfl

theorem portStart_changesPorts (s : State) (p : Nat) : s.ChangesPorts (s.portStart p) [p] := by
  unfold portStart
  dsimp only
  split
  · split
    · exact portEnter_changesPorts ..
    · exact (portEnter_changesPorts ..).trans (portCts_changesPorts ..) (by simp) (by simp)
  · exact .refl ..

/-- A port whose next frame begins, or waits, stays on (Table 15.1). -/
theorem portStart_state_ne_off (s : State) (p : Nat) (h : (s.port p).state ≠ .off) :
    ((s.portStart p).port p).state ≠ .off := by
  unfold portStart
  dsimp only
  split
  · split <;> simp
  · exact h

theorem portRefuseAll_changesPorts (s : State) (p : Nat) : s.ChangesPorts (s.portRefuseAll p) [p] :=
  setPort_changesPorts ..

theorem portConfigure_changesPorts (s : State) (p : Nat) (config : List Word) :
    s.ChangesPorts (s.portConfigure p config) [p] := by
  unfold portConfigure
  dsimp only
  split
  · exact (portEnter_changesPorts ..).trans (portRefuseAll_changesPorts ..) (by simp) (by simp)
  · exact (portEnter_changesPorts ..).trans (portStart_changesPorts ..) (by simp) (by simp)

/-- A configuration whose MODE is not OFF turns its port on (R364). -/
theorem portConfigure_state_ne_off (s : State) (p : Nat) (config : List Word)
    (h : ({ config := config } : Port).mode ≠ 0) : ((s.portConfigure p config).port p).state ≠ .off := by
  unfold portConfigure
  dsimp only
  split
  · next h0 => exact absurd h0 h
  · exact portStart_state_ne_off _ _ (by simp)

/-! ## The clock locks again (R331, R364) -/

/-- A port takes up its retained configuration. -/
def portResume (s : State) (p : Nat) : State :=
  if (s.port p).mode = 0 then s else s.portConfigure p (s.port p).config

theorem portResume_changesPorts (s : State) (p : Nat) : s.ChangesPorts (s.portResume p) [p] := by
  unfold portResume
  split
  · exact .refl ..
  · exact portConfigure_changesPorts ..

theorem portResume_state_ne_off (s : State) (p : Nat) (h : (s.port p).mode ≠ 0) :
    ((s.portResume p).port p).state ≠ .off := by
  rw [portResume, if_neg h]
  exact portConfigure_state_ne_off s p _ h

theorem foldl_portResume_changesPorts (l : List Nat) (s : State) : s.ChangesPorts (l.foldl portResume s) l := by
  induction l generalizing s with
  | nil => exact .refl ..
  | cons p l ih => exact (portResume_changesPorts s p).trans (ih _) (by simp) (by simp)

/-- Each port resumes once: those before it and after it in the list leave it alone. -/
theorem foldl_portResume_state_ne_off {l : List Nat} (hl : l.Nodup) {p : Nat} (hp : p ∈ l) (s : State)
    (h : (s.port p).mode ≠ 0) : ((l.foldl portResume s).port p).state ≠ .off := by
  induction l generalizing s with
  | nil => simp at hp
  | cons q l ih =>
    obtain ⟨hq, hl⟩ := List.nodup_cons.mp hl
    by_cases hpq : p = q
    · subst hpq
      rw [List.foldl_cons, (foldl_portResume_changesPorts l _).port p hq]
      exact portResume_state_ne_off s p h
    · have hs : (s.portResume q).port p = s.port p := (portResume_changesPorts s q).port p (by simpa using hpq)
      exact ih hl ((List.mem_cons.mp hp).resolve_left hpq) _ (by rwa [hs])

/-- The die has its clock again. -/
def clockFound (s : State) : State := { s with verge := { s.verge with clockLost := false, locked := true } }

@[simp] theorem clockFound_locked (s : State) : s.clockFound.verge.locked = true := rfl
@[simp] theorem clockFound_clockLost (s : State) : s.clockFound.verge.clockLost = false := rfl

/-- VERGE_CDR_LOCK: out of reset, the clock is found and the ports resume. -/
def clockLocks (s : State) : State :=
  if s.start.linkStarted && !s.verge.vf33Low && !s.verge.rstLow && !s.verge.locked then
    (List.range 10).foldl portResume s.clockFound
  else s

theorem clockLocks_of_waiting (s : State) (hs : s.start.linkStarted = true) (hv : s.verge.vf33Low = false)
    (hr : s.verge.rstLow = false) (hl : s.verge.locked = false) :
    s.clockLocks = (List.range 10).foldl portResume s.clockFound := by simp [clockLocks, hs, hv, hr, hl]

/-! ## Resets (R48, R331, R547) -/

/-- The cause that stands after a reset with a cause: within a reset the lowest code stands (Table 2.10, R547). -/
def resetCause (s : State) (cause : Nat) : Nat :=
  if (s.verge.vf33Low || s.verge.rstLow || s.verge.clockLost) && decide (s.verge.cause ≠ 0) then min s.verge.cause cause
  else cause

theorem resetCause_le (s : State) (cause : Nat) : s.resetCause cause ≤ cause := by
  unfold resetCause
  split <;> omega

theorem resetCause_one (s : State) : s.resetCause 1 = 1 := by
  unfold resetCause
  split
  · next h =>
    simp only [Bool.and_eq_true, decide_eq_true_eq] at h
    omega
  · rfl

theorem resetCause_of_running (s : State) (cause : Nat) (hv : s.verge.vf33Low = false) (hr : s.verge.rstLow = false)
    (hc : s.verge.clockLost = false) : s.resetCause cause = cause := by simp [resetCause, hv, hr, hc]

@[simp] theorem vergeReset_vf33Low (s : State) (cause : Nat) (v : VergeUnit) :
    (s.vergeReset cause v).verge.vf33Low = v.vf33Low := rfl
@[simp] theorem vergeReset_rstLow (s : State) (cause : Nat) (v : VergeUnit) :
    (s.vergeReset cause v).verge.rstLow = v.rstLow := rfl
@[simp] theorem vergeReset_clockLost (s : State) (cause : Nat) (v : VergeUnit) :
    (s.vergeReset cause v).verge.clockLost = v.clockLost := rfl
@[simp] theorem vergeReset_locked (s : State) (cause : Nat) (v : VergeUnit) :
    (s.vergeReset cause v).verge.locked = false := rfl
@[simp] theorem vergeReset_resetFlag (s : State) (cause : Nat) (v : VergeUnit) :
    (s.vergeReset cause v).verge.resetFlag = true := rfl
@[simp] theorem vergeReset_cause (s : State) (cause : Nat) (v : VergeUnit) :
    (s.vergeReset cause v).verge.cause = s.resetCause cause := rfl

/-- What a reset leaves of a port: the loss of the clock alone keeps its configuration (R364). -/
def resetPort (s : State) (cause p : Nat) : Port :=
  { config := if s.resetCause cause = 3 then (s.port p).config else [] }

theorem vergeReset_ports (s : State) (cause : Nat) (v : VergeUnit) :
    (s.vergeReset cause v).verge.ports =
      ((List.range 10).map (fun p => (p, s.resetPort cause p))).filter (fun e => decide (e.2 ≠ ({} : Port))) := rfl

theorem vergeReset_port (s : State) (cause : Nat) (v : VergeUnit) (p : Nat) :
    (s.vergeReset cause v).port p = if p < 10 then s.resetPort cause p else {} := by
  rw [port, vergeReset_ports, tabGet_filter_map]
  simp only [List.mem_range]

theorem vergeReset_port_of_cause_ne (s : State) {cause : Nat} (v : VergeUnit) (p : Nat) (h : s.resetCause cause ≠ 3) :
    (s.vergeReset cause v).port p = {} := by simp [vergeReset_port, resetPort, h]

end State

/-! ## The commands -/

theorem vf33Loss_resets (s : State) (h : s.verge.vf33Low = false) :
    ∃ t, exec .vf33Loss s = .next t ∧ t.verge.vf33Low = true ∧ t.verge.locked = false ∧ t.verge.resetFlag = true ∧
      t.verge.cause = 1 ∧ ∀ p, t.port p = {} := by
  refine ⟨_, rfl, ?_⟩
  simp [h, State.resetCause_one, State.vergeReset_port_of_cause_ne]

theorem fieldRstN_long_resets (lowNs : Nat) (s : State) (h : s.verge.rstLow = false) (hl : 1000 ≤ lowNs) :
    ∃ t, exec (.fieldRstN lowNs) s = .next t ∧ t.verge.rstLow = true ∧ t.verge.locked = false ∧
      t.verge.resetFlag = true ∧ ∀ p, t.port p = {} := by
  have hc (s : State) : s.resetCause 2 ≠ 3 := by have := s.resetCause_le 2; omega
  refine ⟨_, rfl, ?_⟩
  simp [h, hl, show ¬ lowNs < 100 by omega, State.vergeReset_port_of_cause_ne _ _ _ (hc _)]

/-- A low shorter than 0.1 µs leaves the parts that FIELD_RST_N may change as they were (R547). -/
theorem fieldRstN_short_onlyObservers (lowNs : Nat) (s : State) (hl : lowNs < 100) :
    ∃ t, exec (.fieldRstN lowNs) s = .next t ∧ s.onlyChanges t observers := by
  refine ⟨_, rfl, fun p hp => ?_⟩
  by_cases hw : p ∈ [Part.free, .cway, .verge]
  · simp only [List.mem_cons, List.not_mem_nil, or_false] at hw
    obtain rfl | rfl | rfl := hw <;> simp [State.same, hl]
  · exact actState_onlyChanges _ s _ p (List.mem_append.not.mpr (not_or.mpr ⟨hw, hp⟩))

theorem vergeClockLoss_keeps_config (s : State) (hc : s.verge.clockLost = false) (hv : s.verge.vf33Low = false)
    (hr : s.verge.rstLow = false) :
    ∃ t, exec .vergeClockLoss s = .next t ∧ t.verge.clockLost = true ∧ t.verge.locked = false ∧
      t.verge.resetFlag = true ∧ t.verge.cause = 3 ∧ ∀ p, p < 10 → t.port p = { config := (s.port p).config } := by
  have h3 : s.clear.resetCause 3 = 3 := s.clear.resetCause_of_running 3 hv hr hc
  refine ⟨_, rfl, ?_⟩
  simp +contextual [hc, h3, State.vergeReset_port, State.resetPort]

theorem exec_vergeCdrLock (s : State) : exec .vergeCdrLock s = act [.verge] s State.clockLocks := rfl

theorem vergeCdrLock_resumes_ports (s : State) (hs : s.start.linkStarted = true) (hv : s.verge.vf33Low = false)
    (hr : s.verge.rstLow = false) (hl : s.verge.locked = false) :
    ∃ t, exec .vergeCdrLock s = .next t ∧ t.verge.locked = true ∧ t.verge.clockLost = false ∧
      ∀ p, p < 10 → (s.port p).mode ≠ 0 → (t.port p).state ≠ .off := by
  have hf : s.clear.clockLocks = (List.range 10).foldl State.portResume s.clear.clockFound :=
    s.clear.clockLocks_of_waiting hs hv hr hl
  have hc := State.foldl_portResume_changesPorts (List.range 10) s.clear.clockFound
  refine ⟨_, exec_vergeCdrLock s, ?_, ?_, fun p hp hm => ?_⟩
  · simpa [hf] using hc.locked
  · simpa [hf] using hc.clockLost
  · simpa [hf] using State.foldl_portResume_state_ne_off List.nodup_range (List.mem_range.mpr hp) s.clear.clockFound hm

/-- Settles O13: a reset rebuilds every port from the configuration that its cause keeps, and with the clock locked again each
configured port resumes. -/
theorem vergeResetsComplete : Obligations.VergeResetsComplete := by
  unfold Obligations.VergeResetsComplete
  refine ⟨fun s h => ?_, fun s => ⟨_, rfl, by simp⟩, fun lowNs s h hl => ?_,
    fun lowNs s _ hl => fieldRstN_short_onlyObservers lowNs s hl, fun s => ⟨_, rfl, by simp⟩, vergeClockLoss_keeps_config,
    vergeCdrLock_resumes_ports⟩
  · obtain ⟨t, ht, hlow, hlock, hflag, hcause, hport⟩ := vf33Loss_resets s h
    exact ⟨t, ht, hlow, hlock, hflag, hcause, by simp [hport], by simp [hport]⟩
  · obtain ⟨t, ht, hlow, hlock, hflag, hport⟩ := fieldRstN_long_resets lowNs s h hl
    exact ⟨t, ht, hlow, hlock, hflag, by simp [hport], by simp [hport]⟩

end Sys2Proof.Machine

namespace Sys2Proof.Machine

/-! ## Every command answers a next state -/

/-- Settles O51: every command is an `act`, and an `act` answers a next state whatever its effect is. That a command which
cannot happen is answered at all, with no effect, is the model's choice (notes/assumptions/7). -/
theorem everyCommandCompletes : Obligations.EveryCommandCompletes := fun c s =>
  let ⟨_, hf⟩ := exec_eq_act_writes c s
  ⟨_, hf⟩

/-! ## The state after reset -/

theorem State.reset_otpSound : State.reset.otpSound = true := by decide

/-- As power comes on no slot is listed, and every slot of a use reads the EMPTY that the register begins with (R141). -/
theorem State.reset_slot (n : Nat) : State.reset.slot n = {} := by
  by_cases h : slotUse n = 0 <;> simp [State.slot, State.reset, tabGet]

theorem State.reset_queue (q : Nat) : State.reset.queue q = {} := rfl

/-- Settles O53: the values with which the fields of the state begin. -/
theorem resetIsSound : Obligations.ResetIsSound := by
  refine ⟨rfl, rfl, rfl, rfl, rfl, State.reset_otpSound, fun n => ?_, fun q => ?_, rfl, rfl, rfl⟩
  · rw [State.reset_slot]
  · rw [State.reset_queue]

end Sys2Proof.Machine

namespace Sys2Proof.Machine

/-! ## The host section resets, and a start begins (R58 to R62) -/

namespace State

@[simp] theorem hostReset_now (s : State) (cause : Nat) : (s.hostReset cause).now = s.now := rfl
@[simp] theorem hostReset_pins (s : State) (cause : Nat) : (s.hostReset cause).pins = s.pins := rfl
@[simp] theorem hostReset_start (s : State) (cause : Nat) : (s.hostReset cause).start = {} := rfl
@[simp] theorem hostReset_otp (s : State) (cause : Nat) : (s.hostReset cause).otp = s.otp := rfl
@[simp] theorem hostReset_keys (s : State) (cause : Nat) :
    (s.hostReset cause).keys = { defective := s.keys.defective } := rfl
@[simp] theorem hostReset_jun (s : State) (cause : Nat) : (s.hostReset cause).jun = {} := rfl
@[simp] theorem hostReset_lanes (s : State) (cause : Nat) : (s.hostReset cause).lanes = [] := rfl
@[simp] theorem hostReset_tenants (s : State) (cause : Nat) : (s.hostReset cause).tenants = [] := rfl
@[simp] theorem hostReset_sp (s : State) (cause : Nat) : (s.hostReset cause).sp = {} := rfl

@[simp] theorem beginStart_start (s : State) (cause capture : Nat) :
    (s.beginStart cause capture).start =
      { begun := true, phase := 1, captures := 1, capture := some capture, cause := cause, t0 := s.now } := rfl
@[simp] theorem beginStart_pins (s : State) (cause capture : Nat) :
    (s.beginStart cause capture).pins = { s.pins with railWarn := 0 } := rfl
@[simp] theorem beginStart_otp (s : State) (cause capture : Nat) : (s.beginStart cause capture).otp = s.otp := rfl
@[simp] theorem beginStart_lanes (s : State) (cause capture : Nat) : (s.beginStart cause capture).lanes = s.lanes := rfl
@[simp] theorem beginStart_tenants (s : State) (cause capture : Nat) :
    (s.beginStart cause capture).tenants = s.tenants := rfl

@[simp] theorem programmed_now (s : State) (l : List (Fin 3 × List Byte)) : (s.programmed l).now = s.now := rfl
@[simp] theorem programmed_pins (s : State) (l : List (Fin 3 × List Byte)) : (s.programmed l).pins = s.pins := rfl
@[simp] theorem programmed_start (s : State) (l : List (Fin 3 × List Byte)) : (s.programmed l).start = s.start := rfl

end State

/-! ## The pins and supplies of the host -/

/-- With every rail up the release begins a start, whose cause is that of the reset which it ends (R58, R62). -/
theorem hostRstNRelease_begins (v : Bool) (capture : PufState) (programmed : List (Fin 3 × List Byte)) (s : State)
    (h : s.pins.hostRstLow = true) :
    ∃ t, exec (.hostRstNRelease v 0 capture programmed) s = .next t ∧
      t.start =
        { begun := true, phase := 1, captures := 1, capture := some capture.toNat, cause := s.pins.resetCause, t0 := s.now } ∧
      t.pins = { s.pins with hostRstLow := false, nvmVsel := v, railLow := 0, railWarn := 0 } := by
  refine ⟨_, rfl, ?_⟩
  simp [h]

/-- With a rail low the host stays in reset (R45). -/
theorem hostRstNRelease_holds (v : Bool) (low : BitVec 7) (capture : PufState) (programmed : List (Fin 3 × List Byte))
    (s : State) (h : s.pins.hostRstLow = true) (hlow : low ≠ 0) :
    ∃ t, exec (.hostRstNRelease v low capture programmed) s = .next t ∧ t.start = s.start ∧
      t.pins = { s.pins with hostRstLow := false, nvmVsel := v, railLow := low.toNat } := by
  have h0 : ¬ low = 0#7 := hlow
  refine ⟨_, rfl, ?_⟩
  simp [h, h0]

theorem hostRstNAssertion_resets (lowNs : Nat) (s : State) (h : s.pins.hostRstLow = false) (hl : 300 ≤ lowNs) :
    ∃ t, exec (.hostRstNAssertion lowNs) s = .next t ∧
      t.pins = { s.pins with hostRstLow := true, resetCause := 1 } ∧ t.start = {} ∧ t.lanes = [] ∧ t.tenants = [] ∧
      t.keys = { defective := s.keys.defective } ∧ t.sp = {} ∧ t.otp = s.otp ∧ t.verge = s.verge ∧ t.toll = s.toll := by
  refine ⟨_, rfl, ?_⟩
  simp [h, hl, show ¬ lowNs < 100 by omega]

/-- A low shorter than 0.1 µs is ignored (R546): the effect is none, so every part that an assertion may change stands. -/
theorem hostRstNAssertion_short_onlyObservers (lowNs : Nat) (s : State) (hl : lowNs < 100) :
    ∃ t, exec (.hostRstNAssertion lowNs) s = .next t ∧ s.onlyChanges t observers := by
  refine ⟨_, rfl, fun p hp => ?_⟩
  cases p <;> simp_all [State.same, observers]

theorem supplyWarning_flags (rail : Fin 7) (s : State) :
    ∃ t, exec (.supplyWarning rail) s = .next t ∧
      t.pins = { s.pins with railWarn := s.pins.railWarn ||| 2 ^ rail.val } := ⟨_, rfl, by simp⟩

/-- The last low rail recovers while HOST_RST_N is high: the host starts again at once (R45, R58). -/
theorem supplyMonitorReset_recovers_begins (rail : Fin 7) (capture : PufState) (s : State) (h : s.pins.hostRstLow = false)
    (hr : railsAfter s.pins.railLow rail.val .recovers = 0) :
    ∃ t, exec (.supplyMonitorReset rail .recovers capture) s = .next t ∧
      t.start = { begun := true, phase := 1, captures := 1, capture := some capture.toNat, cause := 2, t0 := s.now } ∧
      t.lanes = [] ∧ t.tenants = [] ∧ t.otp = s.otp ∧ t.verge = s.verge ∧ t.toll = s.toll := by
  refine ⟨_, rfl, ?_⟩
  simp [h, hr]

theorem railsAfter_stays_testBit (low rail : Nat) : (railsAfter low rail .stays).testBit rail = true := by
  simp [railsAfter]

/-- While the rail stays low no start begins (R45). -/
theorem supplyMonitorReset_stays_holds (rail : Fin 7) (capture : PufState) (s : State) :
    ∃ t, exec (.supplyMonitorReset rail .stays capture) s = .next t ∧ t.start = {} ∧ t.lanes = [] ∧ t.tenants = [] ∧
      t.pins.railLow.testBit rail.val = true ∧ t.otp = s.otp ∧ t.toll = s.toll := by
  have hbit := railsAfter_stays_testBit s.pins.railLow rail.val
  have h0 : railsAfter s.pins.railLow rail.val .stays ≠ 0 := fun h => by simp [h] at hbit
  refine ⟨_, rfl, ?_⟩
  simp [h0, hbit]

/-- After a loss of power the next start waits for a release of HOST_RST_N, and its cause is power-up. -/
theorem supplyMonitorReset_powerLost_waits (rail : Fin 7) (capture : PufState) (s : State) :
    ∃ t, exec (.supplyMonitorReset rail .powerLost capture) s = .next t ∧ t.start = {} ∧ t.pins.hostRstLow = true ∧
      t.pins.resetCause = 0 ∧ t.verge = s.verge ∧ t.toll = s.toll := by
  refine ⟨_, rfl, ?_⟩
  simp

theorem xoInRuns_runs (s : State) : ∃ t, exec .xoInRuns s = .next t ∧ t.pins = { s.pins with xoRuns := true } :=
  ⟨_, rfl, by simp⟩

theorem mportLinkUp_sets (s : State) (hb : s.start.begun = true) (hp : 2 ≤ s.start.phase) :
    ∃ t, exec .mportLinkUp s = .next t ∧ t.start = { s.start with mportUp := true } := by
  refine ⟨_, rfl, ?_⟩
  simp [hb, hp]

theorem mportLinkDown_clears (s : State) :
    ∃ t, exec .mportLinkDown s = .next t ∧ t.start = { s.start with mportUp := false } := ⟨_, rfl, by simp⟩

/-- Settles O1, one lemma for each command of the pins and supplies. What the supply monitor's outcomes leave is the model's
choice (notes/assumptions/19 and 21). -/
theorem pinsAndSuppliesComplete : Obligations.PinsAndSuppliesComplete := by
  unfold Obligations.PinsAndSuppliesComplete
  exact ⟨hostRstNRelease_begins, hostRstNRelease_holds, hostRstNAssertion_resets,
    fun lowNs s _ hl => hostRstNAssertion_short_onlyObservers lowNs s hl, supplyWarning_flags,
    supplyMonitorReset_recovers_begins, supplyMonitorReset_stays_holds, supplyMonitorReset_powerLost_waits, xoInRuns_runs,
    mportLinkUp_sets, mportLinkDown_clears⟩

end Sys2Proof.Machine

namespace Sys2Proof.Machine

/-- What every step of a fold leaves as it is, the fold leaves as it is. -/
theorem foldl_keeps {σ α β : Type} (g : σ → β) (f : σ → α → σ) (hf : ∀ s x, g (f s x) = g s) (l : List α) (s : σ) :
    g (l.foldl f s) = g s := by
  induction l generalizing s with
  | nil => rfl
  | cons x l ih => rw [List.foldl_cons, ih, hf]

namespace State

/-! ## The OTP (R123, R124) -/

theorem otpWord_blow_same (s : State) (w m : Nat) : (s.blow w m).otpWord w = s.otpWord w ||| m := by
  simp [otpWord, blow]

theorem otpWord_blow_other (s : State) {w v : Nat} (m : Nat) (h : w ≠ v) : (s.blow w m).otpWord v = s.otpWord v := by
  simp [otpWord, blow, h]

/-- A blown fuse stays blown (R123). -/
theorem testBit_otpWord_blow {s : State} {v i : Nat} (w m : Nat) (h : (s.otpWord v).testBit i = true) :
    ((s.blow w m).otpWord v).testBit i = true := by
  by_cases hw : w = v
  · subst hw
    simp [otpWord_blow_same, h]
  · rwa [otpWord_blow_other s m hw]

/-- A rung is done when either fuse of its done pair is blown (R124). -/
theorem rungDone_iff_testBit (s : State) (l : Ladder) (k : Nat) :
    s.rungDone l k = true ↔ (s.otpWord (l.word k)).testBit (4 * ((k - 1) % 4)) = true ∨
      (s.otpWord (l.word k)).testBit (4 * ((k - 1) % 4) + 1) = true := by
  rw [rungDone, decide_eq_true_eq, rungBits]
  simp only [Nat.testBit_eq_decide_div_mod_eq, decide_eq_true_eq, Nat.pow_succ, ← Nat.div_div_eq_div_mul]
  generalize s.otpWord (l.word k) / 2 ^ (4 * ((k - 1) % 4)) = x
  omega

theorem rungDone_blowRung_of_rungDone {s : State} {l : Ladder} {k : Nat} (l' : Ladder) (k' m : Nat)
    (h : s.rungDone l k = true) : (s.blowRung l' k' m).rungDone l k = true := by
  rw [rungDone_iff_testBit] at h ⊢
  exact h.imp (testBit_otpWord_blow _ _) (testBit_otpWord_blow _ _)

theorem rungDone_blowRung_done (s : State) (l : Ladder) (k : Nat) : (s.blowRung l k 3).rungDone l k = true := by
  rw [rungDone_iff_testBit, blowRung, otpWord_blow_same]
  simp [Nat.testBit_mul_two_pow]

theorem rungDone_congr {s t : State} (h : t.otp = s.otp) (l : Ladder) (k : Nat) : t.rungDone l k = s.rungDone l k := by
  simp [rungDone, rungBits, otpWord, h]

theorem lcState_congr {s t : State} (h : t.otp = s.otp) : t.lcState = s.lcState := by
  simp only [lcState, rungDone_congr h]

theorem pendingRungs_congr {s t : State} (h : t.otp = s.otp) : t.pendingRungs = s.pendingRungs := by
  have hi : t.rungIntent = s.rungIntent := by funext l k; simp [rungIntent, rungBits, otpWord, h]
  have hd : t.rungDone = s.rungDone := by funext l k; exact rungDone_congr h l k
  simp only [pendingRungs, rungsTouched, h, hi, hd]

/-! ## The end of a start -/

theorem startPress_eq (s : State) : s.startPress = { s with cus := s.startPress.cus } := by
  unfold startPress
  split <;> rfl

@[simp] theorem startPress_start (s : State) : s.startPress.start = s.start := by rw [startPress_eq]
@[simp] theorem startPress_otp (s : State) : s.startPress.otp = s.otp := by rw [startPress_eq]
@[simp] theorem startPress_keys (s : State) : s.startPress.keys = s.keys := by rw [startPress_eq]
@[simp] theorem startPress_image (s : State) : s.startPress.image = s.image := by rw [startPress_eq]

@[simp] theorem startPress_startState (s : State) : s.startPress.cus.startState = s.cus.startState := by
  unfold startPress
  split <;> rfl

@[simp] theorem endStart_start (s : State) (o : StartOutcome) :
    (s.endStart o).start = { s.start with outcome := o, tEnd := some s.now } := by simp [endStart]
@[simp] theorem endStart_otp (s : State) (o : StartOutcome) : (s.endStart o).otp = s.otp := by simp [endStart]
@[simp] theorem endStart_keys (s : State) (o : StartOutcome) : (s.endStart o).keys = s.keys := by simp [endStart]
@[simp] theorem endStart_image (s : State) (o : StartOutcome) : (s.endStart o).image = s.image := by simp [endStart]
@[simp] theorem endStart_startState (s : State) (o : StartOutcome) :
    (s.endStart o).cus.startState = s.cus.startState := by simp [endStart]

/-! ## Step 4 -/

@[simp] theorem afterStep4_otp (s : State) : s.afterStep4.otp = s.otp := by
  unfold afterStep4
  dsimp only
  split <;> simp

@[simp] theorem afterStep4_startState (s : State) : s.afterStep4.cus.startState = s.lcState := by
  unfold afterStep4
  dsimp only
  split <;> simp

@[simp] theorem afterStep4_fwdDone (s : State) : s.afterStep4.start.fwdDone = s.start.fwdDone := by
  unfold afterStep4
  dsimp only
  split <;> simp

/-- In every state but RETIRED the start goes past step 4 (Table 3.2). -/
theorem afterStep4_phase (s : State) (h : s.lcState ≠ .retired) : s.afterStep4.start.phase = 4 := by
  unfold afterStep4
  dsimp only
  split <;> simp_all

/-- A pending rung is completed, both fuses of its done pair verified (R64, R125). -/
def rungCompletes (s : State) (l : Ladder) (k : Nat) : State :=
  let s := { s with cus := { s.cus with pend := some (l, k) } }.blowRung l k 3
  { s with start := { s.start with fwdDone := true } }.emitDev 0o010001

theorem completeForward_cons (l : Ladder) (k : Nat) (rest : List (Ladder × Nat)) (fs : List (Bool × Bool)) (s : State)
    (h : fs.headD (true, true) = (true, true)) :
    completeForward ((l, k) :: rest) fs s = completeForward rest fs.tail (s.rungCompletes l k) := by
  rw [completeForward]
  simp only [h]
  rfl

@[simp] theorem rungCompletes_fwdDone (s : State) (l : Ladder) (k : Nat) : (s.rungCompletes l k).start.fwdDone = true := by
  simp [rungCompletes]

theorem rungDone_rungCompletes_same (s : State) (l : Ladder) (k : Nat) : (s.rungCompletes l k).rungDone l k = true := by
  rw [← rungDone_blowRung_done s l k]
  exact rungDone_congr (by simp [rungCompletes, blowRung, blow, otpWord]) l k

theorem rungDone_rungCompletes_of_rungDone {s : State} {l' : Ladder} {k' : Nat} (l : Ladder) (k : Nat)
    (h : s.rungDone l' k' = true) : (s.rungCompletes l k).rungDone l' k' = true := by
  rw [← rungDone_blowRung_of_rungDone l k 3 h]
  exact rungDone_congr (by simp [rungCompletes, blowRung, blow, otpWord]) l' k'

/-- What a forward completion whose fuses all verify leaves. -/
structure ForwardCompleted (l : List (Ladder × Nat)) (s t : State) : Prop where
  startState : t.cus.startState = t.lcState
  fwdDone : l ≠ [] ∨ s.start.fwdDone = true → t.start.fwdDone = true
  kept : ∀ l' k, s.rungDone l' k = true → t.rungDone l' k = true
  done : ∀ p ∈ l, t.rungDone p.1 p.2 = true

theorem completeForward_forwardCompleted (l : List (Ladder × Nat)) (fs : List (Bool × Bool)) (s : State)
    (h : fs.all (fun f => f.1 && f.2) = true) : ForwardCompleted l s (completeForward l fs s) := by
  induction l generalizing fs s with
  | nil =>
    refine ⟨?_, ?_, fun l' k hk => ?_, by simp⟩
    · rw [completeForward, afterStep4_startState]
      exact (lcState_congr (afterStep4_otp _)).symm
    · simp [completeForward]
    · rw [← hk]
      exact rungDone_congr (by simp [completeForward]) l' k
  | cons p rest ih =>
    obtain ⟨l, k⟩ := p
    obtain ⟨hhead, htail⟩ : fs.headD (true, true) = (true, true) ∧ fs.tail.all (fun f => f.1 && f.2) = true := by
      cases fs <;> simp_all [Prod.ext_iff]
    rw [completeForward_cons l k rest fs s hhead]
    obtain ⟨hst, hfwd, hkept, hdone⟩ := ih fs.tail (s.rungCompletes l k) htail
    refine ⟨hst, fun _ => hfwd (.inr (by simp)), fun l' k' hk => hkept l' k' (rungDone_rungCompletes_of_rungDone l k hk), ?_⟩
    rintro q hq
    obtain rfl | hq := List.mem_cons.mp hq
    · exact hkept l k (rungDone_rungCompletes_same s l k)
    · exact hdone q hq

/-! ## The wipe of the register (R146) -/

/-- Every slot is EMPTY; the slots that fail the wipe are not yet known. -/
def registerWiped (s : State) (failing : List Nat) : State :=
  { s with keys := { s.keys with
    slots := [], base := {}, cache := [], derivations := [], root := none, rootValue := 0, bindPub := 0, zheacPub := 0,
    destroys := [], defective := failing.filter (fun n => decide (n < 69632)) } }

/-- A slot fails the wipe. -/
def wipeFails (s : State) (n : Nat) : State :=
  let s := s.setSlot n { state := .fault }
  { s with keys := { s.keys with destroyFails := satInc 18 s.keys.destroyFails } }.emitOwn 0o044005 0 0 n

theorem wipeAll_eq (s : State) (failing : List Nat) :
    s.wipeAll failing = (failing.filter (fun n => decide (n < 69632))).foldl wipeFails (s.registerWiped failing) := rfl

@[simp] theorem wipeFails_start (s : State) (n : Nat) : (s.wipeFails n).start = s.start := by simp [wipeFails]
@[simp] theorem wipeFails_jun (s : State) (n : Nat) : (s.wipeFails n).jun = s.jun := by simp [wipeFails]
@[simp] theorem wipeFails_base (s : State) (n : Nat) : (s.wipeFails n).keys.base = s.keys.base := by
  simp [wipeFails, setSlot]

theorem slot_wipeFails (s : State) (n m : Nat) (hb : s.keys.base = {}) :
    (s.wipeFails n).slot m = if n = m then { state := .fault } else s.slot m := by
  by_cases h : n = m
  · subst h
    simp [wipeFails, slot, setSlot, hb]
  · simp [wipeFails, slot, setSlot, hb, h]

theorem slot_foldl_wipeFails (l : List Nat) (s : State) (m : Nat) (hb : s.keys.base = {}) :
    (l.foldl wipeFails s).slot m = if m ∈ l then { state := .fault } else s.slot m := by
  induction l generalizing s with
  | nil => simp
  | cons n l ih =>
    rw [List.foldl_cons, ih _ (by simp [hb]), slot_wipeFails s n m hb]
    by_cases hm : m ∈ l <;> simp [hm, eq_comm]

@[simp] theorem wipeAll_start (s : State) (failing : List Nat) : (s.wipeAll failing).start = s.start :=
  foldl_keeps State.start _ wipeFails_start _ _
@[simp] theorem wipeAll_jun (s : State) (failing : List Nat) : (s.wipeAll failing).jun = s.jun :=
  foldl_keeps State.jun _ wipeFails_jun _ _

theorem slot_wipeAll (s : State) (failing : List Nat) (n : Nat) :
    (s.wipeAll failing).slot n = if n ∈ failing ∧ n < 69632 then { state := .fault } else {} := by
  rw [wipeAll_eq, slot_foldl_wipeFails _ _ _ rfl]
  simp [slot, registerWiped, tabGet]

@[simp] theorem startCauseway_start (s : State) :
    s.startCauseway.start = { s.start with linkStarted := true } := rfl
@[simp] theorem startCauseway_jun (s : State) : s.startCauseway.jun = s.jun := rfl
@[simp] theorem startCauseway_slot (s : State) (n : Nat) : s.startCauseway.slot n = s.slot n := rfl

/-! ## Installs and the keys of the root -/

@[simp] theorem installKey_start (s : State) (n v : Nat) : (s.installKey n v).start = s.start := by
  unfold installKey
  split <;> simp [keyRecord]
@[simp] theorem installKey_cus (s : State) (n v : Nat) : (s.installKey n v).cus = s.cus := by
  unfold installKey
  split <;> simp [keyRecord]
@[simp] theorem installKey_root (s : State) (n v : Nat) : (s.installKey n v).keys.root = s.keys.root := by
  unfold installKey
  split <;> simp [keyRecord, setSlot]
@[simp] theorem installKey_rootValue (s : State) (n v : Nat) :
    (s.installKey n v).keys.rootValue = s.keys.rootValue := by
  unfold installKey
  split <;> simp [keyRecord, setSlot]

@[simp] theorem deriveKeys_start (s : State) (k : Nat) : (s.deriveKeys k).start = s.start := by
  unfold deriveKeys
  dsimp only
  split <;> split <;> simp
@[simp] theorem deriveKeys_cus (s : State) (k : Nat) : (s.deriveKeys k).cus = s.cus := by
  unfold deriveKeys
  dsimp only
  split <;> split <;> simp
@[simp] theorem deriveKeys_root (s : State) (k : Nat) : (s.deriveKeys k).keys.root = some s.cus.startState := by
  unfold deriveKeys
  dsimp only
  split <;> split <;> simp
theorem deriveKeys_rootValue (s : State) (k : Nat) :
    (s.deriveKeys k).keys.rootValue = kdf384 (beBytes 48 k) "KR1856-ROOT" (rootContext s.cus.startState) 384 := by
  unfold deriveKeys
  dsimp only
  split <;> split <;> simp

end State
end Sys2Proof.Machine

namespace Sys2Proof.Machine

@[simp] theorem actState_slot (ps : List Part) (s : State) (f : State → State) (n : Nat) :
    (actState ps s f).slot n = if ps.contains .keys then (f s.clear).slot n else s.slot n := by
  by_cases h : ps.contains .keys = true <;> simp only [State.slot, actState_keys, h] <;> rfl

@[simp] theorem State.clear_startAt (s : State) (p : Nat) : s.clear.startAt p = s.startAt p := rfl
@[simp] theorem State.clear_lcState (s : State) : s.clear.lcState = s.lcState := rfl
@[simp] theorem State.clear_pendingRungs (s : State) : s.clear.pendingRungs = s.pendingRungs := rfl
@[simp] theorem State.clear_secret (s : State) : s.clear.secret = s.secret := rfl

/-- The state in which OTP_READ has read the life-cycle state and the pending rungs (R61, R124). -/
def State.otpRead (s : State) : State :=
  { s with
    start := { s.start with phase := 3 }
    cus := { s.cus with startState := s.lcState, pend := s.pendingRungs.head? } }

theorem exec_otpRead (s : State) : exec .otpRead s =
    act [.start, .cus] s (fun s =>
      if s.startAt 2 then (if s.pendingRungs.isEmpty then s.otpRead.afterStep4 else s.otpRead) else s) := rfl

theorem rootApllLocked_wipes (failing : List Nat) (s : State) (h : s.startAt 1 = true) (hx : s.pins.xoRuns = true) :
    ∃ t, exec (.rootApllLocked failing) s = .next t ∧
      t.start = { s.start with phase := 2, linkStarted := true } ∧ t.jun = { s.jun with since := s.now } ∧
      ∀ n, t.slot n = if n ∈ failing ∧ n < 69632 then { state := .fault } else {} := by
  refine ⟨_, rfl, ?_⟩
  simp [h, hx, State.slot_wipeAll]

theorem otpRead_unpended (s : State) (h : s.startAt 2 = true) (hp : s.pendingRungs = []) (hl : s.lcState ≠ .retired) :
    ∃ t, exec .otpRead s = .next t ∧ t.cus.startState = s.lcState ∧ t.start.phase = 4 := by
  have hr : s.clear.otpRead.lcState = s.lcState := rfl
  refine ⟨_, exec_otpRead s, ?_, ?_⟩
  · simp [h, hp, hr]
  · simpa [h, hp] using State.afterStep4_phase s.clear.otpRead hl

theorem otpRead_pended (s : State) (h : s.startAt 2 = true) (hp : s.pendingRungs ≠ []) :
    ∃ t, exec .otpRead s = .next t ∧ t.cus.startState = s.lcState ∧ t.cus.pend = s.pendingRungs.head? ∧
      t.start = { s.start with phase := 3 } := by
  refine ⟨_, exec_otpRead s, ?_⟩
  simp [h, hp, State.otpRead]

theorem forwardCompletion_completes (fuses : List (Bool × Bool)) (s : State) (h : s.startAt 3 = true)
    (hp : s.pendingRungs ≠ []) (hf : fuses.all (fun f => f.1 && f.2) = true) :
    ∃ t, exec (.forwardCompletion fuses) s = .next t ∧ t.cus.startState = t.lcState ∧ t.start.fwdDone = true ∧
      ∀ p ∈ s.pendingRungs, t.rungDone p.1 p.2 = true := by
  obtain ⟨hst, hfwd, -, hdone⟩ := State.completeForward_forwardCompleted s.pendingRungs fuses s.clear hf
  refine ⟨_, rfl, ?_, ?_, fun p hm => ?_⟩
  · rw [State.lcState_congr (by simp [h, hp] : _ = (State.completeForward s.pendingRungs fuses s.clear).otp)]
    simpa [h, hp] using hst
  · simpa [h, hp] using hfwd (.inl hp)
  · rw [State.rungDone_congr (by simp [h, hp] : _ = (State.completeForward s.pendingRungs fuses s.clear).otp)]
    exact hdone p hm

theorem pufRereadout_captures (capture : PufState) (s : State) (h : s.startAt 4 = true) (hr : s.start.reReadout = true) :
    ∃ t, exec (.pufRereadout capture) s = .next t ∧
      t.start = { s.start with
        captures := s.start.captures + 1, reReadout := false, capture := some capture.toNat } := by
  refine ⟨_, rfl, ?_⟩
  simp [h, hr]

theorem rootDerived_derives (k : Nat) (s : State) (h : s.startAt 4 = true) (hr : s.start.reReadout = false)
    (hk : s.secret = some k) :
    ∃ t, exec .rootDerived s = .next t ∧ t.keys.root = some s.cus.startState ∧
      t.keys.rootValue = kdf384 (beBytes 48 k) "KR1856-ROOT" (rootContext s.cus.startState) 384 ∧ t.start.phase = 5 ∧
      t.start.capture = none ∧ t.start.root = if s.start.captures ≤ 1 then 1 else 2 := by
  refine ⟨_, rfl, ?_⟩
  simp [h, hr, hk]
  by_cases ht : s.cus.startState = .test <;> simp [ht, State.deriveKeys_rootValue] <;> rfl

theorem rootDerived_rereads (s : State) (h : s.startAt 4 = true) (hr : s.start.reReadout = false)
    (hk : s.secret = none) (hn : s.start.captures < 4) :
    ∃ t, exec .rootDerived s = .next t ∧ t.start = { s.start with reReadout := true } ∧ t.keys = s.keys := by
  refine ⟨_, rfl, ?_⟩
  simp [h, hr, hk, show ¬ 4 ≤ s.start.captures by omega]

theorem rootDerived_strands (s : State) (h : s.startAt 4 = true) (hr : s.start.reReadout = false)
    (hk : s.secret = none) (hn : 4 ≤ s.start.captures) :
    ∃ t, exec .rootDerived s = .next t ∧ t.start.outcome = .stranded ∧ t.start.root = 3 ∧ t.start.capture = none ∧
      t.keys = s.keys := by
  refine ⟨_, rfl, ?_⟩
  simp [h, hr, hk, hn]

/-- Settles O2, one lemma for each command of steps 2 to 5 and each branch of what it finds. -/
theorem startStepsToRootComplete : Obligations.StartStepsToRootComplete :=
  ⟨rootApllLocked_wipes, otpRead_unpended, otpRead_pended, forwardCompletion_completes, pufRereadout_captures,
    rootDerived_derives, rootDerived_rereads, rootDerived_strands⟩

end Sys2Proof.Machine

namespace Sys2Proof.Machine

/-! ## An APPLY that still stands at step 7 -/

/-- An image without any section. -/
def emptyImage : Image :=
  { rung := 0, release := 0, buildDate := 0, bound := 0, nvmDiv := 0, digest := 0, sections := [] }

/-- At step 7, with an accepted image, the partner UP, and an APPLY that has written its record. -/
def stagedAtStep7 : State :=
  { start := { begun := true, phase := 7 }
    image := { accepted := some emptyImage, applying := some emptyImage, applyState := 2 }
    cway := { partner := .up } }

/-- Nothing keeps the APPLY of `stagedAtStep7` waiting, so applying the image of the start also settles it, and
RUN_SOURCE takes the value of an APPLY. -/
theorem imageApplied_stagedAtStep7_runSource :
    ∃ t, exec .imageApplied stagedAtStep7 = .next t ∧ t.image.runSource = 4 := ⟨_, rfl, by decide +kernel⟩

/-- Refutes O3 in its clause of IMAGE_APPLIED: with the partner UP and an APPLY still standing (`applying`, `applyState`
2, nothing pending), the configuration of the ports ends in `settleApply`, which makes RUN_SOURCE 4 and not the slot of
the start. No start of the device leads to this state, but the statement ranges over every state. -/
theorem not_startStepsOfTheImageComplete : ¬ Obligations.StartStepsOfTheImageComplete := by
  unfold Obligations.StartStepsOfTheImageComplete
  rintro ⟨-, -, -, -, -, happlied⟩
  obtain ⟨t, ht, -, -, hsource, -, -⟩ := happlied emptyImage stagedAtStep7 rfl rfl
  obtain ⟨t', ht', hfour⟩ := imageApplied_stagedAtStep7_runSource
  obtain rfl : t = t' := by simpa [ht] using ht'
  exact absurd (hsource.symm.trans hfour) (by decide)

end Sys2Proof.Machine

namespace Sys2Proof.Machine

/-! ## What leaves the start controller alone -/

namespace State

@[simp] theorem draw_start (s : State) (bits : Nat) : (s.draw bits).2.start = s.start := by rw [draw_eq]

@[simp] theorem entropyFailed_start (s : State) : s.entropyFailed.start = s.start := by
  unfold entropyFailed
  dsimp only
  split <;> simp

@[simp] theorem entropyAsk_start (s : State) (c : Consumer) : (s.entropyAsk c).2.start = s.start := by
  unfold entropyAsk
  split
  · simp
  · split <;> simp

@[simp] theorem setSession_start (s : State) (c : Caller) (v : Session) : (s.setSession c v).start = s.start := by
  cases c <;> rfl

theorem sealFrame_start {s t : State} {c : Caller} {kind : Nat} {body m : List Nat}
    (h : s.sealFrame c kind body = some (m, t)) : t.start = s.start := by
  unfold sealFrame at h
  split at h
  · cases h
    simp
  · cases h

theorem sealSession_start {s t : State} {n u kind : Nat} {body : List Nat} {f : MgmtFrame}
    (h : s.sealSession n u kind body = some (f, t)) : t.start = s.start := by
  obtain ⟨⟨m, t'⟩, hm, hf⟩ := Option.map_eq_some_iff.mp h
  cases hf
  exact sealFrame_start hm

@[simp] theorem sealWaiting_start (s : State) (t : Nat) : (s.sealWaiting t).start = s.start := by
  refine foldl_keeps (fun a : List (Nat × MgmtItem) × State => a.2.start) _ (fun a e => ?_) s.tp.mgmtWait ([], s)
  split
  · split
    · split
      · next h => exact sealSession_start h
      · rfl
    · rfl
  · split <;> rfl
  · rfl

@[simp] theorem abandonStaging_start (s : State) (n : Nat) : (s.abandonStaging n).start = s.start := by
  unfold abandonStaging
  split
  · split <;> simp
  · rfl

@[simp] theorem slotFails_start (s : State) (n : Nat) : (s.slotFails n).start = s.start := by
  simp [slotFails, keyRecord]

@[simp] theorem destroySlot_start (s : State) (n : Nat) : (s.destroySlot n).start = s.start := by
  unfold destroySlot
  dsimp only
  split
  · rfl
  · split <;> simp [keyRecord]

@[simp] theorem closeSession_start (s : State) (c : Caller) (cause : Nat) :
    (s.closeSession c cause).start = s.start := by
  unfold closeSession
  dsimp only
  split
  · split
    · rfl
    · split <;> cases c <;> simp
  · rfl

@[simp] theorem settleSeq_start (s : State) (c : Caller) : (s.settleSeq c).start = s.start := by
  unfold settleSeq
  split
  · split <;> simp
  · rfl

theorem buildNotify_start {s t : State} {u : Nat} {f : List Nat} (h : s.buildNotify u = some (f, t)) :
    t.start = s.start := by
  unfold buildNotify at h
  dsimp only at h
  split at h
  · cases h
  · obtain ⟨⟨m, t'⟩, hm, hf⟩ := Option.map_eq_some_iff.mp h
    cases hf
    simpa using sealFrame_start hm

theorem buildItem_start {s t : State} {n : Nat} {i : MgmtItem} {f : MgmtFrame} (h : s.buildItem n i = some (f, t)) :
    t.start = s.start := by
  cases i with
  | session u kind body =>
    obtain ⟨⟨f', t'⟩, hm, hf⟩ := Option.map_eq_some_iff.mp h
    cases hf
    simpa using sealSession_start hm
  | notify u =>
    obtain ⟨⟨f', t'⟩, hm, hf⟩ := Option.map_eq_some_iff.mp h
    cases hf
    exact buildNotify_start hm
  | whole f' =>
    cases h
    rfl

@[simp] theorem mgmtAdmit_start (l : List (Nat × MgmtItem)) (s : State) : (s.mgmtAdmit l).start = s.start := by
  induction l generalizing s with
  | nil => rfl
  | cons e l ih =>
    obtain ⟨n, i⟩ := e
    rw [mgmtAdmit]
    split
    · split
      · next h => rw [ih]; simpa using buildItem_start h
      · exact ih s
    · rfl

@[simp] theorem queueMgmt_start (s : State) (n : Nat) (i : MgmtItem) : (s.queueMgmt n i).start = s.start := by
  unfold queueMgmt
  split <;> simp

@[simp] theorem queueZheac_start (s : State) (n : Nat) (words : List Nat) : (s.queueZheac n words).start = s.start :=
  queueMgmt_start ..

@[simp] theorem sendLease_start (s : State) (lane type stream slot pn challenge : Nat) :
    (s.sendLease lane type stream slot pn challenge).start = s.start := by
  unfold sendLease
  split
  · simp
  · rfl

@[simp] theorem queryLease_start (s : State) (x n : Nat) : (s.queryLease x n).start = s.start := by simp [queryLease]

@[simp] theorem askChallenge_start (s : State) (x : Nat) : (s.askChallenge x).start = s.start := by
  have hs := entropyAsk_start s (.challenge x)
  unfold askChallenge
  split
  · next h => rw [queryLease_start]; simpa [h] using hs
  · next h => simpa [h] using hs

@[simp] theorem txEnter_start (s : State) (x : Nat) (st : TxState) (an : Nat) (v : TxStream) :
    (s.txEnter x st an v).start = s.start := setTx_start ..
@[simp] theorem rxEnter_start (s : State) (x : Nat) (st : RxState) (an : Nat) (v : RxStream) :
    (s.rxEnter x st an v).start = s.start := setRx_start ..

@[simp] theorem txStuck_start (s : State) (x : Nat) : (s.txStuck x).start = s.start := by
  unfold txStuck
  dsimp only
  split <;> simp
@[simp] theorem rxStuck_start (s : State) (x : Nat) : (s.rxStuck x).start = s.start := by
  unfold rxStuck
  dsimp only
  split <;> simp

@[simp] theorem exhaust_start (s : State) (x cause : Nat) : (s.exhaust x cause).start = s.start := by
  unfold exhaust
  dsimp only
  split <;> simp

@[simp] theorem denyLease_start (s : State) (x cause : Nat) : (s.denyLease x cause).start = s.start := by
  unfold denyLease
  dsimp only
  split <;> simp

@[simp] theorem askAdvance_start (s : State) (a : Advance) : (s.askAdvance a).start = s.start := by
  unfold askAdvance
  split <;> rfl

@[simp] theorem askJournal_start (s : State) (x n : Nat) : (s.askJournal x n).start = s.start := rfl

@[simp] theorem askLease_start (s : State) (x : Nat) : (s.askLease x).start = s.start := by
  unfold askLease
  dsimp only
  repeat' split
  all_goals simp

@[simp] theorem startTxPin_start (s : State) (x : Nat) : (s.startTxPin x).start = s.start := by
  unfold startTxPin
  dsimp only
  repeat' split
  all_goals simp

@[simp] theorem startRxPin_start (s : State) (x : Nat) : (s.startRxPin x).start = s.start := by
  unfold startRxPin
  dsimp only
  repeat' split
  all_goals simp

@[simp] theorem startPins_start (s : State) : s.startPins.start = s.start := by
  have ht (s : State) (e : Nat × TxStream) : (s.startTxPin e.1).start = s.start := startTxPin_start s e.1
  have hr (s : State) (e : Nat × RxStream) : (s.startRxPin e.1).start = s.start := startRxPin_start s e.1
  simp only [startPins, foldl_keeps State.start _ ht, foldl_keeps State.start _ hr]

/-! ### The Trip Recorder -/

@[simp] theorem endBlock_start (s : State) : s.endBlock.start = s.start := by
  unfold endBlock
  dsimp only

@[simp] theorem putWords_start (s : State) (ws : List Nat) (n : Nat) : (s.putWords ws n).start = s.start := by
  unfold putWords
  dsimp only
  split <;> simp

@[simp] theorem record_start (s : State) (type : Nat) (content : List Nat) : (s.record type content).start = s.start := by
  unfold record
  dsimp only
  repeat' split
  all_goals simp

@[simp] theorem captureBase_start (s : State) (atStart : Bool) : (s.captureBase atStart).start = s.start := by
  unfold captureBase
  dsimp only
  have hr (type : Nat) : ∀ (s : State) (c : List Nat), (s.record type c).start = s.start := fun s c => record_start s type c
  split <;> simp [foldl_keeps State.start _ (hr _)]

@[simp] theorem startRun_start (s : State) (atStart : Bool) : (s.startRun atStart).start = s.start := by
  simp [startRun]

@[simp] theorem startTrip_start (s : State) (upsets : List (Nat × BitVec 512)) : (s.startTrip upsets).start = s.start := by
  unfold startTrip
  dsimp only
  split
  · split <;> simp
  · split <;> simp

/-! ### Memory -/

@[simp] theorem drawMemoryKey_start (s : State) (n : Nat) : (s.drawMemoryKey n).start = s.start := by
  unfold drawMemoryKey
  split
  · rfl
  · rfl
  all_goals split <;> simp

@[simp] theorem resetRegions_start (s : State) : s.resetRegions.start = s.start := rfl

/-- Settling memory decides MEM_STATE and nothing else of the start (R73). -/
theorem settleMemory_start (s : State) : ∃ m, s.settleMemory.start = { s.start with memState := m } := by
  have hd : (memorySlots.foldl drawMemoryKey s).start = s.start := foldl_keeps State.start _ drawMemoryKey_start _ _
  unfold settleMemory
  dsimp only
  repeat' split
  · exact ⟨.unavailable, by rw [hd]⟩
  · exact ⟨.ready, by rw [resetRegions_start, hd]⟩
  · exact ⟨.waiting, by rw [hd]⟩

end State
end Sys2Proof.Machine

namespace Sys2Proof.Machine

namespace State

/-! ## The memory keys (R73) -/

@[simp] theorem installKey_trng (s : State) (n v : Nat) : (s.installKey n v).trng = s.trng := by
  unfold installKey
  split <;> simp [keyRecord]
@[simp] theorem installKey_now (s : State) (n v : Nat) : (s.installKey n v).now = s.now := by
  unfold installKey
  split <;> simp [keyRecord]
@[simp] theorem installKey_destroys (s : State) (n v : Nat) : (s.installKey n v).keys.destroys = s.keys.destroys := by
  unfold installKey
  split <;> simp [keyRecord, setSlot]

/-- Below the count at which a reseed is due, a draw changes nothing of the DRBG but its working state and the count (R151). -/
theorem draw_of_lt (s : State) (bits : Nat) (h : s.trng.generates + 1 < 65536) :
    (s.draw bits).2 = { s with trng := { s.trng with
      drbg := (s.trng.drbg.generate bits).2, generates := s.trng.generates + 1 } } := by
  unfold draw
  dsimp only
  rw [if_neg (by omega)]

@[simp] theorem settleMemory_outcome (s : State) : s.settleMemory.start.outcome = s.start.outcome := by
  obtain ⟨m, hm⟩ := settleMemory_start s
  rw [hm]
@[simp] theorem settleMemory_phase (s : State) : s.settleMemory.start.phase = s.start.phase := by
  obtain ⟨m, hm⟩ := settleMemory_start s
  rw [hm]
@[simp] theorem settleMemory_tEnd (s : State) : s.settleMemory.start.tEnd = s.start.tEnd := by
  obtain ⟨m, hm⟩ := settleMemory_start s
  rw [hm]

theorem slot_congr {s t : State} (h : t.keys = s.keys) (n : Nat) : t.slot n = s.slot n := by
  rw [slot, slot, h]
theorem keyValid_congr {s t : State} (h : t.keys = s.keys) (n : Nat) : t.keyValid n = s.keyValid n := by
  rw [keyValid, keyValid, slot_congr h]

theorem canInstall_congr {s t : State} {n : Nat} (hs : t.slot n = s.slot n) (hd : t.keys.destroys = s.keys.destroys)
    (hn : t.now = s.now) (hc : t.cus = s.cus) : t.canInstall n = s.canInstall n := by
  simp only [canInstall, slotDestroying, registerDestroying, hs, hd, hn, hc]

/-- The memory keys of some slots can all be drawn one after another. -/
structure MemoryKeysReady (s : State) (l : List Nat) : Prop where
  serves : s.drbgServes = true
  generates : s.trng.generates + l.length < 65536
  installs : ∀ n ∈ l, s.canInstall n = true
  uses : ∀ n ∈ l, slotUse n ≠ 0
  nodup : l.Nodup

/-- A key is drawn for the first of them: it is VALID then, every other slot stands, and the rest can still be drawn. -/
theorem MemoryKeysReady.draws {s : State} {n : Nat} {l : List Nat} (h : s.MemoryKeysReady (n :: l)) :
    (s.drawMemoryKey n).keyValid n = true ∧ (∀ m, m ≠ n → (s.drawMemoryKey n).slot m = s.slot m) ∧
      (s.drawMemoryKey n).MemoryKeysReady l := by
  obtain ⟨hserves, hgen, hinst, huse, hnodup⟩ := h
  obtain ⟨hnl, hnodup⟩ := List.nodup_cons.mp hnodup
  have hlt : s.trng.generates + 1 < 65536 := by simp at hgen; omega
  have hn : s.canInstall n = true := hinst n (by simp)
  have hl : s.trng.generates + 1 + l.length < 65536 := by simp at hgen; omega
  by_cases hv : (s.slot n).state = .valid
  · have he : s.drawMemoryKey n = s := by simp [drawMemoryKey, hv]
    rw [he]
    exact ⟨by simp [keyValid, hv], fun _ _ => rfl, hserves, by omega, fun m hm => hinst m (by simp [hm]),
      fun m hm => huse m (by simp [hm]), hnodup⟩
  · have hf : (s.slot n).state ≠ .fault := by simp [canInstall] at hn; tauto
    have he : s.drawMemoryKey n = (s.draw 256).2.installKey n (slotValue (s.draw 256).1) := by
      unfold drawMemoryKey
      split <;> simp_all
    have hd := draw_of_lt s 256 hlt
    have hdn : (s.draw 256).2.canInstall n = true := by rw [hd]; exact hn
    have hother (m : Nat) (hm : m ≠ n) : (s.drawMemoryKey n).slot m = s.slot m := by
      rw [he, slot_installKey_other _ _ hm.symm, hd]
      rfl
    refine ⟨?_, hother, ?_, ?_, fun m hm => ?_, fun m hm => huse m (by simp [hm]), hnodup⟩
    · rw [he, keyValid, slot_installKey _ _ _ (huse n (by simp)) hdn]
      rfl
    · rw [he, drbgServes, installKey_trng, hd]
      exact hserves
    · rw [he, installKey_trng, hd]
      exact hl
    · rw [← hinst m (by simp [hm])]
      refine canInstall_congr (hother m (fun e => hnl (e ▸ hm))) ?_ ?_ ?_ <;> rw [he] <;> simp [hd]

theorem MemoryKeysReady.foldl_slot {s : State} {l : List Nat} (h : s.MemoryKeysReady l) {m : Nat} (hm : m ∉ l) :
    (l.foldl drawMemoryKey s).slot m = s.slot m := by
  induction l generalizing s with
  | nil => rfl
  | cons n l ih =>
    obtain ⟨-, hother, hready⟩ := h.draws
    rw [List.foldl_cons, ih hready (by simp_all), hother m (by simp_all)]

theorem MemoryKeysReady.foldl_keyValid {s : State} {l : List Nat} (h : s.MemoryKeysReady l) :
    ∀ n ∈ l, (l.foldl drawMemoryKey s).keyValid n = true := by
  induction l generalizing s with
  | nil => simp
  | cons n l ih =>
    obtain ⟨hvalid, -, hready⟩ := h.draws
    intro m hm
    obtain rfl | hm := List.mem_cons.mp hm
    · rw [List.foldl_cons, keyValid, hready.foldl_slot (List.nodup_cons.mp h.nodup).1]
      exact hvalid
    · exact ih hready m hm

@[simp] theorem resetRegions_keys (s : State) : s.resetRegions.keys = s.keys := by
  unfold resetRegions
  dsimp only

theorem memorySlots_nodup : memorySlots.Nodup := by decide
theorem slotUse_of_mem_memorySlots : ∀ n ∈ memorySlots, slotUse n ≠ 0 := by decide

/-- With every memory key drawn, memory is ready (R73). -/
theorem settleMemory_of_keysValid (s : State)
    (h : ∀ n ∈ memorySlots, (memorySlots.foldl drawMemoryKey s).keyValid n = true) :
    s.settleMemory.start = { s.start with memState := .ready } ∧
      ∀ n, s.settleMemory.keyValid n = (memorySlots.foldl drawMemoryKey s).keyValid n := by
  have hdev : ((memorySlots.foldl drawMemoryKey s).slot slotDevMem).state = .valid := by
    simpa [keyValid] using h slotDevMem (by decide)
  have hs : (memorySlots.foldl drawMemoryKey s).start = s.start := foldl_keeps State.start _ drawMemoryKey_start _ _
  have hall : memorySlots.all (fun n => (memorySlots.foldl drawMemoryKey s).keyValid n ||
      decide (((memorySlots.foldl drawMemoryKey s).slot n).state = SlotState.fault)) = true := by
    simp +contextual [List.all_eq_true, h]
  have he : s.settleMemory = { (memorySlots.foldl drawMemoryKey s).resetRegions with
      start := { s.start with memState := .ready } } := by
    unfold settleMemory
    dsimp only
    rw [if_neg (by simp [hdev]), if_pos hall, resetRegions_start, hs]
  exact ⟨by rw [he], keyValid_congr (by simp [he])⟩

end State

theorem actState_keyValid (ps : List Part) (s : State) (f : State → State) (n : Nat) (h : ps.contains .keys = true) :
    (actState ps s f).keyValid n = (f s.clear).keyValid n := by
  rw [State.keyValid, actState_slot, if_pos h, State.keyValid]

/-! ## Steps 9 and 10 of a start -/

theorem sdramTrainingEnd_trains (failed : BitVec 4) (s : State) (h : s.startAt 8 = true)
    (hm : s.start.memState = .training) :
    ∃ t, exec (.sdramTrainingEnd failed) s = .next t ∧ t.start.phase = 9 ∧
      t.start.channels = s.channelsConfigured.map (fun c => (c, if failed.toNat.testBit c then 2 else 1)) ∧
      t.start.memState =
        (if s.channelsConfigured.any (fun c => failed.toNat.testBit c) then .unavailable else .training) := by
  have hc : s.clear.channelsConfigured = s.channelsConfigured := rfl
  have hmap : s.channelsConfigured.map (fun c => (c, if c ∈ s.channelsConfigured ∧ failed.toNat.testBit c = true then 2 else 1)) =
      s.channelsConfigured.map (fun c => (c, if failed.toNat.testBit c = true then 2 else 1)) :=
    List.map_congr_left (fun c hc => by simp [hc])
  refine ⟨_, rfl, ?_⟩
  by_cases hb : ∀ c ∈ s.channelsConfigured, failed.toNat.testBit c = false
  · simp +contextual [h, hm, hc, hb]
  · have he : ∃ c ∈ s.channelsConfigured, failed.toNat.testBit c = true := by simpa using hb
    simp [h, hm, hc, hb, he, hmap]

theorem outcomeRunning_runs (upsets : List (Nat × BitVec 512)) (s : State)
    (h : s.startAt 9 = true ∨ (s.startAt 8 = true ∧ s.start.memState = .noneConfigured)) (ht : s.trng.state ≠ .startup) :
    ∃ t, exec (.outcomeRunning upsets) s = .next t ∧ t.start.outcome = .running ∧ t.start.phase = 10 ∧
      t.start.tEnd = some s.now := by
  refine ⟨_, rfl, ?_⟩
  obtain h9 | ⟨h8, hnone⟩ := h
  · by_cases hm : s.start.memState = .training <;> simp [h9, ht, hm]
  · simp [h8, hnone, ht]

theorem memoryKeysDrawn_ready (s : State) (h : s.start.memState = .waiting) (hd : s.drbgServes = true)
    (hg : s.trng.generates + 17 < 65536) (hi : ∀ n ∈ State.memorySlots, s.canInstall n = true) :
    ∃ t, exec .memoryKeysDrawn s = .next t ∧ t.start = { s.start with memState := .ready } ∧
      ∀ n ∈ State.memorySlots, t.keyValid n = true := by
  have hready : s.clear.MemoryKeysReady State.memorySlots :=
    ⟨hd, hg, hi, State.slotUse_of_mem_memorySlots, State.memorySlots_nodup⟩
  have hvalid := hready.foldl_keyValid
  obtain ⟨hstart, hkeys⟩ := State.settleMemory_of_keysValid s.clear hvalid
  refine ⟨_, rfl, ?_, fun n hn => ?_⟩
  · simp [h, hstart]
  · rw [actState_keyValid _ _ _ _ rfl]
    simp [h, hkeys, hvalid n hn]

/-- Settles O4: the frames over what follows step 10 leave the outcome alone, and the memory keys are drawn one by one. -/
theorem startEndsRunning : Obligations.StartEndsRunning := by
  unfold Obligations.StartEndsRunning
  exact ⟨sdramTrainingEnd_trains, fun upsets s h ht => outcomeRunning_runs upsets s (.inl h) ht,
    fun upsets s h hm ht => outcomeRunning_runs upsets s (.inr ⟨h, hm⟩) ht, memoryKeysDrawn_ready⟩

end Sys2Proof.Machine

namespace Sys2Proof.Machine

@[simp] theorem length_bytesOf (l : List Byte) : (bytesOf l).length = l.length := by simp [bytesOf]

theorem length_frameData (f : List Nat) (h : 4 ≤ f.length) : (frameData f).length + 4 = f.length := by
  simp [frameData]
  omega

namespace State

/-! ## What a state reads of its parts -/

theorem lane_congr {s t : State} (h : t.lanes = s.lanes) (n : Nat) : t.lane n = s.lane n := by rw [lane, lane, h]
theorem queue_congr {s t : State} (h : t.tp = s.tp) (q : Nat) : t.queue q = s.queue q := by rw [queue, queue, h]

@[simp] theorem emit_queue (s : State) (e kind number arg q : Nat) : (s.emit e kind number arg).queue q = s.queue q :=
  queue_congr (emit_tp ..) q
@[simp] theorem occurs_queue (s : State) (b c m n q : Nat) : (s.occurs b c m n).queue q = s.queue q := rfl
@[simp] theorem occur_queue (s : State) (b c q : Nat) : (s.occur b c).queue q = s.queue q := rfl

@[simp] theorem emitOnceKey_tp (s : State) (key e kind number arg : Nat) :
    (s.emitOnceKey key e kind number arg).tp = s.tp := by
  unfold emitOnceKey
  split
  · rfl
  · simp

/-- The state with other things told and sent, and another sampler: nothing that admission reads. -/
def telling (s : State) (notes : List Note) (sent : List Sent) (way : WayUnit) : State :=
  { s with notes := notes, sent := sent, way := way }

section
variable (s : State) (notes : List Note) (sent : List Sent) (way : WayUnit)

@[simp] theorem telling_tp : (s.telling notes sent way).tp = s.tp := rfl
@[simp] theorem telling_start : (s.telling notes sent way).start = s.start := rfl
@[simp] theorem telling_lane (n : Nat) : (s.telling notes sent way).lane n = s.lane n := rfl
@[simp] theorem telling_tenant (u : Nat) : (s.telling notes sent way).tenant u = s.tenant u := rfl
@[simp] theorem telling_queue (q : Nat) : (s.telling notes sent way).queue q = s.queue q := rfl
@[simp] theorem telling_laneMaxFrame (n : Nat) : (s.telling notes sent way).laneMaxFrame n = s.laneMaxFrame n := rfl
@[simp] theorem telling_laneMac (n : Nat) : (s.telling notes sent way).laneMac n = s.laneMac n := rfl
@[simp] theorem telling_selectTenant (n v : Nat) :
    (s.telling notes sent way).selectTenant n v = s.selectTenant n v := rfl
@[simp] theorem telling_classifier (u : Nat) : (s.telling notes sent way).classifier u = s.classifier u := rfl
@[simp] theorem telling_classify (u : Nat) (k : Key) : (s.telling notes sent way).classify u k = s.classify u k := rfl
@[simp] theorem telling_settled (q : Nat) : (s.telling notes sent way).settled q = s.settled q := rfl
@[simp] theorem telling_qEgress (q : Nat) : (s.telling notes sent way).qEgress q = s.qEgress q := rfl
@[simp] theorem telling_placeFor (q c : Nat) : (s.telling notes sent way).placeFor q c = s.placeFor q c := rfl
@[simp] theorem telling_admits (u q len : Nat) : (s.telling notes sent way).admits u q len = s.admits u q len := rfl
@[simp] theorem telling_occurs (b c m n : Nat) : (s.telling notes sent way).occurs b c m n =
    s.telling (notes ++ [.occ b c m n]) sent way := rfl
@[simp] theorem telling_occur (b c : Nat) : (s.telling notes sent way).occur b c =
    s.telling (notes ++ [.occ b c 0 1]) sent way := rfl

end

end State
end Sys2Proof.Machine

namespace Sys2Proof.Machine
namespace State

/-! ## Flow control leaves Turnpike alone (R198) -/

@[simp] theorem frameOut_tp (s : State) (port len : Nat) : (s.frameOut port len).tp = s.tp := by
  unfold frameOut
  dsimp only
  split <;> simp

@[simp] theorem sendFlow_tp (s : State) (n prios quanta : Nat) : (s.sendFlow n prios quanta).tp = s.tp := by
  unfold sendFlow
  split
  · simp
  · rfl

@[simp] theorem laneFlow_tp (s : State) (n : Nat) : (s.laneFlow n).tp = s.tp := by
  unfold laneFlow
  dsimp only
  repeat' split
  all_goals simp

@[simp] theorem flowAll_tp (s : State) : s.flowAll.tp = s.tp := by
  refine foldl_keeps State.tp _ (fun s n => ?_) (List.range 16) s
  split
  · exact laneFlow_tp s n
  · rfl

@[simp] theorem flowAll_queue (s : State) (q : Nat) : s.flowAll.queue q = s.queue q := queue_congr (flowAll_tp s) q

/-! ## What follows an admission leaves the frames of every queue alone (R243) -/

/-- A queue that is given its own frames keeps them, and every other queue stands. -/
theorem frames_setQueue (s : State) (q p : Nat) (v : Queue) (h : v.frames = (s.queue q).frames) :
    ((s.setQueue q v).queue p).frames = (s.queue p).frames := by
  by_cases hq : q = p
  · subst hq
    simp [h]
  · simp [hq]

theorem frames_markReleased (s : State) (l : List Nat) (at_ : Option Nat) (p : Nat) :
    ((s.markReleased l at_).queue p).frames = (s.queue p).frames := by
  refine foldl_keeps (fun s : State => (s.queue p).frames) _ (fun s q => ?_) l s
  dsimp only
  split
  · exact frames_setQueue s q p _ rfl
  · rfl

/-- The delay request of a tenant and class stands from now on. -/
def delayAsserted (s : State) (t c : Nat) : State :=
  let s := s.occur 25 0o007
  let s := { s with tp := { s.tp with delay := (8 * t + c) :: s.tp.delay } }
  s.markReleased (s.flowQueues t c) none

theorem frames_delayAsserted (s : State) (t c p : Nat) : ((s.delayAsserted t c).queue p).frames = (s.queue p).frames := by
  rw [delayAsserted, frames_markReleased]
  rfl

theorem frames_delayRises (s : State) (t c q p : Nat) :
    ((s.delayRises t c q).queue p).frames = (s.queue p).frames := by
  have hset (at_ : Option Nat) : (((s.delayAsserted t c).setQueue q
      { (s.delayAsserted t c).queue q with delayEventAt := at_ }).queue p).frames = (s.queue p).frames := by
    refine Eq.trans (frames_setQueue _ q p _ ?_) (frames_delayAsserted s t c p)
    rfl
  have hemit (b : Bool) (u : State) (e k n a : Nat) : (if b = true then u.emit e k n a else u).queue p = u.queue p := by
    split <;> simp
  unfold delayRises
  dsimp only
  split
  · rfl
  · rw [flowAll_queue, hemit]
    exact hset _

@[simp] theorem chargePolicer_queue (s : State) (t q len p : Nat) : (s.chargePolicer t q len).queue p = s.queue p := by
  unfold chargePolicer
  dsimp only
  split <;> rfl

theorem frames_admitted (s : State) (t q : Nat) (f : QFrame) (place : Place) (p : Nat) :
    ((s.admitted t q f place).queue p).frames = (s.queue p).frames := by
  rw [admitted, frames_delayRises, chargePolicer_queue, occur_queue]

/-- The cells of a frame that is let in are written, and a sampled one is in flight. -/
def admitting (s : State) (f : QFrame) (place : Place) (sampled : Bool) : State :=
  let s := if decide (place = Place.spill) then s else s.occurs 26 0o001 0 (cellsOf f.len)
  if sampled then { s with way := { s.way with inFlight := s.way.inFlight + 1 } } else s

theorem admitting_queue (s : State) (f : QFrame) (place : Place) (sampled : Bool) (q : Nat) :
    (s.admitting f place sampled).queue q = s.queue q := by
  unfold admitting
  dsimp only
  split <;> split <;> rfl

/-- The frame as it stands in its queue. -/
def placed (s : State) (t n : Nat) (f : QFrame) (place : Place) (sampled trunk : Bool) : QFrame :=
  let spill := decide (place = Place.spill)
  { f with
    place := place, since := s.now, unaccepted := spill, eligible := decide (place = Place.reserved) && s.eligibleNow t n
    mark := if sampled then some { decrypt := trunk, spilled := spill, admitted := s.now, picked := s.now } else none }

/-- The queue has taken the frame. -/
def queued (s : State) (q : Nat) (g : QFrame) : State :=
  s.setQueue q { s.queue q with frames := (s.queue q).frames ++ [g] }

theorem frames_queued (s : State) (q : Nat) (g : QFrame) :
    ((s.queued q g).queue q).frames = (s.queue q).frames ++ [g] := by simp [queued]

theorem admitTo_eq (s : State) (t q : Nat) (f : QFrame) (place : Place) (sampled trunk : Bool) :
    s.admitTo t q f place sampled trunk =
      let u := s.admitting f place sampled
      let v := u.queued q (u.placed t (s.qEgress q) f place sampled trunk)
      if decide (place = Place.spill) then v else v.admitted t q f place := rfl

/-- A frame that is let in stands at the end of its queue, in the cells of its place (R236). -/
theorem frames_admitTo (s : State) (t q : Nat) (f : QFrame) (place : Place) (sampled trunk : Bool) :
    ∃ g : QFrame, ((s.admitTo t q f place sampled trunk).queue q).frames = (s.queue q).frames ++ [g] ∧
      g.data = f.data ∧ g.tenant = f.tenant ∧ g.place = place := by
  refine ⟨(s.admitting f place sampled).placed t (s.qEgress q) f place sampled trunk, ?_, rfl, rfl, rfl⟩
  rw [admitTo_eq]
  dsimp only
  split
  · rw [frames_queued, admitting_queue]
  · rw [frames_admitted, frames_queued, admitting_queue]

/-! ## Admission (R236) -/

theorem acceptSpill_of_settled (s : State) (t q : Nat) (h : s.settled q = true) :
    s.acceptSpill t q (s.spillDue q) = s := by
  have hd : s.spillDue q = 0 := by
    simp only [spillDue, List.length_eq_zero_iff, List.filter_eq_nil_iff]
    intro f hf
    have := List.all_eq_true.mp h f hf
    simp_all
  simp [hd, acceptSpill, accepting]

theorem waySample_eq (s : State) (t port q : Nat) :
    (s.waySample t port q).2 = s.telling s.notes s.sent (s.waySample t port q).2.way := by
  unfold waySample
  dsimp only
  repeat' split
  all_goals rfl

/-- A frame that R236 admits to a settled queue joins its end, in the cells that R236 gives. -/
theorem enter_of_admits (s : State) (t q : Nat) (f : QFrame) (trunk : Bool) (hs : s.settled q = true)
    (ha : s.admits t q f.len = true) :
    ∃ g : QFrame, ((s.enter t q f trunk).queue q).frames = (s.queue q).frames ++ [g] ∧ g.data = f.data ∧
      g.tenant = f.tenant ∧ s.placeFor q (cellsOf f.len) = some g.place := by
  rcases hw : s.waySample t f.ingress q with ⟨sampled, u⟩
  have hu : u = s.telling s.notes s.sent u.way := by simpa [hw] using waySample_eq s t f.ingress q
  have hplace : u.placeFor q (cellsOf f.len) = s.placeFor q (cellsOf f.len) := by rw [hu, telling_placeFor]
  have hqueue : u.queue q = s.queue q := by rw [hu, telling_queue]
  obtain ⟨p, hp⟩ : ∃ p, s.placeFor q (cellsOf f.len) = some p := by
    simp only [admits, Bool.and_eq_true] at ha
    exact Option.isSome_iff_exists.mp ha.2
  have hegress : u.qEgress q = s.qEgress q := by rw [hu, telling_qEgress]
  have hadmits : u.admits t q f.len = true := by rw [hu, telling_admits]; exact ha
  have he : s.enter t q f trunk = u.admitTo t q f p sampled trunk := by
    unfold enter
    dsimp only
    rw [acceptSpill_of_settled s t q hs, hw]
    dsimp only
    by_cases hlane : s.qEgress q < 16
    · simp [admits, hegress, hlane] at hadmits
      obtain ⟨⟨⟨hlen, hup⟩, hrate⟩, -⟩ := hadmits
      have hpolice : ¬ (u.qFlow q = false ∧ u.policeOk t (s.qEgress q) = false) := by
        rintro ⟨hflow, hover⟩
        simp [hflow, hover] at hrate
      simp [hlane, hlen.not_gt, hup, hpolice, hplace, hp]
    · simp [admits, hegress, hlane] at hadmits
      simp [hlane, hadmits, hplace, hp]
  obtain ⟨g, hg, hdata, htenant, hgp⟩ := frames_admitTo u t q f p sampled trunk
  exact ⟨g, by rw [he, hg, hqueue], hdata, htenant, by rw [hp, hgp]⟩

end State
end Sys2Proof.Machine

namespace Sys2Proof.Machine
namespace State

/-! ## A frame on a client lane (Table 8.6, R197, R208 to R212) -/

/-- The observers have been told of a frame on a client lane. -/
def clientSeen (s : State) (n : Nat) (f : List Nat) : State :=
  let s := s.frameIn n f.length
  if fcsGood f then s.note (.rcd (10 + n) 0o02 (frameRecord n f)) else s

theorem clientSeen_eq (s : State) (n : Nat) (f : List Nat) :
    s.clientSeen n f = s.telling (s.clientSeen n f).notes s.sent s.way := by
  unfold clientSeen frameIn
  dsimp only
  split <;> split <;> rfl

section
variable (s : State) (n : Nat) (f : List Nat)

@[simp] theorem clientSeen_tp : (s.clientSeen n f).tp = s.tp := by rw [clientSeen_eq, telling_tp]
@[simp] theorem clientSeen_lane (m : Nat) : (s.clientSeen n f).lane m = s.lane m := by rw [clientSeen_eq, telling_lane]
@[simp] theorem clientSeen_laneMaxFrame (m : Nat) : (s.clientSeen n f).laneMaxFrame m = s.laneMaxFrame m := by
  rw [clientSeen_eq, telling_laneMaxFrame]
@[simp] theorem clientSeen_laneMac (m : Nat) : (s.clientSeen n f).laneMac m = s.laneMac m := by
  rw [clientSeen_eq, telling_laneMac]
@[simp] theorem clientSeen_selectTenant (m v : Nat) :
    (s.clientSeen n f).selectTenant m v = s.selectTenant m v := by rw [clientSeen_eq, telling_selectTenant]

end

section
variable {s : State} {n : Nat} {f : List Nat}

theorem clientFrame_of_bad (h : fcsGood f = false ∨ f.length < 64) :
    s.clientFrame n f =
      ((s.clientSeen n f).setLane n { s.lane n with lineErr := satInc 18 (s.lane n).lineErr }).occur n 0o003 := by
  have hb : (!fcsGood f || decide (f.length < 64)) = true := by simpa using h
  unfold clientFrame
  dsimp only
  rw [if_pos hb]
  rfl

/-- A frame of at least the least length, its FCS good, is measured against MAX_FRAME. -/
theorem clientFrame_of_good (hgood : fcsGood f = true) (hmin : 64 ≤ f.length) :
    s.clientFrame n f =
      if s.laneMaxFrame n < f.length then
        (s.clientSeen n f).setLane n { s.lane n with oversize := satInc 18 (s.lane n).oversize }
      else if pairAt f 12 = 0x8808 then (s.clientSeen n f).macControl n f
      else if frameDa f = s.laneMac n then
        match (s.clientSeen n f).mgmtTenant n f with
        | some t => ((s.clientSeen n f).occur 24 0o003).signpostFrame (some t) n f
        | none => (s.clientSeen n f).countNoTenant n (frameVlan f)
      else
        match s.selectTenant n (frameVlan f) with
        | none => (s.clientSeen n f).countNoTenant n (frameVlan f)
        | some t => (s.clientSeen n f).offer t n false (frameData f) := by
  have hb : ¬ (!fcsGood f || decide (f.length < 64)) = true := by simp [hgood, hmin]
  rw [← clientSeen_laneMaxFrame s n f n, ← clientSeen_laneMac s n f n, ← clientSeen_selectTenant s n f n]
  unfold clientFrame
  dsimp only
  rw [if_neg hb]
  rfl

end

theorem macControl_of_other (s : State) (n : Nat) (f : List Nat) (hpause : pairAt f 14 ≠ 1) (hpfc : pairAt f 14 ≠ 0x0101) :
    s.macControl n f = s.ctlDrop n := by
  simp [macControl, hpause, hpfc]

@[simp] theorem ctlDrop_lane (s : State) (n : Nat) :
    (s.ctlDrop n).lane n = { s.lane n with ctlDropped := satInc 18 (s.lane n).ctlDropped } := lane_setLane_same ..
@[simp] theorem ctlDrop_tp (s : State) (n : Nat) : (s.ctlDrop n).tp = s.tp := setLane_tp ..

theorem countNoTenant_tp (s : State) (port vlan : Nat) :
    (s.countNoTenant port vlan).tp =
      { s.tp with noTenant := tabPut 0 s.tp.noTenant port (satInc 18 (tabGet 0 s.tp.noTenant port)) } := by
  simp [countNoTenant]

/-- A classified frame whose entry, tenant and queue let it in joins the end of its queue. -/
theorem offer_of_admits {s : State} {u port i q tc : Nat} {stream : Option Nat} {trunk : Bool} {data : List Nat}
    (hrun : s.start.outcome = .running) (hdrain : tabGet none s.tp.drains u = none)
    (hclass : s.classify u (keyOf port trunk data) = some i)
    (hentry : entryResult (classEntry (s.classifier u) i) = (q, tc, stream))
    (hstate : stateCode (s.tenant u).state = none) (hs : s.settled q = true)
    (ha : s.admits u q (data.length + 4) = true) :
    ∃ g : QFrame, ((s.offer u port trunk data).queue q).frames = (s.queue q).frames ++ [g] ∧ g.data = data ∧
      g.tenant = u ∧ s.placeFor q (cellsOf (data.length + 4)) = some g.place := by
  let v := (s.occur 24 0o001).occurs 24 0o004 i 1
  let w : QFrame := { data := data, tenant := u, tc := tc, stream := stream, ingress := port, since := s.now }
  have ho : s.offer u port trunk data = v.enter u q w trunk := by
    have hentry' : entryResult (classEntry (v.classifier u) i) = (q, tc, stream) := hentry
    have hstate' : stateCode (v.tenant u).state = none := hstate
    rw [offer, if_neg (by simp [hrun]), hdrain]
    dsimp only
    rw [classifyAdmit, hclass, classified]
    dsimp only
    change (match entryResult (classEntry (v.classifier u) i) with | (q, tc, stream) => _) = _
    rw [hentry']
    dsimp only
    rw [hstate']
    rfl
  rw [ho]
  exact enter_of_admits v u q w trunk hs ha
@[simp] theorem clear_lane (s : State) (n : Nat) : s.clear.lane n = s.lane n := rfl
@[simp] theorem occur_lane (s : State) (b c n : Nat) : (s.occur b c).lane n = s.lane n := rfl

end State

/-! ## The command -/

/-- On a client lane that is UP, and not replaying, the frame is taken as the lane's. -/
theorem clientFrameRx_takes (lane : Fin 16) (n : Nat) (bytes : List Byte) (s : State) (hlead : s.laneLead lane = some n)
    (hclient : s.laneIsClient n = true) (hup : s.laneUpNow n = true) (hreplay : s.replayMode = false) :
    ∃ t, exec (.clientFrameRx lane bytes) s = .next t ∧
      (∀ m, t.lane m = (s.clear.clientFrame n (bytesOf bytes)).lane m) ∧
      t.tp = (s.clear.clientFrame n (bytesOf bytes)).tp := by
  have hrx : s.clear.clientRx lane (bytesOf bytes) = s.clear.clientFrame n (bytesOf bytes) := by
    have hl : s.clear.laneLead lane = some n := hlead
    have hc : (s.clear.laneIsClient n && s.clear.laneUpNow n && !s.clear.replayMode) = true := by
      change (s.laneIsClient n && s.laneUpNow n && !s.replayMode) = true
      simp [hclient, hup, hreplay]
    rw [State.clientRx, hl]
    dsimp only
    rw [if_pos hc]
  refine ⟨_, rfl, fun m => ?_, ?_⟩
  · rw [← hrx]
    exact State.lane_congr (by simp) m
  · rw [← hrx]
    simp

theorem clientFrameRx_bad (lane : Fin 16) (n : Nat) (bytes : List Byte) (s : State) (hlead : s.laneLead lane = some n)
    (hclient : s.laneIsClient n = true) (hup : s.laneUpNow n = true) (hreplay : s.replayMode = false)
    (hbad : fcsGood (bytesOf bytes) = false ∨ bytes.length < 64) :
    ∃ t, exec (.clientFrameRx lane bytes) s = .next t ∧ (t.lane n).lineErr = satInc 18 (s.lane n).lineErr ∧
      t.tp.queues = s.tp.queues := by
  obtain ⟨t, ht, hlane, htp⟩ := clientFrameRx_takes lane n bytes s hlead hclient hup hreplay
  refine ⟨t, ht, ?_⟩
  rw [hlane, htp, State.clientFrame_of_bad (by simpa using hbad)]
  simp

end Sys2Proof.Machine

namespace Sys2Proof.Machine

section
variable (lane : Fin 16) (n : Nat) (bytes : List Byte)

theorem clientFrameRx_oversize (s : State) (hlead : s.laneLead lane = some n) (hclient : s.laneIsClient n = true)
    (hup : s.laneUpNow n = true) (hreplay : s.replayMode = false) (hgood : fcsGood (bytesOf bytes) = true)
    (hmin : 64 ≤ bytes.length) (hmax : s.laneMaxFrame n < bytes.length) :
    ∃ t, exec (.clientFrameRx lane bytes) s = .next t ∧ (t.lane n).oversize = satInc 18 (s.lane n).oversize ∧
      t.tp.queues = s.tp.queues := by
  obtain ⟨t, ht, hlane, htp⟩ := clientFrameRx_takes lane n bytes s hlead hclient hup hreplay
  have hmax' : s.clear.laneMaxFrame n < (bytesOf bytes).length := by rw [length_bytesOf]; exact hmax
  refine ⟨t, ht, ?_⟩
  rw [hlane, htp, State.clientFrame_of_good hgood (by simpa using hmin), if_pos hmax']
  simp

/-- A good frame of a length that the lane takes, and not of MAC control, is the port's own or a tenant's. -/
theorem clientFrame_clear_of_tenant (s : State) (hgood : fcsGood (bytesOf bytes) = true) (hmin : 64 ≤ bytes.length)
    (hmax : bytes.length ≤ s.laneMaxFrame n) (hdata : pairAt (bytesOf bytes) 12 ≠ 0x8808)
    (hda : frameDa (bytesOf bytes) ≠ s.laneMac n) :
    s.clear.clientFrame n (bytesOf bytes) =
      match s.selectTenant n (frameVlan (bytesOf bytes)) with
      | none => (s.clear.clientSeen n (bytesOf bytes)).countNoTenant n (frameVlan (bytesOf bytes))
      | some u => (s.clear.clientSeen n (bytesOf bytes)).offer u n false (frameData (bytesOf bytes)) := by
  have hmax' : ¬ s.clear.laneMaxFrame n < (bytesOf bytes).length := by rw [length_bytesOf]; exact hmax.not_gt
  have hda' : frameDa (bytesOf bytes) ≠ s.clear.laneMac n := hda
  rw [State.clientFrame_of_good hgood (by simpa using hmin), if_neg hmax', if_neg hdata, if_neg hda']
  rfl

theorem clientFrameRx_control (s : State) (hlead : s.laneLead lane = some n) (hclient : s.laneIsClient n = true)
    (hup : s.laneUpNow n = true) (hreplay : s.replayMode = false) (hgood : fcsGood (bytesOf bytes) = true)
    (hmin : 64 ≤ bytes.length) (hmax : bytes.length ≤ s.laneMaxFrame n)
    (hcontrol : pairAt (bytesOf bytes) 12 = 0x8808) (hpause : pairAt (bytesOf bytes) 14 ≠ 1)
    (hpfc : pairAt (bytesOf bytes) 14 ≠ 0x0101) :
    ∃ t, exec (.clientFrameRx lane bytes) s = .next t ∧ (t.lane n).ctlDropped = satInc 18 (s.lane n).ctlDropped ∧
      t.tp.queues = s.tp.queues := by
  obtain ⟨t, ht, hlane, htp⟩ := clientFrameRx_takes lane n bytes s hlead hclient hup hreplay
  have hmax' : ¬ s.clear.laneMaxFrame n < (bytesOf bytes).length := by rw [length_bytesOf]; exact hmax.not_gt
  refine ⟨t, ht, ?_⟩
  rw [hlane, htp, State.clientFrame_of_good hgood (by simpa using hmin), if_neg hmax', if_pos hcontrol,
    State.macControl_of_other _ _ _ hpause hpfc]
  simp

theorem clientFrameRx_noTenant (s : State) (hlead : s.laneLead lane = some n) (hclient : s.laneIsClient n = true)
    (hup : s.laneUpNow n = true) (hreplay : s.replayMode = false) (hgood : fcsGood (bytesOf bytes) = true)
    (hmin : 64 ≤ bytes.length) (hmax : bytes.length ≤ s.laneMaxFrame n) (hdata : pairAt (bytesOf bytes) 12 ≠ 0x8808)
    (hda : frameDa (bytesOf bytes) ≠ s.laneMac n) (hnone : s.selectTenant n (frameVlan (bytesOf bytes)) = none) :
    ∃ t, exec (.clientFrameRx lane bytes) s = .next t ∧
      tabGet 0 t.tp.noTenant n = satInc 18 (tabGet 0 s.tp.noTenant n) ∧ t.tp.queues = s.tp.queues := by
  obtain ⟨t, ht, -, htp⟩ := clientFrameRx_takes lane n bytes s hlead hclient hup hreplay
  refine ⟨t, ht, ?_⟩
  rw [htp, clientFrame_clear_of_tenant n bytes s hgood hmin hmax hdata hda, hnone]
  dsimp only
  rw [State.countNoTenant_tp]
  simp

theorem clientFrameRx_queued (u i q tc : Nat) (stream : Option Nat) (s : State) (hlead : s.laneLead lane = some n)
    (hclient : s.laneIsClient n = true) (hup : s.laneUpNow n = true) (hreplay : s.replayMode = false)
    (hgood : fcsGood (bytesOf bytes) = true) (hmin : 64 ≤ bytes.length) (hmax : bytes.length ≤ s.laneMaxFrame n)
    (hdata : pairAt (bytesOf bytes) 12 ≠ 0x8808) (hda : frameDa (bytesOf bytes) ≠ s.laneMac n)
    (hu : s.selectTenant n (frameVlan (bytesOf bytes)) = some u) (hrun : s.start.outcome = .running)
    (hdrain : tabGet none s.tp.drains u = none) (hclass : s.classify u (clientKey n bytes) = some i)
    (hentry : State.entryResult (State.classEntry (s.classifier u) i) = (q, tc, stream))
    (hstate : State.stateCode (s.tenant u).state = none) (hs : s.settled q = true)
    (ha : s.admits u q bytes.length = true) :
    ∃ t, exec (.clientFrameRx lane bytes) s = .next t ∧ s.queuedOne t q u bytes.length ∧
      (t.queue q).frames.getLast?.map QFrame.data = some (frameData (bytesOf bytes)) := by
  obtain ⟨t, ht, -, htp⟩ := clientFrameRx_takes lane n bytes s hlead hclient hup hreplay
  have hlen : (frameData (bytesOf bytes)).length + 4 = bytes.length := by
    rw [length_frameData _ (by rw [length_bytesOf]; omega), length_bytesOf]
  have hf := clientFrame_clear_of_tenant n bytes s hgood hmin hmax hdata hda
  rw [hu, State.clientSeen_eq] at hf
  obtain ⟨g, hg, hgdata, hgtenant, hgplace⟩ := State.offer_of_admits
    (s := s.clear.telling (s.clear.clientSeen n (bytesOf bytes)).notes s.clear.sent s.clear.way)
    (port := n) (trunk := false) hrun hdrain hclass hentry hstate hs (by rw [hlen]; exact ha)
  have hq : (t.queue q).frames = (s.queue q).frames ++ [g] := by
    rw [State.queue_congr htp, hf]
    exact hg
  have hglen : g.len = bytes.length := by rw [QFrame.len, hgdata, hlen]
  have hgplace' : some g.place = s.placeFor q (cellsOf bytes.length) := by
    rw [← hgplace, hlen]
    rfl
  refine ⟨t, ht, ⟨?_, ?_⟩, ?_⟩ <;> simp [hq, hglen, hgtenant, hgplace', hgdata]

end

/-- Settles O19, one lemma for each thing that admission makes of a frame. -/
theorem clientFramesComplete : Obligations.ClientFramesComplete :=
  ⟨clientFrameRx_bad, clientFrameRx_oversize, clientFrameRx_control, clientFrameRx_noTenant, clientFrameRx_queued⟩

end Sys2Proof.Machine

namespace Sys2Proof.Machine
namespace State

/-! ## What management frames and the end of a session leave alone (R232, R434) -/

/-- Between two states frames may have been built for principals and sessions of them may have ended: of the device only the
units named here have changed, and all that was sent stays sent. The staging write of an operator's session ends with it; unless
that may happen (`op`), the image stands. -/
structure Manages (op : Prop) (s t : State) : Prop where
  eq : t = { s with
    image := { s.image with
      staging := t.image.staging, stagedState := t.image.stagedState, stagedCode := t.image.stagedCode }
    keys := t.keys, tenants := t.tenants, tp := t.tp, alarm := t.alarm, sp := t.sp, notes := t.notes, sent := t.sent }
  sent : s.sent <+: t.sent
  image : ¬ op → t.image = s.image

namespace Manages

variable {op : Prop} {s t u : State}

theorem refl (s : State) : Manages op s s := ⟨rfl, List.prefix_rfl, fun _ => rfl⟩

theorem trans (h : Manages op s t) (h' : Manages op t u) : Manages op s u := by
  refine ⟨?_, h.sent.trans h'.sent, fun hn => (h'.image hn).trans (h.image hn)⟩
  calc u = _ := h'.eq
    _ = _ := by rw [h.eq]

theorem now (h : Manages op s t) : t.now = s.now := by rw [h.eq]
theorem start (h : Manages op s t) : t.start = s.start := by rw [h.eq]
theorem nor (h : Manages op s t) : t.nor = s.nor := by rw [h.eq]
theorem cus (h : Manages op s t) : t.cus = s.cus := by rw [h.eq]
theorem link (h : Manages op s t) : t.link = s.link := by rw [h.eq]
theorem zheac (h : Manages op s t) : t.zheac = s.zheac := by rw [h.eq]
theorem applyState (h : Manages op s t) : t.image.applyState = s.image.applyState := by rw [h.eq]
theorem applyResult (h : Manages op s t) : t.image.applyResult = s.image.applyResult := by rw [h.eq]
theorem applySlotCode (h : Manages op s t) : t.image.applySlotCode = s.image.applySlotCode := by rw [h.eq]

/-- A response that has been sent stays sent. -/
theorem answers (h : Manages op s t) {c : Caller} {verb status : Nat} {words : List Word}
    (ha : s.answers c verb status words = true) : t.answers c verb status words = true := by
  obtain ⟨m, hm, hr⟩ := List.any_eq_true.mp ha
  exact List.any_eq_true.mpr ⟨m, h.sent.subset hm, hr⟩

end Manages

section
variable {op : Prop} (s : State)

theorem setTp_manages (v : TurnpikeUnit) : Manages op s { s with tp := v } := ⟨rfl, List.prefix_rfl, fun _ => rfl⟩
theorem setSp_manages (v : SpUnit) : Manages op s { s with sp := v } := ⟨rfl, List.prefix_rfl, fun _ => rfl⟩
theorem send_manages (m : Sent) : Manages op s (s.send m) := ⟨rfl, List.prefix_append .., fun _ => rfl⟩
theorem note_manages (n : Note) : Manages op s (s.note n) := ⟨rfl, List.prefix_rfl, fun _ => rfl⟩
theorem emit_manages (e kind number arg : Nat) : Manages op s (s.emit e kind number arg) :=
  ⟨rfl, List.prefix_rfl, fun _ => rfl⟩
theorem setTenant_manages (t : Nat) (v : Tenant) : Manages op s (s.setTenant t v) :=
  ⟨rfl, List.prefix_rfl, fun _ => rfl⟩
theorem setSched_manages (n : Nat) (v : Sched) : Manages op s (s.setSched n v) := setTp_manages ..
theorem setSession_manages (c : Caller) (v : Session) : Manages op s (s.setSession c v) := by
  cases c with
  | operator | tenant => exact setSp_manages ..
  | plain => exact .refl s

theorem frameOut_manages (port len : Nat) : Manages op s (s.frameOut port len) := by
  unfold frameOut
  dsimp only
  split
  · exact (note_manages ..).trans (note_manages ..)
  · exact note_manages ..

theorem destroySlot_manages (n : Nat) : Manages op s (s.destroySlot n) := by
  unfold destroySlot
  dsimp only
  split
  · exact .refl s
  · split <;> exact ⟨rfl, List.prefix_rfl, fun _ => rfl⟩

theorem abandonStaging_manages (n : Nat) (h : op) : Manages op s (s.abandonStaging n) := by
  unfold abandonStaging
  split
  · split
    · exact ⟨rfl, List.prefix_rfl, (absurd h ·)⟩
    · exact .refl s
  · exact .refl s

variable {s} {t : State} {c : Caller} {n u kind : Nat} {body : List Nat}

theorem sealFrame_manages {m : List Nat} (h : s.sealFrame c kind body = some (m, t)) : Manages op s t := by
  unfold sealFrame at h
  split at h
  · cases h
    exact setSession_manages ..
  · cases h

theorem sealSession_manages {f : MgmtFrame} (h : s.sealSession n u kind body = some (f, t)) : Manages op s t := by
  obtain ⟨⟨m, t'⟩, hm, hf⟩ := Option.map_eq_some_iff.mp h
  cases hf
  exact sealFrame_manages hm

variable (s)

theorem sealWaiting_manages (t : Nat) : Manages op s (s.sealWaiting t) := by
  unfold sealWaiting
  dsimp only
  refine Manages.trans ?_ (setTp_manages ..)
  refine List.foldlRecOn s.tp.mgmtWait _ (motive := fun a : List (Nat × MgmtItem) × State => Manages op s a.2) (.refl s) (fun a ha e _ => ?_)
  split
  · split
    · split
      · next h => exact ha.trans (sealSession_manages h)
      · exact ha
    · exact ha
  · split <;> exact ha
  · exact ha

/-- What a session of `c` holds is given up: before its key is destroyed, and after. -/
def sessionSealed (c : Caller) : State :=
  match c with
  | .tenant t => s.sealWaiting t
  | _ => s
def sessionUnstaged (c : Caller) : State :=
  match c with
  | .operator n => s.abandonStaging n
  | _ => s

theorem sessionSealed_manages (c : Caller) : Manages op s (s.sessionSealed c) := by
  cases c with
  | tenant t => exact sealWaiting_manages s t
  | operator | plain => exact .refl s

theorem sessionUnstaged_manages (c : Caller) (h : isOperator c = true → op) : Manages op s (s.sessionUnstaged c) := by
  cases c with
  | operator n => exact abandonStaging_manages s n (h rfl)
  | tenant | plain => exact .refl s

/-- The requests that a session which has ended left behind are gone with it. -/
def sessionEnded (c : Caller) (v : Session) (cause : Nat) : State :=
  let l := s.sp.held.filter (fun f => decide (f.caller = c))
  let s := { s with sp := { s.sp with
    held := s.sp.held.filter (fun f => decide (f.caller ≠ c)), sessionMiss := satAdd 18 s.sp.sessionMiss l.length } }
  let s := s.occurs 35 0o002 0 l.length
  let s := { s with sp := { s.sp with
    thWaiting := s.sp.thWaiting.filter (fun w => decide (some w.1 ≠ closeSession.callerNo c))
    portWaiting := s.sp.portWaiting.map (fun w => if some w.1 = closeSession.callerNo c then (noSession, w.2) else w) } }
  if v.state = SessState.opened then s.emit 0o160002 (pathKind c) (pathNumber c) (sessArg c cause) else s

theorem sessionEnded_manages (c : Caller) (v : Session) (cause : Nat) : Manages op s (s.sessionEnded c v cause) := by
  unfold sessionEnded
  dsimp only
  have h (u w : SpUnit) (n : Note) : Manages op s { ({ s with sp := u }.note n) with sp := w } :=
    (setSp_manages ..).trans ((note_manages ..).trans (setSp_manages ..))
  split
  · exact (h ..).trans (emit_manages ..)
  · exact h ..

theorem closeSession_eq (c : Caller) (cause : Nat) :
    s.closeSession c cause =
      match s.session? c with
      | some v =>
        if v.state = SessState.idle then s
        else ((((s.sessionSealed c).setSession c {}).destroySlot (sessSlot c)).sessionUnstaged c).sessionEnded c v cause
      | none => s := rfl

theorem closeSession_manages (c : Caller) (cause : Nat) (h : isOperator c = true → op) :
    Manages op s (s.closeSession c cause) := by
  rw [closeSession_eq]
  split
  · split
    · exact .refl s
    · exact (sessionSealed_manages ..).trans ((setSession_manages ..).trans ((destroySlot_manages ..).trans
        ((sessionUnstaged_manages _ c h).trans (sessionEnded_manages ..))))
  · exact .refl s

theorem settleSeq_manages (c : Caller) (h : isOperator c = true → op) : Manages op s (s.settleSeq c) := by
  unfold settleSeq
  split
  · split
    · exact closeSession_manages s c 3 h
    · exact .refl s
  · exact .refl s

variable {s}

theorem buildNotify_manages {f : List Nat} (h : s.buildNotify u = some (f, t)) : Manages op s t := by
  unfold buildNotify at h
  dsimp only at h
  split at h
  · cases h
  · obtain ⟨⟨m, t'⟩, hm, hf⟩ := Option.map_eq_some_iff.mp h
    cases hf
    exact ((sealFrame_manages hm).trans (setTenant_manages ..)).trans
      (((note_manages ..).trans (send_manages ..)).trans (settleSeq_manages _ _ nofun))

theorem buildItem_manages {i : MgmtItem} {f : MgmtFrame} (h : s.buildItem n i = some (f, t)) : Manages op s t := by
  cases i with
  | session u kind body =>
    obtain ⟨⟨f', t'⟩, hm, hf⟩ := Option.map_eq_some_iff.mp h
    cases hf
    exact (sealSession_manages hm).trans (settleSeq_manages _ _ nofun)
  | notify u =>
    obtain ⟨⟨f', t'⟩, hm, hf⟩ := Option.map_eq_some_iff.mp h
    cases hf
    exact buildNotify_manages hm
  | whole f' =>
    cases h
    exact .refl s

variable (s)

theorem mgmtAdmit_manages (l : List (Nat × MgmtItem)) : Manages op s (s.mgmtAdmit l) := by
  induction l generalizing s with
  | nil => exact setTp_manages ..
  | cons e l ih =>
    obtain ⟨n, i⟩ := e
    rw [mgmtAdmit]
    split
    · split
      · next h => exact (buildItem_manages h).trans ((setSched_manages ..).trans (ih _))
      · exact ih s
    · exact setTp_manages ..

theorem queueMgmt_manages (n : Nat) (i : MgmtItem) : Manages op s (s.queueMgmt n i) := by
  unfold queueMgmt
  split
  · exact .refl s
  · exact mgmtAdmit_manages ..

/-! ## Responses (R434 to R444) -/

theorem toPrincipal_manages (c : Caller) (kind : Nat) (body : List Nat) (h : isOperator c = true → op) :
    Manages op s (s.toPrincipal c kind body) := by
  have hseal : Manages op s (match s.sealFrame c kind body, s.session? c with
      | some (m, s), some v =>
        ((s.send (.mport (s.mportFrame v.peer m))).frameOut 17 (sessionFrame false body.length)).settleSeq c
      | _, _ => s) := by
    split
    · next hm _ =>
      exact (sealFrame_manages hm).trans ((send_manages ..).trans ((frameOut_manages ..).trans (settleSeq_manages _ _ h)))
    · exact .refl s
  cases c with
  | tenant t => exact queueMgmt_manages ..
  | operator | plain => exact hseal

theorem answers_send (r : Response) : (s.send (.response r)).answers r.dest r.verb r.status r.words = true := by
  simp [answers, send]

/-- A response leaves: it is among what is sent, whatever follows from its frame. -/
theorem respond_responds (c : Caller) (verb status : Nat) (words : List Word) (h : isOperator c = true → op) :
    Manages op s (s.respond c verb status words) ∧ (s.respond c verb status words).answers c verb status words = true := by
  unfold respond
  dsimp only
  split
  · next v _ =>
    have ht := toPrincipal_manages (((s.occur 35 0o001).setSession c { v with
      stored := some { dest := c, verb := verb, status := status, seq := v.rxSeq, words := words }, busy := false }).send
      (.response { dest := c, verb := verb, status := status, seq := v.rxSeq, words := words })) c 0o04
      (Response.body { dest := c, verb := verb, status := status, seq := v.rxSeq, words := words }) h
    exact ⟨(note_manages ..).trans ((setSession_manages ..).trans ((send_manages ..).trans ht)), ht.answers (answers_send ..)⟩
  · have ht (r : Response) (m : Sent) (len : Nat) :
        Manages op (s.send (.response r)) (((s.send (.response r)).send m).frameOut 17 len) :=
      (send_manages ..).trans (frameOut_manages ..)
    exact ⟨(note_manages ..).trans ((send_manages ..).trans ((send_manages ..).trans (frameOut_manages ..))),
      Manages.answers ((send_manages (op := op) ..).trans (frameOut_manages ..)) (answers_send ..)⟩

theorem takeRequest_manages (c : Caller) (seq tag : Nat) (body : List Nat) (h : isOperator c = true → op) :
    Manages op s (s.takeRequest c seq tag body) := by
  have hemit (b : Prop) [Decidable b] (u : State) (e k n a : Nat) : Manages op u (if b then u.emit e k n a else u) := by
    split
    · exact emit_manages ..
    · exact .refl u
  unfold takeRequest
  dsimp only
  split
  · split
    · exact (setSession_manages ..).trans (hemit ..)
    · exact ((setSession_manages ..).trans (hemit ..)).trans (respond_responds _ _ _ _ _ h).1
  · exact .refl s

theorem handleRequest_manages (c : Caller) (seq tag : Nat) (body : List Nat) (h : isOperator c = true → op) :
    Manages op s (s.handleRequest c seq tag body) := by
  have htake := takeRequest_manages s c seq tag body h
  have hreplayed : Manages op s ({ s with sp := { s.sp with replayed := satInc 18 s.sp.replayed } }.occur 35 0o002) :=
    (setSp_manages ..).trans (note_manages ..)
  unfold handleRequest
  dsimp only
  split
  · exact .refl s
  · split
    · split
      · exact htake
      · exact hreplayed
    · split
      · split
        · exact (setSp_manages ..).trans (toPrincipal_manages _ _ _ _ h)
        · exact .refl s
      · split
        · split
          · exact setSp_manages ..
          · exact htake
        · exact hreplayed

theorem takeHeld_manages (c : Caller) (k : Nat) (h : isOperator c = true → op) : Manages op s (s.takeHeld c k) := by
  induction k generalizing s with
  | zero => exact .refl s
  | succ k ih =>
    have hnext (busy : Bool) (f : HeldRequest) : Manages op s (if busy then s
        else ({ s with sp := { s.sp with held := s.sp.held.erase f } }.handleRequest c f.seq f.tag f.body).takeHeld c k) := by
      split
      · exact .refl s
      · exact (setSp_manages ..).trans ((handleRequest_manages _ _ _ _ _ h).trans (ih _))
    rw [takeHeld]
    cases s.sp.held.find? (fun f => decide (f.caller = c)) with
    | none => exact .refl s
    | some f => exact hnext _ f

theorem respondLater_responds (c : Caller) (verb status : Nat) (words : List Word) (args : List Nat)
    (h : isOperator c = true → op) :
    Manages op s (s.respondLater c verb status words args) ∧
      (s.respondLater c verb status words args).answers c verb status words = true := by
  obtain ⟨hm, ha⟩ := respond_responds s c verb status words h
  have hlater : Manages op (s.respond c verb status words) (s.respondLater c verb status words args) :=
    (note_manages ..).trans (takeHeld_manages _ c _ h)
  exact ⟨hm.trans hlater, hlater.answers ha⟩

/-- A verb that its caller may use, its session open and its condition met, is served and answered (R435, R441, R444). -/
theorem serve_of_mayAct {s : State} {r : VerbCall} {verb : Nat} {unit : Option (Nat × Nat)} {args : List Nat}
    {run : State → Served} (h : s.mayAct r unit = true) :
    s.serve r verb true unit args run =
      (run s).st.respondLater r.caller verb (run s).status (run s).words args := by
  simp only [mayAct, Bool.and_eq_true, decide_eq_true_eq] at h
  obtain ⟨hopen, hcond⟩ := h
  simp [serve, serveWith, hopen, hcond]

end
end State
end Sys2Proof.Machine

namespace Sys2Proof.Machine
namespace State

/-! ## What the verification of a slot reads (R70) -/

/-- The parts of a state that the verification of a slot reads: the SPI NOR, the OTP, the register and what the start found. -/
def slotView (s : State) : State :=
  { nor := s.nor, otp := s.otp, keys := s.keys, isN := s.isN, cus := { startState := s.cus.startState, pend := s.cus.pend } }

theorem verifySlot_slotView (s : State) (slot : Nat) (readError : Option Nat) :
    s.slotView.verifySlot slot readError = s.verifySlot slot readError := rfl

theorem verifySlot_congr {s t : State} (h : t.slotView = s.slotView) (slot : Nat) (readError : Option Nat) :
    t.verifySlot slot readError = s.verifySlot slot readError := by
  rw [← verifySlot_slotView, h, verifySlot_slotView]

/-! ## The custodian takes a command (R113 to R118) -/

/-- A custodian command has come: CMD_LAST shows it. -/
def cusTaken (s : State) (cmd : Nat) : State := { s with cus := { s.cus with cmdLast := cmd } }

/-- What the custodian makes of a command that has reached it: refused in the order of R116, or begun. -/
def custodianRun (s : State) (cmd : Nat) (listed writes pre : Bool) (status : Nat) (go : State → State) : Served :=
  let t := (s.cusTaken cmd).windowTick
  let refuse := fun (k : Nat) =>
    ({ st := { t with cus := { t.cus with cmdResult := k } }.emitDev 0o011006, status := cusStatus k } : Served)
  if t.cus.win ≠ WinState.opened then refuse 2
  else if !listed || t.cusDeaf then refuse 3
  else if writes && t.cus.running.isSome then refuse 5
  else if !pre then refuse 4
  else { st := go t, status := status }

theorem custodian_eq (s : State) (r : VerbCall) (cmd : Nat) (listed writes pre : Bool) (status : Nat) (go : State → State) :
    s.custodian r cmd listed writes pre status go =
      s.serve r 0o11 (s.cusCarrier r.caller) none [] (fun s => s.custodianRun cmd listed writes pre status go) := rfl

/-- A custodian command whose preconditions are met is accepted and answered; `go` is what it begins. -/
theorem custodian_of_custodyFree {s : State} {r : VerbCall} {cmd status : Nat} {listed writes pre : Bool} {go : State → State}
    (h : s.custodyFree r = true) (hlisted : listed = true) (hpre : pre = true) :
    s.custodian r cmd listed writes pre status go =
      (go (s.cusTaken cmd)).respondLater r.caller 0o11 status [] [] := by
  simp only [custodyFree, custody, Bool.and_eq_true, decide_eq_true_eq, Bool.not_eq_true'] at h
  obtain ⟨⟨⟨⟨⟨hact, hcarrier⟩, hwin, hclose⟩, hdeaf⟩, hrunning⟩, hstopped⟩ := h
  have htick : (s.cusTaken cmd).windowTick = s.cusTaken cmd := if_neg hclose.not_ge
  have hdeaf' : ¬ (!listed || (s.cusTaken cmd).cusDeaf) = true := by
    rw [hlisted, show (s.cusTaken cmd).cusDeaf = false from hdeaf]
    decide
  have hidle : ¬ (writes && (s.cusTaken cmd).cus.running.isSome) = true := by
    show ¬ (writes && s.cus.running.isSome) = true
    simp [Option.isNone_iff_eq_none.mp hrunning]
  have hwin' : ¬ (s.cusTaken cmd).cus.win ≠ WinState.opened := not_not.mpr hwin
  have hrun : custodianRun s cmd listed writes pre status go = { st := go (s.cusTaken cmd), status := status } := by
    rw [custodianRun, htick, if_neg hwin', if_neg hdeaf', if_neg hidle, if_neg (by simp [hpre])]
  rw [custodian_eq, hcarrier, serve_of_mayAct hact, hrun]

/-- And it is answered ACCEPTED; what the response brings about leaves the command alone. -/
theorem custodian_accepts {s : State} {r : VerbCall} {cmd : Nat} {listed writes pre : Bool} {go : State → State}
    (h : s.custodyFree r = true) (hlisted : listed = true) (hpre : pre = true) :
    (s.custodian r cmd listed writes pre stAccepted go).answers r.caller 0o11 0o17 [] = true ∧
      Manages True (go (s.cusTaken cmd)) (s.custodian r cmd listed writes pre stAccepted go) := by
  rw [custodian_of_custodyFree h hlisted hpre]
  exact (respondLater_responds _ _ _ _ _ _ (fun _ => trivial)).symm

@[simp] theorem cusRun_cus (s : State) (cmd : Nat) (p : CusPhase) :
    (s.cusRun cmd p).cus = { s.cus with cmdResult := 7, running := some (cmd, p) } := rfl
@[simp] theorem cusTaken_cus (s : State) (cmd : Nat) : (s.cusTaken cmd).cus = { s.cus with cmdLast := cmd } := rfl
@[simp] theorem eraseTarget_cus (s : State) (target : Nat) : (s.eraseTarget target).cus = s.cus := by
  unfold eraseTarget
  split <;> rfl

/-- A target that is erased holds nothing (R102). -/
theorem eraseTarget_slot (s : State) (target : Nat) (h : s.norRefuses = false) :
    tabGet [] (s.eraseTarget target).nor.slots target = [] := by
  simp [eraseTarget, h]

end State

/-! ## The custodian commands of images (R101, R102, R126) -/

theorem restartWithStaged_begins (r : VerbCall) (readError : Option Nat) (s : State) (h : s.custodyFree r = true)
    (hservice : s.inService = true) (hstate : s.image.stagedState = 2) (hstaging : s.image.staging = none) :
    ∃ t, exec (.restartWithStaged r readError) s = .next t ∧ t.answers r.caller 0o11 0o17 [] = true ∧ t.cus =
      if (s.verifySlot 3 readError).1 = 1 then
        { s.cus with cmdLast := 0o10, cmdResult := 7, running := some (0o10, .bootRecord) }
      else { s.cus with cmdLast := 0o10, cmdResult := 4, running := none } := by
  have hverify : ((s.clear.cusTaken 0o10).cusRun 0o10 .bootRecord).verifySlot 3 readError = s.verifySlot 3 readError :=
    State.verifySlot_congr rfl 3 readError
  obtain ⟨hanswer, hm⟩ := State.custodian_accepts (s := s.clear) (cmd := 0o10) (writes := true)
    (go := fun s =>
      let s := s.cusRun 0o10 .bootRecord
      if (s.verifySlot 3 readError).1 = 1 then s else s.cusRefused 4)
    (pre := decide (s.image.stagedState = 2) && s.image.staging.isNone) h hservice (by simp [hstate, hstaging])
  refine ⟨_, rfl, hanswer, hm.cus.trans ?_⟩
  dsimp only
  rw [hverify]
  split <;> rfl

theorem restartWithStaged_accepts (r : VerbCall) (readError : Option Nat) (s : State) (h : s.custodyFree r = true)
    (hservice : s.inService = true) (hstate : s.image.stagedState = 2) (hstaging : s.image.staging = none) :
    ∃ t, exec (.restartWithStaged r readError) s = .next t ∧ t.answers r.caller 0o11 0o17 [] = true ∧
      t.cus.cmdLast = 0o10 ∧
      t.cus.running = (if (s.verifySlot 3 readError).1 = 1 then some (0o10, .bootRecord) else none) ∧
      t.cus.cmdResult = (if (s.verifySlot 3 readError).1 = 1 then 7 else 4) := by
  obtain ⟨t, ht, hanswer, hcus⟩ := restartWithStaged_begins r readError s h hservice hstate hstaging
  refine ⟨t, ht, hanswer, ?_⟩
  by_cases hv : (s.verifySlot 3 readError).1 = 1 <;> simp [hcus, hv]

/-- A commit is accepted when the staged slot holds the running image, and its target is erased first (R102). -/
theorem State.commitStaged_begins {r : VerbCall} {i : Image} {s : State} (cmd target : Nat) (h : s.custodyFree r = true)
    (hservice : s.inService = true) (hrunning : s.image.running = some i)
    (hdigest : slotDigest (s.slotRead 3 none) = i.digest) :
    (s.commitStaged r cmd target).answers r.caller 0o11 0o17 [] = true ∧
      (s.commitStaged r cmd target).cus =
        { s.cus with cmdLast := cmd, cmdResult := 7, running := some (cmd, .copying target) } ∧
      (s.norRefuses = false → tabGet [] (s.commitStaged r cmd target).nor.slots target = []) := by
  obtain ⟨hanswer, hm⟩ : (s.commitStaged r cmd target).answers r.caller 0o11 0o17 [] = true ∧
      Manages True (((s.cusTaken cmd).eraseTarget target).cusRun cmd (.copying target)) (s.commitStaged r cmd target) :=
    State.custodian_accepts h hservice (by rw [hrunning]; simpa using hdigest)
  refine ⟨hanswer, hm.cus.trans (by simp), fun hn => ?_⟩
  rw [hm.nor]
  exact State.eraseTarget_slot (s.cusTaken cmd) target hn

theorem commitStagedToA_accepts (r : VerbCall) (i : Image) (s : State) (h : s.custodyFree r = true)
    (hservice : s.inService = true) (hrunning : s.image.running = some i)
    (hdigest : slotDigest (s.slotRead 3 none) = i.digest) :
    ∃ t, exec (.commitStagedToA r) s = .next t ∧ t.answers r.caller 0o11 0o17 [] = true ∧
      t.cus = { s.cus with cmdLast := 0o11, cmdResult := 7, running := some (0o11, .copying 1) } ∧
      (s.norRefuses = false → tabGet [] t.nor.slots 1 = []) :=
  ⟨_, rfl, State.commitStaged_begins (s := s.clear) 0o11 1 h hservice hrunning hdigest⟩

theorem commitStagedToB_accepts (r : VerbCall) (i : Image) (s : State) (h : s.custodyFree r = true)
    (hservice : s.inService = true) (hrunning : s.image.running = some i)
    (hdigest : slotDigest (s.slotRead 3 none) = i.digest) :
    ∃ t, exec (.commitStagedToB r) s = .next t ∧ t.answers r.caller 0o11 0o17 [] = true ∧
      t.cus = { s.cus with cmdLast := 0o12, cmdResult := 7, running := some (0o12, .copying 2) } ∧
      (s.norRefuses = false → tabGet [] t.nor.slots 2 = []) :=
  ⟨_, rfl, State.commitStaged_begins (s := s.clear) 0o12 2 h hservice hrunning hdigest⟩

theorem raiseImageRung_accepts (r : VerbCall) (n : BitVec 6) (i : Image) (s : State) (h : s.custodyFree r = true)
    (hservice : s.inService = true) (hrunning : s.image.running = some i) (hlow : s.ladderValue .image < n.toNat)
    (hhigh : n.toNat ≤ i.rung) :
    ∃ t, exec (.raiseImageRung r n) s = .next t ∧ t.answers r.caller 0o11 0o17 [] = true ∧
      t.cus = { s.cus with cmdLast := 0o13, cmdResult := 7, running := some (0o13, .intent .image n.toNat) } := by
  have hstopped : s.cus.otpStopped = false := by simp_all [State.custodyFree]
  have hpre : (match s.image.running with
      | some i => decide (s.clear.ladderValue .image < n.toNat ∧ n.toNat ≤ i.rung)
      | none => false) = true := by
    rw [hrunning]
    exact decide_eq_true ⟨hlow, hhigh⟩
  obtain ⟨hanswer, hm⟩ := State.custodian_accepts (s := s.clear) (cmd := 0o13) (writes := true)
    (go := fun s => s.cusRunOtp 0o13 (.intent .image n.toNat)) h hservice hpre
  refine ⟨_, rfl, hanswer, hm.cus.trans ?_⟩
  simp [State.cusRunOtp, hstopped]

/-- Settles O9: each command is accepted by the one lemma on the custodian, and what the response brings about leaves its
first step alone. A staged slot that fails its verification ends RESTART_WITH_STAGED with PRECONDITION (R101, R118). -/
theorem custodyCommandsOfImagesComplete : Obligations.CustodyCommandsOfImagesComplete :=
  ⟨restartWithStaged_accepts, commitStagedToA_accepts, commitStagedToB_accepts, raiseImageRung_accepts⟩

end Sys2Proof.Machine

namespace Sys2Proof.Machine
namespace State

/-! ## The lease ladder (R127, R272, R274) -/

section
variable (s : State) (x : Nat)

@[simp] theorem denyLease_cus (cause : Nat) : (s.denyLease x cause).cus = s.cus := by
  unfold denyLease exhaust txEnter
  dsimp only
  split
  · simp
  · split <;> simp

@[simp] theorem denyLease_otp (cause : Nat) : (s.denyLease x cause).otp = s.otp := by
  unfold denyLease exhaust txEnter
  dsimp only
  split
  · simp
  · split <;> simp

theorem leaseDeniedTo_cus (q : Advance) : (s.leaseDeniedTo q).cus = s.cus := by
  cases q with
  | firstLease => exact foldl_keeps State.cus _ (fun s x => denyLease_cus s x 2) _ _
  | band x => exact denyLease_cus s x 2
  | downEpoch => rfl

theorem leaseDeniedTo_otp (q : Advance) : (s.leaseDeniedTo q).otp = s.otp := by
  cases q with
  | firstLease => exact foldl_keeps State.otp _ (fun s x => denyLease_otp s x 2) _ _
  | band x => exact denyLease_otp s x 2
  | downEpoch => rfl

theorem leaseGrantedTo_cus (q : Advance) (value : Nat) : (s.leaseGrantedTo q value).cus = s.cus := by
  cases q with
  | firstLease => exact foldl_keeps State.cus (fun (s : State) x => s.askJournal x (value * 2 ^ 51)) (fun _ _ => rfl) _ _
  | band x => rfl
  | downEpoch => rfl

theorem leaseGrantedTo_otp (q : Advance) (value : Nat) : (s.leaseGrantedTo q value).otp = s.otp := by
  cases q with
  | firstLease => exact foldl_keeps State.otp (fun (s : State) x => s.askJournal x (value * 2 ^ 51)) (fun _ _ => rfl) _ _
  | band x => rfl
  | downEpoch => rfl

end

@[simp] theorem blowRung_cus (s : State) (l : Ladder) (k mask : Nat) : (s.blowRung l k mask).cus = s.cus := rfl

end State

theorem leaseLadderAdvance_blows (q : Advance) (rest : List Advance) (s : State) (hq : s.cus.advances = q :: rest)
    (hwrites : s.cusWritesOtp = false) (hstopped : s.cus.otpStopped = false) (hlow : s.ladderValue .lease < 8191) :
    ∃ t, exec (.leaseLadderAdvance true true true true) s = .next t ∧
      t.rungDone .lease (s.ladderValue .lease + 1) = true ∧ t.cus.otpStopped = false := by
  have hwrites' : s.clear.cusWritesOtp = false := hwrites
  have hlow' : ¬ 8191 ≤ s.clear.ladderValue .lease := hlow.not_ge
  refine ⟨_, rfl, (State.rungDone_congr (s := (({ s.clear with cus := { s.cus with advances := rest } } : State).blowRung
    .lease (s.ladderValue .lease + 1) 12).blowRung .lease (s.ladderValue .lease + 1) 3) ?_ _ _).trans
    (State.rungDone_blowRung_done ..), ?_⟩
  · simp [hq, hwrites', hlow', hstopped, State.leaseGrantedTo_otp]
    rfl
  · simp [hq, hwrites', hlow', hstopped, State.leaseGrantedTo_cus]

theorem leaseLadderAdvance_refuses (q : Advance) (rest : List Advance) (s : State) (hq : s.cus.advances = q :: rest)
    (hwrites : s.cusWritesOtp = false) (hhigh : 8191 ≤ s.ladderValue .lease) :
    ∃ t, exec (.leaseLadderAdvance true true true true) s = .next t ∧
      t.otp = s.otp ∧ t.cus = { s.cus with advances := rest, exhReported := true } := by
  have hwrites' : s.clear.cusWritesOtp = false := hwrites
  have hhigh' : 8191 ≤ s.clear.ladderValue .lease := hhigh
  refine ⟨_, rfl, ?_⟩
  by_cases he : s.cus.exhReported = true
  · simp [hq, hwrites', hhigh', he, State.leaseDeniedTo_cus, State.leaseDeniedTo_otp]
  · simp [hq, hwrites', hhigh', he, State.leaseDeniedTo_cus, State.leaseDeniedTo_otp]

/-! ## The boot record and the copy (R101, R102) -/

theorem bootRecordWritten_restarts (cmd : Nat) (capture : PufState) (s : State)
    (hrunning : s.cus.running = some (cmd, .bootRecord)) (hn : s.norRefuses = false) :
    ∃ t, exec (.bootRecordWritten false true capture) s = .next t ∧
      t.start = { begun := true, phase := 1, captures := 1, capture := some capture.toNat, cause := 3, t0 := s.now } ∧
      t.nor.boot = some (bootRecord
        (match s.nor.boot with
          | some b => if bootValid b then (wordAt b 1).toNat + 1 else 1
          | none => 1) true) ∧ t.cus.running = none := by
  have hn' : s.clear.norRefuses = false := hn
  refine ⟨_, rfl, ?_⟩
  simp only [actState_start, actState_nor, actState_cus, State.clear_cus, hrunning, hn', Bool.or_self, Bool.false_eq_true,
    if_true, if_false]
  exact ⟨rfl, rfl, rfl⟩

/-- What becomes of a copy that stands in its target: it is verified there (R102). -/
def State.copyVerified (s : State) (target : Nat) (readError : Option Nat) : State :=
  match s.verifySlot target readError with
  | (1, some i) =>
    if i.rung ≤ s.ladderValue .image then (s.emitDev 0o020010).cusCompleted
    else if s.cus.otpStopped then s.cusOtpFail 0
    else s.cusNext (.intent .image i.rung)
  | _ => (s.emitDev 0o021011).cusRefused 4

namespace State

variable {s : State} {cmd target : Nat} {readError : Option Nat}

theorem cusNext_of_running {p : CusPhase} (q : CusPhase) (h : s.cus.running = some (cmd, p)) :
    s.cusNext q = { s with cus := { s.cus with running := some (cmd, q) } } := by simp [cusNext, h]

theorem copyVerified_nor (h : s.cus.running = some (cmd, .copying target)) :
    (s.copyVerified target readError).nor = s.nor := by
  unfold copyVerified
  split
  · split
    · rfl
    · split
      · rfl
      · rw [cusNext_of_running _ h]
  · rfl

/-- Of the custodian it changes the running command alone. -/
theorem copyVerified_cus (h : s.cus.running = some (cmd, .copying target)) :
    (s.copyVerified target readError).cus = { s.cus with
      cmdResult := (s.copyVerified target readError).cus.cmdResult
      running := (s.copyVerified target readError).cus.running } := by
  unfold copyVerified
  split
  · split
    · rfl
    · split
      · rfl
      · rw [cusNext_of_running _ h]
  · rfl

theorem copyVerified_cus_of_refused (h : (s.verifySlot target readError).1 ≠ 1) :
    (s.copyVerified target readError).cus = { s.cus with cmdResult := 4, running := none } := by
  unfold copyVerified
  split
  · next hv => exact absurd (congrArg Prod.fst hv) h
  · rfl

theorem copyVerified_cus_of_accepted (h : s.cus.running = some (cmd, .copying target)) (hs : s.cus.otpStopped = false)
    {i : Image} (hv : s.verifySlot target readError = (1, some i)) :
    (s.copyVerified target readError).cus =
      if i.rung ≤ s.ladderValue .image then { s.cus with cmdResult := 1, running := none }
      else { s.cus with running := some (cmd, .intent .image i.rung) } := by
  rw [copyVerified, hv]
  by_cases hr : i.rung ≤ s.ladderValue .image
  · simp only [hr, if_true]
    rfl
  · simp only [hr, if_false, hs, Bool.false_eq_true, cusNext_of_running _ h]

end State

theorem commitCopyDone_copies (worn : List (Nat × Byte)) (readError : Option Nat) (cmd target : Nat) (s : State)
    (hrunning : s.cus.running = some (cmd, .copying target)) (hn : s.norRefuses = false) :
    ∃ t, exec (.commitCopyDone false worn readError) s = .next t ∧
      t = actState [.nor, .cus] s (fun s =>
        (s.copySlot 3 target (worn.map (fun e => (e.1, e.2.toNat)))).copyVerified target readError) := by
  have hn' : s.clear.norRefuses = false := hn
  refine ⟨_, rfl, ?_⟩
  simp only [actState, State.clear_cus, hrunning, hn']
  rfl

theorem commitCopyDone_verifies (worn : List (Nat × Byte)) (readError : Option Nat) (cmd target : Nat) (s : State)
    (hrunning : s.cus.running = some (cmd, .copying target)) (hn : s.norRefuses = false) (hstopped : s.cus.otpStopped = false) :
    ∃ t, exec (.commitCopyDone false worn readError) s = .next t ∧
      t.nor = (s.copySlot 3 target (worn.map (fun e => (e.1, e.2.toNat)))).nor ∧
      ((t.verifySlot target readError).1 ≠ 1 → t.cus = { s.cus with cmdResult := 4, running := none }) ∧
      ∀ i, t.verifySlot target readError = (1, some i) →
        if i.rung ≤ s.ladderValue .image then t.cus = { s.cus with cmdResult := 1, running := none }
        else t.cus = { s.cus with running := some (cmd, .intent .image i.rung) } := by
  obtain ⟨t, ht, he⟩ := commitCopyDone_copies worn readError cmd target s hrunning hn
  let u := s.clear.copySlot 3 target (worn.map (fun e => (e.1, e.2.toNat)))
  have hu : u.cus.running = some (cmd, .copying target) := hrunning
  have hnor : t.nor = u.nor := by
    rw [he, actState_nor]
    exact State.copyVerified_nor hu
  have hcus : t.cus = (u.copyVerified target readError).cus := by
    rw [he, actState_cus]
    rfl
  have hverify : t.verifySlot target readError = u.verifySlot target readError := by
    refine State.verifySlot_congr ?_ target readError
    rw [State.slotView, hnor, hcus, State.copyVerified_cus hu, he]
    rfl
  refine ⟨t, ht, hnor, fun h => ?_, fun i hi => ?_⟩
  · rw [hverify] at h
    exact hcus.trans (State.copyVerified_cus_of_refused h)
  · have h := hcus.trans (State.copyVerified_cus_of_accepted hu hstopped (hverify.symm.trans hi))
    have hl : u.ladderValue .image = s.ladderValue .image := rfl
    rw [hl] at h
    split
    · next hr => rwa [if_pos hr] at h
    · next hr => rwa [if_neg hr] at h

/-- Settles O11: the ladder's fuses and the boot record are written as they stand, and a copy is verified where it stands. -/
theorem leaseLadderAndBootRecordComplete : Obligations.LeaseLadderAndBootRecordComplete :=
  ⟨leaseLadderAdvance_blows, leaseLadderAdvance_refuses, bootRecordWritten_restarts, commitCopyDone_verifies⟩

end Sys2Proof.Machine

namespace Sys2Proof.Machine
namespace State

/-! ## What the end of an apply leaves alone (Table 4.8) -/

/-- Between two states sections of an apply have taken effect, and the observers have been told: nothing else has changed. -/
def Settles (s t : State) : Prop := t = { s with image := t.image, alarm := t.alarm, notes := t.notes }

namespace Settles

variable {s t u : State}

theorem refl (s : State) : s.Settles s := rfl

theorem trans (h : s.Settles t) (h' : t.Settles u) : s.Settles u := by
  calc u = _ := h'
    _ = _ := by rw [h]

theorem nor (h : s.Settles t) : t.nor = s.nor := by rw [h]
theorem link (h : s.Settles t) : t.link = s.link := by rw [h]

end Settles

theorem settleApply_settles (s : State) : s.Settles s.settleApply := by
  unfold settleApply
  split
  · split <;> rfl
  · rfl

theorem takePending_settles (s : State) (type inst : Nat) : s.Settles (s.takePending type inst) := by
  unfold takePending
  split <;> rfl

theorem settleBlock_settles (s : State) (type b : Nat) : s.Settles (s.settleBlock type b) := by
  have h (ok : Bool) : s.Settles (if ok then (s.takePending type b).settleApply else s) := by
    split
    · exact (takePending_settles ..).trans (settleApply_settles _)
    · exact .refl s
  unfold settleBlock
  split
  · exact h _
  · exact .refl s

/-! ## A lease message leaves (R303) -/

section
variable (s : State)

/-- A lease message counts at the Zheac controller; for the rest it is a management frame. -/
theorem sendLease_manages {op : Prop} (lane type stream slot pn challenge : Nat) :
    ∃ z : ZheacUnit, Manages op { s with zheac := z } (s.sendLease lane type stream slot pn challenge) := by
  unfold sendLease
  split
  · exact ⟨_, (send_manages ..).trans (queueMgmt_manages ..)⟩
  · exact ⟨s.zheac, .refl s⟩

@[simp] theorem sendLease_link (lane type stream slot pn challenge : Nat) :
    (s.sendLease lane type stream slot pn challenge).link = s.link := by
  obtain ⟨z, h⟩ := sendLease_manages s (op := True) lane type stream slot pn challenge
  exact h.link
@[simp] theorem sendLease_nor (lane type stream slot pn challenge : Nat) :
    (s.sendLease lane type stream slot pn challenge).nor = s.nor := by
  obtain ⟨z, h⟩ := sendLease_manages s (op := True) lane type stream slot pn challenge
  exact h.nor
/-- On a lane that is UP, under a key that stands, a notice leaves and is counted. -/
theorem sendLease_notice {lane slot value : Nat} (stream pn challenge : Nat) (hup : s.laneUpNow lane = true)
    (hreplay : s.replayMode = false) (hkey : s.lookup slot = some value) :
    Sent.lease lane 7 stream pn challenge ∈ (s.sendLease lane 7 stream slot pn challenge).sent ∧
      (s.sendLease lane 7 stream slot pn challenge).zheac.notices = satInc 18 s.zheac.notices := by
  have hif : (if s.laneUpNow lane && !s.replayMode then s.lookup slot else none) = some value := by
    simp [hup, hreplay, hkey]
  unfold sendLease
  rw [hif]
  dsimp only
  refine ⟨(queueMgmt_manages (op := True) _ _ _).sent.subset (by simp [send]), ?_⟩
  rw [queueZheac, (queueMgmt_manages (op := True) _ _ _).zheac]
  rfl

@[simp] theorem txStream_sendLease (lane type stream slot pn challenge x : Nat) :
    (s.sendLease lane type stream slot pn challenge).txStream x = s.txStream x := by simp [txStream]
@[simp] theorem rxStream_sendLease (lane type stream slot pn challenge x : Nat) :
    (s.sendLease lane type stream slot pn challenge).rxStream x = s.rxStream x := by simp [rxStream]

end

/-! ## A lease message comes (R276, R303) -/

/-- A message on a lane that takes Zheac frames goes to its controller; the observers have seen its frame. -/
theorem zheacRx_of_lane {s : State} {lane n : Nat} (words : List Word) (f : State → Nat → List Word → State)
    (h : s.zheacLane lane = some n) :
    ∃ notes, s.clear.zheacRx lane words f = f (s.telling notes [] s.way) n words := by
  have hl : s.clear.zheacLane lane = some n := h
  have hseen (len : Nat) : s.clear.frameIn n len = s.telling (s.clear.frameIn n len).notes [] s.way := by
    unfold frameIn
    dsimp only
    split <;> rfl
  refine ⟨(s.clear.frameIn n (zheacLen words.length)).notes, ?_⟩
  rw [zheacRx, hl]
  dsimp only
  rw [← hseen]

/-- A lane that takes Zheac frames is UP, and no replay runs. -/
theorem zheacLane_up {s : State} {lane n : Nat} (h : s.zheacLane lane = some n) :
    s.laneUpNow n = true ∧ s.replayMode = false := by
  unfold zheacLane at h
  split at h
  · split at h
    · cases h
      simp_all
    · cases h
  · cases h

/-- The stream that a lease message names is on the message's lane and has a key. -/
theorem leaseTx_some {s : State} {lane n x : Nat} {w : List Word} (h : s.leaseTx lane n w = some x) :
    entLane (s.txStream x).entry = lane ∧ ∃ value, s.lookup (slotTx x (s.txStream x).an) = some value := by
  unfold leaseTx at h
  dsimp only at h
  split at h
  · next hc =>
    cases h
    simp only [Bool.and_eq_true, decide_eq_true_eq] at hc
    obtain ⟨⟨-, hlane⟩, htag⟩ := hc
    refine ⟨hlane, ?_⟩
    unfold tagOk at htag
    split at htag
    · exact ⟨_, ‹_›⟩
    · cases htag
  · cases h

section
variable {s : State} {n x : Nat} {w : List Word}

theorem leaseQuery_of_tx (hok : s.leaseOk w 6 = true) (hx : s.leaseTx n 18 w = some x)
    (hn : s.notices (s.txStream x) = true) :
    s.leaseQuery n w =
      if (s.txStream x).state = .leaseWait ∧ (s.txStream x).noticeUntil = none then
        s.setTx x { s.txStream x with query := some (zWide w 6) }
      else s.sendNotice x (s.txStream x).nextPn (zWide w 6) := by
  simp [leaseQuery, hok, hx, hn]

/-- The notice counts: in NOTICE-WAIT when it answers the stream's challenge, after that when it raises LOWEST_PN (R276). -/
def noticeTaken (s : State) (x : Nat) (w : List Word) : Bool :=
  let v := s.rxStream x
  if v.state = RxState.noticeWait then decide (v.challenge = some (zWide w 10))
  else match (rxPn v v.an).lowest with
    | some l => decide (l < zWide w 6)
    | none => false

/-- The stream after a notice that counts: its packet numbers follow the notice's, and it runs. -/
def noticed (s : State) (x : Nat) (w : List Word) : State :=
  let v := s.rxStream x
  let v' := setRxPn v v.an { nextRx := zWide w 6, lowest := some (zWide w 6) }
  if v.state = RxState.noticeWait then s.rxEnter x .running v.an { v' with challenge := none } else s.setRx x v'

@[simp] theorem setRxPn_an (v : RxStream) (an : Nat) (p : RxPn) : (setRxPn v an p).an = v.an := by
  unfold setRxPn
  split <;> rfl

theorem leaseNotice_of_rx (hok : s.leaseOk w 7 = true) (hx : s.leaseRx n w = some x) :
    s.leaseNotice n w =
      if entNotice (s.rxStream x).entry && s.noticeTaken x w then
        (s.noticed x w).sendLease n 8 (zStream w) (slotRx x (s.rxStream x).an) (zWide w 6) 0
      else s := by
  unfold leaseNotice noticeTaken noticed
  rw [hok, hx]
  by_cases hw : (s.rxStream x).state = RxState.noticeWait
  · simp [hw]
  · simp [hw] <;> rfl

@[simp] theorem rxPn_setRxPn_same (v : RxStream) (an : Nat) (p : RxPn) : rxPn (setRxPn v an p) an = p := by
  by_cases h : an % 2 = 0 <;> simp [rxPn, setRxPn, h]

/-- The packet numbers of a stream do not depend on its state, AN, GEN or challenge. -/
theorem rxPn_congr {v v' : RxStream} (an : Nat) (he : v'.even = v.even) (ho : v'.odd = v.odd) : rxPn v' an = rxPn v an := by
  rw [rxPn, he, ho, rxPn]

@[simp] theorem rxStream_rxEnter_same (s : State) (x : Nat) (st : RxState) (an : Nat) (v : RxStream) :
    (s.rxEnter x st an v).rxStream x =
      { v with state := st, an := an, gen := if v.state = st ∧ v.an = an then v.gen else (v.gen + 1) % 32 } :=
  rxStream_setRx_same ..
@[simp] theorem txStream_txEnter_same (s : State) (x : Nat) (st : TxState) (an : Nat) (v : TxStream) :
    (s.txEnter x st an v).txStream x =
      { v with state := st, an := an, gen := if v.state = st ∧ v.an = an then v.gen else (v.gen + 1) % 32 } :=
  txStream_setTx_same ..

theorem noticed_pn : rxPn ((s.noticed x w).rxStream x) (s.rxStream x).an =
    { nextRx := zWide w 6, lowest := some (zWide w 6) } := by
  unfold noticed
  dsimp only
  split
  · rw [rxStream_rxEnter_same]
    exact (rxPn_congr _ rfl rfl).trans (rxPn_setRxPn_same ..)
  · rw [rxStream_setRx_same]
    exact rxPn_setRxPn_same ..

theorem noticed_state (h : (s.rxStream x).state = .noticeWait) : ((s.noticed x w).rxStream x).state = .running := by
  simp [noticed, h]

theorem leaseAck_of_tx (hok : s.leaseOk w 8 = true) (hx : s.leaseTx n 18 w = some x)
    (hu : (s.txStream x).noticeUntil.isSome = true) (hpn : zWide w 6 = (s.txStream x).nextPn) :
    s.leaseAck n w = s.noticeOver x := by
  simp [leaseAck, hok, hx, hu, hpn]

theorem leaseAck_of_none (hok : s.leaseOk w 8 = true) (hx : s.leaseTx n 18 w = none) : s.leaseAck n w = s.tagFails n := by
  simp [leaseAck, hok, hx]

theorem noticeOver_stream (s : State) (x : Nat) :
    ((s.noticeOver x).txStream x).state = stuckOr (s.txStream x) .running ∧
      ((s.noticeOver x).txStream x).noticeUntil = none := by
  simp [noticeOver]

@[simp] theorem emitOnceKey_link (s : State) (key e kind number arg : Nat) :
    (s.emitOnceKey key e kind number arg).link = s.link := by
  unfold emitOnceKey
  split
  · rfl
  · simp
@[simp] theorem emitOnceKey_zheac (s : State) (key e kind number arg : Nat) :
    (s.emitOnceKey key e kind number arg).zheac = s.zheac := by
  unfold emitOnceKey
  split
  · rfl
  · simp

end

theorem tx_congr {s t : State} (h : t.link = s.link) (x : Nat) : t.txStream x = s.txStream x := by
  rw [txStream, txStream, h]
theorem rx_congr {s t : State} (h : t.link = s.link) (x : Nat) : t.rxStream x = s.rxStream x := by
  rw [rxStream, rxStream, h]

end State

@[simp] theorem actState_txStream (ps : List Part) (s : State) (f : State → State) (x : Nat) :
    (actState ps s f).txStream x = if ps.contains .link then (f s.clear).txStream x else s.txStream x := by
  simp only [State.txStream, actState_link]
  split <;> rfl
@[simp] theorem actState_rxStream (ps : List Part) (s : State) (f : State → State) (x : Nat) :
    (actState ps s f).rxStream x = if ps.contains .link then (f s.clear).rxStream x else s.rxStream x := by
  simp only [State.rxStream, actState_link]
  split <;> rfl

/-! ## The commands of lease messages -/

section
variable (lane : Fin 16) (words : List Word) (n x : Nat) (s : State)

theorem leaseQueryRx_answers (hlane : s.zheacLane lane = some n) (hok : s.leaseOk words 6 = true)
    (hx : s.leaseTx n 18 words = some x) (hn : s.notices (s.txStream x) = true)
    (hw : (s.txStream x).state ≠ .leaseWait ∨ (s.txStream x).noticeUntil.isSome = true) :
    ∃ t, exec (.leaseQueryRx lane words) s = .next t ∧
      Sent.lease n 7 x (s.txStream x).nextPn (zWide words 6) ∈ t.sent ∧ t.zheac.notices = satInc 18 s.zheac.notices := by
  obtain ⟨notes, hu⟩ := State.zheacRx_of_lane words State.leaseQuery hlane
  obtain ⟨hup, hreplay⟩ := State.zheacLane_up hlane
  obtain ⟨hentry, value, hkey⟩ := State.leaseTx_some hx
  have hwait : ¬ ((s.txStream x).state = .leaseWait ∧ (s.txStream x).noticeUntil = none) := by
    rintro ⟨hs, hnone⟩
    simp [hs, hnone] at hw
  have hq : (s.telling notes [] s.way).leaseQuery n words =
      (s.telling notes [] s.way).sendLease n 7 x (slotTx x (s.txStream x).an) (s.txStream x).nextPn (zWide words 6) := by
    refine (State.leaseQuery_of_tx (s := s.telling notes [] s.way) hok hx hn).trans ((if_neg hwait).trans ?_)
    rw [← hentry]
    rfl
  refine ⟨_, rfl, ?_⟩
  simp only [actState_sent, actState_zheac, hu, hq]
  exact State.sendLease_notice (s := s.telling notes [] s.way) x _ _ hup hreplay hkey

theorem leaseQueryRx_waits (hlane : s.zheacLane lane = some n) (hok : s.leaseOk words 6 = true)
    (hx : s.leaseTx n 18 words = some x) (hn : s.notices (s.txStream x) = true)
    (hs : (s.txStream x).state = .leaseWait) (hnone : (s.txStream x).noticeUntil = none) :
    ∃ t, exec (.leaseQueryRx lane words) s = .next t ∧ (t.txStream x).query = some (zWide words 6) := by
  obtain ⟨notes, hu⟩ := State.zheacRx_of_lane words State.leaseQuery hlane
  have hq := (State.leaseQuery_of_tx (s := s.telling notes [] s.way) hok hx hn).trans (if_pos ⟨hs, hnone⟩)
  refine ⟨_, rfl, ?_⟩
  simp [hu, hq]

/-- What a notice for a receive stream leaves of the link. -/
theorem leaseNoticeRx_link (hlane : s.zheacLane lane = some n) (hok : s.leaseOk words 7 = true)
    (hx : s.leaseRx n words = some x) :
    ∃ t, exec (.leaseNoticeRx lane words) s = .next t ∧ t.link =
      if entNotice (s.rxStream x).entry && s.noticeTaken x words then (s.noticed x words).link else s.link := by
  obtain ⟨notes, hu⟩ := State.zheacRx_of_lane words State.leaseNotice hlane
  have hq := State.leaseNotice_of_rx (s := s.telling notes [] s.way) hok hx
  refine ⟨_, rfl, ?_⟩
  rw [actState_link, if_pos (by rfl), hu, hq]
  have hv : (s.telling notes [] s.way).rxStream x = s.rxStream x := rfl
  have ht : (s.telling notes [] s.way).noticeTaken x words = s.noticeTaken x words := rfl
  rw [hv, ht]
  split
  · rw [State.sendLease_link]
    unfold State.noticed
    dsimp only
    split <;> simp_all <;> rfl
  · rfl

theorem leaseNoticeRx_runs (hlane : s.zheacLane lane = some n) (hok : s.leaseOk words 7 = true)
    (hx : s.leaseRx n words = some x) (hn : entNotice (s.rxStream x).entry = true)
    (hs : (s.rxStream x).state = .noticeWait) (hc : (s.rxStream x).challenge = some (zWide words 10)) :
    ∃ t, exec (.leaseNoticeRx lane words) s = .next t ∧ (t.rxStream x).state = .running ∧
      State.rxPn (t.rxStream x) (s.rxStream x).an = { nextRx := zWide words 6, lowest := some (zWide words 6) } := by
  obtain ⟨t, ht, hlink⟩ := leaseNoticeRx_link lane words n x s hlane hok hx
  rw [if_pos (by simp [hn, State.noticeTaken, hs, hc])] at hlink
  refine ⟨t, ht, ?_⟩
  rw [State.rx_congr hlink]
  exact ⟨State.noticed_state hs, State.noticed_pn⟩

theorem leaseNoticeRx_other (hlane : s.zheacLane lane = some n) (hok : s.leaseOk words 7 = true)
    (hx : s.leaseRx n words = some x) (hs : (s.rxStream x).state = .noticeWait)
    (hc : (s.rxStream x).challenge ≠ some (zWide words 10)) :
    ∃ t, exec (.leaseNoticeRx lane words) s = .next t ∧ t.link = s.link := by
  obtain ⟨t, ht, hlink⟩ := leaseNoticeRx_link lane words n x s hlane hok hx
  exact ⟨t, ht, hlink.trans (if_neg (by simp [State.noticeTaken, hs, hc]))⟩

theorem leaseNoticeRx_raises (low : Nat) (hlane : s.zheacLane lane = some n) (hok : s.leaseOk words 7 = true)
    (hx : s.leaseRx n words = some x) (hn : entNotice (s.rxStream x).entry = true)
    (hs : (s.rxStream x).state ≠ .noticeWait) (hlow : (State.rxPn (s.rxStream x) (s.rxStream x).an).lowest = some low) :
    ∃ t, exec (.leaseNoticeRx lane words) s = .next t ∧
      (State.rxPn (t.rxStream x) (s.rxStream x).an).lowest = some (max low (zWide words 6)) := by
  obtain ⟨t, ht, hlink⟩ := leaseNoticeRx_link lane words n x s hlane hok hx
  refine ⟨t, ht, ?_⟩
  have htaken : s.noticeTaken x words = decide (low < zWide words 6) := by simp [State.noticeTaken, hs, hlow]
  by_cases hl : low < zWide words 6
  · rw [if_pos (by simp [hn, htaken, hl])] at hlink
    rw [State.rx_congr hlink, State.noticed_pn, max_eq_right hl.le]
  · rw [if_neg (by simp [htaken, hl])] at hlink
    rw [State.rx_congr hlink, hlow, max_eq_left (by omega)]

theorem noticeAckRx_runs (hlane : s.zheacLane lane = some n) (hok : s.leaseOk words 8 = true)
    (hx : s.leaseTx n 18 words = some x) (hu : (s.txStream x).noticeUntil.isSome = true)
    (hpn : zWide words 6 = (s.txStream x).nextPn) :
    ∃ t, exec (.noticeAckRx lane words) s = .next t ∧
      (t.txStream x).state = State.stuckOr (s.txStream x) .running ∧ (t.txStream x).noticeUntil = none := by
  obtain ⟨notes, ha⟩ := State.zheacRx_of_lane words State.leaseAck hlane
  have hq := State.leaseAck_of_tx (s := s.telling notes [] s.way) hok hx hu hpn
  refine ⟨_, rfl, ?_⟩
  rw [actState_txStream, if_pos (by rfl), ha, hq]
  exact State.noticeOver_stream (s.telling notes [] s.way) x

end

theorem noticeAckRx_tagFails (lane : Fin 16) (words : List Word) (n : Nat) (s : State) (hlane : s.zheacLane lane = some n)
    (hok : s.leaseOk words 8 = true) (hx : s.leaseTx n 18 words = none) :
    ∃ t, exec (.noticeAckRx lane words) s = .next t ∧ t.zheac.tagFails = satInc 18 s.zheac.tagFails ∧ t.link = s.link := by
  obtain ⟨notes, ha⟩ := State.zheacRx_of_lane words State.leaseAck hlane
  have hq := State.leaseAck_of_none (s := s.telling notes [] s.way) hok hx
  refine ⟨_, rfl, ?_⟩
  rw [actState_zheac, if_pos (by rfl), actState_link, if_pos (by rfl), ha, hq]
  simp [State.tagFails, State.telling]

end Sys2Proof.Machine

namespace Sys2Proof.Machine
namespace State

/-! ## Leases (R272 to R276) -/

/-- A slot of a stream holds no key that a containment would follow (Table 18.5): its destroy changes the register alone. -/
theorem destroyKey_of_stream {s : State} {n : Nat} (hr : s.replaying = false) (hn : n < 65536) :
    s.destroyKey n = s.destroySlot n := by
  have h1 : ¬ (65536 ≤ n ∧ n ≤ 65551) := by omega
  have h2 : n ≠ slotDevMem := by simp [slotDevMem]; omega
  simp [destroyKey, hr, destroyContained, containSlotFault, h1, h2]

theorem slotTx_lt (stream : Fin 16384) (an : Nat) : slotTx stream an < 32768 := by
  have := stream.isLt
  simp only [slotTx]
  omega

/-- After its destroy a slot of a use holds no key (R145). -/
theorem keyValid_destroySlot (s : State) (n : Nat) (h : slotUse n ≠ 0) : (s.destroySlot n).keyValid n = false := by
  have hl := lookup_destroySlot s n h
  simpa [lookup] using hl

@[simp] theorem setTx_journal (s : State) (x : Nat) (v : TxStream) : (s.setTx x v).link.journal = s.link.journal := rfl
@[simp] theorem txEnter_journal (s : State) (x : Nat) (st : TxState) (an : Nat) (v : TxStream) :
    (s.txEnter x st an v).link.journal = s.link.journal := rfl
@[simp] theorem txEnter_nor (s : State) (x : Nat) (st : TxState) (an : Nat) (v : TxStream) :
    (s.txEnter x st an v).nor = s.nor := rfl
@[simp] theorem emit_txStream (s : State) (e kind number arg x : Nat) :
    (s.emit e kind number arg).txStream x = s.txStream x := tx_congr (emit_link ..) x
@[simp] theorem emit_rxStream (s : State) (e kind number arg x : Nat) :
    (s.emit e kind number arg).rxStream x = s.rxStream x := rx_congr (emit_link ..) x

/-- A stream that can take no further lease says why; the journal and the SPI NOR stand. -/
theorem denyLease_denied (s : State) (x cause : Nat) :
    ((s.denyLease x cause).txStream x).denied = some cause ∧ (s.denyLease x cause).link.journal = s.link.journal ∧
      (s.denyLease x cause).nor = s.nor := by
  unfold denyLease exhaust
  dsimp only
  split
  · simp
  · split <;> simp

/-- What taking a lease leaves alone of the SPI NOR and of the leases of a stream. -/
structure KeepsLeases (x : Nat) (s t : State) : Prop where
  nor : t.nor = s.nor
  journal : t.link.journal = s.link.journal
  leasesTaken : t.link.leasesTaken = s.link.leasesTaken
  asked : (t.txStream x).asked = (s.txStream x).asked

namespace KeepsLeases

variable {x : Nat} {s t u : State}

theorem of_link (hn : t.nor = s.nor) (hl : t.link = s.link) : KeepsLeases x s t :=
  ⟨hn, by rw [hl], by rw [hl], by rw [tx_congr hl]⟩

theorem refl (s : State) : KeepsLeases x s s := of_link rfl rfl

theorem trans (h : KeepsLeases x s t) (h' : KeepsLeases x t u) : KeepsLeases x s u :=
  ⟨h'.nor.trans h.nor, h'.journal.trans h.journal, h'.leasesTaken.trans h.leasesTaken, h'.asked.trans h.asked⟩

end KeepsLeases

section
variable (s : State) (x : Nat)

theorem setTx_keepsLeases (v : TxStream) (h : v.asked = (s.txStream x).asked) : KeepsLeases x s (s.setTx x v) :=
  ⟨rfl, rfl, rfl, by rw [txStream_setTx_same, h]⟩

theorem txEnter_keepsLeases (st : TxState) (an : Nat) (v : TxStream) (h : v.asked = (s.txStream x).asked) :
    KeepsLeases x s (s.txEnter x st an v) := setTx_keepsLeases s x _ h

theorem emit_keepsLeases (e kind number arg : Nat) : KeepsLeases x s (s.emit e kind number arg) :=
  .of_link (emit_nor ..) (emit_link ..)

theorem settleBlock_keepsLeases (type b : Nat) : KeepsLeases x s (s.settleBlock type b) :=
  .of_link (settleBlock_settles ..).nor (settleBlock_settles ..).link

theorem installKey_keepsLeases (n value : Nat) : KeepsLeases x s (s.installKey n value) := by
  unfold installKey
  split <;> exact .of_link (by simp [keyRecord]) (by simp [keyRecord])

theorem sendNotice_keepsLeases (pn challenge : Nat) : KeepsLeases x s (s.sendNotice x pn challenge) :=
  .of_link (sendLease_nor ..) (sendLease_link ..)

theorem txStuck_keepsLeases : KeepsLeases x s (s.txStuck x) := by
  unfold txStuck
  dsimp only
  split
  · exact .refl s
  · exact (txEnter_keepsLeases _ _ _ _ _ rfl).trans (emit_keepsLeases ..)

theorem entryAtAn_keepsLeases : KeepsLeases x s (s.entryAtAn x) := by
  unfold entryAtAn
  dsimp only
  split
  · exact .refl s
  · refine .trans (setTx_keepsLeases s x _ ?_) (settleBlock_keepsLeases ..)
    rfl

/-- The key of a PINNED_KEYS entry goes into its slot, `new` when the stream changes AN with it (R271, R278). -/
def pinTaken (p : List Word) (new : Bool) : State :=
  let v := s.txStream x
  let slot := slotTx x (pinAn p)
  if s.canInstall slot then
    let s := s.installKey slot (s.pinValue false x p)
    let s := s.txEnter x v.state (pinAn p) { v with
      pin := p, keyedAt := s.now, rekeys := if new then satInc 18 v.rekeys else v.rekeys }
    let s := if new then s.countRekey.emit 0o100001 3 x (pinAn p) else s
    s.settleBlock 0o017 (x / 64)
  else
    let s := s.setTx x { v with pin := p }
    (if s.slotFaulty slot then s.txStuck x else s).settleBlock 0o017 (x / 64)

theorem applyTxPin_eq (p : List Word) (hp : p = entryIn (s.nextSection 0o017 (x / 64)) 32 (x % 64)) :
    s.applyTxPin x =
      if p = (s.txStream x).pin || p.isEmpty then s
      else if s.nodeSet then
        (if decide (pinAn p ≠ (s.txStream x).an) then s.entryAtAn x else s).pinTaken x p
          (decide (pinAn p ≠ (s.txStream x).an))
      else (s.setTx x { s.txStream x with pin := p }).settleBlock 0o017 (x / 64) := by
  subst hp
  rfl

theorem pinTaken_keepsLeases (p : List Word) (new : Bool) : KeepsLeases x s (s.pinTaken x p new) := by
  have hcount (s : State) (an : Nat) : KeepsLeases x s (if new then s.countRekey.emit 0o100001 3 x an else s) := by
    split
    · exact .trans (t := s.countRekey) ⟨rfl, rfl, rfl, rfl⟩ (emit_keepsLeases ..)
    · exact .refl s
  have hstuck (b : Bool) (s : State) : KeepsLeases x s (if b then s.txStuck x else s) := by
    split
    · exact txStuck_keepsLeases s x
    · exact .refl s
  have hinstall := installKey_keepsLeases s x (slotTx x (pinAn p)) (s.pinValue false x p)
  unfold pinTaken
  dsimp only
  split
  · refine hinstall.trans (.trans (txEnter_keepsLeases _ x _ _ _ ?_) ((hcount ..).trans (settleBlock_keepsLeases ..)))
    exact hinstall.asked.symm
  · refine .trans (setTx_keepsLeases s x _ ?_) ((hstuck ..).trans (settleBlock_keepsLeases ..))
    rfl

/-- A new key of a pinned stream leaves its leases to follow one another (R271). -/
theorem applyTxPin_keepsLeases : KeepsLeases x s (s.applyTxPin x) := by
  rw [applyTxPin_eq s x _ rfl]
  split
  · exact .refl s
  · split
    · split
      · exact (entryAtAn_keepsLeases s x).trans (pinTaken_keepsLeases ..)
      · exact pinTaken_keepsLeases ..
    · refine .trans (setTx_keepsLeases s x _ ?_) (settleBlock_keepsLeases ..)
      rfl

/-- The query that waited for the lease is answered (R303). -/
def queryAnswered (start : Nat) : State :=
  match (s.txStream x).query with
  | some c => (s.setTx x { s.txStream x with query := none }).sendNotice x start c
  | none => s

/-- The stream goes on under its lease, or waits for the acknowledgement of its notice (R276). -/
def leaseBegun (start : Nat) : State :=
  let v := s.txStream x
  if start % 2 ^ 51 = 0 && s.notices v then
    (s.txEnter x (stuckOr v .leaseWait) v.an { v with noticeUntil := some (s.now + ms 10) }).sendNotice x start 0
  else s.txEnter x (stuckOr v .running) v.an v

theorem useLease_eq (start : Nat) :
    s.useLease x start = (((s.setTx x { s.txStream x with
      leaseStart := start, leaseEnd := start + 2 ^ 32 - 1, nextPn := start, ahead := none }).applyTxPin x).queryAnswered
        x start).leaseBegun x start := rfl

theorem queryAnswered_keepsLeases (start : Nat) : KeepsLeases x s (s.queryAnswered x start) := by
  unfold queryAnswered
  split
  · refine .trans (setTx_keepsLeases s x _ ?_) (sendNotice_keepsLeases ..)
    rfl
  · exact .refl s

theorem leaseBegun_keepsLeases (start : Nat) : KeepsLeases x s (s.leaseBegun x start) := by
  unfold leaseBegun
  dsimp only
  split
  · refine .trans (txEnter_keepsLeases s x _ _ _ ?_) (sendNotice_keepsLeases ..)
    rfl
  · exact txEnter_keepsLeases s x _ _ _ rfl

theorem useLease_keepsLeases (start : Nat) : KeepsLeases x s (s.useLease x start) := by
  rw [useLease_eq]
  refine .trans (setTx_keepsLeases s x _ ?_) ((applyTxPin_keepsLeases ..).trans
    ((queryAnswered_keepsLeases ..).trans (leaseBegun_keepsLeases ..)))
  rfl

/-- The lease record of a stream has been counted. -/
def leaseCounted : State :=
  let s := (s.setTx x { s.txStream x with asked := false }).note (.rcd 3 0o13 [fld 17 12 7, x, 0])
  { s with link := { s.link with leasesTaken := satInc 18 s.link.leasesTaken } }

/-- The first lease of a band is told (Table 11.11). -/
def bandTold (start : Nat) : State :=
  if start % 2 ^ 51 = 0 then
    { s with link := { s.link with leaseBand := max s.link.leaseBand (bandOf start) } }.emit 0o100006 3 x (bandOf start)
  else s

theorem leaseJournaled_eq (start : Nat) :
    s.leaseJournaled x start =
      if covered (s.txStream x) then
        ((s.leaseCounted x).bandTold x start).setTx x { ((s.leaseCounted x).bandTold x start).txStream x with
          ahead := some start }
      else ((s.leaseCounted x).bandTold x start).useLease x start := rfl

theorem leaseCounted_asked : ((s.leaseCounted x).txStream x).asked = false := by
  change ((s.setTx x { s.txStream x with asked := false }).txStream x).asked = false
  rw [txStream_setTx_same]

theorem bandTold_keepsLeases (start : Nat) : KeepsLeases x s (s.bandTold x start) := by
  unfold bandTold
  split
  · exact .trans (t := { s with link := { s.link with leaseBand := max s.link.leaseBand (bandOf start) } })
      ⟨rfl, rfl, rfl, rfl⟩ (emit_keepsLeases ..)
  · exact .refl s

/-- A lease whose record has been written is taken and counted; its stream has asked for no other yet (R272). -/
theorem leaseJournaled_taken (start : Nat) :
    (s.leaseJournaled x start).nor = s.nor ∧ (s.leaseJournaled x start).link.journal = s.link.journal ∧
      (s.leaseJournaled x start).link.leasesTaken = satInc 18 s.link.leasesTaken ∧
      ((s.leaseJournaled x start).txStream x).asked = false := by
  have htaken : KeepsLeases x (s.leaseCounted x) (s.leaseJournaled x start) := by
    rw [leaseJournaled_eq]
    split
    · refine (bandTold_keepsLeases ..).trans (setTx_keepsLeases _ x _ ?_)
      rfl
    · exact (bandTold_keepsLeases ..).trans (useLease_keepsLeases ..)
  exact ⟨htaken.nor, htaken.journal, htaken.leasesTaken, htaken.asked.trans (leaseCounted_asked s x)⟩

/-- The stream repeats its query, or begins to (R276). -/
theorem askChallenge_of_drbgServes (h : s.drbgServes = true) :
    ((s.askChallenge x).rxStream x).repeats = (s.rxStream x).repeats ∧
      ((s.askChallenge x).rxStream x).challenge.isSome = true := by
  have hlink : (s.draw (Consumer.challenge x).bits).2.link = s.link := by rw [draw_eq]
  have ha : s.entropyAsk (.challenge x) = (.granted (s.draw (Consumer.challenge x).bits).1,
      (s.draw (Consumer.challenge x).bits).2) := by simp [entropyAsk, h]
  simp [askChallenge, ha, queryLease, rx_congr hlink]

end
end State

theorem oldTxSlotDestroy_destroys (stream : Fin 16384) (a : Nat) (s : State) (hheld : s.unitsHeld = false)
    (hreplay : s.replaying = false) (ha : (s.txStream stream).oldAn = some a) :
    ∃ t, exec (.oldTxSlotDestroy stream) s = .next t ∧ (t.txStream stream).oldAn = none ∧
      t.keyValid (slotTx stream a) = false := by
  have hheld' : s.clear.unitsHeld = false := hheld
  have ha' : (s.clear.txStream stream).oldAn = some a := ha
  have hlt := State.slotTx_lt stream a
  have huse : slotUse (slotTx stream a) ≠ 0 := by simp [slotUse, hlt]
  let u := s.clear.setTx stream { s.txStream stream with oldAn := none }
  have hd : u.destroyKey (slotTx stream a) = u.destroySlot (slotTx stream a) :=
    State.destroyKey_of_stream hreplay (by omega)
  refine ⟨_, rfl, ?_⟩
  rw [actState_txStream, actState_keyValid _ _ _ _ (by rfl), if_pos (by rfl)]
  simp only [hheld', ha', Bool.false_eq_true, if_false]
  change ((u.destroyKey (slotTx stream a)).txStream stream).oldAn = none ∧
    (u.destroyKey (slotTx stream a)).keyValid (slotTx stream a) = false
  rw [hd, State.tx_congr (State.destroySlot_manages (op := True) u (slotTx stream a)).link,
    State.keyValid_destroySlot u _ huse]
  exact ⟨by simp [u], rfl⟩

theorem leaseJournalAppend_denies (x st : Nat) (rest : List (Nat × Nat)) (s : State) (hj : s.link.journal = (x, st) :: rest) :
    ∃ t, exec (.leaseJournalAppend true) s = .next t ∧ t.link.journal = rest ∧ (t.txStream x).denied = some 3 ∧
      t.nor.journal = s.nor.journal := by
  obtain ⟨hdenied, hjournal, hnor⟩ := State.denyLease_denied
    (({ s.clear with link := { s.link with journal := rest } } : State).emitDev 0o021013) x 3
  refine ⟨_, rfl, ?_⟩
  rw [actState_txStream, actState_link, actState_nor, if_pos (by rfl), if_pos (by rfl), if_pos (by rfl)]
  simp only [State.clear_link, hj, Bool.true_or, if_true]
  exact ⟨hjournal, hdenied, by rw [hnor]; rfl⟩

/-- The record of a lease is appended to the journal (R104). -/
def State.leaseWritten (s : State) (x start : Nat) : State :=
  let n := s.nor
  let keep := if n.appendRecord = 0 then n.journal.filter (fun r => decide (r.sector ≠ n.appendSector)) else n.journal
  let r : LeaseRec := { sector := n.appendSector, stream := x, first := start, last := start + 2 ^ 32 - 1,
                        ladder := s.ladderValue .lease }
  let wrap := decide (n.appendRecord + 1 = 151)
  { s with nor := { n with
    journal := keep ++ [r]
    appendRecord := if wrap then 0 else n.appendRecord + 1
    appendSector := if wrap then (n.appendSector + 1) % s.journalSectors else n.appendSector } }

theorem State.leaseWritten_journal (s : State) (x start : Nat) :
    (s.leaseWritten x start).nor.journal.getLast?.map (fun r => (r.stream, r.first, r.last)) =
      some (x, start, start + 2 ^ 32 - 1) := by
  unfold leaseWritten
  dsimp only
  rw [List.getLast?_concat]
  rfl

/-- A lease is taken from those that wait for the journal. -/
def State.leaseTaken (s : State) (rest : List (Nat × Nat)) : State := { s with link := { s.link with journal := rest } }

/-- With no write refused, what becomes of the oldest lease that waits (R104, R274). -/
def State.leaseAppended (s : State) : State :=
  match s.link.journal with
  | [] => s
  | (x, start) :: rest =>
    if (s.leaseTaken rest).norRefuses then ((s.leaseTaken rest).emitDev 0o021013).denyLease x 3
    else ((s.leaseTaken rest).leaseWritten x start).leaseJournaled x start

theorem exec_leaseJournalAppend (s : State) : exec (.leaseJournalAppend false) s =
    act [.nor, .image, .keys, .tenants, .tp, .link, .zheac, .sp] s State.leaseAppended := rfl

theorem State.leaseAppended_of_writable {s : State} {x start : Nat} {rest : List (Nat × Nat)}
    (hj : s.link.journal = (x, start) :: rest) (hn : s.norRefuses = false) :
    s.leaseAppended = ((s.leaseTaken rest).leaseWritten x start).leaseJournaled x start := by
  have hn' : ¬ (s.leaseTaken rest).norRefuses = true := ne_true_of_eq_false hn
  rw [leaseAppended, hj]
  exact if_neg hn'

theorem leaseJournalAppend_appends (x st : Nat) (rest : List (Nat × Nat)) (s : State)
    (hj : s.link.journal = (x, st) :: rest) (hn : s.norRefuses = false) :
    ∃ t, exec (.leaseJournalAppend false) s = .next t ∧ t.link.journal = rest ∧
      t.link.leasesTaken = satInc 18 s.link.leasesTaken ∧
      t.nor.journal.getLast?.map (fun r => (r.stream, r.first, r.last)) = some (x, st, st + 2 ^ 32 - 1) ∧
      (t.txStream x).asked = false := by
  have he := State.leaseAppended_of_writable (s := s.clear) hj hn
  obtain ⟨hnor, hjournal, htaken, hasked⟩ :=
    State.leaseJournaled_taken ((s.clear.leaseTaken rest).leaseWritten x st) x st
  refine ⟨_, exec_leaseJournalAppend s, ?_⟩
  rw [actState_txStream, actState_link, actState_nor, if_pos (by rfl), if_pos (by rfl), if_pos (by rfl), he, hnor, hjournal,
    htaken, hasked]
  exact ⟨rfl, rfl, State.leaseWritten_journal .., rfl⟩

/-! ## Time passes (notes/assumptions/6) -/

namespace State

/-- Between two states time may have passed: beside the clock, the counters of Milepost and the exempt time of frames. -/
def Elapses (s t : State) : Prop :=
  t = { s with now := t.now, free := t.free, tp := t.tp, alarm := t.alarm, mile := t.mile, notes := t.notes }

namespace Elapses

variable {s t u : State}

theorem refl (s : State) : s.Elapses s := rfl

theorem trans (h : s.Elapses t) (h' : t.Elapses u) : s.Elapses u := by
  calc u = _ := h'
    _ = _ := by rw [h]

theorem link (h : s.Elapses t) : t.link = s.link := by rw [h]
theorem trng (h : s.Elapses t) : t.trng = s.trng := by rw [h]

end Elapses

theorem wrapAt_elapses (s : State) (k : Nat) (event : Bool) : s.Elapses (s.wrapAt k event) := by
  unfold wrapAt
  dsimp only
  split <;> rfl

theorem addCount_elapses (s : State) (k n : Nat) : s.Elapses (s.addCount k n) := by
  have h (v : MileUnit) (k : Nat) (event : Bool) : s.Elapses (({ s with mile := v } : State).wrapAt k event) :=
    .trans (t := { s with mile := v }) rfl (wrapAt_elapses ..)
  unfold addCount
  dsimp only
  split
  · rfl
  · split
    · split
      · rfl
      · exact h ..
    · exact h ..

theorem countTime_elapses (s : State) (t k w : Nat) : s.Elapses (s.countTime t k w) := by
  have hfree (n : Nat) : s.Elapses (({ s with free := s.free + 1 } : State).addCount k n) :=
    .trans (t := { s with free := s.free + 1 }) rfl (addCount_elapses ..)
  unfold countTime
  dsimp only
  split
  · split
    · exact hfree _
    · exact .refl s
  · split
    · split
      · exact addCount_elapses ..
      · exact .refl s
    · exact hfree _

theorem addExempt_elapses (s : State) (cycles : Nat) : s.Elapses (s.addExempt cycles) := by
  unfold addExempt
  split <;> rfl

theorem upTo_elapses (s : State) (t : Nat) : s.Elapses (s.upTo t) := by
  unfold upTo
  split
  · exact .refl s
  · have hcount : s.Elapses (s.mile.sel.foldl (fun s c => s.countTime t c.1 c.2) s) :=
      List.foldlRecOn s.mile.sel _ (motive := s.Elapses) (.refl s) (fun u hu c _ => hu.trans (countTime_elapses ..))
    exact hcount.trans ((addExempt_elapses ..).trans rfl)

/-- The clock never goes back. -/
theorem upTo_now (s : State) (t : Nat) : (s.upTo t).now = max s.now t := by
  unfold upTo
  split
  · next h => exact (max_eq_left h).symm
  · next h => exact (max_eq_right (not_le.mp h).le).symm

theorem drbgServes_congr {s t : State} (h : t.trng = s.trng) : t.drbgServes = s.drbgServes := by
  rw [drbgServes, drbgServes, h]
theorem entropyWaits_congr {s t : State} (h : t.trng = s.trng) (c : Consumer) : t.entropyWaits c = s.entropyWaits c := by
  rw [entropyWaits, entropyWaits, h]

/-- A DRBG that serves a request at once has none waiting (R151). -/
theorem entropyWaits_of_drbgServes {s : State} (h : s.drbgServes = true) (c : Consumer) : s.entropyWaits c = false := by
  simp only [drbgServes, Bool.and_eq_true] at h
  simp [entropyWaits, List.isEmpty_iff.mp h.2]

/-- The state of a stream in NOTICE-WAIT whose wait for a notice is over (R276). -/
def noticeWaited (s : State) (x : Nat) : State :=
  let v := s.rxStream x
  let s := s.upTo (v.queriedAt + queryWait s.node v.repeats)
  let s := s.setRx x { v with queriedAt := s.now, repeats := v.repeats + 1 }
  if v.repeats = 0 then s.emit 0o101011 4 x 0 else s

theorem noticeWaited_stream (s : State) (x : Nat) :
    (s.noticeWaited x).rxStream x =
      { s.rxStream x with queriedAt := (s.noticeWaited x).now, repeats := (s.rxStream x).repeats + 1 } := by
  unfold noticeWaited
  dsimp only
  split <;> simp

theorem noticeWaited_trng (s : State) (x : Nat) : (s.noticeWaited x).trng = s.trng := by
  have h := (upTo_elapses s ((s.rxStream x).queriedAt + queryWait s.node (s.rxStream x).repeats)).trng
  unfold noticeWaited
  dsimp only
  split <;> simp [h]

end State

/-! ## The timers of lease notices and queries (R276) -/

theorem noticeAckTimeout_runs (stream : Fin 16384) (e : Nat) (s : State) (he : (s.txStream stream).noticeUntil = some e) :
    ∃ t, exec (.noticeAckTimeout stream) s = .next t ∧
      (t.txStream stream).state = State.stuckOr (s.txStream stream) .running ∧ (t.txStream stream).noticeUntil = none ∧
      t.now = max s.now e := by
  have he' : (s.clear.txStream stream).noticeUntil = some e := he
  obtain ⟨hstate, hnone⟩ := State.noticeOver_stream (s.clear.upTo e) stream
  rw [State.tx_congr (State.upTo_elapses s.clear e).link] at hstate
  refine ⟨_, rfl, ?_⟩
  rw [actState_txStream, actState_now, if_pos (by rfl), if_pos (by rfl)]
  simp only [he', State.emit_txStream, State.emit_now]
  exact ⟨hstate, hnone, State.upTo_now s.clear e⟩

theorem exec_noticeWaitTimeout (stream : Fin 16384) (s : State) : exec (.noticeWaitTimeout stream) s =
    act [.now, .free, .image, .keys, .trng, .tenants, .tp, .link, .zheac, .sp] s (fun s =>
      if (s.rxStream stream).state = RxState.noticeWait then
        if (s.noticeWaited stream).entropyWaits (.challenge stream) then s.noticeWaited stream
        else (s.noticeWaited stream).askChallenge stream
      else s) := rfl

theorem noticeWaitTimeout_waits (stream : Fin 16384) (s : State) (hs : (s.rxStream stream).state = .noticeWait)
    (hw : s.entropyWaits (.challenge stream) = true) :
    ∃ t, exec (.noticeWaitTimeout stream) s = .next t ∧
      (t.rxStream stream).repeats = (s.rxStream stream).repeats + 1 ∧ (t.rxStream stream).queriedAt = t.now := by
  have hs' : (s.clear.rxStream stream).state = .noticeWait := hs
  have hw' : (s.clear.noticeWaited stream).entropyWaits (.challenge stream) = true :=
    (State.entropyWaits_congr (State.noticeWaited_trng ..) _).trans hw
  refine ⟨_, exec_noticeWaitTimeout stream s, ?_⟩
  simp only [actState_rxStream, actState_now, hs', hw', if_true]
  exact ⟨congrArg RxStream.repeats (State.noticeWaited_stream ..), congrArg RxStream.queriedAt (State.noticeWaited_stream ..)⟩

theorem noticeWaitTimeout_queries (stream : Fin 16384) (s : State) (hs : (s.rxStream stream).state = .noticeWait)
    (hd : s.drbgServes = true) :
    ∃ t, exec (.noticeWaitTimeout stream) s = .next t ∧
      (t.rxStream stream).repeats = (s.rxStream stream).repeats + 1 ∧ (t.rxStream stream).challenge.isSome = true := by
  have hs' : (s.clear.rxStream stream).state = .noticeWait := hs
  have hd' : (s.clear.noticeWaited stream).drbgServes = true :=
    (State.drbgServes_congr (State.noticeWaited_trng ..)).trans hd
  have hw' : ¬ (s.clear.noticeWaited stream).entropyWaits (.challenge stream) = true :=
    ne_true_of_eq_false (State.entropyWaits_of_drbgServes hd' _)
  obtain ⟨hrepeats, hchallenge⟩ := State.askChallenge_of_drbgServes _ stream.val hd'
  refine ⟨_, exec_noticeWaitTimeout stream s, ?_⟩
  simp only [actState_rxStream, hs', hw', if_true]
  exact ⟨hrepeats.trans (congrArg RxStream.repeats (State.noticeWaited_stream ..)), hchallenge⟩

/-- Settles O27, one lemma for each thing that becomes of a lease or of a message about one. -/
theorem leasesComplete : Obligations.LeasesComplete :=
  ⟨oldTxSlotDestroy_destroys, leaseJournalAppend_appends, leaseJournalAppend_denies, noticeAckTimeout_runs,
    noticeWaitTimeout_waits, noticeWaitTimeout_queries, leaseQueryRx_answers, leaseQueryRx_waits, leaseNoticeRx_runs,
    leaseNoticeRx_other, fun lane words n x low s => leaseNoticeRx_raises lane words n x s low, noticeAckRx_runs,
    noticeAckRx_tagFails⟩

end Sys2Proof.Machine

namespace Sys2Proof.Machine
namespace State

/-! ## What leaves the image alone -/

section
variable (s : State)

/-! ### Frames and their queues (R236, R243) -/

@[simp] theorem emitOnceKey_image (key e kind number arg : Nat) : (s.emitOnceKey key e kind number arg).image = s.image := by
  unfold emitOnceKey
  split
  · rfl
  · simp

@[simp] theorem frameOut_image (port len : Nat) : (s.frameOut port len).image = s.image := by
  unfold frameOut
  dsimp only
  split <;> simp

@[simp] theorem sendFlow_image (n prios quanta : Nat) : (s.sendFlow n prios quanta).image = s.image := by
  unfold sendFlow
  split
  · simp
  · rfl

@[simp] theorem laneFlow_image (n : Nat) : (s.laneFlow n).image = s.image := by
  unfold laneFlow
  dsimp only
  repeat' split
  all_goals simp

@[simp] theorem flowAll_image : s.flowAll.image = s.image := by
  refine foldl_keeps State.image _ (fun s n => ?_) (List.range 16) s
  split
  · exact laneFlow_image s n
  · rfl

@[simp] theorem markReleased_image (l : List Nat) (at_ : Option Nat) : (s.markReleased l at_).image = s.image := by
  refine foldl_keeps State.image _ (fun s q => ?_) l s
  split
  · exact setQueue_image ..
  · rfl

@[simp] theorem beginDrain_image (t : Nat) : (s.beginDrain t).image = s.image := by simp [beginDrain]
@[simp] theorem endDrain_image (t : Nat) : (s.endDrain t).image = s.image := by simp [endDrain]

@[simp] theorem delayRises_image (t c q : Nat) : (s.delayRises t c q).image = s.image := by
  have hemit (b : Bool) (u : State) (e k n a : Nat) : (if b then u.emit e k n a else u).image = u.image := by
    split <;> simp
  unfold delayRises
  dsimp only
  split
  · rfl
  · rw [flowAll_image, hemit]
    simp

@[simp] theorem chargePolicer_image (t q len : Nat) : (s.chargePolicer t q len).image = s.image := by
  unfold chargePolicer
  dsimp only
  split <;> rfl

@[simp] theorem admitted_image (t q : Nat) (f : QFrame) (p : Place) : (s.admitted t q f p).image = s.image := by
  simp [admitted]

@[simp] theorem admitTo_image (t q : Nat) (f : QFrame) (p : Place) (sampled trunk : Bool) :
    (s.admitTo t q f p sampled trunk).image = s.image := by
  unfold admitTo
  dsimp only
  repeat' split
  all_goals simp

@[simp] theorem acceptSpill_image (t q k : Nat) : (s.acceptSpill t q k).image = s.image := by
  unfold acceptSpill
  dsimp only
  split
  · rfl
  · rw [foldl_keeps State.image _ (fun s f => admitted_image s t q f .spill), setQueue_image]

@[simp] theorem degrade_image (t code : Nat) : (s.degrade t code).image = s.image := by
  unfold degrade tenEnter
  dsimp only
  repeat' split
  all_goals simp

@[simp] theorem refuseCount_image (t q code : Nat) : (s.refuseCount t q code).image = s.image := by simp [refuseCount]

@[simp] theorem refuse_image (t q code : Nat) : (s.refuse t q code).image = s.image := by
  unfold refuse
  dsimp only
  split <;> simp

@[simp] theorem wayWrite_image (e : List Nat) : (s.wayWrite e).image = s.image := by
  unfold wayWrite
  dsimp only
  repeat' split
  all_goals simp

@[simp] theorem wayRefused_image (sampled : Bool) (q outPort : Nat) (f : QFrame) (trunk prot : Bool) (code : Nat) :
    (s.wayRefused sampled q outPort f trunk prot code).image = s.image := by
  unfold wayRefused
  split
  · simp
  · rfl

@[simp] theorem admitRefused_image (t q code : Nat) (f : QFrame) (sampled trunk : Bool) :
    (s.admitRefused t q code f sampled trunk).image = s.image := by
  unfold admitRefused
  dsimp only
  repeat' split
  all_goals simp

@[simp] theorem waySample_image (t port q : Nat) : (s.waySample t port q).2.image = s.image := by rw [waySample_eq]; rfl

@[simp] theorem enter_image (t q : Nat) (f : QFrame) (trunk : Bool) : (s.enter t q f trunk).image = s.image := by
  unfold enter countFieldAbsent
  dsimp only
  repeat' split
  all_goals simp [emitOnce]

@[simp] theorem classifyAdmit_image (t port : Nat) (trunk : Bool) (data : List Nat) :
    (s.classifyAdmit t port trunk data).image = s.image := by
  unfold classifyAdmit classified
  dsimp only
  split
  · simp [refuseFirst]
  · split <;> simp

@[simp] theorem tenantMapped_image (t : Nat) : (s.tenantMapped t).image = s.image := by
  unfold tenantMapped
  repeat' split
  all_goals simp

/-! ### L sections -/

@[simp] theorem setModeration_image (t : Nat) (m : List Word) : (s.setModeration t m).image = s.image := setTenant_image ..

@[simp] theorem loadModeration_image : s.loadModeration.image = s.image := by
  refine foldl_keeps State.image _ (fun s t => ?_) (List.range 16) s
  split
  · exact setModeration_image ..
  · rfl

@[simp] theorem loadAlarmPolicy_image : s.loadAlarmPolicy.image = s.image := by
  unfold loadAlarmPolicy
  split <;> simp

@[simp] theorem pump_image (w : Way) (c : MsgClass) : (s.pump w c).image = s.image := by
  have hwords (u : State) (l : List (Nat × Msg)) : (u.sendWords w l).image = u.image := by
    exact foldl_keeps State.image (fun (u : State) (e : Nat × Msg) => u.send (.message w (e.2.words e.1)))
      (fun _ _ => rfl) l u
  unfold pump
  dsimp only
  repeat' split
  all_goals simp [hwords, setChan]

@[simp] theorem sendMsg_image (w : Way) (c : MsgClass) (m : Msg) : (s.sendMsg w c m).image = s.image := pump_image ..

@[simp] theorem sendToTollhouse_image (m : Nat → Msg) : (s.sendToTollhouse m).image = s.image := by
  unfold sendToTollhouse
  dsimp only
  split <;> simp

@[simp] theorem forwardParams_image : s.forwardParams.image = s.image := by
  unfold forwardParams
  split
  · rfl
  · exact foldl_keeps State.image _ (fun s k => by simp) _ s

@[simp] theorem sendPortConfig_image (p : Nat) : (s.sendPortConfig p).image = s.image := sendMsg_image ..

/-! ### Streams and keys -/

@[simp] theorem installKey_image (n value : Nat) : (s.installKey n value).image = s.image := by
  unfold installKey
  split <;> simp [keyRecord]

@[simp] theorem txEnter_image (x : Nat) (st : TxState) (an : Nat) (v : TxStream) : (s.txEnter x st an v).image = s.image := rfl
@[simp] theorem rxEnter_image (x : Nat) (st : RxState) (an : Nat) (v : RxStream) : (s.rxEnter x st an v).image = s.image := rfl

@[simp] theorem txStuck_image (x : Nat) : (s.txStuck x).image = s.image := by
  unfold txStuck
  dsimp only
  split <;> simp
@[simp] theorem rxStuck_image (x : Nat) : (s.rxStuck x).image = s.image := by
  unfold rxStuck
  dsimp only
  split <;> simp

@[simp] theorem denyLease_image (x cause : Nat) : (s.denyLease x cause).image = s.image := by
  unfold denyLease exhaust
  dsimp only
  repeat' split
  all_goals simp

@[simp] theorem askAdvance_image (a : Advance) : (s.askAdvance a).image = s.image := by
  unfold askAdvance
  split <;> rfl

@[simp] theorem askJournal_image (x start : Nat) : (s.askJournal x start).image = s.image := rfl

@[simp] theorem askLease_image (x : Nat) : (s.askLease x).image = s.image := by
  unfold askLease
  dsimp only
  repeat' split
  all_goals simp

@[simp] theorem startTxPin_image (x : Nat) : (s.startTxPin x).image = s.image := by
  unfold startTxPin
  dsimp only
  repeat' split
  all_goals simp

@[simp] theorem sendLease_image (lane type stream slot pn challenge : Nat) :
    (s.sendLease lane type stream slot pn challenge).image = s.image := by
  obtain ⟨z, h⟩ := sendLease_manages s (op := False) lane type stream slot pn challenge
  exact h.image not_false

@[simp] theorem queryLease_image (x n : Nat) : (s.queryLease x n).image = s.image := by simp [queryLease]

@[simp] theorem entropyAsk_image (c : Consumer) : (s.entropyAsk c).2.image = s.image := by
  have hdraw (b : Nat) : (s.draw b).2.image = s.image := by rw [draw_eq]
  unfold entropyAsk
  split
  · exact hdraw _
  · split
    · unfold entropyFailed
      dsimp only
      split <;> simp
    · rfl

@[simp] theorem askChallenge_image (x : Nat) : (s.askChallenge x).image = s.image := by
  have hs := entropyAsk_image s (.challenge x)
  unfold askChallenge
  split
  · next h => rw [queryLease_image]; simpa [h] using hs
  · next h => simpa [h] using hs

@[simp] theorem startRxPin_image (x : Nat) : (s.startRxPin x).image = s.image := by
  unfold startRxPin
  dsimp only
  repeat' split
  all_goals simp

end
end State
end Sys2Proof.Machine

namespace Sys2Proof.Machine
namespace State

/-! ## Sections that wait for their boundary (R97) -/

section
variable {α : Type} {k k' : α → Bool} {c : α} {l : List α}

theorem find?_replace_same (hc : k c = true) (hany : l.any k = true) :
    (l.map (fun d => if k d then c else d)).find? k = some c := by
  have hkey : k ∘ (fun d => if k d then c else d) = k := by
    funext d
    cases hd : k d <;> simp [hd, hc]
  obtain ⟨e, he⟩ := Option.isSome_iff_exists.mp (List.find?_isSome.mpr (List.any_eq_true.mp hany))
  rw [List.find?_map, hkey, he, Option.map_some, if_pos (List.find?_some he)]

theorem find?_replace_other (hk : ∀ d, k d = true → k' d = false) (hc : k c = true) :
    (l.map (fun d => if k d then c else d)).find? k' = l.find? k' := by
  have hkey : k' ∘ (fun d => if k d then c else d) = k' := by
    funext d
    cases hd : k d <;> simp [hd, hk c hc, hk d]
  rw [List.find?_map, hkey]
  cases he : l.find? k' with
  | none => rfl
  | some e =>
    have hne : ¬ k e = true := fun h => Bool.eq_false_iff.mp (hk e h) (List.find?_some he)
    rw [Option.map_some, if_neg hne]

theorem find?_removed_same : (l.filter (fun d => !k d)).find? k = none :=
  List.find?_eq_none.mpr fun d hd => by simpa using (List.mem_filter.mp hd).2

theorem find?_removed_other (hk : ∀ d, k d = true → k' d = false) :
    (l.filter (fun d => !k d)).find? k' = l.find? k' := by
  rw [List.find?_filter]
  congr 1
  funext d
  cases hd : k d with
  | false => simp
  | true => simp [hk d hd]

end

/-- A key of a section is no other. -/
theorem otherKey {type inst type' inst' : Nat} (hne : ¬ (type' = type ∧ inst' = inst)) (a b : Nat)
    (h : (a = type && b = inst) = true) : (a = type' && b = inst') = false := by
  simp only [Bool.and_eq_true, decide_eq_true_eq] at h
  obtain ⟨rfl, rfl⟩ := h
  refine Bool.eq_false_iff.mpr fun h' => hne ?_
  simp only [Bool.and_eq_true, decide_eq_true_eq] at h'
  exact ⟨h'.1.symm, h'.2.symm⟩

section
variable {type inst : Nat} {new : Option Section}

/-- The section of a key is the one that was put for it. -/
theorem find?_sectionsPut_same (l : List Section) (hnew : new.all (fun c => c.type = type && c.inst = inst) = true) :
    (sectionsPut l type inst new).find? (fun c => c.type = type && c.inst = inst) = new := by
  cases new with
  | none => exact find?_removed_same
  | some c =>
    by_cases hany : l.any (fun d => d.type = type && d.inst = inst) = true
    · have h := find?_replace_same (k := fun d : Section => d.type = type && d.inst = inst) hnew hany
      simpa [sectionsPut, hany] using h
    · have hnone : l.find? (fun d => d.type = type && d.inst = inst) = none :=
        List.find?_eq_none.mpr fun d hd hk => hany (List.any_eq_true.mpr ⟨d, hd, hk⟩)
      rw [sectionsPut, if_neg hany, List.find?_append, hnone, Option.none_or]
      exact List.find?_cons_of_pos hnew

/-- The section of another key stands. -/
theorem find?_sectionsPut_other (l : List Section) {type' inst' : Nat} (hne : ¬ (type' = type ∧ inst' = inst))
    (hnew : new.all (fun c => c.type = type && c.inst = inst) = true) :
    (sectionsPut l type inst new).find? (fun c => c.type = type' && c.inst = inst') =
      l.find? (fun c => c.type = type' && c.inst = inst') := by
  have hother (d : Section) := otherKey hne d.type d.inst
  cases new with
  | none => exact find?_removed_other hother
  | some c =>
    by_cases hany : l.any (fun d => d.type = type && d.inst = inst) = true
    · have h := find?_replace_other (l := l) (k := fun d : Section => d.type = type && d.inst = inst) hother hnew
      simpa [sectionsPut, hany] using h
    · have hc : [c].find? (fun c => c.type = type' && c.inst = inst') = none :=
        List.find?_cons_of_neg (Bool.eq_false_iff.mp (hother c hnew))
      rw [sectionsPut, if_neg hany, List.find?_append, hc, Option.or_none]

end

/-! ### What a boundary that is reached keeps of an apply -/

/-- Every section that waits is of the unit for which it waits, and an image runs that can take it. -/
def PendingWf (s : State) : Prop :=
  s.image.running ≠ none ∧
    ∀ q ∈ s.image.pending, q.new.all (fun c => c.type = q.type && c.inst = q.inst) = true

/-- Between two states of an apply sections may have taken effect: each unit finds the section that it is to have, taken or
still waiting, and none waits again. -/
structure Applies (s t : State) : Prop where
  stagedCode : t.image.stagedCode = s.image.stagedCode
  applyState : s.image.applyState = 2 ∨ s.image.applyState = 3 → t.image.applyState = 2 ∨ t.image.applyState = 3
  wf : s.PendingWf → t.PendingWf
  next : s.PendingWf → ∀ type inst, t.nextSection type inst = s.nextSection type inst
  none : ∀ type inst, s.pending? type inst = none → t.pending? type inst = none

variable {s t u : State}

theorem pending?_congr (h : t.image = s.image) (type inst : Nat) : t.pending? type inst = s.pending? type inst := by
  rw [pending?, pending?, h]
theorem inForce?_congr (h : t.image = s.image) (type inst : Nat) : t.inForce? type inst = s.inForce? type inst := by
  rw [inForce?, inForce?, h]
theorem nextSection_congr (h : t.image = s.image) (type inst : Nat) :
    t.nextSection type inst = s.nextSection type inst := by
  rw [nextSection, nextSection, pending?_congr h, inForce?_congr h]
theorem pendingWf_congr (h : t.image = s.image) : t.PendingWf ↔ s.PendingWf := by rw [PendingWf, PendingWf, h]

theorem nextSection_of_some {type inst : Nat} {p : PendingSection} (h : s.pending? type inst = some p) :
    s.nextSection type inst = p.new := by rw [nextSection, h]
theorem nextSection_of_none {type inst : Nat} (h : s.pending? type inst = none) :
    s.nextSection type inst = s.inForce? type inst := by rw [nextSection, h]

namespace Applies

theorem of_image (h : t.image = s.image) : Applies s t :=
  ⟨by rw [h], fun hs => h ▸ hs, (pendingWf_congr h).mpr, fun _ type inst => nextSection_congr h type inst,
    fun type inst hn => (pending?_congr h type inst).trans hn⟩

theorem refl (s : State) : Applies s s := of_image rfl

theorem trans (h : Applies s t) (h' : Applies t u) : Applies s u :=
  ⟨h'.stagedCode.trans h.stagedCode, fun hs => h'.applyState (h.applyState hs), fun hs => h'.wf (h.wf hs),
    fun hs type inst => (h'.next (h.wf hs) type inst).trans (h.next hs type inst),
    fun type inst hn => h'.none type inst (h.none type inst hn)⟩

theorem foldl {α : Type} {f : State → α → State} (l : List α) (hf : ∀ s x, Applies s (f s x)) (s : State) :
    Applies s (l.foldl f s) :=
  List.foldlRecOn l f (motive := Applies s) (refl s) (fun _ h x _ => h.trans (hf _ x))

end Applies

section
variable (s : State)

theorem settleApply_inForce? (type inst : Nat) : s.settleApply.inForce? type inst = s.inForce? type inst := by
  unfold settleApply
  split
  · split
    · rw [inForce?, emitDev, emitOwn_image, inForce?]
      cases s.image.running <;> rfl
    · rfl
  · rfl

theorem settleApply_pending : s.settleApply.image.pending = s.image.pending := by
  unfold settleApply
  split
  · split <;> rfl
  · rfl

theorem settleApply_pending? (type inst : Nat) : s.settleApply.pending? type inst = s.pending? type inst := by
  rw [pending?, pending?, settleApply_pending]

theorem settleApply_running : s.settleApply.image.running = none ↔ s.image.running = none := by
  unfold settleApply
  split
  · split
    · show Option.map _ s.image.running = none ↔ _
      exact Option.map_eq_none_iff
    · rfl
  · rfl

theorem settleApply_applies : Applies s s.settleApply where
  stagedCode := by
    unfold settleApply
    split
    · split <;> rfl
    · rfl
  applyState h := by
    unfold settleApply
    split
    · split
      · exact .inr rfl
      · exact h
    · exact h
  wf h := ⟨mt s.settleApply_running.mp h.1, s.settleApply_pending.symm ▸ h.2⟩
  next _ type inst := by rw [nextSection, nextSection, settleApply_pending?, settleApply_inForce?]
  none type inst h := (s.settleApply_pending? type inst).trans h

theorem takePending_of_none {type inst : Nat} (h : s.pending? type inst = none) : s.takePending type inst = s := by
  rw [takePending, h]

theorem takePending_pending (type inst : Nat) : (s.takePending type inst).image.pending =
    s.image.pending.filter (fun d => !(d.type = type && d.inst = inst)) := by
  unfold takePending
  split
  · rfl
  · next h =>
    rw [eq_comm, List.filter_eq_self]
    intro d hd
    rw [pending?, List.find?_eq_none] at h
    exact (Bool.not_eq_true' _).mpr (Bool.eq_false_iff.mpr (h d hd))

/-- A section that is taken no longer waits. -/
@[simp] theorem takePending_pending?_same (type inst : Nat) : (s.takePending type inst).pending? type inst = none := by
  rw [pending?, takePending_pending]
  exact find?_removed_same

theorem takePending_pending?_other {type inst type' inst' : Nat} (hne : ¬ (type' = type ∧ inst' = inst)) :
    (s.takePending type inst).pending? type' inst' = s.pending? type' inst' := by
  rw [pending?, takePending_pending]
  exact find?_removed_other fun d => otherKey hne d.type d.inst

theorem takePending_inForce? {type inst : Nat} {p : PendingSection} (h : s.pending? type inst = some p) (type' inst' : Nat) :
    (s.takePending type inst).inForce? type' inst' =
      s.image.running.bind (fun i =>
        (sectionsPut i.sections type inst p.new).find? (fun c => c.type = type' && c.inst = inst')) := by
  rw [takePending, h]
  exact Option.bind_map ..

theorem takePending_nextSection (h : s.PendingWf) (type inst type' inst' : Nat) :
    (s.takePending type inst).nextSection type' inst' = s.nextSection type' inst' := by
  cases hp : s.pending? type inst with
  | none => rw [takePending_of_none s hp]
  | some p =>
    obtain ⟨hrun, hall⟩ := h
    obtain ⟨i, hi⟩ := Option.ne_none_iff_exists'.mp hrun
    have hkey := List.find?_some hp
    simp only [Bool.and_eq_true, decide_eq_true_eq] at hkey
    obtain ⟨rfl, rfl⟩ := hkey
    have hnew := hall p (List.mem_of_find?_eq_some hp)
    by_cases hsame : type' = p.type ∧ inst' = p.inst
    · obtain ⟨rfl, rfl⟩ := hsame
      rw [nextSection_of_some hp, nextSection_of_none (takePending_pending?_same ..), takePending_inForce? s hp, hi]
      exact find?_sectionsPut_same i.sections hnew
    · have hforce : (s.takePending p.type p.inst).inForce? type' inst' = s.inForce? type' inst' := by
        rw [takePending_inForce? s hp, inForce?, hi]
        exact find?_sectionsPut_other i.sections hsame hnew
      rw [nextSection, nextSection, takePending_pending?_other s hsame, hforce]

theorem takePending_applies (type inst : Nat) : Applies s (s.takePending type inst) where
  stagedCode := by
    unfold takePending
    split <;> rfl
  applyState h := by
    unfold takePending
    split <;> exact h
  wf h := by
    refine ⟨fun hn => h.1 ?_, fun q hq => h.2 q ?_⟩
    · revert hn
      unfold takePending
      split
      · exact Option.map_eq_none_iff.mp
      · exact id
    · rw [takePending_pending] at hq
      exact List.mem_of_mem_filter hq
  next h := takePending_nextSection s h type inst
  none type' inst' h := by
    rw [pending?, takePending_pending, List.find?_eq_none]
    rw [pending?, List.find?_eq_none] at h
    exact fun q hq => h q (List.mem_of_mem_filter hq)

theorem settleBlock_applies (type b : Nat) : Applies s (s.settleBlock type b) := by
  have h (ok : Bool) : Applies s (if ok then (s.takePending type b).settleApply else s) := by
    split
    · exact (takePending_applies ..).trans (settleApply_applies _)
    · exact .refl s
  unfold settleBlock
  split
  · exact h _
  · exact .refl s

/-! ### Boundaries of the units (Table 4.7) -/

/-- A stream's step leaves the image to the settling of its block. -/
theorem applies_settleBlock_of_image (h : t.image = s.image) (type b : Nat) : Applies s (t.settleBlock type b) :=
  (Applies.of_image h).trans (settleBlock_applies ..)

/-- What is left to do for a tenant once its three sections are taken. -/
theorem applyTenant_afterTaking (t : Nat) :
    Applies (((s.takePending 0o013 t).takePending 0o014 t).takePending 0o015 t) (s.applyTenant t) := by
  have hheld (s : State) (d : Option Drain) : Applies s (match d with
      | some d => d.held.foldl (fun (s : State) f => s.presentHeld t f) s
      | none => s) := by
    cases d with
    | none => exact .refl s
    | some d => exact .foldl _ (fun s f => .of_image (classifyAdmit_image ..)) s
  exact (Applies.of_image (tenantMapped_image ..)).trans <| (Applies.of_image (endDrain_image ..)).trans <|
    (hheld ..).trans <| (Applies.of_image (flowAll_image _)).trans (settleApply_applies _)

theorem applyTenant_applies (t : Nat) : Applies s (s.applyTenant t) :=
  (((takePending_applies s 0o013 t).trans (takePending_applies _ 0o014 t)).trans (takePending_applies _ 0o015 t)).trans
    (applyTenant_afterTaking s t)

theorem drainTenant_applies (t : Nat) : Applies s (s.drainTenant t) := by
  unfold drainTenant
  split
  · exact .refl s
  · split
    · exact .of_image (beginDrain_image ..)
    · exact applyTenant_applies s t

theorem applyTxEntry_applies (x : Nat) : Applies s (s.applyTxEntry x) := by
  have hstart (b : Bool) (u : State) : (if b then u.startTxPin x else u).image = u.image := by split <;> simp
  have hput (b c : Prop) [Decidable b] [Decidable c] (v w z : TxStream) (st st' : TxState) (an an' : Nat) :
      (if b then s.txEnter x st an v else if c then s.txEnter x st' an' w else s.setTx x z).image = s.image := by
    split
    · rfl
    · split <;> rfl
  unfold applyTxEntry
  dsimp only
  split
  · exact .refl s
  · exact applies_settleBlock_of_image s (by rw [hstart, hput]) _ _

theorem applyRxEntry_applies (x : Nat) : Applies s (s.applyRxEntry x) := by
  have hstart (b : Bool) (u : State) : (if b then u.startRxPin x else u).image = u.image := by split <;> simp
  have hput (b c : Prop) [Decidable b] [Decidable c] (v w z : RxStream) (st st' : RxState) (an an' : Nat) :
      (if b then s.rxEnter x st an v else if c then s.rxEnter x st' an' w else s.setRx x z).image = s.image := by
    split
    · rfl
    · split <;> rfl
  unfold applyRxEntry
  dsimp only
  split
  · exact .refl s
  · exact applies_settleBlock_of_image s (by rw [hstart, hput]) _ _

/-- What becomes of stream `i` of a block whose entries change. -/
def takeEntry (b i : Nat) : State :=
  let x := 64 * (b % 256) + i
  if b < 256 then (if s.unkeyed (slotTx x) then s.applyTxEntry x else s)
  else (if s.unkeyed (slotRx x) then s.applyRxEntry x else s)

theorem applyBlock_eq (b : Nat) :
    s.applyBlock b = ((List.range 64).foldl (fun (s : State) i => s.takeEntry b i) s).settleBlock 0o016 b := rfl

theorem takeEntry_applies (b i : Nat) : Applies s (s.takeEntry b i) := by
  unfold takeEntry
  dsimp only
  split
  · split
    · exact applyTxEntry_applies ..
    · exact .refl s
  · split
    · exact applyRxEntry_applies ..
    · exact .refl s

theorem takeEntries_applies (b : Nat) : Applies s ((List.range 64).foldl (fun (s : State) i => s.takeEntry b i) s) :=
  .foldl _ (fun s i => takeEntry_applies s b i) s

theorem applyBlock_applies (b : Nat) : Applies s (s.applyBlock b) := by
  rw [applyBlock_eq]
  exact (takeEntries_applies ..).trans (settleBlock_applies ..)

theorem applyRxPin_applies (x : Nat) : Applies s (s.applyRxPin x) := by
  have hcount (b : Prop) [Decidable b] (u : State) : (if b then u else u.countRekey).image = u.image := by
    split <;> rfl
  have hstuck (b : Bool) (u : State) : (if b then u.rxStuck x else u).image = u.image := by split <;> simp
  unfold applyRxPin
  dsimp only
  split
  · exact .refl s
  · split
    · refine applies_settleBlock_of_image s ?_ _ _
      rw [rxEnter_image, hcount, installKey_image]
    · refine applies_settleBlock_of_image s ?_ _ _
      rw [hstuck, setRx_image]

/-- What becomes of receive stream `i` of a block whose PINNED_KEYS change. -/
def takePin (b i : Nat) : State :=
  let x := 64 * (b - 256) + i
  if entPinned (s.rxStream x).entry then s.applyRxPin x else s

theorem applyPins_of_rx {b : Nat} (h : 256 ≤ b) :
    s.applyPins b = ((List.range 64).foldl (fun (s : State) i => s.takePin b i) s).settleBlock 0o017 b := by
  rw [applyPins, if_neg (by omega)]
  rfl

theorem takePin_applies (b i : Nat) : Applies s (s.takePin b i) := by
  unfold takePin
  dsimp only
  split
  · exact applyRxPin_applies ..
  · exact .refl s

theorem applyPins_applies (b : Nat) : Applies s (s.applyPins b) := by
  unfold applyPins
  dsimp only
  split
  · exact settleBlock_applies ..
  · exact (Applies.foldl _ (fun s i => takePin_applies s b i) s).trans (settleBlock_applies ..)

theorem applyPort_applies (p : Nat) : Applies s (s.applyPort p) := by
  unfold applyPort
  split
  · exact (takePending_applies ..).trans ((Applies.of_image (sendPortConfig_image ..)).trans (settleApply_applies _))
  · exact .refl s

theorem settleDirectory_applies : Applies s s.settleDirectory := by
  unfold settleDirectory
  dsimp only
  split
  · refine .trans ?_ ((takePending_applies ..).trans (settleApply_applies _))
    exact .of_image rfl
  · exact .of_image rfl

theorem beginSection_applies (type inst : Nat) : Applies s (s.beginSection type inst) := by
  unfold beginSection
  split
  · split
    · exact drainTenant_applies ..
    · exact .refl s
  · split
    · exact applyBlock_applies ..
    · split
      · exact applyPins_applies ..
      · split
        · exact applyPort_applies ..
        · exact settleDirectory_applies s

end
end State
end Sys2Proof.Machine

namespace Sys2Proof.Machine
namespace State

theorem Settles.cway {s t : State} (h : s.Settles t) : t.cway = s.cway := by rw [h]
theorem Settles.stn {s t : State} (h : s.Settles t) : t.stn = s.stn := by rw [h]

/-! ## A staged image is verified and compared (R99, R100) -/

@[simp] theorem applyRefused_image (s : State) (result code : Nat) : (s.applyRefused result code).image =
    { s.image with applyResult := result, applyState := 4, applySlotCode := code } := rfl

theorem applyL_stagedCode (s : State) (c : Section) (new : Option Section) :
    (s.applyL c new).image.stagedCode = s.image.stagedCode := by
  have hput : (s.putSection c.type c.inst new).image.stagedCode = s.image.stagedCode := rfl
  unfold applyL
  dsimp only
  split
  · exact hput
  · split
    · rw [forwardParams_image, hput]
    · split
      · rw [loadAlarmPolicy_image, hput]
      · split
        · rw [loadModeration_image, hput]
        · exact hput

/-- Each pending section has begun, and the apply has ended if none is left. -/
theorem beginSections_applies (l : List PendingSection) (s : State) :
    Applies s (l.foldl (fun (s : State) p => s.beginSection p.type p.inst) s).settleApply :=
  (Applies.foldl l (fun s p => beginSection_applies s p.type p.inst) s).trans (settleApply_applies _)

theorem applyImage_stagedCode (s : State) (old new : Image) :
    (s.applyImage old new).image.stagedCode = s.image.stagedCode := by
  unfold applyImage
  dsimp only
  split
  · rfl
  · rw [(beginSections_applies ..).stagedCode]
    exact foldl_keeps (fun s => s.image.stagedCode) (fun (s : State) (d : Section × Option Section) => s.applyL d.1 d.2)
      (fun s d => applyL_stagedCode s d.1 d.2) _ s

/-- With no S section differing the apply is pending or done (R100). -/
theorem applyImage_applyState {s : State} {old new : Image}
    (h : (sectionDiffs s.analysis old.sections new.sections).any (fun x => decide (x.1.cls = 1)) = false) :
    (s.applyImage old new).image.applyState = 2 ∨ (s.applyImage old new).image.applyState = 3 := by
  have hnone : (sectionDiffs s.analysis old.sections new.sections).find? (fun x => decide (x.1.cls = 1)) = none := by
    simpa using h
  rw [applyImage, hnone]
  exact (beginSections_applies ..).applyState (.inl rfl)

/-! ## What a boundary does (Table 4.7) -/

/-- The boundary of a tenant, once it holds no frame; another unit's section begins. -/
def reachBoundary (s : State) (type inst : Nat) : State :=
  if type = 0o013 ∨ type = 0o014 ∨ type = 0o015 then
    (if s.tenantHolds inst || (s.tenant inst).reset.isSome then s else s.applyTenant inst)
  else s.beginSection type inst

/-- D_SECTION_BOUNDARY: a section that does not wait has no boundary. -/
def sectionBoundary (s : State) (type inst : Nat) : State :=
  if (s.pending? type inst).isNone then s else s.reachBoundary type inst

theorem sectionBoundary_of_some {s : State} {type inst : Nat} {p : PendingSection} (h : s.pending? type inst = some p) :
    s.sectionBoundary type inst = s.reachBoundary type inst := by
  rw [sectionBoundary, h]
  rfl

theorem exec_dSectionBoundary (type inst : Nat) (s : State) :
    exec (.dSectionBoundary type inst) s =
      act [.free, .once, .image, .cus, .keys, .trng, .lanes, .tenants, .tp, .link, .zheac, .cway, .stn, .sp, .way] s
        (fun s => s.sectionBoundary type inst) := rfl

/-- A section that waits may have reached its boundary: the units are as `reachBoundary` leaves them. -/
theorem sectionBoundary_acts {s : State} {type inst : Nat} {p : PendingSection} (h : s.pending? type inst = some p) :
    ∃ t, exec (.dSectionBoundary type inst) s = .next t ∧ t.image = (s.clear.reachBoundary type inst).image ∧
      t.link = (s.clear.reachBoundary type inst).link ∧ t.cway = (s.clear.reachBoundary type inst).cway ∧
      t.stn = (s.clear.reachBoundary type inst).stn := by
  rw [exec_dSectionBoundary, ← sectionBoundary_of_some (s := s.clear) h]
  exact ⟨_, rfl, rfl, rfl, rfl, rfl⟩

/-- All of a tenant's sections are taken together (R248). -/
theorem applyTenant_takes (s : State) (t : Nat) : (s.applyTenant t).pending? 0o013 t = none ∧
    (s.applyTenant t).pending? 0o014 t = none ∧ (s.applyTenant t).pending? 0o015 t = none := by
  have h13 := takePending_pending?_same s 0o013 t
  have h14 := takePending_pending?_same (s.takePending 0o013 t) 0o014 t
  have h15 := takePending_pending?_same ((s.takePending 0o013 t).takePending 0o014 t) 0o015 t
  have ht14 := takePending_applies (s.takePending 0o013 t) 0o014 t
  have ht15 := takePending_applies ((s.takePending 0o013 t).takePending 0o014 t) 0o015 t
  have hrest := applyTenant_afterTaking s t
  exact ⟨hrest.none _ _ (ht15.none _ _ (ht14.none _ _ h13)), hrest.none _ _ (ht15.none _ _ h14), hrest.none _ _ h15⟩

/-- No frame of a station whose entry has changed is left: the directory is taken. -/
theorem settleDirectory_of_left {s : State} {p : PendingSection}
    (h : s.stn.oldDir.filter (fun n => s.stn.pipeline.any (fun i => decide (i.station = n))) = [])
    (hp : s.pending? 0o021 0 = some p) :
    s.settleDirectory = ({ s with stn := { s.stn with oldDir := [] } }.takePending 0o021 0).settleApply := by
  have hwaits : State.pending? { s with stn := { s.stn with oldDir := [] } } 0o021 0 = some p := hp
  unfold settleDirectory
  dsimp only
  rw [h, hwaits]
  rfl

/-! ### Ports -/

/-- What waits or is not yet acknowledged still does when the window moves. -/
theorem mem_pump (k : Nat) (c : Chan) (m : Msg) :
    m ∈ (c.pump k).waiting ++ (c.pump k).unacked.map Prod.snd ↔ m ∈ c.waiting ++ c.unacked.map Prod.snd := by
  induction k generalizing c with
  | zero => rfl
  | succ k ih =>
    rw [Chan.pump]
    split
    · rfl
    · next m' rest hw =>
      split
      · rw [ih, hw]
        simp only [List.map_append, List.mem_append, List.mem_cons, List.map_cons, List.map_nil, List.not_mem_nil]
        tauto
      · rfl

theorem chan_setChan_same (s : State) (w : Way) (c : MsgClass) (v : Chan) : (s.setChan w c v).chan w c = v := by
  simp [setChan, chan]

theorem chan_congr {s t : State} (h : t.cway = s.cway) (w : Way) (c : MsgClass) : t.chan w c = s.chan w c := by
  rw [chan, chan, h]

theorem sendWords_cway (s : State) (w : Way) (l : List (Nat × Msg)) : (s.sendWords w l).cway = s.cway :=
  foldl_keeps State.cway (fun (s : State) (e : Nat × Msg) => s.send (.message w (e.2.words e.1))) (fun _ _ => rfl) l s

theorem pump_chan (s : State) (w : Way) (c : MsgClass) :
    (s.pump w c).chan w c = if s.wayOpen w then (s.chan w c).pump 8 else s.chan w c := by
  have hcount (b b' : Prop) [Decidable b] [Decidable b'] (u : State) (n : Nat) :
      (if b then (if b' then (u.occurs 34 0o001 0 n).occurs 34 0o006 0 n else u.occurs 34 0o001 0 n) else u).cway =
        u.cway := by
    split
    · split <;> rfl
    · rfl
  unfold pump
  dsimp only
  split
  · rw [chan_congr (hcount ..), chan_congr (sendWords_cway ..), chan_setChan_same]
  · rfl

/-- A message that becomes ready waits, or is sent and not yet acknowledged. -/
theorem sendMsg_holds (s : State) (w : Way) (c : MsgClass) (m : Msg) {p : Msg → Bool} (hp : p m = true) :
    (s.sendMsg w c m).holds w c p = true := by
  refine List.any_eq_true.mpr ⟨m, ?_, hp⟩
  rw [sendMsg, pump_chan, chan_setChan_same]
  have hm : m ∈ ((s.chan w c).waiting ++ [m]) ++ (s.chan w c).unacked.map Prod.snd := by simp
  split
  · exact (mem_pump 8 { s.chan w c with waiting := (s.chan w c).waiting ++ [m] } m).mpr hm
  · exact hm

end State

/-! ## Applying a staged image (R97 to R100) -/

/-- APPLY_STAGED begins the verification of the staged slot, and no result of an apply stands. -/
def State.applyBegun (s : State) : State :=
  { s with image := { s.image with applyState := 1, applyResult := 0, applySlotCode := 0, diffType := 0, diffInst := 0 } }

/-- What becomes of APPLY_STAGED. -/
def State.applyServed (s : State) : Served :=
  match s.applyReason with
  | some (k, code) => { st := if s.applyRuns then s.applyBusy else s.applyRefused k code, status := State.applyStatus k }
  | none => { st := s.applyBegun, status := stAccepted }

theorem exec_applyStaged (r : VerbCall) (s : State) :
    exec (.applyStaged r) s = act [.once, .image, .keys, .tenants, .tp, .sp] s
      (fun s => s.serve r 0o10 (State.isOperator r.caller) none [] State.applyServed) := rfl

theorem State.applyServed_of_none {s : State} (h : s.applyReason = none) :
    s.applyServed = { st := s.applyBegun, status := stAccepted } := by
  rw [applyServed, h]

theorem applyStaged_begins (r : VerbCall) (s : State) (h : s.mayAct r none = true) (hop : State.isOperator r.caller = true)
    (hreason : s.applyReason = none) :
    ∃ t, exec (.applyStaged r) s = .next t ∧ t.answers r.caller 0o10 0o17 [] = true ∧
      t.image.applyState = 1 ∧ t.image.applyResult = 0 ∧ t.image.applySlotCode = 0 := by
  obtain ⟨hm, ha⟩ := State.respondLater_responds (op := True) s.clear.applyBegun r.caller 0o10 stAccepted [] []
    (fun _ => trivial)
  have hserve : s.clear.serve r 0o10 (State.isOperator r.caller) none [] State.applyServed =
      s.clear.applyBegun.respondLater r.caller 0o10 stAccepted [] [] := by
    rw [hop, State.serve_of_mayAct (s := s.clear) h, State.applyServed_of_none (s := s.clear) hreason]
  rw [exec_applyStaged]
  refine ⟨_, rfl, ?_⟩
  rw [actState_image, if_pos (by rfl), hserve]
  exact ⟨(congrArg (fun t : State => t.answers r.caller 0o10 0o17 []) hserve).trans ha, hm.applyState, hm.applyResult,
    hm.applySlotCode⟩

/-- What the verification of the staged slot finds decides the apply (R100). -/
def State.applyVerified (s : State) (v : Nat × Option Image) : State :=
  match v.2, s.image.running with
  | some new, some old => { s with image := { s.image with stagedCode := v.1 } }.applyImage old new
  | _, _ => { s with image := { s.image with stagedCode := v.1 } }.applyRefused 2 v.1

theorem exec_applyVerificationDone (readError : Option Nat) (s : State) :
    exec (.applyVerificationDone readError) s =
      act [.free, .once, .image, .cus, .keys, .trng, .lanes, .tenants, .tp, .link, .zheac, .cway, .stn, .sp, .way] s
        (fun s => if s.image.applyState = 1 then s.applyVerified (s.verifySlot 3 readError) else s) := rfl

theorem State.applyVerified_stagedCode (s : State) (v : Nat × Option Image) :
    (s.applyVerified v).image.stagedCode = v.1 := by
  unfold applyVerified
  split
  · exact applyImage_stagedCode ..
  · rfl

theorem State.applyVerified_of_none (s : State) {v : Nat × Option Image} (h : v.2 = none) :
    s.applyVerified v = { s with image := { s.image with stagedCode := v.1 } }.applyRefused 2 v.1 := by
  rw [applyVerified, h]

theorem State.applyVerified_of_some {s : State} {v : Nat × Option Image} {new old : Image} (hnew : v.2 = some new)
    (hold : s.image.running = some old) :
    s.applyVerified v = { s with image := { s.image with stagedCode := v.1 } }.applyImage old new := by
  rw [applyVerified, hnew, hold]

theorem applyVerificationDone_ends (readError : Option Nat) (s : State) (h : s.image.applyState = 1) :
    ∃ t, exec (.applyVerificationDone readError) s = .next t ∧
      t.image.stagedCode = (s.verifySlot 3 readError).1 ∧ ((s.verifySlot 3 readError).2 = none → t.image.applyState = 4 ∧
        t.image.applyResult = 2 ∧ t.image.applySlotCode = (s.verifySlot 3 readError).1) ∧ (∀ new old, (s.verifySlot 3
        readError).2 = some new → s.image.running = some old → (State.sectionDiffs s.analysis old.sections new.sections).any
        (fun x => decide (x.1.cls = 1)) = false → t.image.applyState = 2 ∨ t.image.applyState = 3) := by
  have hv : s.clear.verifySlot 3 readError = s.verifySlot 3 readError := State.verifySlot_congr rfl 3 readError
  have hrun : s.clear.image.applyState = 1 := h
  rw [exec_applyVerificationDone]
  refine ⟨_, rfl, ?_⟩
  rw [actState_image, if_pos (by rfl), if_pos hrun, hv]
  refine ⟨State.applyVerified_stagedCode .., fun hn => ?_, fun new old hnew hold hcls => ?_⟩
  · rw [State.applyVerified_of_none _ hn]
    exact ⟨rfl, rfl, rfl⟩
  · rw [State.applyVerified_of_some hnew (s := s.clear) hold]
    exact State.applyImage_applyState hcls

section
variable {type inst : Nat} {p : PendingSection} {s : State}

theorem dSectionBoundary_tenant (hwf : s.PendingWf) (hp : s.pending? type inst = some p)
    (htype : type = 0o013 ∨ type = 0o014 ∨ type = 0o015) (hholds : s.tenantHolds inst = false)
    (hreset : (s.tenant inst).reset = none) :
    ∃ t, exec (.dSectionBoundary type inst) s = .next t ∧
      t.pending? 0o013 inst = none ∧ t.pending? 0o014 inst = none ∧ t.pending? 0o015 inst = none ∧
      t.inForce? type inst = p.new := by
  obtain ⟨t, ht, himage, -, -, -⟩ := State.sectionBoundary_acts hp
  have hreach : s.clear.reachBoundary type inst = s.clear.applyTenant inst := by
    have hfree : ¬ (s.clear.tenantHolds inst || (s.clear.tenant inst).reset.isSome) = true := by
      rw [show s.clear.tenantHolds inst = false from hholds, show (s.clear.tenant inst).reset = none from hreset]
      decide
    rw [State.reachBoundary, if_pos htype, if_neg hfree]
  rw [hreach] at himage
  obtain ⟨h13, h14, h15⟩ := State.applyTenant_takes s.clear inst
  have hnext : (s.clear.applyTenant inst).nextSection type inst = p.new :=
    ((State.applyTenant_applies s.clear inst).next hwf type inst).trans (State.nextSection_of_some hp)
  have hnone : (s.clear.applyTenant inst).pending? type inst = none := by
    obtain rfl | rfl | rfl := htype <;> assumption
  refine ⟨t, ht, ?_, ?_, ?_, ?_⟩
  · rw [State.pending?_congr himage, h13]
  · rw [State.pending?_congr himage, h14]
  · rw [State.pending?_congr himage, h15]
  · rw [State.inForce?_congr himage, ← hnext, State.nextSection_of_none hnone]

theorem dSectionBoundary_port (hp : s.pending? 0o020 inst = some p) (hlinked : s.linked = true)
    (hquiet : s.portQuiet inst = true) :
    ∃ t, exec (.dSectionBoundary 0o020 inst) s = .next t ∧ t.pending? 0o020 inst = none ∧
      t.holds .down .state (fun m => match m with | .portConfig q _ _ => decide (q = inst) | _ => false) = true := by
  obtain ⟨t, ht, himage, -, hcway, -⟩ := State.sectionBoundary_acts hp
  have hreach : s.clear.reachBoundary 0o020 inst =
      ((s.clear.takePending 0o020 inst).sendPortConfig inst).settleApply := by
    have hcond : ((s.clear.pending? 0o020 inst).isSome && s.clear.linked && s.clear.portQuiet inst) = true := by
      rw [show s.clear.pending? 0o020 inst = some p from hp, show s.clear.linked = true from hlinked,
        show s.clear.portQuiet inst = true from hquiet]
      rfl
    exact if_pos hcond
  rw [hreach] at himage hcway
  refine ⟨t, ht, ?_, ?_⟩
  · rw [State.pending?_congr himage, State.settleApply_pending?, State.pending?_congr (State.sendPortConfig_image ..),
      State.takePending_pending?_same]
  · rw [State.holds, State.chan_congr (hcway.trans (State.settleApply_settles _).cway)]
    exact State.sendMsg_holds _ _ _ _ (decide_eq_true rfl)

theorem dSectionBoundary_directory (hp : s.pending? 0o021 0 = some p)
    (hleft : ∀ n ∈ s.stn.oldDir, s.stn.pipeline.any (fun i => decide (i.station = n)) = false) :
    ∃ t, exec (.dSectionBoundary 0o021 0) s = .next t ∧ t.pending? 0o021 0 = none ∧ t.stn.oldDir = [] := by
  obtain ⟨t, ht, himage, -, -, hstn⟩ := State.sectionBoundary_acts hp
  have hfilter : s.stn.oldDir.filter (fun n => s.stn.pipeline.any (fun i => decide (i.station = n))) = [] :=
    List.filter_eq_nil_iff.mpr fun n hn => Bool.eq_false_iff.mp (hleft n hn)
  have hreach : s.clear.reachBoundary 0o021 0 =
      ({ s.clear with stn := { s.stn with oldDir := [] } }.takePending 0o021 0).settleApply := by
    exact State.settleDirectory_of_left (s := s.clear) hfilter hp
  rw [hreach] at himage hstn
  refine ⟨t, ht, ?_, ?_⟩
  · rw [State.pending?_congr himage, State.settleApply_pending?, State.takePending_pending?_same]
  · rw [hstn, (State.settleApply_settles _).stn, (State.takePending_settles ..).stn]

end
end Sys2Proof.Machine

namespace Sys2Proof.Machine
namespace State

/-! ## The streams of a block take their sections (R261, R271, Table 4.7) -/

theorem Settles.keys {s t : State} (h : s.Settles t) : t.keys = s.keys := by rw [h]

/-- A fold in which every step keeps `P`, and one of them reaches what each step then keeps. -/
theorem foldl_reaches {σ α : Type} {f : σ → α → σ} {P Q : σ → Prop} {l : List α} {a : α} (ha : a ∈ l)
    (hP : ∀ s, ∀ x ∈ l, P s → P (f s x)) (hreach : ∀ s, P s → Q (f s a)) (hQ : ∀ s, ∀ x ∈ l, P s → Q s → Q (f s x))
    {s : σ} (hs : P s) : Q (l.foldl f s) := by
  obtain ⟨l₁, l₂, rfl⟩ := List.append_of_mem ha
  have hfirst : P (l₁.foldl f s) := List.foldlRecOn l₁ f (motive := P) hs fun s h x hx => hP s x (by simp [hx]) h
  have hrest : P (l₂.foldl f (f (l₁.foldl f s) a)) ∧ Q (l₂.foldl f (f (l₁.foldl f s) a)) :=
    List.foldlRecOn l₂ f (motive := fun s => P s ∧ Q s) ⟨hP _ a (by simp) hfirst, hreach _ hfirst⟩
      fun s h x hx => ⟨hP s x (by simp [hx]) h.1, hQ s x (by simp [hx]) h.1 h.2⟩
  rw [List.foldl_append]
  exact hrest.2

/-! ### Transmit streams -/

/-- Transmit stream `x` has come to the entry `e`, perhaps with its key; the other streams and their keys stand. -/
structure TakesEntry (x : Nat) (e : List Word) (s t : State) : Prop where
  entry : (t.txStream x).entry = e
  other : ∀ y, y ≠ x → t.txStream y = s.txStream y
  keyValid : ∀ n, n / 2 ≠ x → t.keyValid n = s.keyValid n

namespace TakesEntry

variable {x : Nat} {e e' : List Word} {s t u : State}

theorem trans (h : TakesEntry x e s t) (h' : TakesEntry x e' t u) : TakesEntry x e' s u :=
  ⟨h'.entry, fun y hy => (h'.other y hy).trans (h.other y hy), fun n hn => (h'.keyValid n hn).trans (h.keyValid n hn)⟩

theorem of_units (hl : t.link = s.link) (hk : t.keys = s.keys) : TakesEntry x (s.txStream x).entry s t :=
  ⟨by rw [tx_congr hl], fun y _ => tx_congr hl y, fun n _ => keyValid_congr hk n⟩

theorem refl (x : Nat) (s : State) : TakesEntry x (s.txStream x).entry s s := of_units rfl rfl

/-- A stream that keeps its entry may follow. -/
theorem andThen (h : TakesEntry x e s t) (h' : TakesEntry x (t.txStream x).entry t u) : TakesEntry x e s u := by
  rw [h.entry] at h'
  exact h.trans h'

end TakesEntry

section
variable (s : State) (x : Nat)

theorem setTx_takesEntry (v : TxStream) : TakesEntry x v.entry s (s.setTx x v) :=
  ⟨by rw [txStream_setTx_same], fun _ hy => txStream_setTx_other s v hy.symm, fun _ _ => rfl⟩

theorem txEnter_takesEntry (st : TxState) (an : Nat) (v : TxStream) : TakesEntry x v.entry s (s.txEnter x st an v) :=
  ⟨by rw [txStream_txEnter_same], fun _ hy => txStream_setTx_other s _ hy.symm, fun _ _ => rfl⟩

theorem emit_takesEntry (e kind number arg : Nat) : TakesEntry x (s.txStream x).entry s (s.emit e kind number arg) :=
  .of_units (emit_link ..) rfl

theorem settleBlock_takesEntry (type b : Nat) : TakesEntry x (s.txStream x).entry s (s.settleBlock type b) :=
  .of_units (settleBlock_settles ..).link (settleBlock_settles ..).keys

theorem installKey_link (n value : Nat) : (s.installKey n value).link = s.link := by
  unfold installKey
  split <;> rfl

theorem installKey_takesEntry (an value : Nat) : TakesEntry x (s.txStream x).entry s (s.installKey (slotTx x an) value) := by
  refine ⟨by rw [tx_congr (installKey_link ..)], fun y _ => tx_congr (installKey_link ..) y, fun n hn => ?_⟩
  have hne : slotTx x an ≠ n := by
    rintro rfl
    simp only [slotTx] at hn
    omega
  rw [keyValid, slot_installKey_other s value hne, keyValid]

theorem txStuck_takesEntry : TakesEntry x (s.txStream x).entry s (s.txStuck x) := by
  unfold txStuck
  dsimp only
  split
  · exact .refl x s
  · exact (txEnter_takesEntry ..).andThen (emit_takesEntry ..)

theorem exhaust_takesEntry (cause : Nat) : TakesEntry x (s.txStream x).entry s (s.exhaust x cause) := by
  unfold exhaust
  dsimp only
  split
  · exact .refl x s
  · exact (txEnter_takesEntry ..).andThen (emit_takesEntry ..)

theorem denyLease_takesEntry (cause : Nat) : TakesEntry x (s.txStream x).entry s (s.denyLease x cause) := by
  have hdeny := setTx_takesEntry s x { s.txStream x with asked := false, denied := some cause }
  unfold denyLease
  dsimp only
  split
  · exact hdeny
  · exact hdeny.andThen (exhaust_takesEntry ..)

theorem askAdvance_takesEntry (a : Advance) : TakesEntry x (s.txStream x).entry s (s.askAdvance a) := by
  unfold askAdvance
  split
  · exact .refl x s
  · exact .of_units rfl rfl

theorem askJournal_takesEntry (start : Nat) : TakesEntry x (s.txStream x).entry s (s.askJournal x start) :=
  ⟨rfl, fun _ _ => rfl, fun _ _ => rfl⟩

theorem askLease_takesEntry : TakesEntry x (s.txStream x).entry s (s.askLease x) := by
  have hask := setTx_takesEntry s x { s.txStream x with asked := true }
  unfold askLease
  dsimp only
  split
  · exact .refl x s
  · split
    · exact hask
    · split
      · exact denyLease_takesEntry ..
      · split
        · split
          · exact hask.andThen (askJournal_takesEntry ..)
          · exact hask.andThen (askAdvance_takesEntry ..)
        · split
          · exact hask.andThen (askAdvance_takesEntry ..)
          · exact hask.andThen (askJournal_takesEntry ..)

theorem startTxPin_takesEntry : TakesEntry x (s.txStream x).entry s (s.startTxPin x) := by
  have hkeyed (value : Nat) (an : Nat) (st : TxState) (v : TxStream) (hv : v.entry = (s.txStream x).entry) :
      TakesEntry x (s.txStream x).entry s ((s.installKey (slotTx x an) value).txEnter x st an v) :=
    (installKey_takesEntry s x an value).trans (hv ▸ txEnter_takesEntry ..)
  unfold startTxPin
  dsimp only
  split
  · exact .refl x s
  · split
    · split
      · refine hkeyed _ _ _ _ ?_
        rfl
      · refine (hkeyed _ _ _ _ ?_).andThen (askLease_takesEntry ..)
        rfl
    · split
      · exact txStuck_takesEntry ..
      · exact .refl x s

/-- A transmit stream takes the entry that its section gives it. -/
theorem applyTxEntry_takesEntry :
    TakesEntry x (entryIn (s.nextSection 0o016 (x / 64)) 8 (x % 64)) s (s.applyTxEntry x) := by
  have hstart (b : Bool) (u : State) : TakesEntry x (u.txStream x).entry u (if b then u.startTxPin x else u) := by
    split
    · exact startTxPin_takesEntry ..
    · exact .refl x u
  have hput (e : List Word) (c : Prop) [Decidable c] (v w z : TxStream) (st st' : TxState) (an an' : Nat)
      (hv : v.entry = []) (hw : w.entry = e) (hz : z.entry = e) :
      TakesEntry x e s
        (if e.isEmpty then s.txEnter x st an v else if c then s.txEnter x st' an' w else s.setTx x z) := by
    split
    · next he =>
      rw [List.isEmpty_iff.mp he, ← hv]
      exact txEnter_takesEntry ..
    · split
      · exact hw ▸ txEnter_takesEntry ..
      · exact hz ▸ setTx_takesEntry ..
  unfold applyTxEntry
  dsimp only
  split
  · next h => rw [h]; exact .refl x s
  · refine (hput _ _ _ _ _ _ _ _ _ ?_ ?_ ?_).andThen ((hstart ..).andThen (settleBlock_takesEntry ..))
    all_goals rfl

end

/-! ### A block of transmit streams -/

/-- The entries of block `b` are being taken from the section `new`: a stream has its entry, or holds no key and takes it. -/
structure BlockTaking (b : Nat) (new : Option Section) (s : State) : Prop where
  wf : s.PendingWf
  next : s.nextSection 0o016 b = new
  stream : ∀ i < 64, (s.txStream (64 * b + i)).entry = entryIn new 8 i ∨ s.unkeyed (slotTx (64 * b + i)) = true

section
variable {s : State} {b i j : Nat} {new : Option Section}

theorem unkeyed_congr {t : State} {x : Nat} (h : ∀ an, t.keyValid (slotTx x an) = s.keyValid (slotTx x an)) :
    t.unkeyed (slotTx x) = s.unkeyed (slotTx x) := by rw [unkeyed, unkeyed, h, h]

theorem takeEntry_of_unkeyed (hb : b < 256) (hi : s.unkeyed (slotTx (64 * b + i)) = true) :
    s.takeEntry b i = s.applyTxEntry (64 * b + i) := by
  unfold takeEntry
  dsimp only
  rw [Nat.mod_eq_of_lt hb, if_pos hb, if_pos hi]

theorem takeEntry_of_keyed (hb : b < 256) (hi : ¬ s.unkeyed (slotTx (64 * b + i)) = true) : s.takeEntry b i = s := by
  unfold takeEntry
  dsimp only
  rw [Nat.mod_eq_of_lt hb, if_pos hb, if_neg hi]

theorem BlockTaking.takesEntry (h : BlockTaking b new s) (hb : b < 256) (hi : i < 64) :
    TakesEntry (64 * b + i) (entryIn new 8 i) s (s.takeEntry b i) := by
  by_cases hk : s.unkeyed (slotTx (64 * b + i)) = true
  · have he := applyTxEntry_takesEntry s (64 * b + i)
    rw [show (64 * b + i) / 64 = b by omega, show (64 * b + i) % 64 = i by omega, h.next] at he
    exact takeEntry_of_unkeyed hb hk ▸ he
  · rw [takeEntry_of_keyed hb hk, ← (h.stream i hi).resolve_right hk]
    exact .refl _ s

theorem BlockTaking.step (h : BlockTaking b new s) (hb : b < 256) (hi : i < 64) : BlockTaking b new (s.takeEntry b i) where
  wf := (takeEntry_applies s b i).wf h.wf
  next := ((takeEntry_applies s b i).next h.wf ..).trans h.next
  stream j hj := by
    have he := h.takesEntry hb hi
    by_cases hij : j = i
    · subst hij
      exact .inl he.entry
    · have hkeep : (s.takeEntry b i).unkeyed (slotTx (64 * b + j)) = s.unkeyed (slotTx (64 * b + j)) :=
        unkeyed_congr fun an => he.keyValid _ (by simp only [slotTx]; omega)
      rw [he.other (64 * b + j) (by omega), hkeep]
      exact h.stream j hj

/-- Each stream of the block has its entry when all have been visited. -/
theorem BlockTaking.entries (h : BlockTaking b new s) (hb : b < 256) (hi : i < 64) :
    (((List.range 64).foldl (fun (s : State) i => s.takeEntry b i) s).txStream (64 * b + i)).entry = entryIn new 8 i := by
  refine foldl_reaches (P := BlockTaking b new) (Q := fun s => (s.txStream (64 * b + i)).entry = entryIn new 8 i)
    (List.mem_range.mpr hi) (fun s j hj hs => hs.step hb (List.mem_range.mp hj))
    (fun s hs => (hs.takesEntry hb hi).entry) (fun s j hj hs he => ?_) h
  have hj := hs.takesEntry hb (List.mem_range.mp hj)
  by_cases hij : i = j
  · subst hij
    exact hj.entry
  · rw [hj.other (64 * b + i) (by omega), he]

/-- A block whose streams have all taken their entries waits for none. -/
theorem settleBlock_pending?_of_entries (hb : b < 256) (hnext : s.nextSection 0o016 b = new)
    (he : ∀ i < 64, (s.txStream (64 * b + i)).entry = entryIn new 8 i) :
    (s.settleBlock 0o016 b).pending? 0o016 b = none := by
  cases hp : s.pending? 0o016 b with
  | none => exact (settleBlock_applies ..).none _ _ hp
  | some p =>
    have hok : ((List.range 64).all fun i => decide ((s.txStream (64 * b + i)).entry = entryIn p.new 8 i)) = true :=
      List.all_eq_true.mpr fun i hi => by
        rw [he i (List.mem_range.mp hi), ← hnext, nextSection_of_some hp, decide_eq_true rfl]
    unfold settleBlock
    rw [hp]
    dsimp only
    simp only [Nat.mod_eq_of_lt hb, if_pos hb, if_true, hok]
    rw [settleApply_pending?, takePending_pending?_same]

/-- A block of transmit streams of which none holds a key takes its section (R261). -/
theorem applyBlock_takes (hwf : s.PendingWf) (hb : b < 256) (hkeys : ∀ i < 64, s.unkeyed (slotTx (64 * b + i)) = true) :
    (s.applyBlock b).pending? 0o016 b = none ∧
      ∀ i < 64, ((s.applyBlock b).txStream (64 * b + i)).entry = entryIn (s.nextSection 0o016 b) 8 i := by
  have htaking : BlockTaking b (s.nextSection 0o016 b) s := ⟨hwf, rfl, fun i hi => .inr (hkeys i hi)⟩
  have he (i : Nat) (hi : i < 64) := htaking.entries hb hi
  rw [applyBlock_eq]
  refine ⟨settleBlock_pending?_of_entries hb ((takeEntries_applies s b).next hwf ..) he, fun i hi => ?_⟩
  rw [tx_congr (settleBlock_settles ..).link, he i hi]

end

/-! ### Receive streams -/

/-- Receive stream `x` takes the pinned key `p`; its entry and the other streams stand. -/
structure TakesPin (x : Nat) (p : List Word) (s t : State) : Prop where
  pin : (t.rxStream x).pin = p
  entry : (t.rxStream x).entry = (s.rxStream x).entry
  other : ∀ y, y ≠ x → t.rxStream y = s.rxStream y

namespace TakesPin

variable {x : Nat} {p p' : List Word} {s t u : State}

theorem trans (h : TakesPin x p s t) (h' : TakesPin x p' t u) : TakesPin x p' s u :=
  ⟨h'.pin, h'.entry.trans h.entry, fun y hy => (h'.other y hy).trans (h.other y hy)⟩

theorem of_link (hl : t.link = s.link) : TakesPin x (s.rxStream x).pin s t :=
  ⟨by rw [rx_congr hl], by rw [rx_congr hl], fun y _ => rx_congr hl y⟩

theorem refl (x : Nat) (s : State) : TakesPin x (s.rxStream x).pin s s := of_link rfl

/-- A stream that keeps its pinned key may follow. -/
theorem andThen (h : TakesPin x p s t) (h' : TakesPin x (t.rxStream x).pin t u) : TakesPin x p s u := by
  rw [h.pin] at h'
  exact h.trans h'

end TakesPin

@[simp] theorem setRxPn_entry (v : RxStream) (an : Nat) (p : RxPn) : (setRxPn v an p).entry = v.entry := by
  unfold setRxPn
  split <;> rfl

section
variable (s : State) (x : Nat)

theorem setRx_takesPin {p : List Word} (v : RxStream) (hp : v.pin = p) (h : v.entry = (s.rxStream x).entry) :
    TakesPin x p s (s.setRx x v) :=
  ⟨by rw [rxStream_setRx_same, hp], by rw [rxStream_setRx_same, h], fun _ hy => rxStream_setRx_other s v hy.symm⟩

theorem rxEnter_takesPin {p : List Word} (st : RxState) (an : Nat) (v : RxStream) (hp : v.pin = p)
    (h : v.entry = (s.rxStream x).entry) : TakesPin x p s (s.rxEnter x st an v) :=
  setRx_takesPin s x { v with
    state := st, an := an, gen := if v.state = st ∧ v.an = an then v.gen else (v.gen + 1) % 32 } hp h

theorem rxStuck_takesPin : TakesPin x (s.rxStream x).pin s (s.rxStuck x) := by
  unfold rxStuck
  dsimp only
  split
  · exact .refl x s
  · exact (rxEnter_takesPin s x _ _ _ rfl rfl).andThen (.of_link (emit_link ..))

theorem settleBlock_takesPin (type b : Nat) : TakesPin x (s.rxStream x).pin s (s.settleBlock type b) :=
  .of_link (settleBlock_settles ..).link

/-- A receive stream takes the pinned key that its section gives it. -/
theorem applyRxPin_takesPin {p : List Word} (hp : entryIn (s.nextSection 0o017 (256 + x / 64)) 32 (x % 64) = p) :
    TakesPin x (if p.isEmpty then (s.rxStream x).pin else p) s (s.applyRxPin x) := by
  have hcount (b : Prop) [Decidable b] (u : State) : TakesPin x (u.rxStream x).pin u (if b then u else u.countRekey) := by
    split
    · exact .refl x u
    · exact ⟨rfl, rfl, fun _ _ => rfl⟩
  have hstuck (b : Bool) (u : State) : TakesPin x (u.rxStream x).pin u (if b then u.rxStuck x else u) := by
    split
    · exact rxStuck_takesPin ..
    · exact .refl x u
  have hinstall (n value : Nat) : TakesPin x (s.rxStream x).pin s (s.installKey n value) := .of_link (installKey_link ..)
  unfold applyRxPin
  dsimp only
  rw [hp]
  by_cases h : (decide (p = (s.rxStream x).pin) || p.isEmpty) = true
  · have hpin : (if p.isEmpty then (s.rxStream x).pin else p) = (s.rxStream x).pin := by
      obtain he | he := (Bool.or_eq_true _ _).mp h
      · rw [← of_decide_eq_true he, ite_self]
      · exact if_pos he
    rw [if_pos h, hpin]
    exact .refl x s
  · have hne : ¬ p.isEmpty = true := fun he => h ((Bool.or_eq_true _ _).mpr (.inr he))
    rw [if_neg h, if_neg hne]
    split
    · have hkeyed := (hinstall (slotRx x (pinAn p)) (s.pinValue true x p)).andThen
        (hcount (pinAn p = (s.rxStream x).an) (s.installKey (slotRx x (pinAn p)) (s.pinValue true x p)))
      refine (hkeyed.trans (rxEnter_takesPin _ x _ _ _ ?_ ?_)).andThen (settleBlock_takesPin ..)
      · rfl
      · rw [hkeyed.entry]
        exact setRxPn_entry ..
    · refine (setRx_takesPin s x _ ?_ ?_).andThen ((hstuck ..).andThen (settleBlock_takesPin ..))
      all_goals rfl

end

/-! ### A block of receive streams -/

/-- The pinned keys of block `b` are being taken from the section `new`; stream `x` of it has a pinned key. -/
structure PinsTaking (b x : Nat) (new : Option Section) (s : State) : Prop where
  wf : s.PendingWf
  next : s.nextSection 0o017 b = new
  pinned : entPinned (s.rxStream x).entry = true

section
variable {s : State} {b i x : Nat} {new : Option Section}

/-- Another stream leaves stream `x` as it is. -/
theorem takePin_other (h : x ≠ 64 * (b - 256) + i) : (s.takePin b i).rxStream x = s.rxStream x := by
  unfold takePin
  dsimp only
  split
  · exact (applyRxPin_takesPin s _ rfl).other x h
  · rfl

theorem PinsTaking.takesPin (h : PinsTaking b x new s) (hx : x / 64 + 256 = b) (hnew : entryIn new 32 (x % 64) ≠ []) :
    TakesPin x (entryIn new 32 (x % 64)) s (s.takePin b (x % 64)) := by
  have ht := applyRxPin_takesPin s x (p := entryIn new 32 (x % 64)) (by rw [show 256 + x / 64 = b by omega, h.next])
  rw [if_neg (by simpa using hnew)] at ht
  unfold takePin
  dsimp only
  rw [show 64 * (b - 256) + x % 64 = x by omega, if_pos h.pinned]
  exact ht

/-- No entry changes with the pinned keys. -/
theorem takePin_entry : ((s.takePin b i).rxStream x).entry = (s.rxStream x).entry := by
  by_cases h : x = 64 * (b - 256) + i
  · subst h
    unfold takePin
    dsimp only
    split
    · exact (applyRxPin_takesPin s _ rfl).entry
    · rfl
  · rw [takePin_other h]

theorem PinsTaking.step (h : PinsTaking b x new s) (i : Nat) : PinsTaking b x new (s.takePin b i) where
  wf := (takePin_applies s b i).wf h.wf
  next := ((takePin_applies s b i).next h.wf ..).trans h.next
  pinned := (congrArg entPinned takePin_entry).trans h.pinned

/-- A pinned receive stream takes the key of the section that waits (R271). -/
theorem applyPins_takes (hwf : s.PendingWf) (hx : x / 64 + 256 = b) (hpinned : entPinned (s.rxStream x).entry = true)
    (hnew : entryIn (s.nextSection 0o017 b) 32 (x % 64) ≠ []) :
    ((s.applyPins b).rxStream x).pin = entryIn (s.nextSection 0o017 b) 32 (x % 64) := by
  rw [applyPins_of_rx s (by omega), rx_congr (settleBlock_settles ..).link]
  refine foldl_reaches (P := PinsTaking b x (s.nextSection 0o017 b))
    (Q := fun t => (t.rxStream x).pin = entryIn (s.nextSection 0o017 b) 32 (x % 64)) (a := x % 64)
    (List.mem_range.mpr (by omega)) (fun t i _ ht => ht.step i)
    (fun t ht => (ht.takesPin hx hnew).pin) (fun t i hi ht hpin => ?_) ⟨hwf, rfl, hpinned⟩
  by_cases hxi : x = 64 * (b - 256) + i
  · have hi' : i = x % 64 := by
      have := List.mem_range.mp hi
      omega
    rw [hi', (ht.takesPin hx hnew).pin]
  · rw [takePin_other hxi, hpin]

end
end State

/-! ## The blocks' boundaries -/

theorem dSectionBoundary_txBlock {inst : Nat} {p : PendingSection} {s : State} (hwf : s.PendingWf)
    (hp : s.pending? 0o016 inst = some p) (hinst : inst < 256)
    (hkeys : ∀ i ∈ List.range 64, s.unkeyed (slotTx (64 * inst + i)) = true) :
    ∃ t, exec (.dSectionBoundary 0o016 inst) s = .next t ∧ t.pending? 0o016 inst = none ∧
      (∀ i ∈ List.range 64, (t.txStream (64 * inst + i)).entry = entryIn p.new 8 i) := by
  obtain ⟨t, ht, himage, hlink, -, -⟩ := State.sectionBoundary_acts hp
  obtain ⟨hnone, he⟩ := State.applyBlock_takes (s := s.clear) hwf hinst fun i hi => hkeys i (List.mem_range.mpr hi)
  refine ⟨t, ht, (State.pending?_congr himage ..).trans hnone, fun i hi => ?_⟩
  rw [State.tx_congr hlink, ← State.nextSection_of_some hp]
  exact he i (List.mem_range.mp hi)

theorem dSectionBoundary_rxPins {inst x : Nat} {p : PendingSection} {s : State} (hwf : s.PendingWf)
    (hp : s.pending? 0o017 inst = some p) (hx : x / 64 + 256 = inst) (hpinned : entPinned (s.rxStream x).entry = true)
    (hnew : entryIn p.new 32 (x % 64) ≠ []) :
    ∃ t, exec (.dSectionBoundary 0o017 inst) s = .next t ∧ (t.rxStream x).pin = entryIn p.new 32 (x % 64) := by
  obtain ⟨t, ht, -, hlink, -, -⟩ := State.sectionBoundary_acts hp
  refine ⟨t, ht, ?_⟩
  rw [← State.nextSection_of_some hp] at hnew ⊢
  rw [State.rx_congr hlink]
  exact State.applyPins_takes (s := s.clear) hwf hx hpinned hnew

/-- Settles O25: what an apply brings about leaves every unit with the section that it is to have, so each boundary need only be
followed for its own unit. -/
theorem liveApplyCompletes : Obligations.LiveApplyCompletes :=
  ⟨applyStaged_begins, applyVerificationDone_ends,
    fun _ _ _ _ hrun hpending hp htype hholds hreset =>
      dSectionBoundary_tenant ⟨hrun, hpending⟩ hp htype hholds hreset,
    fun _ _ _ _ _ hp hlinked hquiet => dSectionBoundary_port hp hlinked hquiet,
    fun _ _ _ _ hp hleft => dSectionBoundary_directory hp hleft,
    fun _ _ _ hrun hpending hp hinst hkeys => dSectionBoundary_txBlock ⟨hrun, hpending⟩ hp hinst hkeys,
    fun _ _ _ _ hrun hpending hp _ hx hpinned hnew => dSectionBoundary_rxPins ⟨hrun, hpending⟩ hp hx hpinned hnew⟩

end Sys2Proof.Machine

namespace Sys2Proof.Machine
namespace State

/-! ## Fuses stay blown (R123) -/

/-- Every fuse that is blown in one state is blown in another (R123). -/
structure KeepsFuses (s t : State) : Prop where
  testBit : ∀ {w bit : Nat}, (s.otpWord w).testBit bit = true → (t.otpWord w).testBit bit = true

namespace KeepsFuses

variable {s t u : State}

theorem of_otp (h : t.otp = s.otp) : KeepsFuses s t := ⟨fun hb => by rwa [otpWord, h]⟩

theorem refl (s : State) : KeepsFuses s s := of_otp rfl

theorem trans (h : KeepsFuses s t) (h' : KeepsFuses t u) : KeepsFuses s u := ⟨fun hb => h'.testBit (h.testBit hb)⟩

/-- What leaves the OTP as it is may follow. -/
theorem then_otp (h : KeepsFuses s t) (he : u.otp = t.otp) : KeepsFuses s u := h.trans (of_otp he)

end KeepsFuses

theorem blow_keepsFuses (s : State) (w m : Nat) : KeepsFuses s (s.blow w m) := ⟨testBit_otpWord_blow w m⟩

theorem blowRung_keepsFuses (s : State) (l : Ladder) (k m : Nat) : KeepsFuses s (s.blowRung l k m) := blow_keepsFuses ..

/-- Words are written one after another. -/
theorem blowWords_cons (s : State) (w : Nat) (x : Word) (ws : List Word) :
    s.blowWords w (x :: ws) = (s.blow w x.toNat).blowWords (w + 1) ws := by
  simp only [blowWords, List.length_cons, List.range_succ_eq_map, List.zip_cons_cons, List.foldl_cons, List.zip_map_left,
    List.foldl_map, Prod.map_fst, Prod.map_snd, id, Nat.add_succ, Nat.succ_add]
  rfl

theorem otpWord_blowWords (s : State) (w v : Nat) (ws : List Word) :
    (s.blowWords w ws).otpWord v =
      if w ≤ v ∧ v < w + ws.length then s.otpWord v ||| (wordAt ws (v - w)).toNat else s.otpWord v := by
  induction ws generalizing s w with
  | nil =>
    rw [if_neg (by rw [List.length_nil]; omega)]
    rfl
  | cons x ws ih =>
    rw [blowWords_cons, ih]
    obtain rfl | hv := eq_or_ne w v
    · simp [otpWord_blow_same, wordAt]
    · rw [otpWord_blow_other s _ hv]
      by_cases hlt : w < v
      · have hsub : v - w = v - (w + 1) + 1 := by omega
        have hiff : w + 1 ≤ v ∧ v < w + 1 + ws.length ↔ w ≤ v ∧ v < w + (x :: ws).length := by
          rw [List.length_cons]
          omega
        simp only [hiff, hsub, wordAt, List.getElem?_cons_succ]
      · rw [if_neg (by omega), if_neg (by omega)]

theorem blowWords_keepsFuses (s : State) (w : Nat) (ws : List Word) : KeepsFuses s (s.blowWords w ws) where
  testBit hb := by
    rw [otpWord_blowWords]
    split
    · rw [Nat.testBit_or, hb, Bool.true_or]
    · exact hb

end State

/-- An `act` whose effect keeps the blown fuses keeps them, whatever parts it names. -/
theorem act_keepsFuses {ps : List Part} {s t : State} {f : State → State} (h : act ps s f = .next t)
    (hf : State.KeepsFuses s.clear (f s.clear)) : State.KeepsFuses s t := by
  cases h
  have he := actState_otp ps s f
  split at he
  · exact .then_otp ⟨hf.testBit⟩ he
  · exact .of_otp he

theorem exec_otp {c : Instr} {s t : State} (hc : Part.otp ∉ writes c) (h : exec c s = .next t) : t.otp = s.otp :=
  exec_onlyChanges h .otp (by simp [hc, observers])
end Sys2Proof.Machine

namespace Sys2Proof.Machine
namespace State

/-! ## What the end of traffic leaves alone (Table 5.4) -/

/-- Between two states the custodian, the OTP and the course of the start stand, and all that was sent stays sent. -/
structure KeepsCustody (s t : State) : Prop where
  cus : t.cus = s.cus
  otp : t.otp = s.otp
  start : t.start = s.start
  sent : s.sent <+: t.sent

namespace KeepsCustody

variable {s t u : State}

theorem refl (s : State) : KeepsCustody s s := ⟨rfl, rfl, rfl, List.prefix_rfl⟩

theorem trans (h : KeepsCustody s t) (h' : KeepsCustody t u) : KeepsCustody s u :=
  ⟨h'.cus.trans h.cus, h'.otp.trans h.otp, h'.start.trans h.start, h.sent.trans h'.sent⟩

theorem foldl {α : Type} {f : State → α → State} (hf : ∀ s x, KeepsCustody s (f s x)) (l : List α) (s : State) :
    KeepsCustody s (l.foldl f s) :=
  List.foldlRecOn l f (motive := KeepsCustody s) (refl s) (fun _ h x _ => h.trans (hf _ x))

/-- A step that is taken under a condition. -/
theorem ite {c : Prop} [Decidable c] (ht : KeepsCustody s t) (hu : KeepsCustody s u) :
    KeepsCustody s (if c then t else u) := by
  split
  · exact ht
  · exact hu

theorem of_manages {op : Prop} (h : Manages op s t) : KeepsCustody s t := ⟨h.cus, by rw [h.eq], h.start, h.sent⟩

/-- A response that has been sent stays sent. -/
theorem answers (h : KeepsCustody s t) {c : Caller} {verb status : Nat} {words : List Word}
    (ha : s.answers c verb status words = true) : t.answers c verb status words = true := by
  obtain ⟨m, hm, hr⟩ := List.any_eq_true.mp ha
  exact List.any_eq_true.mpr ⟨m, h.sent.subset hm, hr⟩

end KeepsCustody

section
variable (s : State)

theorem setLane_keepsCustody (n : Nat) (v : Lane) : KeepsCustody s (s.setLane n v) := ⟨rfl, rfl, rfl, List.prefix_rfl⟩
theorem setTp_keepsCustody (v : TurnpikeUnit) : KeepsCustody s { s with tp := v } := ⟨rfl, rfl, rfl, List.prefix_rfl⟩
theorem setWay_keepsCustody (v : WayUnit) : KeepsCustody s { s with way := v } := ⟨rfl, rfl, rfl, List.prefix_rfl⟩
theorem setOnce_keepsCustody (l : List (Nat × Nat × Nat)) : KeepsCustody s { s with once := l } :=
  ⟨rfl, rfl, rfl, List.prefix_rfl⟩
theorem setFree_keepsCustody (n : Nat) : KeepsCustody s { s with free := n } := ⟨rfl, rfl, rfl, List.prefix_rfl⟩
theorem setTenant_keepsCustody (t : Nat) (v : Tenant) : KeepsCustody s (s.setTenant t v) :=
  ⟨rfl, rfl, rfl, List.prefix_rfl⟩
theorem note_keepsCustody (n : Note) : KeepsCustody s (s.note n) := ⟨rfl, rfl, rfl, List.prefix_rfl⟩
theorem send_keepsCustody (m : Sent) : KeepsCustody s (s.send m) := ⟨rfl, rfl, rfl, List.prefix_append ..⟩
theorem emit_keepsCustody (e kind number arg : Nat) : KeepsCustody s (s.emit e kind number arg) :=
  ⟨rfl, rfl, rfl, List.prefix_rfl⟩
theorem laneEnter_keepsCustody (n : Nat) (st : LaneState) (v : Lane) : KeepsCustody s (s.laneEnter n st v) :=
  setLane_keepsCustody ..
theorem setQueue_keepsCustody (q : Nat) (v : Queue) : KeepsCustody s (s.setQueue q v) := setTp_keepsCustody ..

/-! ### Delay requests and refusals -/

theorem sendFlow_keepsCustody (n prios quanta : Nat) : KeepsCustody s (s.sendFlow n prios quanta) := by
  unfold sendFlow
  split
  · exact ((setLane_keepsCustody ..).trans (send_keepsCustody ..)).trans
      ((KeepsCustody.of_manages (frameOut_manages (op := True) ..)).trans (note_keepsCustody ..))
  · exact .refl s

theorem laneFlow_keepsCustody (n : Nat) : KeepsCustody s (s.laneFlow n) := by
  have hif (c : Prop) [Decidable c] (s : State) (a b : Nat) : KeepsCustody s (if c then s.sendFlow n a b else s) :=
    .ite (sendFlow_keepsCustody ..) (.refl s)
  unfold laneFlow
  dsimp only
  split
  · split
    · exact .refl s
    · exact (setLane_keepsCustody ..).trans (sendFlow_keepsCustody ..)
  · split
    · split
      · exact .refl s
      · exact ((setLane_keepsCustody ..).trans (hif ..)).trans (hif ..)
    · exact .refl s

theorem flowAll_keepsCustody : KeepsCustody s s.flowAll :=
  .foldl (fun s n => .ite (laneFlow_keepsCustody s n) (.refl s)) _ s

theorem markReleased_keepsCustody (l : List Nat) (at_ : Option Nat) : KeepsCustody s (s.markReleased l at_) :=
  .foldl (fun s q => .ite (setQueue_keepsCustody s q _) (.refl s)) l s

theorem delayFalls_keepsCustody (t c : Nat) : KeepsCustody s (s.delayFalls t c) := by
  unfold delayFalls
  dsimp only
  split
  · split
    · refine .trans ?_ (flowAll_keepsCustody _)
      exact (note_keepsCustody ..).trans (setTp_keepsCustody ..)
    · refine .trans (.trans ?_ (markReleased_keepsCustody _ _ _)) (flowAll_keepsCustody _)
      exact (note_keepsCustody ..).trans (setTp_keepsCustody ..)
  · exact .refl s

theorem freed_keepsCustody (q : Nat) : KeepsCustody s (s.freed q) := by
  unfold freed
  split
  · exact delayFalls_keepsCustody ..
  · exact .refl s

theorem wayWrite_keepsCustody (e : List Nat) : KeepsCustody s (s.wayWrite e) := by
  unfold wayWrite
  dsimp only
  split
  · split <;> exact ⟨rfl, rfl, rfl, List.prefix_rfl⟩
  · exact setWay_keepsCustody ..

theorem wayEnd_keepsCustody (q outPort : Nat) (f : QFrame) (prot : Bool) (outcome : Nat) :
    KeepsCustody s (s.wayEnd q outPort f prot outcome) := by
  unfold wayEnd
  split
  · dsimp only
    refine .trans ?_ (wayWrite_keepsCustody _ _)
    exact ⟨rfl, rfl, rfl, List.prefix_rfl⟩
  · exact .refl s

theorem degrade_keepsCustody (t code : Nat) : KeepsCustody s (s.degrade t code) := by
  unfold degrade
  dsimp only
  split
  · exact .refl s
  · split
    · exact (setTenant_keepsCustody ..).trans (emit_keepsCustody ..)
    · exact setTenant_keepsCustody ..
    · exact .refl s

theorem emitOnceKey_keepsCustody (key e kind number arg : Nat) : KeepsCustody s (s.emitOnceKey key e kind number arg) := by
  unfold emitOnceKey
  split
  · exact .refl s
  · exact (setOnce_keepsCustody ..).trans (emit_keepsCustody ..)

theorem refuse_keepsCustody (t q code : Nat) : KeepsCustody s (s.refuse t q code) := by
  have hcount (s : State) : KeepsCustody s (s.refuseCount t q code) :=
    ((setQueue_keepsCustody ..).trans (setTenant_keepsCustody ..)).trans
      ((emitOnceKey_keepsCustody ..).trans (degrade_keepsCustody ..))
  unfold refuse
  dsimp only
  split
  · exact (setLane_keepsCustody ..).trans (hcount _)
  · exact hcount s

theorem refuseQueued_keepsCustody (t q code : Nat) (p : QFrame → Bool) : KeepsCustody s (s.refuseQueued t q code p) := by
  have hfold (l : List QFrame) (s : State) : KeepsCustody s
      (l.foldl (fun s f => (s.refuse t q code).wayEnd q (s.qEgress q) f (s.egressTrunk q) code) s) :=
    .foldl (fun s f => (refuse_keepsCustody s t q code).trans (wayEnd_keepsCustody ..)) l s
  unfold refuseQueued
  dsimp only
  split
  · exact (setQueue_keepsCustody ..).trans (hfold ..)
  · exact ((setQueue_keepsCustody ..).trans (hfold ..)).trans (delayFalls_keepsCustody ..)

theorem refuseLane_keepsCustody (n : Nat) : KeepsCustody s (s.refuseLane n) := by
  refine .foldl (fun s q => ?_) _ s
  split
  · exact refuseQueued_keepsCustody ..
  · exact .refl s

/-! ### The frame in flight -/

theorem lineCut_keepsCustody (n : Nat) : KeepsCustody s (s.lineCut n) := by
  unfold lineCut
  split
  · exact (setFree_keepsCustody ..).trans (setLane_keepsCustody ..)
  · exact .refl s

theorem wasteSlots_keepsCustody (rx : Bool) (n most : Nat) : KeepsCustody s (s.wasteSlots rx n most) :=
  .trans (t := { s with free := s.free + 1 }) (setFree_keepsCustody ..) ((note_keepsCustody ..).trans (note_keepsCustody ..))

theorem wayAbort_keepsCustody (f : QFrame) : KeepsCustody s (s.wayAbort f) := by
  unfold wayAbort
  split
  · exact setWay_keepsCustody ..
  · exact .refl s

theorem frameCut_keepsCustody (n : Nat) (f : QFrame) : KeepsCustody s (s.frameCut n f) := by
  unfold frameCut
  dsimp only
  split
  · exact (wasteSlots_keepsCustody ..).trans (wayAbort_keepsCustody ..)
  · exact wayAbort_keepsCustody ..

theorem endFlight_keepsCustody (q : Nat) : KeepsCustody s (s.endFlight q) :=
  (setQueue_keepsCustody ..).trans (freed_keepsCustody ..)

theorem cutFrame_keepsCustody (n : Nat) : KeepsCustody s (s.cutFrame n) := by
  have hcut (c : Sched) (v : Lane) : KeepsCustody s (((s.lineCut n).setSched n c).setLane n v) :=
    (lineCut_keepsCustody ..).trans ((setTp_keepsCustody ..).trans (setLane_keepsCustody ..))
  unfold cutFrame
  dsimp only
  split
  · split
    · split
      · exact (hcut ..).trans ((frameCut_keepsCustody ..).trans (endFlight_keepsCustody ..))
      · exact (hcut ..).trans (endFlight_keepsCustody ..)
    · exact (hcut ..).trans (.of_manages (mgmtAdmit_manages (op := True) ..))
  · exact .refl s

/-! ### Traffic stops -/

/-- A lane stops: the frame on it is cut short, and those queued for it are refused. -/
def laneStops (s : State) (n : Nat) : State :=
  if s.hasSection 0o004 n then
    let s := s.cutFrame n
    let s := s.laneEnter n .off { s.lane n with holdUntil := none, trainingInDown := false }
    s.refuseLane n
  else s

/-- What waited for an apply is discarded. -/
def applyStops (s : State) : State :=
  { s with
    image := { s.image with
      pending := [], applying := none
      applyState := if decide (s.image.applyState = 1 ∨ s.image.applyState = 2) then 0 else s.image.applyState }
    stn := { s.stn with oldDir := [] } }

theorem stopTraffic_eq : s.stopTraffic =
    (let t := ((List.range 16).foldl laneStops s).applyStops.abandonHandshakes
    t.sessionsHeld.foldl (fun t c => t.closeSession c 4) t) := by
  unfold stopTraffic
  rfl

theorem laneStops_keepsCustody (n : Nat) : KeepsCustody s (s.laneStops n) := by
  unfold laneStops
  split
  · exact ((cutFrame_keepsCustody ..).trans (laneEnter_keepsCustody ..)).trans (refuseLane_keepsCustody ..)
  · exact .refl s

theorem applyStops_keepsCustody : KeepsCustody s s.applyStops := ⟨rfl, rfl, rfl, List.prefix_rfl⟩

theorem abandonHandshakes_keepsCustody : KeepsCustody s s.abandonHandshakes := ⟨rfl, rfl, rfl, List.prefix_rfl⟩

theorem stopTraffic_keepsCustody : KeepsCustody s s.stopTraffic := by
  have hclose (s : State) (c : Caller) : KeepsCustody s (s.closeSession c 4) :=
    .of_manages (closeSession_manages (op := True) s c 4 fun _ => trivial)
  rw [stopTraffic_eq]
  exact (((KeepsCustody.foldl laneStops_keepsCustody _ s).trans (applyStops_keepsCustody _)).trans
    (abandonHandshakes_keepsCustody _)).trans (.foldl hclose _ _)

end
end State
end Sys2Proof.Machine

namespace Sys2Proof.Machine
namespace State

/-! ## The commands that write the OTP -/

@[simp] theorem cusNext_otp (s : State) (p : CusPhase) : (s.cusNext p).otp = s.otp := by
  unfold cusNext
  split <;> rfl

@[simp] theorem cusOtpFail_otp (s : State) (arg : Nat) : (s.cusOtpFail arg).otp = s.otp := rfl
@[simp] theorem cusCompleted_otp (s : State) : s.cusCompleted.otp = s.otp := rfl

@[simp] theorem closeWindow_otp (s : State) (cause : Nat) : (s.closeWindow cause).otp = s.otp := by
  unfold closeWindow
  split <;> rfl

@[simp] theorem askAdvance_otp (s : State) (q : Advance) : (s.askAdvance q).otp = s.otp := by
  unfold askAdvance
  split <;> rfl

theorem askLease_otp (s : State) (x : Nat) : (s.askLease x).otp = s.otp := by
  unfold askLease
  dsimp only
  repeat' split
  all_goals simp [askJournal]

theorem leaseAgain_otp (s : State) (q : Advance) : (s.leaseAgain q).otp = s.otp := by
  cases q with
  | firstLease =>
    exact (foldl_keeps State.otp _ askLease_otp _ _).trans
      (foldl_keeps State.otp (fun (s : State) x => s.setTx x { s.txStream x with asked := false }) (fun _ _ => rfl) _ _)
  | band x =>
    unfold leaseAgain
    dsimp only
    split
    · rfl
    · exact askLease_otp ..
  | downEpoch => exact askAdvance_otp ..

theorem completeForward_keepsFuses (l : List (Ladder × Nat)) (fs : List (Bool × Bool)) (s : State) :
    KeepsFuses s (completeForward l fs s) := by
  induction l generalizing fs s with
  | nil => exact .of_otp (by simp [completeForward])
  | cons p rest ih =>
    obtain ⟨l, k⟩ := p
    have hblow (c : CustodyUnit) (m : Nat) : KeepsFuses s (({ s with cus := c } : State).blowRung l k m) :=
      ⟨(blowRung_keepsFuses s l k m).testBit⟩
    rw [completeForward]
    dsimp only
    split
    · refine .trans ?_ (ih _ _)
      exact (hblow ..).then_otp rfl
    · exact (hblow ..).then_otp (endStart_otp ..)

end State
open State

variable {s t : State}

theorem forwardCompletion_keepsFuses {fuses : List (Bool × Bool)} (h : exec (.forwardCompletion fuses) s = .next t) :
    s.KeepsFuses t := by
  refine act_keepsFuses h ?_
  split
  · exact completeForward_keepsFuses ..
  · exact .refl _

theorem helperBankVoided_keepsFuses {fuses : Word} (h : exec (.helperBankVoided fuses) s = .next t) : s.KeepsFuses t := by
  refine act_keepsFuses h ?_
  split
  · dsimp only
    split
    · exact (blow_keepsFuses ..).then_otp rfl
    · exact (blow_keepsFuses ..).then_otp (cusNext_otp ..)
  · exact (blow_keepsFuses ..).then_otp rfl
  · exact .refl _

theorem helperBankWritten_keepsFuses {stop : Option OtpStop} (h : exec (.helperBankWritten stop) s = .next t) :
    s.KeepsFuses t := by
  refine act_keepsFuses h ?_
  split
  · dsimp only
    split
    · exact (blowWords_keepsFuses ..).then_otp (cusNext_otp ..)
    · exact (blowWords_keepsFuses ..).then_otp rfl
  · exact .refl _

theorem authorityBankWritten_keepsFuses {stop : Option OtpStop} (h : exec (.authorityBankWritten stop) s = .next t) :
    s.KeepsFuses t := by
  refine act_keepsFuses h ?_
  split
  · dsimp only
    split <;> exact (blowWords_keepsFuses ..).then_otp rfl
  · exact .refl _

theorem intentPairWritten_keepsFuses {a b : Bool} (h : exec (.intentPairWritten a b) s = .next t) : s.KeepsFuses t := by
  refine act_keepsFuses h ?_
  split
  · next l k _ =>
    refine (blowRung_keepsFuses _ l k (flag 3 a + flag 2 b)).then_otp ?_
    dsimp only
    repeat' split
    all_goals simp
  · exact .refl _

theorem donePairWritten_keepsFuses {a b : Bool} (h : exec (.donePairWritten a b) s = .next t) : s.KeepsFuses t := by
  refine act_keepsFuses h ?_
  split
  · next l k _ =>
    refine (blowRung_keepsFuses _ l k (flag 1 a + flag 0 b)).then_otp ?_
    dsimp only
    repeat' split
    all_goals simp [(stopTraffic_keepsCustody _).otp]
  · exact .refl _

theorem leaseLadderAdvance_keepsFuses {ia ib a b : Bool} (h : exec (.leaseLadderAdvance ia ib a b) s = .next t) :
    s.KeepsFuses t := by
  have hblow (c : CustodyUnit) (k m : Nat) : KeepsFuses s.clear (({ s.clear with cus := c } : State).blowRung .lease k m) :=
    ⟨(blowRung_keepsFuses s .lease k m).testBit⟩
  refine act_keepsFuses h ?_
  split
  · exact .refl _
  · dsimp only
    repeat' split
    · exact .refl _
    · exact .of_otp (leaseDeniedTo_otp ..)
    · exact .of_otp (leaseDeniedTo_otp ..)
    · exact .refl _
    · exact (hblow ..).then_otp (leaseAgain_otp ..)
    · exact ((hblow ..).trans (blowRung_keepsFuses ..)).then_otp (leaseGrantedTo_otp ..)
    · exact ((hblow ..).trans (blowRung_keepsFuses ..)).then_otp rfl

/-- A command blows fuses or leaves the OTP alone: `writes` names the OTP for seven of them, and none clears a fuse. -/
theorem exec_keepsFuses {c : Instr} (h : exec c s = .next t) : s.KeepsFuses t := by
  by_cases hc : (writes c).contains .otp = true
  · cases c with
    | forwardCompletion => exact forwardCompletion_keepsFuses h
    | helperBankVoided => exact helperBankVoided_keepsFuses h
    | helperBankWritten => exact helperBankWritten_keepsFuses h
    | authorityBankWritten => exact authorityBankWritten_keepsFuses h
    | intentPairWritten => exact intentPairWritten_keepsFuses h
    | donePairWritten => exact donePairWritten_keepsFuses h
    | leaseLadderAdvance => exact leaseLadderAdvance_keepsFuses h
    | _ => exact absurd hc Bool.false_ne_true
  · exact .of_otp (exec_otp (by simpa using hc) h)

/-- Settles O55: a step is idle or runs one command, and a command keeps the blown fuses. -/
theorem blownFusesStayBlown : Obligations.BlownFusesStayBlown := by
  intro s t w bit h hb
  unfold step at h
  split at h
  · cases h
    exact hb
  · exact (exec_keepsFuses h).testBit hb

/-! ## A running command may write past its bank -/

/-- Refutes O54: `otpSound` bounds the banks and the rungs that a running command names, but not the words that it is still to
write, and FUSE_AUTHORITY takes a hash of any length. A bank has 22 words for the hash and one for its CRC (R120); the last word of
a hash of 24 lands in word 2,609 of the OTP, which Table 5.5 leaves unused. -/
theorem not_everyStepKeepsTheOtpSound : ¬ Obligations.EveryStepKeepsTheOtpSound := by
  intro h
  have hsound := h
    { cus := { running := some (4, .writingAuthority 0 (List.replicate 24 1)) }, pending := [.authorityBankWritten none] } _
    (by decide) rfl
  exact absurd hsound (by decide +kernel)

end Sys2Proof.Machine

namespace Sys2Proof.Machine
namespace State

/-! ## The fuses of a rung (R124) -/

/-- A rung is begun when either fuse of its intent pair is blown. -/
theorem rungIntent_iff_testBit (s : State) (l : Ladder) (k : Nat) :
    s.rungIntent l k = true ↔ (s.otpWord (l.word k)).testBit (4 * ((k - 1) % 4) + 3) = true ∨
      (s.otpWord (l.word k)).testBit (4 * ((k - 1) % 4) + 2) = true := by
  rw [rungIntent, decide_eq_true_eq, rungBits]
  simp only [Nat.testBit_eq_decide_div_mod_eq, decide_eq_true_eq, Nat.pow_add, ← Nat.div_div_eq_div_mul]
  generalize s.otpWord (l.word k) / 2 ^ (4 * ((k - 1) % 4)) = x
  omega

theorem testBit_otpWord_blowRung (s : State) (l : Ladder) (k m w bit : Nat) :
    ((s.blowRung l k m).otpWord w).testBit bit =
      ((s.otpWord w).testBit bit || (decide (w = l.word k) && (m * 2 ^ (4 * ((k - 1) % 4))).testBit bit)) := by
  obtain rfl | hw := eq_or_ne w (l.word k)
  · simp [blowRung, otpWord_blow_same]
  · simp [blowRung, otpWord_blow_other s _ hw.symm, hw]

/-- The two fuses that a write of a pair of a rung blows: those of `m` at the rung's position. -/
theorem testBit_pair_mul_two_pow (p bit : Nat) (done : Bool) :
    ((if done then 3 else 12) * 2 ^ (4 * p)).testBit bit =
      decide (bit = 4 * p + (if done then 1 else 3) ∨ bit = 4 * p + (if done then 0 else 2)) := by
  rw [Nat.testBit_mul_two_pow]
  obtain hlt | ⟨i, rfl⟩ : bit < 4 * p ∨ ∃ i, bit = 4 * p + i := by
    by_cases h : bit < 4 * p
    · exact .inl h
    · exact .inr ⟨bit - 4 * p, by omega⟩
  · rw [decide_eq_false hlt.not_ge, Bool.false_and, eq_comm, decide_eq_false_iff_not]
    omega
  · have hi : (if done then 3 else 12 : Nat).testBit i =
        decide (i = (if done then 1 else 3) ∨ i = (if done then 0 else 2)) := by
      obtain h | h := Nat.lt_or_ge i 4
      · interval_cases i <;> cases done <;> rfl
      · rw [Nat.testBit_lt_two_pow (lt_of_lt_of_le (b := 2 ^ 4) (by cases done <;> decide) (Nat.pow_le_pow_right (by omega) h))]
        cases done <;> simp <;> omega
    simp [hi]

/-- The life-cycle state is that of the highest rung of its ladder that is done. -/
theorem lcState_eq (s : State) : s.lcState =
    if s.rungDone .lc 5 then .retired
    else if s.rungDone .lc 4 then .analysis
    else if s.rungDone .lc 3 then .field
    else if s.rungDone .lc 2 then .provision
    else if s.rungDone .lc 1 then .test
    else .blank := by
  unfold lcState
  cases s.rungDone .lc 5 with
  | true => rfl
  | false =>
    simp only [List.filter_cons, List.filter_nil]
    generalize s.rungDone .lc 4 = d₄, s.rungDone .lc 3 = d₃, s.rungDone .lc 2 = d₂, s.rungDone .lc 1 = d₁
    revert d₁ d₂ d₃ d₄
    decide

end State

/-- Settles O60: each pair lies at two bits of its rung's word, and the life-cycle state is read from the top of its ladder. -/
theorem rungsLieAsR124Says : Obligations.RungsLieAsR124Says := by
  refine ⟨⟨rfl, rfl, rfl⟩, fun s l k => ⟨s.rungIntent_iff_testBit l k, (s.rungDone_iff_testBit l k).trans or_comm⟩,
    fun s l k w bit done => ?_, fun s => ?_⟩
  · rw [State.testBit_otpWord_blowRung, State.testBit_pair_mul_two_pow]
    rfl
  · rw [s.lcState_eq]
    refine ⟨?_, ?_, ?_, ?_, ?_⟩ <;> grind
end Sys2Proof.Machine

namespace Sys2Proof.Machine
namespace State

/-! ## The custody window (R108 to R112) -/

namespace Elapses

variable {s t : State}

theorem cus (h : s.Elapses t) : t.cus = s.cus := by rw [h]
theorem image (h : s.Elapses t) : t.image = s.image := by rw [h]

end Elapses

theorem winMinutes_congr {s t : State} (h : t.image = s.image) : t.winMinutes = s.winMinutes := by
  rw [winMinutes, winMinutes, hasSection, hasSection, cfg, cfg, inForce?_congr h]

/-- A window that closes shows its cause (Table 5.9). -/
theorem closeWindow_cus_of_opened {s : State} (cause : Nat) (h : s.cus.win = .opened) :
    (s.closeWindow cause).cus = { s.cus with win := .closed, lastClose := cause } := by
  rw [closeWindow, if_pos h, emitDev_cus]

theorem closeWindow_eq_self {s : State} (cause : Nat) (h : s.cus.win ≠ .opened) : s.closeWindow cause = s := if_neg h

theorem closeWindow_win_ne_opened (s : State) (cause : Nat) : (s.closeWindow cause).cus.win ≠ .opened := by
  by_cases h : s.cus.win = .opened
  · rw [closeWindow_cus_of_opened cause h]
    exact nofun
  · rwa [closeWindow_eq_self cause h]

@[simp] theorem closeWindow_now (s : State) (cause : Nat) : (s.closeWindow cause).now = s.now := by
  unfold closeWindow
  split
  · rw [emitDev_now]
  · rfl

@[simp] theorem closeWindow_image (s : State) (cause : Nat) : (s.closeWindow cause).image = s.image := by
  unfold closeWindow
  split
  · rw [emitDev_image]
  · rfl

/-- Of the custodian, the tick of the window changes what shows the window alone. -/
theorem windowTick_cus (s : State) :
    s.windowTick.cus = { s.cus with win := s.windowTick.cus.win, lastClose := s.windowTick.cus.lastClose } := by
  unfold windowTick
  split
  · by_cases h : s.cus.win = .opened
    · rw [closeWindow_cus_of_opened 1 h]
    · rw [closeWindow_eq_self 1 h]
  · rfl

/-- After its tick the window is open when it stood open and its time is not up (Table 5.8). -/
theorem windowTick_win_opened_iff (s : State) :
    s.windowTick.cus.win = .opened ↔ s.cus.win = .opened ∧ s.now < s.cus.closeAt := by
  unfold windowTick
  split
  · next h => exact iff_of_false (closeWindow_win_ne_opened s 1) fun hw => absurd hw.2 h.not_gt
  · next h => simp [not_le.mp h]

@[simp] theorem windowTick_now (s : State) : s.windowTick.now = s.now := by
  unfold windowTick
  split
  · rw [closeWindow_now]
  · rfl

@[simp] theorem windowTick_image (s : State) : s.windowTick.image = s.image := by
  unfold windowTick
  split
  · rw [closeWindow_image]
  · rfl

theorem pressReached_now (s : State) : s.pressReached.now = max s.now (s.cus.pressAt + secs 2) := by
  rw [pressReached, windowTick_now, upTo_now]

theorem pressReached_image (s : State) : s.pressReached.image = s.image := by
  rw [pressReached, windowTick_image, (upTo_elapses ..).image]

theorem pressReached_cus (s : State) : s.pressReached.cus =
    { s.cus with win := s.pressReached.cus.win, lastClose := s.pressReached.cus.lastClose } := by
  have h := windowTick_cus (s.upTo (s.cus.pressAt + secs 2))
  rwa [(upTo_elapses ..).cus] at h

theorem pressReached_win_opened_iff (s : State) :
    s.pressReached.cus.win = .opened ↔ s.cus.win = .opened ∧ s.pressReached.now < s.cus.closeAt := by
  rw [pressReached_now, pressReached, windowTick_win_opened_iff, (upTo_elapses ..).cus, upTo_now]

/-- A press of 2 s opens the window or restarts its time (R109). -/
def windowOpens (s : State) : State :=
  { s with cus := { s.cus with
    win := .opened, timing := false, armed := false, closeAt := s.now + secs (60 * s.winMinutes)
    winCount := if decide (s.cus.win = WinState.opened) then s.cus.winCount else satInc 13 s.cus.winCount } }.emitDev 0o010003

theorem windowOpens_cus (s : State) : s.windowOpens.cus =
    { s.cus with
      win := .opened, timing := false, armed := false, closeAt := s.now + secs (60 * s.winMinutes)
      winCount := if s.cus.win = .opened then s.cus.winCount else satInc 13 s.cus.winCount } := by
  simp [windowOpens]

@[simp] theorem windowOpens_now (s : State) : s.windowOpens.now = s.now := rfl

theorem pressTimed_eq_true {s : State} (hbtn : s.cus.btn = true) (htiming : s.cus.timing = true)
    (hstart : s.start.outcome ≠ .starting) : s.pressTimed = true := by
  simp [pressTimed, hbtn, htiming, hstart]

end State

theorem exec_windowOpen (s : State) : exec .windowOpen s = act [.now, .free, .cus, .tp] s (fun s =>
    if s.pressTimed && s.cus.jmp && s.cus.jmpThroughout then s.pressReached.windowOpens else s) := rfl

theorem custBtnPress_arms (releasedMs : Nat) (s : State) (hbtn : s.cus.btn = false) (hms : 100 ≤ releasedMs)
    (hjmp : s.cus.jmp = true) (hwin : s.cus.win = .closed) (hstart : s.start.outcome ≠ .starting) :
    ∃ t, exec (.custBtnPress releasedMs) s = .next t ∧
      t.cus = { s.cus with
        btn := true, timing := true, armed := true, jmpThroughout := true, pressAt := s.now, win := .arming } := by
  refine ⟨_, rfl, ?_⟩
  simp [hbtn, hms, hjmp, hwin, hstart]

/-- A press is timed when none has opened the window since the last that was timed, or after a release of 100 ms (R110). -/
theorem custBtnPress_timing (releasedMs : Nat) (s : State) (hbtn : s.cus.btn = false) :
    ∃ t, exec (.custBtnPress releasedMs) s = .next t ∧
      t.cus.btn = true ∧ t.cus.timing = (s.cus.armed || decide (100 ≤ releasedMs)) := by
  refine ⟨_, rfl, ?_⟩
  simp [hbtn]

theorem custBtnRelease_disarms (s : State) : ∃ t, exec .custBtnRelease s = .next t ∧
    t.cus = { s.cus with
      btn := false, timing := false, win := if s.cus.win = .arming then .closed else s.cus.win } := ⟨_, rfl, rfl⟩

theorem custJmpInstalled_sets (s : State) :
    ∃ t, exec .custJmpInstalled s = .next t ∧ t.cus = { s.cus with jmp := true } := ⟨_, rfl, by simp⟩

theorem custJmpRemoved_closes (s : State) (hwin : s.cus.win = .opened) :
    ∃ t, exec .custJmpRemoved s = .next t ∧
      t.cus = { s.cus with jmp := false, jmpThroughout := false, win := .closed, lastClose := 2 } := by
  refine ⟨_, rfl, ?_⟩
  simp [State.closeWindow_cus_of_opened (s := s.clear) 2 hwin]

theorem windowOpen_opens (s : State) (hbtn : s.cus.btn = true) (htiming : s.cus.timing = true) (hjmp : s.cus.jmp = true)
    (hthrough : s.cus.jmpThroughout = true) (hstart : s.start.outcome ≠ .starting) :
    ∃ t, exec .windowOpen s = .next t ∧ t.cus.win = .opened ∧ t.cus.timing = false ∧ t.cus.armed = false ∧
      t.now = max s.now (s.cus.pressAt + secs 2) ∧ t.cus.closeAt = t.now + secs (60 * s.winMinutes) ∧
      t.cus.winCount =
        if s.cus.win = .opened ∧ t.now < s.cus.closeAt then s.cus.winCount else satInc 13 s.cus.winCount := by
  have hopens : (s.clear.pressTimed && s.clear.cus.jmp && s.clear.cus.jmpThroughout) = true := by
    simp [State.pressTimed_eq_true (s := s.clear) hbtn htiming hstart, hjmp, hthrough]
  obtain ⟨t, ht, hcus, hnow⟩ : ∃ t, exec .windowOpen s = .next t ∧
      t.cus = s.clear.pressReached.windowOpens.cus ∧ t.now = s.clear.pressReached.now :=
    ⟨_, exec_windowOpen s, by rw [actState_cus, if_pos (by rfl), if_pos hopens],
      by rw [actState_now, if_pos (by rfl), if_pos hopens, State.windowOpens_now]⟩
  have hminutes : s.clear.pressReached.winMinutes = s.winMinutes := State.winMinutes_congr s.clear.pressReached_image
  have hcount : s.clear.pressReached.cus.winCount = s.cus.winCount := by rw [s.clear.pressReached_cus]; rfl
  have hstood : s.clear.pressReached.cus.win = .opened ↔ s.cus.win = .opened ∧ t.now < s.cus.closeAt := by
    rw [hnow]
    exact s.clear.pressReached_win_opened_iff
  rw [State.windowOpens_cus, hminutes, hcount, ← hnow] at hcus
  refine ⟨t, ht, ?_, ?_, ?_, hnow.trans s.clear.pressReached_now, ?_, ?_⟩
  all_goals simp [hcus, hstood]

theorem nojmpPress_counts (s : State) (hbtn : s.cus.btn = true) (htiming : s.cus.timing = true)
    (hjmp : (s.cus.jmp && s.cus.jmpThroughout) = false) (hstart : s.start.outcome ≠ .starting) :
    ∃ t, exec .nojmpPress s = .next t ∧
      t.cus.timing = false ∧ t.cus.nojmp = satInc 18 s.cus.nojmp ∧ t.now = max s.now (s.cus.pressAt + secs 2) := by
  have htimed : s.clear.pressTimed = true := State.pressTimed_eq_true hbtn htiming hstart
  have hjmp' : s.cus.jmp = false ∨ s.cus.jmpThroughout = false := Bool.and_eq_false_iff.mp hjmp
  have hnojmp : s.clear.pressReached.cus.nojmp = s.cus.nojmp := by rw [s.clear.pressReached_cus]; rfl
  refine ⟨_, rfl, ?_⟩
  simp [htimed, hjmp', hnojmp, State.pressReached_now]

theorem windowTimeout_closes (s : State) (hwin : s.cus.win = .opened) :
    ∃ t, exec .windowTimeout s = .next t ∧
      t.cus = { s.cus with win := .closed, lastClose := 1 } ∧ t.now = max s.now s.cus.closeAt := by
  have hcus := (s.clear.upTo_elapses s.cus.closeAt).cus
  have hclose := State.closeWindow_cus_of_opened (s := s.clear.upTo s.cus.closeAt) 1 (by rw [hcus]; exact hwin)
  refine ⟨_, rfl, ?_⟩
  simp [hwin, hclose, hcus, State.upTo_now]

/-- Settles O7, one lemma for each way in which the button, the jumper and time move the window. -/
theorem custodyWindowComplete : Obligations.CustodyWindowComplete :=
  ⟨custBtnPress_arms, custBtnRelease_disarms, custJmpInstalled_sets, custJmpRemoved_closes, windowOpen_opens,
    nojmpPress_counts, windowTimeout_closes⟩

/-- A press that is not timed opens nothing (R110). -/
theorem windowOpen_of_untimed (s : State) (htiming : s.cus.timing = false) :
    ∃ t, exec .windowOpen s = .next t ∧ t.cus = s.cus := by
  have htimed : s.clear.pressTimed = false := by simp [State.pressTimed, htiming]
  refine ⟨_, exec_windowOpen s, ?_⟩
  simp [htimed]

/-- Settles O59: opening the window disarms the button, and a press is timed again when the button is armed or has been released
for 100 ms. -/
theorem pressAfterTheWindowNeedsARelease : Obligations.PressAfterTheWindowNeedsARelease := by
  refine ⟨fun s hbtn htiming hjmp hthrough hstart => ?_, fun releasedMs s hbtn harmed hms => ?_,
    fun releasedMs s hbtn hms => ?_, windowOpen_of_untimed⟩
  · obtain ⟨t, ht, hwin, htimed, harmed, -⟩ := windowOpen_opens s hbtn htiming hjmp hthrough hstart
    exact ⟨t, ht, hwin, htimed, harmed⟩
  · obtain ⟨t, ht, hpressed, htimed⟩ := custBtnPress_timing releasedMs s hbtn
    exact ⟨t, ht, hpressed, by simp [htimed, harmed, hms]⟩
  · obtain ⟨t, ht, hpressed, htimed⟩ := custBtnPress_timing releasedMs s hbtn
    exact ⟨t, ht, hpressed, by simp [htimed, hms]⟩

end Sys2Proof.Machine

namespace Sys2Proof.Machine
namespace State

/-! ## The custodian begins a command of the life cycle (R113 to R120) -/

/-- CLOSE_WINDOW is taken while another command runs: it writes no OTP (R117). -/
theorem custodian_of_custody {s : State} {r : VerbCall} {cmd status : Nat} {listed : Bool} {go : State → State}
    (h : s.custody r = true) (hlisted : listed = true) :
    s.custodian r cmd listed false true status go =
      (go (s.cusTaken cmd)).respondLater r.caller 0o11 status [] [] := by
  simp only [custody, Bool.and_eq_true, decide_eq_true_eq, Bool.not_eq_true'] at h
  obtain ⟨⟨⟨hact, hcarrier⟩, hwin, hclose⟩, hdeaf⟩ := h
  have htick : (s.cusTaken cmd).windowTick = s.cusTaken cmd := if_neg hclose.not_ge
  have hdeaf' : ¬ (!listed || (s.cusTaken cmd).cusDeaf) = true := by
    rw [hlisted, show (s.cusTaken cmd).cusDeaf = false from hdeaf]
    decide
  have hwin' : ¬ (s.cusTaken cmd).cus.win ≠ WinState.opened := not_not.mpr hwin
  have hrun : custodianRun s cmd listed false true status go = { st := go (s.cusTaken cmd), status := status } := by
    rw [custodianRun, htick, if_neg hwin', if_neg hdeaf']
    rfl
  rw [custodian_eq, hcarrier, serve_of_mayAct hact, hrun]

theorem otpStopped_of_custodyFree {s : State} {r : VerbCall} (h : s.custodyFree r = true) : s.cus.otpStopped = false := by
  simp only [custodyFree, Bool.and_eq_true, Bool.not_eq_true'] at h
  exact h.2

/-- A command that writes the OTP is answered ACCEPTED and runs: no rung stands pending (R122). -/
theorem custodian_runsOtp {s : State} {r : VerbCall} {cmd : Nat} {listed writes pre : Bool} {go : State → State}
    {p : CusPhase} (h : s.custodyFree r = true) (hlisted : listed = true) (hpre : pre = true)
    (hgo : go (s.cusTaken cmd) = (s.cusTaken cmd).cusRunOtp cmd p) :
    (s.custodian r cmd listed writes pre stAccepted go).answers r.caller 0o11 0o17 [] = true ∧
      (s.custodian r cmd listed writes pre stAccepted go).cus =
        { s.cus with cmdLast := cmd, cmdResult := 7, running := some (cmd, p) } := by
  obtain ⟨hanswer, hm⟩ := custodian_accepts (cmd := cmd) (writes := writes) (go := go) h hlisted hpre
  refine ⟨hanswer, hm.cus.trans ?_⟩
  have hstopped : ¬ (s.cusTaken cmd).cus.otpStopped = true := ne_true_of_eq_false (otpStopped_of_custodyFree h)
  rw [hgo, cusRunOtp, if_neg hstopped]
  rfl

theorem cusStopped_keepsCustody (s : State) : KeepsCustody s s.cusStopped := by
  unfold cusStopped
  split
  · exact stopTraffic_keepsCustody s
  · exact .refl s

/-- What stops with the destroy of the register takes nothing of the answer, nor of the command. -/
theorem cusStopped_accepts {s : State} {c : Caller} {v : CustodyUnit}
    (h : s.answers c 0o11 0o17 [] = true ∧ s.cus = v) :
    s.cusStopped.answers c 0o11 0o17 [] = true ∧ s.cusStopped.cus = v :=
  ⟨(cusStopped_keepsCustody s).answers h.1, (cusStopped_keepsCustody s).cus.trans h.2⟩

theorem win_opened_of_custody {s : State} {r : VerbCall} (h : s.custody r = true) : s.cus.win = .opened := by
  simp only [custody, Bool.and_eq_true, decide_eq_true_eq] at h
  obtain ⟨⟨-, hwin, -⟩, -⟩ := h
  exact hwin

/-- What CLOSE_WINDOW does: the window closes, and the command shows COMPLETED (R117). -/
def closesOnCommand (s : State) : State :=
  let s := s.closeWindow 3
  { s with cus := { s.cus with cmdResult := 1 } }.emitDev 0o010005

theorem closesOnCommand_cus {s : State} (h : s.cus.win = .opened) :
    s.closesOnCommand.cus = { s.cus with win := .closed, lastClose := 3, cmdResult := 1 } := by
  rw [closesOnCommand, emitDev_cus, closeWindow_cus_of_opened 3 h]

/-- The banks that an ENROL voids first: those used and not yet void (R119). -/
theorem banksToVoid_eq_nil {s : State} (h0 : s.helperUsed 0 = false) (h1 : s.helperUsed 1 = false) :
    ([0, 1] : List Nat).filter (fun b => s.helperUsed b && !s.helperVoid b) = [] := by simp [h0, h1]

theorem banksToVoid_eq_zero {s : State} (h0 : s.helperUsed 0 = true) (hv : s.helperVoid 0 = false)
    (h1 : s.helperUsed 1 = false) :
    ([0, 1] : List Nat).filter (fun b => s.helperUsed b && !s.helperVoid b) = [0] := by simp [h0, hv, h1]

/-- The first step of an ENROL (R119). -/
def enrolBegins (s : State) : State :=
  match ([0, 1] : List Nat).filter (fun b => s.helperUsed b && !s.helperVoid b) with
  | [] => s.cusRunOtp 0o02 (.capturing s.firstCapture)
  | l => s.cusRunOtp 0o02 (.voiding l)

theorem lowestBank_isSome {p : Nat → Bool} (h : p 1 = true) : (lowestBank p).isSome = true := by
  unfold lowestBank
  rw [if_pos h]
  split <;> rfl

end State

theorem exec_enrol (r : VerbCall) (s : State) : exec (.enrol r) s =
    act [.once, .image, .cus, .keys, .tenants, .tp, .sp] s (fun s =>
      s.custodian r 0o02 (decide (s.cus.startState = LcState.blank)) true
        (State.lowestBank (fun b => !s.helperUsed b)).isSome stAccepted State.enrolBegins) := rfl

theorem exec_closeWindow (r : VerbCall) (s : State) : exec (.closeWindow r) s =
    act [.once, .image, .cus, .keys, .tenants, .tp, .sp] s (fun s =>
      s.custodian r 0o01 (decide (s.cus.startState ≠ LcState.retired)) false true stDone State.closesOnCommand) := rfl

theorem closeWindow_accepts (r : VerbCall) (s : State) (h : s.custody r = true) (hstate : s.cus.startState ≠ .retired) :
    ∃ t, exec (.closeWindow r) s = .next t ∧ t.answers r.caller 0o11 0 [] = true ∧ t.cus.win = .closed ∧
      t.cus.lastClose = 3 ∧ t.cus.running = s.cus.running ∧ t.cus.cmdLast = 1 ∧ t.cus.cmdResult = 1 := by
  obtain ⟨hm, hanswer⟩ := State.respondLater_responds (op := True) (s.clear.cusTaken 0o01).closesOnCommand r.caller 0o11
    stDone [] [] fun _ => trivial
  rw [← State.custodian_of_custody (s := s.clear) h (decide_eq_true hstate)] at hm hanswer
  obtain ⟨t, ht, hresponse, hcus⟩ : ∃ t, exec (.closeWindow r) s = .next t ∧ t.answers r.caller 0o11 0 [] = true ∧
      t.cus = { s.cus with cmdLast := 1, win := .closed, lastClose := 3, cmdResult := 1 } :=
    ⟨_, exec_closeWindow r s, hanswer,
      hm.cus.trans (State.closesOnCommand_cus (s := s.clear.cusTaken 0o01) (State.win_opened_of_custody h))⟩
  exact ⟨t, ht, hresponse, by simp [hcus]⟩

theorem enrol_captures (r : VerbCall) (s : State) (h : s.custodyFree r = true) (hstate : s.cus.startState = .blank)
    (h0 : s.helperUsed 0 = false) (h1 : s.helperUsed 1 = false) :
    ∃ t, exec (.enrol r) s = .next t ∧ t.answers r.caller 0o11 0o17 [] = true ∧
      t.cus = { s.cus with cmdLast := 2, cmdResult := 7, running := some (2, .capturing s.firstCapture) } := by
  refine ⟨_, exec_enrol r s, State.custodian_runsOtp (s := s.clear) h (decide_eq_true hstate)
    (State.lowestBank_isSome (by rw [Bool.not_eq_true']; exact h1)) ?_⟩
  rw [State.enrolBegins, State.banksToVoid_eq_nil (s := s.clear.cusTaken 0o02) h0 h1]
  rfl

theorem enrol_voids (r : VerbCall) (s : State) (h : s.custodyFree r = true) (hstate : s.cus.startState = .blank)
    (h0 : s.helperUsed 0 = true) (hv : s.helperVoid 0 = false) (h1 : s.helperUsed 1 = false) :
    ∃ t, exec (.enrol r) s = .next t ∧ t.answers r.caller 0o11 0o17 [] = true ∧
      t.cus = { s.cus with cmdLast := 2, cmdResult := 7, running := some (2, .voiding [0]) } := by
  refine ⟨_, exec_enrol r s, State.custodian_runsOtp (s := s.clear) h (decide_eq_true hstate)
    (State.lowestBank_isSome (by rw [Bool.not_eq_true']; exact h1)) ?_⟩
  rw [State.enrolBegins, State.banksToVoid_eq_zero (s := s.clear.cusTaken 0o02) h0 hv h1]

theorem toProvision_accepts (r : VerbCall) (s : State) (h : s.custodyFree r = true) (hstate : s.cus.startState = .test) :
    ∃ t, exec (.toProvision r) s = .next t ∧ t.answers r.caller 0o11 0o17 [] = true ∧
      t.cus = { s.cus with cmdLast := 3, cmdResult := 7, running := some (3, .intent .lc 2) } :=
  ⟨_, rfl, State.custodian_runsOtp (s := s.clear) h (decide_eq_true hstate) rfl rfl⟩

theorem fuseAuthority_accepts (r : VerbCall) (hash : List Word) (s : State) (h : s.custodyFree r = true)
    (hstate : s.cus.startState = .provision) (h0 : s.authUsed 0 = false) (h1 : s.authValid 1 = false) :
    ∃ t, exec (.fuseAuthority r hash) s = .next t ∧ t.answers r.caller 0o11 0o17 [] = true ∧
      t.cus = { s.cus with cmdLast := 4, cmdResult := 7, running := some (4, .writingAuthority 0 hash) } := by
  have hinvalid : s.authValid 0 = false := by rw [State.authValid, h0, Bool.false_and]
  have hvalid : State.lowestBank s.authValid = none := by simp [State.lowestBank, hinvalid, h1]
  have hbank : State.lowestBank (fun b => !s.authUsed b) = some 0 := by simp [State.lowestBank, h0]
  have hpre : ((State.lowestBank s.authValid).isNone && (State.lowestBank (fun b => !s.authUsed b)).isSome) = true := by
    rw [hvalid, hbank]
    rfl
  exact ⟨_, rfl, State.custodian_runsOtp (s := s.clear) h (decide_eq_true hstate) hpre
    (congrArg (fun b => (s.clear.cusTaken 4).cusRunOtp 4 (.writingAuthority (b.getD 0) hash)) hbank)⟩

theorem toField_accepts (r : VerbCall) (s : State) (h : s.custodyFree r = true) (hstate : s.cus.startState = .provision)
    (hbank : (State.lowestBank s.authValid).isSome = true) :
    ∃ t, exec (.toField r) s = .next t ∧ t.answers r.caller 0o11 0o17 [] = true ∧
      t.cus = { s.cus with cmdLast := 5, cmdResult := 7, running := some (5, .intent .lc 3) } :=
  ⟨_, rfl, State.custodian_runsOtp (s := s.clear) h (decide_eq_true hstate) hbank rfl⟩

theorem toAnalysis_accepts (r : VerbCall) (s : State) (h : s.custodyFree r = true) (hstate : s.cus.startState = .field)
    (hrunning : s.inRunning = true) :
    ∃ t, exec (.toAnalysis r) s = .next t ∧ t.answers r.caller 0o11 0o17 [] = true ∧
      t.cus = { s.cus with cmdLast := 6, cmdResult := 7, running := some (6, .destroying) } :=
  ⟨_, rfl, State.cusStopped_accepts (State.custodian_runsOtp (s := s.clear) h
    ((Bool.and_eq_true ..).mpr ⟨decide_eq_true hstate, hrunning⟩) rfl rfl)⟩

/-- In service RETIRE destroys the register before its rung (Table 5.4). -/
theorem retire_destroys (r : VerbCall) (s : State) (h : s.custodyFree r = true)
    (hstate : s.cus.startState = .field ∨ s.cus.startState = .analysis) (hrunning : s.inRunning = true) :
    ∃ t, exec (.retire r) s = .next t ∧ t.answers r.caller 0o11 0o17 [] = true ∧
      t.cus = { s.cus with cmdLast := 7, cmdResult := 7, running := some (7, .destroying) } := by
  have hlisted : (match s.cus.startState with
      | .retired => false
      | .field | .analysis => s.clear.inRunning
      | _ => true) = true := by
    obtain hs | hs := hstate <;> rw [hs] <;> exact hrunning
  exact ⟨_, rfl, State.cusStopped_accepts (State.custodian_runsOtp (s := s.clear) h hlisted rfl
    (congrArg (fun b : Bool => (s.clear.cusTaken 7).cusRunOtp 7 (if b then .destroying else .intent .lc 5)) hrunning))⟩

/-- Before service there is nothing to destroy. -/
theorem retire_writes (r : VerbCall) (s : State) (h : s.custodyFree r = true)
    (hstate : s.cus.startState = .blank ∨ s.cus.startState = .test ∨ s.cus.startState = .provision)
    (hrunning : s.inRunning = false) :
    ∃ t, exec (.retire r) s = .next t ∧ t.answers r.caller 0o11 0o17 [] = true ∧
      t.cus = { s.cus with cmdLast := 7, cmdResult := 7, running := some (7, .intent .lc 5) } := by
  have hlisted : (match s.cus.startState with
      | .retired => false
      | .field | .analysis => s.clear.inRunning
      | _ => true) = true := by
    obtain hs | hs | hs := hstate <;> rw [hs]
  exact ⟨_, rfl, State.cusStopped_accepts (State.custodian_runsOtp (s := s.clear) h hlisted rfl
    (congrArg (fun b : Bool => (s.clear.cusTaken 7).cusRunOtp 7 (if b then .destroying else .intent .lc 5)) hrunning))⟩

/-- Settles O8: each command is accepted by the one lemma on the custodian, and neither its response nor the end of traffic takes
anything of its first step. -/
theorem custodyCommandsOfLifeComplete : Obligations.CustodyCommandsOfLifeComplete :=
  ⟨closeWindow_accepts, enrol_captures, enrol_voids, toProvision_accepts, fuseAuthority_accepts, toField_accepts,
    toAnalysis_accepts, retire_destroys, retire_writes⟩

end Sys2Proof.Machine

namespace Sys2Proof.Machine

/-! ## The destroy of the whole register (R146) -/

/-- A slot holds no key any more: it is DESTROYED, or FAULT. -/
def SlotState.Ended (st : SlotState) : Prop := st = .destroyed ∨ st = .fault

namespace State

theorem destroyed_ended (v : Slot) : SlotState.Ended (destroyed v).state := by
  unfold destroyed
  split
  · next h => exact .inr h
  · exact .inl rfl

/-- What every listed number and the unlisted value have, every number has. -/
theorem tabGet_of_forall {α : Type} {p : α → Prop} {d : α} {t : Tab α} (hd : p d) (ht : ∀ e ∈ t, p e.2) (k : Nat) :
    p (tabGet d t k) := by
  induction t with
  | nil => exact hd
  | cons e t ih =>
    rw [tabGet]
    split
    · exact ht e (by simp)
    · exact ih fun e he => ht e (by simp [he])

/-- Every slot is destroyed, and the root with them; the slots that fail are not yet known. -/
def registerDestroyed (s : State) : State :=
  { s with keys := { s.keys with
    slots := (s.keys.slots.map (fun e => (e.1, destroyed e.2))).filter (fun e => decide (e.2 ≠ destroyed s.keys.base))
    base := destroyed s.keys.base, cache := [], derivations := [], root := none, rootValue := 0 } }

/-- A slot fails the destroy. -/
def destroyFails (s : State) (n : Nat) : State :=
  let v := s.slot n
  let s := s.setSlot n { v with state := .fault }
  { s with keys := { s.keys with destroyFails := satInc 18 s.keys.destroyFails } }.emitOwn 0o044005 0 0 n

theorem destroyAll_eq (s : State) : s.destroyAll =
    (s.keys.defective.filter (fun n => decide (n < 69632) && decide ((s.slot n).state ≠ SlotState.fault))).foldl
      destroyFails s.registerDestroyed := rfl

theorem registerDestroyed_slot_ended (s : State) {n : Nat} (h : slotUse n ≠ 0) :
    SlotState.Ended (s.registerDestroyed.slot n).state := by
  rw [slot, if_neg h]
  refine tabGet_of_forall (p := fun v : Slot => SlotState.Ended v.state) (destroyed_ended _) (fun e he => ?_) n
  obtain ⟨e', -, rfl⟩ := List.mem_map.mp (List.mem_of_mem_filter he)
  exact destroyed_ended _

theorem slot_destroyFails_same (s : State) {n : Nat} (h : slotUse n ≠ 0) :
    (s.destroyFails n).slot n = { s.slot n with state := .fault } := by
  simpa [destroyFails, slot, setSlot] using slot_setSlot_same s n { s.slot n with state := .fault } h

theorem slot_destroyFails_other (s : State) {n m : Nat} (h : n ≠ m) : (s.destroyFails n).slot m = s.slot m := by
  simpa [destroyFails, slot, setSlot] using slot_setSlot_other s { s.slot n with state := .fault } h

theorem destroyFails_slot_ended {s : State} (n : Nat) {m : Nat} (hm : slotUse m ≠ 0)
    (h : SlotState.Ended (s.slot m).state) : SlotState.Ended ((s.destroyFails n).slot m).state := by
  obtain rfl | hn := eq_or_ne n m
  · rw [slot_destroyFails_same s hm]
    exact .inr rfl
  · rwa [slot_destroyFails_other s hn]

theorem destroyAll_slot_ended (s : State) {n : Nat} (h : slotUse n ≠ 0) : SlotState.Ended (s.destroyAll.slot n).state := by
  rw [destroyAll_eq]
  exact List.foldlRecOn _ _ (motive := fun t : State => SlotState.Ended (t.slot n).state) (s.registerDestroyed_slot_ended h)
    fun t ht m _ => destroyFails_slot_ended m h ht

@[simp] theorem destroyAll_root (s : State) : s.destroyAll.keys.root = none := by
  rw [destroyAll_eq]
  exact foldl_keeps (fun t : State => t.keys.root) destroyFails (fun s n => by simp [destroyFails, setSlot]) _ _

@[simp] theorem destroyAll_cus (s : State) : s.destroyAll.cus = s.cus := by
  rw [destroyAll_eq]
  exact foldl_keeps State.cus destroyFails (fun s n => by simp [destroyFails]) _ _

@[simp] theorem cusNext_keys (s : State) (p : CusPhase) : (s.cusNext p).keys = s.keys := by
  unfold cusNext
  split <;> rfl

theorem cusNext_cus {s : State} {cmd : Nat} {p : CusPhase} (q : CusPhase) (h : s.cus.running = some (cmd, p)) :
    (s.cusNext q).cus = { s.cus with running := some (cmd, q) } := by
  rw [cusNext_of_running q h]

/-! ## The fuses of a rung as one number -/

theorem rungBits_congr {s t : State} (h : t.otp = s.otp) (l : Ladder) (k : Nat) : t.rungBits l k = s.rungBits l k := by
  simp [rungBits, otpWord, h]

theorem or_mul_two_pow_div (x m p : Nat) : (x ||| m * 2 ^ p) / 2 ^ p = x / 2 ^ p ||| m := by
  rw [← Nat.shiftRight_eq_div_pow, ← Nat.shiftRight_eq_div_pow, Nat.shiftRight_or_distrib, Nat.shiftRight_eq_div_pow (m * _),
    Nat.mul_div_cancel _ (Nat.two_pow_pos p)]

theorem rungBits_blowRung (s : State) (l : Ladder) (k : Nat) {m : Nat} (h : m < 16) :
    (s.blowRung l k m).rungBits l k = s.rungBits l k ||| m := by
  have hmod (x : Nat) : (x ||| m) % 16 = x % 16 ||| m := by
    rw [show 16 = 2 ^ 4 from rfl, Nat.or_mod_two_pow, Nat.mod_eq_of_lt h]
  rw [rungBits, blowRung, otpWord_blow_same, or_mul_two_pow_div, hmod, rungBits]

end State

/-! ## What a running custodian command waits for -/

/-- An `act` on the custodian gives the parts that it names what its effect gives them. -/
theorem act_reaches {ps : List Part} {s u : State} {f : State → State} (h : f s.clear = u)
    (hcus : ps.contains .cus = true) :
    ∃ t, act ps s f = .next t ∧ t.cus = u.cus ∧ (ps.contains .otp = true → t.otp = u.otp) ∧
      (ps.contains .start = true → t.start = u.start) ∧ (ps.contains .keys = true → t.keys = u.keys) := by
  subst h
  exact ⟨_, rfl, by rw [actState_cus, if_pos hcus], fun hp => by rw [actState_otp, if_pos hp],
    fun hp => by rw [actState_start, if_pos hp], fun hp => by rw [actState_keys, if_pos hp]⟩

namespace State

/-- The register is destroyed, with the slots that are found to fail (R146). -/
def registerGone (s : State) (failing : List Nat) : State :=
  ({ s with keys := { s.keys with defective := s.keys.defective ++ failing } } : State).destroyAll

@[simp] theorem registerGone_root (s : State) (failing : List Nat) : (s.registerGone failing).keys.root = none :=
  destroyAll_root _
@[simp] theorem registerGone_cus (s : State) (failing : List Nat) : (s.registerGone failing).cus = s.cus :=
  destroyAll_cus _

theorem registerGone_slot_ended (s : State) (failing : List Nat) {n : Nat} (h : slotUse n ≠ 0) :
    SlotState.Ended ((s.registerGone failing).slot n).state := destroyAll_slot_ended _ h

end State

theorem registerDestroyDone_destroys (failing : List Nat) (cmd : Nat) (s : State)
    (h : s.cus.running = some (cmd, .destroying)) :
    ∃ t, exec (.registerDestroyDone failing) s = .next t ∧ t.keys.root = none ∧
      t.cus.running = some (cmd, .intent .lc (if cmd = 6 then 4 else 5)) ∧
      ∀ n, slotUse n ≠ 0 → (t.slot n).state = .destroyed ∨ (t.slot n).state = .fault := by
  obtain ⟨t, ht, hcus, -, -, hkeys⟩ : ∃ t, exec (.registerDestroyDone failing) s = .next t ∧ _ :=
    act_reaches (u := (s.clear.registerGone failing).cusNext (.intent .lc (if cmd = 6 then 4 else 5)))
      (by simp only [State.clear_cus, h]; rfl) rfl
  rw [State.cusNext_keys] at hkeys
  rw [State.cusNext_cus (s := s.clear.registerGone failing) (cmd := cmd) (p := .destroying) _ (by simpa using h)] at hcus
  refine ⟨t, ht, ?_, by rw [hcus], fun n hn => ?_⟩
  · rw [hkeys rfl, State.registerGone_root]
  · rw [State.slot_congr (hkeys rfl)]
    exact State.registerGone_slot_ended _ _ hn

theorem State.otpWord_congr {s t : State} (h : t.otp = s.otp) (w : Nat) : t.otpWord w = s.otpWord w := by
  rw [State.otpWord, State.otpWord, h]

/-! ### The banks (R119, R120) -/

theorem helperBankVoided_voids (cmd b : Nat) (rest : List Nat) (s : State)
    (h : s.cus.running = some (cmd, .voiding (b :: rest))) :
    ∃ t, exec (.helperBankVoided 0o777777) s = .next t ∧
      t.otpWord (State.helperBase b + 257) = s.otpWord (State.helperBase b + 257) ||| 0o777777 ∧
      t.cus = { s.cus with
        running := some (cmd, if rest = [] then .capturing s.firstCapture else .voiding rest) } := by
  obtain ⟨t, ht, hcus, hotp, -⟩ : ∃ t, exec (.helperBankVoided 0o777777) s = .next t ∧ _ :=
    act_reaches (u := (s.clear.blow (State.helperBase b + 257) 0o777777).cusNext
      (if rest.isEmpty then .capturing s.firstCapture else .voiding rest)) (by simp only [State.clear_cus, h]; rfl) rfl
  refine ⟨t, ht, ?_, ?_⟩
  · rw [State.otpWord_congr (hotp rfl), State.otpWord_congr (State.cusNext_otp ..), State.otpWord_blow_same]
    rfl
  · rw [hcus, State.cusNext_cus (s := s.clear.blow _ _) _ h]
    simp

theorem helperBankVoided_fails (fuses : Word) (cmd b : Nat) (rest : List Nat) (s : State)
    (h : s.cus.running = some (cmd, .voiding (b :: rest))) (hf : fuses ≠ 0o777777) :
    ∃ t, exec (.helperBankVoided fuses) s = .next t ∧
      t.otpWord (State.helperBase b + 257) = s.otpWord (State.helperBase b + 257) ||| fuses.toNat ∧
      t.cus = { s.cus with cmdResult := 6, running := none } := by
  obtain ⟨t, ht, hcus, hotp, -⟩ : ∃ t, exec (.helperBankVoided fuses) s = .next t ∧ _ :=
    act_reaches (u := (s.clear.blow (State.helperBase b + 257) fuses.toNat).cusOtpFail 0)
      (by simp only [State.clear_cus, h]; exact if_pos hf) rfl
  exact ⟨t, ht, (State.otpWord_congr (hotp rfl) _).trans (State.otpWord_blow_same ..), hcus⟩

theorem enrolCapture_captures (capture : PufState) (cmd : Nat) (l : List Nat) (s : State)
    (h : s.cus.running = some (cmd, .capturing l)) (hl : l.length < 2) :
    ∃ t, exec (.enrolCapture capture) s = .next t ∧
      t.cus = { s.cus with running := some (cmd, .capturing (l ++ [capture.toNat])) } := by
  have hshort : (l ++ [capture.toNat]).length < 3 := by
    rw [List.length_append, List.length_singleton]
    omega
  obtain ⟨t, ht, hcus, -⟩ : ∃ t, exec (.enrolCapture capture) s = .next t ∧ _ :=
    act_reaches (u := s.clear.cusNext (.capturing (l ++ [capture.toNat])))
      (by simp only [State.clear_cus, h]; exact if_pos hshort) rfl
  exact ⟨t, ht, hcus.trans (State.cusNext_cus _ h)⟩

/-- The third capture gives the helper data (R132). -/
theorem enrolCapture_computes (capture : PufState) (cmd a b : Nat) (s : State)
    (h : s.cus.running = some (cmd, .capturing [a, b])) :
    ∃ t, exec (.enrolCapture capture) s = .next t ∧ ∃ messages, t.cus =
      { s.cus with running := some (cmd, .writingHelper s.newBank (helperWords [a, b, capture.toNat] messages)) } := by
  obtain ⟨t, ht, hcus, -⟩ : ∃ t, exec (.enrolCapture capture) s = .next t ∧ _ :=
    act_reaches (u := ({ s.clear with free := s.free + 1 } : State).cusNext
      (.writingHelper s.newBank (helperWords [a, b, capture.toNat] (Config.enrolMessages s.free))))
      (by simp only [State.clear_cus, h]; rfl) rfl
  exact ⟨t, ht, _, hcus.trans (State.cusNext_cus (s := { s.clear with free := s.free + 1 }) _ h)⟩

/-- The fourth checks them. -/
theorem enrolCapture_checks (capture : PufState) (cmd b : Nat) (s : State) (h : s.cus.running = some (cmd, .checking b)) :
    ∃ t, exec (.enrolCapture capture) s = .next t ∧ t.cus = { s.cus with
      running := some (cmd, if (pufSecret capture.toNat (s.helperBits b)).isSome then .intent .lc 1 else .voidingNew b) } := by
  obtain ⟨t, ht, hcus, -⟩ : ∃ t, exec (.enrolCapture capture) s = .next t ∧ _ :=
    act_reaches (u := s.clear.cusNext
      (if (pufSecret capture.toNat (s.helperBits b)).isSome then .intent .lc 1 else .voidingNew b))
      (by simp only [State.clear_cus, h]; rfl) rfl
  exact ⟨t, ht, hcus.trans (State.cusNext_cus _ h)⟩

theorem helperBankWritten_checks (words : List Word) (cmd b : Nat) (s : State)
    (h : s.cus.running = some (cmd, .writingHelper b words)) :
    ∃ t, exec (.helperBankWritten none) s = .next t ∧ t.cus = { s.cus with running := some (cmd, .checking b) } ∧
      ∀ w, t.otpWord w = if State.helperBase b ≤ w ∧ w < State.helperBase b + words.length then
        s.otpWord w ||| (wordAt words (w - State.helperBase b)).toNat else s.otpWord w := by
  obtain ⟨t, ht, hcus, hotp, -⟩ : ∃ t, exec (.helperBankWritten none) s = .next t ∧ _ :=
    act_reaches (u := (s.clear.blowWords (State.helperBase b) words).cusNext (.checking b))
      (by simp only [State.clear_cus, h]; rfl) rfl
  refine ⟨t, ht, hcus.trans (State.cusNext_cus (s := s.clear.blowWords _ _) _ h), fun w => ?_⟩
  rw [State.otpWord_congr (hotp rfl), State.otpWord_congr (State.cusNext_otp ..), State.otpWord_blowWords]
  rfl

theorem helperBankWritten_fails (e : OtpStop) (words : List Word) (cmd b : Nat) (s : State)
    (h : s.cus.running = some (cmd, .writingHelper b words)) :
    ∃ t, exec (.helperBankWritten (some e)) s = .next t ∧ t.cus = { s.cus with cmdResult := 6, running := none } := by
  obtain ⟨t, ht, hcus, -⟩ : ∃ t, exec (.helperBankWritten (some e)) s = .next t ∧ _ :=
    act_reaches (u := (s.clear.blowWords (State.helperBase b) (otpWritten words (some e))).cusOtpFail 0)
      (by simp only [State.clear_cus, h]; rfl) rfl
  exact ⟨t, ht, hcus⟩

theorem authorityBankWritten_completes (hash : List Word) (cmd b : Nat) (s : State)
    (h : s.cus.running = some (cmd, .writingAuthority b hash)) :
    ∃ t, exec (.authorityBankWritten none) s = .next t ∧ t.cus = { s.cus with cmdResult := 1, running := none } ∧
      ∀ w, t.otpWord w = if State.authBase b ≤ w ∧ w < State.authBase b + hash.length + 1 then
        s.otpWord w ||| (wordAt (hash ++ [crc18 hash]) (w - State.authBase b)).toNat else s.otpWord w := by
  obtain ⟨t, ht, hcus, hotp, -⟩ : ∃ t, exec (.authorityBankWritten none) s = .next t ∧ _ :=
    act_reaches (u := (s.clear.blowWords (State.authBase b) (hash ++ [crc18 hash])).cusCompleted)
      (by simp only [State.clear_cus, h]; rfl) rfl
  refine ⟨t, ht, hcus, fun w => ?_⟩
  rw [State.otpWord_congr (hotp rfl), State.otpWord_congr (State.cusCompleted_otp _), State.otpWord_blowWords,
    List.length_append, List.length_singleton, ← Nat.add_assoc]
  rfl

/-! ### The pairs of a rung (R121, R122) -/

theorem intentPairWritten_stands (a b : Bool) (cmd k : Nat) (l : Ladder) (s : State)
    (h : s.cus.running = some (cmd, .intent l k)) (hab : (a || b) = true) :
    ∃ t, exec (.intentPairWritten a b) s = .next t ∧
      t.cus = { s.cus with pend := some (l, k), running := some (cmd, .done l k) } ∧
      t.rungBits l k = s.rungBits l k ||| (flag 3 a + flag 2 b) := by
  let v : State := { s.clear.blowRung l k (flag 3 a + flag 2 b) with cus := { s.cus with pend := some (l, k) } }
  have hv := State.cusNext_cus (s := v) (.done l k) h
  have hbits : (v.cusNext (.done l k)).rungBits l k = s.rungBits l k ||| (flag 3 a + flag 2 b) :=
    (State.rungBits_congr (State.cusNext_otp ..) l k).trans
      (State.rungBits_blowRung s.clear l k (by cases a <;> cases b <;> decide))
  obtain ⟨t, ht, hcus, hotp, -⟩ : ∃ t, exec (.intentPairWritten a b) s = .next t ∧ _ :=
    act_reaches (u := if l = Ladder.lc then (v.cusNext (.done l k)).emitDev 0o014007 else v.cusNext (.done l k))
      (by simp only [State.clear_cus, h]; exact if_pos hab) rfl
  refine ⟨t, ht, ?_, ?_⟩
  · rw [hcus, ← hv]
    split <;> rfl
  · rw [State.rungBits_congr (hotp rfl), ← hbits]
    split <;> rfl

/-- The intent pair of a transition fails after the run has stopped: the device stays in HELD (R122). -/
def State.intentFails (s : State) (l : Ladder) : State :=
  if (decide (l = Ladder.lc) && s.inRunning) = true then
    (({ s with
      start := { s.start with outcome := .held }
      cus := { s.cus with halted := true } } : State).cusOtpFail 0).settleAlert
  else s.cusOtpFail 0

@[simp] theorem State.intentFails_otp (s : State) (l : Ladder) : (s.intentFails l).otp = s.otp := by
  unfold intentFails
  split <;> rfl

theorem State.intentFails_cus (s : State) (l : Ladder) : (s.intentFails l).cus =
    { s.cus with cmdResult := 6, running := none, halted := (s.intentFails l).cus.halted } := by
  unfold intentFails
  split <;> rfl

theorem intentPairWritten_fails (cmd k : Nat) (l : Ladder) (s : State) (h : s.cus.running = some (cmd, .intent l k)) :
    ∃ t, exec (.intentPairWritten false false) s = .next t ∧
      t.cus.cmdResult = 6 ∧ t.cus.running = none ∧ t.cus.pend = s.cus.pend ∧ t.rungBits l k = s.rungBits l k := by
  obtain ⟨t, ht, hcus, hotp, -⟩ : ∃ t, exec (.intentPairWritten false false) s = .next t ∧ _ :=
    act_reaches (u := (s.clear.blowRung l k 0).intentFails l) (by simp only [State.clear_cus, h]; rfl) rfl
  rw [State.intentFails_cus] at hcus
  refine ⟨t, ht, by rw [hcus], by rw [hcus], by rw [hcus]; rfl, ?_⟩
  calc t.rungBits l k = (s.clear.blowRung l k 0).rungBits l k :=
        State.rungBits_congr ((hotp rfl).trans (State.intentFails_otp ..)) l k
    _ = s.rungBits l k ||| 0 := State.rungBits_blowRung s.clear l k (by decide)
    _ = s.rungBits l k := Nat.or_zero _

/-- A life-cycle rung is done: the window closes, and the device halts in HELD (R121). -/
def State.transitionHolds (s : State) : State :=
  let s := { s with cus := { s.cus with pend := none } }.closeWindow 4
  ({ s with
    start := { s.start with outcome := .held }
    cus := { s.cus with halted := true } } : State).stopTraffic.cusCompleted.settleAlert

theorem State.transitionHolds_otp (s : State) : s.transitionHolds.otp = s.otp := by
  simp [transitionHolds, (stopTraffic_keepsCustody _).otp]

theorem State.transitionHolds_outcome (s : State) : s.transitionHolds.start.outcome = .held := by
  simp [transitionHolds, cusCompleted, (stopTraffic_keepsCustody _).start]

theorem State.transitionHolds_cus (s : State) : s.transitionHolds.cus =
    { ({ s with cus := { s.cus with pend := none } }.closeWindow 4).cus with
      halted := true, cmdResult := 1, running := none } := by
  simp [transitionHolds, cusCompleted, (stopTraffic_keepsCustody _).cus]

theorem State.closeWindow_pend (s : State) (cause : Nat) : (s.closeWindow cause).cus.pend = s.cus.pend := by
  by_cases h : s.cus.win = .opened
  · rw [closeWindow_cus_of_opened cause h]
  · rw [closeWindow_eq_self cause h]

theorem donePairWritten_holds (cmd k : Nat) (s : State) (h : s.cus.running = some (cmd, .done .lc k)) :
    ∃ t, exec (.donePairWritten true true) s = .next t ∧ t.rungDone .lc k = true ∧ t.start.outcome = .held ∧
      t.cus.halted = true ∧ t.cus.pend = none ∧ t.cus.cmdResult = 1 ∧ t.cus.running = none ∧ t.cus.win ≠ .opened := by
  obtain ⟨t, ht, hcus, hotp, hstart, -⟩ : ∃ t, exec (.donePairWritten true true) s = .next t ∧ _ :=
    act_reaches (u := (s.clear.blowRung .lc k 3).transitionHolds) (by simp only [State.clear_cus, h]; rfl) rfl
  rw [State.transitionHolds_cus] at hcus
  refine ⟨t, ht, ?_, ?_, by rw [hcus], ?_, by rw [hcus], by rw [hcus], ?_⟩
  · rw [State.rungDone_congr ((hotp rfl).trans (State.transitionHolds_otp _))]
    exact State.rungDone_blowRung_done ..
  · rw [hstart rfl, State.transitionHolds_outcome]
  · rw [hcus]
    exact State.closeWindow_pend ..
  · rw [hcus]
    exact State.closeWindow_win_ne_opened _ _

theorem donePairWritten_completes (cmd k : Nat) (l : Ladder) (s : State) (h : s.cus.running = some (cmd, .done l k))
    (hl : l ≠ .lc) :
    ∃ t, exec (.donePairWritten true true) s = .next t ∧ t.rungDone l k = true ∧
      t.cus = { s.cus with pend := none, cmdResult := 1, running := none } := by
  let v : State := { s.clear.blowRung l k 3 with cus := { s.cus with pend := none } }
  obtain ⟨t, ht, hcus, hotp, -⟩ : ∃ t, exec (.donePairWritten true true) s = .next t ∧ _ :=
    act_reaches (u := (if cmd = 0o11 ∨ cmd = 0o12 then v.emitDev 0o020010 else v).cusCompleted)
      (by simp only [State.clear_cus, h, hl, if_false]; rfl) rfl
  refine ⟨t, ht, ?_, ?_⟩
  · refine (State.rungDone_congr (s := s.blowRung l k 3) ?_ l k).trans (State.rungDone_blowRung_done s l k)
    rw [hotp rfl]
    split <;> rfl
  · rw [hcus]
    split <;> rfl

/-- Settles O10, one lemma for each thing that a running command waits for. The messages that an enrolment draws are free
(notes/assumptions/81). -/
theorem custodyStepsComplete : Obligations.CustodyStepsComplete :=
  ⟨registerDestroyDone_destroys, helperBankVoided_voids, helperBankVoided_fails, enrolCapture_captures, enrolCapture_computes,
    enrolCapture_checks, helperBankWritten_checks, helperBankWritten_fails, authorityBankWritten_completes,
    intentPairWritten_stands, intentPairWritten_fails, donePairWritten_holds, donePairWritten_completes⟩

end Sys2Proof.Machine

namespace Sys2Proof.Machine

/-! ## No word reveals a key (R141, R157) -/

/-- A table whose values, and the unlisted one, have all gone through a function. -/
theorem tabGet_map {α β : Type} (f : α → β) (d : α) (t : Tab α) (k : Nat) :
    tabGet (f d) (t.map (fun e => (e.1, f e.2))) k = f (tabGet d t k) := by
  induction t with
  | nil => rfl
  | cons e t ih =>
    simp only [List.map_cons, tabGet]
    split
    · rfl
    · exact ih

/-- A slot with its key forgotten. -/
def Slot.withoutKey (v : Slot) : Slot := { v with value := 0 }

namespace State

section
variable (s : State)

/-! ### What the state with its keys forgotten still shows of the register -/

theorem withoutKeys_slot (n : Nat) : s.withoutKeys.slot n = (s.slot n).withoutKey := by
  unfold slot
  split
  · exact tabGet_map Slot.withoutKey {} s.keys.slots n
  · exact tabGet_map Slot.withoutKey s.keys.base s.keys.slots n

@[simp] theorem withoutKeys_keyValid (n : Nat) : s.withoutKeys.keyValid n = s.keyValid n := by
  rw [keyValid, keyValid, withoutKeys_slot]
  rfl

/-- Counts of slots by number and STATE. -/
theorem withoutKeys_countSlots (p : Nat → SlotState → Bool) :
    (s.withoutKeys.keys.slots.filter (fun e => p e.1 e.2.state)).length =
      (s.keys.slots.filter (fun e => p e.1 e.2.state)).length := by
  have hslots : s.withoutKeys.keys.slots = s.keys.slots.map (fun e => (e.1, e.2.withoutKey)) := rfl
  rw [hslots, List.filter_map, List.length_map]
  rfl

@[simp] theorem withoutKeys_cfg (type inst i : Nat) : s.withoutKeys.cfg type inst i = s.cfg type inst i := rfl
@[simp] theorem withoutKeys_jun : s.withoutKeys.jun = s.jun := rfl
@[simp] theorem withoutKeys_now : s.withoutKeys.now = s.now := rfl
@[simp] theorem withoutKeys_link : s.withoutKeys.link = s.link := rfl
@[simp] theorem withoutKeys_tp : s.withoutKeys.tp = s.tp := rfl
@[simp] theorem withoutKeys_junRef (r : Nat) : s.withoutKeys.junRef r = s.junRef r := rfl
@[simp] theorem withoutKeys_txStream (x : Nat) : s.withoutKeys.txStream x = s.txStream x := rfl
@[simp] theorem withoutKeys_rxStream (x : Nat) : s.withoutKeys.rxStream x = s.rxStream x := rfl
@[simp] theorem withoutKeys_queue (q : Nat) : s.withoutKeys.queue q = s.queue q := rfl
@[simp] theorem withoutKeys_sched (n : Nat) : s.withoutKeys.sched n = s.sched n := rfl
@[simp] theorem withoutKeys_tenantQueues (t : Nat) : s.withoutKeys.tenantQueues t = s.tenantQueues t := rfl
@[simp] theorem withoutKeys_parkedCells (t : Nat) : s.withoutKeys.parkedCells t = s.parkedCells t := rfl
@[simp] theorem withoutKeys_delayStands (t c : Nat) : s.withoutKeys.delayStands t c = s.delayStands t c := rfl
@[simp] theorem withoutKeys_configured (t : Nat) : s.withoutKeys.configured t = s.configured t := rfl
@[simp] theorem withoutKeys_commitOk (t n : Nat) : s.withoutKeys.commitOk t n = s.commitOk t n := rfl

@[simp] theorem withoutKeys_txKeyed (x : Nat) : s.withoutKeys.txKeyed x = s.txKeyed x := withoutKeys_keyValid ..

theorem withoutKeys_txReady (x : Nat) : s.withoutKeys.txReady x = s.txReady x := by
  rw [txReady, txReady, withoutKeys_txStream, withoutKeys_txKeyed]
  rfl

theorem withoutKeys_readyQueues (n t : Nat) : s.withoutKeys.readyQueues n t = s.readyQueues n t := by
  have hready : s.withoutKeys.txReady = s.txReady := funext s.withoutKeys_txReady
  unfold readyQueues
  rw [hready]
  rfl

@[simp] theorem withoutKeys_readyTenants (n : Nat) : s.withoutKeys.readyTenants n = s.readyTenants n := by
  simp only [readyTenants, withoutKeys_readyQueues]

end
end State

section
variable (s : State) (a : Nat)

/-! ### The units whose words say something of a slot -/

theorem readKeys_withoutKeys : readKeys s.withoutKeys a = readKeys s a := by
  have htx := s.withoutKeys_countSlots (fun n st => decide (n < 32768 ∧ st = SlotState.valid))
  have hrx := s.withoutKeys_countSlots (fun n st => decide (32768 ≤ n ∧ n < 65536 ∧ st = SlotState.valid))
  have hfault := s.withoutKeys_countSlots (fun _ st => decide (st = SlotState.fault))
  unfold readKeys
  dsimp only
  rw [htx, hrx, hfault, State.withoutKeys_slot, State.withoutKeys_keyValid]
  rfl

theorem ssciOf_withoutKeys (rx : Bool) (x : Nat) : ssciOf s.withoutKeys rx x = ssciOf s rx x := by
  simp only [ssciOf, State.withoutKeys_keyValid, State.withoutKeys_txKeyed, State.withoutKeys_rxStream]
  rfl

theorem readLink_withoutKeys : readLink s.withoutKeys a = readLink s a := by
  unfold readLink
  dsimp only
  rw [State.withoutKeys_link, ssciOf_withoutKeys]
  rfl

theorem readTurnpike_withoutKeys : readTurnpike s.withoutKeys a = readTurnpike s a := by
  have hfree : s.withoutKeys.sharedFree = s.sharedFree := rfl
  have hreserved : s.withoutKeys.reservedTotal = s.reservedTotal := rfl
  have hmgmt : s.withoutKeys.mgmtHeld = s.mgmtHeld := rfl
  have hready : s.withoutKeys.memReady = s.memReady := rfl
  have hparked : s.withoutKeys.parkedCells = s.parkedCells := rfl
  have hsum (l : List Nat) (f : Queue → Nat) : sumQueues s.withoutKeys l f = sumQueues s l f := rfl
  simp only [readTurnpike, hfree, hreserved, hmgmt, hready, hparked, hsum, State.withoutKeys_tp, State.withoutKeys_queue,
    State.withoutKeys_sched, State.withoutKeys_tenantQueues, State.withoutKeys_delayStands, State.withoutKeys_readyTenants,
    State.withoutKeys_configured, State.withoutKeys_commitOk, State.withoutKeys_cfg]

/-! ### The units whose words say nothing of any slot -/

theorem readSignpost_withoutKeys : readSignpost s.withoutKeys a = readSignpost s a := rfl
theorem readCustody_withoutKeys : readCustody s.withoutKeys a = readCustody s a := rfl
theorem readStart_withoutKeys : readStart s.withoutKeys a = readStart s a := rfl
theorem readImage_withoutKeys : readImage s.withoutKeys a = readImage s a := rfl
theorem readJunction_withoutKeys : readJunction s.withoutKeys a = readJunction s a := by
  simp only [readJunction, State.withoutKeys_jun, State.withoutKeys_now, State.withoutKeys_junRef, State.withoutKeys_cfg]
theorem readLanes_withoutKeys : readLanes s.withoutKeys a = readLanes s a := rfl
theorem readTenants_withoutKeys : readTenants s.withoutKeys a = readTenants s a := rfl
theorem readQueues_withoutKeys : readQueues s.withoutKeys a = readQueues s a := rfl
theorem readMemory_withoutKeys : readMemory s.withoutKeys a = readMemory s a := rfl
theorem readCauseway_withoutKeys : readCauseway s.withoutKeys a = readCauseway s a := rfl
theorem readVerge_withoutKeys : readVerge s.withoutKeys a = readVerge s a := rfl
theorem readSupply_withoutKeys : readSupply s.withoutKeys a = readSupply s a := rfl
theorem readLegal_withoutKeys : readLegal s.withoutKeys a = readLegal s a := rfl
theorem readAlarms_withoutKeys : readAlarms s.withoutKeys a = readAlarms s a := rfl
theorem readMilepost_withoutKeys : readMilepost s.withoutKeys a = readMilepost s a := rfl
theorem readWaymark_withoutKeys : readWaymark s.withoutKeys a = readWaymark s a := rfl
theorem readTrip_withoutKeys : readTrip s.withoutKeys a = readTrip s a := rfl
theorem readStreams_withoutKeys : readStreams s.withoutKeys a = readStreams s a := rfl

end

/-- Settles O56, unit by unit of the register map. Only the key register, the link cipher and the lane schedulers look at a slot,
and they see its STATE, KIND and GEN, which stay when its key is forgotten. -/
theorem noWordRevealsAKey : Obligations.NoWordRevealsAKey := by
  intro s a
  have hidentity : s.withoutKeys.identity = s.identity := rfl
  simp only [readWord, hidentity, readSignpost_withoutKeys, readCustody_withoutKeys, readStart_withoutKeys,
    readImage_withoutKeys, readJunction_withoutKeys, readKeys_withoutKeys, readLanes_withoutKeys, readTenants_withoutKeys,
    readQueues_withoutKeys, readTurnpike_withoutKeys, readLink_withoutKeys, readMemory_withoutKeys, readCauseway_withoutKeys,
    readVerge_withoutKeys, readSupply_withoutKeys, readLegal_withoutKeys, readAlarms_withoutKeys, readMilepost_withoutKeys,
    readWaymark_withoutKeys, readTrip_withoutKeys, readStreams_withoutKeys]

end Sys2Proof.Machine

namespace Sys2Proof.Machine

/-! ## The reply that ends its session (R436, R444) -/

/-- The answer to port 2's oldest PORT_COMMAND is next on the wire. Two commands of operator session 0 wait, and the session has one
device SEQ left. -/
def replyAtLastSeq : State :=
  { cway := { partner := .up, chans := [(1 + 3 * wayNo .up, { wire := [(0, .cmdReply 2 0)] })] }
    verge := { vf33Low := false, clockLost := false, locked := true }
    keys := { slots := [(slotOperSession 0, { state := .valid })] }
    sp := { oper := [(0, { state := .opened, txSeq := 2 ^ 36 - 1 })], portWaiting := [(0, 2, 1), (0, 2, 1)] } }

/-- The response takes the last SEQ, so the session closes after it (R436), and the command that still waits is no longer one of
session 0. -/
theorem cmdReplyRx_replyAtLastSeq_portWaiting :
    ∃ t, exec (.cmdReplyRx .good) replyAtLastSeq = .next t ∧ t.sp.portWaiting = [(State.noSession, 2, 1)] :=
  ⟨_, rfl, by decide +kernel⟩

/-- Refutes O30 in its clause of CMD_REPLY: the commands that still wait stay as they are only while the session that is answered
stays open (`State.stays`, which the clause does not ask). The response to one PORT_COMMAND may use the last SEQ of its session; the
session then closes (R436), and its other commands stand without one. -/
theorem not_hostMessagesComplete : ¬ Obligations.HostMessagesComplete := by
  unfold Obligations.HostMessagesComplete
  rintro ⟨-, hreply, -⟩
  obtain ⟨t, ht, hwaiting, -⟩ := hreply 2 1 0 [(0, 2, 1)] replyAtLastSeq (by decide) rfl (by decide)
  obtain ⟨t', ht', hclosed⟩ := cmdReplyRx_replyAtLastSeq_portWaiting
  obtain rfl : t = t' := by simpa [ht] using ht'
  exact absurd (hwaiting.symm.trans hclosed) (by decide)

end Sys2Proof.Machine

namespace Sys2Proof.Machine
namespace State

/-! ## The health tests (R149, Table 6.5) -/

/-- Between two states the repetition count has gone on. -/
def Tested (s t : State) : Prop :=
  t = { s with trng := { s.trng with lastSample := t.trng.lastSample, repeats := t.trng.repeats } }

/-- A sample is counted as one of a run of equal ones. -/
def sampled (s : State) (b : Bool) : State :=
  { s with trng := { s.trng with lastSample := b, repeats := s.repeatCount b } }

theorem testSamples_cons (first : Bool) (same : Nat) (b : Bool) (l : List Bool) (s : State) :
    testSamples first same (b :: l) s =
      if 41 ≤ s.repeatCount b then (some 1, s.sampled b)
      else if 793 ≤ (if b == first then same + 1 else same) then (some 2, s.sampled b)
      else testSamples first (if b == first then same + 1 else same) l (s.sampled b) := rfl

theorem testSamples_tested (first : Bool) (same : Nat) (l : List Bool) (s : State) :
    s.Tested (testSamples first same l s).2 := by
  induction l generalizing same s with
  | nil => rfl
  | cons b l ih =>
    rw [testSamples_cons]
    split
    · rfl
    · generalize (if b == first then same + 1 else same) = n
      split
      · rfl
      · calc (testSamples first n l (s.sampled b)).2 = _ := ih n (s.sampled b)
          _ = _ := rfl

/-- The tests look at the noise source alone. -/
theorem testSamples_congr {s t : State} (h : t.trng = s.trng) (first : Bool) (same : Nat) (l : List Bool) :
    (testSamples first same l t).1 = (testSamples first same l s).1 := by
  induction l generalizing same s t with
  | nil => rfl
  | cons b l ih =>
    have hrepeat : t.repeatCount b = s.repeatCount b := by rw [repeatCount, repeatCount, h]
    rw [testSamples_cons, testSamples_cons, hrepeat]
    split
    · rfl
    · generalize (if b == first then same + 1 else same) = n
      split
      · rfl
      · exact ih (by simp [sampled, h, hrepeat]) n

theorem testWindow_clear {s : State} {l : List Bool} {r : Option Nat} (h : (s.testWindow l).1 = r) :
    ∃ u, s.clear.testWindow l = (r, u) ∧ s.clear.Tested u := by
  subst h
  exact ⟨(s.clear.testWindow l).2, Prod.ext (testSamples_congr (s := s) (t := s.clear) rfl (l.headD false) 0 l) rfl,
    testSamples_tested ..⟩

theorem Tested.trng_eq {s u : State} (h : s.clear.Tested u) :
    ∃ last n, u.trng = { s.trng with lastSample := last, repeats := n } := by
  refine ⟨u.trng.lastSample, u.trng.repeats, ?_⟩
  conv_lhs => rw [h]
  rfl

/-! ## Requests that wait (R153) -/

theorem serveWaiting_of_waiting_nil {s : State} (h : s.trng.waiting = []) : s.serveWaiting = s := by
  have hstep : s.serveWaiting = if s.trng.state = TrngState.ok && !s.trng.reseedDue then
      match s.trng.waiting with
      | [] => s
      | (c, t) :: rest =>
        let s := { s with trng := { s.trng with waiting := rest } }
        if t + ms 50 ≤ s.now then serveEntropy 511 (s.entropyDenied c)
        else serveEntropy 511 ((s.draw c.bits).2.entropyDelivered c (s.draw c.bits).1)
    else s := rfl
  rw [hstep, h]
  split <;> rfl

theorem serveWaiting_of_reseedDue {s : State} (h : s.trng.reseedDue = true) : s.serveWaiting = s := by
  unfold serveWaiting serveEntropy
  simp [h]

/-! ### A request that ends without a value (R153, Table 6.7) -/

/-- Between two states requests to the DRBG may have been withdrawn; the noise source, the pool and the DRBG stand. -/
structure Withdraws (s t : State) : Prop where
  now : t.now = s.now
  trng : t.trng = { s.trng with waiting := t.trng.waiting }

namespace Withdraws

variable {s t u : State}

theorem of_trng (hn : t.now = s.now) (h : t.trng = s.trng) : Withdraws s t := ⟨hn, by rw [h]⟩

theorem refl (s : State) : Withdraws s s := of_trng rfl rfl

theorem trans (h : Withdraws s t) (h' : Withdraws t u) : Withdraws s u := by
  refine ⟨h'.now.trans h.now, ?_⟩
  calc u.trng = _ := h'.trng
    _ = _ := by rw [h.trng]

theorem of_manages {op : Prop} (h : Manages op s t) : Withdraws s t := of_trng h.now (by rw [h.eq])

end Withdraws

section
variable (s : State)

theorem entropyDrop_withdraws (c : Consumer) : Withdraws s (s.entropyDrop c) := ⟨rfl, rfl⟩

theorem dropRequests_withdraws (g number : Nat) : Withdraws s (s.dropRequests g number) := ⟨rfl, rfl⟩

/-- Beyond the memory keys no tenant and no memory depends on a slot (Table 18.5). -/
theorem containSlotFault_of_lt {n : Nat} (h : slotDevMem < n) : s.containSlotFault n = s := by
  simp only [slotDevMem] at h
  simp [containSlotFault, slotDevMem, show ¬ n ≤ 65551 by omega, show n ≠ 65552 by omega]

theorem destroyKey_withdraws {n : Nat} (h : slotDevMem < n) : Withdraws s (s.destroyKey n) := by
  unfold destroyKey destroyContained
  dsimp only
  rw [containSlotFault_of_lt _ h, ite_self]
  split
  · exact .refl s
  · exact .of_manages (op := False) (destroySlot_manages ..)

theorem dropEph_withdraws (g : Nat) : Withdraws s (s.dropEph g) := by
  unfold dropEph
  dsimp only
  split
  · next k _ =>
    have hk : slotDevMem < slotZheacEph k := by
      simp only [slotDevMem, slotZheacEph]
      omega
    exact .trans (t := s.setGroup g _) (.of_trng rfl rfl) (destroyKey_withdraws _ hk)
  · exact entropyDrop_withdraws ..

theorem sendRefuse_withdraws (g hsId : Nat) (lane : Option Nat) (reason : Nat) :
    Withdraws s (s.sendRefuse g hsId lane reason) := by
  unfold sendRefuse sendZheac
  split
  · exact .of_manages (op := False) ((send_manages ..).trans (queueMgmt_manages ..))
  · exact .refl s

theorem zEnter_withdraws (g : Nat) (st : ZState) : Withdraws s (s.zEnter g st) := by
  unfold zEnter
  dsimp only
  split
  · exact .refl s
  · exact .of_trng rfl rfl

theorem emitOwn_withdraws (e k n a : Nat) : Withdraws s (s.emitOwn e k n a) := .of_trng (emitOwn_now ..) (emitOwn_trng ..)

/-- The events of a handshake that has failed (R299, R300). -/
def failureTold (s : State) (g reason : Nat) (refused eighth : Bool) : State :=
  let s := s.emitOwn 0o111002 8 g reason
  let s := if refused then s.emitOwn 0o111010 8 g reason else s
  let s := s.zSecurity g reason
  if eighth then s.emitOwn 0o113003 8 g ((s.lanePeer g).getD 0) else s

theorem failureTold_withdraws (g reason : Nat) (refused eighth : Bool) :
    Withdraws s (s.failureTold g reason refused eighth) := by
  have hown (u : State) (b : Prop) [Decidable b] (e a : Nat) : Withdraws u (if b then u.emitOwn e 8 g a else u) := by
    split
    · exact emitOwn_withdraws ..
    · exact .refl u
  exact (emitOwn_withdraws ..).trans ((hown _ (refused = true) ..).trans ((hown ..).trans (hown _ (eighth = true) ..)))

/-- A handshake has failed: it leaves its group, and with it go its requests and its ephemeral key. -/
def handshakeLost (s : State) (g : Nat) (v : ZGroup) (number : Nat) : State :=
  (((s.occur 33 0o003).setGroup g v).dropRequests g number).dropEph g

theorem handshakeLost_withdraws (g : Nat) (v : ZGroup) (number : Nat) : Withdraws s (s.handshakeLost g v number) :=
  (Withdraws.of_trng (s := s) (t := (s.occur 33 0o003).setGroup g v) rfl rfl).trans
    ((dropRequests_withdraws ..).trans (dropEph_withdraws ..))

theorem failHs_eq (g reason : Nat) (refuse refused : Bool) : s.failHs g reason refuse refused =
    match (s.zgroup g).hs with
    | some h =>
      let u := if refuse then s.sendRefuse g h.hsId (if helloOpen h then s.groupUpLane g else s.answerLane g h.lane) reason else s
      let lane := decide (reason = zrLane)
      let consec := if lane then (s.zgroup g).consec else min 31 ((s.zgroup g).consec + 1)
      ((u.handshakeLost g { s.zgroup g with
          hs := none, lastReason := reason, failedCount := satInc 18 (s.zgroup g).failedCount, consec := consec,
          backoffUntil := u.now + ms (u.backoffMs reason consec) } h.number).failureTold g reason refused
        (!lane && consec = 8 && (s.zgroup g).consec < 8)).zEnter g (if lane then .idle else .backoff)
    | none => s := rfl

theorem failHs_withdraws (g reason : Nat) (refuse refused : Bool) : Withdraws s (s.failHs g reason refuse refused) := by
  have hrefuse (hsId : Nat) (back : Option Nat) : Withdraws s (if refuse then s.sendRefuse g hsId back reason else s) := by
    split
    · exact sendRefuse_withdraws ..
    · exact .refl s
  rw [failHs_eq]
  cases (s.zgroup g).hs with
  | none => exact .refl s
  | some h => exact (hrefuse ..).trans ((handshakeLost_withdraws ..).trans ((failureTold_withdraws ..).trans (zEnter_withdraws ..)))

theorem tenantKeyFailed_withdraws (t : Nat) : Withdraws s (s.tenantKeyFailed t) := by
  unfold tenantKeyFailed
  split
  · exact .of_trng rfl rfl
  · exact .refl s

theorem openReply_withdraws (p : Option Nat) (lane peer status session np nd : Nat) :
    Withdraws s (s.openReply p lane peer status session np nd) := by
  unfold openReply
  split
  · exact .refl s
  · dsimp only
    split
    · exact .of_manages (op := False) ((send_manages ..).trans (queueMgmt_manages ..))
    · exact .of_manages (op := False) ((send_manages ..).trans ((send_manages ..).trans (frameOut_manages ..)))

theorem openFails_withdraws (p : Option Nat) (lane peer np status : Nat) : Withdraws s (s.openFails p lane peer np status) :=
  .trans (t := ({ s with free := s.free + 1 } : State).countOpenFail) (.of_trng rfl rfl) (openReply_withdraws ..)

/-- Beside its count nothing of the entropy unit but the other requests goes with a request that fails. -/
theorem entropyDenied_withdraws (c : Consumer) : Withdraws s.entropyFailed (s.entropyDenied c) := by
  unfold entropyDenied
  cases c with
  | tenantKey t => exact tenantKeyFailed_withdraws ..
  | startKeys => exact .refl _
  | zheac g kind => exact failHs_withdraws ..
  | challenge x => exact .refl _
  | opening p lane peer np => exact openFails_withdraws ..

@[simp] theorem entropyFailed_now : s.entropyFailed.now = s.now := by
  unfold entropyFailed
  dsimp only
  split <;> rfl

theorem entropyFailed_trng : s.entropyFailed.trng =
    { s.trng with entUnavail := satInc 18 s.trng.entUnavail, outageReported := true } := by
  unfold entropyFailed
  dsimp only
  split
  · next h => rw [← h]
  · rfl

theorem entropyDenied_now (c : Consumer) : (s.entropyDenied c).now = s.now :=
  (s.entropyDenied_withdraws c).now.trans s.entropyFailed_now

theorem entropyDenied_trng (c : Consumer) : (s.entropyDenied c).trng =
    { s.trng with
      waiting := (s.entropyDenied c).trng.waiting, entUnavail := satInc 18 s.trng.entUnavail, outageReported := true } := by
  calc (s.entropyDenied c).trng = _ := (s.entropyDenied_withdraws c).trng
    _ = _ := by rw [entropyFailed_trng]

/-! ### The end of a window (R149 to R152) -/

/-- What the failures of every waiting request leave of the noise source. -/
theorem denyWaiting_health : (s.denyWaiting.trng.state, s.denyWaiting.trng.pool, s.denyWaiting.trng.lastTest,
    s.denyWaiting.trng.healthFails) = (s.trng.state, s.trng.pool, s.trng.lastTest, s.trng.healthFails) :=
  foldl_keeps (fun s : State => (s.trng.state, s.trng.pool, s.trng.lastTest, s.trng.healthFails)) _
    (fun s w => by rw [entropyDenied_trng]) _ _

/-- The first and the second failure in a row lead to RETEST (R152). -/
theorem healthFails_of_lt {s : State} (test : Nat) (h : s.trng.failRun < 2) : (s.healthFails test).trng =
    { s.trng with
      failRun := s.trng.failRun + 1, lastTest := test, healthFails := satInc 18 s.trng.healthFails, pool := [], repeats := 0
      firstPassed := false, state := .retest } := by
  have h3 : s.trng.failRun + 1 < 3 := by omega
  simp [healthFails, h3]

/-- The third leads to FAILED. -/
theorem healthFails_of_le {s : State} (test : Nat) (h : 2 ≤ s.trng.failRun) :
    ((s.healthFails test).trng.state, (s.healthFails test).trng.pool, (s.healthFails test).trng.lastTest,
      (s.healthFails test).trng.healthFails) = (.failed, [], test, satInc 18 s.trng.healthFails) := by
  have h3 : ¬ s.trng.failRun + 1 < 3 := by omega
  simp only [healthFails, h3, if_false]
  rw [denyWaiting_health, emitDev_trng]

end

/-- A passed test ends the run of failures (R152). -/
def failRunEnds (s : State) : State := { s with trng := { s.trng with failRun := 0 } }

/-- A window that passed the tests: its samples are in the pool (R150 to R152). -/
def windowPassed (s : State) : State :=
  match s.trng.state with
  | .startup =>
    if s.trng.firstPassed then s.seedDrbg.serveWaiting else { s with trng := { s.trng with firstPassed := true, failRun := 0 } }
  | .ok => s.failRunEnds.tryReseed.serveWaiting
  | .retest => ((s.seedDrbg).emitDev 0o040003).serveWaiting
  | .failed => s

section
variable {s : State}

theorem windowPassed_of_startup_first (hstate : s.trng.state = .startup) (hfirst : s.trng.firstPassed = false) :
    s.windowPassed = { s with trng := { s.trng with firstPassed := true, failRun := 0 } } := by
  simp [windowPassed, hstate, hfirst]

theorem windowPassed_of_startup_second (hstate : s.trng.state = .startup) (hfirst : s.trng.firstPassed = true)
    (hwaiting : s.trng.waiting = []) : s.windowPassed = s.seedDrbg := by
  have hnone : s.seedDrbg.trng.waiting = [] := by
    unfold seedDrbg
    dsimp only
    split <;> exact hwaiting
  simp [windowPassed, hstate, hfirst, serveWaiting_of_waiting_nil hnone]

theorem windowPassed_of_ok (hstate : s.trng.state = .ok) (hdue : s.trng.reseedDue = false) (hwaiting : s.trng.waiting = []) :
    s.windowPassed = s.failRunEnds := by
  have htry : s.failRunEnds.tryReseed = s.failRunEnds := by simp [tryReseed, failRunEnds, hdue]
  rw [windowPassed, hstate]
  dsimp only
  rw [htry, serveWaiting_of_waiting_nil (s := s.failRunEnds) hwaiting]

/-- A seeding starts the counts of the DRBG again (R151). -/
theorem seedDrbg_trng (s : State) :
    s.seedDrbg.trng.state = .ok ∧ s.seedDrbg.trng.instantiated = true ∧ s.seedDrbg.trng.reseeds = satInc 36 s.trng.reseeds ∧
      s.seedDrbg.trng.generates = 0 ∧ s.seedDrbg.trng.reseedDue = false ∧ s.seedDrbg.trng.failRun = 0 := by
  unfold seedDrbg
  dsimp only
  split
  · next h => exact ⟨rfl, h, rfl, rfl, rfl, rfl⟩
  · exact ⟨rfl, rfl, rfl, rfl, rfl, rfl⟩

end

/-! ### The effects of the commands -/

/-- ENTROPY_WINDOW_END (R149 to R151). -/
def windowEnds (l : List Bool) (s : State) : State :=
  if !s.sampling || decide (s.trng.state = TrngState.retest ∧ s.trng.firstPassed = false) then s
  else
    match s.testWindow l with
    | (some test, s) => s.healthFails test
    | (none, s) => (s.poolWindow l).windowPassed

/-- HEALTH_TEST_FAILURE (R149, R152). -/
def samplesFail (l : List Bool) (s : State) : State :=
  match s.sampling, s.testWindow l with
  | true, (some test, s) => s.healthFails test
  | _, _ => s

/-- The first window of a retest passed (R152). -/
def retestPassed (l : List Bool) (s : State) : State :=
  let s := { s with trng := { s.trng with failRun := 0, firstPassed := true } }
  if s.trng.instantiated then s else s.poolWindow l

/-- RETEST_END (R152). -/
def retestEnds (l : List Bool) (s : State) : State :=
  if s.sampling && decide (s.trng.state = TrngState.retest) && !s.trng.firstPassed then
    match s.testWindow l with
    | (some test, s) => s.healthFails test
    | (none, s) => s.retestPassed l
  else s

/-- A reseed has fallen due (R151). -/
def owingReseed (s : State) : State := { s with trng := { s.trng with reseedDue := true } }

theorem owingReseed_now (s : State) : s.owingReseed.now = s.now := rfl

/-- RESEED_DUE (R151). -/
def reseeds (s : State) : State :=
  if s.trng.state = TrngState.ok then (s.upTo (s.trng.seededAt + secs 1)).owingReseed.tryReseed.serveWaiting else s

/-- The requests that wait are these. -/
def withWaiting (s : State) (l : List (Consumer × Nat)) : State := { s with trng := { s.trng with waiting := l } }

theorem withWaiting_now (s : State) (l : List (Consumer × Nat)) : (s.withWaiting l).now = s.now := rfl

/-- ENTROPY_REQUEST_TIMEOUT (R153). -/
def requestTimesOut (s : State) : State :=
  match s.trng.state, s.trng.waiting with
  | .startup, (c, t) :: rest | .retest, (c, t) :: rest => ((s.upTo (t + ms 50)).withWaiting rest).entropyDenied c
  | _, _ => s

end State

/-! ## The commands of the noise source and the DRBG -/

section
variable {s : State}

/-- A command on the entropy unit gives it what its effect gives it. -/
theorem exec_reaches_trng {i : Instr} {ps : List Part} {f : State → State} {u : State} (hexec : exec i s = act ps s f)
    (h : f s.clear = u) (htrng : ps.contains .trng = true) :
    ∃ t, exec i s = .next t ∧ t.trng = u.trng ∧ (ps.contains .now = true → t.now = u.now) := by
  subst h
  exact ⟨_, hexec, by rw [actState_trng, if_pos htrng], fun hp => by rw [actState_now, if_pos hp]⟩

theorem exec_entropyWindowEnd (samples : BitVec 1024) : exec (.entropyWindowEnd samples) s =
    act [.free, .once, .start, .image, .keys, .trng, .lanes, .tenants, .tp, .link, .zheac, .mem, .cway, .sp, .way] s
      (State.windowEnds (windowSamples samples)) := by
  change execEntropyWindowEnd samples s = _
  unfold execEntropyWindowEnd
  generalize windowSamples samples = l
  rfl

theorem exec_healthTestFailure (samples : List Bool) : exec (.healthTestFailure samples) s =
    act [.free, .once, .start, .image, .keys, .trng, .lanes, .tenants, .tp, .zheac, .sp, .way] s
      (State.samplesFail (samples.take 1024)) := rfl

theorem exec_retestEnd (samples : BitVec 1024) : exec (.retestEnd samples) s =
    act [.free, .once, .start, .image, .keys, .trng, .lanes, .tenants, .tp, .zheac, .sp, .way] s
      (State.retestEnds (windowSamples samples)) := by
  change execRetestEnd samples s = _
  unfold execRetestEnd
  generalize windowSamples samples = l
  rfl

theorem exec_reseedDue : exec .reseedDue s =
    act [.now, .free, .once, .start, .image, .keys, .trng, .lanes, .tenants, .tp, .link, .zheac, .mem, .cway, .sp, .way] s
      State.reseeds := rfl

theorem exec_entropyRequestTimeout : exec .entropyRequestTimeout s =
    act [.now, .free, .once, .start, .image, .keys, .trng, .lanes, .tenants, .tp, .zheac, .sp, .way] s State.requestTimesOut := rfl

/-- A window that passes, outside a retest whose first one is still to come. -/
theorem entropyWindowEnd_passed {samples : BitVec 1024} (hsampling : s.sampling = true)
    (hstate : s.trng.state ≠ .retest) (hpass : (s.testWindow (windowSamples samples)).1 = none) :
    ∃ u t : State, exec (.entropyWindowEnd samples) s = .next t ∧ t.trng = (u.poolWindow (windowSamples samples)).windowPassed.trng ∧
      ∃ last n, u.trng = { s.trng with lastSample := last, repeats := n } := by
  obtain ⟨u, hu, htested⟩ := State.testWindow_clear hpass
  have heffect : s.clear.windowEnds (windowSamples samples) = (u.poolWindow (windowSamples samples)).windowPassed := by
    have hgo : s.clear.sampling = true := hsampling
    simp [State.windowEnds, hgo, hstate, hu]
  obtain ⟨t, ht, htrng, -⟩ := exec_reaches_trng (exec_entropyWindowEnd samples) heffect rfl
  exact ⟨u, t, ht, htrng, htested.trng_eq⟩

/-- Samples that fail a test. -/
theorem healthTestFailure_failed {samples : List Bool} {test : Nat} (hsampling : s.sampling = true)
    (hfail : (s.testWindow (samples.take 1024)).1 = some test) :
    ∃ u t : State, exec (.healthTestFailure samples) s = .next t ∧ t.trng = (u.healthFails test).trng ∧
      ∃ last n, u.trng = { s.trng with lastSample := last, repeats := n } := by
  obtain ⟨u, hu, htested⟩ := State.testWindow_clear hfail
  have heffect : s.clear.samplesFail (samples.take 1024) = u.healthFails test := by
    have hgo : s.clear.sampling = true := hsampling
    simp only [State.samplesFail, hgo, hu]
  obtain ⟨t, ht, htrng, -⟩ := exec_reaches_trng (exec_healthTestFailure samples) heffect rfl
  exact ⟨u, t, ht, htrng, htested.trng_eq⟩

/-- The first 1,024 samples of a retest pass. -/
theorem retestEnd_passed {samples : BitVec 1024} (hsampling : s.sampling = true) (hstate : s.trng.state = .retest)
    (hfirst : s.trng.firstPassed = false) (hpass : (s.testWindow (windowSamples samples)).1 = none) :
    ∃ u t : State, exec (.retestEnd samples) s = .next t ∧ t.trng = (u.retestPassed (windowSamples samples)).trng ∧
      ∃ last n, u.trng = { s.trng with lastSample := last, repeats := n } := by
  obtain ⟨u, hu, htested⟩ := State.testWindow_clear hpass
  have heffect : s.clear.retestEnds (windowSamples samples) = u.retestPassed (windowSamples samples) := by
    have hgo : s.clear.sampling = true := hsampling
    simp [State.retestEnds, hgo, hstate, hfirst, hu]
  obtain ⟨t, ht, htrng, -⟩ := exec_reaches_trng (exec_retestEnd samples) heffect rfl
  exact ⟨u, t, ht, htrng, htested.trng_eq⟩

theorem reseedDue_of_ok (hstate : s.trng.state = .ok) :
    ∃ u t : State, exec .reseedDue s = .next t ∧ u.trng = { s.trng with reseedDue := true } ∧
      u.now = max s.now (s.trng.seededAt + secs 1) ∧
      t.trng = u.tryReseed.serveWaiting.trng ∧ t.now = u.tryReseed.serveWaiting.now := by
  have heffect : s.clear.reseeds = (s.clear.upTo (s.trng.seededAt + secs 1)).owingReseed.tryReseed.serveWaiting := by
    simp [State.reseeds, hstate]
  obtain ⟨t, ht, htrng, hnow⟩ := exec_reaches_trng exec_reseedDue heffect rfl
  refine ⟨(s.clear.upTo (s.trng.seededAt + secs 1)).owingReseed, t, ht, ?_, ?_, htrng, hnow rfl⟩
  · rw [State.owingReseed, (State.upTo_elapses ..).trng, State.clear_trng]
  · rw [State.owingReseed_now, State.upTo_now, State.clear_now]

theorem entropyRequestTimeout_of_waiting {c : Consumer} {u : Nat} {rest : List (Consumer × Nat)}
    (hstate : s.trng.state = .startup ∨ s.trng.state = .retest) (hwaiting : s.trng.waiting = (c, u) :: rest) :
    ∃ v t : State, exec .entropyRequestTimeout s = .next t ∧ v.trng = { s.trng with waiting := rest } ∧
      v.now = max s.now (u + ms 50) ∧ t.trng = (v.entropyDenied c).trng ∧ t.now = (v.entropyDenied c).now := by
  have heffect : s.clear.requestTimesOut = ((s.clear.upTo (u + ms 50)).withWaiting rest).entropyDenied c := by
    rcases hstate with hstate | hstate <;> simp [State.requestTimesOut, hstate, hwaiting]
  obtain ⟨t, ht, htrng, hnow⟩ := exec_reaches_trng exec_entropyRequestTimeout heffect rfl
  refine ⟨(s.clear.upTo (u + ms 50)).withWaiting rest, t, ht, ?_, ?_, htrng, hnow rfl⟩
  · rw [State.withWaiting, (State.upTo_elapses ..).trng, State.clear_trng]
  · rw [State.withWaiting_now, State.upTo_now, State.clear_now]

end

/-- Settles O12: each command acts as its effect does, and of a failed request nothing but the count and what waits goes with it. -/
theorem entropyComplete : Obligations.EntropyComplete := by
  refine ⟨?_, ?_, ?_, ?_, ?_, ?_, ?_, ?_, ?_⟩
  · intro samples s hsampling hstate hfirst hpass
    obtain ⟨u, t, ht, htrng, last, n, hu⟩ := entropyWindowEnd_passed hsampling (by simp [hstate]) hpass
    rw [State.windowPassed_of_startup_first (by simp [State.poolWindow, hu, hstate]) (by simp [State.poolWindow, hu, hfirst])] at htrng
    exact ⟨t, ht, by simp [htrng, State.poolWindow, hu, hstate]⟩
  · intro samples s hsampling hstate hfirst hwaiting hpass
    obtain ⟨u, t, ht, htrng, last, n, hu⟩ := entropyWindowEnd_passed hsampling (by simp [hstate]) hpass
    rw [State.windowPassed_of_startup_second (by simp [State.poolWindow, hu, hstate]) (by simp [State.poolWindow, hu, hfirst])
      (by simp [State.poolWindow, hu, hwaiting])] at htrng
    have hreseeds : (u.poolWindow (windowSamples samples)).trng.reseeds = s.trng.reseeds := by simp [State.poolWindow, hu]
    rw [← hreseeds]
    exact ⟨t, ht, htrng ▸ State.seedDrbg_trng _⟩
  · intro samples s hsampling hstate hdue hwaiting hpass
    obtain ⟨u, t, ht, htrng, last, n, hu⟩ := entropyWindowEnd_passed hsampling (by simp [hstate]) hpass
    rw [State.windowPassed_of_ok (by simp [State.poolWindow, hu, hstate]) (by simp [State.poolWindow, hu, hdue])
      (by simp [State.poolWindow, hu, hwaiting])] at htrng
    exact ⟨t, ht, by simp [htrng, State.failRunEnds, State.poolWindow, hu, hstate]⟩
  · intro samples test s hsampling hrun hfail
    obtain ⟨u, t, ht, htrng, last, n, hu⟩ := healthTestFailure_failed hsampling hfail
    rw [State.healthFails_of_lt test (by rw [hu]; exact hrun), hu] at htrng
    exact ⟨t, ht, by simp [htrng]⟩
  · intro samples test s hsampling hrun hfail
    obtain ⟨u, t, ht, htrng, last, n, hu⟩ := healthTestFailure_failed hsampling hfail
    have hfailed := State.healthFails_of_le test (s := u) (by rw [hu]; exact hrun)
    rw [← htrng, hu] at hfailed
    exact ⟨t, ht, by simpa using hfailed⟩
  · intro samples s hsampling hstate hfirst hpass
    obtain ⟨u, t, ht, htrng, last, n, hu⟩ := retestEnd_passed hsampling hstate hfirst hpass
    refine ⟨t, ht, ?_⟩
    rw [htrng]
    cases hinst : s.trng.instantiated <;> simp [State.retestPassed, State.poolWindow, hu, hstate, hinst]
  · intro s hstate hpool hwaiting
    obtain ⟨u, t, ht, hu, hunow, htrng, hnow⟩ := reseedDue_of_ok hstate
    have hnew : u.tryReseed = u.reseedNow := by simp [State.tryReseed, hu, hpool]
    rw [hnew, State.serveWaiting_of_waiting_nil (by simp [State.reseedNow, hu, hwaiting])] at htrng hnow
    have hnow' : t.now = u.now := hnow
    exact ⟨t, ht, by rw [hnow', hunow], by simp [htrng, hnow', State.reseedNow, hu]⟩
  · intro s hstate hpool
    obtain ⟨u, t, ht, hu, hunow, htrng, hnow⟩ := reseedDue_of_ok hstate
    have hsame : u.tryReseed = u := by simp [State.tryReseed, hu, hpool]
    rw [hsame, State.serveWaiting_of_reseedDue (by rw [hu])] at htrng hnow
    exact ⟨t, ht, htrng.trans hu, hnow.trans hunow⟩
  · intro c u rest s hstate hwaiting
    obtain ⟨v, t, ht, hv, hvnow, htrng, hnow⟩ := entropyRequestTimeout_of_waiting hstate hwaiting
    rw [State.entropyDenied_now, hvnow] at hnow
    rw [State.entropyDenied_trng, hv] at htrng
    exact ⟨t, ht, hnow, by rw [htrng]⟩

end Sys2Proof.Machine

namespace Sys2Proof.Machine

/-- What the course of a tenant's resets shows of it: its state, and what Tables 9.4 and 9.5 keep of its resets. Its ring, its
notifications and its counts of refused frames go their own way. -/
def Tenant.standing (v : Tenant) : Tenant :=
  { state := v.state, degCause := v.degCause, degAt := v.degAt, gen := v.gen, trigger := v.trigger, window := v.window,
    resetCount := v.resetCount, reset := v.reset }

theorem Tenant.standing_notified (v : Tenant) (n k : Nat) (time : Option Nat) (due : Bool) :
    { v with notified := n, notifiedAt := time, notifyDue := due, notifySent := k }.standing = v.standing := rfl

namespace State

/-! ## What leaves the course of a tenant's resets alone -/

/-- Between two states every tenant stands. -/
structure TenantsStand (s t : State) : Prop where
  standing : ∀ n, (t.tenant n).standing = (s.tenant n).standing

namespace TenantsStand

variable {s t u : State}

theorem refl (s : State) : TenantsStand s s := ⟨fun _ => rfl⟩
theorem trans (h : TenantsStand s t) (h' : TenantsStand t u) : TenantsStand s u :=
  ⟨fun n => (h'.standing n).trans (h.standing n)⟩

theorem of_tenants (h : t.tenants = s.tenants) : TenantsStand s t := ⟨fun n => by rw [tenant, tenant, h]⟩

theorem state (h : TenantsStand s t) (n : Nat) : (t.tenant n).state = (s.tenant n).state :=
  (congrArg Tenant.state (h.standing n) :)
theorem degCause (h : TenantsStand s t) (n : Nat) : (t.tenant n).degCause = (s.tenant n).degCause :=
  (congrArg Tenant.degCause (h.standing n) :)
theorem gen (h : TenantsStand s t) (n : Nat) : (t.tenant n).gen = (s.tenant n).gen :=
  (congrArg Tenant.gen (h.standing n) :)
theorem trigger (h : TenantsStand s t) (n : Nat) : (t.tenant n).trigger = (s.tenant n).trigger :=
  (congrArg Tenant.trigger (h.standing n) :)
theorem window (h : TenantsStand s t) (n : Nat) : (t.tenant n).window = (s.tenant n).window :=
  (congrArg Tenant.window (h.standing n) :)
theorem resetCount (h : TenantsStand s t) (n : Nat) : (t.tenant n).resetCount = (s.tenant n).resetCount :=
  (congrArg Tenant.resetCount (h.standing n) :)
theorem reset (h : TenantsStand s t) (n : Nat) : (t.tenant n).reset = (s.tenant n).reset :=
  (congrArg Tenant.reset (h.standing n) :)

end TenantsStand

section
variable (s : State)

theorem setTenant_stands {t : Nat} {v : Tenant} (h : v.standing = (s.tenant t).standing) : TenantsStand s (s.setTenant t v) := by
  refine ⟨fun n => ?_⟩
  by_cases hn : t = n
  · subst hn
    rw [tenant_setTenant_same, h]
  · rw [tenant_setTenant_other s v hn]

theorem storeRecord_stands (t e kind number arg : Nat) : TenantsStand s (s.storeRecord t e kind number arg) := by
  unfold storeRecord
  dsimp only
  split <;> exact setTenant_stands s rfl

theorem copyToTenants_stands (e kind number arg : Nat) : TenantsStand s (s.copyToTenants e kind number arg) := by
  unfold copyToTenants
  split
  · exact List.foldlRecOn _ _ (motive := TenantsStand s) (.refl s) (fun u hu d _ => hu.trans (storeRecord_stands ..))
  · exact .refl s

theorem emit_stands (e kind number arg : Nat) : TenantsStand s (s.emit e kind number arg) :=
  (copyToTenants_stands s e kind number (arg % 2 ^ 18)).trans (.of_tenants rfl)

theorem setSp_stands (v : SpUnit) : TenantsStand s { s with sp := v } := .of_tenants rfl
theorem setTp_stands (v : TurnpikeUnit) : TenantsStand s { s with tp := v } := .of_tenants rfl
theorem send_stands (m : Sent) : TenantsStand s (s.send m) := .of_tenants rfl
theorem note_stands (n : Note) : TenantsStand s (s.note n) := .of_tenants rfl
theorem setSched_stands (n : Nat) (v : Sched) : TenantsStand s (s.setSched n v) := .of_tenants rfl

theorem setSession_stands (c : Caller) (v : Session) : TenantsStand s (s.setSession c v) := by
  cases c <;> exact .of_tenants rfl

theorem destroySlot_stands (n : Nat) : TenantsStand s (s.destroySlot n) := by
  unfold destroySlot
  dsimp only
  split
  · exact .refl s
  · split <;> exact .of_tenants rfl

theorem frameOut_stands (port len : Nat) : TenantsStand s (s.frameOut port len) := by
  unfold frameOut
  dsimp only
  split <;> exact .of_tenants rfl

/-! ### The end of a session, and a response (R434 to R437) -/

theorem sealFrame_stands {s t : State} {c : Caller} {kind : Nat} {body m : List Nat}
    (h : s.sealFrame c kind body = some (m, t)) : TenantsStand s t := by
  unfold sealFrame at h
  split at h
  · cases h
    exact setSession_stands ..
  · cases h

theorem sealSession_stands {s t : State} {n u kind : Nat} {body : List Nat} {f : MgmtFrame}
    (h : s.sealSession n u kind body = some (f, t)) : TenantsStand s t := by
  obtain ⟨⟨m, t'⟩, hm, hf⟩ := Option.map_eq_some_iff.mp h
  cases hf
  exact sealFrame_stands hm

theorem sealWaiting_stands (t : Nat) : TenantsStand s (s.sealWaiting t) := by
  unfold sealWaiting
  dsimp only
  refine TenantsStand.trans ?_ (setTp_stands ..)
  refine List.foldlRecOn s.tp.mgmtWait _ (motive := fun a : List (Nat × MgmtItem) × State => TenantsStand s a.2) (.refl s)
    (fun a ha e _ => ?_)
  split
  · split
    · split
      · next h => exact ha.trans (sealSession_stands h)
      · exact ha
    · exact ha
  · split <;> exact ha
  · exact ha

theorem sessionSealed_stands (c : Caller) : TenantsStand s (s.sessionSealed c) := by
  cases c with
  | tenant t => exact sealWaiting_stands s t
  | operator | plain => exact .refl s

theorem sessionUnstaged_stands (c : Caller) : TenantsStand s (s.sessionUnstaged c) := by
  cases c with
  | operator n =>
    change TenantsStand s (s.abandonStaging n)
    unfold abandonStaging
    split
    · split
      · exact .of_tenants rfl
      · exact .refl s
    · exact .refl s
  | tenant | plain => exact .refl s

theorem sessionEnded_stands (c : Caller) (v : Session) (cause : Nat) : TenantsStand s (s.sessionEnded c v cause) := by
  unfold sessionEnded
  dsimp only
  have h (u w : SpUnit) (n : Note) : TenantsStand s { ({ s with sp := u }.note n) with sp := w } :=
    (setSp_stands ..).trans ((note_stands ..).trans (setSp_stands ..))
  split
  · exact (h ..).trans (emit_stands ..)
  · exact h ..

theorem closeSession_stands (c : Caller) (cause : Nat) : TenantsStand s (s.closeSession c cause) := by
  rw [closeSession_eq]
  split
  · split
    · exact .refl s
    · exact (sessionSealed_stands ..).trans ((setSession_stands ..).trans ((destroySlot_stands ..).trans
        ((sessionUnstaged_stands ..).trans (sessionEnded_stands ..))))
  · exact .refl s

theorem settleSeq_stands (c : Caller) : TenantsStand s (s.settleSeq c) := by
  unfold settleSeq
  split
  · split
    · exact closeSession_stands ..
    · exact .refl s
  · exact .refl s

variable {s} {t : State} {u : Nat}

theorem buildNotify_stands {f : List Nat} (h : s.buildNotify u = some (f, t)) : TenantsStand s t := by
  unfold buildNotify at h
  dsimp only at h
  split at h
  · cases h
  · obtain ⟨⟨m, t'⟩, hm, hf⟩ := Option.map_eq_some_iff.mp h
    cases hf
    exact ((sealFrame_stands hm).trans (setTenant_stands _ (Tenant.standing_notified ..))).trans
      (((note_stands ..).trans (send_stands ..)).trans (settleSeq_stands ..))

theorem buildItem_stands {n : Nat} {i : MgmtItem} {f : MgmtFrame} (h : s.buildItem n i = some (f, t)) : TenantsStand s t := by
  cases i with
  | session u kind body =>
    obtain ⟨⟨f', t'⟩, hm, hf⟩ := Option.map_eq_some_iff.mp h
    cases hf
    exact (sealSession_stands hm).trans (settleSeq_stands ..)
  | notify u =>
    obtain ⟨⟨f', t'⟩, hm, hf⟩ := Option.map_eq_some_iff.mp h
    cases hf
    exact buildNotify_stands hm
  | whole f' =>
    cases h
    exact .refl s

variable (s)

theorem mgmtAdmit_stands (l : List (Nat × MgmtItem)) : TenantsStand s (s.mgmtAdmit l) := by
  induction l generalizing s with
  | nil => exact .of_tenants rfl
  | cons e l ih =>
    obtain ⟨n, i⟩ := e
    rw [mgmtAdmit]
    split
    · split
      · next h => exact (buildItem_stands h).trans ((setSched_stands ..).trans (ih _))
      · exact ih s
    · exact .of_tenants rfl

theorem toPrincipal_stands (c : Caller) (kind : Nat) (body : List Nat) : TenantsStand s (s.toPrincipal c kind body) := by
  have hseal : TenantsStand s (match s.sealFrame c kind body, s.session? c with
      | some (m, s), some v =>
        ((s.send (.mport (s.mportFrame v.peer m))).frameOut 17 (sessionFrame false body.length)).settleSeq c
      | _, _ => s) := by
    split
    · next hm _ => exact (sealFrame_stands hm).trans ((send_stands ..).trans ((frameOut_stands ..).trans (settleSeq_stands ..)))
    · exact .refl s
  cases c with
  | tenant t =>
    change TenantsStand s (s.queueMgmt ..)
    unfold queueMgmt
    split
    · exact .refl s
    · exact mgmtAdmit_stands ..
  | operator | plain => exact hseal

theorem respond_stands (c : Caller) (verb status : Nat) (words : List Word) : TenantsStand s (s.respond c verb status words) := by
  unfold respond
  dsimp only
  split
  · exact (note_stands ..).trans ((setSession_stands ..).trans ((send_stands ..).trans (toPrincipal_stands ..)))
  · exact (note_stands ..).trans ((send_stands ..).trans ((send_stands ..).trans (frameOut_stands ..)))

theorem takeRequest_stands (c : Caller) (seq tag : Nat) (body : List Nat) : TenantsStand s (s.takeRequest c seq tag body) := by
  unfold takeRequest
  dsimp only
  split
  · next v _ =>
    have hopened (w : Session) (b : Prop) [Decidable b] (e k n a : Nat) : TenantsStand s
        (if b then (s.setSession c w).emit e k n a else s.setSession c w) := by
      have hset : TenantsStand s (s.setSession c w) := setSession_stands ..
      split
      · exact hset.trans (emit_stands ..)
      · exact hset
    split
    · exact hopened ..
    · exact (hopened ..).trans (respond_stands ..)
  · exact .refl s

theorem handleRequest_stands (c : Caller) (seq tag : Nat) (body : List Nat) : TenantsStand s (s.handleRequest c seq tag body) := by
  have htake := takeRequest_stands s c seq tag body
  unfold handleRequest
  dsimp only
  split
  · exact .refl s
  · split
    · split
      · exact htake
      · exact .of_tenants rfl
    · split
      · split
        · exact (setSp_stands ..).trans (toPrincipal_stands ..)
        · exact .refl s
      · split
        · split
          · exact .of_tenants rfl
          · exact htake
        · exact .of_tenants rfl

theorem takeHeld_stands (c : Caller) (k : Nat) : TenantsStand s (s.takeHeld c k) := by
  induction k generalizing s with
  | zero => exact .refl s
  | succ k ih =>
    have hnext (busy : Bool) (f : HeldRequest) : TenantsStand s (if busy then s
        else ({ s with sp := { s.sp with held := s.sp.held.erase f } }.handleRequest c f.seq f.tag f.body).takeHeld c k) := by
      split
      · exact .refl s
      · exact (setSp_stands ..).trans ((handleRequest_stands ..).trans (ih _))
    rw [takeHeld]
    cases s.sp.held.find? (fun f => decide (f.caller = c)) with
    | none => exact .refl s
    | some f => exact hnext _ f

/-- A response leaves the course of every tenant's resets alone. -/
theorem respondLater_stands (c : Caller) (verb status : Nat) (words : List Word) (args : List Nat) :
    TenantsStand s (s.respondLater c verb status words args) :=
  (respond_stands s c verb status words).trans ((note_stands ..).trans (takeHeld_stands ..))

end
end State
end Sys2Proof.Machine

namespace Sys2Proof.Machine
theorem Tenant.standing_refused (v : Tenant) (l : Tab Nat) : { v with refused := l }.standing = v.standing := rfl

/-- What is not listed is as at first. -/
theorem tabGet_of_notMem {α : Type} (d : α) {l : Tab α} {k : Nat} (h : k ∉ l.map Prod.fst) : tabGet d l k = d := by
  induction l with
  | nil => rfl
  | cons e l ih =>
    simp only [List.map_cons, List.mem_cons, not_or] at h
    obtain ⟨hne, hrest⟩ := h
    rw [tabGet, if_neg (Ne.symm hne), ih hrest]

namespace State

/-! ## Refusing what a tenant has queued (R218) -/

/-- Between two states frames may have left their queues, refused: of the device only the units named here have changed, every
tenant stands, and no frame has come to an empty queue. -/
structure Declines (s t : State) : Prop where
  eq : t = { s with
    free := t.free, once := t.once, lanes := t.lanes, tenants := t.tenants, tp := t.tp, alarm := t.alarm, way := t.way
    notes := t.notes, sent := t.sent }
  stands : TenantsStand s t
  empty : ∀ q, (s.queue q).frames = [] → (t.queue q).frames = []

namespace Declines

variable {s t u : State}

theorem refl (s : State) : Declines s s := ⟨rfl, .refl s, fun _ => id⟩

theorem trans (h : Declines s t) (h' : Declines t u) : Declines s u := by
  refine ⟨?_, h.stands.trans h'.stands, fun q hq => h'.empty q (h.empty q hq)⟩
  calc u = _ := h'.eq
    _ = _ := by rw [h.eq]

theorem foldl {α : Type} {f : State → α → State} (hf : ∀ s x, Declines s (f s x)) (l : List α) (s : State) :
    Declines s (l.foldl f s) :=
  List.foldlRecOn l f (motive := Declines s) (refl s) (fun _ h x _ => h.trans (hf _ x))

theorem ite {c : Prop} [Decidable c] (ht : Declines s t) (hu : Declines s u) : Declines s (if c then t else u) := by
  split
  · exact ht
  · exact hu

theorem now (h : Declines s t) : t.now = s.now := by rw [h.eq]
theorem start (h : Declines s t) : t.start = s.start := by rw [h.eq]
theorem image (h : Declines s t) : t.image = s.image := by rw [h.eq]
theorem cus (h : Declines s t) : t.cus = s.cus := by rw [h.eq]
theorem keys (h : Declines s t) : t.keys = s.keys := by rw [h.eq]
theorem trng (h : Declines s t) : t.trng = s.trng := by rw [h.eq]
theorem mem (h : Declines s t) : t.mem = s.mem := by rw [h.eq]
theorem trip (h : Declines s t) : t.trip = s.trip := by rw [h.eq]

end Declines

section
variable (s : State)

theorem setLane_declines (n : Nat) (v : Lane) : Declines s (s.setLane n v) := ⟨rfl, .of_tenants rfl, fun _ => id⟩
theorem setDelay_declines (l : List Nat) : Declines s { s with tp := { s.tp with delay := l } } :=
  ⟨rfl, .of_tenants rfl, fun _ => id⟩
theorem setWay_declines (v : WayUnit) : Declines s { s with way := v } := ⟨rfl, .of_tenants rfl, fun _ => id⟩
theorem setOnce_declines (l : List (Nat × Nat × Nat)) : Declines s { s with once := l } := ⟨rfl, .of_tenants rfl, fun _ => id⟩
theorem setTenant_declines {t : Nat} {v : Tenant} (h : v.standing = (s.tenant t).standing) : Declines s (s.setTenant t v) :=
  ⟨rfl, setTenant_stands s h, fun _ => id⟩
theorem note_declines (n : Note) : Declines s (s.note n) := ⟨rfl, note_stands s n, fun _ => id⟩
theorem send_declines (m : Sent) : Declines s (s.send m) := ⟨rfl, send_stands s m, fun _ => id⟩
theorem emit_declines (e kind number arg : Nat) : Declines s (s.emit e kind number arg) :=
  ⟨rfl, emit_stands s e kind number arg, fun _ => id⟩
theorem emitDev_declines (e : Nat) : Declines s (s.emitDev e) := ⟨rfl, .of_tenants rfl, fun _ => id⟩
theorem endAlarm_declines (e kind number : Nat) : Declines s (s.endAlarm e kind number) := ⟨rfl, .of_tenants rfl, fun _ => id⟩

theorem setQueue_declines {q : Nat} {v : Queue} (h : (s.queue q).frames = [] → v.frames = []) : Declines s (s.setQueue q v) := by
  refine ⟨rfl, .of_tenants rfl, fun p hp => ?_⟩
  by_cases hq : q = p
  · subst hq
    rw [queue_setQueue_same]
    exact h hp
  · rw [queue_setQueue_other s v hq]
    exact hp

theorem frameOut_declines (port len : Nat) : Declines s (s.frameOut port len) := by
  unfold frameOut
  dsimp only
  split
  · exact (note_declines ..).trans (note_declines ..)
  · exact note_declines ..

theorem sendFlow_declines (n prios quanta : Nat) : Declines s (s.sendFlow n prios quanta) := by
  unfold sendFlow
  split
  · exact ((setLane_declines ..).trans (send_declines ..)).trans ((frameOut_declines ..).trans (note_declines ..))
  · exact .refl s

theorem laneFlow_declines (n : Nat) : Declines s (s.laneFlow n) := by
  have hif (c : Prop) [Decidable c] (s : State) (a b : Nat) : Declines s (if c then s.sendFlow n a b else s) :=
    .ite (sendFlow_declines ..) (.refl s)
  unfold laneFlow
  dsimp only
  split
  · split
    · exact .refl s
    · exact (setLane_declines ..).trans (sendFlow_declines ..)
  · split
    · split
      · exact .refl s
      · exact ((setLane_declines ..).trans (hif ..)).trans (hif ..)
    · exact .refl s

theorem flowAll_declines : Declines s s.flowAll := .foldl (fun s n => .ite (laneFlow_declines s n) (.refl s)) _ s

theorem markReleased_declines (l : List Nat) (at_ : Option Nat) : Declines s (s.markReleased l at_) :=
  .foldl (fun s q => .ite (setQueue_declines s (q := q) (v := { s.queue q with releasedAt := at_ }) id) (.refl s)) l s

theorem delayFalls_declines (t c : Nat) : Declines s (s.delayFalls t c) := by
  have hreleased (l : List Nat) : Declines s { s.occur 25 0o010 with tp := { s.tp with delay := l } } :=
    (note_declines ..).trans (setDelay_declines ..)
  unfold delayFalls
  dsimp only
  split
  · split
    · exact (hreleased _).trans (flowAll_declines ..)
    · exact (hreleased _).trans ((markReleased_declines ..).trans (flowAll_declines ..))
  · exact .refl s

theorem wayWrite_declines (e : List Nat) : Declines s (s.wayWrite e) := by
  unfold wayWrite
  dsimp only
  split
  · split
    · exact setWay_declines ..
    · exact (setWay_declines ..).trans (emitDev_declines ..)
  · exact setWay_declines ..

theorem wayEnd_declines (q outPort : Nat) (f : QFrame) (prot : Bool) (outcome : Nat) :
    Declines s (s.wayEnd q outPort f prot outcome) := by
  unfold wayEnd
  split
  · refine .trans ?_ (wayWrite_declines _ _)
    exact ⟨rfl, .of_tenants rfl, fun _ => id⟩
  · exact .refl s

theorem emitOnceKey_declines (key e kind number arg : Nat) : Declines s (s.emitOnceKey key e kind number arg) := by
  unfold emitOnceKey
  split
  · exact .refl s
  · exact (setOnce_declines ..).trans (emit_declines ..)

/-- A refusal for a reset degrades no tenant (R215). -/
theorem degrade_tenantReset (t : Nat) : s.degrade t rcTenantReset = s := by simp [degrade, degBit, rcTenantReset]

/-- A refusal is counted at its queue, and at its tenant (R247). -/
def queueCounts (q code : Nat) : State :=
  let v := s.queue q
  s.setQueue q { v with refused := tabPut 0 v.refused code (satInc 36 (tabGet 0 v.refused code)) }
def tenantCounts (t code : Nat) : State :=
  let w := s.tenant t
  s.setTenant t { w with refused := tabPut 0 w.refused code (satInc 36 (tabGet 0 w.refused code)) }

theorem refuseCount_eq (t q code : Nat) : s.refuseCount t q code =
    (((s.queueCounts q code).tenantCounts t code).emitOnceKey (32 * q + code) 0o071003 2 q code).degrade t code := rfl

theorem queueCounts_declines (q code : Nat) : Declines s (s.queueCounts q code) := setQueue_declines s id
theorem tenantCounts_declines (t code : Nat) : Declines s (s.tenantCounts t code) :=
  setTenant_declines s (Tenant.standing_refused ..)

theorem refuse_declines (t q : Nat) : Declines s (s.refuse t q rcTenantReset) := by
  have hcount (s : State) : Declines s (s.refuseCount t q rcTenantReset) := by
    rw [refuseCount_eq, degrade_tenantReset]
    exact ((queueCounts_declines ..).trans (tenantCounts_declines ..)).trans (emitOnceKey_declines ..)
  unfold refuse
  dsimp only
  split
  · exact (setLane_declines ..).trans (hcount _)
  · exact hcount s

/-- Each of the frames is refused for a reset of the tenant. -/
def refuseEach (t q : Nat) (l : List QFrame) : State :=
  l.foldl (fun s f => (s.refuse t q rcTenantReset).wayEnd q (s.qEgress q) f (s.egressTrunk q) rcTenantReset) s

theorem refuseEach_declines (t q : Nat) (l : List QFrame) : Declines s (s.refuseEach t q l) :=
  .foldl (fun s _ => (refuse_declines s t q).trans (wayEnd_declines ..)) l s

/-- A queue of which everything is refused is empty. -/
theorem refuseQueued_declines (t q : Nat) : Declines s (s.refuseQueued t q rcTenantReset (fun _ => true)) ∧
    ((s.refuseQueued t q rcTenantReset (fun _ => true)).queue q).frames = [] := by
  have hcleared : Declines s (s.setQueue q { s.queue q with frames := [] }) := setQueue_declines s fun _ => rfl
  have hrefused := refuseEach_declines (s.setQueue q { s.queue q with frames := [] }) t q (s.queue q).frames
  have hall : s.refuseQueued t q rcTenantReset (fun _ => true) =
      if (s.queue q).frames.isEmpty then (s.setQueue q { s.queue q with frames := [] }).refuseEach t q (s.queue q).frames
      else ((s.setQueue q { s.queue q with frames := [] }).refuseEach t q (s.queue q).frames).delayFalls t
        (State.qTc ((s.setQueue q { s.queue q with frames := [] }).refuseEach t q (s.queue q).frames) q) := by
    simp [refuseQueued, refuseEach]
  have hend : Declines (s.setQueue q { s.queue q with frames := [] }) (s.refuseQueued t q rcTenantReset (fun _ => true)) := by
    rw [hall]
    exact .ite hrefused (hrefused.trans (delayFalls_declines ..))
  exact ⟨hcleared.trans hend, hend.empty q (by rw [queue_setQueue_same])⟩

theorem refuseTenant_declines (t : Nat) : Declines s (s.refuseTenant t rcTenantReset) :=
  .foldl (fun s q => (refuseQueued_declines s t q).1) _ s

/-- A queue of the tenant is empty once everything queued for it is refused. -/
theorem refuseTenant_frames {t q : Nat} (h : s.tenantOfQueue q = some t) :
    ((s.refuseTenant t rcTenantReset).queue q).frames = [] := by
  by_cases hq : q ∈ s.tenantQueues t
  · exact foldl_reaches (P := fun _ => True) (Q := fun u : State => (u.queue q).frames = []) hq (fun _ _ _ _ => trivial)
      (fun u _ => (refuseQueued_declines u t q).2) (fun u p _ _ hu => (refuseQueued_declines u t p).1.empty q hu) trivial
  · have hnone : q ∉ s.tp.queues.map Prod.fst := fun hm => hq (by simp [tenantQueues, hm, h])
    exact (refuseTenant_declines s t).empty q (by rw [queue, tabGet_of_notMem _ hnone])

theorem releaseDelays_declines (t : Nat) : Declines s (s.releaseDelays t) :=
  ((setDelay_declines ..).trans (note_declines ..)).trans ((markReleased_declines ..).trans (flowAll_declines ..))

end
end State
end Sys2Proof.Machine

namespace Sys2Proof.Machine

section
variable {s : State}

/-- An `act` gives each part that it names as its effect gives it, but for the observers, which are told more. -/
theorem actState_same {ps : List Part} {p : Part} (f : State → State) (h : ps.contains p = true) (ho : p ∉ observers) :
    (f s.clear).same (actState ps s f) p := by
  cases p with
  | alarm | mile | trip | notes | sent => exact absurd (by decide) ho
  | _ => exact if_pos h

theorem exec_reaches {i : Instr} {ps : List Part} {f : State → State} {u : State} (hexec : exec i s = act ps s f)
    (h : f s.clear = u) :
    ∃ t, exec i s = .next t ∧ t.sent = u.sent ∧ ∀ p, p ∉ observers → ps.contains p = true → u.same t p := by
  subst h
  exact ⟨_, hexec, rfl, fun p ho hp => actState_same f hp ho⟩

/-- A command of a unit that no replay holds. -/
theorem exec_reaches_unit {i : Instr} {ps : List Part} {f : State → State} {u : State} (hexec : exec i s = actUnit ps s f)
    (hheld : s.unitsHeld = false) (h : f s.clear = u) :
    ∃ t, exec i s = .next t ∧ ∀ p, p ∉ observers → ps.contains p = true → u.same t p := by
  have hfree : s.clear.unitsHeld ≠ true := by
    rw [show s.clear.unitsHeld = s.unitsHeld from rfl, hheld]
    decide
  obtain ⟨t, ht, -, hsame⟩ := exec_reaches hexec ((if_neg hfree).trans h)
  exact ⟨t, ht, hsame⟩

/-- A verb that its caller may use is answered as it is served, and the tenants stand as serving it leaves them. -/
theorem exec_serves {i : Instr} {ps : List Part} {f : State → State} {r : VerbCall} {verb : Nat} {unit : Option (Nat × Nat)}
    {args : List Nat} {run : State → Served} {d : Served} (hexec : exec i s = act ps s f) (hact : s.mayAct r unit = true)
    (h : f s.clear = s.clear.serve r verb true unit args run) (hd : run s.clear = d) (htenants : ps.contains .tenants = true) :
    ∃ t, exec i s = .next t ∧ t.answers r.caller verb d.status d.words = true ∧ State.TenantsStand d.st t := by
  subst hd
  have hclear : s.clear.mayAct r unit = true := hact
  rw [State.serve_of_mayAct hclear] at h
  obtain ⟨t, ht, hsent, hsame⟩ := exec_reaches hexec h
  have hanswers := (State.respondLater_responds (run s.clear).st r.caller verb (run s.clear).status (run s.clear).words args
    (op := True) fun _ => trivial).2
  refine ⟨t, ht, ?_, (State.respondLater_stands ..).trans (.of_tenants (hsame .tenants (by decide) htenants))⟩
  rw [State.answers, hsent]
  exact hanswers

end

namespace State

/-! ## A reset begins (R217, R221, R222) -/

section
variable (s : State)

/-- What of a tenant's record the acceptance of a reset sets. -/
def resetBegun (t trigger : Nat) : Tenant :=
  let v := s.tenant t
  let unfence := decide (trigger = 4)
  let window := if unfence then [] else v.window ++ [s.now]
  { v with
    degCause := 0, trigger := trigger, window := window.drop (window.length - 3), resetCount := satInc 18 v.resetCount
    reset := some {
      phase := if unfence || decide (v.state = TenState.faulted) || !s.tenMode t then .emptying else .draining
      started := s.now, fences := decide (window.length ≥ 3) } }

/-- What follows once the tenant is RESETTING. -/
def resetFollows (t trigger : Nat) (was : TenState) (discard : Bool) : State :=
  let s := if was = TenState.faulted then s.leaveFaulted t else s
  let s := if was = TenState.fenced then s.endAlarm 0o062006 1 t else s
  let s := s.emit 0o062004 1 t trigger
  let s := if discard then s.refuseTenant t rcTenantReset else s
  s.releaseDelays t

theorem startReset_eq (t trigger : Nat) : s.startReset t trigger =
    (s.tenEnter t .resetting (s.resetBegun t trigger)).resetFollows t trigger (s.tenant t).state
      (decide (trigger = 4) || decide ((s.tenant t).state = TenState.faulted) || !s.tenMode t) := rfl

theorem resetFollows_declines (t trigger : Nat) (was : TenState) (discard : Bool) :
    Declines s (s.resetFollows t trigger was discard) := by
  have hfaulted (s : State) : Declines s (if was = TenState.faulted then s.leaveFaulted t else s) :=
    .ite ((endAlarm_declines ..).trans (endAlarm_declines ..)) (.refl s)
  have hfenced (s : State) : Declines s (if was = TenState.fenced then s.endAlarm 0o062006 1 t else s) :=
    .ite (endAlarm_declines ..) (.refl s)
  have hdiscard (s : State) : Declines s (if discard then s.refuseTenant t rcTenantReset else s) :=
    .ite (refuseTenant_declines ..) (.refl s)
  exact ((hfaulted s).trans (hfenced _)).trans ((emit_declines ..).trans ((hdiscard _).trans (releaseDelays_declines ..)))

theorem startReset_declines (t trigger : Nat) :
    Declines (s.tenEnter t .resetting (s.resetBegun t trigger)) (s.startReset t trigger) := by
  rw [startReset_eq]
  exact resetFollows_declines ..

theorem startReset_stands (t trigger : Nat) :
    ((s.startReset t trigger).tenant t).standing =
      { (s.resetBegun t trigger).standing with
        state := .resetting
        gen := if (s.tenant t).state = .resetting then (s.tenant t).gen else ((s.tenant t).gen + 1) % 32 } := by
  rw [(startReset_declines s t trigger).stands.standing, tenEnter, tenant_setTenant_same]
  rfl

/-- The operator takes over the reset of this cycle (Table 9.9). -/
theorem retrigger_stands (t : Nat) : ((s.retrigger t).tenant t).standing = { (s.tenant t).standing with trigger := 2 } := by
  simp only [retrigger, tenant_setTenant_same]
  rfl

end
end State

/-! ## The verbs -/

section
variable {s : State} {r : VerbCall} {tenant : Fin 16}

/-- What TENANT_RESET does once it is served (R217). -/
def resetServed (caller : Caller) (tenant : Fin 16) (s : State) : Served :=
  if !s.configured tenant then { st := s, status := stWrongState }
  else match (s.tenant tenant).state with
    | .fenced => { st := s, status := stFenced }
    | .resetting => s.resetAgain tenant (State.isOperator caller)
    | _ => { st := s.startReset tenant (if State.isOperator caller then 2 else 1), status := stDone }

/-- A tenant may be reset by the operator and by itself (R217). -/
def resetAllowed (caller : Caller) (tenant : Fin 16) : Bool :=
  match caller with
  | .operator _ => true
  | .tenant t => decide (t = tenant)
  | .plain => false

theorem resetAllowed_of {caller : Caller} (h : State.isOperator caller = true ∨ caller = .tenant tenant) :
    resetAllowed caller tenant = true := by
  cases caller with
  | operator n => rfl
  | tenant t => simpa [resetAllowed, State.isOperator] using h
  | plain => simp [State.isOperator] at h

theorem tenantReset_serves {d : Served} (hact : s.mayAct r (some (tenantWindow tenant, (s.tenant tenant).gen)) = true)
    (hcaller : State.isOperator r.caller = true ∨ r.caller = .tenant tenant) (hd : resetServed r.caller tenant s.clear = d) :
    ∃ t, exec (.tenantReset r tenant) s = .next t ∧ t.answers r.caller 0o12 d.status d.words = true ∧
      State.TenantsStand d.st t := by
  refine exec_serves (args := [tenant.val]) (ps := [.free, .once, .image, .keys, .lanes, .tenants, .tp, .sp, .way])
    (f := fun s => s.serve r 0o12 (resetAllowed r.caller tenant) (some (tenantWindow tenant, (s.tenant tenant).gen)) [tenant.val]
      (resetServed r.caller tenant)) rfl hact ?_ hd rfl
  rw [resetAllowed_of hcaller]
  rfl

/-- What UNFENCE does once it is served (R222). -/
def unfenceServed (tenant : Fin 16) (s : State) : Served :=
  let v := s.tenant tenant
  if !s.configured tenant || decide (v.state ≠ TenState.fenced) then { st := s, status := stWrongState }
  else if v.fencedForStart then { st := s, status := stPrecondition }
  else { st := (s.emit 0o060007 1 tenant 0).startReset tenant 4, status := stDone }

theorem unfence_serves {d : Served} (hact : s.mayAct r (some (tenantWindow tenant, (s.tenant tenant).gen)) = true)
    (hoperator : State.isOperator r.caller = true) (hd : unfenceServed tenant s.clear = d) :
    ∃ t, exec (.unfence r tenant) s = .next t ∧ t.answers r.caller 0o13 d.status d.words = true ∧
      State.TenantsStand d.st t := by
  refine exec_serves (args := [tenant.val]) (ps := [.free, .once, .image, .keys, .lanes, .tenants, .tp, .sp, .way])
    (f := fun s => s.serve r 0o13 (State.isOperator r.caller) (some (tenantWindow tenant, (s.tenant tenant).gen)) [tenant.val]
      (unfenceServed tenant)) rfl hact ?_ hd rfl
  rw [hoperator]
  rfl

theorem tenantReset_begins (hact : s.mayAct r (some (tenantWindow tenant, (s.tenant tenant).gen)) = true)
    (hcaller : State.isOperator r.caller = true ∨ r.caller = .tenant tenant) (hconf : s.configured tenant = true)
    (hfenced : (s.tenant tenant).state ≠ .fenced) (hresetting : (s.tenant tenant).state ≠ .resetting) :
    ∃ t, exec (.tenantReset r tenant) s = .next t ∧ t.answers r.caller 0o12 0 [] = true ∧
      (t.tenant tenant).state = .resetting ∧ (t.tenant tenant).trigger = (if State.isOperator r.caller then 2 else 1) ∧
      (t.tenant tenant).gen = ((s.tenant tenant).gen + 1) % 32 ∧
      (t.tenant tenant).resetCount = satInc 18 (s.tenant tenant).resetCount := by
  have hserved : resetServed r.caller tenant s.clear =
      { st := s.clear.startReset tenant (if State.isOperator r.caller then 2 else 1), status := stDone } := by
    have hconf' : s.clear.configured tenant = true := hconf
    have htenant : s.clear.tenant tenant = s.tenant tenant := rfl
    simp only [resetServed, hconf', htenant]
    cases hstate : (s.tenant tenant).state <;> simp_all
  obtain ⟨t, ht, hanswers, hstands⟩ := tenantReset_serves hact hcaller hserved
  have h := (hstands.standing tenant).trans (State.startReset_stands ..)
  have hgen : (t.tenant tenant).gen = if (s.tenant tenant).state = .resetting then (s.tenant tenant).gen
    else ((s.tenant tenant).gen + 1) % 32 := (congrArg Tenant.gen h :)
  exact ⟨t, ht, hanswers, (congrArg Tenant.state h :), (congrArg Tenant.trigger h :), hgen.trans (if_neg hresetting),
    (congrArg Tenant.resetCount h :)⟩

theorem tenantReset_retriggers {v : TenReset} (hact : s.mayAct r (some (tenantWindow tenant, (s.tenant tenant).gen)) = true)
    (hoperator : State.isOperator r.caller = true) (hconf : s.configured tenant = true)
    (hstate : (s.tenant tenant).state = .resetting) (hreset : (s.tenant tenant).reset = some v) (hnow : v.started = s.now)
    (htrigger : (s.tenant tenant).trigger = 1) :
    ∃ t, exec (.tenantReset r tenant) s = .next t ∧ t.answers r.caller 0o12 0 [] = true ∧ (t.tenant tenant).trigger = 2 ∧
      (t.tenant tenant).reset = some v ∧ (t.tenant tenant).resetCount = (s.tenant tenant).resetCount := by
  have hserved : resetServed r.caller tenant s.clear = { st := s.clear.retrigger tenant, status := stDone } := by
    have hconf' : s.clear.configured tenant = true := hconf
    have htenant : s.clear.tenant tenant = s.tenant tenant := rfl
    simp [resetServed, State.resetAgain, hconf', htenant, hstate, hreset, hnow, hoperator, htrigger]
  obtain ⟨t, ht, hanswers, hstands⟩ := tenantReset_serves hact (.inl hoperator) hserved
  have h := (hstands.standing tenant).trans (State.retrigger_stands ..)
  exact ⟨t, ht, hanswers, (congrArg Tenant.trigger h :), (congrArg Tenant.reset h :).trans hreset,
    (congrArg Tenant.resetCount h :)⟩

theorem unfence_begins (hact : s.mayAct r (some (tenantWindow tenant, (s.tenant tenant).gen)) = true)
    (hoperator : State.isOperator r.caller = true) (hconf : s.configured tenant = true)
    (hstate : (s.tenant tenant).state = .fenced) (hstart : (s.tenant tenant).fencedForStart = false) :
    ∃ t, exec (.unfence r tenant) s = .next t ∧ t.answers r.caller 0o13 0 [] = true ∧
      (t.tenant tenant).state = .resetting ∧ (t.tenant tenant).trigger = 4 ∧ (t.tenant tenant).window = [] := by
  have hserved : unfenceServed tenant s.clear =
      { st := (s.clear.emit 0o060007 1 tenant 0).startReset tenant 4, status := stDone } := by
    have hconf' : s.clear.configured tenant = true := hconf
    have htenant : s.clear.tenant tenant = s.tenant tenant := rfl
    simp [unfenceServed, hconf', htenant, hstate, hstart]
  obtain ⟨t, ht, hanswers, hstands⟩ := unfence_serves hact hoperator hserved
  have h := (hstands.standing tenant).trans (State.startReset_stands ..)
  exact ⟨t, ht, hanswers, (congrArg Tenant.state h :), (congrArg Tenant.trigger h :), (congrArg Tenant.window h :)⟩

end
end Sys2Proof.Machine

namespace Sys2Proof.Machine
namespace State

/-! ## The steps of a reset (Table 9.5) -/

section
variable (s : State)

theorem setReset_reset (t : Nat) (r : TenReset) : ((s.setReset t r).tenant t).reset = some r := by
  rw [setReset, tenant_setTenant_same]

/-- No pending section of a tenant is left when its sections have applied. -/
theorem tenantPending_applyTenant (t : Nat) : (s.applyTenant t).tenantPending t = false := by
  obtain ⟨h13, h14, h15⟩ := applyTenant_takes s t
  simp only [pending?, List.find?_eq_none, Bool.and_eq_true, decide_eq_true_eq, not_and] at h13 h14 h15
  simp only [tenantPending, List.any_eq_false, Bool.and_eq_true, Bool.or_eq_true, decide_eq_true_eq]
  rintro p hp ⟨(h | h) | h, hinst⟩
  · exact h13 p hp h hinst
  · exact h14 p hp h hinst
  · exact h15 p hp h hinst

theorem tenantPending_congr {s t : State} (h : t.image = s.image) (n : Nat) : t.tenantPending n = s.tenantPending n := by
  rw [tenantPending, tenantPending, h]

/-! ### The session that closes before the region is reset -/

theorem sealFrame_keys {s t : State} {c : Caller} {kind : Nat} {body m : List Nat}
    (h : s.sealFrame c kind body = some (m, t)) : t.keys = s.keys := by
  unfold sealFrame at h
  split at h
  · next v _ _ _ =>
    cases h
    cases c <;> rfl
  · cases h

theorem sealWaiting_keys (t : Nat) : (s.sealWaiting t).keys = s.keys := by
  refine foldl_keeps (fun a : List (Nat × MgmtItem) × State => a.2.keys) _ (fun a e => ?_) s.tp.mgmtWait ([], s)
  split
  · split
    · split
      · next f u h =>
        obtain ⟨⟨m, u'⟩, hm, hf⟩ := Option.map_eq_some_iff.mp h
        cases hf
        exact sealFrame_keys hm
      · rfl
    · rfl
  · split <;> rfl
  · rfl

/-- The slots stand when the register only books something of them. -/
theorem slot_of_keys {s t : State} (hslots : t.keys.slots = s.keys.slots) (hbase : t.keys.base = s.keys.base) (n : Nat) :
    t.slot n = s.slot n := by rw [slot, slot, hslots, hbase]

/-- A destroy leaves every other slot alone. -/
theorem slot_destroySlot_other {n m : Nat} (h : n ≠ m) : (s.destroySlot n).slot m = s.slot m := by
  unfold destroySlot
  dsimp only
  split
  · rfl
  · split
    · have hset := slot_setSlot_other s { s.slot n with state := .fault, gen := ((s.slot n).gen + 1) % 32, value := 0 } h
      exact Eq.trans (slot_of_keys (by rfl) (by rfl) m) hset
    · have hset := slot_setSlot_other s (destroyed (s.slot n)) h
      exact Eq.trans (slot_of_keys (by rfl) (by rfl) m) hset

theorem setSession_keys (c : Caller) (v : Session) : (s.setSession c v).keys = s.keys := by cases c <;> rfl

theorem sessionSealed_keys (c : Caller) : (s.sessionSealed c).keys = s.keys := by
  cases c with
  | tenant t => exact sealWaiting_keys s t
  | operator | plain => rfl

theorem sessionUnstaged_keys (c : Caller) : (s.sessionUnstaged c).keys = s.keys := by
  cases c with
  | operator n =>
    change (s.abandonStaging n).keys = s.keys
    unfold abandonStaging
    split
    · split <;> rfl
    · rfl
  | tenant | plain => rfl

theorem sessionEnded_keys (c : Caller) (v : Session) (cause : Nat) : (s.sessionEnded c v cause).keys = s.keys := by
  have hgone (u w : SpUnit) (n : Note) : ({ ({ s with sp := u }.note n) with sp := w } : State).keys = s.keys := rfl
  unfold sessionEnded
  dsimp only
  split
  · exact (emit_keys ..).trans (hgone ..)
  · exact hgone ..

/-- The end of a session leaves every slot but the session's alone. -/
theorem slot_closeSession_other {c : Caller} {n : Nat} (cause : Nat) (h : sessSlot c ≠ n) :
    (s.closeSession c cause).slot n = s.slot n := by
  have hbefore : ((s.sessionSealed c).setSession c {}).slot n = s.slot n :=
    slot_congr ((setSession_keys ..).trans (sessionSealed_keys s c)) n
  rw [closeSession_eq]
  split
  · split
    · rfl
    · rw [slot_congr (sessionEnded_keys ..), slot_congr (sessionUnstaged_keys ..), slot_destroySlot_other _ h, hbefore]
  · rfl

theorem sessSlot_ne_slotMem (t : Fin 16) : sessSlot (tenantCaller t) ≠ slotMem t := by
  simp only [tenantCaller, sessSlot, slotTenSession, slotMem]
  omega

/-! ### The region is reset (R218 step 5) -/

/-- The reset of a tenant has come to its region. -/
def atRegion (t : Nat) (r : TenReset) : State :=
  let s := s.closeSession (tenantCaller t) 4
  s.setReset t { r with phase := .region, exempt := if r.waitFrom = 0 then 0 else s.now - r.waitFrom }

theorem atRegion_reset (t : Nat) (r : TenReset) :
    ((s.atRegion t r).tenant t).reset.map (fun x => x.phase) = some .region := by
  rw [atRegion, setReset_reset]
  rfl

theorem atRegion_manages (t : Nat) (r : TenReset) : Manages False s (s.atRegion t r) :=
  (closeSession_manages s (tenantCaller t) 4 nofun).trans (setTenant_manages ..)

theorem resetToRegion_of_open {t : Nat} (r : TenReset) (hquarantined : s.mem.quarantined = false)
    (hepoch : (s.region t).epoch < 2 ^ 24 - 1) :
    s.resetToRegion t r = (s.atRegion t r).setRegion t { s.region t with resetting := true } := by
  have hmem : (s.atRegion t r).mem = s.mem := by rw [(atRegion_manages s t r).eq]
  have hregion : (s.atRegion t r).region t = s.region t := by rw [region, region, hmem]
  have hopen : ¬ (s.atRegion t r).mem.quarantined = true := by simp [hmem, hquarantined]
  have hleft : ¬ ((s.atRegion t r).region t).epoch ≥ 2 ^ 24 - 1 := by rw [hregion]; exact not_le.mpr hepoch
  rw [← hregion]
  exact (if_neg hopen).trans (if_neg hleft)

/-- The reset of a region that may be reset begins; the tenant's memory key is the one it had. -/
theorem resetToRegion_reaches {t : Fin 16} (r : TenReset) (hquarantined : s.mem.quarantined = false)
    (hepoch : (s.region t).epoch < 2 ^ 24 - 1) :
    ((s.resetToRegion t r).region t).resetting = true ∧
      ((s.resetToRegion t r).tenant t).reset.map (fun x => x.phase) = some .region ∧
      (s.resetToRegion t r).slot (slotMem t) = s.slot (slotMem t) := by
  rw [resetToRegion_of_open s r hquarantined hepoch]
  exact ⟨by rw [region_setRegion_same], atRegion_reset s t r, slot_closeSession_other s 4 (sessSlot_ne_slotMem t)⟩

theorem installKey_mem (n value : Nat) : (s.installKey n value).mem = s.mem := by
  unfold installKey
  split <;> rfl

/-- A new memory key has been installed, and the journal tells of it (step 4). -/
def memoryKeyed (t value : Nat) : State := (s.installKey (slotMem t) (slotValue value)).note (.rcd 3 0o13 [fld 17 12 5, t, 0])

theorem slotUse_of_memory {n : Nat} (hlow : 65536 ≤ n) (hhigh : n < 65553) : slotUse n = 0o03 := by
  have hlink : ¬ n < 65536 := not_lt.mpr hlow
  have htx : ¬ n < 32768 := by omega
  simp [slotUse, htx, hlink, hhigh]

theorem memoryKeyed_lookup {t : Fin 16} (value : Nat) (h : s.canInstall (slotMem t) = true) :
    (s.memoryKeyed t value).lookup (slotMem t) = some (slotValue value) := by
  have huse : slotUse (slotMem t) ≠ 0 := by
    rw [slotUse_of_memory (n := slotMem t) (by simp [slotMem]) (by simp only [slotMem]; omega)]
    decide
  rw [memoryKeyed, lookup, keyValid_congr (note_keys ..), slot_congr (note_keys ..)]
  exact lookup_installKey s _ _ huse h

theorem memoryKeyed_mem (t value : Nat) : (s.memoryKeyed t value).mem = s.mem := by
  rw [memoryKeyed, note_mem, installKey_mem]

theorem tenantKeyDelivered_of_reset {t value : Nat} {r : TenReset} (hreset : (s.tenant t).reset = some r)
    (hphase : r.phase ≠ .region) : s.tenantKeyDelivered t value = (s.memoryKeyed t value).resetToRegion t r := by
  rw [tenantKeyDelivered, hreset]
  exact if_neg hphase

/-- The key is granted at once when the DRBG serves. -/
theorem askTenantKey_of_serves {t : Nat} (hreplaying : s.replaying = false) (hserves : s.drbgServes = true) :
    s.askTenantKey t = (s.draw 256).2.tenantKeyDelivered t (s.draw 256).1 := by
  have hask : s.entropyAsk (.tenantKey t) = (.granted (s.draw 256).1, (s.draw 256).2) := if_pos hserves
  simp [askTenantKey, hreplaying, hask]

/-- The DRBG serves: the new memory key is drawn and installed, and the tenant's region is reset. -/
theorem askTenantKey_reaches {t : Fin 16} {r : TenReset} (hreset : (s.tenant t).reset = some r) (hphase : r.phase ≠ .region)
    (hreplaying : s.replaying = false) (hserves : s.drbgServes = true) (hinstall : s.canInstall (slotMem t) = true)
    (hquarantined : s.mem.quarantined = false) (hepoch : (s.region t).epoch < 2 ^ 24 - 1) :
    (s.askTenantKey t).lookup (slotMem t) = some (slotValue (s.draw 256).1) ∧
      ((s.askTenantKey t).tenant t).reset.map (fun x => x.phase) = some .region ∧
      ((s.askTenantKey t).region t).resetting = true := by
  have hdraw := draw_eq s 256
  have hreset' : ((s.draw 256).2.tenant t).reset = some r := by rw [hdraw]; exact hreset
  have hinstall' : (s.draw 256).2.canInstall (slotMem t) = true := by rw [hdraw]; exact hinstall
  have hmem : ((s.draw 256).2.memoryKeyed t (s.draw 256).1).mem = s.mem := by
    rw [memoryKeyed_mem, hdraw]
  have hlookup := memoryKeyed_lookup (s.draw 256).2 (s.draw 256).1 hinstall'
  rw [askTenantKey_of_serves s hreplaying hserves, tenantKeyDelivered_of_reset _ hreset' hphase]
  obtain ⟨hregion, hphase', hslot⟩ := resetToRegion_reaches ((s.draw 256).2.memoryKeyed t (s.draw 256).1) r
    (by rw [hmem]; exact hquarantined) (by rw [region, hmem]; exact hepoch)
  refine ⟨?_, hphase', hregion⟩
  rw [lookup, keyValid, hslot]
  exact hlookup

end
end State
end Sys2Proof.Machine

namespace Sys2Proof.Machine
namespace State

/-! ### The image stands through the steps of a reset -/

section
variable (s : State)

@[simp] theorem tenEnter_image (t : Nat) (st : TenState) (v : Tenant) : (s.tenEnter t st v).image = s.image := rfl
@[simp] theorem setReset_image (t : Nat) (r : TenReset) : (s.setReset t r).image = s.image := rfl

@[simp] theorem startReset_image (t trigger : Nat) : (s.startReset t trigger).image = s.image :=
  (startReset_declines s t trigger).image.trans (tenEnter_image ..)

@[simp] theorem faultTenant_image (t cause : Nat) : (s.faultTenant t cause).image = s.image := by
  unfold faultTenant
  dsimp only
  split
  · rfl
  · split
    iterate 2
      split
      · rw [startReset_image, emit_image, tenEnter_image]
      · rw [emit_image, tenEnter_image]
    all_goals exact setTenant_image ..

/-- A reset has ended: the tenant is HEALTHY, or FENCED. -/
def resetLeft (t : Nat) (r : TenReset) (fencedByEpoch : Bool) (v : Tenant) (dur : Nat) : State :=
  (if r.fences || fencedByEpoch then (s.tenEnter t .fenced { v with fencedForStart := fencedByEpoch }).emit 0o062006 1 t 0
    else (s.tenEnter t .healthy v).emit 0o060005 1 t (sat 18 (dur / us 10))).endAlarm 0o062004 1 t

@[simp] theorem resetLeft_image (t : Nat) (r : TenReset) (fencedByEpoch : Bool) (v : Tenant) (dur : Nat) :
    (s.resetLeft t r fencedByEpoch v dur).image = s.image := by
  rw [resetLeft, endAlarm_image]
  split <;> exact (emit_image ..).trans (tenEnter_image ..)

theorem finishReset_eq (t : Nat) (r : TenReset) (fencedByEpoch : Bool) : s.finishReset t r fencedByEpoch =
    let dur := s.now - r.started - r.exempt
    let v := { s.tenant t with reset := none, resetDur := sat 18 (dur / us 10), exemptDur := sat 18 (r.exempt / us 10) }
    let u := (s.setTenant t v).resetLeft t r fencedByEpoch v dur
    if (u.slot (slotMem t)).state = SlotState.fault && decide ((u.tenant t).state = TenState.healthy) then u.faultTenant t 3
    else u := rfl

@[simp] theorem finishReset_image (t : Nat) (r : TenReset) (fencedByEpoch : Bool) :
    (s.finishReset t r fencedByEpoch).image = s.image := by
  rw [finishReset_eq]
  dsimp only
  split
  · rw [faultTenant_image, resetLeft_image, setTenant_image]
  · rw [resetLeft_image, setTenant_image]

@[simp] theorem resetToRegion_image (t : Nat) (r : TenReset) : (s.resetToRegion t r).image = s.image := by
  have hregion : (s.atRegion t r).image = s.image := (atRegion_manages s t r).image id
  have heq : s.resetToRegion t r =
      let r' : TenReset := { r with
        phase := .region, exempt := if r.waitFrom = 0 then 0 else (s.closeSession (tenantCaller t) 4).now - r.waitFrom }
      let g := (s.atRegion t r).region t
      if (s.atRegion t r).mem.quarantined then (s.atRegion t r).finishReset t r' false
      else if g.epoch ≥ 2 ^ 24 - 1 then ((s.atRegion t r).emitOwn 0o123006 7 t (fld 17 13 t)).finishReset t r' true
      else (s.atRegion t r).setRegion t { g with resetting := true } := rfl
  rw [heq]
  dsimp only
  split
  · rw [finishReset_image, hregion]
  · split
    · rw [finishReset_image, emitOwn_image, hregion]
    · rw [setRegion_image, hregion]

@[simp] theorem tenantKeyDelivered_image (t value : Nat) : (s.tenantKeyDelivered t value).image = s.image := by
  unfold tenantKeyDelivered
  split
  · split
    · rfl
    · rw [resetToRegion_image, note_image, installKey_image]
  · rfl

@[simp] theorem askTenantKey_image (t : Nat) : (s.askTenantKey t).image = s.image := by
  have hasked : (if s.replaying then (Draw.waits, s) else s.entropyAsk (.tenantKey t)).2.image = s.image := by
    split
    · rfl
    · exact entropyAsk_image ..
  unfold askTenantKey
  split
  · next h =>
    rw [tenantKeyDelivered_image]
    rwa [h] at hasked
  · next h =>
    rw [h] at hasked
    split
    · rw [setReset_image, hasked]
    · exact hasked
  · next h =>
    rw [h] at hasked
    split
    · rw [setReset_image, hasked]
    · exact hasked

end
end State

/-! ## The commands of a reset -/

section
variable {s : State} {tenant : Fin 16} {r : TenReset}

/-- What remains at the end of the drain is refused. -/
def drainEnds (s : State) (t : Nat) (r : TenReset) : State :=
  let s := if s.tenantHolds t then s.upTo (r.started + ms 10) else s
  (s.refuseTenant t rcTenantReset).setReset t { r with phase := .emptying }

theorem drainEnds_frames {t q : Nat} (h : s.tenantOfQueue q = some t) : ((drainEnds s t r).queue q).frames = [] := by
  have hupTo (n : Nat) : (s.upTo n).tenantOfQueue q = some t := by
    rw [show s.upTo n = _ from State.upTo_elapses s n]
    exact h
  have hqueue : (if s.tenantHolds t then s.upTo (r.started + ms 10) else s).tenantOfQueue q = some t := by
    split
    · exact hupTo _
    · exact h
  exact State.refuseTenant_frames _ hqueue

/-- RESET_DRAIN_END (R218). -/
def drainStep (tenant : Fin 16) (s : State) : State :=
  match (s.tenant tenant).reset with
  | some r => if r.phase = ResetPhase.draining then drainEnds s tenant r else s
  | none => s

theorem resetDrainEnd_refuses (hheld : s.unitsHeld = false) (hreset : (s.tenant tenant).reset = some r)
    (hphase : r.phase = .draining) :
    ∃ t, exec (.resetDrainEnd tenant) s = .next t ∧ (t.tenant tenant).reset = some { r with phase := .emptying } ∧
      ∀ q ∈ s.tenantQueues tenant, (t.queue q).frames = [] := by
  have hstep : drainStep tenant s.clear = drainEnds s.clear tenant r := by
    have hreset' : (s.clear.tenant tenant).reset = some r := hreset
    simp [drainStep, hreset', hphase]
  obtain ⟨t, ht, hsame⟩ := exec_reaches_unit (i := .resetDrainEnd tenant) (f := drainStep tenant)
    (ps := [.now, .free, .once, .lanes, .tenants, .tp, .way]) rfl hheld hstep
  have htenants : t.tenants = (drainEnds s.clear tenant r).tenants := hsame .tenants (by decide) rfl
  have htp : t.tp = (drainEnds s.clear tenant r).tp := hsame .tp (by decide) rfl
  refine ⟨t, ht, ?_, fun q hq => ?_⟩
  · rw [State.tenant, htenants]
    exact State.setReset_reset ..
  · rw [State.queue, htp]
    exact drainEnds_frames (s := s.clear) (of_decide_eq_true (List.mem_filter.mp hq).2)

/-! ### The queues are empty (R218 steps 3 and 4) -/

/-- What is still queued is refused, and pending sections take effect. -/
def queuesEmptied (s : State) (t : Nat) : State :=
  let s := s.refuseTenant t rcTenantReset
  if s.tenantPending t then s.applyTenant t else s

/-- RESET_QUEUES_EMPTIED. -/
def emptiedStep (tenant : Fin 16) (s : State) : State :=
  match (s.tenant tenant).reset with
  | some r =>
    if r.phase = ResetPhase.emptying then
      let s := queuesEmptied s tenant
      if s.start.memState = MemState.noneConfigured then s.resetToRegion tenant r else s.askTenantKey tenant
    else s
  | none => s

theorem resetQueuesEmptied_reaches {u : State} (hheld : s.unitsHeld = false) (hreset : (s.tenant tenant).reset = some r)
    (hphase : r.phase = .emptying)
    (hu : (if (queuesEmptied s.clear tenant).start.memState = .noneConfigured then
      (queuesEmptied s.clear tenant).resetToRegion tenant r else (queuesEmptied s.clear tenant).askTenantKey tenant) = u) :
    ∃ t, exec (.resetQueuesEmptied tenant) s = .next t ∧ t.image = u.image ∧ t.keys = u.keys ∧ t.tenants = u.tenants ∧
      t.mem = u.mem := by
  have hstep : emptiedStep tenant s.clear = u := by
    have hreset' : (s.clear.tenant tenant).reset = some r := hreset
    simp only [emptiedStep, hreset', hphase, if_true]
    exact hu
  obtain ⟨t, ht, hsame⟩ := exec_reaches_unit (i := .resetQueuesEmptied tenant) (f := emptiedStep tenant)
    (ps := [.free, .once, .image, .keys, .trng, .lanes, .tenants, .tp, .mem, .cway, .sp, .way]) rfl hheld hstep
  exact ⟨t, ht, hsame .image (by decide) rfl, hsame .keys (by decide) rfl, hsame .tenants (by decide) rfl,
    hsame .mem (by decide) rfl⟩

theorem queuesEmptied_pending (s : State) (t : Nat) : (queuesEmptied s t).tenantPending t = false := by
  unfold queuesEmptied
  dsimp only
  split
  · exact State.tenantPending_applyTenant ..
  · next h => simpa using h

/-- Without pending sections only the queues have changed. -/
theorem queuesEmptied_declines {t : Nat} (h : s.tenantPending t = false) : State.Declines s (queuesEmptied s t) := by
  have hdeclines := State.refuseTenant_declines s t
  have hnone : ¬ (s.refuseTenant t rcTenantReset).tenantPending t = true := by
    rw [State.tenantPending_congr hdeclines.image, h]
    decide
  unfold queuesEmptied
  dsimp only
  rw [if_neg hnone]
  exact hdeclines

theorem resetQueuesEmptied_applies (hheld : s.unitsHeld = false) (hreset : (s.tenant tenant).reset = some r)
    (hphase : r.phase = .emptying) : ∃ t, exec (.resetQueuesEmptied tenant) s = .next t ∧ t.tenantPending tenant = false := by
  obtain ⟨t, ht, himage, -, -, -⟩ := resetQueuesEmptied_reaches hheld hreset hphase rfl
  refine ⟨t, ht, ?_⟩
  rw [State.tenantPending_congr himage, State.tenantPending_congr (s := queuesEmptied s.clear tenant), queuesEmptied_pending]
  split
  · exact State.resetToRegion_image ..
  · exact State.askTenantKey_image ..

theorem resetQueuesEmptied_noMemory (hheld : s.unitsHeld = false) (hreset : (s.tenant tenant).reset = some r)
    (hphase : r.phase = .emptying) (hpending : s.tenantPending tenant = false) (hmem : s.start.memState = .noneConfigured)
    (hquarantined : s.mem.quarantined = false) (hepoch : (s.region tenant).epoch < 2 ^ 24 - 1) :
    ∃ t, exec (.resetQueuesEmptied tenant) s = .next t ∧ (t.region tenant).resetting = true ∧
      (t.tenant tenant).reset.map (fun x => x.phase) = some .region ∧ t.slot (slotMem tenant) = s.slot (slotMem tenant) := by
  have hdeclines := queuesEmptied_declines (s := s.clear) hpending
  have hnone : (queuesEmptied s.clear tenant).start.memState = .noneConfigured := by rw [hdeclines.start]; exact hmem
  obtain ⟨t, ht, -, hkeys, htenants, htmem⟩ := resetQueuesEmptied_reaches hheld hreset hphase (if_pos hnone)
  obtain ⟨hregion, hphase', hslot⟩ := State.resetToRegion_reaches (queuesEmptied s.clear tenant) r
    (by rw [hdeclines.mem]; exact hquarantined) (by rw [State.region, hdeclines.mem]; exact hepoch)
  refine ⟨t, ht, ?_, ?_, ?_⟩
  · rw [State.region, htmem]
    exact hregion
  · rw [State.tenant, htenants]
    exact hphase'
  · rw [State.slot_congr hkeys, hslot, State.slot_congr hdeclines.keys]
    rfl

theorem resetQueuesEmptied_keys (hheld : s.unitsHeld = false) (hreset : (s.tenant tenant).reset = some r)
    (hphase : r.phase = .emptying) (hpending : s.tenantPending tenant = false) (hmem : s.start.memState ≠ .noneConfigured)
    (hreplaying : s.replaying = false) (hserves : s.drbgServes = true) (hinstall : s.canInstall (slotMem tenant) = true)
    (hquarantined : s.mem.quarantined = false) (hepoch : (s.region tenant).epoch < 2 ^ 24 - 1) :
    ∃ t, exec (.resetQueuesEmptied tenant) s = .next t ∧ t.lookup (slotMem tenant) = some (slotValue (s.draw 256).1) ∧
      (t.tenant tenant).reset.map (fun x => x.phase) = some .region ∧ (t.region tenant).resetting = true := by
  have hdeclines := queuesEmptied_declines (s := s.clear) hpending
  have hready : ¬ (queuesEmptied s.clear tenant).start.memState = .noneConfigured := by rw [hdeclines.start]; exact hmem
  obtain ⟨t, ht, -, hkeys, htenants, htmem⟩ := resetQueuesEmptied_reaches hheld hreset hphase (if_neg hready)
  have hdraw : ((queuesEmptied s.clear tenant).draw 256).1 = (s.draw 256).1 :=
    congrArg (fun g : TrngUnit => (g.drbg.generate 256).1) hdeclines.trng
  obtain ⟨hlookup, hphase', hregion⟩ := State.askTenantKey_reaches (queuesEmptied s.clear tenant) (t := tenant) (r := r)
    ((hdeclines.stands.reset tenant).trans hreset) (by rw [hphase]; decide)
    (by rw [State.replaying, hdeclines.trip]; exact hreplaying) (by rw [State.drbgServes_congr hdeclines.trng]; exact hserves)
    (by
      rw [State.canInstall_congr (State.slot_congr hdeclines.keys _) (by rw [hdeclines.keys]) hdeclines.now hdeclines.cus]
      exact hinstall)
    (by rw [hdeclines.mem]; exact hquarantined) (by rw [State.region, hdeclines.mem]; exact hepoch)
  refine ⟨t, ht, ?_, ?_, ?_⟩
  · rw [State.lookup, State.keyValid_congr hkeys, State.slot_congr hkeys, ← hdraw]
    exact hlookup
  · rw [State.tenant, htenants]
    exact hphase'
  · rw [State.region, htmem]
    exact hregion

/-- MEMORY_KEY_RETRY (R154). -/
def retryStep (tenant : Fin 16) (s : State) : State :=
  match (s.tenant tenant).reset with
  | some r => if r.phase = ResetPhase.keyWait true && decide (s.trng.state ≠ TrngState.failed) then s.askTenantKey tenant else s
  | none => s

theorem memoryKeyRetry_keys (hheld : s.unitsHeld = false) (hreset : (s.tenant tenant).reset = some r)
    (hphase : r.phase = .keyWait true) (hreplaying : s.replaying = false) (hserves : s.drbgServes = true)
    (hinstall : s.canInstall (slotMem tenant) = true) (hquarantined : s.mem.quarantined = false)
    (hepoch : (s.region tenant).epoch < 2 ^ 24 - 1) :
    ∃ t, exec (.memoryKeyRetry tenant) s = .next t ∧ t.lookup (slotMem tenant) = some (slotValue (s.draw 256).1) ∧
      (t.tenant tenant).reset.map (fun x => x.phase) = some .region ∧ (t.region tenant).resetting = true := by
  have hok : s.trng.state = .ok := by
    simp only [State.drbgServes, Bool.and_eq_true, decide_eq_true_eq] at hserves
    obtain ⟨⟨hok, -⟩, -⟩ := hserves
    exact hok
  have hreset' : (s.clear.tenant tenant).reset = some r := hreset
  have hstep : retryStep tenant s.clear = s.clear.askTenantKey tenant := by simp [retryStep, hreset', hphase, hok]
  obtain ⟨t, ht, hsame⟩ := exec_reaches_unit (i := .memoryKeyRetry tenant) (f := retryStep tenant)
    (ps := [.free, .once, .image, .keys, .trng, .lanes, .tenants, .tp, .mem, .cway, .sp, .way]) rfl hheld hstep
  have hkeys : t.keys = (s.clear.askTenantKey tenant).keys := hsame .keys (by decide) rfl
  have htenants : t.tenants = (s.clear.askTenantKey tenant).tenants := hsame .tenants (by decide) rfl
  have htmem : t.mem = (s.clear.askTenantKey tenant).mem := hsame .mem (by decide) rfl
  obtain ⟨hlookup, hphase', hregion⟩ := State.askTenantKey_reaches s.clear hreset' (by rw [hphase]; decide) hreplaying hserves
    hinstall hquarantined hepoch
  refine ⟨t, ht, ?_, ?_, ?_⟩
  · rw [State.lookup, State.keyValid_congr hkeys, State.slot_congr hkeys]
    exact hlookup
  · rw [State.tenant, htenants]
    exact hphase'
  · rw [State.region, htmem]
    exact hregion

/-! ### What expires (R215, R221) -/

/-- RESET_WINDOW_EXPIRY. -/
def windowStep (tenant : Fin 16) (s : State) : State :=
  match (s.tenant tenant).window with
  | t :: rest => (s.upTo (t + secs 600)).setTenant tenant { s.tenant tenant with window := rest }
  | [] => s

theorem resetWindowExpiry_drops {x : Nat} {rest : List Nat} (hheld : s.unitsHeld = false)
    (hwindow : (s.tenant tenant).window = x :: rest) :
    ∃ t, exec (.resetWindowExpiry tenant) s = .next t ∧ (t.tenant tenant).window = rest ∧
      t.now = max s.now (x + secs 600) := by
  have hstep : windowStep tenant s.clear =
      (s.clear.upTo (x + secs 600)).setTenant tenant { s.clear.tenant tenant with window := rest } := by
    have hwindow' : (s.clear.tenant tenant).window = x :: rest := hwindow
    simp only [windowStep, hwindow']
  obtain ⟨t, ht, hsame⟩ := exec_reaches_unit (i := .resetWindowExpiry tenant) (f := windowStep tenant)
    (ps := [.now, .free, .tenants, .tp]) rfl hheld hstep
  refine ⟨t, ht, ?_, ?_⟩
  · rw [State.tenant, hsame .tenants (by decide) rfl]
    exact congrArg Tenant.window (State.tenant_setTenant_same ..)
  · rw [hsame .now (by decide) rfl, State.setTenant_now, State.upTo_now, State.clear_now]

/-- DEGRADED_EXPIRY. -/
def degradedStep (tenant : Fin 16) (s : State) : State :=
  let v := s.tenant tenant
  if v.state = TenState.degraded then
    ((s.upTo (v.degAt + secs 1)).tenEnter tenant .healthy { v with degCause := 0 }).emit 0o060001 1 tenant 0
  else s

theorem tenEnter_now (s : State) (t : Nat) (st : TenState) (v : Tenant) : (s.tenEnter t st v).now = s.now := rfl

theorem degradedExpiry_heals (hheld : s.unitsHeld = false) (hstate : (s.tenant tenant).state = .degraded) :
    ∃ t, exec (.degradedExpiry tenant) s = .next t ∧ (t.tenant tenant).state = .healthy ∧ (t.tenant tenant).degCause = 0 ∧
      (t.tenant tenant).gen = ((s.tenant tenant).gen + 1) % 32 ∧ t.now = max s.now ((s.tenant tenant).degAt + secs 1) := by
  have hstep : degradedStep tenant s.clear = ((s.clear.upTo ((s.tenant tenant).degAt + secs 1)).tenEnter tenant .healthy
      { s.tenant tenant with degCause := 0 }).emit 0o060001 1 tenant 0 := if_pos hstate
  obtain ⟨t, ht, hsame⟩ := exec_reaches_unit (i := .degradedExpiry tenant) (f := degradedStep tenant)
    (ps := [.now, .free, .tenants, .tp]) rfl hheld hstep
  have hstands := (State.emit_stands ((s.clear.upTo ((s.tenant tenant).degAt + secs 1)).tenEnter tenant .healthy
    { s.tenant tenant with degCause := 0 }) 0o060001 1 tenant 0).trans (.of_tenants (hsame .tenants (by decide) rfl))
  have hentered (u : State) (v : Tenant) (h : v.state = .degraded) : (u.tenEnter tenant .healthy v).tenant tenant =
      { v with state := .healthy, gen := (v.gen + 1) % 32 } := by
    rw [State.tenEnter, State.tenant_setTenant_same, if_neg (by rw [h]; decide)]
  have htenant := hentered (s.clear.upTo ((s.tenant tenant).degAt + secs 1)) { s.tenant tenant with degCause := 0 } hstate
  refine ⟨t, ht, ?_, ?_, ?_, ?_⟩
  · rw [hstands.state, htenant]
  · rw [hstands.degCause, htenant]
  · rw [hstands.gen, htenant]
  · rw [hsame .now (by decide) rfl, State.emit_now, tenEnter_now, State.upTo_now, State.clear_now]

end

/-- Settles O20: each command by its effect; a refusal for a reset and a response leave every tenant's course as it is. -/
theorem tenantResetsComplete : Obligations.TenantResetsComplete :=
  ⟨fun _ _ _ hact hcaller hconf hfenced hresetting => tenantReset_begins hact hcaller hconf hfenced hresetting,
    fun _ _ _ _ hact hoperator hconf hstate hreset hnow htrigger =>
      tenantReset_retriggers hact hoperator hconf hstate hreset hnow htrigger,
    fun _ _ _ hact hoperator hconf hstate hstart => unfence_begins hact hoperator hconf hstate hstart,
    fun _ _ _ hheld hreset hphase => resetDrainEnd_refuses hheld hreset hphase,
    fun _ _ _ hheld hreset hphase _ => resetQueuesEmptied_applies hheld hreset hphase,
    fun _ _ _ hheld hreset hphase hpending hmem hquarantined hepoch =>
      resetQueuesEmptied_noMemory hheld hreset hphase hpending hmem hquarantined hepoch,
    fun _ _ _ hheld hreset hphase hpending hmem hreplaying hserves hinstall hquarantined hepoch =>
      resetQueuesEmptied_keys hheld hreset hphase hpending hmem hreplaying hserves hinstall hquarantined hepoch,
    fun _ _ _ hheld hreset hphase hreplaying hserves hinstall hquarantined hepoch =>
      memoryKeyRetry_keys hheld hreset hphase hreplaying hserves hinstall hquarantined hepoch,
    fun _ _ _ _ hheld hwindow => resetWindowExpiry_drops hheld hwindow,
    fun _ _ hheld hstate => degradedExpiry_heals hheld hstate⟩

end Sys2Proof.Machine

namespace Sys2Proof.Machine

/-! ## A start discards Junction (R76, R174) -/

/-- What a start finds of Junction: FREE RUN with no holdover value, no HIST and no reference qualified. -/
theorem hostReset_discards_junction {u : JunctionUnit} {s : State} {cause : Nat} (h : u = (s.hostReset cause).jun) :
    u.state = .freeRun ∧ u.hist = false ∧ u.holdFreq = 0 ∧ u.selected = 0 ∧ u.refs = [] := by
  rw [h, State.hostReset_jun]
  exact ⟨rfl, rfl, rfl, rfl, rfl⟩

@[simp] theorem State.beginStart_jun (s : State) (cause capture : Nat) : (s.beginStart cause capture).jun = s.jun := rfl

theorem hostRstNAssertion_jun {lowNs : Nat} {s : State} (h : s.pins.hostRstLow = false) (hl : 300 ≤ lowNs) :
    ∃ t, exec (.hostRstNAssertion lowNs) s = .next t ∧ t.jun = (s.hostReset 1).jun := by
  refine ⟨_, rfl, ?_⟩
  simp [h, hl, show ¬ lowNs < 100 by omega]

/-- Whether a start follows at once or not, the supply monitor's reset stands (R45). -/
theorem supplyMonitorReset_jun (rail : Fin 7) (fall : RailFall) (capture : PufState) (s : State) :
    ∃ t, exec (.supplyMonitorReset rail fall capture) s = .next t ∧ t.jun = (s.hostReset 2).jun := by
  refine ⟨_, rfl, ?_⟩
  rw [actState_jun, if_pos (by rfl)]
  dsimp only
  rw [apply_ite State.jun, State.beginStart_jun, ite_self]
  rfl

theorem bootRecordWritten_jun {cmd : Nat} (capture : PufState) {s : State} (hrunning : s.cus.running = some (cmd, .bootRecord))
    (hn : s.norRefuses = false) :
    ∃ t, exec (.bootRecordWritten false true capture) s = .next t ∧ t.jun = (s.hostReset 3).jun := by
  have hn' : s.clear.norRefuses = false := hn
  refine ⟨_, rfl, ?_⟩
  simp [hrunning, hn', State.restart]

/-- Settles O58: each of the three resets leaves Junction as `hostReset` does, and a start that follows at once takes it up so. -/
theorem startDiscardsJunction : Obligations.StartDiscardsJunction := by
  refine ⟨fun lowNs s h hl => ?_, fun rail fall capture s => ?_, fun cmd capture s hrunning hn => ?_⟩
  · obtain ⟨t, ht, hjun⟩ := hostRstNAssertion_jun h hl
    exact ⟨t, ht, hostReset_discards_junction hjun⟩
  · obtain ⟨t, ht, hjun⟩ := supplyMonitorReset_jun rail fall capture s
    exact ⟨t, ht, hostReset_discards_junction hjun⟩
  · obtain ⟨t, ht, hjun⟩ := bootRecordWritten_jun capture hrunning hn
    exact ⟨t, ht, hostReset_discards_junction hjun⟩

end Sys2Proof.Machine

namespace Sys2Proof.Machine

namespace State

variable {s t u : State}

/-! ## What Junction looks at outside its own state -/

theorem Elapses.jun (h : s.Elapses t) : t.jun = s.jun := by rw [h]
theorem Elapses.lanes (h : s.Elapses t) : t.lanes = s.lanes := by rw [h]

theorem cfg_congr (h : t.image = s.image) (type inst i : Nat) : t.cfg type inst i = s.cfg type inst i := by
  rw [cfg, cfg, inForce?_congr h]

theorem hasSection_congr (h : t.image = s.image) (type inst : Nat) : t.hasSection type inst = s.hasSection type inst := by
  rw [hasSection, hasSection, inForce?_congr h]

theorem laneMode_congr (h : t.image = s.image) (n : Nat) : t.laneMode n = s.laneMode n := by
  rw [laneMode, laneMode, laneWord, laneWord, cfg_congr h]

theorem laneLead_congr (h : t.image = s.image) (n : Nat) : t.laneLead n = s.laneLead n :=
  congrArg (firstBelow 16) (funext fun m => by rw [hasSection_congr h, laneMode_congr h])

theorem junLane_congr (h : t.image = s.image) (r : Nat) : t.junLane r = s.junLane r := by rw [junLane, junLane, cfg_congr h]

theorem junPrio_congr (h : t.image = s.image) (r : Nat) : t.junPrio r = s.junPrio r := by rw [junPrio, junPrio, cfg_congr h]
theorem junAccept_congr (h : t.image = s.image) : t.junAccept = s.junAccept := by rw [junAccept, junAccept, cfg_congr h]
theorem junReject_congr (h : t.image = s.image) : t.junReject = s.junReject := by rw [junReject, junReject, cfg_congr h]
theorem junTrackBw_congr (h : t.image = s.image) : t.junTrackBw = s.junTrackBw := by rw [junTrackBw, junTrackBw, cfg_congr h]

theorem junFed_congr (hi : t.image = s.image) (hl : t.lanes = s.lanes) (r : Nat) : t.junFed r = s.junFed r := by
  simp only [junFed, lane, junLane_congr hi, laneLead_congr hi, hl]

theorem junEdgesEnd_congr (hi : t.image = s.image) (hl : t.lanes = s.lanes) (r : Nat) : t.junEdgesEnd r = s.junEdgesEnd r := by
  simp only [junEdgesEnd, lane, junLane_congr hi, laneLead_congr hi, hl]

theorem junRef_congr (h : t.jun = s.jun) (r : Nat) : t.junRef r = s.junRef r := by rw [junRef, junRef, h]

theorem upTo_image (s : State) (x : Nat) : (s.upTo x).image = s.image := (upTo_elapses s x).image
@[simp] theorem upTo_jun (s : State) (x : Nat) : (s.upTo x).jun = s.jun := (upTo_elapses s x).jun
@[simp] theorem upTo_junRef (s : State) (x r : Nat) : (s.upTo x).junRef r = s.junRef r := junRef_congr (upTo_jun s x) r
@[simp] theorem upTo_junAccept (s : State) (x : Nat) : (s.upTo x).junAccept = s.junAccept := junAccept_congr (upTo_image s x)
@[simp] theorem upTo_junReject (s : State) (x : Nat) : (s.upTo x).junReject = s.junReject := junReject_congr (upTo_image s x)
@[simp] theorem upTo_junLoaded (s : State) (x : Nat) : (s.upTo x).junLoaded = s.junLoaded := hasSection_congr (upTo_image s x) ..
@[simp] theorem upTo_junFed (s : State) (x r : Nat) : (s.upTo x).junFed r = s.junFed r :=
  junFed_congr (upTo_image s x) (upTo_elapses s x).lanes r
@[simp] theorem upTo_junEdgesEnd (s : State) (x r : Nat) : (s.upTo x).junEdgesEnd r = s.junEdgesEnd r :=
  junEdgesEnd_congr (upTo_image s x) (upTo_elapses s x).lanes r

@[simp] theorem emitDev_junRef (s : State) (e r : Nat) : (s.emitDev e).junRef r = s.junRef r := by simp [junRef]

/-! ## The references move, and the selection stands (R163 to R166) -/

/-- Between two states references of Junction may have changed, which events tell. -/
def MovesRefs (s t : State) : Prop :=
  t = { s with jun := { s.jun with refs := t.jun.refs }, alarm := t.alarm, notes := t.notes }

namespace MovesRefs

theorem refl (s : State) : s.MovesRefs s := rfl

theorem trans (h : s.MovesRefs t) (h' : t.MovesRefs u) : s.MovesRefs u := by
  calc u = _ := h'
    _ = _ := by rw [h]

theorem now (h : s.MovesRefs t) : t.now = s.now := by rw [h]
theorem pins (h : s.MovesRefs t) : t.pins = s.pins := by rw [h]
theorem image (h : s.MovesRefs t) : t.image = s.image := by rw [h]
theorem lanes (h : s.MovesRefs t) : t.lanes = s.lanes := by rw [h]
theorem jun (h : s.MovesRefs t) : t.jun = { s.jun with refs := t.jun.refs } := congrArg State.jun h
theorem xoFail (h : s.MovesRefs t) : t.jun.xoFail = s.jun.xoFail := by rw [h]

theorem jun_of {j : JunctionUnit} (h : s.MovesRefs t) (hj : s.jun = j) : t.jun = { j with refs := t.jun.refs } := by
  subst hj
  exact h.jun

end MovesRefs

theorem setJunRef_movesRefs (s : State) (r : Nat) (v : JunRef) : s.MovesRefs (s.setJunRef r v) := rfl

theorem setJunRef_emitDev_movesRefs (s : State) (r : Nat) (v : JunRef) (b : Bool) (e : Nat) :
    s.MovesRefs (if b then (s.setJunRef r v).emitDev e else s.setJunRef r v) := by
  cases b <;> rfl

theorem junRef_setJunRef (s : State) (r k : Nat) (v : JunRef) :
    (s.setJunRef r v).junRef k = if k = r then v else s.junRef k := by
  by_cases h : k = r
  · rw [if_pos h, h, junRef_setJunRef_same]
  · rw [if_neg h, junRef_setJunRef_other s v (Ne.symm h)]

theorem junRef_setJunRef_emitDev (s : State) (r k : Nat) (v : JunRef) (b : Bool) (e : Nat) :
    (if b then (s.setJunRef r v).emitDev e else s.setJunRef r v).junRef k = if k = r then v else s.junRef k := by
  cases b
  · exact junRef_setJunRef ..
  · exact (emitDev_junRef ..).trans (junRef_setJunRef ..)

/-- A reference that loses activity or frequency: what has been counted and measured of it stays (R165, R166). -/
def lostRef (v : JunRef) (act freqOk : Bool) : JunRef :=
  { v with act := act, freqOk := freqOk, wtrUntil := none, disquals := if v.qual then satInc 18 v.disquals else v.disquals }

theorem junDisqualify_movesRefs (s : State) (r : Nat) (act freqOk : Bool) : s.MovesRefs (s.junDisqualify r act freqOk) :=
  setJunRef_emitDev_movesRefs ..

theorem junRef_junDisqualify (s : State) (r k : Nat) (act freqOk : Bool) :
    (s.junDisqualify r act freqOk).junRef k = if k = r then lostRef (s.junRef r) act freqOk else s.junRef k :=
  junRef_setJunRef_emitDev ..

/-- A reference that has become qualified for the first time: it need not wait to be restored (R166). -/
theorem junRef_junQualify_first (s : State) (r : Nat) (h : (s.junRef r).ever = false) :
    (s.junQualify r).junRef r = { s.junRef r with act := true, freqOk := true, ever := true, wtrUntil := none } := by
  rw [junQualify, h]
  exact (junRef_setJunRef_emitDev ..).trans (if_pos rfl)

theorem junQualify_movesRefs (s : State) (r : Nat) : s.MovesRefs (s.junQualify r) := setJunRef_emitDev_movesRefs ..

/-- A pass over the references 0 to n - 1 that moves each of them alone, by a rule that holds throughout. -/
theorem foldl_range_movesRefs {f : State → Nat → State} {g : Nat → JunRef → JunRef}
    (hmoves : ∀ u r, MovesRefs u (f u r))
    (hrule : ∀ u r k, s.MovesRefs u → (f u r).junRef k = if k = r then g r (u.junRef r) else u.junRef k) (n : Nat) :
    s.MovesRefs ((List.range n).foldl f s) ∧
      ∀ k, ((List.range n).foldl f s).junRef k = if k < n then g k (s.junRef k) else s.junRef k := by
  induction n with
  | zero => exact ⟨.refl s, fun k => rfl⟩
  | succ n ih =>
    obtain ⟨ihmoves, ihrule⟩ := ih
    rw [List.range_succ, List.foldl_append]
    refine ⟨ihmoves.trans (hmoves _ n), fun k => ?_⟩
    rw [List.foldl_cons, List.foldl_nil, hrule _ n k ihmoves]
    obtain hk | rfl | hk := lt_trichotomy k n
    · rw [if_neg hk.ne, ihrule, if_pos hk, if_pos (hk.trans n.lt_succ_self)]
    · rw [if_pos rfl, ihrule, if_neg k.lt_irrefl, if_pos k.lt_succ_self]
    · rw [if_neg hk.ne', ihrule, if_neg hk.not_gt, if_neg (by omega)]

/-- What becomes of a reference whose lane may long have delivered no clock (R161, R163, R201). -/
def starvedRef (s : State) (r : Nat) (v : JunRef) : JunRef :=
  if v.act && !s.junFed r && decide (s.junEdgesEnd r ≤ s.now) then lostRef v false false else v

theorem starvedRef_of_fed (r : Nat) (v : JunRef) (h : s.junFed r = true) : s.starvedRef r v = v := by
  simp [starvedRef, h]

theorem starvedRef_of_inactive (r : Nat) (v : JunRef) (h : v.act = false) : s.starvedRef r v = v := by
  simp [starvedRef, h]

theorem junStarve_moves (s : State) :
    s.MovesRefs s.junStarve ∧ ∀ k, s.junStarve.junRef k = if k < 2 then s.starvedRef k (s.junRef k) else s.junRef k := by
  refine foldl_range_movesRefs (fun u r => ?_) (fun u r k h => ?_) 2
  · split
    · exact junDisqualify_movesRefs ..
    · exact .refl u
  · rw [starvedRef, ← junFed_congr h.image h.lanes, ← junEdgesEnd_congr h.image h.lanes, ← h.now]
    split
    · exact junRef_junDisqualify ..
    · split
      · next hk => rw [hk]
      · rfl

/-- Every reference stands as it was, or is lost for want of a clock. -/
theorem junRef_junStarve_cases (s : State) (k : Nat) :
    s.junStarve.junRef k = s.junRef k ∨ s.junStarve.junRef k = lostRef (s.junRef k) false false := by
  rw [s.junStarve_moves.2, starvedRef]
  split
  · split
    · exact .inr rfl
    · exact .inl rfl
  · exact .inl rfl

/-- What becomes of a reference whose wait to restore may have ended (R166). -/
def restoredRef (now : Nat) (v : JunRef) : JunRef :=
  { v with wtrUntil := v.wtrUntil.filter (fun x => decide (now < x)) }

theorem restoredRef_of_none (now : Nat) (v : JunRef) (h : v.wtrUntil = none) : restoredRef now v = v := by
  rw [restoredRef, h, Option.filter_none, ← h]

theorem junWaits_moves (s : State) :
    s.MovesRefs s.junWaits ∧ ∀ k, s.junWaits.junRef k = if k < 4 then restoredRef s.now (s.junRef k) else s.junRef k := by
  refine foldl_range_movesRefs (g := fun _ => restoredRef s.now) (fun u r => ?_) (fun u r k h => ?_) 4
  · split
    · split
      · exact setJunRef_emitDev_movesRefs ..
      · exact .refl u
    · exact .refl u
  · have hself (hr : restoredRef s.now (u.junRef r) = u.junRef r) :
        u.junRef k = if k = r then restoredRef s.now (u.junRef r) else u.junRef k := by
      split
      · next hk => rw [hr, hk]
      · rfl
    split
    · next x hx =>
      split
      · next hle =>
        have hrestored : restoredRef s.now (u.junRef r) = { u.junRef r with wtrUntil := none } := by
          rw [restoredRef, hx, Option.filter_some, if_neg (by rw [← h.now]; simpa using hle)]
        rw [hrestored]
        exact junRef_setJunRef_emitDev ..
      · next hle =>
        refine hself ?_
        rw [restoredRef, hx, Option.filter_some, if_pos (by rw [← h.now]; simpa using hle), ← hx]
    · next hx => exact hself (restoredRef_of_none _ _ hx)

/-! ## The selection moves, and the references stand (R167 to R173) -/

/-- Between two states the selection of Junction may have changed, which events tell. -/
def MovesSelection (s t : State) : Prop :=
  t = { s with
    free := t.free, jun := { t.jun with refs := s.jun.refs, xoFail := s.jun.xoFail }, alarm := t.alarm, notes := t.notes }

namespace MovesSelection

theorem refl (s : State) : s.MovesSelection s := rfl

theorem trans (h : s.MovesSelection t) (h' : t.MovesSelection u) : s.MovesSelection u := by
  calc u = _ := h'
    _ = _ := by rw [h]

theorem now (h : s.MovesSelection t) : t.now = s.now := by rw [h]
theorem pins (h : s.MovesSelection t) : t.pins = s.pins := by rw [h]
theorem xoFail (h : s.MovesSelection t) : t.jun.xoFail = s.jun.xoFail := by rw [h]
theorem junRef (h : s.MovesSelection t) (r : Nat) : t.junRef r = s.junRef r := by rw [h]; rfl

end MovesSelection

theorem junSelect_movesSelection (s : State) (r : Nat) : s.MovesSelection (s.junSelect r) := by
  unfold junSelect
  dsimp only
  split
  · rfl
  · rfl

theorem junHold_movesSelection (s : State) : s.MovesSelection s.junHold := by
  unfold junHold
  dsimp only
  split
  · rfl
  · rfl

theorem junFreeze_movesSelection (s : State) : s.MovesSelection s.junFreeze := by
  unfold junFreeze
  dsimp only
  split
  · rfl
  · rfl

theorem junEnter_emitDev_movesSelection (s : State) (st : JunState) (sel stage e : Nat) :
    s.MovesSelection ((s.junEnter st sel stage).emitDev e) := rfl

theorem junToLost_movesSelection (s : State) : s.MovesSelection s.junToLost :=
  (junHold_movesSelection s).trans (junEnter_emitDev_movesSelection ..)

theorem junNone_movesSelection (s : State) : s.MovesSelection s.junNone := by
  unfold junNone
  split
  · split
    · exact (junFreeze_movesSelection s).trans ((junHold_movesSelection _).trans (junEnter_emitDev_movesSelection ..))
    · exact junToLost_movesSelection s
  · exact junToLost_movesSelection s
  · exact .refl s

theorem junEvaluate_movesSelection (s : State) : s.MovesSelection s.junEvaluate := by
  have hnone : s.MovesSelection (if s.jun.selected = 0 then s else s.junNone) := by
    split
    · exact .refl s
    · exact junNone_movesSelection s
  have hsome (b : Bool) (r : Nat) : s.MovesSelection (if b then s.junSelect r else s) := by
    cases b
    · exact .refl s
    · exact junSelect_movesSelection s r
  unfold junEvaluate
  dsimp only
  split
  · split
    · split
      · exact junSelect_movesSelection ..
      · exact hnone
    · split
      · exact hsome ..
      · exact .refl s
  · exact .refl s

/-! ## One evaluation (R167, R181) -/

/-- What an evaluation keeps beside the references, if the change that it takes up does. -/
theorem junSettle_keeps {change : State → State} (h : ∀ u, MovesRefs u (change u)) :
    (s.junSettle change).now = s.now ∧ (s.junSettle change).pins = s.pins ∧
      (s.junSettle change).jun.xoFail = s.jun.xoFail := by
  unfold junSettle
  split
  · have hrefs := s.junStarve_moves.1.trans ((h _).trans (junWaits_moves _).1)
    have hselection := junEvaluate_movesSelection (change s.junStarve).junWaits
    exact ⟨hselection.now.trans hrefs.now, hselection.pins.trans hrefs.pins,
      hselection.xoFail.trans hrefs.xoFail⟩
  · exact ⟨rfl, rfl, rfl⟩

theorem junSettle_now {change : State → State} (h : ∀ u, MovesRefs u (change u)) : (s.junSettle change).now = s.now :=
  (junSettle_keeps h).1

/-- A reference after an evaluation: the change that it takes up comes before the waits that end. -/
theorem junRef_junSettle {change : State → State} (hloaded : s.junLoaded = true) (h : ∀ u, MovesRefs u (change u)) {k : Nat}
    (hk : k < 4) : (s.junSettle change).junRef k = restoredRef s.now ((change s.junStarve).junRef k) := by
  rw [junSettle, if_pos hloaded, (junEvaluate_movesSelection _).junRef, (junWaits_moves _).2, if_pos hk, (h _).now,
    s.junStarve_moves.1.now]

/-- A reference that waits for nothing once the change is taken up stands as the change leaves it. -/
theorem junRef_junSettle_of_none {change : State → State} (hloaded : s.junLoaded = true) (h : ∀ u, MovesRefs u (change u))
    {k : Nat} (hk : k < 4) (hwtr : ((change s.junStarve).junRef k).wtrUntil = none) :
    (s.junSettle change).junRef k = (change s.junStarve).junRef k :=
  (junRef_junSettle hloaded h hk).trans (restoredRef_of_none _ _ hwtr)

theorem junRef_junStarve_of_fed {k : Nat} (h : s.junFed k = true) : s.junStarve.junRef k = s.junRef k := by
  rw [s.junStarve_moves.2, starvedRef_of_fed _ _ h, ite_self]

theorem junRef_junStarve_of_inactive {k : Nat} (h : (s.junRef k).act = false) : s.junStarve.junRef k = s.junRef k := by
  rw [s.junStarve_moves.2, starvedRef_of_inactive _ _ h, ite_self]

/-! ## The monitors' results (R163, R164, R166) -/

/-- The change that REF_ACTIVITY_LOST brings (R163). -/
def loseActivity (r : Nat) (s : State) : State := if (s.junRef r).act then s.junDisqualify r false false else s

theorem loseActivity_movesRefs (r : Nat) (s : State) : s.MovesRefs (loseActivity r s) := by
  unfold loseActivity
  split
  · exact junDisqualify_movesRefs ..
  · exact .refl s

theorem junRef_loseActivity_of_active {r : Nat} (h : (s.junRef r).act = true) (k : Nat) :
    (loseActivity r s).junRef k = if k = r then lostRef (s.junRef r) false false else s.junRef k := by
  rw [loseActivity, if_pos h, junRef_junDisqualify]

theorem loseActivity_of_inactive {r : Nat} (h : (s.junRef r).act = false) : loseActivity r s = s := by
  rw [loseActivity, if_neg (by rw [h]; decide)]

/-- The change that REF_ACTIVITY_GOOD brings (R163). -/
def gainActivity (r : Nat) (s : State) : State :=
  if s.junFed r && !(s.junRef r).act then s.setJunRef r { s.junRef r with act := true, resultAt := s.now + secs 1 } else s

theorem gainActivity_movesRefs (r : Nat) (s : State) : s.MovesRefs (gainActivity r s) := by
  unfold gainActivity
  split
  · exact setJunRef_movesRefs ..
  · exact .refl s

theorem junRef_gainActivity {r : Nat} (hfed : s.junFed r = true) (h : (s.junRef r).act = false) :
    (gainActivity r s).junRef r = { s.junRef r with act := true, resultAt := s.now + secs 1 } := by
  rw [gainActivity, if_pos (by simp [hfed, h]), junRef_setJunRef_same]

/-- A reference with a result of its frequency monitor: OFFSET saturates (R164). -/
def measuredRef (now : Nat) (ppb : Int) (v : JunRef) : JunRef :=
  { v with offset := some (max (-131071) (min 131071 ppb)), resultAt := now + ms 100 }

/-- The change that FREQUENCY_RESULT brings: within ACCEPT a reference qualifies, beyond REJECT it is lost (R164, R165). -/
def judgeRef (r : Nat) (ppb : Int) (s : State) : State :=
  let measured := s.setJunRef r (measuredRef s.now ppb (s.junRef r))
  if ppb.natAbs ≤ s.junAccept * 100 then (if (s.junRef r).freqOk then measured else measured.junQualify r)
  else if ppb.natAbs > s.junReject * 100 then (if (s.junRef r).freqOk then measured.junDisqualify r true false else measured)
  else measured

theorem judgeRef_movesRefs (r : Nat) (ppb : Int) (s : State) : s.MovesRefs (judgeRef r ppb s) := by
  have hmeasured := setJunRef_movesRefs s r (measuredRef s.now ppb (s.junRef r))
  unfold judgeRef
  dsimp only
  split
  · split
    · exact hmeasured
    · exact hmeasured.trans (junQualify_movesRefs ..)
  · split
    · split
      · exact hmeasured.trans (junDisqualify_movesRefs ..)
      · exact hmeasured
    · exact hmeasured

theorem junRef_judgeRef_accepted {r : Nat} {ppb : Int} (hfreq : (s.junRef r).freqOk = false) (hever : (s.junRef r).ever = false)
    (h : ppb.natAbs ≤ s.junAccept * 100) :
    (judgeRef r ppb s).junRef r =
      { measuredRef s.now ppb (s.junRef r) with act := true, freqOk := true, ever := true, wtrUntil := none } := by
  rw [judgeRef, if_pos h, if_neg (by rw [hfreq]; decide),
    junRef_junQualify_first _ _ (by rw [junRef_setJunRef_same]; exact hever), junRef_setJunRef_same]

theorem junRef_judgeRef_rejected {r : Nat} {ppb : Int} (hfreq : (s.junRef r).freqOk = true) (hle : s.junAccept ≤ s.junReject)
    (h : s.junReject * 100 < ppb.natAbs) :
    (judgeRef r ppb s).junRef r = lostRef (measuredRef s.now ppb (s.junRef r)) true false := by
  rw [judgeRef, if_neg (by omega), if_pos h, if_pos hfreq, junRef_junDisqualify, if_pos rfl, junRef_setJunRef_same]

/-- A reference that no lane feeds is one of the two that lanes feed (R161). -/
theorem lt_two_of_not_junFed {r : Nat} (h : s.junFed r = false) : r < 2 := by
  simp only [junFed, Bool.or_eq_false_iff, decide_eq_false_iff_not] at h
  omega

theorem junRef_junStarve_of_starved {r : Nat} (hfed : s.junFed r = false) (hact : (s.junRef r).act = true)
    (hend : s.junEdgesEnd r ≤ s.now) : s.junStarve.junRef r = lostRef (s.junRef r) false false := by
  rw [s.junStarve_moves.2, if_pos (lt_two_of_not_junFed hfed), starvedRef, if_pos (by simp [hfed, hact, hend])]

/-- A wait to restore whose time has come ends with an evaluation, if it stood so long (R166). -/
theorem wtrUntil_junSettle {r x : Nat} (hloaded : s.junLoaded = true) (hr : r < 4) (h : (s.junRef r).wtrUntil = some x)
    (hx : x ≤ s.now) : ((s.junSettle id).junRef r).wtrUntil = none := by
  rw [junRef_junSettle (change := id) hloaded MovesRefs.refl hr, restoredRef, id]
  obtain hsame | hlost := s.junRef_junStarve_cases r
  · simp [hsame, h, hx]
  · simp [hlost, lostRef]

/-! ## The commands of the monitors, each by its effect -/

/-- The effect of REF_ACTIVITY_LOST. -/
def activityLost (r : Nat) (s : State) : State :=
  if s.junLoaded && (s.junRef r).act then
    (if s.junFed r then s else s.upTo (s.junEdgesEnd r)).junSettle (loseActivity r)
  else s

theorem activityLost_of_fed {r : Nat} (hloaded : s.junLoaded = true) (hact : (s.junRef r).act = true)
    (hfed : s.junFed r = true) : activityLost r s = s.junSettle (loseActivity r) := by
  simp [activityLost, hloaded, hact, hfed]

theorem activityLost_of_not_fed {r : Nat} (hloaded : s.junLoaded = true) (hact : (s.junRef r).act = true)
    (hfed : s.junFed r = false) : activityLost r s = (s.upTo (s.junEdgesEnd r)).junSettle (loseActivity r) := by
  simp [activityLost, hloaded, hact, hfed]

/-- Where every reference is fed and none waits, the loss of one is all that happens. -/
theorem junRef_junSettle_loseActivity_of_fed {r k : Nat} (hloaded : s.junLoaded = true) (hr : r < 4) (hk : k < 4)
    (hact : (s.junRef r).act = true) (hfed : ∀ k, k < 4 → s.junFed k = true) (hwtr : (s.junRef k).wtrUntil = none) :
    (s.junSettle (loseActivity r)).junRef k = if k = r then lostRef (s.junRef r) false false else s.junRef k := by
  have hstarve (k : Nat) (hk : k < 4) : s.junStarve.junRef k = s.junRef k := junRef_junStarve_of_fed (hfed k hk)
  have hchange : (loseActivity r s.junStarve).junRef k = if k = r then lostRef (s.junRef r) false false else s.junRef k := by
    rw [junRef_loseActivity_of_active (by rw [hstarve r hr]; exact hact), hstarve r hr, hstarve k hk]
  rw [junRef_junSettle_of_none hloaded (loseActivity_movesRefs r) hk ?_, hchange]
  rw [hchange]
  split
  · rfl
  · exact hwtr

/-- A reference that starves is lost before the change comes to it, which then finds nothing to do. -/
theorem junRef_junSettle_loseActivity_of_starved {r : Nat} (hloaded : s.junLoaded = true) (hact : (s.junRef r).act = true)
    (hfed : s.junFed r = false) (hend : s.junEdgesEnd r ≤ s.now) :
    (s.junSettle (loseActivity r)).junRef r = lostRef (s.junRef r) false false := by
  have hstarve := junRef_junStarve_of_starved hfed hact hend
  have hchange : loseActivity r s.junStarve = s.junStarve := loseActivity_of_inactive (by rw [hstarve]; rfl)
  have hr : r < 4 := (lt_two_of_not_junFed hfed).trans (by decide)
  rw [junRef_junSettle_of_none hloaded (loseActivity_movesRefs r) hr (by rw [hchange, hstarve]; rfl), hchange, hstarve]

theorem junRef_junSettle_gainActivity {r : Nat} (hloaded : s.junLoaded = true) (hr : r < 4) (hact : (s.junRef r).act = false)
    (hfed : s.junFed r = true) :
    (s.junSettle (gainActivity r)).junRef r = restoredRef s.now { s.junRef r with act := true, resultAt := s.now + secs 1 } := by
  have hmoves := s.junStarve_moves.1
  have hstarve := junRef_junStarve_of_inactive hact
  rw [junRef_junSettle hloaded (gainActivity_movesRefs r) hr, junRef_gainActivity
    ((junFed_congr hmoves.image hmoves.lanes r).trans hfed) (by rw [hstarve]; exact hact), hstarve, hmoves.now]

/-- The effect of FREQUENCY_RESULT. -/
def frequencyJudged (r : Nat) (ppb : Int) (s : State) : State :=
  if s.junLoaded && (s.junRef r).act && !s.jun.xoFail && s.junFed r then
    (s.upTo (s.junRef r).resultAt).junSettle (judgeRef r ppb)
  else s

theorem frequencyJudged_of_fed {r : Nat} {ppb : Int} (hloaded : s.junLoaded = true) (hxo : s.jun.xoFail = false)
    (hact : (s.junRef r).act = true) (hfed : s.junFed r = true) :
    frequencyJudged r ppb s = (s.upTo (s.junRef r).resultAt).junSettle (judgeRef r ppb) := by
  simp [frequencyJudged, hloaded, hxo, hact, hfed]

theorem junRef_junSettle_judgeRef_accepted {r : Nat} {ppb : Int} (hloaded : s.junLoaded = true) (hr : r < 4)
    (hfed : s.junFed r = true) (hfreq : (s.junRef r).freqOk = false) (hever : (s.junRef r).ever = false)
    (h : ppb.natAbs ≤ s.junAccept * 100) :
    (s.junSettle (judgeRef r ppb)).junRef r =
      { measuredRef s.now ppb (s.junRef r) with act := true, freqOk := true, ever := true, wtrUntil := none } := by
  have hmoves := s.junStarve_moves.1
  have hstarve := junRef_junStarve_of_fed hfed
  have hchange := junRef_judgeRef_accepted (s := s.junStarve) (r := r) (by rw [hstarve]; exact hfreq)
    (by rw [hstarve]; exact hever) (by rw [junAccept_congr hmoves.image]; exact h)
  rw [hstarve, hmoves.now] at hchange
  rw [junRef_junSettle_of_none hloaded (judgeRef_movesRefs r ppb) hr (by rw [hchange]), hchange]

theorem junRef_junSettle_judgeRef_rejected {r : Nat} {ppb : Int} (hloaded : s.junLoaded = true) (hr : r < 4)
    (hfed : s.junFed r = true) (hfreq : (s.junRef r).freqOk = true) (hle : s.junAccept ≤ s.junReject)
    (h : s.junReject * 100 < ppb.natAbs) :
    (s.junSettle (judgeRef r ppb)).junRef r = lostRef (measuredRef s.now ppb (s.junRef r)) true false := by
  have hmoves := s.junStarve_moves.1
  have hstarve := junRef_junStarve_of_fed hfed
  have hchange := junRef_judgeRef_rejected (s := s.junStarve) (r := r) (by rw [hstarve]; exact hfreq)
    (by rw [junAccept_congr hmoves.image, junReject_congr hmoves.image]; exact hle)
    (by rw [junReject_congr hmoves.image]; exact h)
  rw [hstarve, hmoves.now] at hchange
  rw [junRef_junSettle_of_none hloaded (judgeRef_movesRefs r ppb) hr (by rw [hchange]; rfl), hchange]

/-- The effect of WTR_EXPIRY. -/
def waitExpired (r : Nat) (s : State) : State :=
  match (s.junRef r).wtrUntil with
  | some x => (s.upTo x).junSettle id
  | none => s

theorem waitExpired_of_some {r x : Nat} (h : (s.junRef r).wtrUntil = some x) : waitExpired r s = (s.upTo x).junSettle id := by
  rw [waitExpired, h]

end State

section
variable {s : State} {ref : Fin 4}

/-- A command whose effect is one evaluation of Junction leaves the references as the evaluation does, and the time as it was
when that began. -/
theorem exec_settles {i : Instr} {ps : List Part} {f : State → State} {v : State} {change : State → State}
    (hexec : exec i s = act ps s f) (hjun : ps.contains .jun = true) (h : f s.clear = v.junSettle change)
    (hmoves : ∀ u, State.MovesRefs u (change u)) :
    ∃ t, exec i s = .next t ∧ (∀ k, t.junRef k = (v.junSettle change).junRef k) ∧
      (ps.contains .now = true → t.now = v.now) := by
  obtain ⟨t, ht, -, hsame⟩ := exec_reaches hexec h
  exact ⟨t, ht, fun k => State.junRef_congr (hsame .jun (by decide) hjun) k,
    fun hnow => (hsame .now (by decide) hnow).trans (State.junSettle_now hmoves)⟩

/-- REF_ACTIVITY_LOST of a reference that is fed disqualifies it alone (R163, R165). -/
theorem refActivityLost_fed (hloaded : s.junLoaded = true) (hact : (s.junRef ref).act = true)
    (hfed : ∀ k, k < 4 → s.junFed k = true) (hwtr : ∀ k, k < 4 → (s.junRef k).wtrUntil = none) :
    ∃ t, exec (.refActivityLost ref) s = .next t ∧ t.junRef ref = State.lostRef (s.junRef ref) false false ∧
      ∀ k, k < 4 → k ≠ ref.val → t.junRef k = s.junRef k := by
  obtain ⟨t, ht, href, -⟩ := exec_settles (i := .refActivityLost ref) (f := State.activityLost ref) rfl rfl
    (State.activityLost_of_fed hloaded hact (hfed ref ref.isLt)) (State.loseActivity_movesRefs ref)
  have hall (k : Nat) (hk : k < 4) :=
    (href k).trans (State.junRef_junSettle_loseActivity_of_fed hloaded ref.isLt hk hact hfed (hwtr k hk))
  exact ⟨t, ht, (hall ref ref.isLt).trans (if_pos rfl), fun k hk hne => (hall k hk).trans (if_neg hne)⟩

/-- REF_ACTIVITY_LOST of a reference whose lane has gated its clock off, 4 µs after the last edge (R161, R163). -/
theorem refActivityLost_starved (hloaded : s.junLoaded = true) (hact : (s.junRef ref).act = true)
    (hfed : s.junFed ref = false) :
    ∃ t, exec (.refActivityLost ref) s = .next t ∧ t.junRef ref = State.lostRef (s.junRef ref) false false ∧
      t.now = max s.now (s.junEdgesEnd ref) := by
  obtain ⟨t, ht, href, hnow⟩ := exec_settles (i := .refActivityLost ref) (f := State.activityLost ref) rfl rfl
    (State.activityLost_of_not_fed hloaded hact hfed) (State.loseActivity_movesRefs ref)
  have htime := State.upTo_now s.clear (s.clear.junEdgesEnd ref)
  have hlost := State.junRef_junSettle_loseActivity_of_starved (s := s.clear.upTo (s.clear.junEdgesEnd ref))
    ((State.upTo_junLoaded ..).trans hloaded) (by rw [State.upTo_junRef]; exact hact) ((State.upTo_junFed ..).trans hfed)
    (by rw [State.upTo_junEdgesEnd, htime]; exact le_max_right ..)
  rw [State.upTo_junRef] at hlost
  exact ⟨t, ht, (href ref).trans hlost, (hnow rfl).trans htime⟩

/-- REF_ACTIVITY_GOOD: the frequency status waits for a result, which comes a second later (R163, R164). -/
theorem refActivityGood_gains (hloaded : s.junLoaded = true) (hact : (s.junRef ref).act = false)
    (hfed : s.junFed ref = true) :
    ∃ t, exec (.refActivityGood ref) s = .next t ∧
      t.junRef ref = State.restoredRef s.now { s.junRef ref with act := true, resultAt := s.now + secs 1 } := by
  obtain ⟨t, ht, href, -⟩ := exec_settles (i := .refActivityGood ref) (v := s.clear) rfl rfl rfl
    (State.gainActivity_movesRefs ref)
  exact ⟨t, ht, (href ref).trans (State.junRef_junSettle_gainActivity hloaded ref.isLt hact hfed)⟩

/-- FREQUENCY_RESULT within ACCEPT qualifies a reference for the first time (R164 to R166). -/
theorem frequencyResult_accepts {ppb : Int} (hloaded : s.junLoaded = true) (hxo : s.jun.xoFail = false)
    (hact : (s.junRef ref).act = true) (hfed : s.junFed ref = true) (hfreq : (s.junRef ref).freqOk = false)
    (hever : (s.junRef ref).ever = false) (h : ppb.natAbs ≤ s.junAccept * 100) :
    ∃ t, exec (.frequencyResult ref ppb) s = .next t ∧
      t.junRef ref = { State.measuredRef (max s.now (s.junRef ref).resultAt) ppb (s.junRef ref) with
        act := true, freqOk := true, ever := true, wtrUntil := none } ∧
      t.now = max s.now (s.junRef ref).resultAt := by
  obtain ⟨t, ht, href, hnow⟩ := exec_settles (i := .frequencyResult ref ppb) (f := State.frequencyJudged ref ppb) rfl rfl
    (State.frequencyJudged_of_fed hloaded hxo hact hfed) (State.judgeRef_movesRefs ref ppb)
  have htime := State.upTo_now s.clear (s.clear.junRef ref).resultAt
  have hqualified := State.junRef_junSettle_judgeRef_accepted (s := s.clear.upTo (s.clear.junRef ref).resultAt)
    ((State.upTo_junLoaded ..).trans hloaded) ref.isLt
    ((State.upTo_junFed ..).trans hfed) (by rw [State.upTo_junRef]; exact hfreq) (by rw [State.upTo_junRef]; exact hever)
    (by rw [State.upTo_junAccept]; exact h)
  rw [State.upTo_junRef, htime] at hqualified
  exact ⟨t, ht, (href ref).trans hqualified, (hnow rfl).trans htime⟩

/-- FREQUENCY_RESULT beyond REJECT disqualifies a reference (R164, R165). -/
theorem frequencyResult_rejects {ppb : Int} (hloaded : s.junLoaded = true) (hxo : s.jun.xoFail = false)
    (hact : (s.junRef ref).act = true) (hfed : s.junFed ref = true) (hfreq : (s.junRef ref).freqOk = true)
    (hle : s.junAccept ≤ s.junReject) (h : s.junReject * 100 < ppb.natAbs) :
    ∃ t, exec (.frequencyResult ref ppb) s = .next t ∧
      t.junRef ref =
        State.lostRef (State.measuredRef (max s.now (s.junRef ref).resultAt) ppb (s.junRef ref)) true false := by
  obtain ⟨t, ht, href, -⟩ := exec_settles (i := .frequencyResult ref ppb) (f := State.frequencyJudged ref ppb) rfl rfl
    (State.frequencyJudged_of_fed hloaded hxo hact hfed) (State.judgeRef_movesRefs ref ppb)
  have hlost := State.junRef_junSettle_judgeRef_rejected (s := s.clear.upTo (s.clear.junRef ref).resultAt)
    ((State.upTo_junLoaded ..).trans hloaded) ref.isLt
    ((State.upTo_junFed ..).trans hfed) (by rw [State.upTo_junRef]; exact hfreq)
    (by rw [State.upTo_junAccept, State.upTo_junReject]; exact hle)
    (by rw [State.upTo_junReject]; exact h)
  rw [State.upTo_junRef, State.upTo_now] at hlost
  exact ⟨t, ht, (href ref).trans hlost⟩

/-- WTR_EXPIRY (R166). -/
theorem wtrExpiry_ends {x : Nat} (hloaded : s.junLoaded = true) (h : (s.junRef ref).wtrUntil = some x) :
    ∃ t, exec (.wtrExpiry ref) s = .next t ∧ (t.junRef ref).wtrUntil = none ∧ t.now = max s.now x := by
  obtain ⟨t, ht, href, hnow⟩ := exec_settles (i := .wtrExpiry ref) (f := State.waitExpired ref) rfl rfl
    (State.waitExpired_of_some h) State.MovesRefs.refl
  have htime := State.upTo_now s.clear x
  have hended := State.wtrUntil_junSettle (s := s.clear.upTo x) ((State.upTo_junLoaded ..).trans hloaded) ref.isLt
    (by rw [State.upTo_junRef]; exact h) (by rw [htime]; exact le_max_right ..)
  exact ⟨t, ht, (congrArg JunRef.wtrUntil (href ref)).trans hended, (hnow rfl).trans htime⟩

end

/-- Settles O5, one lemma for each thing that a monitor reports. That OFFSET saturates is the model's choice
(notes/assumptions/31). -/
theorem junctionReferencesComplete : Obligations.JunctionReferencesComplete := by
  refine ⟨fun ref s hloaded hact hfed hwtr => refActivityLost_fed hloaded hact hfed hwtr, fun ref s hloaded hact hfed => ?_,
    fun ref s hloaded hact hfed => ?_, fun ref ppb s hloaded hxo hact hfed hfreq hever h => ?_,
    fun ref ppb s hloaded hxo hact hfed hfreq hle h => ?_, fun ref x s hloaded h => wtrExpiry_ends hloaded h⟩
  · obtain ⟨t, ht, href, hnow⟩ := refActivityLost_starved hloaded hact hfed
    rw [← hnow]
    exact ⟨t, ht, by rw [href]; rfl, by rw [href]; rfl, rfl⟩
  · obtain ⟨t, ht, href⟩ := refActivityGood_gains hloaded hact hfed
    exact ⟨t, ht, by rw [href]; rfl, by rw [href]; rfl, by rw [href]; rfl⟩
  · obtain ⟨t, ht, href, hnow⟩ := frequencyResult_accepts hloaded hxo hact hfed hfreq hever h
    exact ⟨t, ht, by rw [href]; rfl, by rw [href], by rw [href], by rw [href]; rfl, hnow⟩
  · obtain ⟨t, ht, href⟩ := frequencyResult_rejects hloaded hxo hact hfed hfreq hle h
    have hqual : (s.junRef ref).qual = true := by rw [JunRef.qual, hact, hfreq]; rfl
    exact ⟨t, ht, by rw [href]; rfl, by rw [href]; rfl, by rw [href]; rfl, by rw [href]; exact if_pos hqual⟩

end Sys2Proof.Machine

namespace Sys2Proof.Machine

namespace State

variable {s t u : State}

/-! ## An evaluation that finds nothing to do (R167, R181) -/

theorem junStarve_eq_self (h : ∀ r, r < 2 → (s.junRef r).act = true → s.junFed r = true) : s.junStarve = s := by
  refine List.foldlRecOn (List.range 2) _ (motive := (· = s)) rfl fun u hu r hr => ?_
  subst hu
  refine if_neg fun hstarved => ?_
  simp only [Bool.and_eq_true, Bool.not_eq_true'] at hstarved
  obtain ⟨⟨hact, hfed⟩, -⟩ := hstarved
  exact absurd (h r (List.mem_range.mp hr) hact) (ne_true_of_eq_false hfed)

theorem junWaits_eq_self (h : ∀ r, r < 4 → (s.junRef r).wtrUntil = none) : s.junWaits = s := by
  refine List.foldlRecOn (List.range 4) _ (motive := (· = s)) rfl fun u hu r hr => ?_
  subst hu
  rw [h r (List.mem_range.mp hr)]

theorem junEvaluate_eq_self (hrevert : s.junRevert = false) (hselected : s.jun.selected ≠ 0)
    (havailable : s.junAvailable (s.jun.selected - 1) = true) : s.junEvaluate = s := by
  have hcur : ¬ (decide (s.jun.selected = 0) || !s.junAvailable (s.jun.selected - 1)) = true := by
    simp [hselected, havailable]
  unfold junEvaluate
  dsimp only
  rw [if_neg hcur, hrevert]
  split
  · split
    · rfl
    · rfl
  · rfl

/-- Where the selected reference stands, an evaluation changes nothing. -/
theorem junSettle_of_junStands (h : s.junStands = true) : s.junSettle id = s := by
  simp only [junStands, Bool.and_eq_true, List.all_eq_true, List.mem_range, Bool.or_eq_true, Bool.not_eq_true',
    Option.isNone_iff_eq_none, decide_eq_true_eq] at h
  obtain ⟨⟨⟨⟨hfed, hwtr⟩, hrevert⟩, hselected⟩, havailable⟩ := h
  have hstarve : s.junStarve = s :=
    junStarve_eq_self fun r hr hact => (hfed r hr).resolve_left (ne_false_of_eq_true hact)
  rw [junSettle, id, hstarve, junWaits_eq_self hwtr, junEvaluate_eq_self hrevert hselected havailable, ite_self]

/-! ## The loop is told (R170, R172) -/

/-- While the loop is told, Junction changes in what its samples say and in nothing else. -/
structure Tracks (s t : State) : Prop where
  image : t.image = s.image
  jun : t.jun = { s.jun with
    phaseErr := t.jun.phaseErr, outFreq := t.jun.outFreq, told := t.jun.told, quiet := t.jun.quiet, ys := t.jun.ys }

namespace Tracks

theorem refl (s : State) : s.Tracks s := ⟨rfl, rfl⟩

theorem trans (h : s.Tracks t) (h' : t.Tracks u) : s.Tracks u := ⟨h'.image.trans h.image, by rw [h'.jun, h.jun]⟩

theorem of_jun {p y : Int} {x n : Nat} {l : List Int} (himage : t.image = s.image)
    (hjun : t.jun = { s.jun with phaseErr := p, outFreq := y, told := x, quiet := n, ys := l }) : s.Tracks t :=
  ⟨himage, by rw [hjun]⟩

theorem state (h : s.Tracks t) : t.jun.state = s.jun.state := by rw [h.jun]
theorem selected (h : s.Tracks t) : t.jun.selected = s.jun.selected := by rw [h.jun]
theorem bwStage (h : s.Tracks t) : t.jun.bwStage = s.jun.bwStage := by rw [h.jun]
theorem gen (h : s.Tracks t) : t.jun.gen = s.jun.gen := by rw [h.jun]
theorem hist (h : s.Tracks t) : t.jun.hist = s.jun.hist := by rw [h.jun]
theorem holdFreq (h : s.Tracks t) : t.jun.holdFreq = s.jun.holdFreq := by rw [h.jun]

end Tracks

/-- The phase error below which a sample counts for the stage that runs, in units of 0.1 ns (R170). -/
def quietBelow (s : State) : Nat := if s.jun.bwStage = 4 then 500 else 1000

theorem junTick_jun (s : State) (m : LoopSample) :
    (s.junTick m).jun = { s.jun with
      phaseErr := detector m.phaseErr, outFreq := clampY m.y, told := s.jun.told + ms 100
      quiet := if (detector m.phaseErr).natAbs < s.quietBelow then s.jun.quiet + 1 else 0
      ys := if s.jun.state = .locked then (clampY m.y :: s.jun.ys).take 600 else [] } := by
  unfold junTick
  dsimp only
  rw [upTo_jun]
  rfl

theorem setJun_image (s : State) (j : JunctionUnit) : ({ s with jun := j } : State).image = s.image := rfl

theorem junTick_image (s : State) (m : LoopSample) : (s.junTick m).image = s.image :=
  (setJun_image (s.upTo (s.jun.told + ms 100)) _).trans (upTo_image ..)

theorem junTick_tracks (s : State) (m : LoopSample) : s.Tracks (s.junTick m) :=
  .of_jun (junTick_image s m) (junTick_jun s m)

theorem detector_natAbs_le (p : Int) : (detector p).natAbs ≤ p.natAbs := by
  unfold detector
  omega

theorem clampY_of_le {y : Int} (h : y.natAbs ≤ 60000000) : clampY y = y := by
  unfold clampY
  omega

theorem junTick_quiet {m : LoopSample} (h : m.phaseErr.natAbs < s.quietBelow) : (s.junTick m).jun.quiet = s.jun.quiet + 1 := by
  rw [junTick_jun]
  exact if_pos ((detector_natAbs_le _).trans_lt h)

/-- Junction in the next bandwidth stage: the tracking bandwidth is the 10 Hz stage itself when the image selects 10 Hz (R170). -/
def stageSettled (s : State) : State :=
  { s with jun := { s.jun with
    bwStage := if s.jun.bwStage = 2 && s.junTrackBw = 3 then 4 else s.jun.bwStage + 1, quiet := 0 } }

/-- Junction in LOCKED, from the time up to which the loop has been told (R170). -/
def lockedIn (s : State) : State :=
  let e := s.junEnter .locked s.jun.selected 4
  ({ e with jun := { e.jun with since := s.jun.told, told := s.jun.told } } : State).emitDev 0o030002

/-- A loop that stays below the limit of its stage for long enough settles. -/
theorem junRun_settles {need : Nat} {loop : List LoopSample} (hne : loop ≠ []) (hneed : need ≤ s.jun.quiet + loop.length)
    (hquiet : ∀ m ∈ loop, m.phaseErr.natAbs < s.quietBelow) : ∃ u, s.junRun need loop = (true, u) ∧ s.Tracks u := by
  induction loop generalizing s with
  | nil => exact absurd rfl hne
  | cons m loop ih =>
    have hm := junTick_quiet (hquiet m List.mem_cons_self)
    have htracks := junTick_tracks s m
    rw [junRun]
    split
    · exact ⟨_, rfl, htracks⟩
    · next hmore =>
      rw [List.length_cons] at hneed
      have hlimit : (s.junTick m).quietBelow = s.quietBelow := by rw [quietBelow, quietBelow, htracks.bwStage]
      obtain ⟨u, hu, hu'⟩ := ih (s := s.junTick m) (by rintro rfl; simp at hneed; omega) (by omega)
        fun n hn => hlimit ▸ hquiet n (List.mem_cons_of_mem m hn)
      exact ⟨u, hu, htracks.trans hu'⟩

theorem foldl_junTick_tracks (loop : List LoopSample) (s : State) : s.Tracks (loop.foldl junTick s) :=
  List.foldlRecOn loop junTick (motive := s.Tracks) (.refl s) fun u hu m _ => hu.trans (junTick_tracks u m)

theorem take_append_take {α : Type} (n : Nat) (l m : List α) : (l ++ m.take n).take n = (l ++ m).take n := by
  rw [List.take_append, List.take_append, List.take_take, min_eq_left (Nat.sub_le ..)]

/-- In LOCKED the last 600 values of y are kept, the newest first (R172). -/
theorem foldl_junTick_ys {loop : List LoopSample} (hne : loop ≠ []) (hlocked : s.jun.state = .locked) :
    (loop.foldl junTick s).jun.ys = ((loop.map (fun m => clampY m.y)).reverse ++ s.jun.ys).take 600 := by
  have htick (m : LoopSample) : (s.junTick m).jun.ys = (clampY m.y :: s.jun.ys).take 600 := by
    rw [junTick_jun]
    exact if_pos hlocked
  induction loop generalizing s with
  | nil => exact absurd rfl hne
  | cons m loop ih =>
    by_cases hloop : loop = []
    · rw [hloop]
      exact htick m
    · have hlocked' := (junTick_tracks s m).state.trans hlocked
      rw [List.foldl_cons, ih hloop hlocked' fun n => by rw [junTick_jun]; exact if_pos hlocked', htick]
      rw [take_append_take, List.map_cons, List.reverse_cons, List.append_assoc, List.singleton_append]

theorem foldl_junTick_outFreq {loop : List LoopSample} (hne : loop ≠ []) (s : State) :
    (loop.foldl junTick s).jun.outFreq = clampY (loop.getLast hne).y := by
  conv_lhs => rw [← List.dropLast_append_getLast hne]
  rw [List.foldl_append, List.foldl_cons, List.foldl_nil, junTick_jun]

/-- Junction with a holdover value (R172). -/
def heldFreq (s : State) (y : Int) : State := { s with jun := { s.jun with holdFreq := y, hist := true } }

theorem meanOf_replicate {n : Nat} (hn : n ≠ 0) (y : Int) (s : State) : s.meanOf (List.replicate n y) = (y, s) := by
  have hsum : (List.replicate n y).foldl (fun a b => a + b) 0 = n * y := by
    rw [← List.sum_eq_foldl, List.sum_replicate, nsmul_eq_mul]
  have hn' : (n : Int) ≠ 0 := Nat.cast_ne_zero.mpr hn
  simp only [meanOf, hsum, List.length_replicate, Int.mul_emod_right, if_true, Int.mul_ediv_cancel_left _ hn']

/-! ## No reference to select (R167, R173) -/

theorem junBest_eq_none (h : ∀ k, k < 4 → s.junAvailable k = false) : s.junBest = none := by
  refine List.foldlRecOn (List.range 4) _ (motive := (· = none)) rfl fun b hb k hk => ?_
  rw [if_neg (ne_true_of_eq_false (h k (List.mem_range.mp hk))), hb]

/-- HOLDOVER goes on where an evaluation finds no reference. -/
theorem junEvaluate_of_holdover (hstate : s.jun.state = .holdover) (hbest : s.junBest = none) : s.junEvaluate = s := by
  have hnone : s.junNone = s := by rw [junNone, hstate]
  simp [junEvaluate, hbest, hnone]

theorem upTo_junAvailable (s : State) (x k : Nat) : (s.upTo x).junAvailable k = s.junAvailable k := by
  rw [junAvailable, junAvailable, upTo_junRef, junPrio_congr (upTo_image s x)]

/-- A reference that starves is not available, nor does one become so by it. -/
theorem junStarve_junAvailable {k : Nat} (h : s.junAvailable k = false) : s.junStarve.junAvailable k = false := by
  rw [junAvailable, junPrio_congr s.junStarve_moves.1.image]
  obtain hsame | hlost := s.junRef_junStarve_cases k
  · rwa [hsame]
  · rw [hlost]
    rfl

theorem junStarve_wtrUntil {k : Nat} (h : (s.junRef k).wtrUntil = none) : (s.junStarve.junRef k).wtrUntil = none := by
  obtain hsame | hlost := s.junRef_junStarve_cases k
  · rwa [hsame]
  · rw [hlost]
    rfl

/-- In HOLDOVER with no reference to wait for, an evaluation moves the references at most. -/
theorem junSettle_of_holdover (hstate : s.jun.state = .holdover)
    (h : ∀ k, k < 4 → s.junAvailable k = false ∧ (s.junRef k).wtrUntil = none) : s.MovesRefs (s.junSettle id) := by
  have hmoves := s.junStarve_moves.1
  have hwaits : s.junStarve.junWaits = s.junStarve := junWaits_eq_self fun k hk => junStarve_wtrUntil (h k hk).2
  have hevaluate : s.junStarve.junEvaluate = s.junStarve :=
    junEvaluate_of_holdover (by rw [hmoves.jun]; exact hstate)
      (junBest_eq_none fun k hk => junStarve_junAvailable (h k hk).1)
  rw [junSettle, id, hwaits, hevaluate]
  split
  · exact hmoves
  · exact .refl s

theorem junEnter_now (s : State) (st : JunState) (sel stage : Nat) : (s.junEnter st sel stage).now = s.now := rfl
theorem junEnter_jun (s : State) (st : JunState) (sel stage : Nat) : (s.junEnter st sel stage).jun = { s.jun with
    state := st, selected := sel, bwStage := stage, gen := (s.jun.gen + 1) % 32, since := s.now,
    told := s.now, quiet := 0, ys := [], phaseErr := if sel = 0 then 0 else s.jun.phaseErr } := rfl

theorem clear_junHoldLimit (s : State) : s.clear.junHoldLimit = s.junHoldLimit := rfl

/-- The evaluation at the end of the time for which HOLDOVER may last (R173, R181). -/
def holdEnded (s : State) : State := (s.upTo (s.jun.since + secs (60 * s.junHoldLimit))).junSettle id

theorem holdEnded_now (s : State) : s.holdEnded.now = max s.now (s.jun.since + secs (60 * s.junHoldLimit)) := by
  rw [holdEnded, junSettle_now (change := id) MovesRefs.refl, upTo_now]

theorem holdEnded_jun (hstate : s.jun.state = .holdover)
    (h : ∀ k, k < 4 → s.junAvailable k = false ∧ (s.junRef k).wtrUntil = none) :
    s.holdEnded.jun = { s.jun with refs := s.holdEnded.jun.refs } := by
  have hmoves : (s.upTo (s.jun.since + secs (60 * s.junHoldLimit))).MovesRefs s.holdEnded :=
    junSettle_of_holdover (by rw [upTo_jun]; exact hstate)
      fun k hk => by rw [upTo_junAvailable, upTo_junRef]; exact h k hk
  exact hmoves.jun_of (upTo_jun ..)

/-! ## A failure of the crystal oscillator (R175) -/

/-- The failure as it latches. -/
def xoLatched (s : State) : State :=
  ({ s with pins := { s.pins with xoRuns := false }, jun := { s.jun with xoFail := true } } : State).emitDev 0o033007

/-- Every reference is disqualified, and keeps its activity. -/
def disqualifyAll (s : State) : State :=
  (List.range 4).foldl (fun s r => s.junDisqualify r (s.junRef r).act false) s

theorem disqualifyAll_moves (s : State) :
    s.MovesRefs s.disqualifyAll ∧
      ∀ k, s.disqualifyAll.junRef k = if k < 4 then lostRef (s.junRef k) (s.junRef k).act false else s.junRef k :=
  foldl_range_movesRefs (g := fun _ v => lostRef v v.act false) (fun _ _ => junDisqualify_movesRefs ..)
    (fun _ _ _ _ => junRef_junDisqualify ..) 4

/-- An evaluation by itself makes no frequency status good. -/
theorem junSettle_freqOk {k : Nat} (hk : k < 4) (h : (s.junRef k).freqOk = false) :
    ((s.junSettle id).junRef k).freqOk = false := by
  by_cases hloaded : s.junLoaded = true
  · rw [junRef_junSettle (change := id) hloaded MovesRefs.refl hk, restoredRef, id]
    obtain hsame | hlost := s.junRef_junStarve_cases k
    · rwa [hsame]
    · rw [hlost]
      rfl
  · rwa [junSettle, if_neg hloaded]

end State

section
variable {s : State} {loop : List LoopSample}

theorem exec_reaches_jun {i : Instr} {ps : List Part} {f : State → State} {u : State} (hexec : exec i s = act ps s f)
    (hjun : ps.contains .jun = true) (h : f s.clear = u) : ∃ t, exec i s = .next t ∧ t.jun = u.jun := by
  obtain ⟨t, ht, -, hsame⟩ := exec_reaches hexec h
  exact ⟨t, ht, hsame .jun (by decide) hjun⟩

/-- BW_STAGE_SETTLED: a stage that 2 s have found below 100 ns gives the next (R170). -/
theorem bwStageSettled_advances (hstands : s.junStands = true) (hstate : s.jun.state = .acquiring) (hstage : s.jun.bwStage < 4)
    (hlen : 20 ≤ loop.length) (hquiet : ∀ m ∈ loop, m.phaseErr.natAbs < 1000) :
    ∃ t, exec (.bwStageSettled loop) s = .next t ∧ t.jun.state = .acquiring ∧ t.jun.selected = s.jun.selected ∧
      t.jun.bwStage = (if s.jun.bwStage = 2 ∧ s.junTrackBw = 3 then 4 else s.jun.bwStage + 1) ∧ t.jun.quiet = 0 := by
  have hsettle : s.clear.junSettle id = s.clear := State.junSettle_of_junStands hstands
  have hlimit : s.clear.quietBelow = 1000 := if_neg hstage.ne
  obtain ⟨v, hrun, htracks⟩ := State.junRun_settles (s := s.clear) (need := 20) (loop := loop)
    (List.ne_nil_of_length_pos (by omega)) (by omega) (by rwa [hlimit])
  have hcond : (decide (s.clear.jun.state = .acquiring) && decide (s.clear.jun.bwStage < 4)) = true := by
    simp [hstate, hstage]
  obtain ⟨t, ht, hjun⟩ := exec_reaches_jun (s := s) (i := .bwStageSettled loop)
    (u := v.stageSettled) rfl rfl (by dsimp only; rw [hsettle, if_pos hcond, hrun, State.stageSettled])
  refine ⟨t, ht, ?_, ?_, ?_, ?_⟩
  · rw [hjun]
    exact htracks.state.trans hstate
  · rw [hjun]
    exact htracks.selected
  · rw [hjun, State.stageSettled, htracks.bwStage, State.junTrackBw_congr htracks.image]
    simp only [Bool.and_eq_true, decide_eq_true_eq]
    rfl
  · rw [hjun, State.stageSettled]

/-- LOCKED_REACHED: at the last stage, once 10 s have been below 50 ns (R170). -/
theorem lockedReached_locks (hstands : s.junStands = true) (hstate : s.jun.state = .acquiring) (hstage : s.jun.bwStage = 4)
    (hlen : 100 ≤ loop.length) (hquiet : ∀ m ∈ loop, m.phaseErr.natAbs < 500) :
    ∃ t, exec (.lockedReached loop) s = .next t ∧ t.jun.state = .locked ∧ t.jun.selected = s.jun.selected ∧
      t.jun.gen = (s.jun.gen + 1) % 32 := by
  have hsettle : s.clear.junSettle id = s.clear := State.junSettle_of_junStands hstands
  have hlimit : s.clear.quietBelow = 500 := if_pos hstage
  obtain ⟨v, hrun, htracks⟩ := State.junRun_settles (s := s.clear) (need := 100) (loop := loop)
    (List.ne_nil_of_length_pos (by omega)) (by omega) (by rwa [hlimit])
  have hcond : (decide (s.clear.jun.state = .acquiring) && decide (s.clear.jun.bwStage = 4)) = true := by
    simp [hstate, hstage]
  obtain ⟨t, ht, hjun⟩ := exec_reaches_jun (s := s) (i := .lockedReached loop)
    (u := v.lockedIn) rfl rfl (by dsimp only; rw [hsettle, if_pos hcond, hrun, State.lockedIn])
  refine ⟨t, ht, ?_, ?_, ?_⟩
  · rw [hjun]
    rfl
  · rw [hjun]
    exact htracks.selected
  · rw [hjun, ← State.clear_jun s, ← htracks.gen]
    rfl

/-- HOLD_FREQ_UPDATE after 60 s of one y: it is the holdover value (R172). -/
theorem holdFreqUpdate_holds {y : Int} (hstands : s.junStands = true) (hstate : s.jun.state = .locked)
    (hy : y.natAbs ≤ 60000000) (hlen : 600 ≤ loop.length) (hall : ∀ m ∈ loop, m.y = y) :
    ∃ t, exec (.holdFreqUpdate loop) s = .next t ∧ t.jun.state = .locked ∧ t.jun.holdFreq = y ∧ t.jun.hist = true ∧
      t.jun.outFreq = y := by
  have hlocked : s.clear.jun.state = .locked := hstate
  have hsettle : s.clear.junSettle id = s.clear := State.junSettle_of_junStands hstands
  have hne : loop ≠ [] := List.ne_nil_of_length_pos (by omega)
  have hys : (loop.foldl State.junTick s.clear).jun.ys = List.replicate 600 y := by
    have hmap : loop.map (fun m => State.clampY m.y) = List.replicate loop.length y :=
      List.eq_replicate_iff.mpr ⟨List.length_map .., by
        simp only [List.mem_map]
        rintro _ ⟨m, hm, rfl⟩
        rw [hall m hm, State.clampY_of_le hy]⟩
    rw [State.foldl_junTick_ys hne hlocked, hmap, List.reverse_replicate,
      List.take_append_of_le_length (by rwa [List.length_replicate]), List.take_replicate, min_eq_left hlen]
  have hout : (loop.foldl State.junTick s.clear).jun.outFreq = y := by
    rw [State.foldl_junTick_outFreq hne, hall _ (List.getLast_mem hne), State.clampY_of_le hy]
  have hmean := State.meanOf_replicate (n := 590) (by decide) y (loop.foldl State.junTick s.clear)
  obtain ⟨t, ht, hjun⟩ := exec_reaches_jun (s := s) (i := .holdFreqUpdate loop)
    (u := (loop.foldl State.junTick s.clear).heldFreq y) rfl rfl
    (by
      dsimp only
      rw [hsettle, if_pos hlocked, hys, List.length_replicate, if_pos rfl, List.drop_replicate, hmean, State.heldFreq])
  refine ⟨t, ht, ?_, ?_, ?_, ?_⟩
  · rw [hjun]
    exact (State.foldl_junTick_tracks loop s.clear).state.trans hstate
  · rw [hjun, State.heldFreq]
  · rw [hjun, State.heldFreq]
  · rw [hjun]
    exact hout

/-- HOLD_FREQ_UPDATE before 60 s of the stint have passed (R172). -/
theorem holdFreqUpdate_keeps (hstands : s.junStands = true) (hstate : s.jun.state = .locked)
    (hlen : s.jun.ys.length + loop.length < 600) :
    ∃ t, exec (.holdFreqUpdate loop) s = .next t ∧ t.jun.state = .locked ∧ t.jun.holdFreq = s.jun.holdFreq ∧
      t.jun.hist = s.jun.hist := by
  have hlocked : s.clear.jun.state = .locked := hstate
  have hsettle : s.clear.junSettle id = s.clear := State.junSettle_of_junStands hstands
  have htracks := State.foldl_junTick_tracks loop s.clear
  have hys : (loop.foldl State.junTick s.clear).jun.ys.length ≠ 600 := by
    by_cases hne : loop = []
    · subst hne
      exact ((Nat.le_add_right ..).trans_lt hlen).ne
    · rw [State.foldl_junTick_ys hne hlocked, List.length_take, List.length_append, List.length_reverse, List.length_map,
        State.clear_jun]
      omega
  obtain ⟨t, ht, hjun⟩ := exec_reaches_jun (s := s) (i := .holdFreqUpdate loop)
    (u := loop.foldl State.junTick s.clear) rfl rfl (by dsimp only; rw [hsettle, if_pos hlocked, if_neg hys])
  exact ⟨t, ht, by rw [hjun]; exact htracks.state.trans hstate, by rw [hjun]; exact htracks.holdFreq,
    by rw [hjun]; exact htracks.hist⟩

/-- HOLD_LIMIT_REACHED with no reference to select: LOST, and the output goes on (R173). -/
theorem holdLimitReached_loses (hstate : s.jun.state = .holdover)
    (h : ∀ k, k < 4 → s.junAvailable k = false ∧ (s.junRef k).wtrUntil = none) :
    ∃ t, exec .holdLimitReached s = .next t ∧ t.jun.state = .lost ∧ t.jun.selected = 0 ∧ t.jun.outFreq = s.jun.outFreq ∧
      t.jun.gen = (s.jun.gen + 1) % 32 ∧ t.now = max s.now (s.jun.since + secs (60 * s.junHoldLimit)) := by
  have hended := State.holdEnded_jun (s := s.clear) hstate h
  obtain ⟨t, ht, -, hsame⟩ := exec_reaches (s := s) (i := .holdLimitReached)
    (u := (s.clear.holdEnded.junEnter .lost 0 0).emitDev 0o033006) rfl
    ((if_pos hstate).trans (if_pos ((congrArg JunctionUnit.state hended).trans hstate)))
  have hjun := (hsame .jun (by decide) rfl).trans (State.emitDev_jun ..)
  rw [State.junEnter_jun, hended] at hjun
  have hnow := (hsame .now (by decide) rfl).trans (State.emitDev_now ..)
  refine ⟨t, ht, by rw [hjun], by rw [hjun], by rw [hjun]; rfl, by rw [hjun]; rfl, ?_⟩
  rw [hnow, State.junEnter_now, State.holdEnded_now, State.clear_now, State.clear_jun, State.clear_junHoldLimit]

/-- XO_FAILURE once the APLL runs: it latches, and every reference is disqualified (R175). -/
theorem xoFailure_latches (hxo : s.jun.xoFail = false) (hbegun : s.start.begun = true) (hphase : 2 ≤ s.start.phase) :
    ∃ t, exec .xoFailure s = .next t ∧ t.jun.xoFail = true ∧ t.pins.xoRuns = false ∧
      ∀ k, k < 4 → (t.junRef k).freqOk = false := by
  obtain ⟨hmoves, hrefs⟩ := s.clear.xoLatched.disqualifyAll_moves
  obtain ⟨-, hpins, hfail⟩ := State.junSettle_keeps (s := s.clear.xoLatched.disqualifyAll) (change := id) State.MovesRefs.refl
  have hcond : ¬ (s.jun.xoFail || !s.start.begun || decide (s.start.phase < 2)) = true := by
    simp only [hxo, hbegun, Bool.not_true, Bool.or_self, Bool.false_or, decide_eq_true_eq]
    omega
  obtain ⟨t, ht, -, hsame⟩ := exec_reaches (s := s) (i := .xoFailure)
    (u := s.clear.xoLatched.disqualifyAll.junSettle id) rfl (if_neg hcond)
  have hjun := hsame .jun (by decide) rfl
  refine ⟨t, ht, ?_, ?_, fun k hk => ?_⟩
  · rw [hjun, hfail, hmoves.xoFail, State.xoLatched, State.emitDev_jun]
  · rw [hsame .pins (by decide) rfl, hpins, hmoves.pins, State.xoLatched, State.emitDev_pins]
  · rw [State.junRef_congr hjun]
    exact State.junSettle_freqOk hk (by rw [hrefs, if_pos hk]; rfl)

end

/-- Settles O6, one lemma for each of the states and what leads from it. That the loop is told in samples of 0.1 s is the model's
choice (notes/assumptions/31). -/
theorem junctionStatesComplete : Obligations.JunctionStatesComplete :=
  ⟨fun _ _ hstands hstate hstage hlen hquiet => bwStageSettled_advances hstands hstate hstage hlen hquiet,
    fun _ _ hstands hstate hstage hlen hquiet => lockedReached_locks hstands hstate hstage hlen hquiet,
    fun _ _ _ hstands hstate hy hlen hall => holdFreqUpdate_holds hstands hstate hy hlen hall,
    fun _ _ hstands hstate hlen => holdFreqUpdate_keeps hstands hstate hlen,
    fun _ hstate h => holdLimitReached_loses hstate h,
    fun _ hxo hbegun hphase => xoFailure_latches hxo hbegun hphase⟩

end Sys2Proof.Machine

namespace Sys2Proof.Machine

/-- What of a lane its losses, its returns and its received frames decide. The flow control it sends, the frames refused or cut
short on it, and what its transmitter holds go their own way. -/
def Lane.standing (v : Lane) : Lane :=
  { v with pauseTx := false, pfcTx := 0, sentAt := [], ldRefused := 0, txAbort := 0, lineTx := {} }

/-- Lanes that stand alike agree on all else: a part that no traffic changes reads the same of both. -/
theorem Lane.congr_standing {α : Type} (part : Lane → α) (hpart : ∀ v : Lane, part v.standing = part v) {v w : Lane}
    (h : w.standing = v.standing) : part w = part v := by
  rw [← hpart w, h, hpart v]

namespace State

/-! ## What traffic leaves alone of the lanes (R190 to R205) -/

/-- Between two states frames may have been admitted, refused or cut short, and groups may have lost or begun a handshake: every
lane stands, and so do the clock, the image and the Link Cipher. -/
structure LanesStand (s t : State) : Prop where
  standing : ∀ n, (t.lane n).standing = (s.lane n).standing
  now : t.now = s.now
  image : t.image = s.image
  link : t.link = s.link

namespace LanesStand

variable {s t u : State}

theorem refl (s : State) : LanesStand s s := ⟨fun _ => rfl, rfl, rfl, rfl⟩

theorem trans (h : LanesStand s t) (h' : LanesStand t u) : LanesStand s u :=
  ⟨fun n => (h'.standing n).trans (h.standing n), h'.now.trans h.now, h'.image.trans h.image, h'.link.trans h.link⟩

theorem foldl {α : Type} {f : State → α → State} (hf : ∀ s x, LanesStand s (f s x)) (l : List α) (s : State) :
    LanesStand s (l.foldl f s) :=
  List.foldlRecOn l f (motive := LanesStand s) (refl s) (fun _ h x _ => h.trans (hf _ x))

/-- A step that is taken under a condition. -/
theorem ite {c : Prop} [Decidable c] (ht : LanesStand s t) (hu : LanesStand s u) : LanesStand s (if c then t else u) := by
  split
  · exact ht
  · exact hu

theorem of_lanes (hlanes : t.lanes = s.lanes) (hnow : t.now = s.now) (himage : t.image = s.image) (hlink : t.link = s.link) :
    LanesStand s t := ⟨fun n => by rw [lane_congr hlanes], hnow, himage, hlink⟩

theorem of_manages (h : Manages False s t) : LanesStand s t :=
  .of_lanes (by rw [h.eq]) h.now (h.image not_false) h.link

theorem cfg (h : LanesStand s t) (type inst i : Nat) : t.cfg type inst i = s.cfg type inst i := by
  rw [State.cfg, State.cfg, inForce?, inForce?, h.image]

/-- A part of a lane that no traffic changes reads as before. -/
theorem part {α : Type} (h : LanesStand s t) (part : Lane → α) (hpart : ∀ v : Lane, part v.standing = part v) (n : Nat) :
    part (t.lane n) = part (s.lane n) := Lane.congr_standing part hpart (h.standing n)

end LanesStand

section
variable (s : State)

theorem setLane_lanesStand {n : Nat} {v : Lane} (h : v.standing = (s.lane n).standing) : LanesStand s (s.setLane n v) := by
  refine ⟨fun m => ?_, rfl, rfl, rfl⟩
  by_cases hm : n = m
  · subst hm
    rw [lane_setLane_same, h]
  · rw [lane_setLane_other s v hm]

theorem setTp_lanesStand (v : TurnpikeUnit) : LanesStand s { s with tp := v } := .of_lanes rfl rfl rfl rfl
theorem setWay_lanesStand (v : WayUnit) : LanesStand s { s with way := v } := .of_lanes rfl rfl rfl rfl
theorem setQueue_lanesStand (q : Nat) (v : Queue) : LanesStand s (s.setQueue q v) := .of_lanes rfl rfl rfl rfl
theorem setTenant_lanesStand (t : Nat) (v : Tenant) : LanesStand s (s.setTenant t v) := .of_lanes rfl rfl rfl rfl
theorem note_lanesStand (n : Note) : LanesStand s (s.note n) := .of_lanes rfl rfl rfl rfl
theorem send_lanesStand (m : Sent) : LanesStand s (s.send m) := .of_lanes rfl rfl rfl rfl
theorem emit_lanesStand (e kind number arg : Nat) : LanesStand s (s.emit e kind number arg) := .of_lanes rfl rfl rfl rfl
theorem emitDev_lanesStand (e : Nat) : LanesStand s (s.emitDev e) := .of_lanes rfl rfl rfl rfl

theorem emitOnceKey_lanesStand (key e kind number arg : Nat) : LanesStand s (s.emitOnceKey key e kind number arg) := by
  unfold emitOnceKey
  exact .ite (.refl s) (.of_lanes rfl rfl rfl rfl)

/-! ### Flow control (R198, R243) -/

theorem sendFlow_lanesStand (n prios quanta : Nat) : LanesStand s (s.sendFlow n prios quanta) := by
  unfold sendFlow
  refine .ite (.trans ?_ (((send_lanesStand ..).trans (.of_manages (frameOut_manages ..))).trans (note_lanesStand ..))) (.refl s)
  exact setLane_lanesStand s rfl

theorem laneFlow_lanesStand (n : Nat) : LanesStand s (s.laneFlow n) := by
  have hif (c : Prop) [Decidable c] (s : State) (a b : Nat) : LanesStand s (if c then s.sendFlow n a b else s) :=
    .ite (sendFlow_lanesStand ..) (.refl s)
  have hpause (on : Bool) : LanesStand s (s.setLane n { s.lane n with pauseTx := on }) := setLane_lanesStand s rfl
  have hpfc (m : Nat) : LanesStand s (s.setLane n { s.lane n with pfcTx := m }) := setLane_lanesStand s rfl
  unfold laneFlow
  exact .ite (.ite (.refl s) ((hpause _).trans (sendFlow_lanesStand ..)))
    (.ite (.ite (.refl s) (((hpfc _).trans (hif ..)).trans (hif ..))) (.refl s))

theorem sendHolds_lanesStand (n : Nat) : LanesStand s (s.sendHolds n) := by
  unfold sendHolds
  exact .ite (sendFlow_lanesStand ..) (.ite (sendFlow_lanesStand ..) (.refl s))

theorem flowAll_lanesStand : LanesStand s s.flowAll :=
  .foldl (fun s n => .ite (laneFlow_lanesStand s n) (.refl s)) _ s

theorem markReleased_lanesStand (l : List Nat) (at_ : Option Nat) : LanesStand s (s.markReleased l at_) :=
  .foldl (fun s _ => .ite (setQueue_lanesStand s ..) (.refl s)) l s

theorem delayAsserted_lanesStand (t c : Nat) : LanesStand s (s.delayAsserted t c) :=
  ((note_lanesStand ..).trans (setTp_lanesStand ..)).trans (markReleased_lanesStand ..)

theorem delayRises_lanesStand (t c q : Nat) : LanesStand s (s.delayRises t c q) := by
  have hasserted (v : Queue) : LanesStand s ((s.delayAsserted t c).setQueue q v) :=
    (delayAsserted_lanesStand ..).trans (setQueue_lanesStand ..)
  have htold (b : Bool) (u : State) (a : Nat) : LanesStand u (if b then u.emit 0o070001 2 q a else u) :=
    .ite (emit_lanesStand ..) (.refl u)
  unfold delayRises
  exact .ite (.refl s) (((hasserted _).trans (htold ..)).trans (flowAll_lanesStand _))

theorem delayFalls_lanesStand (t c : Nat) : LanesStand s (s.delayFalls t c) := by
  have hreleased (l : List Nat) : LanesStand s { s.occur 25 0o010 with tp := { s.tp with delay := l } } :=
    .of_lanes rfl rfl rfl rfl
  unfold delayFalls
  exact .ite (((hreleased _).trans (.ite (.refl _) (markReleased_lanesStand ..))).trans (flowAll_lanesStand _)) (.refl s)

theorem freed_lanesStand (q : Nat) : LanesStand s (s.freed q) := by
  unfold freed
  split
  · exact delayFalls_lanesStand ..
  · exact .refl s

/-! ### Refusals (R246, R247) -/

theorem wayWrite_lanesStand (e : List Nat) : LanesStand s (s.wayWrite e) := by
  unfold wayWrite
  exact .ite (.ite (setWay_lanesStand ..) ((setWay_lanesStand ..).trans (emitDev_lanesStand ..))) (setWay_lanesStand ..)

theorem wayEnd_lanesStand (q outPort : Nat) (f : QFrame) (prot : Bool) (outcome : Nat) :
    LanesStand s (s.wayEnd q outPort f prot outcome) := by
  unfold wayEnd
  split
  · refine .trans ?_ (wayWrite_lanesStand _ _)
    exact .of_lanes rfl rfl rfl rfl
  · exact .refl s

theorem degrade_lanesStand (t code : Nat) : LanesStand s (s.degrade t code) := by
  unfold degrade
  dsimp only
  split
  · exact .refl s
  · split
    · exact (setTenant_lanesStand ..).trans (emit_lanesStand ..)
    · exact setTenant_lanesStand ..
    · exact .refl s

theorem refuseCount_lanesStand (t q code : Nat) : LanesStand s (s.refuseCount t q code) :=
  ((setQueue_lanesStand ..).trans (setTenant_lanesStand ..)).trans
    ((emitOnceKey_lanesStand ..).trans (degrade_lanesStand ..))

theorem refuse_lanesStand (t q code : Nat) : LanesStand s (s.refuse t q code) := by
  have hcounted (n k : Nat) : LanesStand s (s.setLane n { s.lane n with ldRefused := k }) := setLane_lanesStand s rfl
  unfold refuse
  exact .trans (.ite (hcounted ..) (.refl s)) (refuseCount_lanesStand ..)

theorem refuseQueued_lanesStand (t q code : Nat) (p : QFrame → Bool) : LanesStand s (s.refuseQueued t q code p) := by
  have hfold (l : List QFrame) (s : State) : LanesStand s
      (l.foldl (fun s f => (s.refuse t q code).wayEnd q (s.qEgress q) f (s.egressTrunk q) code) s) :=
    .foldl (fun s f => (refuse_lanesStand s t q code).trans (wayEnd_lanesStand ..)) l s
  unfold refuseQueued
  exact ((setQueue_lanesStand ..).trans (hfold ..)).trans (.ite (.refl _) (delayFalls_lanesStand ..))

theorem refuseLane_lanesStand (n : Nat) : LanesStand s (s.refuseLane n) := by
  refine .foldl (fun s q => ?_) _ s
  split
  · exact refuseQueued_lanesStand ..
  · exact .refl s

/-! ### The frame on a lane, and its line (R191, R196) -/

theorem lineOut_lanesStand (n : Nat) (v : LineTx) : LanesStand s (s.lineOut n v) := by
  refine .trans ?_ (.foldl (fun s w => send_lanesStand s (.codeword n w)) _ _)
  exact setLane_lanesStand s rfl

theorem lineFault_lanesStand (n : Nat) : LanesStand s (s.lineFault n) :=
  .ite (lineOut_lanesStand ..) (send_lanesStand ..)

theorem lineCut_lanesStand (n : Nat) : LanesStand s (s.lineCut n) := by
  unfold lineCut
  refine .ite (.trans (t := { s with free := s.free + 1 }) (.of_lanes rfl rfl rfl rfl) (setLane_lanesStand _ ?_)) (.refl s)
  rfl

theorem wasteSlots_lanesStand (rx : Bool) (n most : Nat) : LanesStand s (s.wasteSlots rx n most) := .of_lanes rfl rfl rfl rfl

theorem frameCut_lanesStand (n : Nat) (f : QFrame) : LanesStand s (s.frameCut n f) :=
  .trans (.ite (wasteSlots_lanesStand ..) (.refl s)) (.ite (setWay_lanesStand ..) (.refl _))

theorem endFlight_lanesStand (q : Nat) : LanesStand s (s.endFlight q) :=
  (setQueue_lanesStand ..).trans (freed_lanesStand ..)

theorem cutFrame_lanesStand (n : Nat) : LanesStand s (s.cutFrame n) := by
  have hcut (c : Sched) (k : Nat) : LanesStand s (((s.lineCut n).setSched n c).setLane n
      { ((s.lineCut n).setSched n c).lane n with txAbort := k }) := by
    refine (lineCut_lanesStand ..).trans (.trans (t := (s.lineCut n).setSched n c) (.of_lanes rfl rfl rfl rfl) ?_)
    exact setLane_lanesStand _ rfl
  unfold cutFrame
  dsimp only
  split
  · split
    · split
      · exact (hcut ..).trans ((frameCut_lanesStand ..).trans (endFlight_lanesStand ..))
      · exact (hcut ..).trans (endFlight_lanesStand ..)
    · exact (hcut ..).trans (.of_manages (mgmtAdmit_manages ..))
  · exact .refl s

/-! ### Neighbour groups (R302, R304) -/

theorem emitOwn_lanesStand (e k n a : Nat) : LanesStand s (s.emitOwn e k n a) := .of_lanes rfl rfl rfl rfl
theorem setGroup_lanesStand (g : Nat) (v : ZGroup) : LanesStand s (s.setGroup g v) := .of_lanes rfl rfl rfl rfl

theorem zEnter_lanesStand (g : Nat) (st : ZState) : LanesStand s (s.zEnter g st) :=
  .ite (.refl s) (setGroup_lanesStand ..)

theorem destroyKey_lanesStand {n : Nat} (h : slotDevMem < n) : LanesStand s (s.destroyKey n) := by
  unfold destroyKey destroyContained
  dsimp only
  rw [containSlotFault_of_lt _ h, ite_self]
  exact .ite (.refl s) (.of_manages (destroySlot_manages ..))

theorem slotDevMem_lt_slotZheacEph (k : Nat) : slotDevMem < slotZheacEph k := by
  simp only [slotDevMem, slotZheacEph]
  omega

theorem dropEph_lanesStand (g : Nat) : LanesStand s (s.dropEph g) := by
  unfold dropEph
  dsimp only
  split
  · exact (setGroup_lanesStand ..).trans (destroyKey_lanesStand _ (slotDevMem_lt_slotZheacEph _))
  · exact .of_lanes rfl rfl rfl rfl

theorem sendZheac_lanesStand (g type : Nat) (lane : Option Nat) (hsId : Nat) (start : Bool) (list : List ListEntry)
    (bitmap : List Bool) (reason : Nat) (words : List Nat) :
    LanesStand s (s.sendZheac g type lane hsId start list bitmap reason words) := by
  unfold sendZheac
  split
  · exact .of_manages ((send_manages ..).trans (queueMgmt_manages ..))
  · exact .refl s

theorem dropRequests_lanesStand (g number : Nat) : LanesStand s (s.dropRequests g number) := .of_lanes rfl rfl rfl rfl

theorem handshakeLost_lanesStand (g : Nat) (v : ZGroup) (number : Nat) : LanesStand s (s.handshakeLost g v number) :=
  ((note_lanesStand ..).trans (setGroup_lanesStand ..)).trans ((dropRequests_lanesStand ..).trans (dropEph_lanesStand ..))

theorem failureTold_lanesStand (g reason : Nat) (refused eighth : Bool) :
    LanesStand s (s.failureTold g reason refused eighth) := by
  have hown (u : State) (b : Prop) [Decidable b] (e a : Nat) : LanesStand u (if b then u.emitOwn e 8 g a else u) :=
    .ite (emitOwn_lanesStand ..) (.refl u)
  exact (emitOwn_lanesStand ..).trans ((hown _ (refused = true) ..).trans ((hown ..).trans (hown _ (eighth = true) ..)))

theorem failHs_lanesStand (g reason : Nat) (refuse refused : Bool) : LanesStand s (s.failHs g reason refuse refused) := by
  have hrefuse (hsId : Nat) (back : Option Nat) : LanesStand s (if refuse then s.sendRefuse g hsId back reason else s) :=
    .ite (sendZheac_lanesStand ..) (.refl s)
  rw [failHs_eq]
  cases (s.zgroup g).hs with
  | none => exact .refl s
  | some h =>
    exact (hrefuse ..).trans
      ((handshakeLost_lanesStand ..).trans ((failureTold_lanesStand ..).trans (zEnter_lanesStand ..)))

theorem zheacLaneDown_lanesStand (n : Nat) : LanesStand s (s.zheacLaneDown n) := by
  unfold zheacLaneDown
  split
  · exact .ite (.refl s) (((failHs_lanesStand ..).trans (dropEph_lanesStand ..)).trans (zEnter_lanesStand ..))
  · exact .refl s

theorem entropyAsk_lanesStand {s u : State} {c : Consumer} {d : Draw} (h : s.entropyAsk c = (d, u)) : LanesStand s u := by
  have hdraw (b : Nat) : LanesStand s (s.draw b).2 := by
    rw [draw_eq]
    exact .of_lanes rfl rfl rfl rfl
  have hfailed : LanesStand s s.entropyFailed := by
    unfold entropyFailed
    exact .ite (.of_lanes rfl rfl rfl rfl) (.of_lanes rfl rfl rfl rfl)
  unfold entropyAsk at h
  split at h
  · cases h
    exact hdraw _
  · split at h
    · cases h
      exact hfailed
    · cases h
      exact .of_lanes rfl rfl rfl rfl

theorem pkAsk_lanesStand (g : Nat) (op : PkOp) : LanesStand s (s.pkAsk g op) := by
  unfold pkAsk
  split <;> exact .of_lanes rfl rfl rfl rfl

theorem nonceDrawn_lanesStand (g nonce : Nat) : LanesStand s (s.nonceDrawn g nonce) := by
  unfold nonceDrawn
  split
  · exact .ite (.ite ((setGroup_lanesStand ..).trans (sendZheac_lanesStand ..))
      ((setGroup_lanesStand ..).trans (pkAsk_lanesStand ..))) (.refl s)
  · exact .refl s

theorem askNonce_lanesStand (g : Nat) : LanesStand s (s.askNonce g) := by
  unfold askNonce
  split
  · split
    · next hask => exact (setGroup_lanesStand ..).trans ((entropyAsk_lanesStand hask).trans (nonceDrawn_lanesStand ..))
    · next hask => exact (setGroup_lanesStand ..).trans (entropyAsk_lanesStand hask)
    · next hask => exact (setGroup_lanesStand ..).trans ((entropyAsk_lanesStand hask).trans (failHs_lanesStand ..))
  · exact .refl s

theorem installKey_lanesStand (n value : Nat) : LanesStand s (s.installKey n value) := by
  unfold installKey
  exact .ite (.of_lanes rfl rfl rfl rfl) (.of_lanes rfl rfl rfl rfl)

theorem ephDrawn_lanesStand (g drawn : Nat) : LanesStand s (s.ephDrawn g drawn) := by
  unfold ephDrawn
  dsimp only
  split
  · exact (installKey_lanesStand ..).trans ((setGroup_lanesStand ..).trans (pkAsk_lanesStand ..))
  · exact failHs_lanesStand ..

theorem wantEph_lanesStand (g : Nat) : LanesStand s (s.wantEph g) := by
  unfold wantEph
  refine .ite (.ite (askNonce_lanesStand ..) (.refl s)) (.ite (.refl s) ?_)
  split
  · next hask => exact (entropyAsk_lanesStand hask).trans (ephDrawn_lanesStand ..)
  · next hask => exact entropyAsk_lanesStand hask
  · next hask => exact (entropyAsk_lanesStand hask).trans (failHs_lanesStand ..)

theorem zheacLaneUp_lanesStand (n : Nat) : LanesStand s (s.zheacLaneUp n) := by
  unfold zheacLaneUp
  split
  · dsimp only
    split
    · exact ((zEnter_lanesStand ..).trans (setGroup_lanesStand ..)).trans (wantEph_lanesStand ..)
    · exact setGroup_lanesStand ..
    · exact .refl s
  · exact .refl s

end
end State
end Sys2Proof.Machine

namespace Sys2Proof.Machine

/-- What a loss of a lane shows of it: its state with the cause and the number of its flaps, and its counts of errors. -/
def Lane.shown (v : Lane) : Lane :=
  { state := v.state, cause := v.cause, gen := v.gen, flaps := v.flaps, fecCorr := v.fecCorr, fecUncorr := v.fecUncorr }

namespace State

/-! ## A lane leaves UP (R192, R194) -/

/-- The state that the next flap of a lane leads to. -/
def flapState (s : State) (n : Nat) : LaneState :=
  if s.laneFlapMax n ≤ (s.lane n).window.length + 1 then .damped else if s.laneHold n = 0 then .down else .hold

theorem LanesStand.laneFlapMax {s t : State} (h : LanesStand s t) (n : Nat) : t.laneFlapMax n = s.laneFlapMax n := by
  rw [State.laneFlapMax, State.laneFlapMax, laneWord, laneWord, h.cfg]
theorem LanesStand.laneHold {s t : State} (h : LanesStand s t) (n : Nat) : t.laneHold n = s.laneHold n := by
  rw [State.laneHold, State.laneHold, laneWord, laneWord, h.cfg]

theorem lane_laneEnter (s : State) (n : Nat) (st : LaneState) (v : Lane) :
    (s.laneEnter n st v).lane n =
      { v with
        state := st, gen := if v.state = st then v.gen else (v.gen + 1) % 32
        clockEnd := if (s.lane n).clock && !clockIn st v.cdr then s.now else v.clockEnd } := lane_setLane_same ..

/-- What a lane shows once it has entered another state, whatever traffic follows. -/
theorem shown_of_entered {s t : State} {n : Nat} {st : LaneState} {v w : Lane} (h : LanesStand (s.laneEnter n st w) t)
    (hw : w.shown = v.shown) (hv : v.state ≠ st) :
    (t.lane n).shown = { v.shown with state := st, gen := (v.gen + 1) % 32 } := by
  have hstate : w.state = v.state := (congrArg Lane.state hw :)
  have hgen : w.gen = v.gen := (congrArg Lane.gen hw :)
  rw [h.part Lane.shown (fun _ => rfl), lane_laneEnter, if_neg (hstate ▸ hv), hgen, ← hw]
  rfl

section
variable (s : State) (n : Nat) (cause : Nat) (receiving : Bool)

/-- The frame on a lane that leaves UP has been cut short, and what was received of another is wasted. -/
def flapCut : State :=
  let s := (s.cutFrame n).occur n 0o010
  if receiving && s.laneIsTrunk n then s.wasteSlots true n 578 else s

/-- The lane as a flap has counted it. -/
def flapCounted : Lane :=
  let v := s.lane n
  { v with
    cause := cause, flaps := satInc 18 v.flaps, window := v.window ++ [s.now], holdUntil := none, trainingInDown := false
    cdr := v.cdr && decide (cause = 3 ∨ cause = 4), errors := if cause = 5 then [] else v.errors, lineRx := lossRx v.lineRx cause
    rxAbort := if receiving then satInc 18 v.rxAbort else v.rxAbort }

/-- The lane enters the state that its flap leads to. -/
def flapEnters (v : Lane) : State :=
  if s.laneFlapMax n ≤ v.window.length then
    (((s.laneEnter n .damped { v with dampUntil := s.now + secs (s.laneDampS n), cdr := false, lineRx := {} }).emit
      0o053005 5 n 0).refuseLane n).zheacLaneDown n
  else if s.laneHold n = 0 then (((s.laneEnter n .down v).emit 0o051003 5 n 0).refuseLane n).zheacLaneDown n
  else (s.laneEnter n .hold { v with holdUntil := some (s.now + ms (s.laneHold n)) }).zheacLaneDown n

theorem laneFlap_eq : s.laneFlap n cause receiving =
    ((s.flapCut n receiving).flapEnters n ((s.flapCut n receiving).flapCounted n cause receiving)).lineFault n := rfl

theorem flapCut_lanesStand : LanesStand s (s.flapCut n receiving) := by
  unfold flapCut
  exact ((cutFrame_lanesStand ..).trans (note_lanesStand ..)).trans (.ite (wasteSlots_lanesStand ..) (.refl _))

theorem shown_flapEnters {v : Lane} (hup : v.state = .up) (hlen : v.window.length = (s.lane n).window.length + 1) :
    ((s.flapEnters n v).lane n).shown = { v.shown with state := s.flapState n, gen := (v.gen + 1) % 32 } := by
  have hne {st : LaneState} (h : st ≠ .up) : v.state ≠ st := hup ▸ h.symm
  have hfollows (u : State) (e : Nat) : LanesStand u (((u.emit e 5 n 0).refuseLane n).zheacLaneDown n) :=
    (emit_lanesStand ..).trans ((refuseLane_lanesStand ..).trans (zheacLaneDown_lanesStand ..))
  unfold flapEnters flapState
  rw [hlen]
  split
  · exact shown_of_entered (hfollows _ _) (by simp only [Lane.shown]) (hne nofun)
  · split
    · exact shown_of_entered (hfollows _ _) rfl (hne nofun)
    · exact shown_of_entered (zheacLaneDown_lanesStand ..) rfl (hne nofun)

/-- A lane that is UP flaps: DAMPED, DOWN or HOLD, with the cause, one flap more, and GEN one higher. -/
theorem shown_laneFlap (hup : s.laneUpNow n = true) :
    ((s.laneFlap n cause receiving).lane n).shown =
      { (s.lane n).shown with
        state := s.flapState n, cause := cause, flaps := satInc 18 (s.lane n).flaps, gen := ((s.lane n).gen + 1) % 32 } := by
  have hcut := s.flapCut_lanesStand n receiving
  have hstate : ((s.flapCut n receiving).lane n).state = .up :=
    (hcut.part Lane.state (fun _ => rfl) n).trans (of_decide_eq_true hup)
  have hwindow : ((s.flapCut n receiving).lane n).window = (s.lane n).window := hcut.part Lane.window (fun _ => rfl) n
  have hshown : ((s.flapCut n receiving).lane n).shown = (s.lane n).shown := hcut.part Lane.shown (fun _ => rfl) n
  have hleads : (s.flapCut n receiving).flapState n = s.flapState n := by
    rw [flapState, flapState, hcut.laneFlapMax, hcut.laneHold, hwindow]
  rw [laneFlap_eq, (lineFault_lanesStand ..).part Lane.shown (fun _ => rfl),
    shown_flapEnters _ _ (by exact hstate) (by exact List.length_append), hleads]
  calc _ = { ((s.flapCut n receiving).lane n).shown with
              state := s.flapState n, cause := cause, flaps := satInc 18 ((s.flapCut n receiving).lane n).shown.flaps
              gen := (((s.flapCut n receiving).lane n).shown.gen + 1) % 32 } := rfl
    _ = _ := by rw [hshown]; rfl

end

/-! ## Errors of a lane (R195) -/

section
variable (s : State) (n corrected uncorrectable : Nat) (receiving : Bool)

/-- The uncorrectable errors of the last 1 s, with those that are new. -/
def errorsSince : List (Nat × Nat) :=
  let l := (s.lane n).errors.filter (fun e => decide (s.now < e.1 + secs 1))
  if uncorrectable = 0 then l else l ++ [(s.now, uncorrectable)]

/-- The errors have been counted. -/
def errorsCounted : State :=
  let v := s.lane n
  ((s.setLane n { v with
    fecCorr := satAdd 36 v.fecCorr corrected, fecUncorr := satAdd 36 v.fecUncorr uncorrectable
    errors := s.errorsSince n uncorrectable }).occurs n 0o004 0 corrected).occurs n 0o005 0 uncorrectable

theorem lane_errorsCounted : (s.errorsCounted n corrected uncorrectable).lane n =
    { s.lane n with
      fecCorr := satAdd 36 (s.lane n).fecCorr corrected, fecUncorr := satAdd 36 (s.lane n).fecUncorr uncorrectable
      errors := s.errorsSince n uncorrectable } := lane_setLane_same ..

theorem laneUpNow_errorsCounted : (s.errorsCounted n corrected uncorrectable).laneUpNow n = s.laneUpNow n := by
  rw [laneUpNow, laneUpNow, lane_errorsCounted]

theorem flapState_errorsCounted : (s.errorsCounted n corrected uncorrectable).flapState n = s.flapState n := by
  rw [flapState, flapState, lane_errorsCounted]
  rfl

theorem lineErrors_eq : s.lineErrors n corrected uncorrectable receiving =
    if s.laneUpNow n = true ∧ s.laneErrDown n ≠ 0 ∧ s.laneErrDown n < ((s.errorsSince n uncorrectable).map Prod.snd).sum then
      ((s.errorsCounted n corrected uncorrectable).laneFlap n 5 receiving).emit 0o051004 5 n 0
    else s.errorsCounted n corrected uncorrectable := by
  have hstep : s.lineErrors n corrected uncorrectable receiving =
      if (s.errorsCounted n corrected uncorrectable).laneUpNow n && decide (s.laneErrDown n ≠ 0) &&
          decide (((s.errorsSince n uncorrectable).map Prod.snd).sum > s.laneErrDown n) then
        ((s.errorsCounted n corrected uncorrectable).laneFlap n 5 receiving).emit 0o051004 5 n 0
      else s.errorsCounted n corrected uncorrectable := rfl
  rw [hstep, laneUpNow_errorsCounted]
  simp only [Bool.and_eq_true, decide_eq_true_eq, and_assoc, gt_iff_lt]

theorem le_sum_errorsSince : uncorrectable ≤ ((s.errorsSince n uncorrectable).map Prod.snd).sum := by
  unfold errorsSince
  dsimp only
  split
  · next h => exact h ▸ Nat.zero_le _
  · simp

theorem errorsSince_of_nil (h : (s.lane n).errors = []) :
    s.errorsSince n uncorrectable = if uncorrectable = 0 then [] else [(s.now, uncorrectable)] := by
  simp [errorsSince, h]

theorem sum_errorsSince_of_nil (h : (s.lane n).errors = []) :
    ((s.errorsSince n uncorrectable).map Prod.snd).sum = uncorrectable := by
  rw [errorsSince_of_nil _ _ _ h]
  split
  · next h => simp [h]
  · simp

end

end State

/-! ## The commands -/

section
variable {s : State} {lane : Fin 16} {n : Nat}

/-- A command that names the lanes gives them, and the clock where it names that too, as its effect does. -/
theorem exec_reaches_lane {i : Instr} {ps : List Part} {f : State → State} {u : State} (hexec : exec i s = act ps s f)
    (hlanes : ps.contains .lanes = true) (h : f s.clear = u) :
    ∃ t, exec i s = .next t ∧ (∀ m, t.lane m = u.lane m) ∧ (ps.contains .now = true → t.now = u.now) := by
  obtain ⟨t, ht, -, hsame⟩ := exec_reaches hexec h
  exact ⟨t, ht, State.lane_congr (hsame .lanes (by decide) hlanes), hsame .now (by decide)⟩

theorem clear_wireLane (h : s.wireLane lane = some n) : s.clear.wireLane lane = some n := h

theorem laneFault_flaps {cause : Nat} {losses : List LaneLoss} {receiving : Bool} (hwire : s.wireLane lane = some n)
    (hup : s.laneUpNow n = true) (hcause : firstLoss losses = some cause) :
    ∃ t, exec (.laneFault lane losses receiving) s = .next t ∧ (t.lane n).state = s.flapState n ∧ (t.lane n).cause = cause ∧
      (t.lane n).flaps = satInc 18 (s.lane n).flaps ∧ (t.lane n).gen = ((s.lane n).gen + 1) % 32 := by
  obtain ⟨t, ht, hlane, -⟩ := exec_reaches_lane (s := s) (i := .laneFault lane losses receiving)
    (u := s.clear.laneFlap n cause receiving) rfl rfl
    (by rw [clear_wireLane hwire, hcause]; exact if_pos hup)
  have hshown := s.clear.shown_laneFlap n cause receiving hup
  refine ⟨t, ht, ?_⟩
  rw [hlane]
  exact ⟨(congrArg Lane.state hshown :), (congrArg Lane.cause hshown :), (congrArg Lane.flaps hshown :),
    (congrArg Lane.gen hshown :)⟩

theorem laneErrorThreshold_flaps {corrected uncorrectable : Nat} {receiving : Bool} (hwire : s.wireLane lane = some n)
    (hup : s.laneUpNow n = true) (hset : s.laneErrDown n ≠ 0) (hover : s.laneErrDown n < uncorrectable) :
    ∃ t, exec (.laneErrorThreshold lane corrected uncorrectable receiving) s = .next t ∧
      (t.lane n).state = s.flapState n ∧ (t.lane n).cause = 5 ∧
      (t.lane n).fecUncorr = satAdd 36 (s.lane n).fecUncorr uncorrectable ∧
      (t.lane n).fecCorr = satAdd 36 (s.lane n).fecCorr corrected := by
  have hcond : s.clear.laneUpNow n = true ∧ s.clear.laneErrDown n ≠ 0 ∧
      s.clear.laneErrDown n < ((s.clear.errorsSince n uncorrectable).map Prod.snd).sum :=
    ⟨hup, hset, hover.trans_le (State.le_sum_errorsSince ..)⟩
  obtain ⟨t, ht, hlane, -⟩ := exec_reaches_lane (s := s) (i := .laneErrorThreshold lane corrected uncorrectable receiving)
    (u := ((s.clear.errorsCounted n corrected uncorrectable).laneFlap n 5 receiving).emit 0o051004 5 n 0) rfl rfl
    (by rw [clear_wireLane hwire]; exact (State.lineErrors_eq ..).trans (if_pos hcond))
  have hshown := (s.clear.errorsCounted n corrected uncorrectable).shown_laneFlap n 5 receiving
    ((State.laneUpNow_errorsCounted ..).trans hup)
  rw [State.flapState_errorsCounted, State.lane_errorsCounted] at hshown
  refine ⟨t, ht, ?_⟩
  rw [hlane, State.lane_congr (State.emit_lanes ..)]
  exact ⟨(congrArg Lane.state hshown :), (congrArg Lane.cause hshown :), (congrArg Lane.fecUncorr hshown :),
    (congrArg Lane.fecCorr hshown :)⟩

theorem laneErrorThreshold_counts {corrected uncorrectable : Nat} {receiving : Bool} (hwire : s.wireLane lane = some n)
    (hnone : (s.lane n).errors = []) (hle : uncorrectable ≤ s.laneErrDown n) :
    ∃ t, exec (.laneErrorThreshold lane corrected uncorrectable receiving) s = .next t ∧
      t.lane n = { s.lane n with
        fecCorr := satAdd 36 (s.lane n).fecCorr corrected, fecUncorr := satAdd 36 (s.lane n).fecUncorr uncorrectable
        errors := if uncorrectable = 0 then [] else [(s.now, uncorrectable)] } := by
  have hsum := s.clear.sum_errorsSince_of_nil n uncorrectable hnone
  have hcond : ¬ (s.clear.laneUpNow n = true ∧ s.clear.laneErrDown n ≠ 0 ∧
      s.clear.laneErrDown n < ((s.clear.errorsSince n uncorrectable).map Prod.snd).sum) := by
    rintro ⟨-, -, hover⟩
    rw [hsum] at hover
    exact hover.not_ge hle
  obtain ⟨t, ht, hlane, -⟩ := exec_reaches_lane (s := s) (i := .laneErrorThreshold lane corrected uncorrectable receiving)
    (u := s.clear.errorsCounted n corrected uncorrectable) rfl rfl
    (by rw [clear_wireLane hwire]; exact (State.lineErrors_eq ..).trans (if_neg hcond))
  refine ⟨t, ht, ?_⟩
  rw [hlane, State.lane_errorsCounted, State.errorsSince_of_nil s.clear n _ hnone]
  rfl

/-- The state in which a lane may come UP: it has trained, or needs no training. -/
def State.laneReady (s : State) (n : Nat) : Prop :=
  (s.lane n).state = .training ∨ (s.laneTrain n = false ∧ ((s.lane n).state = .hold ∨ (s.lane n).state = .down))

/-- A lane comes UP: the timers of its loss end. -/
def State.laneRises (s : State) (n : Nat) : State :=
  let v := s.lane n
  let u := s.laneEnter n .up { v with holdUntil := none, trainingInDown := false, cdr := true, upSince := s.now }
  (((u.lineFault n).sendHolds n).emit (if v.holdUntil.isSome then 0o050002 else 0o050001) 5 n 0).zheacLaneUp n

theorem laneUp_rises (hwire : s.wireLane lane = some n) (hready : s.laneReady n) (hlocked : s.laneLocked n = true) :
    ∃ t, exec (.laneUp lane) s = .next t ∧ (t.lane n).state = .up ∧ (t.lane n).gen = ((s.lane n).gen + 1) % 32 ∧
      (t.lane n).upSince = s.now ∧ (t.lane n).holdUntil = none := by
  have hlocked' : s.clear.laneLocked n = true := hlocked
  have htrains : s.clear.laneTrain n = s.laneTrain n := rfl
  have hdown : (s.lane n).state ≠ .up := by
    intro h
    simp [State.laneReady, h] at hready
  obtain ⟨t, ht, hlane, -⟩ := exec_reaches_lane (s := s) (i := .laneUp lane) (u := s.clear.laneRises n) rfl rfl
    (by
      rw [clear_wireLane hwire]
      refine if_pos ?_
      rcases hready with h | ⟨htrain, h | h⟩
      · simp [h, hlocked']
      · simp [h, htrains, htrain, hlocked']
      · simp [h, htrains, htrain, hlocked'])
  have hrises : State.LanesStand (s.clear.laneEnter n .up { s.lane n with
      holdUntil := none, trainingInDown := false, cdr := true, upSince := s.now }) (s.clear.laneRises n) :=
    ((State.lineFault_lanesStand ..).trans (State.sendHolds_lanesStand ..)).trans
      ((State.emit_lanesStand ..).trans (State.zheacLaneUp_lanesStand ..))
  have hentered := State.lane_laneEnter s.clear n .up { s.lane n with
    holdUntil := none, trainingInDown := false, cdr := true, upSince := s.now }
  rw [if_neg hdown] at hentered
  refine ⟨t, ht, ?_⟩
  rw [hlane]
  exact ⟨(hrises.part Lane.state (fun _ => rfl) n).trans (congrArg Lane.state hentered),
    (hrises.part Lane.gen (fun _ => rfl) n).trans (congrArg Lane.gen hentered),
    (hrises.part Lane.upSince (fun _ => rfl) n).trans (congrArg Lane.upSince hentered),
    (hrises.part Lane.holdUntil (fun _ => rfl) n).trans (congrArg Lane.holdUntil hentered)⟩

/-- LINK_HOLD has run out for a lane. -/
def State.holdEnds (s : State) (n u : Nat) : State :=
  let v := s.lane n
  (((s.upTo u).laneEnter n .down { v with
    holdUntil := none, trainingInDown := decide (v.state = LaneState.training) }).emit 0o051003 5 n 0).refuseLane n

theorem linkHoldExpiry_ends {u : Nat} (hwire : s.wireLane lane = some n) (hhold : (s.lane n).holdUntil = some u) :
    ∃ t, exec (.linkHoldExpiry lane) s = .next t ∧ (t.lane n).state = .down ∧ (t.lane n).holdUntil = none ∧
      t.now = max s.now u := by
  have hhold' : (s.clear.lane n).holdUntil = some u := hhold
  obtain ⟨t, ht, hlane, hnow⟩ := exec_reaches_lane (s := s) (i := .linkHoldExpiry lane) (u := s.clear.holdEnds n u) rfl rfl
    (by rw [clear_wireLane hwire]; dsimp only; rw [hhold']; rfl)
  have hends : State.LanesStand ((s.clear.upTo u).laneEnter n .down { s.lane n with
      holdUntil := none, trainingInDown := decide ((s.lane n).state = LaneState.training) }) (s.clear.holdEnds n u) :=
    (State.emit_lanesStand ..).trans (State.refuseLane_lanesStand ..)
  have hentered := State.lane_laneEnter (s.clear.upTo u) n .down { s.lane n with
    holdUntil := none, trainingInDown := decide ((s.lane n).state = LaneState.training) }
  refine ⟨t, ht, ?_⟩
  rw [hlane, hnow rfl]
  exact ⟨(hends.part Lane.state (fun _ => rfl) n).trans (congrArg Lane.state hentered),
    (hends.part Lane.holdUntil (fun _ => rfl) n).trans (congrArg Lane.holdUntil hentered),
    hends.now.trans (State.upTo_now ..)⟩

theorem dampExpiry_ends (hwire : s.wireLane lane = some n) (hdamped : (s.lane n).state = .damped) :
    ∃ t, exec (.dampExpiry lane) s = .next t ∧ (t.lane n).state = .down ∧ (t.lane n).window = [] ∧
      t.now = max s.now (s.lane n).dampUntil := by
  obtain ⟨t, ht, hlane, hnow⟩ := exec_reaches_lane (s := s) (i := .dampExpiry lane)
    (u := (State.laneEnter (s.clear.upTo (s.lane n).dampUntil) n .down { s.lane n with window := [] }).endAlarm 0o053005 5 n)
    rfl rfl (by rw [clear_wireLane hwire]; exact if_pos hdamped)
  refine ⟨t, ht, ?_⟩
  rw [hlane, hnow rfl, State.lane_congr (State.endAlarm_lanes ..), State.lane_laneEnter, State.endAlarm_now]
  exact ⟨rfl, rfl, State.upTo_now ..⟩

theorem signalRegained_trains (hwire : s.wireLane lane = some n) (htrain : s.laneTrain n = true)
    (hhold : (s.lane n).state = .hold) :
    ∃ t, exec (.signalRegained lane) s = .next t ∧
      t.lane n = { s.lane n with
        state := .training, gen := ((s.lane n).gen + 1) % 32
        clockEnd := if (s.lane n).cdr then s.now else (s.lane n).clockEnd } := by
  have htrain' : s.clear.laneTrain n = true := htrain
  have hclock : ((s.lane n).clock && !clockIn .training (s.lane n).cdr) = (s.lane n).cdr := by
    simp [Lane.clock, clockIn, hhold]
  obtain ⟨t, ht, hlane, -⟩ := exec_reaches_lane (s := s) (i := .signalRegained lane)
    (u := s.clear.laneEnter n .training (s.lane n)) rfl rfl
    (by rw [clear_wireLane hwire]; exact if_pos (by simp [hhold, htrain']))
  refine ⟨t, ht, ?_⟩
  rw [hlane, State.lane_laneEnter, State.clear_lane, hclock, if_neg (by rw [hhold]; nofun)]
  rfl

theorem flapWindowExpiry_drops {u : Nat} {rest : List Nat} (hwire : s.wireLane lane = some n)
    (hwindow : (s.lane n).window = u :: rest) :
    ∃ t, exec (.flapWindowExpiry lane) s = .next t ∧ t.lane n = { s.lane n with window := rest } ∧
      t.now = max s.now (u + secs 60) := by
  have hwindow' : (s.clear.lane n).window = u :: rest := hwindow
  obtain ⟨t, ht, hlane, hnow⟩ := exec_reaches_lane (s := s) (i := .flapWindowExpiry lane)
    (u := (s.clear.upTo (u + secs 60)).setLane n { s.lane n with window := rest }) rfl rfl
    (by rw [clear_wireLane hwire]; dsimp only; rw [hwindow']; rfl)
  refine ⟨t, ht, ?_⟩
  rw [hlane, hnow rfl, State.lane_setLane_same, State.setLane_now]
  exact ⟨rfl, State.upTo_now ..⟩

end

/-- Settles O17, one lemma for each way in which a lane changes its state or its window of flaps. -/
theorem laneStatesComplete : Obligations.LaneStatesComplete :=
  ⟨fun _ _ _ _ _ _ hwire hup hcause => laneFault_flaps hwire hup hcause,
    fun _ _ _ _ _ _ hwire hup hset hover => laneErrorThreshold_flaps hwire hup hset hover,
    fun _ _ _ _ _ _ hwire hnone hle => laneErrorThreshold_counts hwire hnone hle,
    fun _ _ _ hwire hready hlocked => laneUp_rises hwire hready hlocked,
    fun _ _ _ _ hwire hhold => linkHoldExpiry_ends hwire hhold,
    fun _ _ _ hwire hdamped => dampExpiry_ends hwire hdamped,
    fun _ _ _ hwire htrain hhold => signalRegained_trains hwire htrain hhold,
    fun _ _ _ _ _ hwire hwindow => flapWindowExpiry_drops hwire hwindow⟩

end Sys2Proof.Machine

namespace Sys2Proof.Machine
namespace State

/-! ## Admission leaves the lanes alone (R236) -/

section
variable (s : State)

theorem chargePolicer_lanesStand (t q len : Nat) : LanesStand s (s.chargePolicer t q len) :=
  .ite (setTp_lanesStand ..) (.refl s)

theorem admitted_lanesStand (t q : Nat) (f : QFrame) (p : Place) : LanesStand s (s.admitted t q f p) :=
  (note_lanesStand ..).trans ((chargePolicer_lanesStand ..).trans (delayRises_lanesStand ..))

theorem admitTo_lanesStand (t q : Nat) (f : QFrame) (p : Place) (sampled trunk : Bool) :
    LanesStand s (s.admitTo t q f p sampled trunk) := by
  have hadmitting : LanesStand s (s.admitting f p sampled) :=
    .trans (.ite (.refl s) (note_lanesStand ..)) (.ite (setWay_lanesStand ..) (.refl _))
  rw [admitTo_eq]
  exact (hadmitting.trans (setQueue_lanesStand ..)).trans (.ite (.refl _) (admitted_lanesStand ..))

theorem acceptSpill_lanesStand (t q k : Nat) : LanesStand s (s.acceptSpill t q k) :=
  .ite (.refl s) ((setQueue_lanesStand ..).trans (.foldl (fun s f => admitted_lanesStand s t q f .spill) _ _))

theorem wayRefused_lanesStand (sampled : Bool) (q outPort : Nat) (f : QFrame) (trunk prot : Bool) (code : Nat) :
    LanesStand s (s.wayRefused sampled q outPort f trunk prot code) := by
  unfold wayRefused
  refine .ite (.trans ?_ (wayWrite_lanesStand _ _)) (.refl s)
  exact .of_lanes rfl rfl rfl rfl

theorem admitRefused_lanesStand (t q code : Nat) (f : QFrame) (sampled trunk : Bool) :
    LanesStand s (s.admitRefused t q code f sampled trunk) := by
  have hcounted (u : State) : LanesStand u
      (if code = rcQuota then u.occur 25 0o004 else if code = rcCeiling then u.occur 25 0o005 else u) :=
    .ite (note_lanesStand ..) (.ite (note_lanesStand ..) (.refl u))
  exact ((note_lanesStand ..).trans (hcounted _)).trans ((refuse_lanesStand ..).trans (wayRefused_lanesStand ..))

theorem waySample_lanesStand (t port q : Nat) : LanesStand s (s.waySample t port q).2 := by
  rw [waySample_eq]
  exact .of_lanes rfl rfl rfl rfl

theorem enter_lanesStand (t q : Nat) (f : QFrame) (trunk : Bool) : LanesStand s (s.enter t q f trunk) := by
  have hsampled := (acceptSpill_lanesStand s t q (s.spillDue q)).trans (waySample_lanesStand _ t f.ingress q)
  have hwanted (u : State) (b : Bool) : LanesStand u (if b then u.emitOnce 0o071004 2 q 1 else u) :=
    .ite (emitOnceKey_lanesStand ..) (.refl u)
  refine hsampled.trans (.ite (admitRefused_lanesStand ..) (.ite (admitRefused_lanesStand ..)
    (.ite ?_ (.ite (admitRefused_lanesStand ..) ?_))))
  · exact .trans (t := countFieldAbsent _) (.of_lanes rfl rfl rfl rfl) (admitRefused_lanesStand ..)
  · dsimp only
    split
    · exact (hwanted ..).trans (admitRefused_lanesStand ..)
    · exact admitTo_lanesStand ..

theorem classifyAdmit_lanesStand (t port : Nat) (trunk : Bool) (data : List Nat) :
    LanesStand s (s.classifyAdmit t port trunk data) := by
  unfold classifyAdmit classified
  dsimp only
  split
  · exact ((note_lanesStand ..).trans (note_lanesStand ..)).trans (refuse_lanesStand ..)
  · split
    · exact ((note_lanesStand ..).trans (note_lanesStand ..)).trans (refuse_lanesStand ..)
    · exact ((note_lanesStand ..).trans (note_lanesStand ..)).trans (enter_lanesStand ..)

theorem offer_lanesStand (t port : Nat) (trunk : Bool) (data : List Nat) : LanesStand s (s.offer t port trunk data) := by
  unfold offer
  refine .ite (.refl s) ?_
  split
  · exact .ite (.ite ((setTp_lanesStand ..).trans (note_lanesStand ..)) (refuse_lanesStand ..)) (classifyAdmit_lanesStand ..)
  · exact classifyAdmit_lanesStand ..

theorem countNoTenant_lanesStand (port vlan : Nat) : LanesStand s (s.countNoTenant port vlan) :=
  (setTp_lanesStand ..).trans (emitOnceKey_lanesStand ..)

end

/-! ## A protected frame (Table 11.4, R266, R267) -/

section
variable (s : State)

@[simp] theorem laneCipher_setLaneCipher (n : Nat) (v : LaneCipher) : (s.setLaneCipher n v).laneCipher n = v :=
  tabGet_tabPut_same ..

theorem laneCipher_congr {s t : State} (h : t.link = s.link) (n : Nat) : t.laneCipher n = s.laneCipher n := by
  rw [laneCipher, laneCipher, h]

/-- A frame of no stream counts on its lane, and every receive stream stands. -/
theorem noStream_counts (n : Nat) :
    ((s.noStream n).laneCipher n).noStream = satInc 36 (s.laneCipher n).noStream ∧ (s.noStream n).link.rx = s.link.rx := by
  have hlink : (s.noStream n).link = (s.setLaneCipher n { s.laneCipher n with
      noStream := satInc 36 (s.laneCipher n).noStream }).link := emitOnceKey_link ..
  rw [laneCipher_congr hlink, hlink, laneCipher_setLaneCipher]
  exact ⟨rfl, rfl⟩

end
end State

/-- A lane has refused a frame with a code. -/
def LaneCipher.refusing (c : LaneCipher) (code : Nat) : LaneCipher :=
  if code = rcNoKey then { c with noKeyRx := satInc 36 c.noKeyRx }
  else if code = rcIcv then { c with icvFails := satInc 36 c.icvFails }
  else { c with replays := satInc 36 c.replays }

namespace State

section
variable (s : State)

/-- The observers have been told of a refusal. -/
def rxTold (n code len : Nat) : State :=
  if code = rcNoKey then s.occur (16 + n / 2) 0o005
  else (if code = rcIcv then s.occur (16 + n / 2) 0o003 else s.occur (16 + n / 2) 0o004).note
    (.slots true (n / 2) false (slotsOf len))

theorem rxTold_link (n code len : Nat) : (s.rxTold n code len).link = s.link := by
  unfold rxTold
  split
  · rfl
  · split <;> rfl

/-- A refused frame has been counted in its lane, and in its stream. -/
def rxCounted (n x code len : Nat) : State :=
  let u := (s.setLaneCipher n ((s.laneCipher n).refusing code)).rxTold n code len
  u.setRx x { u.rxStream x with bad := satInc 18 (u.rxStream x).bad }

theorem rxRefuse_eq (n x code len : Nat) : s.rxRefuse n x code len =
    match (s.rxCounted n x code len).tenantOfRx x with
    | some t => (s.rxCounted n x code len).refuseFirst t code
    | none => s.rxCounted n x code len := rfl

theorem rxRefuse_link (n x code len : Nat) : (s.rxRefuse n x code len).link = (s.rxCounted n x code len).link := by
  rw [rxRefuse_eq]
  split
  · exact (refuse_lanesStand ..).link
  · rfl

/-- A refusal is counted in its lane and stream. -/
theorem rxRefuse_counts (n x code len : Nat) :
    (s.rxRefuse n x code len).laneCipher n = (s.laneCipher n).refusing code ∧
      ((s.rxRefuse n x code len).rxStream x).bad = satInc 18 (s.rxStream x).bad := by
  have htold := rxTold_link (s.setLaneCipher n ((s.laneCipher n).refusing code)) n code len
  rw [laneCipher_congr (rxRefuse_link ..), rx_congr (rxRefuse_link ..), rxCounted, rxStream_setRx_same]
  exact ⟨(laneCipher_congr htold n).trans (laneCipher_setLaneCipher ..), congrArg (satInc 18 ·.bad) (rx_congr htold x)⟩

/-! ### A frame is accepted (R267) -/

theorem startReset_link (t trigger : Nat) : (s.startReset t trigger).link = s.link := by
  rw [(startReset_declines s t trigger).eq]
  rfl

theorem faultTenant_link (t cause : Nat) : (s.faultTenant t cause).link = s.link := by
  unfold faultTenant
  dsimp only
  split
  · rfl
  · split
    iterate 2
      split
      · exact startReset_link ..
      · rfl
    all_goals rfl

theorem destroyKey_link (n : Nat) : (s.destroyKey n).link = s.link := by
  have hdestroyed : (s.destroySlot n).link = s.link := (destroySlot_manages (op := False) ..).link
  have hcontained (u : State) : (u.containSlotFault n).link = u.link := by
    unfold containSlotFault
    split
    · exact faultTenant_link ..
    · split <;> rfl
  unfold destroyKey destroyContained
  dsimp only
  split
  · rfl
  · split
    · exact (hcontained _).trans hdestroyed
    · exact hdestroyed

/-- A packet number has been accepted: the numbers of its AN have advanced, and the frame has been counted. -/
def rxAdvanced (n x an pn : Nat) : State :=
  let v := s.rxStream x
  let p := rxPn v an
  let next := max p.nextRx (pn + 1)
  let low := max (p.lowest.getD 0) (next - entReplayWin v.entry)
  let u := s.setRx x { setRxPn v an { nextRx := next, lowest := some low } with frames := satInc 36 v.frames }
  (u.setLaneCipher n { s.laneCipher n with verifiedRx := satInc 36 (s.laneCipher n).verifiedRx }).occur (16 + n / 2) 0o002

theorem rxAccept_eq (n x an pn : Nat) : s.rxAccept n x an pn =
    let u := s.rxAdvanced n x an pn
    let v := u.rxStream x
    if v.state = RxState.overlap && v.an = an then
      ((u.rxEnter x .running an v).destroyKey (slotRx x (an + 1))).emit 0o100002 4 x an
    else u := rfl

@[simp] theorem rxPn_setRxPn (v : RxStream) (an : Nat) (p : RxPn) : rxPn (setRxPn v an p) an = p := by
  unfold rxPn setRxPn
  split <;> rfl

/-- A protected frame that is accepted counts in its lane and its stream, and NEXT_RX of its AN advances. -/
theorem rxAccept_counts (n x an pn : Nat) :
    ((s.rxAccept n x an pn).laneCipher n).verifiedRx = satInc 36 (s.laneCipher n).verifiedRx ∧
      ((s.rxAccept n x an pn).rxStream x).frames = satInc 36 (s.rxStream x).frames ∧
      (rxPn ((s.rxAccept n x an pn).rxStream x) an).nextRx = max (rxPn (s.rxStream x) an).nextRx (pn + 1) := by
  have hlane : (s.rxAdvanced n x an pn).laneCipher n =
      { s.laneCipher n with verifiedRx := satInc 36 (s.laneCipher n).verifiedRx } := laneCipher_setLaneCipher ..
  have hstream : (s.rxAdvanced n x an pn).rxStream x =
      { setRxPn (s.rxStream x) an {
          nextRx := max (rxPn (s.rxStream x) an).nextRx (pn + 1)
          lowest := some (max ((rxPn (s.rxStream x) an).lowest.getD 0)
            (max (rxPn (s.rxStream x) an).nextRx (pn + 1) - entReplayWin (s.rxStream x).entry)) } with
        frames := satInc 36 (s.rxStream x).frames } := rxStream_setRx_same ..
  have hframes : ((s.rxAdvanced n x an pn).rxStream x).frames = satInc 36 (s.rxStream x).frames := by rw [hstream]
  have hnext : (rxPn ((s.rxAdvanced n x an pn).rxStream x) an).nextRx = max (rxPn (s.rxStream x) an).nextRx (pn + 1) := by
    rw [hstream]
    exact congrArg RxPn.nextRx (rxPn_setRxPn ..)
  rw [rxAccept_eq]
  dsimp only
  split
  · rw [laneCipher_congr (emit_link ..), laneCipher_congr (destroyKey_link ..), rx_congr (emit_link ..),
      rx_congr (destroyKey_link ..), rxEnter, rxStream_setRx_same]
    exact ⟨congrArg LaneCipher.verifiedRx hlane, hframes, hnext⟩
  · exact ⟨congrArg LaneCipher.verifiedRx hlane, hframes, hnext⟩

/-! ### The checks of a protected frame, in their order -/

/-- A frame that has been accepted is offered to the tenant of its stream (R210). -/
def secOffered (n x len : Nat) (data : List Nat) : State :=
  let s := s.note (.slots true (n / 2) true (slotsOf len))
  let s := { s with free := s.free + 1 }.occurs (16 + n / 2) 0o011 (Config.freeNat s.free) 1
  match s.tenantOfRx x with
  | none => s.countNoTenant n (frameVlan data)
  | some t => s.offer t n true data

theorem secOffered_link (n x len : Nat) (data : List Nat) : (s.secOffered n x len data).link = s.link := by
  unfold secOffered
  dsimp only
  split
  · exact (countNoTenant_lanesStand ..).link
  · exact (offer_lanesStand ..).link

/-- A frame whose stream is known meets the checks that its slot and its packet number decide. -/
def secChecks (n x : Nat) (f : List Nat) : State :=
  let an := secTci (frameData f) % 4
  match s.lookup (slotRx x an), (rxPn (s.rxStream x) an).lowest with
  | none, _ => s.rxRefuse n x rcNoKey f.length
  | some _, none => s.rxRefuse n x rcReplay f.length
  | some value, some low =>
    let pn := recoverPn low (secPn (frameData f))
    match secOpen value pn (frameData f) with
    | none => s.rxRefuse n x rcIcv f.length
    | some data =>
      if pn < low then s.rxRefuse n x rcReplay f.length
      else (s.rxAccept n x an pn).secOffered n x f.length data

variable {s} {n x low value : Nat} {data f : List Nat}

theorem secFrame_of_stream (htci : secTci (frameData f) / 4 * 4 = 0x2C) (hsl : secSl (frameData f) = 0)
    (hrx : s.rxOf n (secSci (frameData f)) = some x) :
    s.secFrame n f none = ((s.occur (16 + n / 2) 0o006).occur 32 0o001).secChecks n x f := by
  have hhead : ¬ (secTci (frameData f) / 4 * 4 ≠ 0x2C ∨ secSl (frameData f) ≠ 0) := by simp [htci, hsl]
  unfold secFrame
  dsimp only
  rw [if_neg hhead, hrx]
  rfl

theorem secFrame_of_noStream (h : secTci (frameData f) / 4 * 4 ≠ 0x2C ∨ secSl (frameData f) ≠ 0 ∨
    s.rxOf n (secSci (frameData f)) = none) : s.secFrame n f none = s.noStream n := by
  unfold secFrame
  dsimp only
  by_cases hhead : secTci (frameData f) / 4 * 4 ≠ 0x2C ∨ secSl (frameData f) ≠ 0
  · rw [if_pos hhead]
  · rw [if_neg hhead, (or_assoc.mpr h).resolve_left hhead]

theorem secChecks_of_noKey (h : s.keyValid (slotRx x (secTci (frameData f) % 4)) = false) :
    s.secChecks n x f = s.rxRefuse n x rcNoKey f.length := by
  have hlookup : s.lookup (slotRx x (secTci (frameData f) % 4)) = none := by simp [lookup, h]
  simp only [secChecks, hlookup]

theorem secChecks_of_noLowest (hkey : s.keyValid (slotRx x (secTci (frameData f) % 4)) = true)
    (hlow : (rxPn (s.rxStream x) (secTci (frameData f) % 4)).lowest = none) :
    s.secChecks n x f = s.rxRefuse n x rcReplay f.length := by
  have hlookup : s.lookup (slotRx x (secTci (frameData f) % 4)) = some (s.slot (slotRx x (secTci (frameData f) % 4))).value :=
    if_pos hkey
  simp only [secChecks, hlookup, hlow]

section
variable (hkey : s.lookup (slotRx x (secTci (frameData f) % 4)) = some value)
  (hlow : (rxPn (s.rxStream x) (secTci (frameData f) % 4)).lowest = some low)
include hkey hlow

theorem secChecks_of_badTag (hopen : secOpen value (recoverPn low (secPn (frameData f))) (frameData f) = none) :
    s.secChecks n x f = s.rxRefuse n x rcIcv f.length := by
  simp only [secChecks, hkey, hlow, hopen]

theorem secChecks_of_replayed (hopen : secOpen value (recoverPn low (secPn (frameData f))) (frameData f) = some data)
    (hpn : recoverPn low (secPn (frameData f)) < low) :
    s.secChecks n x f = s.rxRefuse n x rcReplay f.length := by
  simp only [secChecks, hkey, hlow, hopen, hpn, if_true]

theorem secChecks_of_accepted (hopen : secOpen value (recoverPn low (secPn (frameData f))) (frameData f) = some data)
    (hpn : low ≤ recoverPn low (secPn (frameData f))) :
    s.secChecks n x f =
      (s.rxAccept n x (secTci (frameData f) % 4) (recoverPn low (secPn (frameData f)))).secOffered n x f.length data := by
  simp only [secChecks, hkey, hlow, hopen, hpn.not_gt, if_false]

end

end
end State
end Sys2Proof.Machine

namespace Sys2Proof.Machine
namespace State

/-! ## A frame on a trunk lane (Table 8.6, R187) -/

/-- The observers have been told of a frame on a trunk lane. -/
def trunkSeen (s : State) (n : Nat) (f : List Nat) : State :=
  let s := s.frameIn n f.length
  if fcsGood f then s.note (.rcd (10 + n) 0o02 (s.trunkRecord n f)) else s

theorem trunkSeen_eq (s : State) (n : Nat) (f : List Nat) :
    s.trunkSeen n f = s.telling (s.trunkSeen n f).notes s.sent s.way := by
  unfold trunkSeen frameIn
  dsimp only
  split <;> split <;> rfl

section
variable {s : State} {n : Nat} {f : List Nat}

theorem trunkRx_of_bad (h : fcsGood f = false ∨ f.length < 64) :
    s.trunkRx n f = ((s.trunkSeen n f).setLane n { (s.trunkSeen n f).lane n with
      lineErr := satInc 18 ((s.trunkSeen n f).lane n).lineErr }).occur n 0o003 := by
  have hbad : (!fcsGood f || decide (f.length < 64)) = true := by simpa using h
  exact if_pos hbad

theorem trunkRx_of_good (hgood : fcsGood f = true) (hmin : 64 ≤ f.length) :
    s.trunkRx n f = (s.trunkSeen n f).trunkFrame n f none := by
  have hbad : ¬ (!fcsGood f || decide (f.length < 64)) = true := by simp [hgood, hmin]
  exact if_neg hbad

theorem trunkFrame_of_other (hmax : f.length ≤ s.laneMaxFrame n) (hmac : pairAt f 12 ≠ 0x8808) (hzheac : pairAt f 12 ≠ 0x88B5)
    (hsec : pairAt f 12 ≠ 0x88E5) : s.trunkFrame n f none = s.noStream n := by
  simp [trunkFrame, hmax.not_gt, hmac, hzheac, hsec]

theorem trunkFrame_of_sec (hmax : f.length ≤ s.laneMaxFrame n) (hsec : pairAt f 12 = 0x88E5) (hmin : 96 ≤ f.length) :
    s.trunkFrame n f none = s.secFrame n f none := by
  simp [trunkFrame, hmax.not_gt, hsec, hmin.not_gt]

end

/-! ## A codeword on a direct trunk (R186 to R188) -/

section
variable (s : State) (n : Nat)

/-- The receiver has taken a codeword, and a delineation error has been counted. -/
def lineTaken (r : LineResult) : State :=
  let s := s.setLane n { s.lane n with lineRx := r.rx }
  if r.misplaced then (s.setLane n { s.lane n with delinErr := satInc 18 (s.lane n).delinErr }).occur n 0o011 else s

theorem lane_lineTaken (r : LineResult) : (s.lineTaken n r).lane n =
    { s.lane n with
      lineRx := r.rx, delinErr := if r.misplaced then satInc 18 (s.lane n).delinErr else (s.lane n).delinErr } := by
  unfold lineTaken
  dsimp only
  split
  · rw [occur_lane, lane_setLane_same, lane_setLane_same]
  · rw [lane_setLane_same]

theorem laneErrDown_lineTaken (r : LineResult) : (s.lineTaken n r).laneErrDown n = s.laneErrDown n := by
  unfold lineTaken
  dsimp only
  split <;> rfl

theorem codewordRx_eq (levels : Nat) : s.codewordRx n levels =
    let r := (s.lane n).lineRx.codeword levels
    let u := r.frames.foldl (fun s f => if s.laneUpNow n then s.trunkRx n f else s) (s.lineTaken n r)
    u.lineErrors n (flag 0 r.corrected) (flag 0 r.failed) (!r.rx.buf.isEmpty) := rfl

theorem laneUpNow_lineTaken (r : LineResult) : (s.lineTaken n r).laneUpNow n = s.laneUpNow n := by
  rw [laneUpNow, laneUpNow, lane_lineTaken]

/-- The lane after a codeword whose errors have been counted. -/
theorem errorsCounted_lineTaken (r : LineResult) (corrected uncorrectable : Nat) :
    (((s.lineTaken n r).errorsCounted n corrected uncorrectable).lane n).lineRx = r.rx ∧
      (((s.lineTaken n r).errorsCounted n corrected uncorrectable).lane n).fecCorr =
        satAdd 36 (s.lane n).fecCorr corrected ∧
      (((s.lineTaken n r).errorsCounted n corrected uncorrectable).lane n).fecUncorr =
        satAdd 36 (s.lane n).fecUncorr uncorrectable ∧
      (((s.lineTaken n r).errorsCounted n corrected uncorrectable).lane n).delinErr =
        (if r.misplaced then satInc 18 (s.lane n).delinErr else (s.lane n).delinErr) := by
  rw [lane_errorsCounted, lane_lineTaken]
  exact ⟨rfl, rfl, rfl, rfl⟩

variable {s n}

/-- A codeword that completes no frame for a lane that is UP only counts; its errors take no lane down that sets no limit. -/
theorem codewordRx_of_quiet {levels : Nat}
    (h : s.laneUpNow n = true → s.laneErrDown n = 0 ∧ ((s.lane n).lineRx.codeword levels).frames = []) :
    s.codewordRx n levels =
      (s.lineTaken n ((s.lane n).lineRx.codeword levels)).errorsCounted n
        (flag 0 ((s.lane n).lineRx.codeword levels).corrected) (flag 0 ((s.lane n).lineRx.codeword levels).failed) := by
  have hframes : ((s.lane n).lineRx.codeword levels).frames.foldl (fun s f => if s.laneUpNow n then s.trunkRx n f else s)
      (s.lineTaken n ((s.lane n).lineRx.codeword levels)) = s.lineTaken n ((s.lane n).lineRx.codeword levels) := by
    by_cases hup : s.laneUpNow n = true
    · rw [(h hup).2, List.foldl_nil]
    · exact List.foldl_fixed' (fun f => if_neg (by rwa [laneUpNow_lineTaken])) _
  rw [codewordRx_eq]
  dsimp only
  rw [hframes, lineErrors_eq, if_neg]
  rintro ⟨hup, hset, -⟩
  rw [laneUpNow_lineTaken] at hup
  exact hset ((laneErrDown_lineTaken ..).trans (h hup).1)

end
end State

/-! ## The command -/

section
variable {s : State} {lane : Fin 16} {n x : Nat} {bytes : List Byte}

theorem wireLane_of_laneLead (hlead : s.laneLead lane = some n) (hreplay : s.replayMode = false) :
    s.wireLane lane = some n := by
  rw [State.wireLane, hreplay]
  exact hlead

/-- A frame on an Ethernet trunk that is UP is taken as the lane's, told to the observers first. -/
theorem trunkFrameRx_takes (hlead : s.laneLead lane = some n) (htrunk : s.laneIsTrunk n = true) (hup : s.laneUpNow n = true)
    (hreplay : s.replayMode = false) (hmode : s.laneMode n ≠ 6) :
    ∃ t, exec (.trunkFrameRx lane (.frame bytes)) s = .next t ∧
      (∀ m, t.lane m = (s.clear.trunkRx n (bytesOf bytes)).lane m) ∧ t.link = (s.clear.trunkRx n (bytesOf bytes)).link := by
  have hethernet : (s.clear.laneUpNow n && decide (s.clear.laneMode n ≠ 6)) = true := by
    change (s.laneUpNow n && decide (s.laneMode n ≠ 6)) = true
    simp [hup, hmode]
  have hside : ¬ (!s.clear.laneIsTrunk n) = true := by
    change ¬ (!s.laneIsTrunk n) = true
    simp [htrunk]
  obtain ⟨t, ht, -, hsame⟩ := exec_reaches (s := s) (i := .trunkFrameRx lane (.frame bytes))
    (u := s.clear.trunkRx n (bytesOf bytes)) rfl
    (by rw [clear_wireLane (wireLane_of_laneLead hlead hreplay)]; exact (if_neg hside).trans (if_pos hethernet))
  exact ⟨t, ht, State.lane_congr (hsame .lanes (by decide) rfl), hsame .link (by decide) rfl⟩

theorem trunkFrameRx_bad (hlead : s.laneLead lane = some n) (htrunk : s.laneIsTrunk n = true) (hup : s.laneUpNow n = true)
    (hreplay : s.replayMode = false) (hmode : s.laneMode n ≠ 6) (hbad : fcsGood (bytesOf bytes) = false ∨ bytes.length < 64) :
    ∃ t, exec (.trunkFrameRx lane (.frame bytes)) s = .next t ∧
      (t.lane n).lineErr = satInc 18 (s.lane n).lineErr ∧ t.link = s.link := by
  obtain ⟨t, ht, hlane, hlink⟩ := trunkFrameRx_takes (bytes := bytes) hlead htrunk hup hreplay hmode
  refine ⟨t, ht, ?_⟩
  rw [hlane, hlink, State.trunkRx_of_bad (by simpa using hbad), State.trunkSeen_eq, State.occur_lane, State.lane_setLane_same]
  exact ⟨rfl, rfl⟩

/-- A frame that a trunk lane takes leaves the Link Cipher as its EtherType has it. -/
theorem trunkFrameRx_arrives (h : s.trunkArrives lane n (bytesOf bytes) = true) :
    (bytesOf bytes).length ≤ s.laneMaxFrame n ∧ ∃ t notes, exec (.trunkFrameRx lane (.frame bytes)) s = .next t ∧
      t.link = ((s.telling notes [] s.way).trunkFrame n (bytesOf bytes) none).link := by
  simp only [State.trunkArrives, Bool.and_eq_true, Bool.not_eq_true', decide_eq_true_eq] at h
  obtain ⟨⟨⟨⟨⟨⟨hlead, htrunk⟩, hup⟩, hreplay⟩, hmode⟩, hgood⟩, hmin, hmax⟩ := h
  obtain ⟨t, ht, -, hlink⟩ := trunkFrameRx_takes (bytes := bytes) hlead htrunk hup hreplay hmode
  refine ⟨hmax, t, (s.clear.trunkSeen n (bytesOf bytes)).notes, ht, ?_⟩
  rw [hlink, State.trunkRx_of_good hgood hmin, State.trunkSeen_eq]
  rfl

theorem trunkFrameRx_other (h : s.trunkArrives lane n (bytesOf bytes) = true) (hmac : pairAt (bytesOf bytes) 12 ≠ 0x8808)
    (hzheac : pairAt (bytesOf bytes) 12 ≠ 0x88B5) (hsec : pairAt (bytesOf bytes) 12 ≠ 0x88E5) :
    ∃ t, exec (.trunkFrameRx lane (.frame bytes)) s = .next t ∧
      (t.laneCipher n).noStream = satInc 36 (s.laneCipher n).noStream ∧ t.link.rx = s.link.rx := by
  obtain ⟨hmax, t, notes, ht, hlink⟩ := trunkFrameRx_arrives h
  have hmax' : (bytesOf bytes).length ≤ (s.telling notes [] s.way).laneMaxFrame n := hmax
  rw [State.trunkFrame_of_other hmax' hmac hzheac hsec] at hlink
  refine ⟨t, ht, ?_⟩
  rw [State.laneCipher_congr hlink, hlink]
  exact State.noStream_counts (s.telling notes [] s.way) n

theorem trunkFrameRx_noStream (h : s.trunkArrives lane n (bytesOf bytes) = true) (hsec : pairAt (bytesOf bytes) 12 = 0x88E5)
    (hmin : 96 ≤ bytes.length) (hnone : secTci (frameData (bytesOf bytes)) / 4 * 4 ≠ 0x2C ∨
      secSl (frameData (bytesOf bytes)) ≠ 0 ∨ s.rxOf n (secSci (frameData (bytesOf bytes))) = none) :
    ∃ t, exec (.trunkFrameRx lane (.frame bytes)) s = .next t ∧
      (t.laneCipher n).noStream = satInc 36 (s.laneCipher n).noStream ∧ t.link.rx = s.link.rx := by
  obtain ⟨hmax, t, notes, ht, hlink⟩ := trunkFrameRx_arrives h
  have hmax' : (bytesOf bytes).length ≤ (s.telling notes [] s.way).laneMaxFrame n := hmax
  have hnone' := State.secFrame_of_noStream (s := s.telling notes [] s.way) hnone
  rw [State.trunkFrame_of_sec hmax' hsec (by rwa [length_bytesOf]), hnone'] at hlink
  refine ⟨t, ht, ?_⟩
  rw [State.laneCipher_congr hlink, hlink]
  exact State.noStream_counts (s.telling notes [] s.way) n

/-- A protected frame of a known stream leaves the Link Cipher as the checks of its slot and its packet number have it. -/
theorem trunkFrameRx_sec (h : s.secArrives lane n x (bytesOf bytes) = true) :
    ∃ t notes, exec (.trunkFrameRx lane (.frame bytes)) s = .next t ∧
      t.link = ((s.telling notes [] s.way).secChecks n x (bytesOf bytes)).link := by
  simp only [State.secArrives, Bool.and_eq_true, decide_eq_true_eq] at h
  obtain ⟨harrives, hsec, hmin, htci, hsl, hrx⟩ := h
  obtain ⟨hmax, t, notes, ht, hlink⟩ := trunkFrameRx_arrives harrives
  have hmax' : (bytesOf bytes).length ≤ (s.telling notes [] s.way).laneMaxFrame n := hmax
  have hrx' : (s.telling notes [] s.way).rxOf n (secSci (frameData (bytesOf bytes))) = some x := hrx
  rw [State.trunkFrame_of_sec hmax' hsec hmin, State.secFrame_of_stream htci hsl hrx', State.telling_occur,
    State.telling_occur] at hlink
  exact ⟨t, _, ht, hlink⟩

/-- A protected frame that a check refuses counts in its lane, under the code of the check, and in its stream. -/
theorem trunkFrameRx_refused {code : Nat} (h : s.secArrives lane n x (bytesOf bytes) = true)
    (hrefused : ∀ notes, (s.telling notes [] s.way).secChecks n x (bytesOf bytes) =
      (s.telling notes [] s.way).rxRefuse n x code (bytesOf bytes).length) :
    ∃ t, exec (.trunkFrameRx lane (.frame bytes)) s = .next t ∧
      t.laneCipher n = (s.laneCipher n).refusing code ∧ (t.rxStream x).bad = satInc 18 (s.rxStream x).bad := by
  obtain ⟨t, notes, ht, hlink⟩ := trunkFrameRx_sec h
  rw [hrefused] at hlink
  refine ⟨t, ht, ?_⟩
  rw [State.laneCipher_congr hlink, State.rx_congr hlink]
  exact State.rxRefuse_counts (s.telling notes [] s.way) n x code _

theorem LaneCipher.refusing_noKey (c : LaneCipher) : (c.refusing rcNoKey).noKeyRx = satInc 36 c.noKeyRx := rfl
theorem LaneCipher.refusing_icv (c : LaneCipher) : (c.refusing rcIcv).icvFails = satInc 36 c.icvFails := rfl
theorem LaneCipher.refusing_replay (c : LaneCipher) : (c.refusing rcReplay).replays = satInc 36 c.replays := rfl

theorem trunkFrameRx_noKey (h : s.secArrives lane n x (bytesOf bytes) = true)
    (hkey : s.keyValid (slotRx x (secTci (frameData (bytesOf bytes)) % 4)) = false) :
    ∃ t, exec (.trunkFrameRx lane (.frame bytes)) s = .next t ∧
      (t.laneCipher n).noKeyRx = satInc 36 (s.laneCipher n).noKeyRx ∧ (t.rxStream x).bad = satInc 18 (s.rxStream x).bad := by
  obtain ⟨t, ht, hlane, hbad⟩ := trunkFrameRx_refused h fun _ => State.secChecks_of_noKey hkey
  exact ⟨t, ht, by rw [hlane, LaneCipher.refusing_noKey], hbad⟩

theorem trunkFrameRx_noLowest (h : s.secArrives lane n x (bytesOf bytes) = true)
    (hkey : s.keyValid (slotRx x (secTci (frameData (bytesOf bytes)) % 4)) = true)
    (hlow : (State.rxPn (s.rxStream x) (secTci (frameData (bytesOf bytes)) % 4)).lowest = none) :
    ∃ t, exec (.trunkFrameRx lane (.frame bytes)) s = .next t ∧
      (t.laneCipher n).replays = satInc 36 (s.laneCipher n).replays ∧ (t.rxStream x).bad = satInc 18 (s.rxStream x).bad := by
  obtain ⟨t, ht, hlane, hbad⟩ := trunkFrameRx_refused h fun _ => State.secChecks_of_noLowest hkey hlow
  exact ⟨t, ht, by rw [hlane, LaneCipher.refusing_replay], hbad⟩

section
variable {low value : Nat} {data : List Nat} (h : s.secArrives lane n x (bytesOf bytes) = true)
  (hkey : s.lookup (slotRx x (secTci (frameData (bytesOf bytes)) % 4)) = some value)
  (hlow : (State.rxPn (s.rxStream x) (secTci (frameData (bytesOf bytes)) % 4)).lowest = some low)
include h hkey hlow

theorem trunkFrameRx_badTag (hopen : secOpen value (State.recoverPn low (secPn (frameData (bytesOf bytes))))
      (frameData (bytesOf bytes)) = none) :
    ∃ t, exec (.trunkFrameRx lane (.frame bytes)) s = .next t ∧
      (t.laneCipher n).icvFails = satInc 36 (s.laneCipher n).icvFails ∧ (t.rxStream x).bad = satInc 18 (s.rxStream x).bad := by
  obtain ⟨t, ht, hlane, hbad⟩ := trunkFrameRx_refused h fun _ => State.secChecks_of_badTag hkey hlow hopen
  exact ⟨t, ht, by rw [hlane, LaneCipher.refusing_icv], hbad⟩

variable (hopen : secOpen value (State.recoverPn low (secPn (frameData (bytesOf bytes)))) (frameData (bytesOf bytes)) =
  some data)
include hopen

theorem trunkFrameRx_replayed (hpn : State.recoverPn low (secPn (frameData (bytesOf bytes))) < low) :
    ∃ t, exec (.trunkFrameRx lane (.frame bytes)) s = .next t ∧
      (t.laneCipher n).replays = satInc 36 (s.laneCipher n).replays ∧ (t.rxStream x).bad = satInc 18 (s.rxStream x).bad := by
  obtain ⟨t, ht, hlane, hbad⟩ := trunkFrameRx_refused h fun _ => State.secChecks_of_replayed hkey hlow hopen hpn
  exact ⟨t, ht, by rw [hlane, LaneCipher.refusing_replay], hbad⟩

theorem trunkFrameRx_accepted (hpn : low ≤ State.recoverPn low (secPn (frameData (bytesOf bytes)))) :
    ∃ t, exec (.trunkFrameRx lane (.frame bytes)) s = .next t ∧
      (t.laneCipher n).verifiedRx = satInc 36 (s.laneCipher n).verifiedRx ∧
      (t.rxStream x).frames = satInc 36 (s.rxStream x).frames ∧
      (State.rxPn (t.rxStream x) (secTci (frameData (bytesOf bytes)) % 4)).nextRx =
        max (State.rxPn (s.rxStream x) (secTci (frameData (bytesOf bytes)) % 4)).nextRx
          (State.recoverPn low (secPn (frameData (bytesOf bytes))) + 1) := by
  obtain ⟨t, notes, ht, hlink⟩ := trunkFrameRx_sec h
  have hchecks := State.secChecks_of_accepted (s := s.telling notes [] s.way) (n := n) hkey hlow hopen hpn
  rw [hchecks, State.secOffered_link] at hlink
  refine ⟨t, ht, ?_⟩
  rw [State.laneCipher_congr hlink, State.rx_congr hlink]
  exact State.rxAccept_counts (s.telling notes [] s.way) n x _ _

end

theorem trunkFrameRx_codeword {levels : BitVec 15750} (hlead : s.laneLead lane = some n) (htrunk : s.laneIsTrunk n = true)
    (hmode : s.laneMode n = 6) (hreplay : s.replayMode = false) (hoff : (s.lane n).state ≠ .off)
    (hdamped : (s.lane n).state ≠ .damped) (hquiet : s.laneUpNow n = true →
      s.laneErrDown n = 0 ∧ ((s.lane n).lineRx.codeword levels.toNat).frames = []) :
    ∃ t, exec (.trunkFrameRx lane (.codeword levels)) s = .next t ∧
      (t.lane n).lineRx = ((s.lane n).lineRx.codeword levels.toNat).rx ∧
      (t.lane n).fecCorr = satAdd 36 (s.lane n).fecCorr (flag 0 ((s.lane n).lineRx.codeword levels.toNat).corrected) ∧
      (t.lane n).fecUncorr = satAdd 36 (s.lane n).fecUncorr (flag 0 ((s.lane n).lineRx.codeword levels.toNat).failed) ∧
      (t.lane n).delinErr = (if ((s.lane n).lineRx.codeword levels.toNat).misplaced then satInc 18 (s.lane n).delinErr
        else (s.lane n).delinErr) := by
  have hdirect : (decide (s.clear.laneMode n = 6) &&
      decide ((s.clear.lane n).state ≠ LaneState.off ∧ (s.clear.lane n).state ≠ LaneState.damped)) = true := by
    change (decide (s.laneMode n = 6) &&
      decide ((s.lane n).state ≠ LaneState.off ∧ (s.lane n).state ≠ LaneState.damped)) = true
    simp [hmode, hoff, hdamped]
  have hside : ¬ (!s.clear.laneIsTrunk n) = true := by
    change ¬ (!s.laneIsTrunk n) = true
    simp [htrunk]
  obtain ⟨t, ht, hlane, -⟩ := exec_reaches_lane (s := s) (i := .trunkFrameRx lane (.codeword levels))
    (u := s.clear.codewordRx n levels.toNat) rfl rfl
    (by rw [clear_wireLane (wireLane_of_laneLead hlead hreplay)]; exact (if_neg hside).trans (if_pos hdirect))
  refine ⟨t, ht, ?_⟩
  rw [hlane, State.codewordRx_of_quiet (s := s.clear) hquiet]
  exact s.clear.errorsCounted_lineTaken n ((s.lane n).lineRx.codeword levels.toNat) _ _

end

/-- Settles O26, one lemma for each check that a frame on a trunk lane meets, in the order of Table 11.4. -/
theorem trunkFramesComplete : Obligations.TrunkFramesComplete :=
  ⟨fun _ _ _ _ hlead htrunk hup hreplay hmode hbad => trunkFrameRx_bad hlead htrunk hup hreplay hmode hbad,
    fun _ _ _ _ h hmac hzheac hsec => trunkFrameRx_other h hmac hzheac hsec,
    fun _ _ _ _ h hsec hmin hnone => trunkFrameRx_noStream h hsec hmin hnone,
    fun _ _ _ _ _ h hkey => trunkFrameRx_noKey h hkey,
    fun _ _ _ _ _ h hkey hlow => trunkFrameRx_noLowest h hkey hlow,
    fun _ _ _ _ _ _ _ h hkey hlow hopen => trunkFrameRx_badTag h hkey hlow hopen,
    fun _ _ _ _ _ _ _ _ h hkey hlow hopen hpn => trunkFrameRx_replayed h hkey hlow hopen hpn,
    fun _ _ _ _ _ _ _ _ h hkey hlow hopen hpn => trunkFrameRx_accepted h hkey hlow hopen hpn,
    fun _ _ _ _ hlead htrunk hmode hreplay hoff hdamped hquiet =>
      trunkFrameRx_codeword hlead htrunk hmode hreplay hoff hdamped hquiet⟩

end Sys2Proof.Machine

namespace Sys2Proof.Machine
namespace State

/-! ## What a tenant has acknowledged, and what it has been notified of (R225, R226) -/

/-- Between two states events may have entered the rings of tenants, and notification frames may have been built if `sends`:
what every tenant has acknowledged stands, and without such frames also what it has been notified of. -/
structure KeepsAcks (sends : Prop) (s t : State) : Prop where
  ackSeq : ∀ n, (t.tenant n).ackSeq = (s.tenant n).ackSeq
  notified : ¬ sends → ∀ n, (t.tenant n).notified = (s.tenant n).notified
  notifySent : ¬ sends → ∀ n, (t.tenant n).notifySent = (s.tenant n).notifySent

namespace KeepsAcks

variable {sends : Prop} {s t u : State}

theorem of_tenants (h : t.tenants = s.tenants) : KeepsAcks sends s t := by
  have htenant (n : Nat) : t.tenant n = s.tenant n := by rw [tenant, tenant, h]
  exact ⟨fun n => by rw [htenant], fun _ n => by rw [htenant], fun _ n => by rw [htenant]⟩

theorem refl (s : State) : KeepsAcks sends s s := .of_tenants rfl

theorem trans (h : KeepsAcks sends s t) (h' : KeepsAcks sends t u) : KeepsAcks sends s u :=
  ⟨fun n => (h'.ackSeq n).trans (h.ackSeq n), fun hs n => (h'.notified hs n).trans (h.notified hs n),
    fun hs n => (h'.notifySent hs n).trans (h.notifySent hs n)⟩

theorem ite {c : Prop} [Decidable c] (ht : KeepsAcks sends s t) (hu : KeepsAcks sends s u) :
    KeepsAcks sends s (if c then t else u) := by
  split
  · exact ht
  · exact hu

end KeepsAcks

section
variable {sends : Prop} (s : State)

theorem setTenant_keepsAcks {t : Nat} {v : Tenant} (hack : v.ackSeq = (s.tenant t).ackSeq)
    (hnotified : ¬ sends → v.notified = (s.tenant t).notified)
    (hsent : ¬ sends → v.notifySent = (s.tenant t).notifySent) : KeepsAcks sends s (s.setTenant t v) := by
  have hfield {α : Type} (g : Tenant → α) (h : g v = g (s.tenant t)) (n : Nat) :
      g ((s.setTenant t v).tenant n) = g (s.tenant n) := by
    by_cases hn : t = n
    · subst hn
      rw [tenant_setTenant_same, h]
    · rw [tenant_setTenant_other s v hn]
  exact ⟨hfield Tenant.ackSeq hack, fun h => hfield Tenant.notified (hnotified h),
    fun h => hfield Tenant.notifySent (hsent h)⟩

/-! ### Events and the end of a session -/

theorem storeRecord_keepsAcks (t e kind number arg : Nat) : KeepsAcks sends s (s.storeRecord t e kind number arg) :=
  .ite (setTenant_keepsAcks s rfl (fun _ => rfl) (fun _ => rfl)) (setTenant_keepsAcks s rfl (fun _ => rfl) (fun _ => rfl))

theorem copyToTenants_keepsAcks (e kind number arg : Nat) : KeepsAcks sends s (s.copyToTenants e kind number arg) :=
  .ite (List.foldlRecOn _ _ (motive := KeepsAcks sends s) (.refl s) fun _ hu _ _ => hu.trans (storeRecord_keepsAcks ..))
    (.refl s)

theorem emit_keepsAcks (e kind number arg : Nat) : KeepsAcks sends s (s.emit e kind number arg) :=
  (copyToTenants_keepsAcks s e kind number (arg % 2 ^ 18)).trans (.of_tenants rfl)

theorem note_keepsAcks (n : Note) : KeepsAcks sends s (s.note n) := .of_tenants rfl
theorem send_keepsAcks (m : Sent) : KeepsAcks sends s (s.send m) := .of_tenants rfl

@[simp] theorem setSession_tenants (c : Caller) (v : Session) : (s.setSession c v).tenants = s.tenants := by cases c <;> rfl

@[simp] theorem frameOut_tenants (port len : Nat) : (s.frameOut port len).tenants = s.tenants := by
  unfold frameOut
  dsimp only
  split <;> rfl

theorem destroySlot_tenants (n : Nat) : (s.destroySlot n).tenants = s.tenants := by
  unfold destroySlot
  dsimp only
  split
  · rfl
  · split <;> simp [slotFails, keyRecord]

theorem sealFrame_tenants {s t : State} {c : Caller} {kind : Nat} {body m : List Nat}
    (h : s.sealFrame c kind body = some (m, t)) : t.tenants = s.tenants := by
  unfold sealFrame at h
  split at h
  · cases h
    exact setSession_tenants ..
  · cases h

theorem sealSession_tenants {s t : State} {n u kind : Nat} {body : List Nat} {f : MgmtFrame}
    (h : s.sealSession n u kind body = some (f, t)) : t.tenants = s.tenants := by
  obtain ⟨⟨m, t'⟩, hm, hf⟩ := Option.map_eq_some_iff.mp h
  cases hf
  exact sealFrame_tenants hm

theorem sessionSealed_tenants (c : Caller) : (s.sessionSealed c).tenants = s.tenants := by
  cases c with
  | tenant t =>
    refine foldl_keeps (fun a : List (Nat × MgmtItem) × State => a.2.tenants) _ (fun a e => ?_) s.tp.mgmtWait ([], s)
    split
    · split
      · split
        · next h => exact sealSession_tenants h
        · rfl
      · rfl
    · split <;> rfl
    · rfl
  | operator | plain => rfl

theorem sessionUnstaged_tenants (c : Caller) : (s.sessionUnstaged c).tenants = s.tenants := by
  cases c with
  | operator n =>
    change (s.abandonStaging n).tenants = s.tenants
    unfold abandonStaging
    split
    · split <;> rfl
    · rfl
  | tenant | plain => rfl

theorem sessionEnded_keepsAcks (c : Caller) (v : Session) (cause : Nat) : KeepsAcks sends s (s.sessionEnded c v cause) := by
  have hgone (w : SpUnit) (l : List Note) : KeepsAcks sends s { s with sp := w, notes := l } := .of_tenants rfl
  exact .ite ((hgone ..).trans (emit_keepsAcks ..)) (hgone ..)

theorem closeSession_keepsAcks (c : Caller) (cause : Nat) : KeepsAcks sends s (s.closeSession c cause) := by
  have hgiven : KeepsAcks sends s ((((s.sessionSealed c).setSession c {}).destroySlot (sessSlot c)).sessionUnstaged c) :=
    .of_tenants (by rw [sessionUnstaged_tenants, destroySlot_tenants, setSession_tenants, sessionSealed_tenants])
  rw [closeSession_eq]
  split
  · exact .ite (.refl s) (hgiven.trans (sessionEnded_keepsAcks ..))
  · exact .refl s

theorem settleSeq_keepsAcks (c : Caller) : KeepsAcks sends s (s.settleSeq c) := by
  unfold settleSeq
  split
  · exact .ite (closeSession_keepsAcks ..) (.refl s)
  · exact .refl s

/-! ### A response, for which notification frames that wait may be built (R232) -/

variable {s} {t : State} {u : Nat}

theorem buildNotify_keepsAcks {f : List Nat} (h : s.buildNotify u = some (f, t)) : KeepsAcks True s t := by
  unfold buildNotify at h
  dsimp only at h
  split at h
  · cases h
  · obtain ⟨⟨m, t'⟩, hm, hf⟩ := Option.map_eq_some_iff.mp h
    cases hf
    have hseal : KeepsAcks True s t' := .of_tenants (sealFrame_tenants hm)
    have hbooked (n k : Nat) (time : Option Nat) : KeepsAcks True t' (t'.setTenant u
        { t'.tenant u with notified := n, notifiedAt := time, notifyDue := false, notifySent := k }) :=
      setTenant_keepsAcks t' rfl (absurd trivial) (absurd trivial)
    exact (hseal.trans (hbooked ..)).trans
      (((note_keepsAcks ..).trans (send_keepsAcks ..)).trans (settleSeq_keepsAcks ..))

theorem buildItem_keepsAcks {n : Nat} {i : MgmtItem} {f : MgmtFrame} (h : s.buildItem n i = some (f, t)) :
    KeepsAcks True s t := by
  cases i with
  | session u kind body =>
    obtain ⟨⟨f', t'⟩, hm, hf⟩ := Option.map_eq_some_iff.mp h
    cases hf
    exact .trans (.of_tenants (sealSession_tenants hm)) (settleSeq_keepsAcks ..)
  | notify u =>
    obtain ⟨⟨f', t'⟩, hm, hf⟩ := Option.map_eq_some_iff.mp h
    cases hf
    exact buildNotify_keepsAcks hm
  | whole f' =>
    cases h
    exact .refl s

variable (s)

theorem mgmtAdmit_keepsAcks (l : List (Nat × MgmtItem)) : KeepsAcks True s (s.mgmtAdmit l) := by
  induction l generalizing s with
  | nil => exact .of_tenants rfl
  | cons e l ih =>
    obtain ⟨n, i⟩ := e
    rw [mgmtAdmit]
    refine .ite ?_ (.of_tenants rfl)
    split
    · next h => exact (buildItem_keepsAcks h).trans (.trans (.of_tenants (setSched_tenants ..)) (ih _))
    · exact ih s

theorem toPrincipal_keepsAcks (c : Caller) (kind : Nat) (body : List Nat) : KeepsAcks True s (s.toPrincipal c kind body) := by
  have hseal : KeepsAcks True s (match s.sealFrame c kind body, s.session? c with
      | some (m, s), some v =>
        ((s.send (.mport (s.mportFrame v.peer m))).frameOut 17 (sessionFrame false body.length)).settleSeq c
      | _, _ => s) := by
    split
    · next hm _ =>
      refine .trans (.of_tenants ?_) (settleSeq_keepsAcks ..)
      rw [frameOut_tenants, send_tenants, sealFrame_tenants hm]
    · exact .refl s
  cases c with
  | tenant t => exact .ite (.refl s) (mgmtAdmit_keepsAcks ..)
  | operator | plain => exact hseal

theorem respond_keepsAcks (c : Caller) (verb status : Nat) (words : List Word) :
    KeepsAcks True s (s.respond c verb status words) := by
  unfold respond
  dsimp only
  split
  · exact .trans (.of_tenants (by simp)) (toPrincipal_keepsAcks ..)
  · exact .of_tenants (by simp)

theorem takeRequest_keepsAcks (c : Caller) (seq tag : Nat) (body : List Nat) :
    KeepsAcks True s (s.takeRequest c seq tag body) := by
  have hopened (v : Session) (b : Prop) [Decidable b] (e k n a : Nat) :
      KeepsAcks True s (if b then (s.setSession c v).emit e k n a else s.setSession c v) :=
    have hset : KeepsAcks True s (s.setSession c v) := .of_tenants (setSession_tenants ..)
    .ite (hset.trans (emit_keepsAcks ..)) hset
  unfold takeRequest
  dsimp only
  split
  · exact .ite (hopened ..) ((hopened ..).trans (respond_keepsAcks ..))
  · exact .refl s

theorem handleRequest_keepsAcks (c : Caller) (seq tag : Nat) (body : List Nat) :
    KeepsAcks True s (s.handleRequest c seq tag body) := by
  have htake := takeRequest_keepsAcks s c seq tag body
  have hcounted (w : SpUnit) (l : List Note) : KeepsAcks True s { s with sp := w, notes := l } := .of_tenants rfl
  unfold handleRequest
  dsimp only
  split
  · exact .refl s
  · refine .ite (.ite htake (hcounted ..)) (.ite ?_ (.ite (.ite (hcounted _ s.notes) htake) (hcounted ..)))
    split
    · exact (hcounted _ s.notes).trans (toPrincipal_keepsAcks ..)
    · exact .refl s

theorem takeHeld_keepsAcks (c : Caller) (k : Nat) : KeepsAcks True s (s.takeHeld c k) := by
  induction k generalizing s with
  | zero => exact .refl s
  | succ k ih =>
    have hnext (w : SpUnit) (f : HeldRequest) :
        KeepsAcks True s (({ s with sp := w }.handleRequest c f.seq f.tag f.body).takeHeld c k) :=
      .trans (t := { s with sp := w }) (.of_tenants rfl) ((handleRequest_keepsAcks ..).trans (ih _))
    rw [takeHeld]
    cases s.sp.held.find? (fun f => decide (f.caller = c)) with
    | none => exact .refl s
    | some f => exact .ite (.refl s) (hnext _ f)

theorem respondLater_keepsAcks (c : Caller) (verb status : Nat) (words : List Word) (args : List Nat) :
    KeepsAcks True s (s.respondLater c verb status words args) :=
  (respond_keepsAcks s c verb status words).trans ((note_keepsAcks ..).trans (takeHeld_keepsAcks ..))

/-! ### An acknowledgement (R225) -/

/-- A value that names the present acknowledgement, or a record stored after it, becomes the acknowledgement. -/
theorem ackSeq_of_stored {t v : Nat}
    (h : (v + 2 ^ 18 - (s.tenant t).ackSeq) % 2 ^ 18 ≤ ((s.tenant t).produced + 2 ^ 18 - (s.tenant t).ackSeq) % 2 ^ 18) :
    ∃ u, s.ackSeq t v = some u ∧ (u.tenant t).ackSeq = v := by
  have htaken (w : Tenant) (hw : w.ackSeq = v) : ((s.setTenant t w).tenant t).ackSeq = v := by
    rw [tenant_setTenant_same, hw]
  unfold State.ackSeq
  dsimp only
  rw [if_pos h]
  split
  · next hv => exact ⟨s, rfl, hv.symm⟩
  · refine ⟨_, rfl, ?_⟩
    split
    · exact ((emit_keepsAcks (sends := False) ..).ackSeq t).trans (htaken _ rfl)
    · exact htaken _ rfl

end

/-! ## A notification frame falls due (R226) -/

section
variable {s : State}

theorem sealFrame_of_key {c : Caller} {kind key : Nat} {v : Session} {body : List Nat} (hsession : s.session? c = some v)
    (hkey : s.lookup (sessSlot c) = some key) :
    ∃ m, s.sealFrame c kind body = some (m, s.setSession c { v with txSeq := v.txSeq + 1 }) := by
  rw [sealFrame, hsession, hkey]
  exact ⟨_, rfl⟩

theorem mem_send_sent (s : State) (m : Sent) : m ∈ (s.send m).sent := List.mem_append_right _ (List.mem_singleton.mpr rfl)

theorem notifyRecords_ne_nil {t d : Nat} (h : s.notifyDueAt t = some d) : s.notifyRecords t ≠ [] := by
  obtain ⟨first, hfirst, -⟩ := Option.map_eq_some_iff.mp h
  obtain ⟨l, hl⟩ := List.head?_eq_some_iff.mp hfirst
  rw [notifyRecords, hl, List.take_succ_cons]
  exact List.cons_ne_nil _ _

/-- A notification frame that is built carries the records not yet notified, and its tenant's course moves on past them. -/
structure Notifies (s u : State) (t : Nat) : Prop where
  sent : Sent.notify t (s.notifyLane t) ((s.notifyRecords t).map TenRec.seq) ∈ u.sent
  notified : (u.tenant t).notified = ((s.tenant t).notified + (s.notifyRecords t).length) % 2 ^ 18
  notifySent : (u.tenant t).notifySent = satInc 18 (s.tenant t).notifySent

theorem Notifies.congr {u u' : State} {t : Nat} (h : Notifies s u t) (htenants : u'.tenants = u.tenants)
    (hsent : u'.sent = u.sent) : Notifies s u' t := by
  have htenant : u'.tenant t = u.tenant t := by rw [tenant, tenant, htenants]
  exact ⟨hsent ▸ h.sent, htenant ▸ h.notified, htenant ▸ h.notifySent⟩

/-- While the session is OPEN and has its key, the frame is built; the session may close behind it, at the end of its numbers
(R436). -/
theorem buildNotify_notifies {t key : Nat} (hrecords : s.notifyRecords t ≠ [])
    (hopen : s.callerOpen (tenantCaller t) = true) (hkey : s.lookup (sessSlot (tenantCaller t)) = some key) :
    ∃ m u, s.buildNotify t = some (m, u) ∧ Notifies s u t := by
  obtain ⟨m, hseal⟩ := sealFrame_of_key (s := s) (kind := 0o05) (body := notifyBody (s.notifyRecords t))
    (c := tenantCaller t) rfl hkey
  have hnone : ((s.notifyRecords t).isEmpty || !s.callerOpen (tenantCaller t)) = false := by
    simp [hrecords, hopen]
  simp only [buildNotify, hnone, hseal, Bool.false_eq_true, if_false, Option.map_some]
  refine ⟨_, _, rfl, ?_⟩
  have hmanages (u : State) : Manages False u (u.settleSeq (tenantCaller t)) := settleSeq_manages u _ nofun
  have hkeeps (u : State) (n : Note) (m : Sent) : KeepsAcks False u (((u.note n).send m).settleSeq (tenantCaller t)) :=
    ((note_keepsAcks ..).trans (send_keepsAcks ..)).trans (settleSeq_keepsAcks ..)
  have hsession (v : Session) : (s.setSession (tenantCaller t) v).tenant t = s.tenant t := rfl
  refine ⟨(hmanages _).sent.subset (mem_send_sent ..), ?_, ?_⟩
  · rw [occur, occurs, (hkeeps ..).notified not_false, tenant_setTenant_same, hsession]
  · rw [occur, occurs, (hkeeps ..).notifySent not_false, tenant_setTenant_same, hsession]

/-- Nothing waits before it, and it finds its cells (R232). -/
theorem queueMgmt_notifies {n t key : Nat} (hreplay : s.replayMode = false) (hwait : s.tp.mgmtWait = [])
    (hroom : s.mgmtHeld + cellsOf (s.itemLen (.notify t)) ≤ 512) (hrecords : s.notifyRecords t ≠ [])
    (hopen : s.callerOpen (tenantCaller t) = true) (hkey : s.lookup (sessSlot (tenantCaller t)) = some key) :
    Notifies s (s.queueMgmt n (.notify t)) t := by
  obtain ⟨m, u, hbuild, hnotifies⟩ := buildNotify_notifies hrecords hopen hkey
  have hitem : s.buildItem n (.notify t) = some ({ kind := 1, bytes := m }, u) := by
    rw [buildItem, hbuild]
    rfl
  simp only [queueMgmt, hreplay, hwait, List.nil_append, Bool.false_eq_true, if_false, mgmtAdmit, if_pos hroom, hitem]
  exact hnotifies.congr rfl rfl

/-! ### Time passes until then (notes/assumptions/6) -/

theorem Elapses.tenants {t : State} (h : s.Elapses t) : t.tenants = s.tenants := by rw [h]
theorem Elapses.keys {t : State} (h : s.Elapses t) : t.keys = s.keys := by rw [h]
theorem Elapses.sp {t : State} (h : s.Elapses t) : t.sp = s.sp := by rw [h]

variable (s)

theorem wrapAt_tp (k : Nat) (event : Bool) : (s.wrapAt k event).tp = s.tp := by
  unfold wrapAt
  dsimp only
  split <;> rfl

theorem addCount_tp (k n : Nat) : (s.addCount k n).tp = s.tp := by
  unfold addCount
  dsimp only
  split
  · rfl
  · split
    · split
      · rfl
      · exact wrapAt_tp ..
    · exact wrapAt_tp ..

theorem countTime_tp (t k w : Nat) : (s.countTime t k w).tp = s.tp := by
  unfold countTime
  dsimp only
  split
  · split
    · exact addCount_tp ..
    · rfl
  · split
    · split
      · exact addCount_tp ..
      · rfl
    · exact addCount_tp ..

theorem addExempt_tp (cycles : Nat) : (s.addExempt cycles).tp = { s.tp with queues := (s.addExempt cycles).tp.queues } := by
  unfold addExempt
  split <;> rfl

/-- Of the Turnpike only the exempt time of its queues' frames moves on. -/
theorem upTo_tp (t : Nat) : (s.upTo t).tp = { s.tp with queues := (s.upTo t).tp.queues } := by
  unfold upTo
  split
  · rfl
  · have hcount : (s.mile.sel.foldl (fun s c => s.countTime t c.1 c.2) s).tp = s.tp :=
      foldl_keeps State.tp _ (fun s (c : Nat × Nat) => countTime_tp s t c.1 c.2) ..
    dsimp only
    rw [addExempt_tp, hcount]

theorem upTo_mgmtWait (t : Nat) : (s.upTo t).tp.mgmtWait = s.tp.mgmtWait := by rw [upTo_tp]
theorem upTo_mgmtHeld (t : Nat) : (s.upTo t).mgmtHeld = s.mgmtHeld := by rw [mgmtHeld, mgmtHeld, upTo_tp]

theorem upTo_replayMode (t : Nat) : (s.upTo t).replayMode = s.replayMode := by
  rw [replayMode, replayMode, tripMode, tripMode, tripWord, tripWord, cfg_congr (upTo_image s t), (upTo_elapses s t).cus]

theorem upTo_tenant (t n : Nat) : (s.upTo t).tenant n = s.tenant n := by rw [tenant, tenant, (upTo_elapses s t).tenants]

theorem upTo_notifyRecords (t n : Nat) : (s.upTo t).notifyRecords n = s.notifyRecords n := by
  rw [notifyRecords, notifyRecords, unnotified, unnotified, upTo_tenant]

theorem upTo_notifyLane (t n : Nat) : (s.upTo t).notifyLane n = s.notifyLane n := by
  rw [notifyLane, notifyLane, cfg_congr (upTo_image s t)]

theorem upTo_callerOpen (t : Nat) (c : Caller) : (s.upTo t).callerOpen c = s.callerOpen c := by
  simp only [callerOpen, session?, (upTo_elapses s t).sp]

theorem upTo_lookup (t n : Nat) : (s.upTo t).lookup n = s.lookup n := by
  rw [lookup, lookup, keyValid_congr (upTo_elapses s t).keys, slot_congr (upTo_elapses s t).keys]

theorem upTo_itemLen_notify (t n : Nat) : (s.upTo t).itemLen (.notify n) = s.itemLen (.notify n) := by
  rw [itemLen, itemLen, upTo_notifyRecords]

end
end State

/-! ## The commands -/

section
variable {s : State} {tenant : Fin 16}

/-- What a write of ACK_SEQ does once it is served (R225). -/
def ackServed (tenant : Fin 16) (value : Word) (s : State) : Served :=
  if !s.configured tenant then
    { st := { s with sp := { s.sp with unusedWrites := satInc 36 s.sp.unusedWrites } }, status := stDone }
  else match s.ackSeq tenant value.toNat with
    | some s => { st := s, status := stDone }
    | none => { st := { s with sp := { s.sp with unusedWrites := satInc 36 s.sp.unusedWrites } },
                status := stBadValue, words := [0] }

theorem ackServed_of_stored {value : Word} {u : State} (hconf : s.configured tenant = true)
    (hack : s.ackSeq tenant value.toNat = some u) : ackServed tenant value s = { st := u, status := stDone } := by
  simp [ackServed, hconf, hack]

/-- The tenant and the operator, who may reset a tenant, may also write its ACK_SEQ (R225). -/
theorem exec_ackSeqWrite {r : VerbCall} (value : Word)
    (hcaller : State.isOperator r.caller = true ∨ r.caller = .tenant tenant) :
    exec (.ackSeqWrite r tenant value) s = act [.once, .image, .keys, .tenants, .tp, .sp] s (fun s =>
      s.serve r 0o02 true (some (tenantWindow tenant, (s.tenant tenant).gen)) [tenantWindow tenant + 6, 1, value.toNat]
        (ackServed tenant value)) := by
  rw [← resetAllowed_of hcaller]
  rfl

theorem ackSeqWrite_acknowledges {r : VerbCall} {value : Word}
    (hact : s.mayAct r (some (tenantWindow tenant, (s.tenant tenant).gen)) = true)
    (hcaller : State.isOperator r.caller = true ∨ r.caller = .tenant tenant) (hconf : s.configured tenant = true)
    (hstored : (value.toNat + 2 ^ 18 - (s.tenant tenant).ackSeq) % 2 ^ 18 ≤
      ((s.tenant tenant).produced + 2 ^ 18 - (s.tenant tenant).ackSeq) % 2 ^ 18) :
    ∃ t, exec (.ackSeqWrite r tenant value) s = .next t ∧ t.answers r.caller 0o02 0 [] = true ∧
      (t.tenant tenant).ackSeq = value.toNat := by
  obtain ⟨u, hack, hvalue⟩ := State.ackSeq_of_stored s.clear hstored
  have hserved : ackServed tenant value s.clear = { st := u, status := stDone } := ackServed_of_stored hconf hack
  have hserve : s.clear.serve r 0o02 true (some (tenantWindow tenant, (s.tenant tenant).gen))
      [tenantWindow tenant + 6, 1, value.toNat] (ackServed tenant value) =
        u.respondLater r.caller 0o02 stDone [] [tenantWindow tenant + 6, 1, value.toNat] := by
    rw [State.serve_of_mayAct (s := s.clear) hact, hserved]
  obtain ⟨t, ht, hsent, hsame⟩ := exec_reaches (exec_ackSeqWrite value hcaller) hserve
  refine ⟨t, ht, ?_, ?_⟩
  · rw [State.answers, hsent]
    exact (State.respondLater_responds u r.caller 0o02 stDone [] _ (op := True) fun _ => trivial).2
  · rw [State.tenant, hsame .tenants (by decide) rfl]
    exact ((State.respondLater_keepsAcks u ..).ackSeq tenant).trans hvalue

/-- NOTIFY_FRAME_SEND (R226). -/
def notifyStep (tenant : Fin 16) (s : State) : State :=
  let t := tenant.val
  let old := (s.tenant t).notifyDue
  match s.notifyDueAt t with
  | some at_ =>
    if s.configured t && s.callerOpen (State.tenantCaller t) && (old || s.notifyEn t) && !s.notifyWaits t then
      (if old then s else s.upTo at_).queueMgmt (s.notifyLane t) (.notify t)
    else s
  | none => s

theorem notifyStep_of_some {d : Nat} (hdue : s.notifyDueAt tenant = some d) : notifyStep tenant s =
    if s.configured tenant && s.callerOpen (State.tenantCaller tenant) && ((s.tenant tenant).notifyDue || s.notifyEn tenant) &&
        !s.notifyWaits tenant then
      (if (s.tenant tenant).notifyDue then s else s.upTo d).queueMgmt (s.notifyLane tenant) (.notify tenant)
    else s := by
  rw [notifyStep, hdue]

theorem notifyStep_of_due {d : Nat} (hconf : s.configured tenant = true) (henabled : s.notifyEn tenant = true)
    (hold : (s.tenant tenant).notifyDue = false) (hopen : s.callerOpen (State.tenantCaller tenant) = true)
    (hdue : s.notifyDueAt tenant = some d) (hwait : s.tp.mgmtWait = []) :
    notifyStep tenant s = (s.upTo d).queueMgmt (s.notifyLane tenant) (.notify tenant) := by
  have hnone : s.notifyWaits tenant = false := by rw [State.notifyWaits, hwait, List.any_nil]
  simp [notifyStep_of_some hdue, hconf, henabled, hold, hopen, hnone]

theorem exec_notifyFrameSend : exec (.notifyFrameSend tenant) s =
    actUnit [.now, .free, .image, .keys, .tenants, .tp, .sp] s (notifyStep tenant) := rfl

theorem notifyFrameSend_notifies {d key : Nat} (hheld : s.unitsHeld = false) (hreplay : s.replayMode = false)
    (hconf : s.configured tenant = true) (henabled : s.notifyEn tenant = true) (hold : (s.tenant tenant).notifyDue = false)
    (hopen : s.callerOpen (State.tenantCaller tenant) = true) (hdue : s.notifyDueAt tenant = some d)
    (hkey : s.lookup (State.sessSlot (State.tenantCaller tenant)) = some key) (hwait : s.tp.mgmtWait = [])
    (hroom : s.mgmtHeld + cellsOf (s.itemLen (.notify tenant)) ≤ 512) :
    ∃ t, exec (.notifyFrameSend tenant) s = .next t ∧ State.Notifies s t tenant ∧ t.now = max s.now d := by
  have hstep : (if s.clear.unitsHeld then s.clear else notifyStep tenant s.clear) =
      (s.clear.upTo d).queueMgmt (s.notifyLane tenant) (.notify tenant) := by
    have hfree : ¬ s.clear.unitsHeld = true := by
      change ¬ s.unitsHeld = true
      simp [hheld]
    rw [if_neg hfree]
    exact notifyStep_of_due (s := s.clear) hconf henabled hold hopen hdue hwait
  obtain ⟨t, ht, hsent, hsame⟩ := exec_reaches exec_notifyFrameSend hstep
  have hnotifies : State.Notifies (s.clear.upTo d) t tenant := by
    refine State.Notifies.congr (State.queueMgmt_notifies (key := key) ?_ ?_ ?_ ?_ ?_ ?_)
      (hsame .tenants (by decide) rfl) hsent
    · exact (State.upTo_replayMode ..).trans hreplay
    · exact (State.upTo_mgmtWait ..).trans hwait
    · rw [State.upTo_mgmtHeld, State.upTo_itemLen_notify]
      exact hroom
    · rw [State.upTo_notifyRecords]
      exact State.notifyRecords_ne_nil (s := s.clear) hdue
    · exact (State.upTo_callerOpen ..).trans hopen
    · exact (State.upTo_lookup ..).trans hkey
  obtain ⟨hframe, hnotified, hcount⟩ := hnotifies
  rw [State.upTo_notifyLane, State.upTo_notifyRecords] at hframe
  rw [State.upTo_tenant, State.upTo_notifyRecords] at hnotified
  rw [State.upTo_tenant] at hcount
  have hnow : t.now = ((s.clear.upTo d).queueMgmt (s.notifyLane tenant) (.notify tenant)).now := hsame .now (by decide) rfl
  refine ⟨t, ht, ⟨hframe, hnotified, hcount⟩, ?_⟩
  rw [hnow, (State.queueMgmt_manages (op := False) ..).now, State.upTo_now, State.clear_now]

end

/-- Settles O21: a response leaves the acknowledgement that it answers, and a notification frame that falls due finds its cells
and is built at once. -/
theorem tenantEventsComplete : Obligations.TenantEventsComplete := by
  refine ⟨fun _ _ _ _ hact hcaller hconf hstored => ackSeqWrite_acknowledges hact hcaller hconf hstored, ?_⟩
  intro tenant d key s hheld hreplay hconf henabled hold hopen hdue hkey hwait hroom
  obtain ⟨t, ht, ⟨hframe, hnotified, hcount⟩, hnow⟩ :=
    notifyFrameSend_notifies hheld hreplay hconf henabled hold hopen hdue hkey hwait hroom
  exact ⟨t, ht, hframe, hnotified, hcount, hnow⟩

end Sys2Proof.Machine

namespace Sys2Proof.Machine

/-- The next packet number of a stream, and the last of its lease. -/
def TxStream.numbers (v : TxStream) : Nat × Nat := (v.nextPn, v.leaseEnd)

namespace State

/-! ## What leaves the frames on the lanes alone (R232, R272, R301) -/

/-- Between two states management frames may have been built for their lanes and streams may have changed state, but the
queues of tenants, what each lane sends and the packet numbers of the streams stand, and all that was sent stays sent. -/
structure KeepsSending (s t : State) : Prop where
  queues : t.tp.queues = s.tp.queues
  sending : ∀ n, (t.sched n).sending = (s.sched n).sending
  numbers : ∀ x, (t.txStream x).numbers = (s.txStream x).numbers
  sent : s.sent <+: t.sent

namespace KeepsSending

variable {s t u : State}

theorem of_tp (htp : t.tp = s.tp) (hlink : t.link = s.link) (hsent : s.sent <+: t.sent) : KeepsSending s t :=
  ⟨by rw [htp], fun _ => by rw [sched, sched, htp], fun x => by rw [tx_congr hlink], hsent⟩

theorem refl (s : State) : KeepsSending s s := .of_tp rfl rfl List.prefix_rfl

theorem trans (h : KeepsSending s t) (h' : KeepsSending t u) : KeepsSending s u :=
  ⟨h'.queues.trans h.queues, fun n => (h'.sending n).trans (h.sending n), fun x => (h'.numbers x).trans (h.numbers x),
    h.sent.trans h'.sent⟩

theorem nextPn (h : KeepsSending s t) (x : Nat) : (t.txStream x).nextPn = (s.txStream x).nextPn :=
  (congrArg Prod.fst (h.numbers x) :)
theorem leaseEnd (h : KeepsSending s t) (x : Nat) : (t.txStream x).leaseEnd = (s.txStream x).leaseEnd :=
  (congrArg Prod.snd (h.numbers x) :)

theorem foldl {α : Type} {f : State → α → State} (hf : ∀ s x, KeepsSending s (f s x)) (l : List α) (s : State) :
    KeepsSending s (l.foldl f s) :=
  List.foldlRecOn l f (motive := KeepsSending s) (refl s) (fun _ h x _ => h.trans (hf _ x))

/-- A step that is taken under a condition. -/
theorem ite {c : Prop} [Decidable c] (ht : KeepsSending s t) (hu : KeepsSending s u) :
    KeepsSending s (if c then t else u) := by
  split
  · exact ht
  · exact hu

end KeepsSending

section
variable (s : State)

theorem setMgmtWait_keepsSending (l : List (Nat × MgmtItem)) :
    KeepsSending s { s with tp := { s.tp with mgmtWait := l } } := ⟨rfl, fun _ => rfl, fun _ => rfl, List.prefix_rfl⟩
theorem setSp_keepsSending (v : SpUnit) : KeepsSending s { s with sp := v } := .of_tp rfl rfl List.prefix_rfl
theorem setTenant_keepsSending (t : Nat) (v : Tenant) : KeepsSending s (s.setTenant t v) := .of_tp rfl rfl List.prefix_rfl
theorem send_keepsSending (m : Sent) : KeepsSending s (s.send m) := .of_tp rfl rfl (List.prefix_append ..)
theorem note_keepsSending (n : Note) : KeepsSending s (s.note n) := .of_tp rfl rfl List.prefix_rfl
theorem emit_keepsSending (e kind number arg : Nat) : KeepsSending s (s.emit e kind number arg) :=
  .of_tp rfl rfl List.prefix_rfl
theorem emitOwn_keepsSending (e kind number arg : Nat) : KeepsSending s (s.emitOwn e kind number arg) :=
  .of_tp rfl rfl List.prefix_rfl

theorem setSched_keepsSending {n : Nat} {v : Sched} (h : v.sending = (s.sched n).sending) :
    KeepsSending s (s.setSched n v) := by
  refine ⟨rfl, fun m => ?_, fun _ => rfl, List.prefix_rfl⟩
  by_cases hm : n = m
  · subst hm
    rw [sched_setSched_same, h]
  · rw [sched_setSched_other s v hm]

theorem setTx_keepsSending {x : Nat} {v : TxStream} (h : v.numbers = (s.txStream x).numbers) :
    KeepsSending s (s.setTx x v) := by
  refine ⟨rfl, fun _ => rfl, fun y => ?_, List.prefix_rfl⟩
  by_cases hy : x = y
  · subst hy
    rw [txStream_setTx_same, h]
  · rw [txStream_setTx_other s v hy]

theorem setSession_keepsSending (c : Caller) (v : Session) : KeepsSending s (s.setSession c v) := by
  cases c with
  | operator | tenant => exact setSp_keepsSending ..
  | plain => exact .refl s

theorem destroySlot_keepsSending (n : Nat) : KeepsSending s (s.destroySlot n) := by
  unfold destroySlot
  exact .ite (.refl s) (.ite (.of_tp rfl rfl List.prefix_rfl) (.of_tp rfl rfl List.prefix_rfl))

/-! ### Management frames and the sessions that they end (R232, R436) -/

variable {s} {t : State}

theorem sealFrame_keepsSending {c : Caller} {kind : Nat} {body m : List Nat}
    (h : s.sealFrame c kind body = some (m, t)) : KeepsSending s t := by
  unfold sealFrame at h
  split at h
  · cases h
    exact setSession_keepsSending ..
  · cases h

theorem sealSession_keepsSending {n u kind : Nat} {body : List Nat} {f : MgmtFrame}
    (h : s.sealSession n u kind body = some (f, t)) : KeepsSending s t := by
  obtain ⟨⟨m, t'⟩, hm, hf⟩ := Option.map_eq_some_iff.mp h
  cases hf
  exact sealFrame_keepsSending hm

variable (s)

theorem sealWaiting_keepsSending (t : Nat) : KeepsSending s (s.sealWaiting t) := by
  unfold sealWaiting
  refine .trans ?_ (setMgmtWait_keepsSending ..)
  refine List.foldlRecOn s.tp.mgmtWait _ (motive := fun a : List (Nat × MgmtItem) × State => KeepsSending s a.2) (.refl s)
    (fun a ha e _ => ?_)
  split
  · split
    · split
      · next h => exact ha.trans (sealSession_keepsSending h)
      · exact ha
    · exact ha
  · split <;> exact ha
  · exact ha

theorem sessionSealed_keepsSending (c : Caller) : KeepsSending s (s.sessionSealed c) := by
  cases c with
  | tenant t => exact sealWaiting_keepsSending s t
  | operator | plain => exact .refl s

theorem sessionUnstaged_keepsSending (c : Caller) : KeepsSending s (s.sessionUnstaged c) := by
  cases c with
  | operator n =>
    change KeepsSending s (s.abandonStaging n)
    unfold abandonStaging
    split
    · exact .ite (.of_tp rfl rfl List.prefix_rfl) (.refl s)
    · exact .refl s
  | tenant | plain => exact .refl s

theorem sessionEnded_keepsSending (c : Caller) (v : Session) (cause : Nat) :
    KeepsSending s (s.sessionEnded c v cause) := by
  have hgone (w : SpUnit) (l : List Note) : KeepsSending s { s with sp := w, notes := l } := .of_tp rfl rfl List.prefix_rfl
  exact .ite ((hgone ..).trans (emit_keepsSending ..)) (hgone ..)

theorem closeSession_keepsSending (c : Caller) (cause : Nat) : KeepsSending s (s.closeSession c cause) := by
  rw [closeSession_eq]
  split
  · exact .ite (.refl s) (((sessionSealed_keepsSending ..).trans (setSession_keepsSending ..)).trans
      ((destroySlot_keepsSending ..).trans ((sessionUnstaged_keepsSending ..).trans (sessionEnded_keepsSending ..))))
  · exact .refl s

theorem settleSeq_keepsSending (c : Caller) : KeepsSending s (s.settleSeq c) := by
  unfold settleSeq
  split
  · exact .ite (closeSession_keepsSending ..) (.refl s)
  · exact .refl s

variable {s}

theorem buildNotify_keepsSending {u : Nat} {f : List Nat} (h : s.buildNotify u = some (f, t)) : KeepsSending s t := by
  unfold buildNotify at h
  dsimp only at h
  split at h
  · cases h
  · obtain ⟨⟨m, t'⟩, hm, hf⟩ := Option.map_eq_some_iff.mp h
    cases hf
    exact ((sealFrame_keepsSending hm).trans (setTenant_keepsSending ..)).trans
      (((note_keepsSending ..).trans (send_keepsSending ..)).trans (settleSeq_keepsSending ..))

theorem buildItem_keepsSending {n : Nat} {i : MgmtItem} {f : MgmtFrame} (h : s.buildItem n i = some (f, t)) :
    KeepsSending s t := by
  cases i with
  | session u kind body =>
    obtain ⟨⟨f', t'⟩, hm, hf⟩ := Option.map_eq_some_iff.mp h
    cases hf
    exact (sealSession_keepsSending hm).trans (settleSeq_keepsSending ..)
  | notify u =>
    obtain ⟨⟨f', t'⟩, hm, hf⟩ := Option.map_eq_some_iff.mp h
    cases hf
    exact buildNotify_keepsSending hm
  | whole f' =>
    cases h
    exact .refl s

variable (s)

theorem mgmtAdmit_keepsSending (l : List (Nat × MgmtItem)) : KeepsSending s (s.mgmtAdmit l) := by
  induction l generalizing s with
  | nil => exact setMgmtWait_keepsSending ..
  | cons e l ih =>
    obtain ⟨n, i⟩ := e
    rw [mgmtAdmit]
    refine .ite ?_ (setMgmtWait_keepsSending ..)
    split
    · next h =>
      refine (buildItem_keepsSending h).trans (.trans (setSched_keepsSending _ ?_) (ih _))
      rfl
    · exact ih s

theorem queueMgmt_keepsSending (n : Nat) (i : MgmtItem) : KeepsSending s (s.queueMgmt n i) :=
  .ite (.refl s) (mgmtAdmit_keepsSending ..)

/-! ### A handshake begins (R291, R301) -/

theorem zEnter_keepsSending (g : Nat) (st : ZState) : KeepsSending s (s.zEnter g st) :=
  .ite (.refl s) (.of_tp rfl rfl List.prefix_rfl)

theorem setGroup_keepsSending (g : Nat) (v : ZGroup) : KeepsSending s (s.setGroup g v) := .of_tp rfl rfl List.prefix_rfl

theorem destroyKey_keepsSending {n : Nat} (h : slotDevMem < n) : KeepsSending s (s.destroyKey n) := by
  unfold destroyKey destroyContained
  dsimp only
  rw [containSlotFault_of_lt _ h, ite_self]
  exact .ite (.refl s) (destroySlot_keepsSending ..)

theorem dropEph_keepsSending (g : Nat) : KeepsSending s (s.dropEph g) := by
  unfold dropEph
  dsimp only
  split
  · exact (setGroup_keepsSending ..).trans (destroyKey_keepsSending _ (slotDevMem_lt_slotZheacEph _))
  · exact .of_tp rfl rfl List.prefix_rfl

theorem sendZheac_keepsSending (g type : Nat) (lane : Option Nat) (hsId : Nat) (start : Bool) (list : List ListEntry)
    (bitmap : List Bool) (reason : Nat) (words : List Nat) :
    KeepsSending s (s.sendZheac g type lane hsId start list bitmap reason words) := by
  unfold sendZheac
  split
  · exact (send_keepsSending ..).trans (queueMgmt_keepsSending ..)
  · exact .refl s

theorem dropRequests_keepsSending (g number : Nat) : KeepsSending s (s.dropRequests g number) :=
  .of_tp rfl rfl List.prefix_rfl

theorem handshakeLost_keepsSending (g : Nat) (v : ZGroup) (number : Nat) :
    KeepsSending s (s.handshakeLost g v number) :=
  ((note_keepsSending ..).trans (setGroup_keepsSending ..)).trans
    ((dropRequests_keepsSending ..).trans (dropEph_keepsSending ..))

theorem failureTold_keepsSending (g reason : Nat) (refused eighth : Bool) :
    KeepsSending s (s.failureTold g reason refused eighth) := by
  have hown (u : State) (b : Prop) [Decidable b] (e a : Nat) : KeepsSending u (if b then u.emitOwn e 8 g a else u) :=
    .ite (emitOwn_keepsSending ..) (.refl u)
  exact (emitOwn_keepsSending ..).trans ((hown _ (refused = true) ..).trans ((hown ..).trans (hown _ (eighth = true) ..)))

theorem failHs_keepsSending (g reason : Nat) (refuse refused : Bool) : KeepsSending s (s.failHs g reason refuse refused) := by
  have hrefuse (hsId : Nat) (back : Option Nat) : KeepsSending s (if refuse then s.sendRefuse g hsId back reason else s) :=
    .ite (sendZheac_keepsSending ..) (.refl s)
  rw [failHs_eq]
  cases (s.zgroup g).hs with
  | none => exact .refl s
  | some h =>
    exact (hrefuse ..).trans
      ((handshakeLost_keepsSending ..).trans ((failureTold_keepsSending ..).trans (zEnter_keepsSending ..)))

theorem entropyAsk_keepsSending {s u : State} {c : Consumer} {d : Draw} (h : s.entropyAsk c = (d, u)) :
    KeepsSending s u := by
  have hdraw (b : Nat) : KeepsSending s (s.draw b).2 := by
    rw [draw_eq]
    exact .of_tp rfl rfl List.prefix_rfl
  have hfailed : KeepsSending s s.entropyFailed := .ite (.of_tp rfl rfl List.prefix_rfl) (.of_tp rfl rfl List.prefix_rfl)
  unfold entropyAsk at h
  split at h
  · cases h
    exact hdraw _
  · split at h
    · cases h
      exact hfailed
    · cases h
      exact .of_tp rfl rfl List.prefix_rfl

theorem pkAsk_keepsSending (g : Nat) (op : PkOp) : KeepsSending s (s.pkAsk g op) := by
  unfold pkAsk
  split <;> exact .of_tp rfl rfl List.prefix_rfl

theorem nonceDrawn_keepsSending (g nonce : Nat) : KeepsSending s (s.nonceDrawn g nonce) := by
  unfold nonceDrawn
  split
  · exact .ite (.ite ((setGroup_keepsSending ..).trans (sendZheac_keepsSending ..))
      ((setGroup_keepsSending ..).trans (pkAsk_keepsSending ..))) (.refl s)
  · exact .refl s

theorem askNonce_keepsSending (g : Nat) : KeepsSending s (s.askNonce g) := by
  unfold askNonce
  split
  · split
    · next hask => exact (setGroup_keepsSending ..).trans ((entropyAsk_keepsSending hask).trans (nonceDrawn_keepsSending ..))
    · next hask => exact (setGroup_keepsSending ..).trans (entropyAsk_keepsSending hask)
    · next hask => exact (setGroup_keepsSending ..).trans ((entropyAsk_keepsSending hask).trans (failHs_keepsSending ..))
  · exact .refl s

theorem installKey_keepsSending (n value : Nat) : KeepsSending s (s.installKey n value) :=
  .ite (.of_tp rfl rfl List.prefix_rfl) (.of_tp rfl rfl List.prefix_rfl)

theorem ephDrawn_keepsSending (g drawn : Nat) : KeepsSending s (s.ephDrawn g drawn) := by
  unfold ephDrawn
  dsimp only
  split
  · exact (installKey_keepsSending ..).trans ((setGroup_keepsSending ..).trans (pkAsk_keepsSending ..))
  · exact failHs_keepsSending ..

theorem wantEph_keepsSending (g : Nat) : KeepsSending s (s.wantEph g) := by
  unfold wantEph
  refine .ite (.ite (askNonce_keepsSending ..) (.refl s)) (.ite (.refl s) ?_)
  split
  · next hask => exact (entropyAsk_keepsSending hask).trans (ephDrawn_keepsSending ..)
  · next hask => exact entropyAsk_keepsSending hask
  · next hask => exact (entropyAsk_keepsSending hask).trans (failHs_keepsSending ..)

theorem txStuck_keepsSending (x : Nat) : KeepsSending s (s.txStuck x) := by
  have hstuck (st : TxState) (an : Nat) : KeepsSending s (s.txEnter x st an (s.txStream x)) := setTx_keepsSending s rfl
  exact .ite (.refl s) ((hstuck ..).trans (emit_keepsSending ..))

theorem makeList_keepsSending (g : Nat) (all : Bool) (first : List ListEntry) :
    KeepsSending s (s.makeList g all first).1 := .foldl txStuck_keepsSending ..

theorem initiate_keepsSending (g : Nat) : KeepsSending s (s.initiate g) := by
  have hbegun (u : State) (v : ZheacUnit) (z : ZState) (w : ZGroup) :
      KeepsSending u ((({ u with zheac := v }.zEnter g z).setGroup g w).wantEph g) :=
    .trans (t := { u with zheac := v }) (.of_tp rfl rfl List.prefix_rfl)
      ((zEnter_keepsSending ..).trans ((setGroup_keepsSending ..).trans (wantEph_keepsSending ..)))
  unfold initiate
  refine .ite (.refl s) ?_
  dsimp only
  exact (makeList_keepsSending s g _ []).trans (.ite (zEnter_keepsSending ..) (hbegun ..))

theorem checkDue_keepsSending (g : Nat) : KeepsSending s (s.checkDue g) := .ite (initiate_keepsSending ..) (.refl s)

/-! ### A lease is asked for (R272, R274) -/

theorem exhaust_keepsSending (x cause : Nat) : KeepsSending s (s.exhaust x cause) := by
  have hended (st : TxState) (an : Nat) : KeepsSending s (s.txEnter x st an (s.txStream x)) := setTx_keepsSending s rfl
  exact .ite (.refl s) ((hended ..).trans (emit_keepsSending ..))

theorem denyLease_keepsSending (x cause : Nat) : KeepsSending s (s.denyLease x cause) := by
  have hdenied : KeepsSending s (s.setTx x { s.txStream x with asked := false, denied := some cause }) :=
    setTx_keepsSending s rfl
  exact .ite hdenied (hdenied.trans (exhaust_keepsSending ..))

theorem askAdvance_keepsSending (a : Advance) : KeepsSending s (s.askAdvance a) :=
  .ite (.refl s) (.of_tp rfl rfl List.prefix_rfl)

theorem askJournal_keepsSending (x start : Nat) : KeepsSending s (s.askJournal x start) :=
  ⟨rfl, fun _ => rfl, fun _ => rfl, List.prefix_rfl⟩

theorem askLease_keepsSending (x : Nat) : KeepsSending s (s.askLease x) := by
  have hasked : KeepsSending s (s.setTx x { s.txStream x with asked := true }) := setTx_keepsSending s rfl
  unfold askLease
  refine .ite (.refl s) (.ite hasked (.ite (denyLease_keepsSending ..) (hasked.trans (.ite ?_ (.ite
    (askAdvance_keepsSending ..) (askJournal_keepsSending ..))))))
  split
  · exact askJournal_keepsSending ..
  · exact askAdvance_keepsSending ..

end
end State
end Sys2Proof.Machine

namespace Sys2Proof.Machine

section
variable {s : State}

/-- A command of a unit that no replay holds, with what it sends. -/
theorem exec_reaches_unit_sent {i : Instr} {ps : List Part} {f : State → State} {u : State}
    (hexec : exec i s = actUnit ps s f) (hheld : s.unitsHeld = false) (h : f s.clear = u) :
    ∃ t, exec i s = .next t ∧ t.sent = u.sent ∧ ∀ p, p ∉ observers → ps.contains p = true → u.same t p := by
  have hfree : ¬ s.clear.unitsHeld = true := by
    rw [show s.clear.unitsHeld = s.unitsHeld from rfl, hheld]
    decide
  exact exec_reaches hexec ((if_neg hfree).trans h)

end

namespace State

theorem sched_congr {s t : State} (h : t.tp = s.tp) (n : Nat) : t.sched n = s.sched n := by rw [sched, sched, h]

theorem laneIsTrunk_congr {s t : State} (h : t.image = s.image) (n : Nat) : t.laneIsTrunk n = s.laneIsTrunk n := by
  rw [laneIsTrunk, laneIsTrunk, laneRole, laneRole, laneWord, laneWord, cfg_congr h]

theorem laneLen_congr {s t : State} (h : t.image = s.image) (n len : Nat) : t.laneLen n len = s.laneLen n len := by
  rw [laneLen, laneLen, laneIsTrunk_congr h]

/-! ## A frame starts on its lane (R191, R240) -/

section
variable (s : State) (n : Nat) (bytes : List Nat)

theorem startFrame_tp : (s.startFrame n bytes).tp = s.tp := by
  unfold startFrame
  dsimp only
  split <;> rfl

theorem startFrame_link : (s.startFrame n bytes).link = s.link := by
  unfold startFrame
  dsimp only
  split <;> rfl

theorem startFrame_sent : (s.startFrame n bytes).sent = s.sent ++ [.frame n bytes] := by
  unfold startFrame
  dsimp only
  split <;> rfl

end

section
variable {s : State} {n : Nat} {f : MgmtFrame} {rest : List MgmtFrame}

theorem mgmtFirst_of_cons (huse : s.mgmtUse (s.sched n) * 100 ≤ s.laneRate n * 125) (hmgmt : (s.sched n).mgmt = f :: rest) :
    s.mgmtFirst n = some (f, rest) := by
  simp [mgmtFirst, huse, hmgmt]

theorem schedule_of_mgmt (w : Nat) (hstarts : s.laneStarts n = true) (hfirst : s.mgmtFirst n = some (f, rest)) :
    s.schedule n w = s.sendMgmt n f rest := by
  simp [schedule, hstarts, hfirst]

/-- A management frame that starts leaves its queue, and every tenant's queue stands (R238). -/
theorem sendMgmt_starts : ((s.sendMgmt n f rest).sched n).sending = some (.mgmt f) ∧
    ((s.sendMgmt n f rest).sched n).mgmt = rest ∧ (s.sendMgmt n f rest).tp.queues = s.tp.queues ∧
      Sent.frame n f.bytes ∈ (s.sendMgmt n f rest).sent := by
  unfold sendMgmt
  dsimp only
  rw [sched_congr (startFrame_tp ..), startFrame_tp, startFrame_sent, note, sched]
  refine ⟨?_, ?_, rfl, by simp⟩
  · exact congrArg Sched.sending (sched_setSched_same s n _)
  · exact congrArg Sched.mgmt (sched_setSched_same s n _)

end

/-! ## The chosen head frame (R240, R264) -/

section
variable (s : State)

/-- The engine of a trunk lane has protected a frame. -/
def engineTold (n w : Nat) (trunk : Bool) : State :=
  let e := 16 + n / 2
  if trunk then (((s.occur e 0o001).occur e 0o006).occur 32 0o001).occurs e 0o011 w 1 else s

/-- The lane is taken by the frame of a queue, which its tenant's tokens have paid. -/
def headTaken (n t q : Nat) (commit : Bool) (c : Sched) (w len : Nat) (trunk : Bool) (an pn : Nat) : State :=
  let s := s.engineTold n w trunk
  let s := (s.chargeTokens n t (s.charged n len) commit).setSched n
    { c with sending := some (.data q an pn), engineWaitMax := max c.engineWaitMax (min w 578) }
  { s with tp := { s.tp with engineLast := tabPut 0 s.tp.engineLast (n / 2) n } }

/-- The head frame leaves its queue and starts on the lane. -/
def headStarts (n q : Nat) (f : QFrame) (stream : Option Nat) (an pn : Nat) (bytes : List Nat) : State :=
  let v := s.queue q
  let f := { f with mark := f.mark.map (fun (m : Mark) => { m with picked := s.now }) }
  ((s.setQueue q { v with frames := v.frames.tail, inFlight := some f }).send
    (.picked n q (s.laneLen n f.len) stream an pn)).startFrame n bytes

/-- A stream of the group of a trunk lane may have become due. -/
def headChecked (n : Nat) (trunk : Bool) : State :=
  match (if trunk then s.groupOfLane n else none) with
  | some g => s.checkDue g
  | none => s

/-- What the engine of a trunk lane makes of a frame; on a client lane the frame leaves as it is. -/
def sealHead (n : Nat) (f : QFrame) : Seal × State :=
  if s.laneIsTrunk n then s.protectFrame n f.stream f.data else (.sent 0 0 (withFcs f.data), s)

variable {s}

theorem sendHead_of_sent {n t q an pn : Nat} {commit : Bool} {c : Sched} {w : Nat} {f : QFrame} {rest : List QFrame}
    {bytes : List Nat} {u : State} (hframes : (s.queue q).frames = f :: rest)
    (hsealed : s.sealHead n f = (.sent an pn bytes, u)) :
    s.sendHead n t q commit c w =
      ((u.headTaken n t q commit c w f.len (s.laneIsTrunk n) an pn).headStarts n q f
        (if s.laneIsTrunk n then f.stream else none) an pn bytes).headChecked n (s.laneIsTrunk n) := by
  unfold sealHead at hsealed
  unfold sendHead
  rw [hframes]
  dsimp only [List.head?_cons]
  rw [hsealed]
  rfl

/-- The frame of a queue has taken lane `n`: packet numbers, queues and the image stand. -/
structure Taken (s t : State) (n q an pn : Nat) : Prop where
  sending : (t.sched n).sending = some (.data q an pn)
  queues : t.tp.queues = s.tp.queues
  link : t.link = s.link
  image : t.image = s.image

theorem headTaken_taken (s : State) (n t q : Nat) (commit : Bool) (c : Sched) (w len : Nat) (trunk : Bool) (an pn : Nat) :
    Taken s (s.headTaken n t q commit c w len trunk an pn) n q an pn := by
  have hcharged (u : State) (b : Nat) : (u.chargeTokens n t b commit).tp.queues = u.tp.queues ∧
      (u.chargeTokens n t b commit).link = u.link ∧ (u.chargeTokens n t b commit).image = u.image := by
    cases commit <;> exact ⟨rfl, rfl, rfl⟩
  have htold : (s.engineTold n w trunk).tp = s.tp ∧ (s.engineTold n w trunk).link = s.link ∧
      (s.engineTold n w trunk).image = s.image := by
    unfold engineTold
    split <;> simp
  obtain ⟨hqueues, hlink, himage⟩ := hcharged (s.engineTold n w trunk) ((s.engineTold n w trunk).charged n len)
  obtain ⟨htp, hlink', himage'⟩ := htold
  exact ⟨by simp [headTaken, sched, setSched], hqueues.trans (by rw [htp]), hlink.trans hlink', himage.trans himage'⟩

theorem headChecked_keepsSending (s : State) (n : Nat) (trunk : Bool) : KeepsSending s (s.headChecked n trunk) := by
  unfold headChecked
  split
  · exact checkDue_keepsSending ..
  · exact .refl s

/-- The head frame `f` of a queue has gone to its lane, with `l` sent, and `rest` has stayed. -/
structure HeadSent (t : State) (n q an pn : Nat) (f : QFrame) (rest : List QFrame) (l : List Sent) : Prop where
  frames : (t.queue q).frames = rest
  inFlight : (t.queue q).inFlight.map QFrame.data = some f.data
  sending : (t.sched n).sending = some (.data q an pn)
  sent : l ⊆ t.sent

namespace HeadSent

variable {n q an pn : Nat} {f : QFrame} {rest : List QFrame} {l : List Sent} {t u : State}

theorem congr (h : HeadSent t n q an pn f rest l) (htp : u.tp = t.tp) (hsent : u.sent = t.sent) :
    HeadSent u n q an pn f rest l :=
  ⟨queue_congr htp q ▸ h.frames, queue_congr htp q ▸ h.inFlight, sched_congr htp n ▸ h.sending, hsent ▸ h.sent⟩

theorem keeps (h : HeadSent t n q an pn f rest l) (hkeeps : KeepsSending t u) : HeadSent u n q an pn f rest l := by
  have hqueue : u.queue q = t.queue q := by rw [queue, queue, hkeeps.queues]
  exact ⟨hqueue ▸ h.frames, hqueue ▸ h.inFlight, (hkeeps.sending n).trans h.sending,
    List.Subset.trans h.sent hkeeps.sent.subset⟩

end HeadSent

theorem headStarts_sends {n q an pn : Nat} {f : QFrame} {rest : List QFrame} (stream : Option Nat) (bytes : List Nat)
    (hframes : (s.queue q).frames = f :: rest) (hsending : (s.sched n).sending = some (.data q an pn)) :
    HeadSent (s.headStarts n q f stream an pn bytes) n q an pn f rest
      [.picked n q (s.laneLen n f.len) stream an pn, .frame n bytes] := by
  have hqueue : (s.headStarts n q f stream an pn bytes).queue q = _ :=
    (queue_congr (startFrame_tp ..) q).trans (queue_setQueue_same ..)
  refine ⟨?_, ?_, ?_, ?_⟩
  · rw [hqueue, hframes]
    rfl
  · rw [hqueue]
    rfl
  · rw [headStarts, sched_congr (startFrame_tp ..)]
    exact hsending
  · rw [headStarts, startFrame_sent]
    exact List.cons_subset.mpr ⟨List.mem_append_left _ (mem_send_sent ..),
      List.cons_subset.mpr ⟨by simp, List.nil_subset _⟩⟩

/-- A head frame that its engine has sealed goes to its lane: only then may a stream's rekey begin (R264, R301). -/
theorem sendHead_sends {n t q an pn : Nat} {commit : Bool} {c : Sched} {w : Nat} {f : QFrame} {rest : List QFrame}
    {bytes : List Nat} {u : State} (hframes : (s.queue q).frames = f :: rest)
    (hsealed : s.sealHead n f = (.sent an pn bytes, u)) (hqueues : u.tp.queues = s.tp.queues) (himage : u.image = s.image) :
    HeadSent (s.sendHead n t q commit c w) n q an pn f rest
        [.picked n q (s.laneLen n f.len) (if s.laneIsTrunk n then f.stream else none) an pn, .frame n bytes] ∧
      ∀ x, ((s.sendHead n t q commit c w).txStream x).nextPn = (u.txStream x).nextPn := by
  have htaken := headTaken_taken u n t q commit c w f.len (s.laneIsTrunk n) an pn
  rw [sendHead_of_sent hframes hsealed, ← laneLen_congr (htaken.image.trans himage)]
  generalize u.headTaken n t q commit c w f.len (s.laneIsTrunk n) an pn = v at htaken
  have hv : (v.queue q).frames = f :: rest := by rw [queue, htaken.queues, hqueues, ← hframes, queue]
  have hchecked := headChecked_keepsSending
    (v.headStarts n q f (if s.laneIsTrunk n then f.stream else none) an pn bytes) n (s.laneIsTrunk n)
  refine ⟨(headStarts_sends _ _ hv htaken.sending).keeps hchecked, fun x => (hchecked.nextPn x).trans ?_⟩
  rw [tx_congr (t := headStarts ..) ((startFrame_link ..).trans htaken.link)]

/-! ## The engine seals the frame (R257, R264) -/

theorem sealHead_of_client {n : Nat} (f : QFrame) (h : s.laneIsTrunk n = false) :
    s.sealHead n f = (.sent 0 0 (withFcs f.data), s) := by
  simp [sealHead, h]

/-- While the lease covers the next packet number, at most the next lease is asked for (R272). -/
theorem leaseUsed_of_le {x : Nat} (h : (s.txStream x).nextPn ≤ (s.txStream x).leaseEnd) :
    s.leaseUsed x = if 3 * 2 ^ 30 ≤ (s.txStream x).nextPn - (s.txStream x).leaseStart then s.askLease x else s := by
  have hkeeps : KeepsSending s
      (if 3 * 2 ^ 30 ≤ (s.txStream x).nextPn - (s.txStream x).leaseStart then s.askLease x else s) :=
    .ite (askLease_keepsSending ..) (.refl s)
  unfold leaseUsed
  dsimp only
  rw [if_pos (by rwa [hkeeps.nextPn, hkeeps.leaseEnd])]

theorem leaseUsed_keeps {x : Nat} (h : (s.txStream x).nextPn ≤ (s.txStream x).leaseEnd) :
    KeepsSending s (s.leaseUsed x) ∧ (s.leaseUsed x).image = s.image := by
  rw [leaseUsed_of_le h]
  split
  · exact ⟨askLease_keepsSending .., askLease_image ..⟩
  · exact ⟨.refl s, rfl⟩

/-- A stream can protect a frame of lane `n` with this key: it is the lane's, and its packet number is neither at its end nor
the last of its lease. -/
structure Seals (s : State) (n x value : Nat) : Prop where
  valid : entValid (s.txStream x).entry = true
  lane : entLane (s.txStream x).entry = n
  newAn : (s.txStream x).newAn = false
  key : s.lookup (slotTx x (s.txStream x).an) = some value
  state : (s.txStream x).state ≠ .exhausted
  pn : (s.txStream x).nextPn < 2 ^ 64
  lease : s.leased (s.txStream x) = false ∨ (s.txStream x).nextPn < (s.txStream x).leaseEnd

theorem Seals.clear {n x value : Nat} (h : s.Seals n x value) : s.clear.Seals n x value :=
  ⟨h.valid, h.lane, h.newAn, h.key, h.state, h.pn, h.lease⟩

/-- The frame has been counted, and its packet number used. -/
def numberUsed (s : State) (n x : Nat) : State :=
  let v := s.txStream x
  (s.setLaneCipher n { s.laneCipher n with protectedTx := satInc 36 (s.laneCipher n).protectedTx }).setTx x
    { v with nextPn := v.nextPn + 1, frames := satInc 36 v.frames }

theorem protectFrame_of_seals {n x value : Nat} (data : List Nat) (h : s.Seals n x value) :
    s.protectFrame n (some x) data =
      (.sent (s.txStream x).an (s.txStream x).nextPn
        (secSeal value (s.txStream x).an (s.txStream x).nextPn (s.txSci x) data),
        if s.leased (s.txStream x) then (s.numberUsed n x).leaseUsed x else s.numberUsed n x) := by
  have hentry : ¬ (!entValid (s.txStream x).entry || decide (entLane (s.txStream x).entry ≠ n)) = true := by
    simp [h.valid, h.lane]
  unfold protectFrame
  dsimp only
  rw [if_neg hentry, h.newAn, if_neg Bool.false_ne_true, h.key]
  dsimp only
  rw [if_neg h.state, if_neg (not_le.mpr h.pn)]
  rfl

theorem numberUsed_keeps {n x value : Nat} (h : s.Seals n x value) {u : State}
    (hu : u = if s.leased (s.txStream x) then (s.numberUsed n x).leaseUsed x else s.numberUsed n x) :
    u.tp.queues = s.tp.queues ∧ u.image = s.image ∧ (u.txStream x).nextPn = (s.txStream x).nextPn + 1 := by
  have hused : ((s.numberUsed n x).txStream x) = _ := txStream_setTx_same ..
  subst hu
  split
  · next hleased =>
    have hlt : (s.txStream x).nextPn < (s.txStream x).leaseEnd := h.lease.resolve_left (by rw [hleased]; decide)
    obtain ⟨hkeeps, himage⟩ := leaseUsed_keeps (s := s.numberUsed n x) (x := x) (by rw [hused]; exact hlt)
    exact ⟨hkeeps.queues, himage, (hkeeps.nextPn x).trans (congrArg TxStream.nextPn hused)⟩
  · exact ⟨rfl, rfl, congrArg TxStream.nextPn hused⟩

/-- The engine of a trunk lane protects a frame under the AN and the next packet number of its stream. -/
theorem sealHead_of_trunk {n x value : Nat} {f : QFrame} (htrunk : s.laneIsTrunk n = true) (hstream : f.stream = some x)
    (h : s.Seals n x value) :
    ∃ u, s.sealHead n f = (.sent (s.txStream x).an (s.txStream x).nextPn
        (secSeal value (s.txStream x).an (s.txStream x).nextPn (s.txSci x) f.data), u) ∧
      u.tp.queues = s.tp.queues ∧ u.image = s.image ∧ (u.txStream x).nextPn = (s.txStream x).nextPn + 1 := by
  refine ⟨_, ?_, numberUsed_keeps h rfl⟩
  rw [sealHead, if_pos htrunk, hstream]
  exact protectFrame_of_seals f.data h

/-! ## One decision (R240, R249) -/

/-- Data goes when no management frame goes first, from lane `n` itself when no other lane goes first at its engine. -/
theorem schedule_of_data {n t q : Nat} {commit : Bool} {c : Sched} (w : Nat) (hstarts : s.laneStarts n = true)
    (hmgmt : s.mgmtFirst n = none) (hother : s.engineOther n = none) (hpick : s.pickTenant n = some (commit, t, q, c)) :
    s.schedule n w = s.sendHead n t q commit c w := by
  simp [schedule, hstarts, hmgmt, hother, pickData, hpick]

/-- A client lane has no engine to share. -/
theorem engineOther_of_client {n : Nat} (h : s.laneIsTrunk n = false) : s.engineOther n = none := by
  unfold engineOther
  split <;> simp [engineReady, h]

end
end State

section
variable {s : State} {lane : Fin 16} {n w : Nat}

/-- SCHEDULER_PICK. -/
def pickStep (lane : Fin 16) (w : Nat) (s : State) : State :=
  match s.laneLead lane with
  | none => s
  | some n => s.schedule n w

theorem schedulerPick_reaches {u : State} (hheld : s.unitsHeld = false) (hlead : s.laneLead lane = some n)
    (hu : s.clear.schedule n w = u) :
    ∃ t, exec (.schedulerPick lane w) s = .next t ∧ t.sent = u.sent ∧ t.tp = u.tp ∧ t.link = u.link := by
  have hstep : pickStep lane w s.clear = u := by
    have hlead' : s.clear.laneLead lane = some n := hlead
    rw [pickStep, hlead']
    exact hu
  obtain ⟨t, ht, hsent, hsame⟩ := exec_reaches_unit_sent (i := .schedulerPick lane w) (f := pickStep lane w)
    (ps := [.free, .once, .start, .image, .cus, .keys, .trng, .lanes, .tenants, .tp, .link, .zheac, .sp, .way])
    rfl hheld hstep
  exact ⟨t, ht, hsent, hsame .tp (by decide) rfl, hsame .link (by decide) rfl⟩

theorem schedulerPick_mgmt {f : MgmtFrame} {rest : List MgmtFrame} (hheld : s.unitsHeld = false)
    (hlead : s.laneLead lane = some n) (hstarts : s.laneStarts n = true)
    (huse : s.mgmtUse (s.sched n) * 100 ≤ s.laneRate n * 125) (hmgmt : (s.sched n).mgmt = f :: rest) :
    ∃ t, exec (.schedulerPick lane w) s = .next t ∧ (t.sched n).sending = some (.mgmt f) ∧ (t.sched n).mgmt = rest ∧
      t.tp.queues = s.tp.queues ∧ Sent.frame n f.bytes ∈ t.sent := by
  have hfirst : s.clear.mgmtFirst n = some (f, rest) := State.mgmtFirst_of_cons huse hmgmt
  obtain ⟨t, ht, hsent, htp, -⟩ := schedulerPick_reaches hheld hlead (State.schedule_of_mgmt w hstarts hfirst)
  obtain ⟨hsending, hrest, hqueues, hframe⟩ := State.sendMgmt_starts (s := s.clear) (n := n) (f := f) (rest := rest)
  refine ⟨t, ht, ?_, ?_, ?_, ?_⟩
  · rw [State.sched_congr htp, hsending]
  · rw [State.sched_congr htp, hrest]
  · rw [htp, hqueues]
    rfl
  · rw [hsent]
    exact hframe

section
variable {u q : Nat} {commit : Bool} {c : Sched} {f : QFrame} {rest : List QFrame} (hheld : s.unitsHeld = false)
  (hlead : s.laneLead lane = some n) (hstarts : s.laneStarts n = true) (hmgmt : s.mgmtFirst n = none)
  (hpick : s.pickTenant n = some (commit, u, q, c)) (hframes : (s.queue q).frames = f :: rest)
include hheld hlead hstarts hmgmt hpick hframes

theorem schedulerPick_client (hclient : s.laneIsTrunk n = false) :
    ∃ t, exec (.schedulerPick lane w) s = .next t ∧ (t.queue q).frames = rest ∧
      (t.queue q).inFlight.map QFrame.data = some f.data ∧ (t.sched n).sending = some (.data q 0 0) ∧
      Sent.picked n q f.len none 0 0 ∈ t.sent ∧ Sent.frame n (withFcs f.data) ∈ t.sent := by
  have hother : s.clear.engineOther n = none := State.engineOther_of_client hclient
  obtain ⟨t, ht, hsent, htp, -⟩ := schedulerPick_reaches hheld hlead
    (State.schedule_of_data (s := s.clear) w hstarts hmgmt hother hpick)
  have hsends := (State.sendHead_sends (s := s.clear) (t := u) (commit := commit) (c := c) (w := w) hframes
    (State.sealHead_of_client f hclient) rfl rfl).1.congr htp hsent
  have hlen : s.clear.laneLen n f.len = f.len := if_neg (by rw [show s.clear.laneIsTrunk n = false from hclient]; decide)
  rw [hlen, show s.clear.laneIsTrunk n = false from hclient] at hsends
  exact ⟨t, ht, hsends.frames, hsends.inFlight, hsends.sending, hsends.sent (by simp), hsends.sent (by simp)⟩

theorem schedulerPick_trunk {x value : Nat} (htrunk : s.laneIsTrunk n = true) (hother : s.engineOther n = none)
    (hstream : f.stream = some x) (hseals : s.Seals n x value) :
    ∃ t, exec (.schedulerPick lane w) s = .next t ∧ (t.queue q).frames = rest ∧
      (t.sched n).sending = some (.data q (s.txStream x).an (s.txStream x).nextPn) ∧
      Sent.picked n q (f.len + 32) (some x) (s.txStream x).an (s.txStream x).nextPn ∈ t.sent ∧
      Sent.frame n (secSeal value (s.txStream x).an (s.txStream x).nextPn (s.txSci x) f.data) ∈ t.sent ∧
      (t.txStream x).nextPn = (s.txStream x).nextPn + 1 := by
  have htrunk' : s.clear.laneIsTrunk n = true := htrunk
  obtain ⟨t, ht, hsent, htp, hlink⟩ := schedulerPick_reaches hheld hlead
    (State.schedule_of_data (s := s.clear) w hstarts hmgmt hother hpick)
  obtain ⟨v, hsealed, hqueues, himage, hnext⟩ := State.sealHead_of_trunk htrunk' hstream hseals.clear
  obtain ⟨hsends, hpns⟩ := State.sendHead_sends (s := s.clear) (t := u) (commit := commit) (c := c) (w := w) hframes
    hsealed hqueues himage
  have hlen : s.clear.laneLen n f.len = f.len + 32 := if_pos htrunk'
  rw [hlen, if_pos htrunk', hstream] at hsends
  have hsends := hsends.congr htp hsent
  refine ⟨t, ht, hsends.frames, hsends.sending, hsends.sent List.mem_cons_self,
    hsends.sent (List.mem_cons_of_mem _ List.mem_cons_self), ?_⟩
  rw [State.tx_congr hlink, hpns x, hnext]
  rfl

end
end

/-- Settles O22, by what goes first on the lane: a management frame, or the head frame that is picked, as a client lane and as
the engine of a trunk lane send it. -/
theorem schedulerPickCompletes : Obligations.SchedulerPickCompletes := by
  refine ⟨fun _ _ _ _ _ _ hheld hlead hstarts huse hmgmt => schedulerPick_mgmt hheld hlead hstarts huse hmgmt,
    fun _ _ _ _ _ _ _ _ _ _ hheld hlead hstarts hmgmt hclient hpick hframes =>
      schedulerPick_client hheld hlead hstarts hmgmt hpick hframes hclient, ?_⟩
  intro lane n w u q x value commit c f rest s hheld hlead hstarts hmgmt htrunk hother hpick hframes hstream hvalid hlane hnew
    hkey hstate hpn hlease
  exact schedulerPick_trunk hheld hlead hstarts hmgmt hpick hframes htrunk hother hstream
    ⟨hvalid, hlane, hnew, hkey, hstate, hpn, hlease⟩

end Sys2Proof.Machine

namespace Sys2Proof.Machine

/-- What a queue carries: all but when its delay request was told of. -/
def Queue.carried (v : Queue) : Queue := { v with delayEventAt := none, releasedAt := none }

namespace State

/-! ## What traffic changes of Turnpike (R234 to R236, R243, R246) -/

/-- Between two states frames may have been admitted or refused: of Turnpike only queues, delay requests and policers have
changed. -/
def QueuesMove (s t : State) : Prop :=
  t.tp = { s.tp with queues := t.tp.queues, delay := t.tp.delay, policeTok := t.tp.policeTok }

namespace QueuesMove

variable {s t u : State}

theorem of_tp (h : t.tp = s.tp) : QueuesMove s t := by rw [QueuesMove, h]

theorem refl (s : State) : QueuesMove s s := of_tp rfl

theorem trans (h : QueuesMove s t) (h' : QueuesMove t u) : QueuesMove s u := by
  calc u.tp = _ := h'
    _ = _ := by rw [h]

theorem foldl {α : Type} {f : State → α → State} (hf : ∀ s x, QueuesMove s (f s x)) (l : List α) (s : State) :
    QueuesMove s (l.foldl f s) :=
  List.foldlRecOn l f (motive := QueuesMove s) (refl s) (fun _ h x _ => h.trans (hf _ x))

/-- A step that is taken under a condition. -/
theorem ite {c : Prop} [Decidable c] (ht : QueuesMove s t) (hu : QueuesMove s u) : QueuesMove s (if c then t else u) := by
  split
  · exact ht
  · exact hu

theorem sched (h : QueuesMove s t) (n : Nat) : t.sched n = s.sched n := by rw [State.sched, State.sched, h]
theorem drains (h : QueuesMove s t) : t.tp.drains = s.tp.drains := by rw [h]

end QueuesMove

/-- Besides, every queue carries what it carried. -/
structure Carries (s t : State) : Prop where
  moves : QueuesMove s t
  carried : ∀ q, (t.queue q).carried = (s.queue q).carried

namespace Carries

variable {s t u : State}

theorem of_tp (h : t.tp = s.tp) : Carries s t := ⟨.of_tp h, fun q => by rw [queue_congr h]⟩

theorem refl (s : State) : Carries s s := of_tp rfl

theorem trans (h : Carries s t) (h' : Carries t u) : Carries s u :=
  ⟨h.moves.trans h'.moves, fun q => (h'.carried q).trans (h.carried q)⟩

theorem foldl {α : Type} {f : State → α → State} (hf : ∀ s x, Carries s (f s x)) (l : List α) (s : State) :
    Carries s (l.foldl f s) :=
  List.foldlRecOn l f (motive := Carries s) (refl s) (fun _ h x _ => h.trans (hf _ x))

/-- A step that is taken under a condition. -/
theorem ite {c : Prop} [Decidable c] (ht : Carries s t) (hu : Carries s u) : Carries s (if c then t else u) := by
  split
  · exact ht
  · exact hu

theorem frames (h : Carries s t) (q : Nat) : (t.queue q).frames = (s.queue q).frames :=
  (congrArg Queue.frames (h.carried q) :)
theorem inFlight (h : Carries s t) (q : Nat) : (t.queue q).inFlight = (s.queue q).inFlight :=
  (congrArg Queue.inFlight (h.carried q) :)
theorem refused (h : Carries s t) (q : Nat) : (t.queue q).refused = (s.queue q).refused :=
  (congrArg Queue.refused (h.carried q) :)

end Carries

section
variable (s : State)

theorem setQueue_moves (q : Nat) (v : Queue) : QueuesMove s (s.setQueue q v) := rfl

theorem setQueue_carries {q : Nat} {v : Queue} (h : v.carried = (s.queue q).carried) : Carries s (s.setQueue q v) := by
  refine ⟨setQueue_moves .., fun p => ?_⟩
  by_cases hp : q = p
  · subst hp
    rw [queue_setQueue_same, h]
  · rw [queue_setQueue_other s v hp]

/-! ### Delay requests (R243) -/

theorem markReleased_carries (l : List Nat) (at_ : Option Nat) : Carries s (s.markReleased l at_) := by
  have hmarked (s : State) (q : Nat) : Carries s (s.setQueue q { s.queue q with releasedAt := at_ }) :=
    setQueue_carries s rfl
  exact .foldl (fun s q => .ite (hmarked ..) (.refl s)) l s

theorem setDelay_carries (n : Note) (l : List Nat) :
    Carries s { s.note n with tp := { s.tp with delay := l } } := ⟨rfl, fun _ => rfl⟩

theorem delayAsserted_carries (t c : Nat) : Carries s (s.delayAsserted t c) :=
  (setDelay_carries ..).trans (markReleased_carries ..)

theorem delayRises_carries (t c q : Nat) : Carries s (s.delayRises t c q) := by
  have hasserted (at_ : Option Nat) : Carries s ((s.delayAsserted t c).setQueue q
      { (s.delayAsserted t c).queue q with delayEventAt := at_ }) :=
    (delayAsserted_carries s t c).trans (setQueue_carries _ rfl)
  have htold (b : Bool) (u : State) (a : Nat) : Carries u (if b then u.emit 0o070001 2 q a else u) :=
    .ite (.of_tp (emit_tp ..)) (.refl u)
  unfold delayRises
  exact .ite (.refl s) (((hasserted _).trans (htold ..)).trans (.of_tp (flowAll_tp _)))

theorem delayFalls_carries (t c : Nat) : Carries s (s.delayFalls t c) := by
  unfold delayFalls
  exact .ite (((setDelay_carries s _ _).trans (.ite (.refl _) (markReleased_carries ..))).trans (.of_tp (flowAll_tp _)))
    (.refl s)

theorem freed_carries (q : Nat) : Carries s (s.freed q) := by
  unfold freed
  split
  · exact delayFalls_carries ..
  · exact .refl s

theorem endFlight_carries (q : Nat) : Carries (s.setQueue q { s.queue q with inFlight := none }) (s.endFlight q) :=
  freed_carries ..

/-! ### Admission to spill (R234) -/

theorem chargePolicer_carries (t q len : Nat) : Carries s (s.chargePolicer t q len) :=
  .ite ⟨rfl, fun _ => rfl⟩ (.refl s)

theorem admitted_carries (t q : Nat) (f : QFrame) (p : Place) : Carries s (s.admitted t q f p) :=
  .trans (.of_tp (occur_tp ..)) ((chargePolicer_carries ..).trans (delayRises_carries ..))

/-- A queue whose first waiting frames the spill path has accepted. -/
def spillAccepted (q k : Nat) : State :=
  s.setQueue q { s.queue q with frames := (accepting k (s.queue q).frames).2 }

theorem acceptSpill_eq (t q k : Nat) : s.acceptSpill t q k =
    if (accepting k (s.queue q).frames).1.isEmpty then s
    else (accepting k (s.queue q).frames).1.foldl (fun s f => s.admitted t q f .spill) (s.spillAccepted q k) := rfl

end

/-- With nothing accepted the frames stand. -/
theorem accepting_of_nil {k : Nat} {l : List QFrame} (h : (accepting k l).1 = []) : (accepting k l).2 = l := by
  induction l generalizing k with
  | nil => cases k <;> rfl
  | cons f l ih =>
    cases k with
    | zero => rfl
    | succ k =>
      rw [accepting] at h ⊢
      split at h
      · cases h
      · next hf =>
        rw [if_neg hf]
        exact congrArg (f :: ·) (ih h)

/-- The frame once the spill path has accepted it. -/
def acceptedFrame (g : QFrame) : QFrame := { g with unaccepted := false }

theorem acceptedFrame_of_not {g : QFrame} (h : ¬ g.unaccepted = true) : acceptedFrame g = g := by
  rw [acceptedFrame, ← Bool.eq_false_of_not_eq_true h]

/-- As many frames as wait in the first part of a queue: they are accepted, and no other. -/
theorem accepting_append {k : Nat} {l : List QFrame} (h : (l.filter QFrame.unaccepted).length = k) (r : List QFrame) :
    (accepting k (l ++ r)).2 = l.map acceptedFrame ++ r := by
  induction l generalizing k with
  | nil =>
    subst h
    cases r <;> rfl
  | cons g l ih =>
    by_cases hg : g.unaccepted = true
    · rw [List.filter_cons_of_pos hg] at h
      subst h
      rw [List.cons_append, List.length_cons, accepting, if_pos hg]
      exact congrArg (acceptedFrame g :: ·) (ih rfl)
    · rw [List.filter_cons_of_neg hg] at h
      have hrest := ih h
      rw [List.cons_append, List.map_cons, acceptedFrame_of_not hg, List.cons_append, ← hrest]
      cases k with
      | zero => cases l ++ r <;> rfl
      | succ k => rw [accepting, if_neg hg]

theorem acceptSpill_carries (s : State) (t q k : Nat) : Carries (s.spillAccepted q k) (s.acceptSpill t q k) := by
  rw [acceptSpill_eq]
  split
  · next h =>
    refine ⟨rfl, fun p => ?_⟩
    by_cases hp : q = p
    · subst hp
      rw [spillAccepted, queue_setQueue_same, accepting_of_nil (List.isEmpty_iff.mp h)]
    · rw [spillAccepted, queue_setQueue_other s _ hp]
  · exact .foldl (fun s f => admitted_carries s t q f .spill) ..

theorem acceptSpill_moves (s : State) (t q k : Nat) : QueuesMove s (s.acceptSpill t q k) :=
  (setQueue_moves ..).trans (acceptSpill_carries s t q k).moves

section
variable (s : State)

/-! ### Refusals (R246, R247) -/

@[simp] theorem degrade_tp (t code : Nat) : (s.degrade t code).tp = s.tp := by
  unfold degrade tenEnter
  dsimp only
  repeat' split
  all_goals simp

/-- A refusal changes of Turnpike the count of its queue alone. -/
theorem refuse_tp (t q code : Nat) : (s.refuse t q code).tp = (s.queueCounts q code).tp := by
  have hcount (u : State) (h : u.tp = s.tp) : (u.refuseCount t q code).tp = (s.queueCounts q code).tp := by
    rw [refuseCount_eq, degrade_tp, emitOnceKey_tp, tenantCounts, setTenant_tp, queueCounts, queueCounts, setQueue, setQueue,
      queue_congr h, h]
  unfold refuse
  dsimp only
  split
  · exact hcount _ rfl
  · exact hcount s rfl

theorem refuse_moves (t q code : Nat) : QueuesMove s (s.refuse t q code) := by
  rw [QueuesMove, refuse_tp]
  rfl

theorem refuse_frames (t q code p : Nat) : ((s.refuse t q code).queue p).frames = (s.queue p).frames := by
  rw [queue_congr (refuse_tp ..)]
  exact frames_setQueue s q p _ rfl

theorem refuse_refused (t q code : Nat) :
    tabGet 0 ((s.refuse t q code).queue q).refused code = satInc 36 (tabGet 0 (s.queue q).refused code) := by
  rw [queue_congr (refuse_tp ..), queueCounts, queue_setQueue_same]
  exact tabGet_tabPut_same ..

@[simp] theorem wayWrite_tp (e : List Nat) : (s.wayWrite e).tp = s.tp := by
  unfold wayWrite
  dsimp only
  repeat' split
  all_goals simp

@[simp] theorem wayEnd_tp (q outPort : Nat) (f : QFrame) (prot : Bool) (outcome : Nat) :
    (s.wayEnd q outPort f prot outcome).tp = s.tp := by
  unfold wayEnd
  split
  · exact wayWrite_tp ..
  · rfl

/-- Each of the frames, which have left their queue, is refused. -/
def eachRefused (t q code : Nat) (l : List QFrame) : State :=
  l.foldl (fun s f => (s.refuse t q code).wayEnd q (s.qEgress q) f (s.egressTrunk q) code) s

theorem eachRefused_moves (t q code : Nat) (l : List QFrame) : QueuesMove s (s.eachRefused t q code l) :=
  .foldl (fun s _ => (refuse_moves s t q code).trans (.of_tp (wayEnd_tp ..))) l s

theorem eachRefused_frames (t q code : Nat) (l : List QFrame) (p : Nat) :
    ((s.eachRefused t q code l).queue p).frames = (s.queue p).frames :=
  foldl_keeps (fun s : State => (s.queue p).frames) _
    (fun s _ => (congrArg Queue.frames (queue_congr (wayEnd_tp ..) p)).trans (refuse_frames s t q code p)) l s

theorem refuseQueued_eq (t q code : Nat) (p : QFrame → Bool) : s.refuseQueued t q code p =
    let l := (s.queue q).frames.filter p
    let u := (s.setQueue q { s.queue q with frames := (s.queue q).frames.filter (fun f => !p f) }).eachRefused t q code l
    if l.isEmpty then u else u.delayFalls t (u.qTc q) := rfl

theorem refuseQueued_moves (t q code : Nat) (p : QFrame → Bool) : QueuesMove s (s.refuseQueued t q code p) :=
  ((setQueue_moves ..).trans (eachRefused_moves ..)).trans (.ite (.refl _) (delayFalls_carries ..).moves)

/-- A queue of which everything is refused is empty, and every other queue keeps its frames. -/
theorem refuseQueued_frames (t q code p : Nat) : ((s.refuseQueued t q code (fun _ => true)).queue p).frames =
    if q = p then [] else (s.queue p).frames := by
  have hend (u : State) (b : Prop) [Decidable b] (c : Nat) :
      ((if b then u else u.delayFalls t c).queue p).frames = (u.queue p).frames :=
    (Carries.ite (.refl u) (delayFalls_carries ..)).frames p
  rw [refuseQueued_eq]
  dsimp only
  rw [hend, eachRefused_frames]
  split
  · next h =>
    subst h
    simp
  · next h => rw [queue_setQueue_other s _ h]

theorem refuseTenant_moves (t code : Nat) : QueuesMove s (s.refuseTenant t code) :=
  .foldl (fun s q => refuseQueued_moves s t q code _) _ s

/-- A queue of the tenant is empty once everything queued for it is refused, whatever the code. -/
theorem refuseTenant_empties {t q : Nat} (code : Nat) (h : s.tenantOfQueue q = some t) :
    ((s.refuseTenant t code).queue q).frames = [] := by
  have hempty (u : State) (p : Nat) (hu : (u.queue q).frames = []) :
      ((u.refuseQueued t p code (fun _ => true)).queue q).frames = [] := by
    rw [refuseQueued_frames, hu, ite_self]
  by_cases hq : q ∈ s.tenantQueues t
  · refine foldl_reaches (P := fun _ => True) (Q := fun u : State => (u.queue q).frames = []) hq (fun _ _ _ _ => trivial)
      (fun u _ => ?_) (fun u p _ _ hu => hempty u p hu) trivial
    rw [refuseQueued_frames, if_pos rfl]
  · have hnone : q ∉ s.tp.queues.map Prod.fst := fun hm => hq (by simp [tenantQueues, hm, h])
    exact List.foldlRecOn _ _ (motive := fun u : State => (u.queue q).frames = []) (by rw [queue, tabGet_of_notMem _ hnone])
      (fun u hu p _ => hempty u p hu)

end
end State
end Sys2Proof.Machine

namespace Sys2Proof.Machine
namespace State

section
variable (s : State)

/-! ### Admission (R236) -/

theorem note_moves (n : Note) : QueuesMove s (s.note n) := .of_tp rfl
theorem setWay_moves (v : WayUnit) : QueuesMove s { s with way := v } := .of_tp rfl

theorem wayRefused_tp (sampled : Bool) (q outPort : Nat) (f : QFrame) (trunk prot : Bool) (code : Nat) :
    (s.wayRefused sampled q outPort f trunk prot code).tp = s.tp := by
  unfold wayRefused
  dsimp only
  split
  · exact wayWrite_tp ..
  · rfl

theorem admitRefused_moves (t q code : Nat) (f : QFrame) (sampled trunk : Bool) :
    QueuesMove s (s.admitRefused t q code f sampled trunk) := by
  have hcounted (u : State) : QueuesMove u
      (if code = rcQuota then u.occur 25 0o004 else if code = rcCeiling then u.occur 25 0o005 else u) :=
    .ite (note_moves ..) (.ite (note_moves ..) (.refl u))
  exact ((note_moves ..).trans (hcounted _)).trans ((refuse_moves ..).trans (.of_tp (wayRefused_tp ..)))

theorem admitTo_moves (t q : Nat) (f : QFrame) (p : Place) (sampled trunk : Bool) :
    QueuesMove s (s.admitTo t q f p sampled trunk) := by
  have hadmitting : QueuesMove s (s.admitting f p sampled) :=
    .trans (.ite (.refl s) (note_moves ..)) (.ite (setWay_moves ..) (.refl _))
  rw [admitTo_eq]
  exact (hadmitting.trans (setQueue_moves ..)).trans (.ite (.refl _) (admitted_carries ..).moves)

theorem enter_moves (t q : Nat) (f : QFrame) (trunk : Bool) : QueuesMove s (s.enter t q f trunk) := by
  have hsample (u : State) : QueuesMove u (u.waySample t f.ingress q).2 := by
    rw [waySample_eq]
    exact .of_tp rfl
  have hsampled := (acceptSpill_moves s t q (s.spillDue q)).trans (hsample _)
  have hwanted (u : State) (b : Bool) : QueuesMove u (if b then u.emitOnce 0o071004 2 q 1 else u) :=
    .ite (.of_tp (emitOnceKey_tp ..)) (.refl u)
  refine hsampled.trans (.ite (admitRefused_moves ..) (.ite (admitRefused_moves ..)
    (.ite ?_ (.ite (admitRefused_moves ..) ?_))))
  · exact .trans (t := countFieldAbsent _) (.of_tp rfl) (admitRefused_moves ..)
  · dsimp only
    split
    · exact (hwanted ..).trans (admitRefused_moves ..)
    · exact admitTo_moves ..

theorem classifyAdmit_moves (t port : Nat) (trunk : Bool) (data : List Nat) :
    QueuesMove s (s.classifyAdmit t port trunk data) := by
  unfold classifyAdmit classified
  dsimp only
  split
  · exact ((note_moves ..).trans (note_moves ..)).trans (refuse_moves ..)
  · split
    · exact ((note_moves ..).trans (note_moves ..)).trans (refuse_moves ..)
    · exact ((note_moves ..).trans (note_moves ..)).trans (enter_moves ..)

/-! ### Pending sections of a tenant apply, and its drain ends (R248) -/

theorem Settles.tp {s t : State} (h : s.Settles t) : t.tp = s.tp := by rw [h]
theorem Settles.now {s t : State} (h : s.Settles t) : t.now = s.now := by rw [h]

theorem tenantMapped_parts (t : Nat) : (s.tenantMapped t).tp = s.tp ∧ (s.tenantMapped t).now = s.now := by
  unfold tenantMapped
  split
  · split <;> exact ⟨rfl, rfl⟩
  · exact ⟨rfl, rfl⟩

/-- The tenant has its pending sections. -/
def sectionsTaken (t : Nat) : State :=
  (((s.takePending 0o013 t).takePending 0o014 t).takePending 0o015 t).tenantMapped t

theorem sectionsTaken_parts (t : Nat) : (s.sectionsTaken t).tp = s.tp ∧ (s.sectionsTaken t).now = s.now := by
  have htaken : s.Settles (((s.takePending 0o013 t).takePending 0o014 t).takePending 0o015 t) :=
    ((takePending_settles ..).trans (takePending_settles ..)).trans (takePending_settles ..)
  obtain ⟨htp, hnow⟩ := tenantMapped_parts (((s.takePending 0o013 t).takePending 0o014 t).takePending 0o015 t) t
  exact ⟨htp.trans htaken.tp, hnow.trans htaken.now⟩

/-- The frames that a drain has held are presented again. -/
def heldPresented (t : Nat) (l : List HeldFrame) : State := l.foldl (fun s f => s.presentHeld t f) s

theorem heldPresented_moves (t : Nat) (l : List HeldFrame) : QueuesMove s (s.heldPresented t l) :=
  .foldl (fun s _ => classifyAdmit_moves s ..) l s

theorem heldPresented_now (t : Nat) (l : List HeldFrame) : (s.heldPresented t l).now = s.now :=
  foldl_keeps State.now _ (fun s _ => (classifyAdmit_lanesStand s ..).now) l s

variable {s}

theorem applyTenant_of_drain {t : Nat} {d : Drain} (h : tabGet none s.tp.drains t = some d) :
    s.applyTenant t = (((s.sectionsTaken t).endDrain t).heldPresented t d.held).flowAll.settleApply := by
  have hdrain : tabGet none (s.sectionsTaken t).tp.drains t = some d := by rw [(sectionsTaken_parts s t).1, h]
  change State.settleApply (State.flowAll (match tabGet none (s.sectionsTaken t).tp.drains t with
    | some d => ((s.sectionsTaken t).endDrain t).heldPresented t d.held
    | none => (s.sectionsTaken t).endDrain t)) = _
  rw [hdrain]

theorem endDrain_carries (s : State) (t : Nat) :
    Carries { s with tp := { s.tp with drains := tabPut none s.tp.drains t none } } (s.endDrain t) :=
  markReleased_carries ..

theorem endDrain_lanesStand (s : State) (t : Nat) : LanesStand s (s.endDrain t) :=
  (setTp_lanesStand ..).trans (markReleased_lanesStand ..)

/-- Once the sections of a draining tenant apply it drains no more, and where it held no frame every queue keeps its own. -/
theorem applyTenant_ends {t : Nat} {d : Drain} (h : tabGet none s.tp.drains t = some d) :
    tabGet none (s.applyTenant t).tp.drains t = none ∧
      (d.held = [] → ∀ q, ((s.applyTenant t).queue q).frames = (s.queue q).frames) ∧ (s.applyTenant t).now = s.now := by
  obtain ⟨htaken, hnow⟩ := sectionsTaken_parts s t
  have hended := endDrain_carries (s.sectionsTaken t) t
  have htp : (s.applyTenant t).tp = (((s.sectionsTaken t).endDrain t).heldPresented t d.held).tp := by
    rw [applyTenant_of_drain h, (settleApply_settles _).tp, flowAll_tp]
  refine ⟨?_, fun hheld q => ?_, ?_⟩
  · rw [htp, (heldPresented_moves ..).drains, hended.moves.drains]
    exact tabGet_tabPut_same none none _ t
  · rw [queue_congr htp, hheld]
    exact (hended.frames q).trans (congrArg Queue.frames (queue_congr htaken q))
  · rw [applyTenant_of_drain h, (settleApply_settles _).now, (flowAll_lanesStand _).now, heldPresented_now,
      (endDrain_lanesStand ..).now, hnow]

end
end State

/-! ## Time passes over a queue (R521) -/

/-- A table of which every listed number changes: a number whose value is listed before and after reads the changed value. -/
theorem tabGet_tabMap {α : Type} [DecidableEq α] (d : α) (f : Nat → α → α) {l : Tab α} {k : Nat} (h : tabGet d l k ≠ d)
    (hf : f k (tabGet d l k) ≠ d) : tabGet d (tabMap d l f) k = f k (tabGet d l k) := by
  induction l with
  | nil => exact absurd rfl h
  | cons e l ih =>
    obtain ⟨j, v⟩ := e
    by_cases hj : j = k
    · subst hj
      rw [tabGet, if_pos rfl] at hf ⊢
      simp [tabMap, hf, tabGet]
    · rw [tabGet, if_neg hj] at h hf ⊢
      rw [← ih h hf]
      by_cases hv : f j v = d
      · simp [tabMap, hv]
      · simp [tabMap, hv, tabGet, hj]

namespace State

section
variable (s : State)

/-- The exempt time of a frame of queue `q` moves on while one of its waits holds. -/
def exempted (cycles q : Nat) (f : QFrame) : QFrame :=
  if f.eligible && s.exemptNow f.tenant q f then { f with exempt := f.exempt + cycles } else f

def exemptedQueue (cycles q : Nat) (v : Queue) : Queue := { v with frames := v.frames.map (s.exempted cycles q) }

theorem addExempt_eq (cycles : Nat) : s.addExempt cycles =
    if s.tp.queues.any (fun e => e.2.frames.any QFrame.eligible) then
      { s with tp := { s.tp with queues := tabMap {} s.tp.queues (s.exemptedQueue cycles) } }
    else s := rfl

variable {s}

theorem addExempt_queue {q : Nat} (cycles : Nat) (h : (s.queue q).frames ≠ []) :
    (s.addExempt cycles).queue q = s.queue q ∨ (s.addExempt cycles).queue q = s.exemptedQueue cycles q (s.queue q) := by
  have hlisted : s.queue q ≠ {} := fun hnone => h (congrArg Queue.frames hnone)
  have hstill : s.exemptedQueue cycles q (s.queue q) ≠ {} :=
    fun hnone => h (List.map_eq_nil_iff.mp (congrArg Queue.frames hnone))
  rw [addExempt_eq]
  split
  · exact .inr (tabGet_tabMap ({} : Queue) (s.exemptedQueue cycles) hlisted hstill)
  · exact .inl rfl

/-- The clock moves on: of a queue with frames only their exempt time moves with it. -/
theorem upTo_queue {q : Nat} (t : Nat) (h : (s.queue q).frames ≠ []) :
    ∃ g : QFrame → QFrame, (∀ f, g f = { f with exempt := (g f).exempt }) ∧
      (s.upTo t).queue q = { s.queue q with frames := (s.queue q).frames.map g } := by
  have hsame : ∃ g : QFrame → QFrame, (∀ f, g f = { f with exempt := (g f).exempt }) ∧
      s.queue q = { s.queue q with frames := (s.queue q).frames.map g } := ⟨id, fun _ => rfl, by rw [List.map_id]⟩
  have hexempted (u : State) (c : Nat) (f : QFrame) : u.exempted c q f = { f with exempt := (u.exempted c q f).exempt } := by
    unfold exempted
    split <;> rfl
  unfold upTo
  split
  · exact hsame
  · have hcount : (s.mile.sel.foldl (fun s c => s.countTime t c.1 c.2) s).tp = s.tp :=
      foldl_keeps State.tp _ (fun s (c : Nat × Nat) => countTime_tp s t c.1 c.2) ..
    generalize s.mile.sel.foldl (fun s c => s.countTime t c.1 c.2) s = u at hcount
    rw [← queue_congr hcount] at h hsame ⊢
    rcases addExempt_queue (t - u.now) h with hq | hq
    · obtain ⟨g, hg, hframes⟩ := hsame
      exact ⟨g, hg, hq.trans hframes⟩
    · exact ⟨u.exempted (t - u.now) q, hexempted u _, hq⟩

theorem upTo_moves (s : State) (t : Nat) : QueuesMove s (s.upTo t) := by
  rw [QueuesMove, upTo_tp]

end
end State
end Sys2Proof.Machine

namespace Sys2Proof.Machine
namespace State

section
variable (s : State)

theorem upTo_tenantOfQueue (t q : Nat) : (s.upTo t).tenantOfQueue q = s.tenantOfQueue q := by
  rw [show s.upTo t = _ from upTo_elapses s t]
  rfl

theorem refuseTenant_lanesStand (t code : Nat) : LanesStand s (s.refuseTenant t code) :=
  .foldl (fun s q => refuseQueued_lanesStand s t q code _) _ s

/-! ## A frame has left its lane (R235) -/

theorem frameLeaves_tp (n : Nat) : (s.frameLeaves n).tp = s.tp := by
  have hout (u : State) (l : List Nat) : (l.foldl (fun s w => s.send (.codeword n w)) u).tp = u.tp :=
    foldl_keeps State.tp _ (fun s w => send_tp s (.codeword n w)) l u
  unfold frameLeaves lineOut
  dsimp only
  split
  · rw [hout, setLane_tp]
  · rfl

theorem frameDone_tp (n q : Nat) (f : QFrame) : (s.frameDone n q f).tp = s.tp := by
  unfold frameDone
  dsimp only
  rw [wayEnd_tp]
  split <;> simp

/-- Lane `n` sends nothing more. -/
def laneFreed (n : Nat) : State := (s.setSched n { s.sched n with sending := none }).frameLeaves n

theorem laneFreed_tp (n : Nat) : (s.laneFreed n).tp = (s.setSched n { s.sched n with sending := none }).tp :=
  frameLeaves_tp ..

theorem laneFreed_sending (n : Nat) : ((s.laneFreed n).sched n).sending = none := by
  rw [sched_congr (laneFreed_tp ..), sched_setSched_same]

theorem laneFreed_queue (n q : Nat) : (s.laneFreed n).queue q = s.queue q := queue_congr (laneFreed_tp s n) q

/-- The frame of a queue is over: its lane is free, and the queue has nothing in flight. -/
theorem endFlight_ends {u : State} {n : Nat} (q : Nat) (hu : u.tp = (s.laneFreed n).tp) :
    ((u.endFlight q).sched n).sending = none ∧ ((u.endFlight q).queue q).inFlight = none ∧
      ((u.endFlight q).queue q).frames = (s.queue q).frames := by
  have hended := endFlight_carries u q
  refine ⟨?_, ?_, ?_⟩
  · rw [((setQueue_moves ..).trans hended.moves).sched, sched_congr hu, laneFreed_sending]
  · rw [hended.inFlight, queue_setQueue_same]
  · rw [hended.frames, queue_setQueue_same, queue_congr hu, laneFreed_queue]

end
end State

section
variable {s : State} {lane : Fin 16} {n : Nat}

/-- TX_FRAME_COMPLETE, for what the lane has been sending. -/
def frameEnded (s : State) (n : Nat) : Sending → State
  | .data q _ _ => (match ((s.laneFreed n).queue q).inFlight with
      | some f => (s.laneFreed n).frameDone n q f
      | none => s.laneFreed n).endFlight q
  | .mgmt f => ((s.laneFreed n).frameOut n f.len).mgmtAdmit (s.laneFreed n).tp.mgmtWait

def txStep (lane : Fin 16) (s : State) : State :=
  match s.laneLead lane with
  | none => s
  | some n =>
    match (s.sched n).sending with
    | some m => frameEnded s n m
    | none => s

theorem exec_txFrameComplete (lane : Fin 16) (s : State) : exec (.txFrameComplete lane) s =
    actUnit [.free, .image, .keys, .lanes, .tenants, .tp, .sp, .way] s (txStep lane) := rfl

theorem txFrameComplete_reaches {m : Sending} (hheld : s.unitsHeld = false) (hlead : s.laneLead lane = some n)
    (hsending : (s.sched n).sending = some m) :
    ∃ t, exec (.txFrameComplete lane) s = .next t ∧ t.tp = (frameEnded s.clear n m).tp := by
  have hstep : txStep lane s.clear = frameEnded s.clear n m := by
    have hlead' : s.clear.laneLead lane = some n := hlead
    have hsending' : (s.clear.sched n).sending = some m := hsending
    simp only [txStep, hlead', hsending']
  obtain ⟨t, ht, hsame⟩ := exec_reaches_unit (exec_txFrameComplete lane s) hheld hstep
  exact ⟨t, ht, hsame .tp (by decide) rfl⟩

theorem txFrameComplete_data {q an pn : Nat} {f : QFrame} (hheld : s.unitsHeld = false) (hlead : s.laneLead lane = some n)
    (hsending : (s.sched n).sending = some (.data q an pn)) (hflight : (s.queue q).inFlight = some f) :
    ∃ t, exec (.txFrameComplete lane) s = .next t ∧ (t.sched n).sending = none ∧ (t.queue q).inFlight = none ∧
      (t.queue q).frames = (s.queue q).frames := by
  obtain ⟨t, ht, htp⟩ := txFrameComplete_reaches hheld hlead hsending
  have hended : frameEnded s.clear n (.data q an pn) = ((s.clear.laneFreed n).frameDone n q f).endFlight q := by
    have hflight' : ((s.clear.laneFreed n).queue q).inFlight = some f := by rw [State.laneFreed_queue]; exact hflight
    rw [frameEnded, hflight']
  rw [hended] at htp
  refine ⟨t, ht, ?_⟩
  rw [State.sched_congr htp, State.queue_congr htp]
  exact State.endFlight_ends s.clear q (State.frameDone_tp ..)

theorem txFrameComplete_mgmt {f : MgmtFrame} (hheld : s.unitsHeld = false) (hlead : s.laneLead lane = some n)
    (hsending : (s.sched n).sending = some (.mgmt f)) :
    ∃ t, exec (.txFrameComplete lane) s = .next t ∧ (t.sched n).sending = none ∧ t.tp.queues = s.tp.queues := by
  obtain ⟨t, ht, htp⟩ := txFrameComplete_reaches hheld hlead hsending
  have hadmits := State.mgmtAdmit_keepsSending ((s.clear.laneFreed n).frameOut n f.len) (s.clear.laneFreed n).tp.mgmtWait
  refine ⟨t, ht, ?_, ?_⟩
  · rw [State.sched_congr htp]
    refine (hadmits.sending n).trans ?_
    rw [State.sched_congr (State.frameOut_tp ..), State.laneFreed_sending]
  · rw [htp]
    refine hadmits.queues.trans ?_
    rw [State.frameOut_tp, State.laneFreed_tp]
    rfl

end

/-! ## Spill (R234, R251) -/

section
variable {l rest : List QFrame} {f : QFrame}

theorem find?_waiting (hl : ∀ g ∈ l, g.unaccepted = false) (hf : f.unaccepted = true) :
    (l ++ f :: rest).find? (fun f => f.unaccepted) = some f := by
  rw [List.find?_append, List.find?_cons_of_pos hf, List.find?_eq_none.mpr (by simpa using hl)]
  rfl

theorem eraseP_waiting (hl : ∀ g ∈ l, g.unaccepted = false) (hf : f.unaccepted = true) :
    (l ++ f :: rest).eraseP (fun f => f.unaccepted) = l ++ rest := by
  rw [List.eraseP_append_right _ (by simpa using hl), List.eraseP_cons_of_pos hf]

variable {s : State} {queue : Fin 16384} {u : Nat}

/-- The spill path has not accepted `f` in time: it leaves its queue. -/
def waitOver (s : State) (q : Nat) (f : QFrame) : State :=
  let s := s.upTo (f.since + us 1)
  s.setQueue q { s.queue q with frames := (s.queue q).frames.eraseP (fun f => f.unaccepted) }

/-- It is refused, and the observers are told that memory was the cause. -/
def spillRefused (s : State) (t q : Nat) (f : QFrame) : State :=
  let s := waitOver s q f
  ((s.emitOnce 0o071004 2 q 2).refuse t q rcQuota).wayEnd q (s.qEgress q) f (s.egressTrunk q) rcQuota

theorem waitOver_erases {q : Nat} (hl : ∀ g ∈ l, g.unaccepted = false) (hf : f.unaccepted = true)
    (hframes : (s.queue q).frames = l ++ f :: rest) :
    ((waitOver s q f).queue q).frames.map (fun g => (g.data, g.unaccepted)) =
        (l ++ rest).map (fun g => (g.data, g.unaccepted)) ∧
      ((waitOver s q f).queue q).refused = (s.queue q).refused := by
  obtain ⟨g, hg, hqueue⟩ := State.upTo_queue (s := s) (q := q) (f.since + us 1) (by simp [hframes])
  have hwaits (h : QFrame) : (g h).unaccepted = h.unaccepted := by rw [hg]
  have hsame (h : QFrame) : ((g h).data, (g h).unaccepted) = (h.data, h.unaccepted) := by rw [hg]
  have herased : ((l ++ f :: rest).map g).eraseP (fun f => f.unaccepted) = (l ++ rest).map g := by
    rw [List.map_append, List.map_cons, eraseP_waiting (by simpa [hwaits] using hl) ((hwaits f).trans hf), List.map_append]
  rw [waitOver, State.queue_setQueue_same, hqueue]
  dsimp only
  rw [hframes, herased, List.map_map]
  exact ⟨congrArg (List.map · _) (funext hsame), rfl⟩

theorem spillRefused_refuses {q : Nat} (t : Nat) (hl : ∀ g ∈ l, g.unaccepted = false) (hf : f.unaccepted = true)
    (hframes : (s.queue q).frames = l ++ f :: rest) :
    ((spillRefused s t q f).queue q).frames.map (fun g => (g.data, g.unaccepted)) =
        (l ++ rest).map (fun g => (g.data, g.unaccepted)) ∧
      tabGet 0 ((spillRefused s t q f).queue q).refused rcQuota = satInc 36 (tabGet 0 (s.queue q).refused rcQuota) ∧
      (spillRefused s t q f).now = max s.now (f.since + us 1) := by
  obtain ⟨herased, hrefused⟩ := waitOver_erases hl hf hframes
  have htold : ((waitOver s q f).emitOnce 0o071004 2 q 2).queue q = (waitOver s q f).queue q :=
    State.queue_congr (State.emitOnceKey_tp ..) q
  refine ⟨?_, ?_, ?_⟩
  · rw [spillRefused, State.queue_congr (State.wayEnd_tp ..), State.refuse_frames, htold, herased]
  · rw [spillRefused, State.queue_congr (State.wayEnd_tp ..), State.refuse_refused, htold, hrefused]
  · rw [spillRefused, (State.wayEnd_lanesStand ..).now, (State.refuse_lanesStand ..).now, State.emitOnce,
      (State.emitOnceKey_lanesStand ..).now]
    exact State.upTo_now s _

/-- SPILL_ACCEPT_TIMEOUT. -/
def acceptStep (queue : Fin 16384) (ahead : Nat) (s : State) : State :=
  match s.tenantOfQueue queue with
  | some t =>
    match ((s.acceptSpill t queue ahead).queue queue).frames.find? (fun f => f.unaccepted) with
    | some f => spillRefused (s.acceptSpill t queue ahead) t queue f
    | none => s.acceptSpill t queue ahead
  | none => s

theorem spillAcceptTimeout_refuses {ahead : Nat} (hheld : s.unitsHeld = false) (htenant : s.tenantOfQueue queue = some u)
    (hframes : (s.queue queue).frames = l ++ f :: rest) (hahead : (l.filter QFrame.unaccepted).length = ahead)
    (hf : f.unaccepted = true) :
    ∃ t, exec (.spillAcceptTimeout queue ahead) s = .next t ∧
      (t.queue queue).frames.map (fun g => (g.data, g.unaccepted)) =
        l.map (fun g => (g.data, false)) ++ rest.map (fun g => (g.data, g.unaccepted)) ∧
      tabGet 0 (t.queue queue).refused 1 = satInc 36 (tabGet 0 (s.queue queue).refused 1) ∧
      t.now = max s.now (f.since + us 1) := by
  have haccepts := State.acceptSpill_carries s.clear u queue ahead
  have hfirst : (s.clear.spillAccepted queue ahead).queue queue =
      { s.queue queue with frames := l.map State.acceptedFrame ++ f :: rest } := by
    rw [State.spillAccepted, State.queue_setQueue_same, show s.clear.queue queue = s.queue queue from rfl, hframes,
      State.accepting_append hahead]
  have hnow : (s.clear.acceptSpill u queue ahead).now = s.now := (State.acceptSpill_lanesStand s.clear u queue ahead).now
  have hqueue : ((s.clear.acceptSpill u queue ahead).queue queue).frames = l.map State.acceptedFrame ++ f :: rest := by
    rw [haccepts.frames, hfirst]
  have hrefused : ((s.clear.acceptSpill u queue ahead).queue queue).refused = (s.queue queue).refused := by
    rw [haccepts.refused, hfirst]
  have hall : ∀ g ∈ l.map State.acceptedFrame, g.unaccepted = false := by simp [State.acceptedFrame]
  have hstep : acceptStep queue ahead s.clear = spillRefused (s.clear.acceptSpill u queue ahead) u queue f := by
    rw [acceptStep, show s.clear.tenantOfQueue queue = some u from htenant]
    dsimp only
    rw [hqueue, find?_waiting hall hf]
  obtain ⟨t, ht, hsame⟩ := exec_reaches_unit (i := .spillAcceptTimeout queue ahead) (f := acceptStep queue ahead)
    (ps := [.now, .free, .once, .lanes, .tenants, .tp, .way]) rfl hheld hstep
  obtain ⟨herased, hcounts, htime⟩ := spillRefused_refuses u hall hf hqueue
  have htp := hsame .tp (by decide) rfl
  refine ⟨t, ht, ?_, ?_, ?_⟩
  · rw [State.queue_congr htp, herased, List.map_append, List.map_map]
    rfl
  · rw [hrefused] at hcounts
    rw [State.queue_congr htp]
    exact hcounts
  · rw [← hnow]
    exact (hsame .now (by decide) rfl).trans htime

/-! ### A frame is read back (R234) -/

/-- The frame has left its queue, refused. -/
def integrityRefused (s : State) (t q : Nat) (f : QFrame) (l : List QFrame) : State :=
  let s := (s.setQueue q { s.queue q with frames := l }).refuse t q rcIntegrity
  (s.wayEnd q (s.qEgress q) f (s.egressTrunk q) rcIntegrity).delayFalls t (s.qTc q)

/-- What becomes of the oldest frame in spill. -/
def oldestRead (s : State) (t q : Nat) (good : Bool) : State :=
  let v := s.queue q
  match v.frames.dropWhile (fun f => decide (f.place ≠ Place.spill)) with
  | f :: rest =>
    let l := v.frames.takeWhile (fun f => decide (f.place ≠ Place.spill))
    if good && s.memReady && !(tabGet {} s.mem.regions t).broken then s.readBack q l f rest
    else integrityRefused s t q f (l ++ rest)
  | [] => s

/-- SPILL_READ_BACK. -/
def readBackStep (queue : Fin 16384) (good : Bool) (s : State) : State :=
  match s.tenantOfQueue queue with
  | none => s
  | some t =>
    let oldest := match (s.queue queue).frames.find? (fun f => decide (f.place = Place.spill)) with
      | some f => if f.unaccepted then 1 else 0
      | none => 0
    oldestRead (s.acceptSpill t queue (max oldest (s.spillDue queue))) t queue good

section
variable (hheld : s.unitsHeld = false) (hframes : (s.queue queue).frames = l ++ f :: rest)
  (hl : ∀ g ∈ l, g.place ≠ .spill) (hf : f.place = .spill)
include hl hf

theorem dropWhile_spill : (l ++ f :: rest).dropWhile (fun f => decide (f.place ≠ Place.spill)) = f :: rest := by
  rw [List.dropWhile_append_of_pos (by simpa using hl), List.dropWhile_cons_of_neg (by simp [hf])]

theorem takeWhile_spill : (l ++ f :: rest).takeWhile (fun f => decide (f.place ≠ Place.spill)) = l := by
  rw [List.takeWhile_append_of_pos (by simpa using hl), List.takeWhile_cons_of_neg (by simp [hf]), List.append_nil]

theorem oldestRead_of_frames {t q : Nat} {good : Bool} (hframes : (s.queue q).frames = l ++ f :: rest) :
    oldestRead s t q good = if good && s.memReady && !(tabGet {} s.mem.regions t).broken then s.readBack q l f rest
      else integrityRefused s t q f (l ++ rest) := by
  unfold oldestRead
  dsimp only
  rw [hframes, dropWhile_spill hl hf, takeWhile_spill hl hf]

omit hl hf in
/-- Cells of its queue are free for the frame (R233). -/
theorem readBack_of_reserved {q : Nat}
    (hroom : State.held (s.queue q) .reserved + cellsOf f.len ≤ s.qWord q 2) :
    ((s.readBack q l f rest).queue q).frames = l ++ { f with place := .reserved, unaccepted := false } :: rest := by
  unfold State.readBack
  dsimp only
  rw [if_pos hroom, State.occurs_queue, State.queue_setQueue_same, List.append_assoc]
  rfl

omit hl hf in
theorem integrityRefused_refuses (t q : Nat) (r : List QFrame) :
    ((integrityRefused s t q f r).queue q).frames = r ∧
      tabGet 0 ((integrityRefused s t q f r).queue q).refused rcIntegrity =
        satInc 36 (tabGet 0 (s.queue q).refused rcIntegrity) := by
  have hkeeps (v : State) (n : Nat) (b : Bool) (c : Nat) :
      State.Carries v ((v.wayEnd q n f b rcIntegrity).delayFalls t c) :=
    (State.Carries.of_tp (State.wayEnd_tp ..)).trans (State.delayFalls_carries ..)
  have hcounted := State.refuse_refused (s.setQueue q { s.queue q with frames := r }) t q rcIntegrity
  rw [State.queue_setQueue_same] at hcounted
  refine ⟨?_, ?_⟩
  · refine ((hkeeps ..).frames q).trans ?_
    rw [State.refuse_frames, State.queue_setQueue_same]
  · exact (congrArg (tabGet 0 · rcIntegrity) ((hkeeps ..).refused q)).trans hcounted

include hheld hframes

/-- No frame of a settled queue waits, so none is accepted first. -/
theorem spillReadBack_reaches {good : Bool} (hsettled : s.settled queue = true) (htenant : s.tenantOfQueue queue = some u) :
    ∃ t, exec (.spillReadBack queue good) s = .next t ∧ t.tp = (oldestRead s.clear u queue good).tp := by
  have haccepted : f.unaccepted = false := by
    have hall := List.all_eq_true.mp hsettled f (by rw [hframes]; simp)
    simpa using hall
  have hstep : readBackStep queue good s.clear = oldestRead s.clear u queue good := by
    have holdest : (s.clear.queue queue).frames.find? (fun f => decide (f.place = Place.spill)) = some f := by
      rw [show (s.clear.queue queue).frames = l ++ f :: rest from hframes, List.find?_append,
        List.find?_cons_of_pos (by simp [hf]), List.find?_eq_none.mpr (by simpa using hl)]
      rfl
    rw [readBackStep, show s.clear.tenantOfQueue queue = some u from htenant]
    dsimp only
    rw [holdest]
    dsimp only
    rw [haccepted, if_neg Bool.false_ne_true, Nat.zero_max, State.acceptSpill_of_settled s.clear u queue hsettled]
  obtain ⟨t, ht, hsame⟩ := exec_reaches_unit (i := .spillReadBack queue good) (f := readBackStep queue good)
    (ps := [.free, .once, .lanes, .tenants, .tp, .way]) rfl hheld hstep
  exact ⟨t, ht, hsame .tp (by decide) rfl⟩

theorem spillReadBack_good (hsettled : s.settled queue = true) (htenant : s.tenantOfQueue queue = some u)
    (hready : s.memReady = true) (hwhole : (tabGet {} s.mem.regions u).broken = false)
    (hroom : State.held (s.queue queue) .reserved + cellsOf f.len ≤ s.qWord queue 2) :
    ∃ t, exec (.spillReadBack queue true) s = .next t ∧
      (t.queue queue).frames = l ++ { f with place := .reserved, unaccepted := false } :: rest := by
  obtain ⟨t, ht, htp⟩ := spillReadBack_reaches (good := true) hheld hframes hl hf hsettled htenant
  refine ⟨t, ht, ?_⟩
  have hgood : (true && s.clear.memReady && !(tabGet {} s.clear.mem.regions u).broken) = true := by
    rw [show s.clear.memReady = true from hready, show (tabGet {} s.clear.mem.regions u).broken = false from hwhole]
    rfl
  rw [State.queue_congr htp, oldestRead_of_frames (s := s.clear) hl hf hframes, if_pos hgood]
  exact readBack_of_reserved (s := s.clear) hroom

theorem spillReadBack_bad (hsettled : s.settled queue = true) (htenant : s.tenantOfQueue queue = some u) :
    ∃ t, exec (.spillReadBack queue false) s = .next t ∧ (t.queue queue).frames = l ++ rest ∧
      tabGet 0 (t.queue queue).refused 0o12 = satInc 36 (tabGet 0 (s.queue queue).refused 0o12) := by
  obtain ⟨t, ht, htp⟩ := spillReadBack_reaches (good := false) hheld hframes hl hf hsettled htenant
  refine ⟨t, ht, ?_⟩
  rw [State.queue_congr htp, oldestRead_of_frames (s := s.clear) hl hf hframes, Bool.false_and, Bool.false_and,
    if_neg Bool.false_ne_true]
  exact integrityRefused_refuses (s := s.clear) u queue (l ++ rest)

end
end

/-! ## Drains and delay requests end (R248, R251) -/

section
variable {s : State}

/-- DRAIN_TIMEOUT. -/
def drainOverStep (tenant : Fin 16) (s : State) : State :=
  match tabGet none s.tp.drains tenant with
  | some d => ((s.upTo (d.since + ms 10)).refuseTenant tenant rcQuota).applyTenant tenant
  | none => s

theorem drainTimeout_ends {tenant : Fin 16} {d : Drain} (hheld : s.unitsHeld = false)
    (hdrain : tabGet none s.tp.drains tenant = some d) :
    ∃ t, exec (.drainTimeout tenant) s = .next t ∧ tabGet none t.tp.drains tenant = none ∧
      (d.held = [] → ∀ q ∈ s.tenantQueues tenant, (t.queue q).frames = []) ∧ t.now = max s.now (d.since + ms 10) := by
  have hrefused := State.refuseTenant_moves (s.clear.upTo (d.since + ms 10)) tenant rcQuota
  have hdrain' : tabGet none ((s.clear.upTo (d.since + ms 10)).refuseTenant tenant rcQuota).tp.drains tenant = some d := by
    rw [((State.upTo_moves ..).trans hrefused).drains]
    exact hdrain
  obtain ⟨hended, hframes, hnow⟩ := State.applyTenant_ends hdrain'
  have hstep : drainOverStep tenant s.clear =
      ((s.clear.upTo (d.since + ms 10)).refuseTenant tenant rcQuota).applyTenant tenant := by
    rw [drainOverStep, show tabGet none s.clear.tp.drains tenant = some d from hdrain]
  obtain ⟨t, ht, hsame⟩ := exec_reaches_unit (i := .drainTimeout tenant) (f := drainOverStep tenant)
    (ps := [.now, .free, .once, .image, .lanes, .tenants, .tp, .cway, .way]) rfl hheld hstep
  have htp := hsame .tp (by decide) rfl
  refine ⟨t, ht, ?_, fun hnone q hq => ?_, ?_⟩
  · rw [show t.tp = _ from htp, hended]
  · have htenant : (s.clear.upTo (d.since + ms 10)).tenantOfQueue q = some tenant := by
      rw [State.upTo_tenantOfQueue]
      exact of_decide_eq_true (List.mem_filter.mp hq).2
    rw [State.queue_congr htp, hframes hnone, State.refuseTenant_empties _ _ htenant]
  · refine (hsame .now (by decide) rfl).trans (hnow.trans ?_)
    rw [(State.refuseTenant_lanesStand ..).now]
    exact State.upTo_now s.clear _

/-- DELAY_QUIET_EXPIRY. -/
def quietStep (queue : Fin 16384) (s : State) : State :=
  match (s.queue queue).releasedAt with
  | some t => ((s.upTo (t + secs 1)).setQueue queue
      { s.queue queue with releasedAt := none, delayEventAt := none }).emit 0o070002 2 queue 0
  | none => s

theorem delayQuietExpiry_quiets {queue : Fin 16384} {x : Nat} (hheld : s.unitsHeld = false)
    (hreleased : (s.queue queue).releasedAt = some x) :
    ∃ t, exec (.delayQuietExpiry queue) s = .next t ∧ (t.queue queue).releasedAt = none ∧
      (t.queue queue).delayEventAt = none ∧ t.now = max s.now (x + secs 1) := by
  have hstep : quietStep queue s.clear = ((s.clear.upTo (x + secs 1)).setQueue queue
      { s.clear.queue queue with releasedAt := none, delayEventAt := none }).emit 0o070002 2 queue 0 := by
    rw [quietStep, show (s.clear.queue queue).releasedAt = some x from hreleased]
  obtain ⟨t, ht, hsame⟩ := exec_reaches_unit (i := .delayQuietExpiry queue) (f := quietStep queue)
    (ps := [.now, .free, .tenants, .tp]) rfl hheld hstep
  have htp := hsame .tp (by decide) rfl
  have hnow := hsame .now (by decide) rfl
  have hqueue : t.queue queue = { s.clear.queue queue with releasedAt := none, delayEventAt := none } := by
    rw [State.queue_congr htp, State.emit_queue, State.queue_setQueue_same]
  refine ⟨t, ht, ?_, ?_, ?_⟩
  · rw [hqueue]
  · rw [hqueue]
  · rw [show t.now = _ from hnow, State.emit_now, State.setQueue_now, State.upTo_now, State.clear_now]

end

/-- Settles O23, one lemma for each way in which a frame leaves its lane or its cells, and for what expires. -/
theorem turnpikeComplete : Obligations.TurnpikeComplete :=
  ⟨fun _ _ _ _ _ _ _ hheld hlead hsending hflight => txFrameComplete_data hheld hlead hsending hflight,
    fun _ _ _ _ hheld hlead hsending => txFrameComplete_mgmt hheld hlead hsending,
    fun _ _ _ _ _ _ _ hheld htenant hframes hahead hf => spillAcceptTimeout_refuses hheld htenant hframes hahead hf,
    fun _ _ _ _ _ _ hheld hframes hl hf hsettled htenant hready hwhole hroom =>
      spillReadBack_good hheld hframes hl hf hsettled htenant hready hwhole hroom,
    fun _ _ _ _ _ _ hheld hframes hl hf hsettled htenant => spillReadBack_bad hheld hframes hl hf hsettled htenant,
    fun _ _ _ hheld hdrain => drainTimeout_ends hheld hdrain,
    fun _ _ _ hheld hreleased => delayQuietExpiry_quiets hheld hreleased⟩

end Sys2Proof.Machine

namespace Sys2Proof.Machine
namespace State

/-! ## A command toward the Tollhouse leaves the host (R334, R447) -/

section
variable (s : State)

/-- What a send of messages may change: the classes of the transport, what is sent, and what the observers are told. -/
def Transports (s t : State) : Prop := t = { s with cway := { s.cway with chans := t.cway.chans }, sent := t.sent, notes := t.notes }

namespace Transports

variable {s t u : State}

theorem refl (s : State) : Transports s s := rfl

theorem trans (h : Transports s t) (h' : Transports t u) : Transports s u := by
  calc u = _ := h'
    _ = _ := by rw [h]

/-- A step that is taken under a condition. -/
theorem ite {c : Prop} [Decidable c] (ht : Transports s t) (hu : Transports s u) : Transports s (if c then t else u) := by
  split
  · exact ht
  · exact hu

theorem sp (h : Transports s t) : t.sp = s.sp := by rw [h]
theorem outstanding (h : Transports s t) : t.cway.outstanding = s.cway.outstanding := by rw [h]
theorem nextHostSeq (h : Transports s t) : t.cway.nextHostSeq = s.cway.nextHostSeq := by rw [h]

end Transports

theorem setChan_transports (w : Way) (c : MsgClass) (v : Chan) : Transports s (s.setChan w c v) := rfl

theorem sendWords_transports (w : Way) (l : List (Nat × Msg)) : Transports s (s.sendWords w l) :=
  List.foldlRecOn l _ (motive := Transports s) (.refl s) (fun _ h _ _ => h.trans rfl)

theorem pump_transports (w : Way) (c : MsgClass) : Transports s (s.pump w c) := by
  have hcount (b b' : Prop) [Decidable b] [Decidable b'] (u : State) (n : Nat) :
      Transports u (if b then (if b' then (u.occurs 34 0o001 0 n).occurs 34 0o006 0 n else u.occurs 34 0o001 0 n) else u) :=
    .ite (.ite rfl rfl) (.refl u)
  exact .ite (((setChan_transports ..).trans (sendWords_transports ..)).trans (hcount ..)) (.refl s)

theorem sendMsg_transports (w : Way) (c : MsgClass) (m : Msg) : Transports s (s.sendMsg w c m) :=
  (setChan_transports ..).trans (pump_transports ..)

/-- A message toward the Tollhouse is outstanding under the HOST_SEQ that it takes (R334). -/
theorem sendToTollhouse_outstanding (m : Nat → Msg) :
    (s.sendToTollhouse m).sp = s.sp ∧
      (s.sendToTollhouse m).cway.outstanding = s.cway.outstanding ++ [(s.nextHostSeq, m s.nextHostSeq)] ∧
      (s.sendToTollhouse m).cway.nextHostSeq = s.nextHostSeq % 262143 + 1 := by
  unfold sendToTollhouse
  dsimp only
  split
  · have h := sendMsg_transports { s with cway := { s.cway with
      nextHostSeq := s.nextHostSeq % 262143 + 1, outstanding := s.cway.outstanding ++ [(s.nextHostSeq, m s.nextHostSeq)] } }
      .down .legal (m s.nextHostSeq)
    exact ⟨h.sp, h.outstanding, h.nextHostSeq⟩
  · exact ⟨rfl, rfl, rfl⟩

end
end State

/-! ## Verbs that act outside the registers (R307, R444, R447, R448) -/

section
variable {s : State} {r : VerbCall} {n : Fin 32}

/-- A TH_COMMAND of the operator in its form waits for its reply, and leaves (R447). -/
def State.commandsTollhouse (n : Nat) (args : List Word) (s : State) : State :=
  let h := s.nextHostSeq
  ({ s with sp := { s.sp with
    results := ((h, none) :: s.sp.results).take 16, thWaiting := s.sp.thWaiting ++ [(n, h, s.now + secs 1)] } } : State).sendToTollhouse
      (fun h => .thCommand h args)

theorem thCommand_sends {args : List Word} (hopen : s.callerOpen (.operator n) = true) (hmin : 1 ≤ args.length)
    (hmax : args.length ≤ 253) (hform : bits (wordAt args 0).toNat 11 0 = 0) :
    ∃ t, exec (.thCommand { caller := .operator n, cond := none } args) s = .next t ∧
      t.sp.thWaiting = s.sp.thWaiting ++ [(n.val, s.nextHostSeq, s.now + secs 1)] ∧
      t.cway.outstanding = s.cway.outstanding ++ [(s.nextHostSeq, .thCommand s.nextHostSeq args)] ∧
      t.cway.nextHostSeq = s.nextHostSeq % 262143 + 1 := by
  have hgood : (s.clear.callerOpen (.operator n) && (decide (1 ≤ args.length ∧ args.length ≤ 253) &&
      decide (bits (wordAt args 0).toNat 11 0 = 0)) && true) = true := by
    simp [show s.clear.callerOpen (.operator n) = true from hopen, hmin, hmax, hform]
  obtain ⟨t, ht, -, hsame⟩ := exec_reaches (s := s) (i := .thCommand { caller := .operator n, cond := none } args)
    (u := s.clear.commandsTollhouse n args) rfl (if_pos hgood)
  obtain ⟨hsp, hout, hnext⟩ := State.sendToTollhouse_outstanding _ (fun h => .thCommand h args)
  have hcway : t.cway = (s.clear.commandsTollhouse n args).cway := hsame .cway (by decide) rfl
  refine ⟨t, ht, ?_, ?_, ?_⟩
  · rw [show t.sp = (s.clear.commandsTollhouse n args).sp from hsame .sp (by decide) rfl]
    exact congrArg SpUnit.thWaiting hsp
  · rw [hcway]
    exact hout
  · rw [hcway]
    exact hnext

theorem thResult_kept {hostSeq : Word} {x : Nat} {rest : List (Nat × Option Nat)} (hact : s.mayAct r none = true)
    (hop : State.isOperator r.caller = true) (hkept : s.sp.results = (hostSeq.toNat, some x) :: rest) :
    ∃ t, exec (.thResult r hostSeq) s = .next t ∧
      t.answers r.caller 0o15 0 [BitVec.ofNat 18 (fld 17 12 x)] = true := by
  obtain ⟨t, ht, ha, -⟩ := exec_serves (i := .thResult r hostSeq)
    (d := { st := s.clear, status := stDone, words := [BitVec.ofNat 18 (fld 17 12 x)] }) rfl hact
    (congrArg (fun b => s.clear.serve r 0o15 b none [hostSeq.toNat] _) hop) (by simp [hkept]) rfl
  exact ⟨t, ht, ha⟩

theorem thResult_pending {hostSeq : Word} {rest : List (Nat × Option Nat)} (hact : s.mayAct r none = true)
    (hop : State.isOperator r.caller = true) (hkept : s.sp.results = (hostSeq.toNat, none) :: rest) :
    ∃ t, exec (.thResult r hostSeq) s = .next t ∧ t.answers r.caller 0o15 0o16 [] = true := by
  obtain ⟨t, ht, ha, -⟩ := exec_serves (i := .thResult r hostSeq) (d := { st := s.clear, status := stPending }) rfl hact
    (congrArg (fun b => s.clear.serve r 0o15 b none [hostSeq.toNat] _) hop) (by simp [hkept]) rfl
  exact ⟨t, ht, ha⟩

/-- A PORT_COMMAND of the operator waits for its answer, and leaves toward the Verge die (R364, R444). -/
def State.commandsPort (n port action : Nat) (s : State) : State :=
  ({ s with sp := { s.sp with portWaiting := s.sp.portWaiting ++ [(n, port, action)] } } : State).sendMsg .down .state
    (.portCmd port none action)

theorem portCommand_sends {a0 : Word} (hopen : s.callerOpen (.operator n) = true) (hlinked : s.linked = true)
    (hport : bits a0.toNat 17 14 ≤ 9) (hform : bits a0.toNat 13 3 = 0)
    (haction : bits a0.toNat 2 0 = 1 ∨ bits a0.toNat 2 0 = 2) :
    ∃ t, exec (.portCommand { caller := .operator n, cond := none } a0) s = .next t ∧
      t.sp.portWaiting = s.sp.portWaiting ++ [(n.val, bits a0.toNat 17 14, bits a0.toNat 2 0)] ∧
      t.holds .down .state (fun m => decide (m = .portCmd (bits a0.toNat 17 14) none (bits a0.toNat 2 0))) = true := by
  have hopen' : s.clear.callerOpen (.operator n) = true := hopen
  have hlinked' : s.clear.linked = true := hlinked
  obtain ⟨t, ht, -, hsame⟩ := exec_reaches (s := s) (i := .portCommand { caller := .operator n, cond := none } a0)
    (u := s.clear.commandsPort n (bits a0.toNat 17 14) (bits a0.toNat 2 0)) rfl
    (by simp [hopen', hlinked', hport, hform, haction, State.commandsPort])
  refine ⟨t, ht, ?_, ?_⟩
  · rw [show t.sp = (s.clear.commandsPort n (bits a0.toNat 17 14) (bits a0.toNat 2 0)).sp from hsame .sp (by decide) rfl,
      State.commandsPort, (State.sendMsg_transports ..).sp]
    rfl
  · rw [State.holds, State.chan_congr (hsame .cway (by decide) rfl : t.cway = _)]
    exact State.sendMsg_holds _ _ _ _ (decide_eq_true rfl)

theorem tableRead_zheac {first count : Word} (hact : s.mayAct r none = true) (hop : State.isOperator r.caller = true)
    (hmin : 1 ≤ count.toNat) (hmax : first.toNat + count.toNat ≤ 17) :
    ∃ t, exec (.tableRead r 0o11 first count) s = .next t ∧
      t.answers r.caller 0o04 0 ((List.range (8 * count.toNat)).map
        (fun i => BitVec.ofNat 18 (zheacRecord s (first.toNat + i / 8) (i % 8)))) = true := by
  obtain ⟨t, ht, ha, -⟩ := exec_serves (i := .tableRead r 0o11 first count) rfl hact
    (congrArg (fun b => s.clear.serve r 0o04 b none [(0o11 : Word).toNat, first.toNat, count.toNat] _) hop)
    (if_pos ⟨rfl, hmin, hmax⟩) rfl
  exact ⟨t, ht, ha⟩

/-- No report is held: EXPORT answers the position alone (R448). -/
theorem exportReports_none {position : BitVec 36} {count : Word} (hact : s.mayAct r none = true)
    (hop : State.isOperator r.caller = true) (hmin : 1 ≤ count.toNat) (hmax : count.toNat ≤ 14)
    (hreports : s.cway.reports = []) :
    ∃ t, exec (.exportReports r position count) s = .next t ∧
      t.answers r.caller 0o16 0 (wide 2 position.toNat ++ [0]) = true := by
  obtain ⟨t, ht, ha, -⟩ := exec_serves (i := .exportReports r position count)
    (d := { st := s.clear, status := stDone, words := wide 2 position.toNat ++ [0] }) rfl hact
    (congrArg (fun b => s.clear.serve r 0o16 b none ([1] ++ wideWords 2 position.toNat ++ [count.toNat]) _) hop)
    (by simp [hmin, hmax, hreports, flag]) rfl
  exact ⟨t, ht, ha⟩

/-- The report at the position is held: EXPORT answers its words (R448). -/
theorem exportReports_one {position : BitVec 36} {count : Word} {w : List Nat} (hact : s.mayAct r none = true)
    (hop : State.isOperator r.caller = true) (hmin : 1 ≤ count.toNat) (hmax : count.toNat ≤ 14)
    (hreports : s.cway.reports = [w]) (hpos : s.cway.reportCount = position.toNat) :
    ∃ t, exec (.exportReports r position count) s = .next t ∧
      t.answers r.caller 0o16 0 (wide 2 (position.toNat + 1) ++ [0] ++ (w.map (BitVec.ofNat 18) ++ [0, 0])) = true := by
  have htake : List.take count.toNat [w] = [w] := List.take_of_length_le hmin
  obtain ⟨t, ht, ha, -⟩ := exec_serves (i := .exportReports r position count)
    (d := { st := s.clear, status := stDone,
            words := wide 2 (position.toNat + 1) ++ [0] ++ (w.map (BitVec.ofNat 18) ++ [0, 0]) }) rfl hact
    (congrArg (fun b => s.clear.serve r 0o16 b none ([1] ++ wideWords 2 position.toNat ++ [count.toNat]) _) hop)
    (by simp [hmin, hmax, hreports, hpos, htake, flag]) rfl
  exact ⟨t, ht, ha⟩

end

/-- Settles O36: the commands leave with what waits for their answers, and the verbs that read answer what they find. -/
theorem operatorVerbsComplete : Obligations.OperatorVerbsComplete :=
  ⟨fun _ _ _ hopen hmin hmax hform => thCommand_sends hopen hmin hmax hform,
    fun _ _ _ _ _ hact hop hkept => thResult_kept hact hop hkept,
    fun _ _ _ _ hact hop hkept => thResult_pending hact hop hkept,
    fun _ _ _ hopen hlinked hport hform haction => portCommand_sends hopen hlinked hport hform haction,
    fun _ _ _ _ hact hop hmin hmax => tableRead_zheac hact hop hmin hmax,
    fun _ _ _ _ hact hop hmin hmax hreports _ => exportReports_none hact hop hmin hmax hreports,
    fun _ _ _ _ _ hact hop hmin hmax hreports hpos => exportReports_one hact hop hmin hmax hreports hpos⟩

end Sys2Proof.Machine

namespace Sys2Proof.Machine

/-- A group that keeps no key of its ephemeral (R291). -/
def ZGroup.withoutEph (v : ZGroup) : ZGroup := { v with eph := none, ephReady := false, ephPub := 0 }

namespace State

/-! ## The groups of Zheac (R283, R291, R304) -/

section
variable {s t : State}

theorem zgroup_congr (h : t.zheac.groups = s.zheac.groups) (g : Nat) : t.zgroup g = s.zgroup g := by
  rw [zgroup, zgroup, h]

theorem zgroup_of_zheac (h : t.zheac = s.zheac) (g : Nat) : t.zgroup g = s.zgroup g :=
  zgroup_congr (congrArg ZheacUnit.groups h) g

theorem lanePeer_congr (h : t.image = s.image) (n : Nat) : t.lanePeer n = s.lanePeer n := by
  rw [lanePeer, lanePeer, laneWord, cfg_congr h]
  rfl

theorem groupLanes_congr (h : t.image = s.image) (g : Nat) : t.groupLanes g = s.groupLanes g :=
  congrArg (fun p => (List.range 16).filter p) (funext fun m => by
    rw [hasSection_congr h, laneIsTrunk_congr h, lanePeer_congr h, lanePeer_congr h])

theorem groupUpLane_congr (himage : t.image = s.image) (hlanes : t.lanes = s.lanes) (g : Nat) :
    t.groupUpLane g = s.groupUpLane g := by
  rw [groupUpLane, groupUpLane, groupLanes_congr himage]
  exact congrArg (fun p => (s.groupLanes g).find? p) (funext fun n => by rw [laneUpNow, laneUpNow, lane_congr hlanes])

theorem zheacStreams_congr (himage : t.image = s.image) (hlink : t.link = s.link) (g : Nat) :
    t.zheacStreams g = s.zheacStreams g := by
  rw [zheacStreams, zheacStreams, groupLanes_congr himage, hlink]

theorem peerVerifies_congr (h : t.image = s.image) (d : Handshake) : t.peerVerifies d = s.peerVerifies d := by
  have hcert : t.certPub = s.certPub := funext fun node => by rw [certPub, certPub, inForce?_congr h]
  rw [peerVerifies, peerVerifies, hcert]

theorem answerLane_of_up {n : Nat} (h : s.laneUpNow n = true) (g : Nat) : s.answerLane g n = some n := if_pos h

theorem Elapses.zheac (h : s.Elapses t) : t.zheac = s.zheac := by rw [h]

variable (s)

theorem zgroup_upTo (x g : Nat) : (s.upTo x).zgroup g = s.zgroup g := zgroup_of_zheac (upTo_elapses s x).zheac g

theorem zgroup_setHs (g : Nat) (h : Handshake) : (s.setHs g h).zgroup g = { s.zgroup g with hs := some h } :=
  zgroup_setGroup_same ..

theorem zgroup_zEnter (g : Nat) (st : ZState) :
    (s.zEnter g st).zgroup g =
      { s.zgroup g with
        state := st, gen := if (s.zgroup g).state = st then (s.zgroup g).gen else ((s.zgroup g).gen + 1) % 32 } := by
  unfold zEnter
  dsimp only
  split
  · next h => rw [← h]
  · rw [zgroup_setGroup_same]

theorem destroyKey_zheac {n : Nat} (h : slotDevMem < n) : (s.destroyKey n).zheac = s.zheac := by
  unfold destroyKey destroyContained
  dsimp only
  rw [containSlotFault_of_lt _ h, ite_self]
  split
  · rfl
  · exact (destroySlot_manages (op := False) s n).zheac

/-- A group whose ephemeral is destroyed has none; the rest of it stands (R291). -/
theorem zgroup_dropEph (g : Nat) :
    ((s.dropEph g).zgroup g).eph = none ∧ ((s.dropEph g).zgroup g).withoutEph = (s.zgroup g).withoutEph := by
  unfold dropEph
  dsimp only
  split
  · next k _ =>
    rw [zgroup_of_zheac (destroyKey_zheac _ (slotDevMem_lt_slotZheacEph k)), zgroup_setGroup_same]
    exact ⟨rfl, rfl⟩
  · next h => exact ⟨h, rfl⟩

/-! ## The public-key engine (R298) -/

theorem pkAsk_eq (g : Nat) (op : PkOp) : s.pkAsk g op = { s with zheac := (s.pkAsk g op).zheac, notes := (s.pkAsk g op).notes } := by
  unfold pkAsk
  split <;> rfl

theorem zgroup_pkAsk (g n : Nat) (op : PkOp) : (s.pkAsk g op).zgroup n = s.zgroup n := by
  unfold pkAsk
  split <;> rfl

/-- An operation that joins the engine runs at once, or another runs. -/
theorem pkAsk_running (g : Nat) (op : PkOp) : (s.pkAsk g op).zheac.running ≠ none := by
  unfold pkAsk
  split
  · exact nofun
  · next h => exact fun hn => nomatch h.symm.trans hn

theorem pkNext_eq : s.pkNext = { s with zheac := s.pkNext.zheac, notes := s.pkNext.notes } := by
  unfold pkNext
  dsimp only
  split <;> rfl

theorem zgroup_pkNext (g : Nat) : s.pkNext.zgroup g = s.zgroup g := by
  unfold pkNext
  dsimp only
  split <;> rfl

/-! ## Messages leave (R287) -/

theorem sendZheac_manages {op : Prop} (g type : Nat) (lane : Option Nat) (hsId : Nat) (start : Bool) (list : List ListEntry)
    (bitmap : List Bool) (reason : Nat) (words : List Nat) :
    Manages op s (s.sendZheac g type lane hsId start list bitmap reason words) := by
  unfold sendZheac
  split
  · exact (send_manages ..).trans (queueMgmt_manages ..)
  · exact .refl s

theorem sendZheac_sends {n : Nat} (hreplay : s.replayMode = false) (g type hsId : Nat) (start : Bool) (list : List ListEntry)
    (bitmap : List Bool) (reason : Nat) (words : List Nat) :
    Sent.zheac g type n hsId start list bitmap reason ∈
      (s.sendZheac g type (some n) hsId start list bitmap reason words).sent := by
  unfold sendZheac
  rw [hreplay]
  exact (queueMgmt_manages (op := False) (s.send (.zheac g type n hsId start list bitmap reason)) _ _).sent.subset
    (by simp [send])

/-! ## The end of a handshake (R299, R300) -/

theorem zgroup_dropRequests (g number n : Nat) : (s.dropRequests g number).zgroup n = s.zgroup n := zgroup_congr rfl n

theorem failureTold_zheac (g reason : Nat) (refused eighth : Bool) :
    (s.failureTold g reason refused eighth).zheac = s.zheac := by
  simp only [failureTold, zSecurity, apply_ite State.zheac, emitOwn_zheac, ite_self]

theorem zgroup_handshakeLost (g : Nat) (v : ZGroup) (number : Nat) :
    ((s.handshakeLost g v number).zgroup g).withoutEph = v.withoutEph := by
  rw [handshakeLost, (zgroup_dropEph ..).2, zgroup_dropRequests, zgroup_setGroup_same]

/-- A handshake that fails leaves its group in BACKOFF, counted, with its reason. -/
structure BacksOff (v w : ZGroup) (reason : Nat) : Prop where
  state : w.state = .backoff
  hs : w.hs = none
  lastReason : w.lastReason = reason
  failedCount : w.failedCount = satInc 18 v.failedCount

theorem failHs_backsOff {g reason : Nat} {h : Handshake} (hhs : (s.zgroup g).hs = some h) (hreason : reason ≠ zrLane)
    (refuse refused : Bool) : BacksOff (s.zgroup g) ((s.failHs g reason refuse refused).zgroup g) reason := by
  have hlost (u : State) (v : ZGroup) (number : Nat) (eighth : Bool) :
      (((u.handshakeLost g v number).failureTold g reason refused eighth).zgroup g).withoutEph = v.withoutEph := by
    rw [zgroup_of_zheac (failureTold_zheac ..), zgroup_handshakeLost]
  rw [failHs_eq, hhs]
  simp only [hreason, decide_false, Bool.false_eq_true, if_false]
  rw [zgroup_zEnter]
  exact ⟨rfl, (congrArg ZGroup.hs (hlost ..) :), (congrArg ZGroup.lastReason (hlost ..) :),
    (congrArg ZGroup.failedCount (hlost ..) :)⟩

theorem checkDue_of_none {g : Nat} (h : s.zheacStreams g = []) : s.checkDue g = s := by simp [checkDue, h]

/-- A handshake that ends with success leaves its group KEYED; with no stream to list no other follows (R300, R301). -/
theorem zgroup_succeedHs {g : Nat} (h : Handshake) (count : Nat) (hstreams : s.zheacStreams g = []) :
    ((s.succeedHs g h count).zgroup g).state = .keyed ∧ ((s.succeedHs g h count).zgroup g).hs = none ∧
      ((s.succeedHs g h count).zgroup g).ok = satInc 18 (s.zgroup g).ok ∧ ((s.succeedHs g h count).zgroup g).consec = 0 := by
  let v := { s.zgroup g with
    hs := none, ok := satInc 18 (s.zgroup g).ok, consec := 0, startOut := false, lastCount := sat 13 count,
    done := some (h.hsId, h.mine.length, h.installed) }
  let u := (((s.occur 33 0o002).setGroup g v).dropEph g).zEnter g .keyed
  have hstep : s.succeedHs g h count = ((u.endAlarm 0o113003 8 g).emitOwn 0o110001 8 g count).checkDue g := rfl
  have hu : LanesStand s u := ((note_lanesStand ..).trans (setGroup_lanesStand ..)).trans
    ((dropEph_lanesStand ..).trans (zEnter_lanesStand ..))
  have hnone : ((u.endAlarm 0o113003 8 g).emitOwn 0o110001 8 g count).zheacStreams g = [] :=
    (zheacStreams_congr (by simpa using hu.image) (by simpa using hu.link) g).trans hstreams
  have hkept : ((((s.occur 33 0o002).setGroup g v).dropEph g).zgroup g).withoutEph = v.withoutEph := by
    rw [(zgroup_dropEph ..).2, zgroup_setGroup_same]
  rw [hstep, checkDue_of_none _ hnone, zgroup_of_zheac ((emitOwn_zheac ..).trans (endAlarm_zheac ..)), zgroup_zEnter]
  exact ⟨rfl, (congrArg ZGroup.hs hkept :), (congrArg ZGroup.ok hkept :), (congrArg ZGroup.consec hkept :)⟩

/-! ## A handshake begins (R291, R301, R302) -/

theorem wantEph_of_generating {g k : Nat} (heph : (s.zgroup g).eph = some k) (hready : (s.zgroup g).ephReady = false) :
    s.wantEph g = s := by simp [wantEph, heph, hready]

/-- A handshake of a group begins, and waits for its ephemeral. -/
def beginHs (s : State) (g : Nat) (h : Handshake) : State :=
  let s := s.zEnter g .active
  (s.setGroup g { s.zgroup g with hs := some h, lastHsId := h.hsId }).wantEph g

/-- The handshake is in flight in an ACTIVE group whose ephemeral is drawn and not yet generated. -/
theorem zgroup_beginHs {g k : Nat} (h : Handshake) (heph : (s.zgroup g).eph = some k)
    (hready : (s.zgroup g).ephReady = false) :
    (s.beginHs g h).zgroup g =
      { (s.zEnter g .active).zgroup g with hs := some h, lastHsId := h.hsId } := by
  unfold beginHs
  dsimp only
  rw [wantEph_of_generating (k := k) _ (by rw [zgroup_setGroup_same, zgroup_zEnter]; exact heph)
    (by rw [zgroup_setGroup_same, zgroup_zEnter]; exact hready), zgroup_setGroup_same]

theorem beginHs_now (g : Nat) (h : Handshake) : (s.beginHs g h).now = s.now :=
  ((zEnter_lanesStand ..).trans ((setGroup_lanesStand ..).trans (wantEph_lanesStand ..))).now

theorem txStuck_keeps {α : Type} (part : State → α) (hlink : ∀ (u : State) (l : LinkUnit), part { u with link := l } = part u)
    (hemit : ∀ (u : State) (e k n a : Nat), part (u.emit e k n a) = part u) (x : Nat) : part (s.txStuck x) = part s := by
  unfold txStuck
  dsimp only
  split
  · rfl
  · exact (hemit ..).trans (hlink ..)

theorem makeList_now (g : Nat) (all : Bool) (first : List ListEntry) : (s.makeList g all first).1.now = s.now :=
  foldl_keeps State.now txStuck (fun u x => txStuck_keeps u _ (fun _ _ => rfl) (fun _ _ _ _ _ => rfl) x) _ s

theorem makeList_zheac (g : Nat) (all : Bool) (first : List ListEntry) : (s.makeList g all first).1.zheac = s.zheac :=
  foldl_keeps State.zheac txStuck (fun u x => txStuck_keeps u _ (fun _ _ => rfl) (fun _ _ _ _ _ => rfl) x) _ s

/-- A group with a lane UP begins a handshake as initiator when it has a START outstanding or a stream to list. -/
theorem initiate_begins {g k : Nat} (hstate : (s.zgroup g).state ≠ .unusable) (hhs : (s.zgroup g).hs = none)
    (hup : s.groupUpLane g ≠ none) (heph : (s.zgroup g).eph = some k) (hready : (s.zgroup g).ephReady = false)
    (hlist : (s.zgroup g).startOut = true ∨ (s.makeList g (s.zgroup g).startOut []).2 ≠ []) :
    ((s.initiate g).zgroup g).state = .active ∧
      ((s.initiate g).zgroup g).hs.map (fun d => (d.initiator, d.myStart, d.mine)) =
        some (true, (s.zgroup g).startOut, (s.makeList g (s.zgroup g).startOut []).2) ∧
      (s.initiate g).now = s.now := by
  let u := (s.makeList g (s.zgroup g).startOut []).1
  let l := (s.makeList g (s.zgroup g).startOut []).2
  let id := u.zheac.hellos % 262143 + 1
  let w : State := { u with zheac := { u.zheac with hellos := id, handshakes := u.zheac.handshakes + 1 } }
  let h : Handshake :=
    { initiator := true, hsId := id, number := u.zheac.handshakes + 1, urgent := u.rekeyDue l,
      myStart := (s.zgroup g).startOut, mine := l }
  have hmay : ((s.zgroup g).hs.isSome || decide ((s.zgroup g).state = .unusable) || (s.groupUpLane g).isNone) = false := by
    simpa [hhs, hstate] using Option.isSome_iff_ne_none.mpr hup
  have hsome : (l.isEmpty && !(s.zgroup g).startOut) = false := by
    rcases hlist with hstart | hne
    · simp [hstart]
    · simp [l, hne]
  have hstep : s.initiate g = w.beginHs g h := by
    unfold initiate
    dsimp only
    rw [if_neg (ne_true_of_eq_false hmay)]
    exact if_neg (ne_true_of_eq_false hsome)
  have hgroup : w.zgroup g = s.zgroup g := zgroup_of_zheac (s := s) (t := u) (makeList_zheac ..) g
  rw [hstep, zgroup_beginHs (k := k) w h (by rw [hgroup]; exact heph) (by rw [hgroup]; exact hready), zgroup_zEnter,
    beginHs_now]
  exact ⟨rfl, rfl, makeList_now ..⟩

end
end State
end Sys2Proof.Machine

namespace Sys2Proof.Machine

/-- The handshake of an initiator that the REPLY of words `w` answers, and whose engine checks its signature (Table 12.4). -/
def Handshake.replied (h : Handshake) (n : Nat) (w : List Word) : Handshake :=
  { h with
    peerStart := zStart w, theirs := zList w 64 (zCount w), acceptMine := zBitmap w (64 + zCount w) h.mine.length, lane := n,
    phase := .verifying, peerNonce := State.zNonce w, peerEph := State.zEphPub w,
    peerNode := if zSenderValid w then some (zSender w) else none, reply := zTake w (zWords w - 43),
    peerSig := zWideOf w (zWords w - 43) 43 }

/-- The handshake of a responder that the FINISH of words `w` answers (Table 12.4). -/
def Handshake.finished (h : Handshake) (n : Nat) (w : List Word) : Handshake :=
  { h with
    acceptMine := zBitmap w 5 h.mine.length, lane := n, phase := .verifying, finish := zTake w (zWords w - 43),
    peerNode := if zSenderValid w then some (zSender w) else none, peerSig := zWideOf w (zWords w - 43) 43 }

namespace State

section
variable {s : State} {n g : Nat} {w : List Word} {h : Handshake}

/-! ## What a HELLO does (R293, R294) -/

/-- The observers have been told of an event of Zheac; the device stands. -/
def Tells (s t : State) : Prop := t = { s with alarm := t.alarm, notes := t.notes }

namespace Tells

variable {t u : State}

theorem trans (h : Tells s t) (h' : Tells t u) : Tells s u := by
  calc u = _ := h'
    _ = _ := by rw [h]

theorem zheac (h : Tells s t) : t.zheac = s.zheac := by rw [h]
theorem replayMode (h : Tells s t) : t.replayMode = s.replayMode := by
  rw [h]
  rfl
theorem laneUpNow (h : Tells s t) (n : Nat) : t.laneUpNow n = s.laneUpNow n := by
  rw [h]
  rfl
theorem helloReason (h : Tells s t) (g : Nat) (w : List Word) : t.helloReason g w = s.helloReason g w := by
  rw [h]
  rfl

end Tells

theorem told_tells (s : State) (b : Prop) [Decidable b] (e k n a : Nat) : Tells s (if b then s.emitOwn e k n a else s) := by
  split <;> rfl

theorem zSecurity_tells (s : State) (g r : Nat) : Tells s (s.zSecurity g r) := told_tells ..

/-- The state after a HELLO that names this node as its sender has been told of (Table 12.8). -/
def collisionTold (s : State) (g : Nat) (w : List Word) : State :=
  if s.nodeSet && zSenderValid w && decide (zSender w = s.node) then s.emitOwn 0o114005 8 g s.node else s

theorem collisionTold_tells (s : State) (g : Nat) (w : List Word) : Tells s (s.collisionTold g w) := told_tells ..

/-- A HELLO that passes its checks does not come from this node. -/
theorem collisionTold_of_passed (hreason : s.helloReason g w = none) : s.collisionTold g w = s := by
  refine if_neg fun hc => ?_
  simp only [Bool.and_eq_true, decide_eq_true_eq] at hc
  obtain ⟨⟨hset, hvalid⟩, hnode⟩ := hc
  simp [State.helloReason, hset, hvalid, hnode] at hreason

/-- What a HELLO in its form does in its group: its first check that fails refuses it. -/
def helloMet (s : State) (g n : Nat) (w : List Word) : State :=
  match s.helloReason g w with
  | some r => (s.zSecurity g r).sendRefuse g (zHsId w) (s.answerLane g n) r
  | none =>
    match (s.zgroup g).hs with
    | none => s.answerHello g n w []
    | some h =>
      if !h.initiator && decide (h.hsId = zHsId w) then (if h.message.isEmpty then s else s.sendReply g { h with lane := n })
      else if helloOpen h then (if s.helloWins w h then (s.supersede g true).answerHello g n w h.mine else s)
      else (s.supersede g false).answerHello g n w []

theorem zheacHello_of_ok (hok : s.helloOk w = true) (hgroup : s.groupOfLane n = some g) :
    s.zheacHello n w = (s.collisionTold g w).helloMet g n w := by
  unfold zheacHello
  rw [hok, hgroup]
  rfl

/-- A HELLO that fails a check is answered by REFUSE, and changes no group. -/
theorem zheacHello_refuses {r : Nat} (hup : s.laneUpNow n = true) (hreplay : s.replayMode = false) (hok : s.helloOk w = true)
    (hgroup : s.groupOfLane n = some g) (hreason : s.helloReason g w = some r) :
    Sent.zheac g 5 n (zHsId w) false [] [] r ∈ (s.zheacHello n w).sent ∧ (s.zheacHello n w).zheac = s.zheac := by
  have hcollision := collisionTold_tells s g w
  have htold : Tells s ((s.collisionTold g w).zSecurity g r) := hcollision.trans (zSecurity_tells ..)
  rw [zheacHello_of_ok hok hgroup, helloMet, hcollision.helloReason, hreason,
    answerLane_of_up ((hcollision.laneUpNow n).trans hup)]
  exact ⟨sendZheac_sends _ (htold.replayMode.trans hreplay) .., (sendZheac_manages (op := False) ..).zheac.trans htold.zheac⟩

theorem zheacHello_answers (hok : s.helloOk w = true) (hgroup : s.groupOfLane n = some g) (hreason : s.helloReason g w = none)
    (hhs : (s.zgroup g).hs = none) : s.zheacHello n w = s.answerHello g n w [] := by
  rw [zheacHello_of_ok hok hgroup, collisionTold_of_passed hreason, helloMet, hreason, hhs]

theorem zheacHello_repeats (hok : s.helloOk w = true) (hgroup : s.groupOfLane n = some g) (hreason : s.helloReason g w = none)
    (hhs : (s.zgroup g).hs = some h) (hrole : h.initiator = false) (hid : h.hsId = zHsId w) (hmessage : h.message ≠ []) :
    s.zheacHello n w = s.sendReply g { h with lane := n } := by
  rw [zheacHello_of_ok hok hgroup, collisionTold_of_passed hreason, helloMet, hreason, hhs]
  simp [hrole, hid, hmessage]

/-- The responder's handshake is in flight in an ACTIVE group. -/
theorem answerHello_begins {k : Nat} (n : Nat) (w : List Word) (first : List ListEntry) (heph : (s.zgroup g).eph = some k)
    (hready : (s.zgroup g).ephReady = false) :
    ((s.answerHello g n w first).zgroup g).state = .active ∧
      ((s.answerHello g n w first).zgroup g).lastHsId = zHsId w ∧
      ((s.answerHello g n w first).zgroup g).hs.map (fun d => (d.initiator, d.hsId, d.lane)) = some (false, zHsId w, n) := by
  let m := s.makeList g (zStart w || (s.zgroup g).startOut) first
  let u : State := { m.1 with zheac := { m.1.zheac with handshakes := m.1.zheac.handshakes + 1 } }
  let d : Handshake :=
    { initiator := false, hsId := zHsId w, number := m.1.zheac.handshakes + 1, urgent := m.1.rekeyDue m.2,
      myStart := (m.1.zgroup g).startOut, peerStart := zStart w, mine := m.2, theirs := zList w 64 (zCount w), lane := n,
      peerNonce := zNonce w, peerEph := zEphPub w, peerNode := some (zSender w), hello := zTake w (zWords w) }
  have hgroup : u.zgroup g = s.zgroup g := zgroup_of_zheac (s := s) (t := m.1) (makeList_zheac ..) g
  have hstep : s.answerHello g n w first = u.beginHs g d := rfl
  rw [hstep, zgroup_beginHs (k := k) u d (by rw [hgroup]; exact heph) (by rw [hgroup]; exact hready), zgroup_zEnter]
  exact ⟨rfl, rfl, rfl⟩

/-! ## What the messages of a handshake in flight do (R293, R297, R299) -/

theorem hsOf_some {id : Nat} (hof : s.hsOf n id = some (g, h)) : (s.zgroup g).hs = some h ∧ h.hsId = id := by
  unfold hsOf at hof
  split at hof
  · split at hof
    · split at hof
      · next hhs hid =>
        cases hof
        exact ⟨hhs, hid⟩
      · cases hof
    · cases hof
  · cases hof

theorem zheacReply_answers (hof : s.hsOf n (zHsId w) = some (g, h)) (hrole : h.initiator = true)
    (hphase : h.phase = .helloSent) (hok : s.replyOk w (some h.mine.length) = true) : s.zheacReply n w =
      if p384.isPub (zEphPub w) then (s.setHs g (h.replied n w)).pkAsk g .verify
      else (s.setHs g (h.replied n w)).failHs g zrBadKey true false := by
  have hfound : (s.hsOf n (zHsId w)).filter (fun e => e.2.initiator && decide (e.2.phase = .helloSent)) = some (g, h) := by
    simp [hof, Option.filter, hrole, hphase]
  unfold zheacReply
  rw [hfound]
  exact if_neg (by simp [hok])

theorem zheacFinish_of_ok (hof : s.hsOf n (zHsId w) = some (g, h)) (hrole : h.initiator = false)
    (hok : s.finishOk w (some h.mine.length) = true) : s.zheacFinish n w =
      if h.phase = .replySent then (s.setHs g (h.finished n w)).pkAsk g .verify
      else if h.phase = .installedSent then s.sendInstalled g h.hsId n h.installed
      else s := by
  have hfound : (s.hsOf n (zHsId w)).filter (fun e => !e.2.initiator) = some (g, h) := by
    simp [hof, Option.filter, hrole]
  unfold zheacFinish
  rw [hfound]
  exact if_neg (by simp [hok])

theorem zheacFinish_answers (hof : s.hsOf n (zHsId w) = some (g, h)) (hrole : h.initiator = false)
    (hphase : h.phase = .replySent) (hok : s.finishOk w (some h.mine.length) = true) :
    s.zheacFinish n w = (s.setHs g (h.finished n w)).pkAsk g .verify := by
  rw [zheacFinish_of_ok hof hrole hok, if_pos hphase]

theorem zheacFinish_repeats (hof : s.hsOf n (zHsId w) = some (g, h)) (hrole : h.initiator = false)
    (hphase : h.phase = .installedSent) (hok : s.finishOk w (some h.mine.length) = true) :
    s.zheacFinish n w = s.sendInstalled g h.hsId n h.installed := by
  rw [zheacFinish_of_ok hof hrole hok, if_neg (by simp [hphase]), if_pos hphase]

theorem zheacInstalled_waits (hof : s.hsOf n (zHsId w) = some (g, h)) (hrole : h.initiator = true)
    (hphase : h.phase = .finishSent) (hnone : h.peerInstalled = none) (hderived : h.derived = false)
    (hok : s.installedOk w (some h.mine.length) = true) :
    s.zheacInstalled n w = s.setHs g { h with peerInstalled := some (zBitmap w 5 h.mine.length), lane := n } := by
  simp [zheacInstalled, hof, hrole, hphase, hnone, hderived, hok]

theorem zheacInstalled_ends (hof : s.hsOf n (zHsId w) = some (g, h)) (hrole : h.initiator = false)
    (hphase : h.phase = .installedSent) (hmine : h.mine = []) (hok : s.installedOk w (some 0) = true) :
    s.zheacInstalled n w = s.succeedHs g h (0 + countTrue h.installed) := by
  simp [zheacInstalled, hof, hrole, hphase, hmine, hok, installTxList]

theorem zheacRefuse_fails (hof : s.hsOf n (zHsId w) = some (g, h)) (hok : s.refuseOk w = true) :
    s.zheacRefuse n w = s.failHs g (wordAt w 5).toNat false true := by
  simp [zheacRefuse, hof, hok]

end
end State

/-! ## The commands of a handshake's messages -/

section
variable {s : State} {lane : Fin 16} {words : List Word} {n g : Nat} {h : Handshake}

/-- A message on a lane that takes Zheac frames does what its controller makes of it. -/
theorem exec_receives {i : Instr} {ps : List Part} {f : State → Nat → List Word → State}
    (hexec : exec i s = act ps s (fun s => s.zheacRx lane words f)) (hlane : s.zheacLane lane = some n)
    (hzheac : ps.contains .zheac = true) :
    ∃ notes t, exec i s = .next t ∧ t.sent = (f (s.telling notes [] s.way) n words).sent ∧
      t.zheac = (f (s.telling notes [] s.way) n words).zheac := by
  obtain ⟨notes, heffect⟩ := State.zheacRx_of_lane words f hlane
  obtain ⟨t, ht, hsent, hsame⟩ := exec_reaches hexec heffect
  exact ⟨notes, t, ht, hsent, hsame .zheac (by decide) hzheac⟩

theorem helloRx_begins {k : Nat} (hlane : s.zheacLane lane = some n) (hok : s.helloOk words = true)
    (hgroup : s.groupOfLane n = some g) (hreason : s.helloReason g words = none) (hhs : (s.zgroup g).hs = none)
    (heph : (s.zgroup g).eph = some k) (hready : (s.zgroup g).ephReady = false) :
    ∃ t, exec (.helloRx lane words) s = .next t ∧
      (t.zgroup g).state = .active ∧ (t.zgroup g).lastHsId = zHsId words ∧
      (t.zgroup g).hs.map (fun d => (d.initiator, d.hsId, d.lane)) = some (false, zHsId words, n) := by
  obtain ⟨notes, t, ht, -, hz⟩ := exec_receives (i := .helloRx lane words) rfl hlane rfl
  refine ⟨t, ht, ?_⟩
  rw [State.zgroup_of_zheac hz, State.zheacHello_answers (s := s.telling notes [] s.way) hok hgroup hreason hhs]
  exact State.answerHello_begins (s := s.telling notes [] s.way) n words [] heph hready

theorem helloRx_refused {r : Nat} (hlane : s.zheacLane lane = some n) (hok : s.helloOk words = true)
    (hgroup : s.groupOfLane n = some g) (hreason : s.helloReason g words = some r) :
    ∃ t, exec (.helloRx lane words) s = .next t ∧
      Sent.zheac g 5 n (zHsId words) false [] [] r ∈ t.sent ∧ (t.zgroup g).hs = (s.zgroup g).hs := by
  obtain ⟨notes, t, ht, hsent, hz⟩ := exec_receives (i := .helloRx lane words) rfl hlane rfl
  obtain ⟨hup, hreplay⟩ := State.zheacLane_up hlane
  obtain ⟨hsends, hstands⟩ := State.zheacHello_refuses (s := s.telling notes [] s.way) hup hreplay hok hgroup hreason
  exact ⟨t, ht, hsent ▸ hsends, congrArg ZGroup.hs (State.zgroup_of_zheac (s := s) (hz.trans hstands) g)⟩

theorem helloRx_repeated (hlane : s.zheacLane lane = some n) (hok : s.helloOk words = true)
    (hgroup : s.groupOfLane n = some g) (hreason : s.helloReason g words = none) (hhs : (s.zgroup g).hs = some h)
    (hrole : h.initiator = false) (hid : h.hsId = zHsId words) (hmessage : h.message ≠ []) :
    ∃ t, exec (.helloRx lane words) s = .next t ∧
      Sent.zheac g 2 n h.hsId h.myStart h.mine h.acceptTheirs 0 ∈ t.sent ∧ (t.zgroup g).hs = some h := by
  obtain ⟨notes, t, ht, hsent, hz⟩ := exec_receives (i := .helloRx lane words) rfl hlane rfl
  obtain ⟨hup, hreplay⟩ := State.zheacLane_up hlane
  rw [State.zheacHello_repeats (s := s.telling notes [] s.way) hok hgroup hreason hhs hrole hid hmessage] at hsent hz
  refine ⟨t, ht, ?_, ?_⟩
  · rw [hsent, State.sendReply, State.answerLane_of_up (by exact hup)]
    exact State.sendZheac_sends (s.telling notes [] s.way) hreplay ..
  · rw [State.zgroup_of_zheac (hz.trans (State.sendZheac_manages (op := False) ..).zheac)]
    exact hhs

theorem replyRx_verifies (hlane : s.zheacLane lane = some n) (hof : s.hsOf n (zHsId words) = some (g, h))
    (hrole : h.initiator = true) (hphase : h.phase = .helloSent) (hok : s.replyOk words (some h.mine.length) = true)
    (hpub : p384.isPub (State.zEphPub words) = true) :
    ∃ t, exec (.replyRx lane words) s = .next t ∧
      (t.zgroup g).hs.map (fun d => (d.phase, d.peerEph, d.peerNonce)) =
        some (.verifying, State.zEphPub words, State.zNonce words) ∧ t.zheac.running ≠ none := by
  obtain ⟨notes, t, ht, -, hz⟩ := exec_receives (i := .replyRx lane words) rfl hlane rfl
  rw [State.zheacReply_answers (s := s.telling notes [] s.way) hof hrole hphase hok, if_pos hpub] at hz
  refine ⟨t, ht, ?_, ?_⟩
  · rw [State.zgroup_of_zheac hz, State.zgroup_pkAsk, State.zgroup_setHs]
    rfl
  · rw [hz]
    exact State.pkAsk_running _ _ _

theorem replyRx_badKey (hlane : s.zheacLane lane = some n) (hof : s.hsOf n (zHsId words) = some (g, h))
    (hrole : h.initiator = true) (hphase : h.phase = .helloSent) (hok : s.replyOk words (some h.mine.length) = true)
    (hpub : p384.isPub (State.zEphPub words) = false) :
    ∃ t, exec (.replyRx lane words) s = .next t ∧
      (t.zgroup g).state = .backoff ∧ (t.zgroup g).hs = none ∧ (t.zgroup g).lastReason = zrBadKey := by
  obtain ⟨notes, t, ht, -, hz⟩ := exec_receives (i := .replyRx lane words) rfl hlane rfl
  rw [State.zheacReply_answers (s := s.telling notes [] s.way) hof hrole hphase hok,
    if_neg (ne_true_of_eq_false hpub)] at hz
  have hfails := State.failHs_backsOff ((s.telling notes [] s.way).setHs g (h.replied n words)) (g := g)
    (reason := zrBadKey) (congrArg ZGroup.hs (State.zgroup_setHs ..)) (by decide) true false
  rw [← State.zgroup_of_zheac hz] at hfails
  exact ⟨t, ht, hfails.state, hfails.hs, hfails.lastReason⟩

theorem finishRx_verifies (hlane : s.zheacLane lane = some n) (hof : s.hsOf n (zHsId words) = some (g, h))
    (hrole : h.initiator = false) (hphase : h.phase = .replySent) (hok : s.finishOk words (some h.mine.length) = true) :
    ∃ t, exec (.finishRx lane words) s = .next t ∧
      (t.zgroup g).hs.map (fun d => d.phase) = some .verifying ∧ t.zheac.running ≠ none := by
  obtain ⟨notes, t, ht, -, hz⟩ := exec_receives (i := .finishRx lane words) rfl hlane rfl
  rw [State.zheacFinish_answers (s := s.telling notes [] s.way) hof hrole hphase hok] at hz
  refine ⟨t, ht, ?_, ?_⟩
  · rw [State.zgroup_of_zheac hz, State.zgroup_pkAsk, State.zgroup_setHs]
    rfl
  · rw [hz]
    exact State.pkAsk_running _ _ _

theorem finishRx_repeated (hlane : s.zheacLane lane = some n) (hof : s.hsOf n (zHsId words) = some (g, h))
    (hrole : h.initiator = false) (hphase : h.phase = .installedSent)
    (hok : s.finishOk words (some h.mine.length) = true) :
    ∃ t, exec (.finishRx lane words) s = .next t ∧
      Sent.zheac g 4 n h.hsId false [] h.installed 0 ∈ t.sent ∧ (t.zgroup g).hs = some h := by
  obtain ⟨notes, t, ht, hsent, hz⟩ := exec_receives (i := .finishRx lane words) rfl hlane rfl
  obtain ⟨hup, hreplay⟩ := State.zheacLane_up hlane
  rw [State.zheacFinish_repeats (s := s.telling notes [] s.way) hof hrole hphase hok] at hsent hz
  refine ⟨t, ht, ?_, ?_⟩
  · rw [hsent, State.sendInstalled, State.answerLane_of_up (by exact hup)]
    exact State.sendZheac_sends (s.telling notes [] s.way) hreplay ..
  · rw [State.zgroup_of_zheac (hz.trans (State.sendZheac_manages (op := False) ..).zheac)]
    exact (State.hsOf_some hof).1

theorem installedRx_waits (hlane : s.zheacLane lane = some n) (hof : s.hsOf n (zHsId words) = some (g, h))
    (hrole : h.initiator = true) (hphase : h.phase = .finishSent) (hnone : h.peerInstalled = none)
    (hderived : h.derived = false) (hok : s.installedOk words (some h.mine.length) = true) :
    ∃ t, exec (.installedRx lane words) s = .next t ∧
      (t.zgroup g).hs.map (fun d => d.peerInstalled) = some (some (zBitmap words 5 h.mine.length)) := by
  obtain ⟨notes, t, ht, -, hz⟩ := exec_receives (i := .installedRx lane words) rfl hlane rfl
  rw [State.zheacInstalled_waits (s := s.telling notes [] s.way) hof hrole hphase hnone hderived hok] at hz
  refine ⟨t, ht, ?_⟩
  rw [State.zgroup_of_zheac hz, State.zgroup_setHs]
  rfl

theorem installedRx_ends (hlane : s.zheacLane lane = some n) (hof : s.hsOf n (zHsId words) = some (g, h))
    (hrole : h.initiator = false) (hphase : h.phase = .installedSent) (hmine : h.mine = []) (hstreams : s.zheacStreams g = [])
    (hok : s.installedOk words (some 0) = true) :
    ∃ t, exec (.installedRx lane words) s = .next t ∧
      (t.zgroup g).state = .keyed ∧ (t.zgroup g).hs = none ∧ (t.zgroup g).ok = satInc 18 (s.zgroup g).ok ∧
      (t.zgroup g).consec = 0 := by
  obtain ⟨notes, t, ht, -, hz⟩ := exec_receives (i := .installedRx lane words) rfl hlane rfl
  rw [State.zheacInstalled_ends (s := s.telling notes [] s.way) hof hrole hphase hmine hok] at hz
  refine ⟨t, ht, ?_⟩
  rw [State.zgroup_of_zheac hz]
  exact State.zgroup_succeedHs (s.telling notes [] s.way) h _ hstreams

theorem refuseRx_fails (hlane : s.zheacLane lane = some n) (hof : s.hsOf n (zHsId words) = some (g, h))
    (hok : s.refuseOk words = true) (hreason : (wordAt words 5).toNat ≠ zrLane) :
    ∃ t, exec (.refuseRx lane words) s = .next t ∧
      (t.zgroup g).state = .backoff ∧ (t.zgroup g).hs = none ∧ (t.zgroup g).lastReason = (wordAt words 5).toNat ∧
      (t.zgroup g).failedCount = satInc 18 (s.zgroup g).failedCount := by
  obtain ⟨notes, t, ht, -, hz⟩ := exec_receives (i := .refuseRx lane words) rfl hlane rfl
  rw [State.zheacRefuse_fails (s := s.telling notes [] s.way) hof hok] at hz
  have hfails := State.failHs_backsOff (s.telling notes [] s.way) (State.hsOf_some hof).1 hreason false true
  rw [← State.zgroup_of_zheac hz] at hfails
  exact ⟨t, ht, hfails.state, hfails.hs, hfails.lastReason, hfails.failedCount⟩

end

/-- Settles O33: each message does in its group what its handshake waits for. -/
theorem handshakeMessagesComplete : Obligations.HandshakeMessagesComplete :=
  ⟨fun _ _ _ _ _ _ hlane hok hgroup hreason hhs heph hready => helloRx_begins hlane hok hgroup hreason hhs heph hready,
    fun _ _ _ _ _ _ hlane hok hgroup hreason => helloRx_refused hlane hok hgroup hreason,
    fun _ _ _ _ _ _ hlane hok hgroup hreason hhs hrole hid hmessage =>
      helloRx_repeated hlane hok hgroup hreason hhs hrole hid hmessage,
    fun _ _ _ _ _ _ hlane hof hrole hphase hok hpub => replyRx_verifies hlane hof hrole hphase hok hpub,
    fun _ _ _ _ _ _ hlane hof hrole hphase hok hpub => replyRx_badKey hlane hof hrole hphase hok hpub,
    fun _ _ _ _ _ _ hlane hof hrole hphase hok => finishRx_verifies hlane hof hrole hphase hok,
    fun _ _ _ _ _ _ hlane hof hrole hphase hok => finishRx_repeated hlane hof hrole hphase hok,
    fun _ _ _ _ _ _ hlane hof hrole hphase hnone hderived hok =>
      installedRx_waits hlane hof hrole hphase hnone hderived hok,
    fun _ _ _ _ _ _ hlane hof hrole hphase hmine hstreams hok =>
      installedRx_ends hlane hof hrole hphase hmine hstreams hok,
    fun _ _ _ _ _ _ hlane hof hok hreason => refuseRx_fails hlane hof hok hreason⟩

end Sys2Proof.Machine

namespace Sys2Proof.Machine
namespace State

/-! ## Derivations that wait (R148, R295) -/

section
variable (s : State)

theorem destroySlot_derivations (n : Nat) : (s.destroySlot n).keys.derivations = s.keys.derivations := by
  unfold destroySlot
  dsimp only
  split
  · rfl
  · split <;> rfl

/-- The end of a session destroys its key; no derivation is withdrawn. -/
theorem closeSession_derivations (c : Caller) (cause : Nat) :
    (s.closeSession c cause).keys.derivations = s.keys.derivations := by
  rw [closeSession_eq]
  split
  · split
    · rfl
    · rw [sessionEnded_keys, sessionUnstaged_keys, destroySlot_derivations, setSession_keys, sessionSealed_keys]
  · rfl

theorem settleSeq_derivations (c : Caller) : (s.settleSeq c).keys.derivations = s.keys.derivations := by
  unfold settleSeq
  split
  · split
    · exact closeSession_derivations ..
    · rfl
  · rfl

theorem buildItem_derivations {s t : State} {n : Nat} {i : MgmtItem} {f : MgmtFrame} (h : s.buildItem n i = some (f, t)) :
    t.keys.derivations = s.keys.derivations := by
  cases i with
  | session u kind body =>
    obtain ⟨⟨f', v⟩, hseal, hf⟩ := Option.map_eq_some_iff.mp h
    obtain ⟨⟨m, w⟩, hm, hw⟩ := Option.map_eq_some_iff.mp hseal
    cases hw
    cases hf
    rw [settleSeq_derivations, sealFrame_keys hm]
  | notify u =>
    obtain ⟨⟨f', v⟩, hbuild, hf⟩ := Option.map_eq_some_iff.mp h
    cases hf
    unfold buildNotify at hbuild
    dsimp only at hbuild
    split at hbuild
    · cases hbuild
    · obtain ⟨⟨m, w⟩, hm, hw⟩ := Option.map_eq_some_iff.mp hbuild
      cases hw
      rw [settleSeq_derivations, ← sealFrame_keys hm]
      rfl
  | whole f' =>
    cases h
    rfl

theorem mgmtAdmit_derivations (l : List (Nat × MgmtItem)) : (s.mgmtAdmit l).keys.derivations = s.keys.derivations := by
  induction l generalizing s with
  | nil => rfl
  | cons e l ih =>
    obtain ⟨n, i⟩ := e
    rw [mgmtAdmit]
    split
    · split
      · next h => exact (ih (setSched ..)).trans (buildItem_derivations h :)
      · exact ih s
    · rfl

theorem sendZheac_derivations (g type : Nat) (lane : Option Nat) (hsId : Nat) (start : Bool) (list : List ListEntry)
    (bitmap : List Bool) (reason : Nat) (words : List Nat) :
    (s.sendZheac g type lane hsId start list bitmap reason words).keys.derivations = s.keys.derivations := by
  unfold sendZheac queueZheac queueMgmt
  split
  · split
    · rfl
    · exact mgmtAdmit_derivations ..
  · rfl

theorem zgroup_askDerivation (g n : Nat) : (s.askDerivation g).zgroup n = s.zgroup n := zgroup_congr rfl n

theorem askDerivation_getLast? (g : Nat) : (s.askDerivation g).keys.derivations.getLast? = some (.link g) :=
  List.getLast?_concat ..

end

/-! ## What the end of an operation of the engine does (Table 12.4) -/

section
variable {s : State} {j : PkJob} {h : Handshake}

theorem pkEnded_generated {k : Nat} (hop : j.op = .generate) (heph : (s.zgroup j.group).eph = some k)
    (hready : (s.zgroup j.group).ephReady = false) (hhs : (s.zgroup j.group).hs = none) :
    s.pkEnded j = s.setGroup j.group { s.zgroup j.group with
      ephReady := true, ephPub := ((s.lookup (slotZheacEph k)).map p384.pub).getD 0 } := by
  simp [pkEnded, hop, heph, hready, hhs, ephKey]

theorem pkEnded_verified (hop : j.op = .verify) (hhs : (s.zgroup j.group).hs = some h) (hnumber : h.number = j.number)
    (hphase : h.phase = .verifying) (hverified : s.peerVerifies h = true) : s.pkEnded j =
      if h.initiator then ((s.peerStarted j.group h).setHs j.group { h with phase := .ecdh }).pkAsk j.group .ecdh
      else (((s.peerStarted j.group h).setHs j.group { h with phase := .keysPending }).dropEph j.group).askDerivation
        j.group := by
  simp [pkEnded, hop, hhs, hnumber, hphase, hverified]

theorem pkEnded_unverified (hop : j.op = .verify) (hhs : (s.zgroup j.group).hs = some h) (hnumber : h.number = j.number)
    (hphase : h.phase = .verifying) (hverified : s.peerVerifies h = false) :
    s.pkEnded j = s.failHs j.group zrIdentity true false := by
  simp [pkEnded, hop, hhs, hnumber, hphase, hverified]

/-- The handshake of a group with its shared secret, and with the streams of the peer's list that it accepts (R295, R296). -/
def agreed (s : State) (g d : Nat) (h : Handshake) : Handshake :=
  { h with z := p384.ecdh d h.peerEph, acceptTheirs := h.theirs.map (fun e => (s.rxFor g e.stream).isSome) }

theorem pkEnded_agreed {d : Nat} (hop : j.op = .ecdh) (hhs : (s.zgroup j.group).hs = some h) (hnumber : h.number = j.number)
    (hphase : h.phase = .ecdh) (hkey : s.ephKey j.group = some d) :
    s.pkEnded j = s.askSignNonce j.group (s.agreed j.group d h) := by
  simp [pkEnded, hop, hhs, hnumber, hphase, hkey, agreed]

theorem pkEnded_signed {d : Nat} (hop : j.op = .sign) (hhs : (s.zgroup j.group).hs = some h) (hnumber : h.number = j.number)
    (hphase : h.phase = .signing) (hkey : s.lookup slotZheacId = some d) : s.pkEnded j = s.signedHs j.group h d := by
  simp [pkEnded, hop, hhs, hnumber, hphase, hkey]

/-- A DRBG that serves gives the signing nonce at once, and the signature is asked for (R298). -/
theorem hs_askSignNonce (g : Nat) (h : Handshake) (hserves : s.drbgServes = true) :
    ((s.askSignNonce g h).zgroup g).hs.map (fun e => (e.phase, e.z)) = some (.signing, h.z) := by
  let u := s.setHs g { h with phase := .signNonce }
  let d := u.draw (Consumer.zheac g 2).bits
  have hasked : u.entropyAsk (.zheac g 2) = (.granted d.1, d.2) := if_pos hserves
  have hdrawn : d.2.zgroup g = u.zgroup g := zgroup_of_zheac (by rw [draw_eq]) g
  have hstep : s.askSignNonce g h = d.2.signNonceDrawn g d.1 := by
    unfold askSignNonce
    rw [hasked]
  rw [hstep, signNonceDrawn, hdrawn, zgroup_setHs]
  exact congrArg (fun v : ZGroup => v.hs.map (fun e => (e.phase, e.z))) ((zgroup_pkAsk ..).trans (zgroup_setHs ..))

/-- A REPLY or FINISH that is signed is sent once, and its handshake waits for the answer (R299). -/
theorem signedHs_sends (s : State) (g d : Nat) (h : Handshake) :
    ((s.signedHs g h d).zgroup g).hs.map (fun e => (e.phase, e.sends)) =
        some (if h.initiator then .finishSent else .replySent, 1) ∧
      (h.initiator = true → (s.signedHs g h d).keys.derivations.getLast? = some (.link g)) := by
  have hsent (u : State) (type : Nat) (lane : Option Nat) (hsId : Nat) (start : Bool) (list : List ListEntry)
      (bitmap : List Bool) (reason : Nat) (words : List Nat) (e : Handshake) :
      (((u.setHs g e).sendZheac g type lane hsId start list bitmap reason words).zgroup g).hs = some e := by
    rw [zgroup_of_zheac (sendZheac_manages (op := False) ..).zheac, zgroup_setHs]
  unfold signedHs
  dsimp only
  split
  · next hrole =>
    refine ⟨?_, fun _ => askDerivation_getLast? ..⟩
    exact congrArg (Option.map _) (hsent ..)
  · next hrole => exact ⟨congrArg (Option.map _) (hsent ..), (absurd · hrole)⟩

end
end State

/-! ## The engine's operations end (R298) -/

section
variable {s : State} {j : PkJob} {h : Handshake}

theorem pkOperationDone_ends (hrun : s.zheac.running = some j) :
    ∃ t, exec .pkOperationDone s = .next t ∧ t.zheac = (s.clear.pkNext.pkEnded j).zheac ∧
      t.keys = (s.clear.pkNext.pkEnded j).keys := by
  obtain ⟨t, ht, -, hsame⟩ := exec_reaches (s := s) (i := .pkOperationDone) (u := s.clear.pkNext.pkEnded j) rfl
    (by simp [hrun])
  exact ⟨t, ht, hsame .zheac (by decide) rfl, hsame .keys (by decide) rfl⟩

theorem State.zgroup_clear_pkNext (s : State) (g : Nat) : s.clear.pkNext.zgroup g = s.zgroup g := State.zgroup_pkNext ..

theorem pkOperationDone_generates {k : Nat} (hrun : s.zheac.running = some j) (hop : j.op = .generate)
    (heph : (s.zgroup j.group).eph = some k) (hready : (s.zgroup j.group).ephReady = false)
    (hhs : (s.zgroup j.group).hs = none) :
    ∃ t, exec .pkOperationDone s = .next t ∧
      (t.zgroup j.group).ephReady = true ∧
      (t.zgroup j.group).ephPub = ((s.lookup (slotZheacEph k)).map p384.pub).getD 0 := by
  obtain ⟨t, ht, hz, -⟩ := pkOperationDone_ends hrun
  have hlookup : s.clear.pkNext.lookup (slotZheacEph k) = s.lookup (slotZheacEph k) := by
    rw [State.pkNext_eq]
    rfl
  refine ⟨t, ht, ?_⟩
  rw [State.zgroup_of_zheac hz, State.pkEnded_generated (k := k) hop (by rw [State.zgroup_clear_pkNext]; exact heph)
    (by rw [State.zgroup_clear_pkNext]; exact hready) (by rw [State.zgroup_clear_pkNext]; exact hhs),
    State.zgroup_setGroup_same, hlookup]
  exact ⟨rfl, rfl⟩

theorem pkOperationDone_verifies (hrun : s.zheac.running = some j) (hop : j.op = .verify)
    (hhs : (s.zgroup j.group).hs = some h) (hnumber : h.number = j.number) (hphase : h.phase = .verifying)
    (hverified : s.peerVerifies h = true) :
    ∃ t, exec .pkOperationDone s = .next t ∧
      (t.zgroup j.group).hs.map (fun d => d.phase) = some (if h.initiator then .ecdh else .keysPending) ∧
      (h.initiator = false →
        t.keys.derivations.getLast? = some (.link j.group) ∧ (t.zgroup j.group).eph = none) := by
  obtain ⟨t, ht, hz, hkeys⟩ := pkOperationDone_ends hrun
  have himage : s.clear.pkNext.image = s.image := by
    rw [State.pkNext_eq]
    rfl
  rw [State.pkEnded_verified hop (by rw [State.zgroup_clear_pkNext]; exact hhs) hnumber hphase
    ((State.peerVerifies_congr himage h).trans hverified)] at hz hkeys
  refine ⟨t, ht, ?_⟩
  cases hrole : h.initiator with
  | true =>
    rw [if_pos hrole] at hz
    rw [State.zgroup_of_zheac hz, State.zgroup_pkAsk, State.zgroup_setHs]
    exact ⟨rfl, nofun⟩
  | false =>
    rw [if_neg (ne_true_of_eq_false hrole)] at hz hkeys
    obtain ⟨heph, hkept⟩ := State.zgroup_dropEph
      ((s.clear.pkNext.peerStarted j.group h).setHs j.group { h with phase := .keysPending }) j.group
    rw [State.zgroup_setHs] at hkept
    rw [State.zgroup_of_zheac hz, State.zgroup_askDerivation, hkeys]
    exact ⟨congrArg (fun v : ZGroup => v.hs.map (fun d => d.phase)) hkept,
      fun _ => ⟨State.askDerivation_getLast? .., heph⟩⟩

theorem pkOperationDone_refutes (hrun : s.zheac.running = some j) (hop : j.op = .verify)
    (hhs : (s.zgroup j.group).hs = some h) (hnumber : h.number = j.number) (hphase : h.phase = .verifying)
    (hverified : s.peerVerifies h = false) :
    ∃ t, exec .pkOperationDone s = .next t ∧
      (t.zgroup j.group).state = .backoff ∧ (t.zgroup j.group).lastReason = zrIdentity := by
  obtain ⟨t, ht, hz, -⟩ := pkOperationDone_ends hrun
  have himage : s.clear.pkNext.image = s.image := by
    rw [State.pkNext_eq]
    rfl
  have hflight : (s.clear.pkNext.zgroup j.group).hs = some h := by rw [State.zgroup_clear_pkNext]; exact hhs
  rw [State.pkEnded_unverified hop hflight hnumber hphase ((State.peerVerifies_congr himage h).trans hverified)] at hz
  have hfails := State.failHs_backsOff s.clear.pkNext hflight (reason := zrIdentity) (by decide) true false
  rw [← State.zgroup_of_zheac hz] at hfails
  exact ⟨t, ht, hfails.state, hfails.lastReason⟩

theorem pkOperationDone_agrees {d : Nat} (hrun : s.zheac.running = some j) (hop : j.op = .ecdh)
    (hhs : (s.zgroup j.group).hs = some h) (hnumber : h.number = j.number) (hphase : h.phase = .ecdh)
    (hkey : s.ephKey j.group = some d) (hserves : s.drbgServes = true) :
    ∃ t, exec .pkOperationDone s = .next t ∧
      (t.zgroup j.group).hs.map (fun e => (e.phase, e.z)) = some (.signing, p384.ecdh d h.peerEph) := by
  obtain ⟨t, ht, hz, -⟩ := pkOperationDone_ends hrun
  have hkey' : s.clear.pkNext.ephKey j.group = some d := by
    rw [State.ephKey, State.zgroup_clear_pkNext, State.pkNext_eq]
    exact hkey
  have hserves' : s.clear.pkNext.drbgServes = true := by
    rw [State.pkNext_eq]
    exact hserves
  rw [State.pkEnded_agreed hop (by rw [State.zgroup_clear_pkNext]; exact hhs) hnumber hphase hkey'] at hz
  refine ⟨t, ht, ?_⟩
  rw [State.zgroup_of_zheac hz]
  exact State.hs_askSignNonce j.group _ hserves'

theorem pkOperationDone_signs {d : Nat} (hrun : s.zheac.running = some j) (hop : j.op = .sign)
    (hhs : (s.zgroup j.group).hs = some h) (hnumber : h.number = j.number) (hphase : h.phase = .signing)
    (hkey : s.lookup slotZheacId = some d) :
    ∃ t, exec .pkOperationDone s = .next t ∧
      (t.zgroup j.group).hs.map (fun e => (e.phase, e.sends)) = some (if h.initiator then .finishSent else .replySent, 1) ∧
      (h.initiator = true → t.keys.derivations.getLast? = some (.link j.group)) := by
  obtain ⟨t, ht, hz, hkeys⟩ := pkOperationDone_ends hrun
  have hkey' : s.clear.pkNext.lookup slotZheacId = some d := by
    rw [State.pkNext_eq]
    exact hkey
  rw [State.pkEnded_signed hop (by rw [State.zgroup_clear_pkNext]; exact hhs) hnumber hphase hkey'] at hz hkeys
  refine ⟨t, ht, ?_⟩
  rw [State.zgroup_of_zheac hz, hkeys]
  exact State.signedHs_sends ..

end

/-! ## The timers of a handshake (R299) -/

/-- The message of a handshake that waits for an answer (Table 12.4). -/
def Handshake.awaitsAnswer (h : Handshake) : Prop :=
  h.phase = .helloSent ∨ h.phase = .finishSent ∧ h.peerInstalled = none ∨ h.phase = .installedSent

namespace State

/-- It is sent again. -/
def resendHs (s : State) (g : Nat) (h : Handshake) : State :=
  if h.phase = .helloSent then s.sendHello g h
  else if h.phase = .finishSent then s.sendFinish g h
  else s.sendInstalled g h.hsId h.lane h.installed

theorem resendHs_manages (s : State) (g : Nat) (h : Handshake) : Manages False s (s.resendHs g h) := by
  unfold resendHs
  split
  · exact sendZheac_manages ..
  · split
    · exact sendZheac_manages ..
    · exact sendZheac_manages ..

/-- What becomes of a handshake whose message has not been answered for 20 ms. -/
def answerMissed (s : State) (g : Nat) (h : Handshake) : State :=
  let s := s.upTo (h.sentAt + ms 20)
  if h.sends ≥ 3 then s.failHs g zrTimeout false false
  else (s.setHs g { h with sends := h.sends + 1, sentAt := s.now }).resendHs g { h with sends := h.sends + 1, sentAt := s.now }

theorem setHs_now (s : State) (g : Nat) (h : Handshake) : (s.setHs g h).now = s.now := setGroup_now ..

theorem failHs_now (s : State) (g reason : Nat) (refuse refused : Bool) : (s.failHs g reason refuse refused).now = s.now :=
  (failHs_withdraws ..).now

end State

section
variable {s : State} {group : Fin 16} {h : Handshake}

theorem handshakeRetransmit_times (hhs : (s.zgroup group).hs = some h) (hawaits : h.awaitsAnswer) :
    ∃ t, exec (.handshakeRetransmit group) s = .next t ∧ t.zheac = (s.clear.answerMissed group h).zheac ∧
      t.now = (s.clear.answerMissed group h).now := by
  have hclear : (s.clear.zgroup group).hs = some h := hhs
  obtain ⟨t, ht, -, hsame⟩ := exec_reaches (s := s) (i := .handshakeRetransmit group)
    (u := s.clear.answerMissed group h) rfl (by
      rw [Handshake.awaitsAnswer] at hawaits
      simp [hclear, hawaits, State.answerMissed, State.resendHs])
  exact ⟨t, ht, hsame .zheac (by decide) rfl, hsame .now (by decide) rfl⟩

theorem handshakeRetransmit_resends (hhs : (s.zgroup group).hs = some h) (hawaits : h.awaitsAnswer) (hsends : h.sends < 3) :
    ∃ t, exec (.handshakeRetransmit group) s = .next t ∧
      (t.zgroup group).hs.map (fun d => d.sends) = some (h.sends + 1) ∧ t.now = max s.now (h.sentAt + ms 20) := by
  obtain ⟨t, ht, hz, hnow⟩ := handshakeRetransmit_times hhs hawaits
  rw [State.answerMissed, if_neg (not_le.mpr hsends)] at hz hnow
  refine ⟨t, ht, ?_, ?_⟩
  · rw [State.zgroup_of_zheac (hz.trans (State.resendHs_manages ..).zheac), State.zgroup_setHs]
    rfl
  · rw [hnow, (State.resendHs_manages ..).now, State.setHs_now, State.upTo_now, State.clear_now]

theorem handshakeRetransmit_fails (hhs : (s.zgroup group).hs = some h) (hawaits : h.awaitsAnswer) (hsends : 3 ≤ h.sends) :
    ∃ t, exec (.handshakeRetransmit group) s = .next t ∧
      (t.zgroup group).state = .backoff ∧ (t.zgroup group).hs = none ∧ (t.zgroup group).lastReason = zrTimeout := by
  obtain ⟨t, ht, hz, -⟩ := handshakeRetransmit_times hhs hawaits
  have hflight : ((s.clear.upTo (h.sentAt + ms 20)).zgroup group).hs = some h := by rw [State.zgroup_upTo]; exact hhs
  have hfails := State.failHs_backsOff _ hflight (reason := zrTimeout) (by decide) false false
  rw [State.answerMissed, if_pos hsends] at hz
  rw [← State.zgroup_of_zheac hz] at hfails
  exact ⟨t, ht, hfails.state, hfails.hs, hfails.lastReason⟩

theorem finishWaitTimeout_fails (hhs : (s.zgroup group).hs = some h) (hphase : h.phase = .replySent) :
    ∃ t, exec (.finishWaitTimeout group) s = .next t ∧
      (t.zgroup group).state = .backoff ∧ (t.zgroup group).hs = none ∧ (t.zgroup group).lastReason = zrTimeout ∧
      t.now = max s.now (h.sentAt + ms 70) := by
  have hclear : (s.clear.zgroup group).hs = some h := hhs
  obtain ⟨t, ht, -, hsame⟩ := exec_reaches (s := s) (i := .finishWaitTimeout group)
    (u := (s.clear.upTo (h.sentAt + ms 70)).failHs group zrTimeout false false) rfl (by simp [hclear, hphase])
  have hflight : ((s.clear.upTo (h.sentAt + ms 70)).zgroup group).hs = some h := by rw [State.zgroup_upTo]; exact hhs
  have hfails := State.failHs_backsOff _ hflight (reason := zrTimeout) (by decide) false false
  rw [← State.zgroup_of_zheac (hsame .zheac (by decide) rfl : t.zheac = _)] at hfails
  refine ⟨t, ht, hfails.state, hfails.hs, hfails.lastReason, ?_⟩
  rw [(hsame .now (by decide) rfl : t.now = _), State.failHs_now, State.upTo_now, State.clear_now]

/-! ## The keys of a group have been derived (R295) -/

/-- The derivation at the head of the queue is done. -/
def State.derivationDone (s : State) : State :=
  { s with keys := { s.keys with derivations := s.keys.derivations.tail } }

/-- The responder's handshake once its receive slots are installed. -/
def Handshake.installedAt (h : Handshake) (m : List Bool) (now : Nat) : Handshake :=
  { h with derived := true, installed := m, phase := .installedSent, sends := 1, sentAt := now }

theorem linkKeysDerived_initiator (hhs : (s.zgroup group).hs = some h)
    (hjob : s.keys.derivations.head? = some (.link group.val)) (hrole : h.initiator = true) (hnone : h.peerInstalled = none) :
    ∃ t, exec (.linkKeysDerived group) s = .next t ∧
      (t.zgroup group).hs.map (fun d => d.derived) = some true ∧ t.keys.derivations = s.keys.derivations.tail := by
  have hclear : (s.clear.zgroup group).hs = some h := hhs
  obtain ⟨t, ht, -, hsame⟩ := exec_reaches (s := s) (i := .linkKeysDerived group)
    (u := s.clear.derivationDone.setHs group { h with derived := true }) rfl
    (by simp [hclear, hjob, hrole, hnone, State.derivationDone])
  refine ⟨t, ht, ?_, congrArg KeyUnit.derivations (hsame .keys (by decide) rfl : t.keys = _)⟩
  rw [State.zgroup_of_zheac (hsame .zheac (by decide) rfl : t.zheac = _), State.zgroup_setHs]
  rfl

theorem linkKeysDerived_responder (hhs : (s.zgroup group).hs = some h)
    (hjob : s.keys.derivations.head? = some (.link group.val)) (hrole : h.initiator = false) (hnone : h.theirs = []) :
    ∃ t, exec (.linkKeysDerived group) s = .next t ∧
      (t.zgroup group).hs.map (fun d => (d.phase, d.sends)) = some (.installedSent, 1) ∧
      t.keys.derivations = s.keys.derivations.tail := by
  have hclear : (s.clear.zgroup group).hs = some h := hhs
  let u := s.clear.derivationDone
  obtain ⟨t, ht, -, hsame⟩ := exec_reaches (s := s) (i := .linkKeysDerived group)
    (u := (u.setHs group (h.installedAt [] u.now)).sendInstalled group h.hsId h.lane []) rfl
    (by simp [u, hclear, hjob, hrole, hnone, State.derivationDone, State.installRxList, Handshake.installedAt])
  have hkeys : t.keys = _ := hsame .keys (by decide) rfl
  refine ⟨t, ht, ?_, ?_⟩
  · rw [State.zgroup_of_zheac ((hsame .zheac (by decide) rfl : t.zheac = _).trans
      (State.sendZheac_manages (op := False) ..).zheac), State.zgroup_setHs]
    rfl
  · rw [hkeys]
    exact State.sendZheac_derivations ..

end

/-! ## A group begins a handshake by itself (R300 to R302) -/

namespace State

section
variable {s : State} {g x : Nat}

/-- A stream that may be listed is due once its time has come (R301). -/
theorem txDue_of_time (hlistable : listable (s.txStream x) = true)
    (htime : (s.txStream x).keyedAt + secs (60 * entMin (s.txStream x).entry) ≤ s.now) : s.txDue x = true := by
  have htrigger : s.atTrigger (s.txStream x) 8 = true := by
    simp only [atTrigger, Bool.or_eq_true, decide_eq_true_eq]
    omega
  simp [txDue, hlistable, htrigger]

/-- The only stream of a group is listed when it is due and the slot of its next AN takes a key (R296, R301). -/
theorem makeList_of_due (hstreams : s.zheacStreams g = [x]) (hdue : s.txDue x = true)
    (hinstall : s.canInstall (slotTx x (nextAn (s.txStream x))) = true) :
    (s.makeList g false []).2 = [{ an := nextAn (s.txStream x), stream := x }] := by
  simp [makeList, hstreams, hdue, hinstall]

/-- A slot that takes a key takes it later, too: a destroy that has ended does not begin again (R144). -/
theorem canInstall_upTo {n : Nat} (y : Nat) (h : s.canInstall n = true) : (s.upTo y).canInstall n = true := by
  have helapses := upTo_elapses s y
  have hlater : s.now ≤ (s.upTo y).now := (upTo_now s y).symm ▸ le_max_left ..
  simp only [canInstall, Bool.and_eq_true, Bool.not_eq_true', slotDestroying, List.any_eq_false, decide_eq_true_eq, not_and,
    not_lt] at h ⊢
  obtain ⟨⟨hfault, hdestroying⟩, hregister⟩ := h
  rw [slot_congr helapses.keys, helapses.keys, registerDestroying, helapses.cus]
  exact ⟨⟨hfault, fun e he hn => (hdestroying e he hn).trans hlater⟩, hregister⟩

/-- A group that waits for a time with its ephemeral drawn, no handshake in flight and a lane UP. -/
structure MayInitiate (s : State) (g k : Nat) : Prop where
  hs : (s.zgroup g).hs = none
  eph : (s.zgroup g).eph = some k
  ready : (s.zgroup g).ephReady = false
  up : s.groupUpLane g ≠ none

theorem MayInitiate.clear {k : Nat} (h : s.MayInitiate g k) : s.clear.MayInitiate g k := ⟨h.hs, h.eph, h.ready, h.up⟩

theorem MayInitiate.initiates {k : Nat} (h : s.MayInitiate g k) (y : Nat) (hstate : (s.zgroup g).state ≠ .unusable)
    (hlist : (s.zgroup g).startOut = true ∨ ((s.upTo y).makeList g (s.zgroup g).startOut []).2 ≠ []) :
    (((s.upTo y).initiate g).zgroup g).state = .active ∧
      (((s.upTo y).initiate g).zgroup g).hs.map (fun d => (d.initiator, d.myStart, d.mine)) =
        some (true, (s.zgroup g).startOut, ((s.upTo y).makeList g (s.zgroup g).startOut []).2) ∧
      ((s.upTo y).initiate g).now = max s.now y := by
  have helapses := upTo_elapses s y
  have hbegins := initiate_begins (s.upTo y) (g := g) (k := k)
  rw [zgroup_upTo, groupUpLane_congr helapses.image helapses.lanes, upTo_now] at hbegins
  exact hbegins hstate h.hs h.up h.eph h.ready hlist

end
end State

section
variable {s : State} {group : Fin 16} {k : Nat}

/-- At the end of a wait a group with a START outstanding begins a handshake that carries it (R300, R302). -/
theorem expiry_begins {i : Instr} {ps : List Part} {f : State → State} {y : Nat} (hexec : exec i s = act ps s f)
    (hf : f s.clear = (s.clear.upTo y).initiate group) (hzheac : ps.contains .zheac = true) (hnow : ps.contains .now = true)
    (hmay : s.MayInitiate group k) (hstate : (s.zgroup group).state ≠ .unusable) (hstart : (s.zgroup group).startOut = true) :
    ∃ t, exec i s = .next t ∧ (t.zgroup group).state = .active ∧
      (t.zgroup group).hs.map (fun d => (d.initiator, d.myStart)) = some (true, true) ∧ t.now = max s.now y := by
  obtain ⟨t, ht, -, hsame⟩ := exec_reaches hexec hf
  obtain ⟨hactive, hbegun, htime⟩ := hmay.clear.initiates y hstate (.inl hstart)
  refine ⟨t, ht, ?_⟩
  rw [State.zgroup_of_zheac (hsame .zheac (by decide) hzheac : t.zheac = _), (hsame .now (by decide) hnow : t.now = _)]
  refine ⟨hactive, ?_, htime⟩
  have h := congrArg (Option.map fun p : Bool × Bool × List ListEntry => (p.1, p.2.1)) hbegun
  rw [Option.map_map] at h
  exact h.trans (congrArg (fun b => some (true, b)) hstart)

theorem backoffExpiry_begins (hstate : (s.zgroup group).state = .backoff) (hmay : s.MayInitiate group k)
    (hstart : (s.zgroup group).startOut = true) :
    ∃ t, exec (.backoffExpiry group) s = .next t ∧
      (t.zgroup group).state = .active ∧
      (t.zgroup group).hs.map (fun d => (d.initiator, d.myStart)) = some (true, true) ∧
      t.now = max s.now (s.zgroup group).backoffUntil :=
  expiry_begins (i := .backoffExpiry group) rfl (if_pos hstate) rfl rfl hmay (by rw [hstate]; decide) hstart

theorem settleExpiry_begins (hstate : (s.zgroup group).state = .settle) (hmay : s.MayInitiate group k)
    (hstart : (s.zgroup group).startOut = true) :
    ∃ t, exec (.settleExpiry group) s = .next t ∧
      (t.zgroup group).state = .active ∧
      (t.zgroup group).hs.map (fun d => (d.initiator, d.myStart)) = some (true, true) ∧
      t.now = max s.now (s.zgroup group).settleUntil :=
  expiry_begins (i := .settleExpiry group) rfl (if_pos hstate) rfl rfl hmay (by rw [hstate]; decide) hstart

/-- The time trigger of the only stream of a KEYED group begins a handshake that lists it under its next AN (R301). -/
theorem rekeyDue_begins {x : Nat} (hstate : (s.zgroup group).state = .keyed) (hmay : s.MayInitiate group k)
    (hstart : (s.zgroup group).startOut = false) (hstreams : s.zheacStreams group = [x])
    (hlistable : State.listable (s.txStream x) = true) (hkeyed : s.txKeyed x = true)
    (hinstall : s.canInstall (slotTx x (State.nextAn (s.txStream x))) = true) :
    ∃ t, exec (.rekeyDue group) s = .next t ∧
      (t.zgroup group).state = .active ∧
      (t.zgroup group).hs.map (fun d => (d.initiator, d.mine)) =
        some (true, [{ an := State.nextAn (s.txStream x), stream := x }]) := by
  obtain ⟨y, hy⟩ : ∃ y, y = (s.txStream x).keyedAt + secs (60 * entMin (s.txStream x).entry) := ⟨_, rfl⟩
  let u := s.clear.upTo y
  have helapses : s.clear.Elapses u := State.upTo_elapses ..
  have hstream : u.txStream x = s.txStream x := State.tx_congr helapses.link x
  have hstreams' : u.zheacStreams group = [x] := (State.zheacStreams_congr helapses.image helapses.link _).trans hstreams
  have hdue : u.txDue x = true := by
    refine State.txDue_of_time (by rw [hstream]; exact hlistable) ?_
    rw [hstream, State.upTo_now, ← hy]
    exact le_max_right ..
  have hlist : (u.makeList group false []).2 = [{ an := State.nextAn (s.txStream x), stream := x }] := by
    rw [State.makeList_of_due hstreams' hdue (by rw [hstream]; exact State.canInstall_upTo y hinstall), hstream]
  have hchecks : u.checkDue group = u.initiate group := by
    have hkeyed' : (u.zgroup group).state = .keyed := by rw [State.zgroup_upTo]; exact hstate
    simp [State.checkDue, hkeyed', hstreams', hdue]
  have htimed : (s.clear.zheacStreams group).filter
      (fun x => State.listable (s.clear.txStream x) && s.clear.txKeyed x) = [x] := by
    rw [show s.clear.zheacStreams group = [x] from hstreams]
    exact List.filter_cons_of_pos (Bool.and_eq_true_iff.mpr ⟨hlistable, hkeyed⟩)
  obtain ⟨t, ht, -, hsame⟩ := exec_reaches (s := s) (i := .rekeyDue group) (u := u.initiate group) rfl (by
    dsimp only
    rw [htimed, List.map_singleton, show s.clear.txStream x = s.txStream x from rfl, ← hy, List.min?_singleton]
    exact hchecks)
  obtain ⟨hactive, hbegun, -⟩ := hmay.clear.initiates y (by
    rw [show (s.clear.zgroup group).state = .keyed from hstate]
    decide) (.inr (by
    rw [show (s.clear.zgroup group).startOut = false from hstart, hlist]
    exact List.cons_ne_nil _ _))
  refine ⟨t, ht, ?_⟩
  rw [State.zgroup_of_zheac (hsame .zheac (by decide) rfl : t.zheac = _)]
  refine ⟨hactive, ?_⟩
  have h := congrArg (Option.map fun p : Bool × Bool × List ListEntry => (p.1, p.2.2)) hbegun
  rw [Option.map_map, show (s.clear.zgroup group).startOut = false from hstart, hlist] at h
  exact h

end

/-- Settles O34: each step of a handshake is taken as its engine, its keys and its timers come. -/
theorem handshakeStepsComplete : Obligations.HandshakeStepsComplete :=
  ⟨fun _ _ _ hhs hawaits hsends => handshakeRetransmit_resends hhs hawaits hsends,
    fun _ _ _ hhs hawaits hsends => handshakeRetransmit_fails hhs hawaits hsends,
    fun _ _ _ hhs hphase => finishWaitTimeout_fails hhs hphase,
    fun _ _ _ hrun hop heph hready hhs => pkOperationDone_generates hrun hop heph hready hhs,
    fun _ _ _ hrun hop hhs hnumber hphase hverified => pkOperationDone_verifies hrun hop hhs hnumber hphase hverified,
    fun _ _ _ hrun hop hhs hnumber hphase hverified => pkOperationDone_refutes hrun hop hhs hnumber hphase hverified,
    fun _ _ _ _ hrun hop hhs hnumber hphase hkey hserves =>
      pkOperationDone_agrees hrun hop hhs hnumber hphase hkey hserves,
    fun _ _ _ _ hrun hop hhs hnumber hphase hkey => pkOperationDone_signs hrun hop hhs hnumber hphase hkey,
    fun _ _ _ hhs hjob hrole hnone => linkKeysDerived_initiator hhs hjob hrole hnone,
    fun _ _ _ hhs hjob hrole hnone => linkKeysDerived_responder hhs hjob hrole hnone,
    fun _ _ _ hstate hhs hstart heph hready hup => backoffExpiry_begins hstate ⟨hhs, heph, hready, hup⟩ hstart,
    fun _ _ _ hstate hhs hstart heph hready hup => settleExpiry_begins hstate ⟨hhs, heph, hready, hup⟩ hstart,
    fun _ _ _ _ hstate hhs hstart heph hready hup hstreams hlistable hkeyed hinstall =>
      rekeyDue_begins hstate ⟨hhs, heph, hready, hup⟩ hstart hstreams hlistable hkeyed hinstall⟩

end Sys2Proof.Machine

namespace Sys2Proof.Machine

/-- What the beginning of a downstream sequence may change of its port (Table 15.1). -/
def Port.begun (v w : Port) : Port :=
  { v with state := w.state, gen := w.gen, rts := w.rts, de := w.de, lead := w.lead, ldRun := w.ldRun }

namespace State

/-! ## What a port shows after each operation of the Verge die (R351, R361 to R363) -/

section
variable (s : State) (p : Nat)

theorem port_congr {s t : State} (h : t.verge = s.verge) (p : Nat) : t.port p = s.port p := by rw [port, port, h]

theorem pump_verge (w : Way) (c : MsgClass) : (s.pump w c).verge = s.verge := by rw [pump_transports s w c]

/-- What a class lets go is sent after what was sent before. -/
theorem sendWords_sent (w : Way) (l : List (Nat × Msg)) : s.sent <+: (s.sendWords w l).sent :=
  List.foldlRecOn l _ (motive := fun t : State => s.sent <+: t.sent) List.prefix_rfl
    (fun _ h _ _ => h.trans (List.prefix_append ..))

theorem pump_sent {s t : State} (h : t.sent = s.sent) (w : Way) (c : MsgClass) : s.sent <+: (t.pump w c).sent := by
  have hcount (b b' : Prop) [Decidable b] [Decidable b'] (u : State) (n : Nat) :
      (if b then (if b' then (u.occurs 34 0o001 0 n).occurs 34 0o006 0 n else u.occurs 34 0o001 0 n) else u).sent = u.sent := by
    split
    · split <;> rfl
    · rfl
  unfold pump
  dsimp only
  split
  · rw [hcount, ← h]
    exact sendWords_sent (t.setChan ..) ..
  · rw [h]

theorem sendMsg_verge (w : Way) (c : MsgClass) (m : Msg) : (s.sendMsg w c m).verge = s.verge := by
  rw [sendMsg_transports s w c m]

/-- A refresh takes the events of its unit along, and changes nothing else of the Verge die. -/
theorem refresh_verge (u : Nat) : (s.refresh u).verge = { s.verge with events := (s.refresh u).verge.events } := by
  unfold refresh
  dsimp only
  split
  · rw [pump_verge]
    rfl
  · rfl

@[simp] theorem refresh_port (u : Nat) : (s.refresh u).port p = s.port p := by
  rw [port, refresh_verge]
  rfl

@[simp] theorem sendMsg_port (w : Way) (c : MsgClass) (m : Msg) : (s.sendMsg w c m).port p = s.port p :=
  port_congr (sendMsg_verge ..) p

@[simp] theorem vergeEvent_port (u e arg : Nat) : (s.vergeEvent u e arg).port p = s.port p := rfl

theorem vergeOnce_verge (u key e arg : Nat) : (s.vergeOnce u key e arg).verge =
    { s.verge with events := (s.vergeOnce u key e arg).verge.events, once := (s.vergeOnce u key e arg).verge.once } := by
  unfold vergeOnce
  dsimp only
  split <;> rfl

@[simp] theorem vergeOnce_port (u key e arg : Nat) : (s.vergeOnce u key e arg).port p = s.port p := by
  rw [port, vergeOnce_verge]
  rfl

@[simp] theorem portEnter_port (st : PortState) (v : Port) :
    (s.portEnter p st v).port p = { v with state := st, gen := if v.state = st then v.gen else (v.gen + 1) % 32 } := by
  simp [portEnter]

@[simp] theorem portRefuseAll_port : (s.portRefuseAll p).port p =
    { s.port p with queue := [], downLd := satAdd 18 (s.port p).downLd (s.port p).queue.length } := by
  simp [portRefuseAll]

theorem portCts_port : (s.portCts p).port p =
    if (s.port p).state = .waitCts ∧ (s.port p).rts = true ∧ (s.port p).cts = true
    then { s.port p with lead := true, ldRun := 0 } else s.port p := by
  by_cases h : (s.port p).state = .waitCts ∧ (s.port p).rts = true ∧ (s.port p).cts = true
  · simp [portCts, h]
  · rw [if_neg h, portCts]
    have hno : ¬ (decide ((s.port p).state = .waitCts) && (s.port p).rts && (s.port p).cts) = true := by
      simpa [and_assoc] using h
    exact congrArg (fun t : State => t.port p) (if_neg hno)

theorem portCts_begun : (s.portCts p).port p = (s.port p).begun ((s.portCts p).port p) := by
  rw [portCts_port]
  split <;> rfl

/-- The state in which the frame at the head of an IDLE port's queue has begun its sequence. -/
def portBegins : State :=
  if (s.port p).mode = 3 then s.portEnter p .transmitting { s.port p with de := true, lead := true }
  else (s.portEnter p .waitCts { s.port p with rts := !((s.port p).dcdGate && (s.port p).dcd) }).portCts p

theorem portStart_eq : s.portStart p =
    if (s.port p).state = .idle ∧ (s.port p).queue ≠ [] ∧ s.vergeRuns = true ∧ s.configDue p = false then s.portBegins p
    else s := by
  unfold portStart
  dsimp only
  refine if_congr ?_ rfl rfl
  simp [and_assoc]

theorem portBegins_begun : (s.portBegins p).port p = (s.port p).begun ((s.portBegins p).port p) := by
  unfold portBegins
  split
  · simp [Port.begun]
  · rw [portCts_begun]
    simp [Port.begun]

theorem portStart_begun : (s.portStart p).port p = (s.port p).begun ((s.portStart p).port p) := by
  rw [portStart_eq]
  split
  · exact portBegins_begun s p
  · rfl

/-! What a start leaves of its port. -/

@[simp] theorem portStart_fwd : ((s.portStart p).port p).fwd = (s.port p).fwd := by rw [portStart_begun]; rfl
@[simp] theorem portStart_cts : ((s.portStart p).port p).cts = (s.port p).cts := by rw [portStart_begun]; rfl
@[simp] theorem portStart_tail : ((s.portStart p).port p).tail = (s.port p).tail := by rw [portStart_begun]; rfl
@[simp] theorem portStart_dcd : ((s.portStart p).port p).dcd = (s.port p).dcd := by rw [portStart_begun]; rfl
@[simp] theorem portStart_inFrame : ((s.portStart p).port p).inFrame = (s.port p).inFrame := by rw [portStart_begun]; rfl
@[simp] theorem portStart_config : ((s.portStart p).port p).config = (s.port p).config := by rw [portStart_begun]; rfl
@[simp] theorem portStart_queue : ((s.portStart p).port p).queue = (s.port p).queue := by rw [portStart_begun]; rfl
@[simp] theorem portStart_downLd : ((s.portStart p).port p).downLd = (s.port p).downLd := by rw [portStart_begun]; rfl
@[simp] theorem portStart_framesRx : ((s.portStart p).port p).framesRx = (s.port p).framesRx := by rw [portStart_begun]; rfl
@[simp] theorem portStart_framesTx : ((s.portStart p).port p).framesTx = (s.port p).framesTx := by rw [portStart_begun]; rfl
@[simp] theorem portStart_frameErr : ((s.portStart p).port p).frameErr = (s.port p).frameErr := by rw [portStart_begun]; rfl
@[simp] theorem portStart_duplicates : ((s.portStart p).port p).duplicates = (s.port p).duplicates := by
  rw [portStart_begun]; rfl

/-- A port that begins no frame stands; one that does transmits or waits for CTS. -/
theorem portStart_state : ((s.portStart p).port p).state = (s.port p).state ∨
    ((s.portStart p).port p).state = .transmitting ∨ ((s.portStart p).port p).state = .waitCts := by
  rw [portStart_eq]
  split
  · unfold portBegins
    split <;> simp
  · exact .inl rfl

theorem portStart_state_ne_down (h : (s.port p).state ≠ .down) : ((s.portStart p).port p).state ≠ .down := by
  obtain he | he | he := portStart_state s p <;> simp [he, h]

theorem portStart_of_queue_nil (h : (s.port p).queue = []) : s.portStart p = s := by
  rw [portStart_eq]
  exact if_neg fun hc => hc.2.1 h

/-- The run of refusals goes on while no CTS is asserted (R363). -/
theorem portStart_ldRun_of_not_cts (h : (s.port p).cts = false) : ((s.portStart p).port p).ldRun = (s.port p).ldRun := by
  rw [portStart_eq]
  split
  · unfold portBegins
    split
    · simp
    · simp [portCts_port, h]
  · rfl

end
end State

/-! ## The commands of a port -/

section
variable {s : State}

/-- A command of the Verge die leaves the ports, and the messages, as its effect leaves them. -/
theorem exec_reaches_verge {i : Instr} {f : State → State} {u : State} (hexec : exec i s = act [.cway, .verge] s f)
    (h : f s.clear = u) :
    ∃ t, exec i s = .next t ∧ t.sent = u.sent ∧ t.verge = u.verge ∧ t.cway = u.cway := by
  obtain ⟨t, ht, hsent, hsame⟩ := exec_reaches hexec h
  exact ⟨t, ht, hsent, hsame .verge (by decide) rfl, hsame .cway (by decide) rfl⟩

theorem exec_reaches_port {i : Instr} {f : State → State} {u : State} (p : Nat) (hexec : exec i s = act [.cway, .verge] s f)
    (h : f s.clear = u) : ∃ t, exec i s = .next t ∧ t.sent = u.sent ∧ t.port p = u.port p := by
  obtain ⟨t, ht, hsent, hverge, -⟩ := exec_reaches_verge hexec h
  exact ⟨t, ht, hsent, State.port_congr hverge p⟩

end

/-! ## The downstream sequence (R361 to R363, Table 15.1) -/

section
variable {s : State} {port : Fin 10}

theorem ctsAsserted_leads (hruns : s.vergeRuns = true) (hstate : (s.port port).state = .waitCts)
    (hrts : (s.port port).rts = true) :
    ∃ t, exec (.ctsAsserted port) s = .next t ∧
      (t.port port).cts = true ∧ (t.port port).lead = true ∧ (t.port port).ldRun = 0 ∧ (t.port port).state = .waitCts := by
  have hruns' : s.clear.vergeRuns = true := hruns
  obtain ⟨t, ht, -, hport⟩ := exec_reaches_port (s := s) (i := .ctsAsserted port)
    (u := ((s.clear.setPort port { s.port port with cts := true }).portCts port).refresh port) port rfl
    (by simp [hruns', hstate])
  refine ⟨t, ht, ?_⟩
  simp [hport, State.portCts_port, hstate, hrts]

/-- An answered probe returns a DOWN port to its traffic (R363). -/
theorem ctsAsserted_returns (hruns : s.vergeRuns = true) (hstate : (s.port port).state = .down)
    (hrts : (s.port port).rts = true) :
    ∃ t, exec (.ctsAsserted port) s = .next t ∧ (t.port port).state ≠ .down ∧ (t.port port).ldRun = 0 := by
  have hruns' : s.clear.vergeRuns = true := hruns
  obtain ⟨t, ht, -, hport⟩ := exec_reaches_port (s := s) (i := .ctsAsserted port)
    (u := (((s.clear.portEnter port .idle { State.portRelease (s.port port) with ldRun := 0 }).vergeEvent port 0o140003
      port).portStart port).refresh port) port rfl
    (by simp [hruns', hstate, hrts])
  refine ⟨t, ht, ?_, ?_⟩
  · rw [hport, State.refresh_port]
    exact State.portStart_state_ne_down _ _ (by simp)
  · rw [hport, State.refresh_port, State.portStart_ldRun_of_not_cts _ _ (by simp [State.portRelease])]
    simp

/-- What a refusal with LANE-DOWN leaves of its port (R362). -/
def Port.refused (v : Port) : Port :=
  { State.portRelease v with queue := v.queue.tail, downLd := satInc 18 v.downLd, ldRun := v.ldRun + 1 }

theorem ctsTimeout_refuses (hstate : (s.port port).state = .waitCts) (hlead : (s.port port).lead = false)
    (hrun : (s.port port).ldRun < 2) :
    ∃ t, exec (.ctsTimeout port) s = .next t ∧
      (t.port port).queue = (s.port port).queue.tail ∧ (t.port port).downLd = satInc 18 (s.port port).downLd ∧
      (t.port port).ldRun = (s.port port).ldRun + 1 ∧ (t.port port).state ≠ .down := by
  obtain ⟨t, ht, -, hport⟩ := exec_reaches_port (s := s) (i := .ctsTimeout port)
    (u := ((s.clear.portEnter port .idle (s.port port).refused).portStart port).refresh port) port rfl
    (by simp [hstate, hlead, Nat.not_le.mpr hrun, Port.refused])
  rw [State.refresh_port] at hport
  refine ⟨t, ht, by simp [hport, Port.refused], by simp [hport, Port.refused], ?_, ?_⟩
  · rw [hport, State.portStart_ldRun_of_not_cts _ _ (by simp [Port.refused, State.portRelease])]
    simp [Port.refused]
  · rw [hport]
    exact State.portStart_state_ne_down _ _ (by simp)

theorem ctsTimeout_down (hstate : (s.port port).state = .waitCts) (hlead : (s.port port).lead = false)
    (hrun : 2 ≤ (s.port port).ldRun) :
    ∃ t, exec (.ctsTimeout port) s = .next t ∧ (t.port port).queue = [] ∧ (t.port port).state = .down := by
  obtain ⟨t, ht, -, hport⟩ := exec_reaches_port (s := s) (i := .ctsTimeout port)
    (u := (((s.clear.portEnter port .down (s.port port).refused).portRefuseAll port).vergeEvent port 0o141002 port).refresh port)
    port rfl (by simp [hstate, hlead, hrun, Port.refused])
  exact ⟨t, ht, by simp [hport], by simp [hport]⟩

theorem leadExpiry_transmits (hlead : (s.port port).lead = true) :
    ∃ t, exec (.leadExpiry port) s = .next t ∧
      (t.port port).state = .transmitting ∧ (t.port port).lead = false ∧ (t.port port).queue = (s.port port).queue := by
  obtain ⟨t, ht, -, hport⟩ := exec_reaches_port (s := s) (i := .leadExpiry port)
    (u := (s.clear.portEnter port .transmitting { s.port port with lead := false }).refresh port) port rfl
    (by simp [hlead])
  exact ⟨t, ht, by simp [hport], by simp [hport], by simp [hport]⟩

/-- A refresh sends what it sends after what was sent before. -/
theorem State.refresh_sent (s : State) (u : Nat) : s.sent <+: (s.refresh u).sent := by
  unfold State.refresh
  dsimp only
  split
  · exact State.pump_sent (by rfl) ..
  · exact List.prefix_rfl

theorem downstreamTxEnd_sends {f : DownFrame} {rest : List DownFrame} (hstate : (s.port port).state = .transmitting)
    (hlead : (s.port port).lead = false) (htail : (s.port port).tail = false) (hqueue : (s.port port).queue = f :: rest) :
    ∃ t, exec (.downstreamTxEnd port) s = .next t ∧
      (t.port port).queue = rest ∧ (t.port port).tail = true ∧ (t.port port).framesTx = satInc 36 (s.port port).framesTx ∧
      Sent.station f ∈ t.sent := by
  obtain ⟨t, ht, hsent, hport⟩ := exec_reaches_port (s := s) (i := .downstreamTxEnd port)
    (u := ((s.clear.setPort port { s.port port with
      queue := rest, tail := true, framesTx := satInc 36 (s.port port).framesTx }).send (.station f)).refresh port) port rfl
    (by simp [hqueue, hstate, hlead, htail])
  have hsends : (State.port (State.send (s.clear.setPort port { s.port port with
      queue := rest, tail := true, framesTx := satInc 36 (s.port port).framesTx }) (.station f)) port) =
      { s.port port with queue := rest, tail := true, framesTx := satInc 36 (s.port port).framesTx } :=
    State.port_setPort_same ..
  rw [State.refresh_port, hsends] at hport
  refine ⟨t, ht, by rw [hport], by rw [hport], by rw [hport], ?_⟩
  rw [hsent]
  exact (State.refresh_sent _ _).subset (by simp [State.send])

theorem tailExpiry_ends (htail : (s.port port).tail = true) :
    ∃ t, exec (.tailExpiry port) s = .next t ∧
      (t.port port).tail = false ∧ (t.port port).queue = (s.port port).queue ∧
      ((s.port port).queue = [] → (t.port port).state = .idle) := by
  obtain ⟨t, ht, -, hport⟩ := exec_reaches_port (s := s) (i := .tailExpiry port)
    (u := ((s.clear.portEnter port .idle (State.portRelease (s.port port))).portStart port).refresh port) port rfl
    (by simp [htail])
  rw [State.refresh_port] at hport
  refine ⟨t, ht, by simp [hport, State.portRelease], by simp [hport, State.portRelease], fun hempty => ?_⟩
  rw [hport, State.portStart_of_queue_nil _ _ (by simp [State.portRelease, hempty])]
  simp

theorem portDownProbe_probes (hstate : (s.port port).state = .down) (hrts : (s.port port).rts = false) :
    ∃ t, exec (.portDownProbe port) s = .next t ∧ t.port port = { s.port port with rts := true } := by
  obtain ⟨t, ht, -, hport⟩ := exec_reaches_port (s := s) (i := .portDownProbe port)
    (u := (s.clear.setPort port { s.port port with rts := true }).refresh port) port rfl (by simp [hstate, hrts])
  exact ⟨t, ht, by simp [hport]⟩

end

/-- Settles O16, one lemma for each step of the downstream sequence. -/
theorem portTransmissionComplete : Obligations.PortTransmissionComplete :=
  ⟨fun _ _ hruns hstate hrts => ctsAsserted_leads hruns hstate hrts,
    fun _ _ hruns hstate hrts => ctsAsserted_returns hruns hstate hrts,
    fun _ _ hstate hlead hrun => ctsTimeout_refuses hstate hlead hrun,
    fun _ _ hstate hlead hrun => ctsTimeout_down hstate hlead hrun,
    fun _ _ hlead => leadExpiry_transmits hlead,
    fun _ _ _ _ hstate hlead htail hqueue => downstreamTxEnd_sends hstate hlead htail hqueue,
    fun _ _ htail => tailExpiry_ends htail,
    fun _ _ hstate hrts => portDownProbe_probes hstate hrts⟩

end Sys2Proof.Machine

namespace Sys2Proof.Machine
namespace State

/-! ## Classes of the transport (R337, R339) -/

section
variable {s t : State} {w w' : Way} {c c' : MsgClass}

theorem chan_setChan_other (s : State) (v : Chan) (h : (w, c) ≠ (w', c')) : (s.setChan w c v).chan w' c' = s.chan w' c' := by
  have hkey : 3 * wayNo w + clsNo c ≠ 3 * wayNo w' + clsNo c' := by
    revert h
    cases w <;> cases c <;> cases w' <;> cases c' <;> decide
  simp [setChan, chan, hkey]

theorem wayOpen_congr (hv : t.verge = s.verge) (hp : t.cway.partner = s.cway.partner) (ht : t.toll = s.toll) (w : Way) :
    t.wayOpen w = s.wayOpen w := by
  cases w <;> simp [wayOpen, linked, fieldAbsent, vergeRuns, tollOnVt, hv, hp, ht]

theorem pump_chan_other (s : State) (h : (w, c) ≠ (w', c')) : (s.pump w c).chan w' c' = s.chan w' c' := by
  have hcount (b b' : Prop) [Decidable b] [Decidable b'] (u : State) (n : Nat) :
      (if b then (if b' then (u.occurs 34 0o001 0 n).occurs 34 0o006 0 n else u.occurs 34 0o001 0 n) else u).cway =
        u.cway := by
    split
    · split <;> rfl
    · rfl
  unfold pump
  dsimp only
  split
  · rw [chan_congr (hcount ..), chan_congr (sendWords_cway ..), chan_setChan_other _ _ h]
  · rfl

theorem sendMsg_chan_other (s : State) (m : Msg) (h : (w, c) ≠ (w', c')) : (s.sendMsg w c m).chan w' c' = s.chan w' c' := by
  rw [sendMsg, pump_chan_other _ h, chan_setChan_other _ _ h]

theorem pump_holds (s : State) (w : Way) (c : MsgClass) (p : Msg → Bool) : (s.pump w c).holds w c p = s.holds w c p := by
  refine Bool.eq_iff_iff.mpr ?_
  rw [holds, holds, pump_chan, List.any_eq_true, List.any_eq_true]
  split
  · exact exists_congr fun m => and_congr_left fun _ => mem_pump 8 _ m
  · rfl

/-- A message that comes to its receiver: the transport of its class goes on, and what its sender holds stands. -/
structure Takes (w : Way) (c : MsgClass) (s t : State) : Prop where
  transports : Transports s t
  waiting : (t.chan w c).waiting = (s.chan w c).waiting
  unacked : (t.chan w c).unacked = (s.chan w c).unacked
  other : ∀ w' c', (w, c) ≠ (w', c') → t.chan w' c' = s.chan w' c'

namespace Takes

theorem verge (h : Takes w c s t) : t.verge = s.verge := by rw [h.transports]
theorem toll (h : Takes w c s t) : t.toll = s.toll := by rw [h.transports]
theorem port (h : Takes w c s t) (p : Nat) : t.port p = s.port p := port_congr h.verge p
theorem partner (h : Takes w c s t) : t.cway.partner = s.cway.partner := by rw [h.transports]
theorem wayOpen (h : Takes w c s t) (w' : Way) : t.wayOpen w' = s.wayOpen w' := wayOpen_congr h.verge h.partner h.toll w'

end Takes

theorem wayOpen_of_arrives {m : Msg} (h : s.arrives w c m = true) : s.wayOpen w = true := by
  rw [arrives, Bool.and_eq_true] at h
  exact h.1

/-- The message that arrives next is taken (R339). -/
theorem take_of_arrives {m : Msg} {want : Msg → Bool} (h : s.arrives w c m = true) (hwant : want m = true) :
    ∃ t, s.take w c .good want = (some m, t) ∧ Takes w c s t := by
  have hopen := wayOpen_of_arrives h
  rw [arrives, Bool.and_eq_true] at h
  obtain ⟨-, hwire⟩ := h
  obtain ⟨seq, rest, hw, hseq⟩ : ∃ seq rest, (s.chan w c).wire = (seq, m) :: rest ∧ seq = (s.chan w c).expected := by
    split at hwire
    · next seq n rest hw =>
      obtain ⟨rfl, hseq⟩ := of_decide_eq_true hwire
      exact ⟨seq, rest, hw, hseq⟩
    · exact absurd hwire (by decide)
  let u : State := (if w = Way.up then s.occur 34 0o002 else s).setChan w c
    { s.chan w c with wire := rest, expected := (seq + 1) % 8, naked := false }
  have hu : Takes w c s u := by
    refine ⟨.trans (t := if w = Way.up then s.occur 34 0o002 else s) (by split <;> rfl) (setChan_transports ..), ?_, ?_, ?_⟩
    · rw [chan_setChan_same]
    · rw [chan_setChan_same]
    · intro w' c' hne
      rw [chan_setChan_other _ _ hne]
      split <;> rfl
  refine ⟨u.consumed w c m, by simp [take, receive, hw, hwant, hopen, hseq, u], ?_⟩
  refine ⟨hu.transports.trans (setChan_transports ..), ?_, ?_, ?_⟩
  · rw [consumed, chan_setChan_same]
    exact hu.waiting
  · rw [consumed, chan_setChan_same]
    exact hu.unacked
  · intro w' c' hne
    rw [consumed, chan_setChan_other _ _ hne, hu.other _ _ hne]

/-- The same at the start of a step. -/
theorem clear_take_of_arrives {m : Msg} {want : Msg → Bool} (h : s.arrives w c m = true) (hwant : want m = true) :
    ∃ t, s.clear.take w c .good want = (some m, t) ∧ Takes w c s.clear t :=
  take_of_arrives (show s.clear.arrives w c m = true from h) hwant

end

/-! ## A unit's refresh (R351) -/

section
variable (s : State) (u : Nat)

/-- A STATE_UPDATE of the unit waits after the merge, with every event that it is to carry. -/
theorem mem_mergeUpdate_same (ws : List Nat) (evs : List (Nat × Nat)) (l : List Msg) :
    ∃ more, Msg.stateUpdate u ws (more ++ evs) ∈ mergeUpdate u ws evs l := by
  induction l with
  | nil => exact ⟨[], by simp [mergeUpdate]⟩
  | cons m l ih =>
    obtain ⟨more, hmem⟩ := ih
    cases m with
    | stateUpdate v old evs' =>
      by_cases hv : v = u
      · exact ⟨evs', by simp [mergeUpdate, hv]⟩
      · exact ⟨more, by simp [mergeUpdate, hv, hmem]⟩
    | _ => exact ⟨more, List.mem_cons_of_mem _ hmem⟩

theorem mem_mergeUpdate_other {ws : List Nat} {evs : List (Nat × Nat)} {l : List Msg} {m : Msg} (h : m ∈ l)
    (hm : ∀ ws' evs', m ≠ .stateUpdate u ws' evs') : m ∈ mergeUpdate u ws evs l := by
  induction l with
  | nil => exact absurd h (by simp)
  | cons x l ih =>
    obtain rfl | hl := List.mem_cons.mp h
    · cases m with
      | stateUpdate v old evs' =>
        have hv : v ≠ u := fun e => hm old evs' (by rw [e])
        simp [mergeUpdate, hv]
      | _ => exact List.mem_cons_self
    · cases x with
      | stateUpdate v old evs' =>
        by_cases hv : v = u
        · simp [mergeUpdate, hv, hl]
        · simp [mergeUpdate, hv, ih hl]
      | _ => exact List.mem_cons_of_mem _ (ih hl)

/-- Events of a unit that wait for its refresh. -/
def unitEvents : List (Nat × Nat) := (s.verge.events.filter (fun e => decide (e.1 = u))).map Prod.snd

/-- The state in which a unit's STATE_UPDATE waits, before the class is let go. -/
def refreshed : State :=
  let c := s.chan .up .state
  ({ s with verge := { s.verge with events := s.verge.events.filter (fun e => decide (e.1 ≠ u)) } } : State).setChan .up .state
    { c with waiting := mergeUpdate u (s.vergeWords u) (s.unitEvents u) c.waiting }

theorem refresh_eq : s.refresh u = if s.wayOpen .up then (s.refreshed u).pump .up .state else s := rfl

theorem refreshed_chan : (s.refreshed u).chan .up .state = { s.chan .up .state with
    waiting := mergeUpdate u (s.vergeWords u) (s.unitEvents u) (s.chan .up .state).waiting } := chan_setChan_same ..

theorem refresh_holds {p : Msg → Bool} (hopen : s.wayOpen .up = true)
    (hp : ∀ more, p (.stateUpdate u (s.vergeWords u) (more ++ s.unitEvents u)) = true) :
    (s.refresh u).holds .up .state p = true := by
  obtain ⟨more, hmem⟩ := mem_mergeUpdate_same u (s.vergeWords u) (s.unitEvents u) (s.chan .up .state).waiting
  rw [refresh_eq, if_pos hopen, pump_holds, holds, refreshed_chan]
  exact List.any_eq_true.mpr ⟨_, List.mem_append_left _ hmem, hp more⟩

/-- What is held and is no STATE_UPDATE of the unit is held after its refresh. -/
theorem refresh_keeps_holds {p : Msg → Bool} (hp : ∀ ws evs, p (.stateUpdate u ws evs) = false)
    (h : s.holds .up .state p = true) : (s.refresh u).holds .up .state p = true := by
  rw [refresh_eq]
  split
  · obtain ⟨m, hmem, hm⟩ := List.any_eq_true.mp h
    have hne (ws' : List Nat) (evs' : List (Nat × Nat)) : m ≠ .stateUpdate u ws' evs' := fun e => by
      rw [e, hp] at hm
      exact absurd hm (by decide)
    rw [pump_holds, holds, refreshed_chan]
    refine List.any_eq_true.mpr ⟨m, List.mem_append.mpr ?_, hm⟩
    obtain hwaits | hsent := List.mem_append.mp hmem
    · exact .inl (mem_mergeUpdate_other u hwaits hne)
    · exact .inr hsent
  · exact h

theorem refresh_chan_other {w : Way} {c : MsgClass} (h : (Way.up, MsgClass.state) ≠ (w, c)) :
    (s.refresh u).chan w c = s.chan w c := by
  rw [refresh_eq]
  split
  · rw [pump_chan_other _ h, refreshed, chan_setChan_other _ _ h]
    rfl
  · rfl

theorem refresh_vergeWords (v : Nat) : (s.refresh u).vergeWords v = s.vergeWords v := by
  simp only [vergeWords, refresh_port]
  rw [refresh_verge]

theorem refresh_partner : (s.refresh u).cway.partner = s.cway.partner := by
  rw [refresh_eq]
  split
  · rw [pump_transports]
    rfl
  · rfl

theorem refresh_toll : (s.refresh u).toll = s.toll := by
  rw [refresh_eq]
  split
  · rw [pump_transports]
    rfl
  · rfl

theorem refresh_wayOpen (w : Way) : (s.refresh u).wayOpen w = s.wayOpen w := by
  have hruns : (s.refresh u).vergeRuns = s.vergeRuns := by rw [vergeRuns, refresh_verge, vergeRuns]
  have hlinked : (s.refresh u).linked = s.linked := by rw [linked, fieldAbsent, refresh_partner, linked, fieldAbsent]
  have hlink : (s.refresh u).verge.thLink = s.verge.thLink := by rw [refresh_verge]
  have htoll : (s.refresh u).tollOnVt = s.tollOnVt := by rw [tollOnVt, refresh_toll, tollOnVt]
  cases w <;> simp only [wayOpen, hruns, hlinked, hlink, htoll]

end
end State

/-! ## What the Verge die takes (R343, R353, R364, R381) -/

section
variable {s : State}

/-- A port that takes a configuration goes off, or on, as its MODE says (R364). -/
theorem State.portConfigure_port (s : State) (p : Nat) (v : List Word) :
    ((s.portConfigure p v).port p).config = v ∧ ((s.portConfigure p v).port p).fwd = (s.port p).fwd ∧
      (((s.portConfigure p v).port p).state = .off ↔ ((s.portConfigure p v).port p).mode = 0) := by
  have hmode {a b : Port} (h : a.config = b.config) : a.mode = b.mode := by rw [Port.mode, h, Port.mode]
  by_cases h : ({ State.portRelease (s.port p) with config := v, inFrame := false } : Port).mode = 0
  · have heq : s.portConfigure p v = (s.portEnter p .off
        { State.portRelease (s.port p) with config := v, inFrame := false }).portRefuseAll p := if_pos h
    rw [heq]
    refine ⟨by simp, by simp [State.portRelease], iff_of_true (by simp) ?_⟩
    rw [← h]
    exact hmode (by simp)
  · have heq : s.portConfigure p v = (s.portEnter p .idle
        { State.portRelease (s.port p) with config := v, inFrame := false }).portStart p := if_neg h
    rw [heq]
    refine ⟨by simp, by simp [State.portRelease], iff_of_false (State.portStart_state_ne_off _ _ (by simp)) ?_⟩
    rw [hmode (b := { State.portRelease (s.port p) with config := v, inFrame := false }) (by simp)]
    exact h

theorem portConfigRx_configures {p g : Nat} {v : List Word} (h : s.arrives .down .state (.portConfig p g v) = true) :
    ∃ t, exec (.portConfigRx .good) s = .next t ∧
      (t.port p).config = v ∧ (t.port p).fwd = true ∧ ((t.port p).state = .off ↔ (t.port p).mode = 0) := by
  obtain ⟨u, htake, hu⟩ := State.clear_take_of_arrives (want := isPortConfig) h rfl
  obtain ⟨t, ht, -, hport⟩ := exec_reaches_port (s := s) (i := .portConfigRx .good)
    (u := ((u.setPort p { (if (u.port p).genSet then u.port p else { u.port p with gen := g, genSet := true }) with
      fwd := true }).portConfigure p v).refresh p) p rfl (by simp [htake])
  refine ⟨t, ht, ?_⟩
  rw [hport, State.refresh_port]
  obtain ⟨hconfig, hfwd, hoff⟩ := State.portConfigure_port (u.setPort p
    { (if (u.port p).genSet = true then u.port p else { u.port p with gen := g, genSet := true }) with fwd := true }) p v
  exact ⟨hconfig, hfwd.trans (by simp), hoff⟩

/-- An unconditioned PORT_CMD has its effect, is refreshed and answered DONE (R364). -/
theorem exec_portCommand {i : Instr} {action p : Nat} {run : State → Nat → State}
    (hexec : exec i s = act [.cway, .verge] s (fun s => s.portCommand action .good run))
    (h : s.arrives .down .state (.portCmd p none action) = true) :
    ∃ t u, exec i s = .next t ∧ State.Takes .down .state s.clear u ∧ t.port p = (run u p).port p ∧
      t.holds .up .state (fun m => decide (m = .cmdReply p 0)) = true := by
  obtain ⟨u, htake, hu⟩ := State.clear_take_of_arrives (want := isPortCmd action) h (decide_eq_true rfl)
  have heffect : s.clear.portCommand action .good run = ((run u p).refresh p).sendMsg .up .state (.cmdReply p 0) := by
    simp [State.portCommand, htake]
  obtain ⟨t, ht, -, hverge, hcway⟩ := exec_reaches_verge hexec heffect
  refine ⟨t, u, ht, hu, ?_, ?_⟩
  · rw [State.port_congr hverge, State.sendMsg_port, State.refresh_port]
  · rw [State.holds, State.chan_congr hcway]
    exact State.sendMsg_holds _ _ _ _ (decide_eq_true rfl)

theorem portCmdRetry_returns {p : Nat} (h : s.arrives .down .state (.portCmd p none 1) = true)
    (hdown : (s.port p).state = .down) :
    ∃ t, exec (.portCmdRetry .good) s = .next t ∧
      (t.port p).state ≠ .down ∧ (t.port p).ldRun = 0 ∧
      t.holds .up .state (fun m => decide (m = .cmdReply p 0)) = true := by
  obtain ⟨t, u, ht, hu, hport, hheld⟩ := exec_portCommand (i := .portCmdRetry .good) rfl h
  rw [if_pos (show (u.port p).state = .down by rw [hu.port]; exact hdown)] at hport
  refine ⟨t, ht, ?_, ?_, hheld⟩
  · rw [hport]
    exact State.portStart_state_ne_down _ _ (by simp)
  · rw [hport, State.portStart_ldRun_of_not_cts _ _ (by simp [State.portRelease])]
    simp

theorem portCmdClear_clears {p : Nat} (h : s.arrives .down .state (.portCmd p none 2) = true) :
    ∃ t, exec (.portCmdClear .good) s = .next t ∧
      t.port p =
        { s.port p with framesRx := 0, frameErr := 0, gapAborts := 0, duplicates := 0, early := 0, holdLost := 0, framesTx := 0,
                        downQuota := 0, downLd := 0 } ∧
      t.holds .up .state (fun m => decide (m = .cmdReply p 0)) = true := by
  obtain ⟨t, u, ht, hu, hport, hheld⟩ := exec_portCommand (i := .portCmdClear .good) rfl h
  refine ⟨t, ht, ?_, hheld⟩
  rw [hport, State.port_setPort_same, hu.port]
  rfl

/-- Of a list of units each is told once all have been refreshed. -/
theorem State.foldl_refresh_holds {l : List Nat} {u : Nat} (hu : u ∈ l) (s : State) (hopen : s.wayOpen .up = true) :
    (l.foldl (fun (s : State) v => s.refresh v) s).holds .up .state (updateOf u (s.vergeWords u)) = true := by
  have htells (t : State) (ht : t.wayOpen .up = true ∧ t.vergeWords u = s.vergeWords u) :
      (t.refresh u).holds .up .state (updateOf u (s.vergeWords u)) = true :=
    State.refresh_holds t u ht.1 fun more => by simp [updateOf, ht.2]
  refine foldl_reaches (f := fun (s : State) v => s.refresh v) (P := fun t => t.wayOpen .up = true ∧ t.vergeWords u = s.vergeWords u)
    (Q := fun t : State => t.holds .up .state (updateOf u (s.vergeWords u)) = true) hu (fun t v _ ht => ?_) htells (fun t v _ ht hheld => ?_) ⟨hopen, rfl⟩
  · exact ⟨(State.refresh_wayOpen ..).trans ht.1, (State.refresh_vergeWords ..).trans ht.2⟩
  · by_cases hv : v = u
    · subst hv
      exact htells t ht
    · exact State.refresh_keeps_holds t v (fun ws evs => by simp [updateOf, hv]) hheld

theorem stateQueryRx_tells (h : s.arrives .down .state .stateQuery = true) :
    ∃ t, exec (.stateQueryRx .good) s = .next t ∧
      ∀ u ∈ List.range 10 ++ [0o12, 0o13], t.holds .up .state (updateOf u (s.vergeWords u)) = true := by
  obtain ⟨v, htake, hv⟩ := State.clear_take_of_arrives (want := isStateQuery) h rfl
  obtain ⟨t, ht, -, -, hcway⟩ := exec_reaches_verge (s := s) (i := .stateQueryRx .good)
    (u := (List.range 10 ++ [0o12, 0o13]).foldl (fun (s : State) u => s.refresh u) v) rfl (by simp only [htake])
  have hopen : v.wayOpen .up = true := (hv.wayOpen .down).trans (State.wayOpen_of_arrives h)
  refine ⟨t, ht, fun u hu => ?_⟩
  have hwords : s.vergeWords u = v.vergeWords u := by
    have hverge : v.verge = s.verge := hv.verge
    simp only [State.vergeWords, State.port, hverge]
  rw [State.holds, State.chan_congr hcway, hwords]
  exact State.foldl_refresh_holds hu v hopen

theorem stationDownRx_queues {f : DownFrame} (h : s.arrives .down .station (.stationDown f) = true)
    (hoff : (s.port f.port).state ≠ .off) (hdown : (s.port f.port).state ≠ .down)
    (hroom : (s.port f.port).queue.length < 16) :
    ∃ t, exec (.stationDownRx .good) s = .next t ∧ (t.port f.port).queue = (s.port f.port).queue ++ [f] := by
  obtain ⟨u, htake, hu⟩ := State.clear_take_of_arrives (want := isStationDown) h rfl
  have hsame : u.port f.port = s.port f.port := hu.port _
  obtain ⟨t, ht, -, hport⟩ := exec_reaches_port (s := s) (i := .stationDownRx .good)
    (u := ((u.setPort f.port { s.port f.port with queue := (s.port f.port).queue ++ [f] }).portStart f.port).refresh f.port)
    f.port rfl (by simp [htake, hsame, hoff, hdown, Nat.not_le.mpr hroom])
  refine ⟨t, ht, ?_⟩
  simp [hport]

end

/-- Settles O14, one lemma for each message that the Verge die takes. -/
theorem vergeMessagesComplete : Obligations.VergeMessagesComplete :=
  ⟨fun _ _ _ _ h => portConfigRx_configures h,
    fun _ _ h hdown => portCmdRetry_returns h hdown,
    fun _ _ h => portCmdClear_clears h,
    fun _ h => stateQueryRx_tells h,
    fun _ _ h hoff hdown hroom => stationDownRx_queues h hoff hdown hroom⟩

end Sys2Proof.Machine

namespace Sys2Proof.Machine
namespace State

/-! ## What an upstream frame leaves alone (R368 to R370) -/

section
variable (s : State) (p : Nat)

/-- Between two states the upstream hold and the last SEQ of every station stand. -/
structure UpstreamStands (s t : State) : Prop where
  dups : t.verge.dups = s.verge.dups
  stations : t.chan .up .station = s.chan .up .station

namespace UpstreamStands

variable {s t u : State}

theorem refl (s : State) : UpstreamStands s s := ⟨rfl, rfl⟩

theorem trans (h : UpstreamStands s t) (h' : UpstreamStands t u) : UpstreamStands s u :=
  ⟨h'.dups.trans h.dups, h'.stations.trans h.stations⟩

theorem holdBytes (h : UpstreamStands s t) : t.holdBytes = s.holdBytes := by rw [State.holdBytes, State.holdBytes, h.stations]

end UpstreamStands

theorem portStart_cway : (s.portStart p).cway = s.cway := by
  have hcts (t : State) : (t.portCts p).cway = t.cway := by
    unfold portCts
    dsimp only
    split <;> rfl
  rw [portStart_eq]
  split
  · unfold portBegins
    split
    · rfl
    · exact hcts _
  · rfl

theorem portHunt_begun : (s.portHunt p).port p = ({ s.port p with inFrame := false } : Port).begun ((s.portHunt p).port p) := by
  unfold portHunt
  dsimp only
  split
  · rw [portStart_begun]
    simp [Port.begun]
  · simp [Port.begun]

@[simp] theorem portHunt_inFrame : ((s.portHunt p).port p).inFrame = false := by rw [portHunt_begun]; rfl
@[simp] theorem portHunt_fwd : ((s.portHunt p).port p).fwd = (s.port p).fwd := by rw [portHunt_begun]; rfl
@[simp] theorem portHunt_framesRx : ((s.portHunt p).port p).framesRx = (s.port p).framesRx := by rw [portHunt_begun]; rfl
@[simp] theorem portHunt_framesTx : ((s.portHunt p).port p).framesTx = (s.port p).framesTx := by rw [portHunt_begun]; rfl
@[simp] theorem portHunt_frameErr : ((s.portHunt p).port p).frameErr = (s.port p).frameErr := by rw [portHunt_begun]; rfl
@[simp] theorem portHunt_duplicates : ((s.portHunt p).port p).duplicates = (s.port p).duplicates := by rw [portHunt_begun]; rfl

theorem portHunt_stands : UpstreamStands s (s.portHunt p) := by
  unfold portHunt
  dsimp only
  split
  · refine ⟨?_, ?_⟩
    · rw [(portStart_changesPorts _ p).verge]
      rfl
    · rw [chan_congr (portStart_cway _ p)]
      rfl
  · exact ⟨rfl, rfl⟩

theorem vergeOnce_stands (u key e arg : Nat) : UpstreamStands s (s.vergeOnce u key e arg) := by
  refine ⟨by rw [vergeOnce_verge], ?_⟩
  unfold vergeOnce
  dsimp only
  split <;> rfl

theorem refresh_stands (u : Nat) : UpstreamStands s (s.refresh u) :=
  ⟨by rw [refresh_verge], refresh_chan_other s u (by decide)⟩

theorem sendMsg_legal_stands (m : Msg) : UpstreamStands s (s.sendMsg .thDown .legal m) :=
  ⟨by rw [sendMsg_verge], sendMsg_chan_other s m (by decide)⟩

theorem foldl_sendMsg_legal (l : List Msg) :
    UpstreamStands s (l.foldl (fun s m => s.sendMsg .thDown .legal m) s) ∧
      (l.foldl (fun s m => s.sendMsg .thDown .legal m) s).verge = s.verge :=
  List.foldlRecOn l _ (motive := fun t : State => UpstreamStands s t ∧ t.verge = s.verge) ⟨.refl s, rfl⟩
    (fun t h m _ => ⟨h.1.trans (sendMsg_legal_stands t m), (sendMsg_verge ..).trans h.2⟩)

theorem holdGo_stands : UpstreamStands s s.holdGo ∧ s.holdGo.verge.ports = s.verge.ports := by
  unfold holdGo
  split
  · obtain ⟨hstands, hverge⟩ := foldl_sendMsg_legal
      { s with verge := { s.verge with hold := [], msSent := satAdd 36 s.verge.msSent s.verge.hold.length } } s.verge.hold
    exact ⟨⟨hstands.dups, hstands.stations⟩, (congrArg VergeUnit.ports hverge :)⟩
  · exact ⟨.refl s, rfl⟩

/-- A metering section that is copied goes to the metering hold alone (R370). -/
theorem meterCopy_stands (m : Msg) : UpstreamStands s (s.meterCopy m) := by
  unfold meterCopy
  split
  · have h := (vergeOnce_stands { s with verge := { s.verge with msDropped := satInc 18 s.verge.msDropped } } 0o13 0 0o141005 0).trans
      (refresh_stands _ 0o13)
    exact ⟨h.dups, h.stations⟩
  · have h := (holdGo_stands { s with verge := { s.verge with hold := s.verge.hold ++ [m] } }).1.trans (refresh_stands _ 0o13)
    exact ⟨h.dups, h.stations⟩

@[simp] theorem meterCopy_port (m : Msg) (q : Nat) : (s.meterCopy m).port q = s.port q := by
  unfold meterCopy
  split
  · rw [refresh_port, vergeOnce_port]
    rfl
  · rw [refresh_port, port, (holdGo_stands _).2]
    rfl

/-- The metering section of a frame goes to the Tollhouse. -/
def metered (f : List Nat) (p : Nat) : State :=
  if nfMetered f && !s.isN then s.meterCopy (.meterSection (nfStation f) p (nfMeter f)) else s

theorem metered_stands (f : List Nat) : UpstreamStands s (s.metered f p) := by
  unfold metered
  split
  · exact meterCopy_stands ..
  · exact .refl s

@[simp] theorem metered_port (f : List Nat) (q : Nat) : (s.metered f p).port q = s.port q := by
  unfold metered
  split
  · exact meterCopy_port ..
  · rfl

variable {s} {p} {f : List Nat}

/-- The state in which a good frame has counted at its port and left its metering section. -/
def frameCounted (s : State) (p : Nat) (f : List Nat) : State :=
  (s.setPort p { s.port p with framesRx := satInc 36 (s.port p).framesRx }).metered f p

@[simp] theorem frameCounted_port : (s.frameCounted p f).port p =
    { s.port p with framesRx := satInc 36 (s.port p).framesRx } := by
  simp [frameCounted]

theorem frameCounted_stands (s : State) (p : Nat) (f : List Nat) : UpstreamStands s (s.frameCounted p f) :=
  .trans (t := s.setPort p { s.port p with framesRx := satInc 36 (s.port p).framesRx }) ⟨rfl, rfl⟩ (metered_stands ..)

theorem portFrame_of_new (hnew : tabGet none s.verge.dups (nfStation f % 4096) ≠ some (nfStation f, nfSeq f))
    (hfwd : (s.port p).fwd = true) (hroom : s.holdBytes + f.length ≤ 65536) :
    s.portFrame p f = State.sendMsg { s.frameCounted p f with verge := { (s.frameCounted p f).verge with
      dups := tabPut none (s.frameCounted p f).verge.dups (nfStation f % 4096) (some (nfStation f, nfSeq f)) } }
        .up .station (.stationUp p f) := by
  have hstands := frameCounted_stands s p f
  have hroom' : ¬ 65536 < (s.frameCounted p f).holdBytes + f.length := by
    rw [hstands.holdBytes]
    omega
  have hnew' : tabGet none (s.frameCounted p f).verge.dups (nfStation f % 4096) ≠ some (nfStation f, nfSeq f) := by
    rw [hstands.dups]
    exact hnew
  have hfwd' : ¬ (!(s.port p).fwd) = true := by simp [hfwd]
  refine (if_neg hnew').trans ((if_neg hfwd').trans (if_neg hroom'))

theorem portFrame_of_old (hold : tabGet none s.verge.dups (nfStation f % 4096) = some (nfStation f, nfSeq f)) :
    s.portFrame p f = (s.frameCounted p f).setPort p { s.port p with
      framesRx := satInc 36 (s.port p).framesRx, duplicates := satInc 18 (s.port p).duplicates } := by
  have hold' : tabGet none (s.frameCounted p f).verge.dups (nfStation f % 4096) = some (nfStation f, nfSeq f) := by
    rw [(frameCounted_stands s p f).dups]
    exact hold
  exact if_pos hold'

end
end State

/-! ## The commands of a receiving port (R360, R365, R368, R369) -/

/-- The start of a step touches the observers alone. -/
theorem State.same_of_clear {s t : State} {p : Part} (hp : p ∉ observers) (h : s.clear.same t p) : s.same t p := by
  cases p with
  | alarm | mile | trip | notes | sent => exact absurd (by decide) hp
  | _ => exact h

/-- A command without effect changes the observers alone. -/
theorem exec_stands {s : State} {i : Instr} {ps : List Part} {f : State → State} (hexec : exec i s = act ps s f)
    (h : f s.clear = s.clear) : ∃ t, exec i s = .next t ∧ s.onlyChanges t observers := by
  obtain ⟨t, ht, -, hsame⟩ := exec_reaches hexec h
  refine ⟨t, ht, fun p hp => ?_⟩
  by_cases hmem : p ∈ ps
  · exact State.same_of_clear hp (hsame p hp (by simpa using hmem))
  · exact act_onlyChanges (hexec.symm.trans ht) p (by simp [hmem, hp])

section
variable {s : State} {port : Fin 10} {bytes : List Byte}

theorem sofReceived_receives (hhears : s.portHears port = true) :
    ∃ t, exec (.sofReceived port) s = .next t ∧
      (t.port port).inFrame = true ∧ ((s.port port).state = .idle → (t.port port).state = .receiving) := by
  have hhears' : s.clear.portHears port = true := hhears
  by_cases hidle : (s.port port).state = .idle
  · obtain ⟨t, ht, -, hport⟩ := exec_reaches_port (s := s) (i := .sofReceived port)
      (u := (s.clear.portEnter port .receiving { s.port port with inFrame := true }).refresh port) port rfl
      (by simp [hhears', hidle])
    exact ⟨t, ht, by simp [hport], fun _ => by simp [hport]⟩
  · obtain ⟨t, ht, -, hport⟩ := exec_reaches_port (s := s) (i := .sofReceived port)
      (u := (s.clear.setPort port { s.port port with inFrame := true }).refresh port) port rfl
      (by simp [hhears', hidle])
    exact ⟨t, ht, by simp [hport], fun h => absurd h hidle⟩

/-- What the bytes of a frame lead to at a port that hears them. -/
def State.frameHeard (s : State) (p : Nat) (f : List Nat) : State :=
  let s := s.portHunt p
  let v := s.port p
  (if frameBad f then (s.setPort p { v with frameErr := satInc 18 v.frameErr }).vergeOnce p p 0o141004 p
    else s.portFrame p f).refresh p

theorem stationFrameRx_hears (hhears : s.portHears port = true) (hsof : nfSof (bytesOf bytes) = true) :
    ∃ t, exec (.stationFrameRx port bytes) s = .next t ∧ t.verge = (s.clear.frameHeard port (bytesOf bytes)).verge ∧
      t.cway = (s.clear.frameHeard port (bytesOf bytes)).cway := by
  have hhears' : s.clear.portHears port = true := hhears
  obtain ⟨t, ht, -, hverge, hcway⟩ := exec_reaches_verge (s := s) (i := .stationFrameRx port bytes)
    (u := s.clear.frameHeard port (bytesOf bytes)) rfl (by simp [hhears', hsof, State.frameHeard])
  exact ⟨t, ht, hverge, hcway⟩

theorem stationFrameRx_forwards (hhears : s.portHears port = true) (hsof : nfSof (bytesOf bytes) = true)
    (hgood : frameBad (bytesOf bytes) = false)
    (hnew : tabGet none s.verge.dups (nfStation (bytesOf bytes) % 4096) ≠ some (nfStation (bytesOf bytes), nfSeq (bytesOf bytes)))
    (hfwd : (s.port port).fwd = true) (hroom : s.holdBytes + bytes.length ≤ 65536) :
    ∃ t, exec (.stationFrameRx port bytes) s = .next t ∧
      (t.port port).framesRx = satInc 36 (s.port port).framesRx ∧
      t.holds .up .station (fun m => decide (m = .stationUp port (bytesOf bytes))) = true ∧ (t.port port).inFrame = false := by
  obtain ⟨t, ht, hverge, hcway⟩ := stationFrameRx_hears hhears hsof
  have hhunt := State.portHunt_stands s.clear port
  have hlen : (bytesOf bytes).length = bytes.length := by simp [bytesOf]
  have hframe := State.portFrame_of_new (s := s.clear.portHunt port) (p := port) (f := bytesOf bytes)
    (by rw [hhunt.dups]; exact hnew) (by simpa using hfwd) (by rw [hhunt.holdBytes, hlen]; exact hroom)
  have hheard : s.clear.frameHeard port (bytesOf bytes) = ((s.clear.portHunt port).portFrame port (bytesOf bytes)).refresh port := by
    simp [State.frameHeard, hgood]
  have hport : t.port port = { (s.clear.portHunt port).port port with
      framesRx := satInc 36 ((s.clear.portHunt port).port port).framesRx } := by
    rw [State.port_congr hverge, hheard, State.refresh_port, hframe, State.sendMsg_port]
    exact State.frameCounted_port
  refine ⟨t, ht, by simp [hport], ?_, by simp [hport]⟩
  rw [State.holds, State.chan_congr hcway, hheard, State.refresh_chan_other _ _ (by decide), hframe]
  exact State.sendMsg_holds _ _ _ _ (decide_eq_true rfl)

theorem stationFrameRx_repeats (hhears : s.portHears port = true) (hsof : nfSof (bytesOf bytes) = true)
    (hgood : frameBad (bytesOf bytes) = false)
    (hold : tabGet none s.verge.dups (nfStation (bytesOf bytes) % 4096) = some (nfStation (bytesOf bytes), nfSeq (bytesOf bytes))) :
    ∃ t, exec (.stationFrameRx port bytes) s = .next t ∧
      (t.port port).framesRx = satInc 36 (s.port port).framesRx ∧ (t.port port).duplicates = satInc 18 (s.port port).duplicates ∧
      t.chan .up .station = s.chan .up .station := by
  obtain ⟨t, ht, hverge, hcway⟩ := stationFrameRx_hears hhears hsof
  have hhunt := State.portHunt_stands s.clear port
  have hframe := State.portFrame_of_old (s := s.clear.portHunt port) (p := port) (f := bytesOf bytes)
    (by rw [hhunt.dups]; exact hold)
  have hheard : s.clear.frameHeard port (bytesOf bytes) = ((s.clear.portHunt port).portFrame port (bytesOf bytes)).refresh port := by
    simp [State.frameHeard, hgood]
  have hport := State.port_congr hverge port
  rw [hheard, State.refresh_port, hframe, State.port_setPort_same] at hport
  refine ⟨t, ht, by simp [hport], by simp [hport], ?_⟩
  rw [State.chan_congr hcway, hheard, State.refresh_chan_other _ _ (by decide), hframe]
  exact (State.frameCounted_stands ..).stations.trans hhunt.stations

theorem stationFrameRx_bad (hhears : s.portHears port = true) (hsof : nfSof (bytesOf bytes) = true)
    (hbad : frameBad (bytesOf bytes) = true) :
    ∃ t, exec (.stationFrameRx port bytes) s = .next t ∧
      (t.port port).frameErr = satInc 18 (s.port port).frameErr ∧ (t.port port).framesRx = (s.port port).framesRx ∧
      (t.port port).inFrame = false := by
  obtain ⟨t, ht, hverge, -⟩ := stationFrameRx_hears hhears hsof
  have hport : t.port port = { (s.clear.portHunt port).port port with
      frameErr := satInc 18 ((s.clear.portHunt port).port port).frameErr } := by
    rw [State.port_congr hverge]
    simp [State.frameHeard, hbad]
  exact ⟨t, ht, by simp [hport], by simp [hport], by simp [hport]⟩

/-- Bytes without a start of frame are not heard. -/
theorem stationFrameRx_unheard (hsof : nfSof (bytesOf bytes) = false) :
    ∃ t, exec (.stationFrameRx port bytes) s = .next t ∧ s.onlyChanges t observers := by
  exact exec_stands (i := .stationFrameRx port bytes) rfl (by simp [hsof])

theorem gapAbort_aborts (hhears : s.portHears port = true) (hframe : (s.port port).inFrame = true)
    (hmode : (s.port port).mode ≠ 2) :
    ∃ t, exec (.gapAbort port) s = .next t ∧
      (t.port port).gapAborts = satInc 18 (s.port port).gapAborts ∧ (t.port port).inFrame = false := by
  have hhears' : s.clear.portHears port = true := hhears
  obtain ⟨t, ht, -, hport⟩ := exec_reaches_port (s := s) (i := .gapAbort port)
    (u := ((s.clear.portHunt port).setPort port { (s.clear.portHunt port).port port with
      gapAborts := satInc 18 (s.port port).gapAborts }).refresh port) port rfl
    (by simp [hhears', hframe, hmode])
  exact ⟨t, ht, by simp [hport], by simp [hport]⟩

theorem syncClockStop_aborts (hmode : (s.port port).mode = 2) (hruns : s.vergeRuns = true) (hframe : (s.port port).inFrame = true) :
    ∃ t, exec (.syncClockStop port) s = .next t ∧
      (t.port port).inFrame = false ∧ (t.port port).framesTx = (s.port port).framesTx := by
  have hruns' : s.clear.vergeRuns = true := hruns
  by_cases hcut : (((s.clear.portHunt port).port port).state = .transmitting && !((s.clear.portHunt port).port port).tail) = true
  · obtain ⟨t, ht, -, hport⟩ := exec_reaches_port (s := s) (i := .syncClockStop port)
      (u := (((s.clear.portHunt port).portEnter port .idle { State.portRelease ((s.clear.portHunt port).port port) with
        queue := ((s.clear.portHunt port).port port).queue.tail }).portStart port).refresh port) port rfl
      (by simp only [State.clear_port, hmode, hruns', hframe, hcut, if_true]; simp)
    exact ⟨t, ht, by simp [hport, State.portRelease], by simp [hport, State.portRelease]⟩
  · obtain ⟨t, ht, -, hport⟩ := exec_reaches_port (s := s) (i := .syncClockStop port)
      (u := (s.clear.portHunt port).refresh port) port rfl
      (by simp only [State.clear_port, hmode, hruns', hframe, hcut, if_true]; simp)
    exact ⟨t, ht, by simp [hport], by simp [hport]⟩

theorem dcdChange_shows {level : Bool} (hruns : s.vergeRuns = true) :
    ∃ t, exec (.dcdChange port level) s = .next t ∧ (t.port port).dcd = level := by
  have hruns' : s.clear.vergeRuns = true := hruns
  let v : Port := { s.port port with dcd := level }
  let w : State := s.clear.setPort port v
  by_cases hasserts : (v.state = .waitCts && !v.rts && !(v.dcdGate && v.dcd)) = true
  · obtain ⟨t, ht, -, hport⟩ := exec_reaches_port (s := s) (i := .dcdChange port level)
      (u := ((w.setPort port { v with rts := true }).portCts port).refresh port) port rfl
      ((if_pos hruns').trans (congrArg (fun u : State => u.refresh port) (if_pos hasserts)))
    refine ⟨t, ht, ?_⟩
    rw [hport, State.refresh_port, State.portCts_begun, State.port_setPort_same]
    rfl
  · obtain ⟨t, ht, -, hport⟩ := exec_reaches_port (s := s) (i := .dcdChange port level) (u := w.refresh port) port rfl
      ((if_pos hruns').trans (congrArg (fun u : State => u.refresh port) (if_neg hasserts)))
    exact ⟨t, ht, by simp [hport, w, v]⟩

/-- The levels of the field inputs once one of them has changed. -/
theorem testBit_changed {n i : Nat} {level : Bool} (h : n.testBit i ≠ level) :
    (if level then n + 2 ^ i else n - 2 ^ i).testBit i = level := by
  cases level with
  | true =>
    rw [if_pos rfl, Nat.add_comm, Nat.testBit_two_pow_add_eq, Bool.eq_false_of_not_eq_true h]
    rfl
  | false =>
    have hset : n.testBit i = true := Bool.eq_true_of_not_eq_false h
    rw [← Nat.add_sub_cancel' (Nat.ge_two_pow_of_testBit hset), Nat.testBit_two_pow_add_eq] at hset
    simpa using hset

theorem fieldInputChange_shows {input : Fin 8} {level : Bool} (hruns : s.vergeRuns = true)
    (hlevel : s.verge.levels.testBit input ≠ level) :
    ∃ t, exec (.fieldInputChange input level) s = .next t ∧
      t.verge.levels.testBit input = level ∧ tabGet 0 t.verge.edges input = satInc 18 (tabGet 0 s.verge.edges input) ∧
      t.verge.finGen = (s.verge.finGen + 1) % 32 := by
  have hchange : (s.clear.vergeRuns && decide (s.clear.verge.levels.testBit input ≠ level)) = true := by
    exact Bool.and_eq_true_iff.mpr ⟨hruns, decide_eq_true hlevel⟩
  obtain ⟨t, ht, -, hverge, -⟩ := exec_reaches_verge (s := s) (i := .fieldInputChange input level) rfl (if_pos hchange)
  rw [State.refresh_verge, State.vergeOnce_verge] at hverge
  refine ⟨t, ht, ?_, ?_, ?_⟩
  · rw [hverge]
    exact testBit_changed hlevel
  · rw [hverge]
    exact tabGet_tabPut_same ..
  · rw [hverge]
    rfl

end

/-- Settles O15, one lemma for each command of a receiving port. -/
theorem portReceptionComplete : Obligations.PortReceptionComplete :=
  ⟨fun _ _ h => sofReceived_receives h,
    fun _ _ _ hhears hsof hgood hnew hfwd hroom => stationFrameRx_forwards hhears hsof hgood hnew hfwd hroom,
    fun _ _ _ hhears hsof hgood hold => stationFrameRx_repeats hhears hsof hgood hold,
    fun _ _ _ hhears hsof hbad => stationFrameRx_bad hhears hsof hbad,
    fun _ _ _ hsof => stationFrameRx_unheard hsof,
    fun _ _ hhears hframe hmode => gapAbort_aborts hhears hframe hmode,
    fun _ _ hmode hruns hframe => syncClockStop_aborts hmode hruns hframe,
    fun _ _ _ hruns => dcdChange_shows hruns,
    fun _ _ _ hruns hlevel => fieldInputChange_shows hruns hlevel⟩

end Sys2Proof.Machine

namespace Sys2Proof.Machine

/-! ## Credit, acknowledgement and go-back (R337 to R339) -/

/-- A class with nothing to send lets nothing go. -/
theorem Chan.pump_of_waiting_nil {c : Chan} (h : c.waiting = []) (k : Nat) : c.pump k = c := by
  cases k with
  | zero => rfl
  | succ k => rw [Chan.pump, h]

namespace State

section
variable {s : State} {w : Way} {c : MsgClass} {v : Chan}

theorem pump_setChan_of_waiting_nil (h : v.waiting = []) : ((s.setChan w c v).pump w c).chan w c = v := by
  rw [pump_chan, chan_setChan_same, Chan.pump_of_waiting_nil h, ite_self]

theorem controlMsg_cway (s : State) (w : Way) (c : MsgClass) (type low : Nat) : (s.controlMsg w c type low).cway = s.cway := by
  cases w <;> rfl

/-- A go-back short of the sixteenth counts (R339). -/
theorem goBack_chan {retrained : Bool} (h : (s.chan w c).goBacks < 15) :
    (s.goBack w c retrained).chan w c = { s.chan w c with goBacks := (s.chan w c).goBacks + 1 } := by
  have heq : s.goBack w c retrained = (if w = Way.down then s.occur 34 0o003 else s).setChan w c
      { s.chan w c with goBacks := (s.chan w c).goBacks + 1 } := if_pos (Nat.succ_lt_succ h)
  rw [heq, chan_setChan_same]

theorem pump_of_waiting_nil (h : (s.chan w c).waiting = []) : (s.pump w c).chan w c = s.chan w c := by
  rw [pump_chan, Chan.pump_of_waiting_nil h, ite_self]

/-- A class as a resend leaves it on the wire. -/
theorem resent_chan (s : State) (v : Chan) (l : List (Nat × Msg)) : ((s.setChan w c v).sendWords w l).chan w c = v := by
  rw [chan_congr (sendWords_cway ..), chan_setChan_same]

end
end State

section
variable {s : State} {way : Way} {cls : MsgClass}

theorem creditRx_returns {words : Nat} (hopen : s.wayOpen way = true)
    (hfree : (way, cls) ≠ (Way.up, MsgClass.station) ∨ s.withheld = false) (hwaits : (s.chan way cls).waiting = []) :
    ∃ t, exec (.creditRx way cls words) s = .next t ∧
      (t.chan way cls).owed = (s.chan way cls).owed - min words (s.chan way cls).owed ∧
      (t.chan way cls).credit = min (credit0 way cls) ((s.chan way cls).credit + min words (s.chan way cls).owed) := by
  have hgrants : ¬ (!s.clear.wayOpen way || (decide (way = Way.up ∧ cls = MsgClass.station) && s.clear.withheld)) = true := by
    rw [show s.clear.wayOpen way = true from hopen, show s.clear.withheld = s.withheld from rfl]
    obtain hne | hno := hfree
    · simpa [Prod.ext_iff] using fun h h' => absurd h' (by simpa [h] using hne)
    · simp [hno]
  obtain ⟨t, ht, -, hsame⟩ := exec_reaches (s := s) (i := .creditRx way cls words) rfl (if_neg hgrants)
  have hchan : t.chan way cls = { s.chan way cls with
      owed := (s.chan way cls).owed - min words (s.chan way cls).owed
      credit := min (credit0 way cls) ((s.chan way cls).credit + min words (s.chan way cls).owed) } := by
    rw [State.chan_congr (hsame .cway (by decide) rfl)]
    exact State.pump_setChan_of_waiting_nil hwaits
  exact ⟨t, ht, by rw [hchan], by rw [hchan]⟩

theorem ackRx_frees (hopen : s.wayOpen way = true) (hreceived : 0 < (s.chan way cls).received)
    (hwaits : (s.chan way cls).waiting = []) :
    ∃ t, exec (.ackRx way cls) s = .next t ∧
      (t.chan way cls).unacked = (s.chan way cls).unacked.drop (s.chan way cls).received ∧ (t.chan way cls).goBacks = 0 := by
  have hacks : (s.clear.wayOpen way && decide (0 < (s.clear.chan way cls).received)) = true :=
    Bool.and_eq_true_iff.mpr ⟨hopen, decide_eq_true hreceived⟩
  obtain ⟨t, ht, -, hsame⟩ := exec_reaches (s := s) (i := .ackRx way cls) rfl (if_pos hacks)
  have hchan : t.chan way cls = { s.chan way cls with
      unacked := (s.chan way cls).unacked.drop (s.chan way cls).received, goBacks := 0 } := by
    rw [State.chan_congr (hsame .cway (by decide) rfl)]
    exact State.pump_setChan_of_waiting_nil hwaits
  exact ⟨t, ht, by rw [hchan], by rw [hchan]⟩

theorem nakRx_goes_back (hopen : s.wayOpen way = true) (hnaked : (s.chan way cls).naked = true)
    (hwaits : (s.chan way cls).waiting = []) (hbacks : (s.chan way cls).goBacks < 15) :
    ∃ t, exec (.nakRx way cls true) s = .next t ∧
      (t.chan way cls).wire = (s.chan way cls).unacked.drop (s.chan way cls).received ∧ (t.chan way cls).naked = false ∧
      (t.chan way cls).goBacks = (s.chan way cls).goBacks + 1 := by
  have hnaks : (s.clear.wayOpen way && (s.clear.chan way cls).naked) = true := Bool.and_eq_true_iff.mpr ⟨hopen, hnaked⟩
  let left := (s.chan way cls).unacked.drop (s.chan way cls).received
  let v : Chan := { s.chan way cls with unacked := left, wire := left, naked := false }
  obtain ⟨t, ht, -, hsame⟩ := exec_reaches (s := s) (i := .nakRx way cls true) rfl (if_pos hnaks)
  have hresent := State.resent_chan (w := way) (c := cls)
    (s.clear.controlMsg way cls 0o04 (fld 15 13 (s.chan way cls).expected)) v left
  have hback := State.goBack_chan (w := way) (c := cls) (retrained := true) (by rw [hresent]; exact hbacks)
  rw [hresent] at hback
  have hchan : t.chan way cls = { v with goBacks := (s.chan way cls).goBacks + 1 } := by
    rw [State.chan_congr (hsame .cway (by decide) rfl)]
    refine (State.pump_of_waiting_nil ?_).trans hback
    exact (congrArg Chan.waiting hback).trans hwaits
  exact ⟨t, ht, by rw [hchan], by rw [hchan], by rw [hchan]⟩

theorem gobackTimeout_goes_back (hopen : s.wayOpen way = true) (hunacked : (s.chan way cls).unacked ≠ [])
    (hbacks : (s.chan way cls).goBacks < 15) :
    ∃ t, exec (.gobackTimeout way cls true) s = .next t ∧
      (t.chan way cls).wire = (s.chan way cls).unacked ∧ (t.chan way cls).goBacks = (s.chan way cls).goBacks + 1 := by
  have hgoes : (s.clear.wayOpen way && !(s.clear.chan way cls).unacked.isEmpty) = true :=
    Bool.and_eq_true_iff.mpr ⟨hopen, by rw [Bool.not_eq_eq_eq_not, Bool.not_true]; exact List.isEmpty_eq_false_iff.mpr hunacked⟩
  let v : Chan := { s.chan way cls with wire := (s.chan way cls).unacked, naked := false }
  obtain ⟨t, ht, -, hsame⟩ := exec_reaches (s := s) (i := .gobackTimeout way cls true) rfl (if_pos hgoes)
  have hresent := State.resent_chan (w := way) (c := cls) s.clear v (s.chan way cls).unacked
  have hback := State.goBack_chan (w := way) (c := cls) (retrained := true) (by rw [hresent]; exact hbacks)
  rw [hresent] at hback
  have hchan : t.chan way cls = { v with goBacks := (s.chan way cls).goBacks + 1 } := by
    rw [State.chan_congr (hsame .cway (by decide) rfl)]
    exact hback
  exact ⟨t, ht, by rw [hchan], by rw [hchan]⟩

end

/-- Settles O29, one lemma for each of credit, acknowledgement and the two go-backs. -/
theorem causewayTransportCompletes : Obligations.CausewayTransportCompletes :=
  ⟨fun _ _ _ _ hopen hfree hwaits => creditRx_returns hopen hfree hwaits,
    fun _ _ _ hopen hreceived hwaits => ackRx_frees hopen hreceived hwaits,
    fun _ _ _ hopen hnaked hwaits hbacks => nakRx_goes_back hopen hnaked hwaits hbacks,
    fun _ _ _ hopen hunacked hbacks => gobackTimeout_goes_back hopen hunacked hbacks⟩

end Sys2Proof.Machine

namespace Sys2Proof.Machine
namespace State

/-! ## What the entry to UP leaves of the partner (R343) -/

/-- Between two states messages may have been let go: the Causeway stands, but for its classes. -/
def ChansMove (s t : State) : Prop := t.cway = { s.cway with chans := t.cway.chans }

namespace ChansMove

variable {s t u : State}

theorem refl (s : State) : ChansMove s s := rfl

theorem trans (h : ChansMove s t) (h' : ChansMove t u) : ChansMove s u := by
  calc u.cway = _ := h'
    _ = _ := by rw [show t.cway = _ from h]

theorem foldl {α : Type} {f : State → α → State} (hf : ∀ s x, ChansMove s (f s x)) (l : List α) (s : State) :
    ChansMove s (l.foldl f s) :=
  List.foldlRecOn l f (motive := ChansMove s) (refl s) (fun _ h x _ => h.trans (hf _ x))

theorem ite {c : Prop} [Decidable c] (ht : ChansMove s t) (hu : ChansMove s u) : ChansMove s (if c then t else u) := by
  split
  · exact ht
  · exact hu

theorem of_cway (h : t.cway = s.cway) : ChansMove s t := by rw [ChansMove, h]

theorem of_transports (h : Transports s t) : ChansMove s t := by
  rw [Transports] at h
  exact congrArg State.cway h

theorem of_settles (h : s.Settles t) : ChansMove s t := .of_cway (by rw [h])

theorem partner (h : ChansMove s t) : t.cway.partner = s.cway.partner := by rw [show t.cway = _ from h]
theorem gen (h : ChansMove s t) : t.cway.gen = s.cway.gen := by rw [show t.cway = _ from h]
theorem chOk (h : ChansMove s t) : t.cway.chOk = s.cway.chOk := by rw [show t.cway = _ from h]

end ChansMove

section
variable (s : State)

theorem setChan_chansMove (w : Way) (c : MsgClass) (v : Chan) : ChansMove s (s.setChan w c v) := rfl
theorem sendMsg_chansMove (w : Way) (c : MsgClass) (m : Msg) : ChansMove s (s.sendMsg w c m) :=
  .of_transports (sendMsg_transports ..)
theorem pump_chansMove (w : Way) (c : MsgClass) : ChansMove s (s.pump w c) := .of_transports (pump_transports ..)

theorem configurePorts_chansMove : ChansMove s s.configurePorts :=
  .ite (((ChansMove.foldl (fun s p => .of_settles (takePending_settles s 0o020 p)) _ s).trans
    (.foldl (fun s _ => sendMsg_chansMove s ..) _ _)).trans (.of_settles (settleApply_settles _))) (.refl s)

theorem resendLegal_chansMove : ChansMove s s.resendLegal := by
  have hagain (c : Chan) (l : List (Nat × Msg)) : ChansMove s (l.foldl (fun s e =>
      if c.waiting.contains e.2 || c.unacked.any (fun u => decide (u.2 = e.2)) then s else s.sendMsg .down .legal e.2) s) :=
    .foldl (fun s _ => .ite (.refl s) (sendMsg_chansMove ..)) l s
  unfold resendLegal
  dsimp only
  split
  · exact hagain ..
  · exact (hagain ..).trans (sendMsg_chansMove ..)

/-- Every class lets go what it may. -/
def pumpAll : State := [MsgClass.state, .station, .legal].foldl (fun s c => (s.pump .down c).pump .up c) s

theorem pumpAll_chansMove : ChansMove s s.pumpAll := .foldl (fun s _ => (pump_chansMove s ..).trans (pump_chansMove ..)) _ s

/-- The classes of the transport as the entry to UP opens them (R337, R343). -/
def chansOpened : State :=
  let open_ := fun (s : State) (w : Way) (c : MsgClass) => s.setChan w c ((s.chan w c).fresh (credit0 w c))
  let s := [MsgClass.state, .station, .legal].foldl (fun s c => open_ (open_ s .down c) .up c) s
  let up := s.chan .up .station
  if s.withheld then s.setChan .up .station { up with credit := 0, owed := credit0 .up .station } else s

theorem chansOpened_chansMove : ChansMove s s.chansOpened :=
  .ite (.trans (.foldl (fun s _ => (setChan_chansMove s ..).trans (setChan_chansMove ..)) _ s) (setChan_chansMove ..))
    (.foldl (fun s _ => (setChan_chansMove s ..).trans (setChan_chansMove ..)) _ s)

/-- The channels are good again, and no port has been configured yet. -/
def channelsGood (again : Bool) : State :=
  { s with
    verge := { s.verge with ports := tabMap {} s.verge.ports (fun _ v => { v with fwd := false }) }
    cway := { s.cway with chOk := 15, th := if again then s.cway.th else if s.isN then 2 else 0 } }

/-- What follows the entry to UP. -/
def upEntered (arg : Nat) : State :=
  ((((s.endAlarm 0o133002 0 0).emitOwn 0o130001 0 0 arg).configurePorts.sendMsg .down .state .stateQuery).resendLegal).pumpAll

@[simp] theorem channelsGood_partner (again : Bool) : (s.channelsGood again).cway.partner = s.cway.partner := rfl
@[simp] theorem channelsGood_gen (again : Bool) : (s.channelsGood again).cway.gen = s.cway.gen := rfl
@[simp] theorem channelsGood_chOk (again : Bool) : (s.channelsGood again).cway.chOk = 15 := rfl

theorem enterUp_eq (arg : Nat) : s.enterUp arg =
    ((s.chansOpened.channelsGood (decide (s.cway.partner = .single))).partnerEnter .up).upEntered arg := rfl

theorem upEntered_chansMove (arg : Nat) : ChansMove s (s.upEntered arg) := by
  have htold : ChansMove s ((s.endAlarm 0o133002 0 0).emitOwn 0o130001 0 0 arg) := .of_cway rfl
  have hconfigured := htold.trans (configurePorts_chansMove _)
  have hqueried := hconfigured.trans (sendMsg_chansMove _ .down .state .stateQuery)
  exact (hqueried.trans (resendLegal_chansMove _)).trans (pumpAll_chansMove _)

theorem partnerEnter_cway {p : Partner} (h : s.cway.partner ≠ p) :
    (s.partnerEnter p).cway = { s.cway with partner := p, gen := (s.cway.gen + 1) % 32 } := by
  rw [partnerEnter, if_neg h]

variable {s}

/-- A partner that was not UP is, with all channels, and its GEN has risen (R341, R343). -/
theorem enterUp_enters {arg : Nat} (h : s.cway.partner ≠ .up) :
    (s.enterUp arg).cway.partner = .up ∧ (s.enterUp arg).cway.gen = (s.cway.gen + 1) % 32 ∧ (s.enterUp arg).cway.chOk = 15 := by
  have hopened := chansOpened_chansMove s
  have hentered := partnerEnter_cway (s.chansOpened.channelsGood (decide (s.cway.partner = .single))) (p := .up)
    (by rwa [channelsGood_partner, hopened.partner])
  have hafter := upEntered_chansMove
    ((s.chansOpened.channelsGood (decide (s.cway.partner = .single))).partnerEnter .up) arg
  rw [enterUp_eq, hafter.partner, hafter.gen, hafter.chOk, hentered]
  simp [hopened.gen]

/-- TH_LINK touches no part of the partner's state (R340). -/
theorem heardThLink_cway (s : State) : s.heardThLink.cway = { s.cway with
    thLinkSeen := s.heardThLink.cway.thLinkSeen, th := s.heardThLink.cway.th } := by
  unfold heardThLink
  dsimp only
  split <;> rfl

theorem heardThLink_partner (s : State) : s.heardThLink.cway.partner = s.cway.partner := by rw [heardThLink_cway]
theorem heardThLink_gen (s : State) : s.heardThLink.cway.gen = s.cway.gen := by rw [heardThLink_cway]
theorem heardThLink_chOk (s : State) : s.heardThLink.cway.chOk = s.cway.chOk := by rw [heardThLink_cway]

theorem recordReset_partner (s : State) : s.recordReset.2.cway.partner = s.cway.partner ∧
    s.recordReset.2.cway.gen = s.cway.gen := by
  unfold recordReset
  dsimp only
  split
  · exact ⟨rfl, rfl⟩
  · split
    · exact ⟨rfl, rfl⟩
    · split <;> exact ⟨rfl, rfl⟩

end

/-! ## What the entry to ABSENT leaves of it (R341, R342) -/

/-- Between two states frames bound for VP may have been refused: the Causeway stands, but for their count. -/
def CountsAbsent (s t : State) : Prop := t.cway = { s.cway with faRefused := t.cway.faRefused }

namespace CountsAbsent

variable {s t u : State}

theorem refl (s : State) : CountsAbsent s s := rfl

theorem trans (h : CountsAbsent s t) (h' : CountsAbsent t u) : CountsAbsent s u := by
  calc u.cway = _ := h'
    _ = _ := by rw [show t.cway = _ from h]

theorem foldl {α : Type} {f : State → α → State} (hf : ∀ s x, CountsAbsent s (f s x)) (l : List α) (s : State) :
    CountsAbsent s (l.foldl f s) :=
  List.foldlRecOn l f (motive := CountsAbsent s) (refl s) (fun _ h x _ => h.trans (hf _ x))

theorem of_cway (h : t.cway = s.cway) : CountsAbsent s t := by rw [CountsAbsent, h]

theorem absentEvents (h : CountsAbsent s t) : t.cway.absentEvents = s.cway.absentEvents := by rw [show t.cway = _ from h]

end CountsAbsent

section
variable (s : State)

theorem degrade_cway (t code : Nat) : (s.degrade t code).cway = s.cway := by
  unfold degrade
  dsimp only
  split
  · rfl
  · split <;> rfl

theorem emitOnceKey_cway (key e kind number arg : Nat) : (s.emitOnceKey key e kind number arg).cway = s.cway := by
  rw [(emitOnceKey_declines s key e kind number arg).eq]

theorem refuse_cway (t q code : Nat) : (s.refuse t q code).cway = s.cway := by
  have hcount (s : State) : (s.refuseCount t q code).cway = s.cway := by
    rw [refuseCount_eq, degrade_cway, emitOnceKey_cway]
    rfl
  unfold refuse
  dsimp only
  split
  · exact hcount _
  · exact hcount s

theorem wayEnd_cway (q outPort : Nat) (f : QFrame) (prot : Bool) (outcome : Nat) :
    (s.wayEnd q outPort f prot outcome).cway = s.cway := by
  rw [(wayEnd_declines s q outPort f prot outcome).eq]

theorem delayFalls_cway (t c : Nat) : (s.delayFalls t c).cway = s.cway := by rw [(delayFalls_declines s t c).eq]

theorem refuseQueued_cway (t q code : Nat) (p : QFrame → Bool) : (s.refuseQueued t q code p).cway = s.cway := by
  let l := (s.queue q).frames.filter p
  let u := s.setQueue q { s.queue q with frames := (s.queue q).frames.filter (fun f => !p f) }
  have hrefused : (l.foldl (fun s f => (s.refuse t q code).wayEnd q (s.qEgress q) f (s.egressTrunk q) code) u).cway = s.cway :=
    List.foldlRecOn l _ (motive := fun t : State => t.cway = s.cway) rfl
      (fun _ h _ _ => (wayEnd_cway ..).trans ((refuse_cway ..).trans h))
  unfold refuseQueued
  dsimp only
  split
  · exact hrefused
  · exact (delayFalls_cway ..).trans hrefused

theorem refuseFieldAbsent_countsAbsent (queue : Option Nat) : CountsAbsent s (s.refuseFieldAbsent queue) := by
  unfold refuseFieldAbsent
  dsimp only
  split
  · split
    · exact .trans (t := s.countFieldAbsent) rfl (.of_cway (refuse_cway ..))
    · rfl
  · rfl

theorem refuseVpQueues_countsAbsent : CountsAbsent s s.refuseVpQueues := by
  refine .foldl (fun s q => ?_) _ s
  dsimp only
  split
  · split
    · refine .trans (t := { s with cway := { s.cway with
        faRefused := satAdd 36 s.cway.faRefused (s.queue q).frames.length } }) rfl (.of_cway (refuseQueued_cway ..))
    · exact .refl s
  · exact .refl s

theorem respondLater_cway (c : Caller) (verb status : Nat) (words : List Word) (args : List Nat) :
    (s.respondLater c verb status words args).cway = s.cway := by
  rw [(respondLater_responds (op := True) s c verb status words args (fun _ => trivial)).1.eq]

theorem answerPorts_cway : s.answerPorts.cway = s.cway := by
  unfold answerPorts
  refine List.foldlRecOn _ _ (motive := fun t : State => t.cway = s.cway) rfl (fun t h w _ => ?_)
  split
  · exact h
  · exact (respondLater_cway ..).trans h

/-- The classes as ABSENT leaves them: those toward the Verge die are empty, those from it hold what they held (R342). -/
def classesCut : State :=
  let hold := fun (s : State) (c : MsgClass) => s.setChan .up c ((s.chan .up c).fresh 0)
  let s := (((s.setChan .down .state {}).setChan .down .station {}).setChan .down .legal {}).setChan .up .state {}
  hold (hold s .station) .legal

theorem classesCut_chan : s.classesCut.chan .down .state = {} := by
  unfold classesCut
  dsimp only
  repeat rw [chan_setChan_other _ _ (by decide)]
  exact chan_setChan_same ..

/-- The classes are cut, and no channel is good. -/
def linkLost : State :=
  let s := s.classesCut
  { s with cway := { s.cway with chOk := 0, thLinkSeen := false, th := if s.isN then 2 else 0 } }

/-- The frames bound for VP are refused, and the operators that wait for a port are answered. -/
def lossMet (lost : List DownFrame) : State :=
  let s := lost.foldl (fun s f => s.refuseFieldAbsent f.queue) s
  let s := s.pipelineDowns.foldl (fun s q => s.refuseFieldAbsent (some q)) s.dropDowns
  s.refuseVpQueues.answerPorts

theorem lossMet_countsAbsent (lost : List DownFrame) : CountsAbsent s (s.lossMet lost) := by
  have hrefused : CountsAbsent s (lost.foldl (fun s f => s.refuseFieldAbsent f.queue) s) :=
    .foldl (fun s f => refuseFieldAbsent_countsAbsent s (DownFrame.queue f)) lost s
  have hpipeline (u : State) (l : List Nat) : CountsAbsent u (l.foldl (fun s q => s.refuseFieldAbsent (some q)) u.dropDowns) :=
    .trans (t := u.dropDowns) (.of_cway rfl) (.foldl (fun s q => refuseFieldAbsent_countsAbsent s (some q)) l _)
  unfold lossMet
  exact ((hrefused.trans (hpipeline ..)).trans (refuseVpQueues_countsAbsent _)).trans (.of_cway (answerPorts_cway _))

variable {s}

/-- The frames toward the Verge die that ABSENT loses. -/
def lostFrames (s : State) : List DownFrame :=
  downFrames ((s.chan .down .station).unacked.map Prod.snd ++ (s.chan .down .station).waiting)

/-- The loss of a linked partner is counted, and told. -/
def absentTold (s : State) (arg : Nat) : State :=
  { s with cway := { s.cway with absentEvents := satInc 18 s.cway.absentEvents } }.emitOwn 0o133002 0 0 arg

theorem enterAbsent_of_linked {arg : Nat} (h : s.linked = true) :
    s.enterAbsent arg = ((s.linkLost.partnerEnter .absent).lossMet s.lostFrames).absentTold arg := by
  unfold enterAbsent absentTold lossMet linkLost classesCut lostFrames
  dsimp only
  rw [if_pos h]

theorem classesCut_chansMove (s : State) : ChansMove s s.classesCut := by
  have hset (t u : State) (w : Way) (c : MsgClass) (v : Chan) (h : ChansMove t u) : ChansMove t (u.setChan w c v) :=
    h.trans (setChan_chansMove ..)
  unfold classesCut
  dsimp only
  repeat apply hset
  exact .refl s

theorem linkLost_cway (s : State) : s.linkLost.cway = { s.cway with
    chans := s.classesCut.cway.chans, chOk := 0, thLinkSeen := false, th := s.linkLost.cway.th } := by
  have h (u : State) (hu : ChansMove s u) (b : Bool) (n k : Nat) : ({ u.cway with chOk := n, thLinkSeen := b, th := k } : CwayUnit) =
      { s.cway with chans := u.cway.chans, chOk := n, thLinkSeen := b, th := k } := by rw [show u.cway = _ from hu]
  exact h _ (classesCut_chansMove s) ..

/-- A linked partner that is lost (R341, R342). -/
theorem enterAbsent_enters {arg : Nat} (h : s.linked = true) :
    (s.enterAbsent arg).cway.partner = .absent ∧ (s.enterAbsent arg).cway.chOk = 0 ∧
      (s.enterAbsent arg).cway.gen = (s.cway.gen + 1) % 32 ∧
      (s.enterAbsent arg).cway.absentEvents = satInc 18 s.cway.absentEvents ∧ (s.enterAbsent arg).chan .down .state = {} := by
  have hne : s.linkLost.cway.partner ≠ .absent := by
    rw [linkLost_cway]
    intro he
    have hs : s.cway.partner = .absent := he
    simp [linked, fieldAbsent, hs] at h
  have hentered := partnerEnter_cway s.linkLost hne
  have hmet := lossMet_countsAbsent (s.linkLost.partnerEnter .absent) s.lostFrames
  have htold (u : State) : (u.absentTold arg).cway = { u.cway with absentEvents := satInc 18 u.cway.absentEvents } := rfl
  rw [CountsAbsent, hentered] at hmet
  rw [enterAbsent_of_linked h, chan, htold, hmet, linkLost_cway]
  exact ⟨rfl, rfl, rfl, rfl, classesCut_chan s⟩

/-! ## Channels that fail (R340, R341) -/

theorem linked_of_up (h : s.cway.partner = .up) : s.linked = true := by simp [linked, fieldAbsent, h]

/-- One channel that fails takes its pair with it. -/
theorem channelsFail_one {arg : Nat} (hpartner : s.cway.partner = .up) (hall : s.cway.chOk = 15) :
    s.channelsFail 1 arg = (partnerEnter { s with cway := { s.cway with chOk := 14 } } .single).emitOwn 0o131003 0 0 0 := by
  have hmask : maskOf 4 (fun i => s.cway.chOk.testBit i && !Nat.testBit 1 i) = 14 := by
    rw [hall]
    decide
  have hhit : firstBelow 2 (fun k => s.pairGood k && !(Nat.testBit 14 k && Nat.testBit 14 (k + 2))) = some 0 := by
    simp only [pairGood, hall]
    decide
  unfold channelsFail
  dsimp only
  rw [hmask, hhit]
  simp [hpartner, linked, fieldAbsent, pairGood, show Nat.testBit 14 1 = true by decide, show Nat.testBit 14 3 = true by decide]

theorem channelsFail_all {arg : Nat} (hpartner : s.cway.partner = .up) (hall : s.cway.chOk = 15) :
    s.channelsFail 15 arg = enterAbsent { s with cway := { s.cway with chOk := 0 } } arg := by
  have hmask : maskOf 4 (fun i => s.cway.chOk.testBit i && !Nat.testBit 15 i) = 0 := by
    rw [hall]
    decide
  unfold channelsFail
  rw [hmask]
  simp [hpartner, linked, fieldAbsent, pairGood]

end
end State

/-! ## The commands of the partner (Table 14.3) -/

section
variable {s : State} {pair : Fin 2}

theorem trainAligned_trains (hpartner : s.cway.partner = .absent) (hstarted : s.start.linkStarted = true)
    (hruns : s.vergeRuns = true) (hreplay : s.replayMode = false) :
    ∃ t, exec .trainAligned s = .next t ∧ t.cway.partner = .training ∧ t.cway.gen = (s.cway.gen + 1) % 32 := by
  have hruns' : s.clear.vergeRuns = true := hruns
  have hreplay' : s.clear.replayMode = false := hreplay
  obtain ⟨t, ht, -, hsame⟩ := exec_reaches (s := s) (i := .trainAligned) (u := s.clear.partnerEnter .training) rfl
    (by simp [hpartner, hstarted, hruns', hreplay'])
  have hcway := (hsame .cway (by decide) rfl).trans (State.partnerEnter_cway s.clear (by simp [hpartner]))
  exact ⟨t, ht, by rw [hcway], by rw [hcway]; rfl⟩

theorem trainingTimeout_absent (hpartner : s.cway.partner = .training) (hreplay : s.replayMode = false) :
    ∃ t, exec .trainingTimeout s = .next t ∧ t.cway.partner = .absent ∧ t.cway.gen = (s.cway.gen + 1) % 32 := by
  have hreplay' : s.clear.replayMode = false := hreplay
  obtain ⟨t, ht, -, hsame⟩ := exec_reaches (s := s) (i := .trainingTimeout) (u := s.clear.partnerEnter .absent) rfl
    (by simp [hpartner, hreplay'])
  have hcway := (hsame .cway (by decide) rfl).trans (State.partnerEnter_cway s.clear (by simp [hpartner]))
  exact ⟨t, ht, by rw [hcway], by rw [hcway]; rfl⟩

/-- What a heartbeat does at the host (R340, R344). -/
def State.heartbeatHeard (s : State) (fault : MsgFault) : State :=
  match fault with
  | .crc => { s with cway := { s.cway with crcErr := satInc 36 s.cway.crcErr } }.occur 34 0o004
  | .badType => { s with cway := { s.cway with badType := satInc 18 s.cway.badType } }
  | .good =>
    let training := decide (s.cway.partner = Partner.training)
    let (cause, s) := (s.occur 34 0o002).recordReset
    let s := if training then s.enterUp cause else s
    s.heardThLink

/-- A heartbeat is heard in TRAINING, and on a good channel. -/
theorem exec_heartbeatRx {fault : MsgFault} (hruns : s.vergeRuns = true) (hreplay : s.replayMode = false)
    (hheard : s.cway.partner = .training ∨ s.cway.chOk.testBit (pair.val + 2) = true) :
    ∃ t, exec (.heartbeatRx false pair fault) s = .next t ∧ t.cway = (s.clear.heartbeatHeard fault).cway := by
  have hruns' : s.clear.vergeRuns = true := hruns
  have hreplay' : s.clear.replayMode = false := hreplay
  have hears : ¬ (s.clear.replayMode || !s.clear.vergeRuns || !(decide (s.clear.cway.partner = Partner.training) ||
      s.clear.cway.chOk.testBit (if false then pair.val else pair.val + 2))) = true := by
    obtain h | h := hheard <;> simp [hruns', hreplay', h]
  obtain ⟨t, ht, -, hsame⟩ := exec_reaches (s := s) (i := .heartbeatRx false pair fault) (u := s.clear.heartbeatHeard fault) rfl
    ((if_neg hears).trans (by cases fault <;> rfl))
  exact ⟨t, ht, hsame .cway (by decide) rfl⟩

theorem heartbeatRx_enters (hpartner : s.cway.partner = .training) (hruns : s.vergeRuns = true) (hreplay : s.replayMode = false) :
    ∃ t, exec (.heartbeatRx false pair .good) s = .next t ∧
      t.cway.partner = .up ∧ t.cway.gen = (s.cway.gen + 1) % 32 ∧ t.cway.chOk = 15 := by
  obtain ⟨t, ht, hcway⟩ := exec_heartbeatRx (pair := pair) (fault := .good) hruns hreplay (.inl hpartner)
  have hrecorded := State.recordReset_partner (s.clear.occur 34 0o002)
  have hheard : s.clear.heartbeatHeard .good =
      State.heardThLink ((s.clear.occur 34 0o002).recordReset.2.enterUp (s.clear.occur 34 0o002).recordReset.1) := by
    simp [State.heartbeatHeard, hpartner]
  have hup := State.enterUp_enters (s := (s.clear.occur 34 0o002).recordReset.2) (arg := (s.clear.occur 34 0o002).recordReset.1)
    (by rw [hrecorded.1]; exact fun h => absurd (hpartner.symm.trans h) (by decide))
  rw [hrecorded.2] at hup
  refine ⟨t, ht, ?_⟩
  rw [hcway, hheard, State.heardThLink_partner, State.heardThLink_gen, State.heardThLink_chOk]
  exact hup

theorem heartbeatRx_counts_crc (hpartner : s.cway.partner = .up) (hgood : s.cway.chOk.testBit (pair.val + 2) = true)
    (hruns : s.vergeRuns = true) (hreplay : s.replayMode = false) :
    ∃ t, exec (.heartbeatRx false pair .crc) s = .next t ∧ t.cway.crcErr = satInc 36 s.cway.crcErr ∧ t.cway.partner = .up := by
  obtain ⟨t, ht, hcway⟩ := exec_heartbeatRx (fault := .crc) hruns hreplay (.inr hgood)
  exact ⟨t, ht, by rw [hcway]; rfl, by rw [hcway]; exact hpartner⟩

theorem heartbeatRx_meets_reset (hpartner : s.cway.partner = .up) (hgood : s.cway.chOk.testBit (pair.val + 2) = true)
    (hruns : s.vergeRuns = true) (hreplay : s.replayMode = false) (hflag : s.verge.resetFlag = true)
    (hseen : s.cway.seen = false) (hmet : s.cway.resetMet = true) :
    ∃ t, exec (.heartbeatRx false pair .good) s = .next t ∧
      t.cway.seen = true ∧ t.cway.lastCause = s.verge.cause ∧ t.cway.restarts = satInc 15 s.cway.restarts := by
  obtain ⟨t, ht, hcway⟩ := exec_heartbeatRx (fault := .good) hruns hreplay (.inr hgood)
  have hrecorded : (s.clear.occur 34 0o002).recordReset = (s.verge.cause, { s.clear.occur 34 0o002 with cway := { s.cway with
      seen := true, lastCause := s.verge.cause, restarts := satInc 15 s.cway.restarts } }) := by
    simp [State.recordReset, hflag, hseen, hmet, State.occur, State.occurs, State.note]
  have hheard : s.clear.heartbeatHeard .good = State.heardThLink { s.clear.occur 34 0o002 with cway := { s.cway with
      seen := true, lastCause := s.verge.cause, restarts := satInc 15 s.cway.restarts } } := by
    simp [State.heartbeatHeard, hpartner, hrecorded]
  rw [hheard, State.heardThLink_cway] at hcway
  exact ⟨t, ht, by rw [hcway], by rw [hcway], by rw [hcway]⟩

/-- The host's heartbeat that has met the reset clears its flag (R344). -/
theorem heartbeatRx_clears_reset (hgood : s.cway.chOk.testBit pair.val = true) (hseen : s.cway.seen = true)
    (hruns : s.vergeRuns = true) (hreplay : s.replayMode = false) :
    ∃ t, exec (.heartbeatRx true pair .good) s = .next t ∧ t.verge = { s.verge with resetFlag := false } := by
  have hruns' : s.clear.vergeRuns = true := hruns
  have hreplay' : s.clear.replayMode = false := hreplay
  obtain ⟨t, ht, -, hsame⟩ := exec_reaches (s := s) (i := .heartbeatRx true pair .good)
    (u := { s.clear with verge := { s.verge with resetFlag := false } }) rfl (by simp [hruns', hreplay', hgood, hseen])
  exact ⟨t, ht, hsame .verge (by decide) rfl⟩

theorem heartbeatDue_host (hpartner : s.cway.partner ≠ .absent) :
    ∃ t, exec (.heartbeatDue false) s = .next t ∧ t.cway = { s.cway with hbHost := (s.cway.hbHost + 1) % 2 ^ 18 } := by
  obtain ⟨t, ht, -, hsame⟩ := exec_reaches (s := s) (i := .heartbeatDue false) rfl (if_neg hpartner)
  exact ⟨t, ht, hsame .cway (by decide) rfl⟩

theorem heartbeatDue_verge (hpartner : s.cway.partner ≠ .absent) :
    ∃ t, exec (.heartbeatDue true) s = .next t ∧ t.cway = { s.cway with hbVerge := (s.cway.hbVerge + 1) % 2 ^ 18 } := by
  obtain ⟨t, ht, -, hsame⟩ := exec_reaches (s := s) (i := .heartbeatDue true) rfl (if_neg hpartner)
  exact ⟨t, ht, hsame .cway (by decide) rfl⟩

theorem channelFail_single (hpartner : s.cway.partner = .up) (hall : s.cway.chOk = 15) (hreplay : s.replayMode = false) :
    ∃ t, exec (.channelFail 1) s = .next t ∧
      t.cway.partner = .single ∧ t.cway.chOk = 14 ∧ t.cway.gen = (s.cway.gen + 1) % 32 := by
  have hgoes : (s.clear.linked && !s.clear.replayMode) = true := by
    rw [show s.clear.linked = true from State.linked_of_up hpartner, show s.clear.replayMode = false from hreplay]
    rfl
  obtain ⟨t, ht, -, hsame⟩ := exec_reaches (s := s) (i := .channelFail 1) rfl
    ((if_pos hgoes).trans (State.channelsFail_one (s := s.clear) hpartner hall))
  have hcway := (hsame .cway (by decide) rfl).trans
    (State.partnerEnter_cway { s.clear with cway := { s.cway with chOk := 14 } } (p := .single) (by simp [hpartner]))
  exact ⟨t, ht, by rw [hcway], by rw [hcway], by rw [hcway]⟩

theorem channelFail_absent (hpartner : s.cway.partner = .up) (hall : s.cway.chOk = 15) (hreplay : s.replayMode = false) :
    ∃ t, exec (.channelFail 15) s = .next t ∧
      t.cway.partner = .absent ∧ t.cway.chOk = 0 ∧ t.cway.gen = (s.cway.gen + 1) % 32 ∧
      t.cway.absentEvents = satInc 18 s.cway.absentEvents ∧ t.chan .down .state = {} := by
  have hgoes : (s.clear.linked && !s.clear.replayMode) = true := by
    rw [show s.clear.linked = true from State.linked_of_up hpartner, show s.clear.replayMode = false from hreplay]
    rfl
  obtain ⟨t, ht, -, hsame⟩ := exec_reaches (s := s) (i := .channelFail 15) rfl
    ((if_pos hgoes).trans (State.channelsFail_all (s := s.clear) hpartner hall))
  have hcway := hsame .cway (by decide) rfl
  refine ⟨t, ht, ?_⟩
  rw [State.chan_congr hcway, show t.cway = _ from hcway]
  exact State.enterAbsent_enters (s := { s.clear with cway := { s.cway with chOk := 0 } }) (State.linked_of_up hpartner)

theorem retrainTimer_enters (hpartner : s.cway.partner = .single) (hreplay : s.replayMode = false) :
    ∃ t, exec (.retrainTimer true) s = .next t ∧
      t.cway.partner = .up ∧ t.cway.gen = (s.cway.gen + 1) % 32 ∧ t.cway.chOk = 15 := by
  have hreplay' : s.clear.replayMode = false := hreplay
  obtain ⟨t, ht, -, hsame⟩ := exec_reaches (s := s) (i := .retrainTimer true) (u := s.clear.enterUp 0) rfl
    (by simp [hpartner, hreplay'])
  refine ⟨t, ht, ?_⟩
  rw [show t.cway = _ from hsame .cway (by decide) rfl]
  exact State.enterUp_enters (s := s.clear) (fun h => absurd (hpartner.symm.trans h) (by decide))

end

/-- Settles O28, one lemma for each change of the partner, and for each heartbeat. -/
theorem partnerStatesComplete : Obligations.PartnerStatesComplete :=
  ⟨fun _ hpartner hstarted hruns hreplay => trainAligned_trains hpartner hstarted hruns hreplay,
    fun _ hpartner hreplay => trainingTimeout_absent hpartner hreplay,
    fun _ _ hpartner hruns hreplay => heartbeatRx_enters hpartner hruns hreplay,
    fun _ _ hpartner hgood hruns hreplay => heartbeatRx_counts_crc hpartner hgood hruns hreplay,
    fun _ _ hpartner hgood hruns hreplay hflag hseen hmet => heartbeatRx_meets_reset hpartner hgood hruns hreplay hflag hseen hmet,
    fun _ _ _ hgood hseen hruns hreplay => heartbeatRx_clears_reset hgood hseen hruns hreplay,
    fun _ hpartner => heartbeatDue_host hpartner,
    fun _ hpartner => heartbeatDue_verge hpartner,
    fun _ hpartner hall hreplay => channelFail_single hpartner hall hreplay,
    fun _ hpartner hall hreplay => channelFail_absent hpartner hall hreplay,
    fun _ hpartner hreplay => retrainTimer_enters hpartner hreplay⟩

end Sys2Proof.Machine

namespace Sys2Proof.Machine
namespace State

/-! ## The legal log and the metrology state (R416 to R418, R421, Table 16.3) -/

/-- Between two states entries have been written, or counted as lost, in the legal log: nothing else has changed. -/
def Logs (s t : State) : Prop :=
  t = { s with toll := { s.toll with
    logSeq := t.toll.logSeq, chainLog := t.toll.chainLog, reports := t.toll.reports, logOverflow := t.toll.logOverflow } }

/-- Between two states the metrology state may have changed as well, with its causes, the FLAGS of the open interval and the
mark of VERIFY. -/
def Judges (s t : State) : Prop :=
  t = { s with toll := { s.toll with
    metro := t.toll.metro, unvCause := t.toll.unvCause, flags := t.toll.flags, verifyMark := t.toll.verifyMark
    logSeq := t.toll.logSeq, chainLog := t.toll.chainLog, reports := t.toll.reports, logOverflow := t.toll.logOverflow } }

namespace Logs

variable {s t u : State}

theorem refl (s : State) : Logs s s := rfl

theorem trans (h : Logs s t) (h' : Logs t u) : Logs s u := by
  calc u = _ := h'
    _ = _ := by rw [h]

theorem judges (h : Logs s t) : Judges s t := by
  calc t = _ := h
    _ = _ := by rw [h]

theorem metro (h : Logs s t) : t.toll.metro = s.toll.metro := by rw [h]
theorem unvCause (h : Logs s t) : t.toll.unvCause = s.toll.unvCause := by rw [h]
theorem verifyMark (h : Logs s t) : t.toll.verifyMark = s.toll.verifyMark := by rw [h]
theorem authority (h : Logs s t) : t.toll.authority = s.toll.authority := by rw [h]

end Logs

namespace Judges

variable {s t u : State}

theorem refl (s : State) : Judges s s := rfl

theorem trans (h : Judges s t) (h' : Judges t u) : Judges s u := by
  calc u = _ := h'
    _ = _ := by rw [h]

/-- A part of the Tollhouse that no judgement of its state changes. -/
theorem part {α : Type} (h : Judges s t) (part : TollUnit → α) (hpart : ∀ (v : TollUnit) (m : Metro) (c f : Nat) (b : Bool)
    (n k o : Nat) (r : List TollReport), part { v with
      metro := m, unvCause := c, flags := f, verifyMark := b, logSeq := n, chainLog := k, reports := r, logOverflow := o } = part v) :
    part t.toll = part s.toll := by
  rw [h]
  exact hpart ..

theorem now (h : Judges s t) : t.now = s.now := by rw [h]

end Judges

section
variable (s : State)

theorem writeLog_logs (t e point : Nat) (arg : List Word) : Logs s (s.writeLog t e point arg) := by
  unfold writeLog
  dsimp only
  split <;> rfl

theorem flagInterval_judges (f : Nat) : Judges s (s.flagInterval f) := rfl

/-- An entry adds one to the unacknowledged entries, at most. -/
theorem writeLog_logUnacked_le (t e point : Nat) (arg : List Word) : (s.writeLog t e point arg).logUnacked ≤ s.logUnacked + 1 := by
  unfold writeLog
  dsimp only
  split
  · exact Nat.le_succ _
  · simp [logUnacked]

theorem logFull_eq_false_iff : s.logFull = false ↔ s.logUnacked < 8192 := by simp [logFull]

variable {s} {m : Metro} {t : Nat} {entry : State → State}

/-- The state in which METRO_STATE is another and the entry of its cause has been written. -/
def metroEntered (s : State) (m : Metro) (entry : State → State) : State :=
  let s := { s with toll := { s.toll with metro := m } }
  entry (if m = Metro.verified then s else s.flagInterval 0o40)

theorem metroBecomes_eq (s : State) (t : Nat) (m : Metro) (entry : State → State) : s.metroBecomes t m entry =
    if s.toll.metro = m then s.metroEntered m entry
    else (s.metroEntered m entry).writeLog t 0o155023 0
      [0, 0, BitVec.ofNat 18 (s.metroEntered m entry).toll.unvCause, BitVec.ofNat 18 (8 * s.toll.metro.code + m.code)] := rfl

theorem metroEntered_enters (hentry : ∀ s, Logs s (entry s)) : Judges s (s.metroEntered m entry) ∧
    (s.metroEntered m entry).toll.metro = m ∧ (s.metroEntered m entry).toll.unvCause = s.toll.unvCause ∧
    (s.metroEntered m entry).toll.verifyMark = s.toll.verifyMark := by
  let u : State := { s with toll := { s.toll with metro := m } }
  have hbefore : Judges s (if m = Metro.verified then u else u.flagInterval 0o40) ∧
      (if m = Metro.verified then u else u.flagInterval 0o40).toll.metro = m ∧
      (if m = Metro.verified then u else u.flagInterval 0o40).toll.unvCause = s.toll.unvCause ∧
      (if m = Metro.verified then u else u.flagInterval 0o40).toll.verifyMark = s.toll.verifyMark := by
    split <;> exact ⟨rfl, rfl, rfl, rfl⟩
  have h := hentry (if m = Metro.verified then u else u.flagInterval 0o40)
  exact ⟨hbefore.1.trans h.judges, h.metro.trans hbefore.2.1, h.unvCause.trans hbefore.2.2.1, h.verifyMark.trans hbefore.2.2.2⟩

/-- METRO_STATE becomes what it is to become, and its causes stand. -/
theorem metroBecomes_enters (hentry : ∀ s, Logs s (entry s)) : Judges s (s.metroBecomes t m entry) ∧
    (s.metroBecomes t m entry).toll.metro = m ∧ (s.metroBecomes t m entry).toll.unvCause = s.toll.unvCause ∧
    (s.metroBecomes t m entry).toll.verifyMark = s.toll.verifyMark := by
  have h := metroEntered_enters (s := s) (m := m) hentry
  rw [metroBecomes_eq]
  split
  · exact h
  · have hlog := writeLog_logs (s.metroEntered m entry) t 0o155023 0
      [0, 0, BitVec.ofNat 18 (s.metroEntered m entry).toll.unvCause, BitVec.ofNat 18 (8 * s.toll.metro.code + m.code)]
    exact ⟨h.1.trans hlog.judges, hlog.metro.trans h.2.1, hlog.unvCause.trans h.2.2.1, hlog.verifyMark.trans h.2.2.2⟩

theorem metroBecomes_logUnacked_le (hentry : ∀ s : State, (entry s).logUnacked ≤ s.logUnacked + 1) :
    (s.metroBecomes t m entry).logUnacked ≤ s.logUnacked + 2 := by
  have h : (s.metroEntered m entry).logUnacked ≤ s.logUnacked + 1 := by
    refine (hentry _).trans (Nat.add_le_add_right (le_of_eq ?_) 1)
    split <;> rfl
  rw [metroBecomes_eq]
  split
  · exact h.trans (Nat.le_succ _)
  · exact (writeLog_logUnacked_le ..).trans (Nat.add_le_add_right h 1)

theorem settleLog_of_ne_verified (h : s.toll.metro ≠ .verified) (t : Nat) : s.settleLog t = s := by
  simp [settleLog, h]

theorem settleLog_of_not_full (h : s.logFull = false) (t : Nat) : s.settleLog t = s := by
  simp [settleLog, h]

/-- A cause of UNVERIFIED is kept in UNV_CAUSE. -/
def causeKept (s : State) (bit : Nat) : State := { s with toll := { s.toll with unvCause := s.toll.unvCause ||| bit } }

/-- A cause of UNVERIFIED ends VERIFIED, and is kept (Table 16.3). -/
theorem metroCause_of_verified {bit : Nat} (hverified : s.toll.metro = .verified) :
    s.metroCause t bit entry = (s.causeKept bit).metroBecomes t .unverified entry := by
  simp [metroCause, causeKept, hverified]

theorem metroCause_judges {bit : Nat} (hentry : ∀ s, Logs s (entry s)) : Judges s (s.metroCause t bit entry) := by
  have h (u : State) (hu : Judges s u) : Judges s (u.metroBecomes t (if u.toll.metro = .verified then .unverified else u.toll.metro)
      entry) := hu.trans (metroBecomes_enters hentry).1
  unfold metroCause
  refine h _ ?_
  split <;> rfl

theorem settleLog_judges (t : Nat) : Judges s (s.settleLog t) := by
  unfold settleLog
  split
  · exact metroCause_judges .refl
  · exact .refl s

/-- A full log makes UNVERIFIED of VERIFIED, and changes no other state (R418). -/
theorem settleLog_metro (t : Nat) : (s.settleLog t).toll.metro = s.toll.metro ∨ (s.settleLog t).toll.metro = .unverified := by
  by_cases h : s.logFull = true ∧ s.toll.metro = .verified
  · refine .inr ?_
    have heq : s.settleLog t = s.metroCause t 0 id := by simp [settleLog, h]
    rw [heq, metroCause_of_verified h.2]
    exact (metroBecomes_enters .refl).2.1
  · refine .inl ?_
    have heq : s.settleLog t = s := by simpa [settleLog] using fun hf hv => absurd ⟨hf, hv⟩ h
    rw [heq]

theorem tollLog_judges (t e point : Nat) (arg : List Word) : Judges s (s.tollLog t e point arg) :=
  (writeLog_logs ..).judges.trans (settleLog_judges _)

theorem tollLog_of_ne_verified (h : s.toll.metro ≠ .verified) (t e point : Nat) (arg : List Word) :
    s.tollLog t e point arg = s.writeLog t e point arg :=
  settleLog_of_ne_verified (by rwa [(writeLog_logs ..).metro]) t

theorem tollLog_metro (t e point : Nat) (arg : List Word) :
    (s.tollLog t e point arg).toll.metro = s.toll.metro ∨ (s.tollLog t e point arg).toll.metro = .unverified := by
  have h := settleLog_metro (s := s.writeLog t e point arg) t
  rwa [(writeLog_logs ..).metro] at h

/-- A cause of UNVERIFIED with its entry ends VERIFIED. -/
theorem tollCause_of_verified {bit e e9 : Nat} (hverified : s.toll.metro = .verified) :
    Judges s (s.tollCause bit e e9) ∧ (s.tollCause bit e e9).toll.metro = .unverified ∧
      (s.tollCause bit e e9).toll.unvCause = s.toll.unvCause ||| bit := by
  obtain ⟨hjudges, hmetro, hcause, -⟩ := metroBecomes_enters
    (s := s.causeKept bit) (m := .unverified) (t := s.legalTime)
    (entry := fun u => u.writeLog s.legalTime e 0 (argE9 e9)) (fun u => writeLog_logs u ..)
  have heq : s.tollCause bit e e9 = (s.causeKept bit).metroBecomes s.legalTime .unverified
      (fun u => u.writeLog s.legalTime e 0 (argE9 e9)) := by
    unfold tollCause
    dsimp only
    rw [metroCause_of_verified hverified, settleLog_of_ne_verified (by rw [hmetro]; decide)]
  rw [heq]
  exact ⟨.trans (t := s.causeKept bit) rfl hjudges, hmetro, hcause⟩

theorem tollCause_judges (bit e e9 : Nat) : Judges s (s.tollCause bit e e9) :=
  (metroCause_judges (fun u => writeLog_logs u ..)).trans (settleLog_judges _)

/-- HALTED is entered with its entry (Table 16.2). -/
theorem tollHalt_halts (step : Nat) : Judges s (s.tollHalt step) ∧ (s.tollHalt step).toll.metro = .halted := by
  obtain ⟨hjudges, hmetro, -⟩ := metroBecomes_enters (s := s) (m := .halted) (t := s.legalTime)
    (entry := fun u => u.writeLog s.legalTime 0o155025 0 (argE9 step)) (fun u => writeLog_logs u ..)
  exact ⟨hjudges, hmetro⟩

theorem tollHold_toll (s : State) : s.tollHold.toll = { s.toll with holdSince := s.tollHold.toll.holdSince } := rfl

/-! ## Custody closes (R399, Table 16.3) -/

/-- Custody may end in VERIFIED: by the seal, after VERIFY, with an authority and room in the log. -/
def custodyVerifies (s : State) (cause : Nat) : Bool :=
  decide (cause = 0) && s.toll.verifyMark && s.toll.authority.isSome && !s.logFull

/-- The mark of VERIFY is spent, and VERIFIED has no cause against it. -/
def markSpent (s : State) (cause : Nat) : State :=
  { s with toll := { s.toll with
    verifyMark := false, unvCause := if s.custodyVerifies cause then 0 else s.toll.unvCause } }

/-- METRO_STATE as the end of custody leaves it. -/
def custodyEnds (s : State) (cause : Nat) : State :=
  (s.markSpent cause).metroBecomes s.legalTime (if s.custodyVerifies cause then .verified else .unverified)
    (fun u => u.writeLog s.legalTime 0o155010 0 (argE9 cause))

theorem tollCloseCustody_eq (s : State) (cause : Nat) :
    s.tollCloseCustody cause = if s.toll.metro = .custody then (s.custodyEnds cause).settleLog s.legalTime else s := rfl

theorem custodyEnds_enters (cause : Nat) : Judges s (s.custodyEnds cause) ∧
    (s.custodyEnds cause).toll.metro = (if s.custodyVerifies cause then .verified else .unverified) ∧
    (s.custodyEnds cause).toll.unvCause = (s.markSpent cause).toll.unvCause ∧
    (s.custodyEnds cause).toll.verifyMark = false := by
  obtain ⟨hjudges, hmetro, hcause, hmark⟩ := metroBecomes_enters (s := s.markSpent cause)
    (m := if s.custodyVerifies cause then .verified else .unverified) (t := s.legalTime)
    (entry := fun u => u.writeLog s.legalTime 0o155010 0 (argE9 cause)) (fun u => writeLog_logs u ..)
  exact ⟨.trans (t := s.markSpent cause) rfl hjudges, hmetro, hcause, hmark⟩

theorem tollCloseCustody_judges (s : State) (cause : Nat) : Judges s (s.tollCloseCustody cause) := by
  rw [tollCloseCustody_eq]
  split
  · exact (custodyEnds_enters cause).1.trans (settleLog_judges _)
  · exact .refl s

/-- Custody that may not end in VERIFIED ends in UNVERIFIED. -/
theorem tollCloseCustody_unverified {cause : Nat} (hcustody : s.toll.metro = .custody) (hno : s.custodyVerifies cause = false) :
    (s.tollCloseCustody cause).toll.metro = .unverified ∧ (s.tollCloseCustody cause).toll.verifyMark = false := by
  obtain ⟨-, hmetro, -, hmark⟩ := custodyEnds_enters (s := s) cause
  rw [hno] at hmetro
  rw [tollCloseCustody_eq, if_pos hcustody, settleLog_of_ne_verified (by rw [hmetro]; decide)]
  exact ⟨hmetro, hmark⟩

/-- Custody that may, does so while the log has room for the two entries. -/
theorem tollCloseCustody_verified {cause : Nat} (hcustody : s.toll.metro = .custody) (hok : s.custodyVerifies cause = true)
    (hroom : s.logUnacked + 2 < 8192) :
    (s.tollCloseCustody cause).toll.metro = .verified ∧ (s.tollCloseCustody cause).toll.unvCause = 0 ∧
      (s.tollCloseCustody cause).toll.verifyMark = false := by
  obtain ⟨-, hmetro, hcause, hmark⟩ := custodyEnds_enters (s := s) cause
  have hcount : (s.custodyEnds cause).logUnacked ≤ s.logUnacked + 2 :=
    metroBecomes_logUnacked_le (s := s.markSpent cause) (fun u => writeLog_logUnacked_le u ..)
  rw [hok] at hmetro
  rw [tollCloseCustody_eq, if_pos hcustody,
    settleLog_of_not_full (logFull_eq_false_iff _ |>.mpr (lt_of_le_of_lt hcount hroom)), hcause]
  exact ⟨hmetro, if_pos hok, hmark⟩

end
end State
end Sys2Proof.Machine

namespace Sys2Proof.Machine
namespace State

/-! ## The Tollhouse speaks (R347, R348) -/

/-- Between two states the Tollhouse may have kept and sent messages: its reports may have taken a TH_SEQ. -/
def Speaks (s t : State) : Prop :=
  t = { s with
    toll := { s.toll with thSeq := t.toll.thSeq, kept := t.toll.kept, reports := t.toll.reports }
    cway := { s.cway with chans := t.cway.chans }, sent := t.sent, notes := t.notes }

namespace Speaks

variable {s t u : State}

theorem refl (s : State) : Speaks s s := rfl

theorem trans (h : Speaks s t) (h' : Speaks t u) : Speaks s u := by
  calc u = _ := h'
    _ = _ := by rw [h]

theorem foldl {α : Type} {f : State → α → State} (hf : ∀ s x, Speaks s (f s x)) (l : List α) (s : State) :
    Speaks s (l.foldl f s) :=
  List.foldlRecOn l f (motive := Speaks s) (refl s) (fun _ h x _ => h.trans (hf _ x))

theorem ite {c : Prop} [Decidable c] (ht : Speaks s t) (hu : Speaks s u) : Speaks s (if c then t else u) := by
  split
  · exact ht
  · exact hu

theorem of_transports (h : Transports s t) : Speaks s t := by
  calc t = _ := h
    _ = _ := by rw [h]

end Speaks

section
variable (s : State)

theorem tollSend_transports (m : Msg) : Transports s (s.tollSend m) := .ite (sendMsg_transports ..) (.refl s)

theorem tollSend_speaks (m : Msg) : Speaks s (s.tollSend m) := .of_transports (tollSend_transports ..)

theorem tollKeep_speaks (m : Nat → Msg) : Speaks s (s.tollKeep m) :=
  .trans (t := { s with toll := { s.toll with
    thSeq := s.toll.thSeq % 262143 + 1, kept := s.toll.kept ++ [m (s.toll.thSeq % 262143 + 1)] } }) rfl (tollSend_speaks ..)

/-- TH_HELLO comes first among what is kept. -/
def helloKept : State :=
  let n := s.toll.thSeq % 262143 + 1
  { s with toll := { s.toll with thSeq := n, kept := .thHello n identityBlock :: s.toll.kept } }

/-- A signed report that has no TH_SEQ takes one, and is kept. -/
def reportKept (i : Nat) : State :=
  match s.toll.reports[i]? with
  | some r =>
    if r.signature.isEmpty || r.seq ≠ 0 then s
    else
      let k := s.toll.thSeq % 262143 + 1
      { s with toll := { s.toll with
        thSeq := k, kept := s.toll.kept ++ [.logEntry k (r.words ++ r.signature)]
        reports := s.toll.reports.set i { r with seq := k } } }
  | none => s

def reportsKept : State := (List.range s.toll.reports.length).foldl reportKept s

/-- What is kept and not on its way already is sent. -/
def keptSent : State :=
  let sent := fun (c : Chan) => c.waiting ++ c.unacked.map Prod.snd
  let way := sent (s.chan .thUp .legal) ++ sent (s.chan .up .legal)
  s.toll.kept.foldl (fun s m => if way.contains m then s else s.tollSend m) s

theorem tollHello_eq : s.tollHello = s.helloKept.reportsKept.keptSent := by rfl

theorem reportKept_speaks (i : Nat) : Speaks s (s.reportKept i) := by
  unfold reportKept
  split
  · split <;> rfl
  · rfl

theorem keptSent_transports : Transports s s.keptSent :=
  List.foldlRecOn _ _ (motive := Transports s) (.refl s) (fun t h m _ => h.trans (.ite (.refl t) (tollSend_transports ..)))

theorem tollHello_speaks : Speaks s s.tollHello := by
  rw [tollHello_eq]
  exact (Speaks.trans (t := s.helloKept) rfl (.foldl reportKept_speaks _ _)).trans (.of_transports (keptSent_transports _))

end
end State

/-! ## Supply and power-up (R391 to R394) -/

section
variable {s : State} {mv : Word}

/-- A command of the Tollhouse die alone leaves it as its effect leaves it. -/
theorem exec_reaches_toll {i : Instr} {f : State → State} {u : State} (hexec : exec i s = act [.toll] s f) (h : f s.clear = u) :
    ∃ t, exec i s = .next t ∧ t.toll = u.toll := by
  obtain ⟨t, ht, -, hsame⟩ := exec_reaches hexec h
  exact ⟨t, ht, hsame .toll (by decide) rfl⟩

/-- The same for a command that the clock moves on for. -/
theorem exec_reaches_toll_later {i : Instr} {f : State → State} {u : State}
    (hexec : exec i s = act [.now, .free, .tp, .toll] s f) (h : f s.clear = u) :
    ∃ t, exec i s = .next t ∧ t.now = u.now ∧ t.toll = u.toll := by
  obtain ⟨t, ht, -, hsame⟩ := exec_reaches hexec h
  exact ⟨t, ht, hsame .now (by decide) rfl, hsame .toll (by decide) rfl⟩

theorem State.upTo_toll (s : State) (t : Nat) : (s.upTo t).toll = s.toll := by rw [State.upTo_elapses s t]

theorem thPowerOnReset_powers {onVbat : Bool} (htoll : s.isN = false) (hoff : s.toll.powered = false) :
    ∃ t, exec (.thPowerOnReset onVbat) s = .next t ∧
      t.toll.powered = true ∧ t.toll.booted = false ∧ t.toll.onBackup = onVbat ∧ t.toll.metro = s.toll.metro ∧
      t.toll.points = s.toll.points ∧ t.toll.results = [] := by
  have hstarts : ¬ (s.clear.isN || s.clear.toll.powered) = true := by simp [htoll, hoff]
  obtain ⟨t, ht, htoll⟩ := exec_reaches_toll (s := s) (i := .thPowerOnReset onVbat) rfl (if_neg hstarts)
  refine ⟨t, ht, ?_⟩
  rw [htoll]
  exact ⟨rfl, rfl, rfl, rfl, rfl, rfl⟩

/-- The Tollhouse comes up, its TIME resumed from the value last stored (R396). -/
def State.thResumed (s : State) : State :=
  let first := !s.toll.bootedOnce
  let s := { s with toll := { s.toll with booted := true, bootedOnce := true, measuredAt := s.now, savedAt := s.now } }
  let s := s.setLegal (secs s.toll.savedTime)
  if first then s.tollOpen 0 0 else if s.toll.onBackup then s.flagInterval 0o20 else s

/-- A clock that may have stopped is a cause of UNVERIFIED (R396). -/
def State.clockDoubted (s : State) : State :=
  if s.toll.metro = Metro.blank then s else { s with toll := { s.toll with unvCause := s.toll.unvCause ||| 1 } }

/-- A power-up but the first leaves VERIFIED (Table 16.3). -/
def State.poweredAgain (s : State) (t : Nat) : State :=
  (s.clockDoubted.metroBecomes t (if s.toll.metro = Metro.blank then .blank else .unverified)
    (fun s => s.writeLog t 0o155024 0 (argE9 1))).settleLog t

/-- The self check ends without a fault (Table 16.2). -/
def State.selfChecked (s : State) (first : Bool) : State :=
  let t := s.legalTime
  let s := s.tollLog t 0o155001 0 (argE9 (if first then 0 else 1))
  if first then s else s.poweredAgain t

theorem State.selfChecked_again (s : State) :
    s.selfChecked false = (s.tollLog s.legalTime 0o155001 0 (argE9 1)).poweredAgain s.legalTime := by
  unfold State.selfChecked
  dsimp only
  rw [if_neg Bool.false_ne_true, if_neg Bool.false_ne_true]

theorem exec_thSelfCheckDone (hpowered : s.toll.powered = true) (hbooted : s.toll.booted = false) :
    ∃ t, exec (.thSelfCheckDone none) s = .next t ∧
      t.toll = (s.clear.thResumed.selfChecked (!s.toll.bootedOnce)).toll := by
  have hgoes : ¬ (!s.clear.toll.powered || s.clear.toll.booted) = true := by simp [hpowered, hbooted]
  exact exec_reaches_toll (s := s) (i := .thSelfCheckDone none) rfl (if_neg hgoes)

theorem State.thResumed_booted (s : State) : s.thResumed.toll.booted = true := by
  unfold State.thResumed
  dsimp only
  split
  · rfl
  · split <;> rfl

theorem State.thResumed_again (h : s.toll.bootedOnce = true) : s.thResumed.toll.booted = true ∧
    s.thResumed.toll.metro = s.toll.metro ∧ s.thResumed.toll.timeBase = secs s.toll.savedTime ∧
    s.thResumed.toll.timeAt = s.now := by
  unfold State.thResumed
  rw [h]
  dsimp only
  split
  · next hno => exact absurd hno (by decide)
  · split <;> exact ⟨rfl, rfl, rfl, rfl⟩

theorem State.poweredAgain_unverified {t : Nat} (h : s.toll.metro ≠ .blank) :
    State.Judges s (s.poweredAgain t) ∧ (s.poweredAgain t).toll.metro = .unverified := by
  have hdoubted : State.Judges s s.clockDoubted := by
    unfold State.clockDoubted
    split <;> rfl
  obtain ⟨hjudges, hmetro, -⟩ := State.metroBecomes_enters (s := s.clockDoubted) (m := .unverified) (t := t)
    (entry := fun s => s.writeLog t 0o155024 0 (argE9 1)) (fun u => State.writeLog_logs u ..)
  rw [State.poweredAgain, if_neg h, State.settleLog_of_ne_verified (by rw [hmetro]; decide)]
  exact ⟨hdoubted.trans hjudges, hmetro⟩

theorem thSelfCheckDone_unverified (hpowered : s.toll.powered = true) (hbooted : s.toll.booted = false)
    (hagain : s.toll.bootedOnce = true) (hmetro : s.toll.metro ≠ .blank) :
    ∃ t, exec (.thSelfCheckDone none) s = .next t ∧
      t.toll.booted = true ∧ t.toll.metro = .unverified ∧ t.toll.timeBase = secs s.toll.savedTime ∧ t.toll.timeAt = s.now := by
  obtain ⟨t, ht, htoll⟩ := exec_thSelfCheckDone hpowered hbooted
  obtain ⟨hup, hstate, hbase, hat⟩ := State.thResumed_again (s := s.clear) hagain
  rw [hagain] at htoll
  generalize s.clear.thResumed = u at htoll hup hstate hbase hat
  have hlogged : State.Judges u (u.tollLog u.legalTime 0o155001 0 (argE9 1)) := State.tollLog_judges ..
  have hblank : (u.tollLog u.legalTime 0o155001 0 (argE9 1)).toll.metro ≠ .blank := by
    obtain h | h := State.tollLog_metro (s := u) u.legalTime 0o155001 0 (argE9 1)
    · rw [h, hstate]
      exact hmetro
    · rw [h]
      decide
  obtain ⟨hpoweredAgain, hunverified⟩ := State.poweredAgain_unverified (t := u.legalTime) hblank
  rw [Bool.not_true, State.selfChecked_again] at htoll
  have hjudges := hlogged.trans hpoweredAgain
  refine ⟨t, ht, ?_⟩
  rw [htoll, hunverified, hjudges.part TollUnit.booted (fun _ _ _ _ _ _ _ _ _ => rfl),
    hjudges.part TollUnit.timeBase (fun _ _ _ _ _ _ _ _ _ => rfl), hjudges.part TollUnit.timeAt (fun _ _ _ _ _ _ _ _ _ => rfl)]
  exact ⟨hup, rfl, hbase, hat⟩

theorem thSelfCheckDone_halts {k : Fin 3} (hpowered : s.toll.powered = true) (hbooted : s.toll.booted = false) :
    ∃ t, exec (.thSelfCheckDone (some k)) s = .next t ∧ t.toll.booted = true ∧ t.toll.metro = .halted := by
  have hgoes : ¬ (!s.clear.toll.powered || s.clear.toll.booted) = true := by simp [hpowered, hbooted]
  obtain ⟨hjudges, hhalted⟩ := State.tollHalt_halts (s := s.clear.thResumed) (k.val + 3)
  obtain ⟨t, ht, htoll⟩ := exec_reaches_toll (s := s) (i := .thSelfCheckDone (some k)) (u := s.clear.thResumed.tollHalt (k.val + 3))
    rfl (if_neg hgoes)
  refine ⟨t, ht, ?_, by rw [htoll, hhalted]⟩
  rw [htoll, hjudges.part TollUnit.booted (fun _ _ _ _ _ _ _ _ _ => rfl)]
  exact State.thResumed_booted _

theorem thSwitchToVbat_switches (hbooted : s.toll.booted = true) (hpowered : s.toll.powered = true)
    (hmain : s.toll.onBackup = false) :
    ∃ t, exec (.thSwitchToVbat mv) s = .next t ∧
      t.toll.onBackup = true ∧ t.toll.vbatMv = mv.toNat ∧ t.toll.holdSince = none := by
  let u : State := State.flagInterval { s.clear with toll := { s.toll with
    onBackup := true, holdSince := none, vbatMv := mv.toNat } } 0o20
  obtain ⟨t, ht, htoll⟩ := exec_reaches_toll (s := s) (i := .thSwitchToVbat mv)
    (u := (u.tollLog u.legalTime 0o155002 0 (argE9 mv.toNat)).tollCloseCustody 3) rfl (by simp [hbooted, hpowered, hmain, u])
  have hjudges := (State.tollLog_judges (s := u) u.legalTime 0o155002 0 (argE9 mv.toNat)).trans (State.tollCloseCustody_judges _ 3)
  rw [hjudges] at htoll
  refine ⟨t, ht, ?_⟩
  rw [htoll]
  exact ⟨rfl, rfl, rfl⟩

theorem thReturnToVt33_returns (hbooted : s.toll.booted = true) (hbackup : s.toll.onBackup = true) :
    ∃ t, exec (.thReturnToVt33 mv) s = .next t ∧ t.toll.onBackup = false ∧ t.toll.vbatMv = mv.toNat := by
  let u : State := State.tollHold { s.clear with toll := { s.toll with onBackup := false, vbatMv := mv.toNat } }
  let v : State := u.tollLog u.legalTime 0o155003 0 (argE9 mv.toNat)
  obtain ⟨t, ht, -, hsame⟩ := exec_reaches (s := s) (i := .thReturnToVt33 mv)
    (u := if v.wayOpen .thUp then v.tollHello else v) rfl (by simp [hbooted, hbackup, u, v])
  have hspeaks : State.Speaks v (if v.wayOpen .thUp then v.tollHello else v) := .ite (State.tollHello_speaks v) (.refl v)
  have hlogs : State.Judges u v := State.tollLog_judges ..
  have htoll := hsame .toll (by decide) rfl
  have hu : u.toll.onBackup = false ∧ u.toll.vbatMv = mv.toNat := ⟨rfl, rfl⟩
  refine ⟨t, ht, ?_⟩
  rw [show t.toll = _ from htoll, hspeaks]
  exact ⟨(hlogs.part TollUnit.onBackup (fun _ _ _ _ _ _ _ _ _ => rfl)).trans hu.1,
    (hlogs.part TollUnit.vbatMv (fun _ _ _ _ _ _ _ _ _ => rfl)).trans hu.2⟩

theorem thSupplyLoss_stops :
    ∃ t, exec .thSupplyLoss s = .next t ∧
      t.toll = { s.toll with powered := false, booted := false, onBackup := false, holdSince := none } :=
  exec_reaches_toll (s := s) (i := .thSupplyLoss) rfl rfl

/-- The cell is measured at a time, and what a low one leads to (R393, R394). -/
def State.cellStep (s : State) (mv x : Nat) : State :=
  let s := s.upTo x
  let low := decide (mv < 3100)
  let s := { s with toll := { s.toll with measuredAt := s.now, vbatMv := mv, batLow := low } }
  let day := s.legalTime / 86400
  if !low then s
  else if s.toll.onBackup then s.tollCause 2 0o155011 mv
  else if s.toll.lowDay = some day then s
  else { s with toll := { s.toll with lowDay := some day } }.tollLog s.legalTime 0o155011 0 (argE9 mv)

/-- The state in which the cell has been measured. -/
def State.cellMeasured (s : State) (mv x : Nat) : State :=
  let s := s.upTo x
  { s with toll := { s.toll with measuredAt := s.now, vbatMv := mv, batLow := decide (mv < 3100) } }

theorem State.cellMeasured_now (s : State) (mv x : Nat) : (s.cellMeasured mv x).now = max s.now x := State.upTo_now ..

theorem State.cellMeasured_toll (s : State) (mv x : Nat) : (s.cellMeasured mv x).toll = { s.toll with
    measuredAt := (s.cellMeasured mv x).now, vbatMv := mv, batLow := decide (mv < 3100) } := by
  have h (u : State) (hu : u.toll = s.toll) (n : Nat) (b : Bool) :
      ({ u.toll with measuredAt := n, vbatMv := mv, batLow := b } : TollUnit) =
        { s.toll with measuredAt := n, vbatMv := mv, batLow := b } := by rw [hu]
  exact h _ (State.upTo_toll s x) ..

theorem State.cellStep_good {mv : Nat} (s : State) (x : Nat) (hmv : 3100 ≤ mv) : s.cellStep mv x = s.cellMeasured mv x :=
  if_pos (by simpa using hmv)

theorem State.cellStep_low {mv : Nat} (s : State) (x : Nat) (hmv : mv < 3100) (hbackup : s.toll.onBackup = true) :
    s.cellStep mv x = (s.cellMeasured mv x).tollCause 2 0o155011 mv := by
  have hbackup' : (s.cellMeasured mv x).toll.onBackup = true := by
    rw [State.cellMeasured_toll]
    exact hbackup
  exact (if_neg (by simpa using hmv)).trans (if_pos hbackup')

theorem exec_vbatMeasurement (hbooted : s.toll.booted = true) :
    ∃ t, exec (.vbatMeasurement mv) s = .next t ∧
      t.now = (s.clear.cellStep mv.toNat (s.toll.measuredAt + secs 60)).now ∧
      t.toll = (s.clear.cellStep mv.toNat (s.toll.measuredAt + secs 60)).toll := by
  have hruns : ¬ (!s.clear.toll.booted) = true := by simp [hbooted]
  exact exec_reaches_toll_later (s := s) (i := .vbatMeasurement mv) rfl (if_neg hruns)

theorem vbatMeasurement_good (hbooted : s.toll.booted = true) (hmv : 3100 ≤ mv.toNat) :
    ∃ t, exec (.vbatMeasurement mv) s = .next t ∧
      t.toll = { s.toll with measuredAt := t.now, vbatMv := mv.toNat, batLow := false } ∧
      t.now = max s.now (s.toll.measuredAt + secs 60) := by
  obtain ⟨t, ht, hnow, htoll⟩ := exec_vbatMeasurement (mv := mv) hbooted
  rw [State.cellStep_good _ _ hmv] at hnow htoll
  refine ⟨t, ht, ?_, ?_⟩
  · rw [htoll, hnow, State.cellMeasured_toll, decide_eq_false (Nat.not_lt.mpr hmv), State.clear_toll]
  · rw [hnow, State.cellMeasured_now, State.clear_now]

theorem vbatMeasurement_low (hbooted : s.toll.booted = true) (hbackup : s.toll.onBackup = true) (hmv : mv.toNat < 3100)
    (hverified : s.toll.metro = .verified) :
    ∃ t, exec (.vbatMeasurement mv) s = .next t ∧
      t.toll.batLow = true ∧ t.toll.metro = .unverified ∧ t.toll.unvCause = s.toll.unvCause ||| 2 := by
  obtain ⟨t, ht, -, htoll⟩ := exec_vbatMeasurement (mv := mv) hbooted
  rw [State.cellStep_low (s := s.clear) _ hmv hbackup] at htoll
  generalize s.toll.measuredAt + secs 60 = x at htoll
  have hcell := State.cellMeasured_toll s.clear mv.toNat x
  rw [State.clear_toll, decide_eq_true hmv] at hcell
  obtain ⟨hjudges, hmetro, hcause⟩ := State.tollCause_of_verified (s := s.clear.cellMeasured mv.toNat x) (bit := 2)
    (e := 0o155011) (e9 := mv.toNat) (by rw [hcell]; exact hverified)
  refine ⟨t, ht, ?_⟩
  rw [htoll, hjudges.part TollUnit.batLow (fun _ _ _ _ _ _ _ _ _ => rfl), hmetro, hcause, hcell]
  exact ⟨rfl, rfl, rfl⟩

end

/-! ## The clock (R395, R396) -/

section
variable {s : State}

theorem crystalStopped_faults (hbooted : s.toll.booted = true) (hgood : s.toll.clockFault = false)
    (hverified : s.toll.metro = .verified) :
    ∃ t, exec .crystalStopped s = .next t ∧
      t.toll.clockFault = true ∧ t.toll.metro = .unverified ∧ t.toll.unvCause = s.toll.unvCause ||| 1 := by
  let u : State := { s.clear with toll := { s.toll with clockFault := true } }
  obtain ⟨t, ht, htoll⟩ := exec_reaches_toll (s := s) (i := .crystalStopped) (u := u.tollCause 1 0o155024 0) rfl
    (by simp [hbooted, hgood, u])
  obtain ⟨hjudges, hmetro, hcause⟩ := State.tollCause_of_verified (s := u) (bit := 1) (e := 0o155024) (e9 := 0) hverified
  refine ⟨t, ht, ?_⟩
  rw [htoll, hmetro, hcause, hjudges.part TollUnit.clockFault (fun _ _ _ _ _ _ _ _ _ => rfl)]
  exact ⟨rfl, rfl, rfl⟩

theorem crystalResumed_clears :
    ∃ t, exec .crystalResumed s = .next t ∧ t.toll = { s.toll with clockFault := false } :=
  exec_reaches_toll (s := s) (i := .crystalResumed) rfl rfl

/-- TIME is stored at a time (R396). -/
def State.timeSaved (s : State) (x : Nat) : State :=
  let s := s.upTo x
  { s with toll := { s.toll with savedTime := s.legalTime, savedAt := s.now } }

/-- The store may fail. -/
def State.saveStep (s : State) (mramOk : Bool) (x : Nat) : State :=
  if mramOk || decide ((s.timeSaved x).toll.metro = Metro.halted) then s.timeSaved x else (s.timeSaved x).tollHalt 5

theorem State.timeSaved_now (s : State) (x : Nat) : (s.timeSaved x).now = max s.now x := State.upTo_now ..

theorem State.timeSaved_toll (s : State) (x : Nat) : (s.timeSaved x).toll = { s.toll with
    savedTime := (s.timeSaved x).legalTime, savedAt := (s.timeSaved x).now } := by
  have h (u : State) (hu : u.toll = s.toll) (n k : Nat) :
      ({ u.toll with savedTime := n, savedAt := k } : TollUnit) = { s.toll with savedTime := n, savedAt := k } := by rw [hu]
  exact h _ (State.upTo_toll s x) ..

theorem State.legalTime_congr {s t : State} (htoll : t.toll = s.toll) (hnow : t.now = s.now) : t.legalTime = s.legalTime := by
  rw [legalTime, legalTime, legalCycles, legalCycles, htoll, hnow]

theorem exec_timeSave {ok : Bool} (hbooted : s.toll.booted = true) :
    ∃ t, exec (.timeSave ok) s = .next t ∧ t.now = (s.clear.saveStep ok (s.toll.savedAt + secs 60)).now ∧
      t.toll = (s.clear.saveStep ok (s.toll.savedAt + secs 60)).toll := by
  have hruns : ¬ (!s.clear.toll.booted) = true := by simp [hbooted]
  exact exec_reaches_toll_later (s := s) (i := .timeSave ok) rfl (if_neg hruns)

theorem timeSave_stores (hbooted : s.toll.booted = true) :
    ∃ t, exec (.timeSave true) s = .next t ∧
      t.toll = { s.toll with savedTime := t.legalTime, savedAt := t.now } ∧ t.now = max s.now (s.toll.savedAt + secs 60) := by
  obtain ⟨t, ht, hnow, htoll⟩ := exec_timeSave (ok := true) hbooted
  have hok (x : Nat) : s.clear.saveStep true x = s.clear.timeSaved x := rfl
  rw [hok] at hnow htoll
  refine ⟨t, ht, ?_, ?_⟩
  · rw [State.legalTime_congr htoll hnow, htoll, hnow, State.timeSaved_toll, State.clear_toll]
  · rw [hnow, State.timeSaved_now, State.clear_now]

theorem timeSave_halts (hbooted : s.toll.booted = true) (hmetro : s.toll.metro ≠ .halted) :
    ∃ t, exec (.timeSave false) s = .next t ∧ t.toll.metro = .halted := by
  obtain ⟨t, ht, -, htoll⟩ := exec_timeSave (ok := false) hbooted
  generalize s.toll.savedAt + secs 60 = x at htoll
  have hmetro' : ¬ (false || decide ((s.clear.timeSaved x).toll.metro = .halted)) = true := by
    rw [State.timeSaved_toll, State.clear_toll]
    simp [hmetro]
  rw [State.saveStep, if_neg hmetro'] at htoll
  exact ⟨t, ht, by rw [htoll]; exact (State.tollHalt_halts 5).2⟩

/-- TIME stops at `base` cycles. -/
def State.timeStopped (s : State) (x base : Nat) : State :=
  let s := s.upTo x
  { s with toll := { s.toll with timeBase := base, timeAt := s.now, stopped := true } }

theorem State.timeStopped_now (s : State) (x base : Nat) : (s.timeStopped x base).now = max s.now x := State.upTo_now ..

theorem State.timeStopped_tells (s : State) (x base : Nat) :
    ((s.timeStopped x base).tollCause 1 0o155024 2).toll.stopped = true ∧
      ((s.timeStopped x base).tollCause 1 0o155024 2).toll.timeBase = base ∧
      ((s.timeStopped x base).tollCause 1 0o155024 2).now = max s.now x := by
  have hjudges : (s.timeStopped x base).Judges ((s.timeStopped x base).tollCause 1 0o155024 2) := State.tollCause_judges ..
  rw [hjudges.part TollUnit.stopped (fun _ _ _ _ _ _ _ _ _ => rfl),
    hjudges.part TollUnit.timeBase (fun _ _ _ _ _ _ _ _ _ => rfl), hjudges.now]
  exact ⟨rfl, rfl, State.timeStopped_now ..⟩

theorem timeRangeEnd_stops (hbooted : s.toll.booted = true) (hruns : s.toll.stopped = false) :
    ∃ t, exec .timeRangeEnd s = .next t ∧
      t.toll.stopped = true ∧ t.toll.timeBase = secs timeEnd ∧ t.now = max s.now (s.whenLegal timeEnd) := by
  have hgoes : ¬ (!s.clear.toll.booted || s.clear.toll.stopped) = true := by simp [hbooted, hruns]
  obtain ⟨t, ht, hnow, htoll⟩ := exec_reaches_toll_later (s := s) (i := .timeRangeEnd)
    (u := (s.clear.timeStopped (s.clear.whenLegal timeEnd) (secs timeEnd)).tollCause 1 0o155024 2) rfl (if_neg hgoes)
  have htells := State.timeStopped_tells s.clear (s.clear.whenLegal timeEnd) (secs timeEnd)
  rw [← htoll, ← hnow] at htells
  exact ⟨t, ht, htells⟩

end

/-- Settles O37, one lemma for each event of the Tollhouse's supply and clock. -/
theorem tollhouseSupplyAndClockComplete : Obligations.TollhouseSupplyAndClockComplete :=
  ⟨fun _ _ htoll hoff => thPowerOnReset_powers htoll hoff,
    fun _ hpowered hbooted hagain hmetro => thSelfCheckDone_unverified hpowered hbooted hagain hmetro,
    fun _ _ hpowered hbooted => thSelfCheckDone_halts hpowered hbooted,
    fun _ _ hbooted hpowered hmain => thSwitchToVbat_switches hbooted hpowered hmain,
    fun _ _ hbooted hbackup => thReturnToVt33_returns hbooted hbackup,
    fun _ => thSupplyLoss_stops,
    fun _ _ hbooted hmv => vbatMeasurement_good hbooted hmv,
    fun _ _ hbooted hbackup hmv hverified => vbatMeasurement_low hbooted hbackup hmv hverified,
    fun _ hbooted hgood hverified => crystalStopped_faults hbooted hgood hverified,
    fun _ => crystalResumed_clears,
    fun _ hbooted => timeSave_stores hbooted,
    fun _ hbooted hmetro => timeSave_halts hbooted hmetro,
    fun _ hbooted hruns => timeRangeEnd_stops hbooted hruns⟩

/-! ## The seal, the key and custody (R398 to R400, Table 16.3) -/

section
variable {s : State}

theorem sealLoopOpen_breaks (hbooted : s.toll.booted = true) (hclosed : s.toll.sealClosed = true)
    (hverified : s.toll.metro = .verified) :
    ∃ t, exec .sealLoopOpen s = .next t ∧
      t.toll.sealClosed = false ∧ t.toll.metro = .unverified ∧ t.toll.unvCause = s.toll.unvCause ||| 8 := by
  let u : State := { s.clear with toll := { s.toll with sealClosed := false } }
  obtain ⟨t, ht, htoll⟩ := exec_reaches_toll (s := s) (i := .sealLoopOpen) (u := (u.tollCause 8 0o155004 0).tollHold) rfl
    (by simp [hbooted, hclosed, u])
  obtain ⟨hjudges, hmetro, hcause⟩ := State.tollCause_of_verified (s := u) (bit := 8) (e := 0o155004) (e9 := 0) hverified
  refine ⟨t, ht, ?_⟩
  rw [htoll, State.tollHold_toll]
  dsimp only
  rw [hmetro, hcause, hjudges.part TollUnit.sealClosed (fun _ _ _ _ _ _ _ _ _ => rfl)]
  exact ⟨rfl, rfl, rfl⟩

/-- The seal closes: it is noted, and custody ends with it. -/
theorem sealLoopClosed_closes (hbooted : s.toll.booted = true) (hopen : s.toll.sealClosed = false)
    (hcustody : s.toll.metro = .custody) :
    ∃ t u, exec .sealLoopClosed s = .next t ∧ t.toll = (u : State).toll ∧ ∃ v : State, u = v.tollCloseCustody 0 ∧
      v.toll.sealClosed = true ∧ v.toll.metro = .custody ∧ v.toll.verifyMark = s.toll.verifyMark ∧
      v.toll.authority = s.toll.authority ∧ v.logUnacked ≤ s.logUnacked + 1 := by
  let u : State := { s.clear with toll := { s.toll with sealClosed := true, holdSince := none } }
  have hlog : u.tollLog u.legalTime 0o155005 0 (argE9 0) = u.writeLog u.legalTime 0o155005 0 (argE9 0) :=
    State.tollLog_of_ne_verified (by rw [show u.toll.metro = _ from hcustody]; decide) ..
  obtain ⟨t, ht, htoll⟩ := exec_reaches_toll (s := s) (i := .sealLoopClosed)
    (u := (u.tollLog u.legalTime 0o155005 0 (argE9 0)).tollCloseCustody 0) rfl (by simp [hbooted, hopen, u])
  rw [hlog] at htoll
  have hlogs := State.writeLog_logs u u.legalTime 0o155005 0 (argE9 0)
  refine ⟨t, _, ht, htoll, _, rfl, ?_, hlogs.metro.trans hcustody, hlogs.verifyMark, hlogs.authority,
    State.writeLog_logUnacked_le u ..⟩
  rw [hlogs.judges.part TollUnit.sealClosed (fun _ _ _ _ _ _ _ _ _ => rfl)]

theorem sealLoopClosed_verifies (hbooted : s.toll.booted = true) (hopen : s.toll.sealClosed = false)
    (hcustody : s.toll.metro = .custody) (hmark : s.toll.verifyMark = true) (hauthority : s.toll.authority ≠ none)
    (hroom : s.logUnacked + 3 < 8192) :
    ∃ t, exec .sealLoopClosed s = .next t ∧
      t.toll.sealClosed = true ∧ t.toll.metro = .verified ∧ t.toll.unvCause = 0 ∧ t.toll.verifyMark = false := by
  obtain ⟨t, _, ht, htoll, v, rfl, hseal, hmetro, hmark', hauthority', hcount⟩ := sealLoopClosed_closes hbooted hopen hcustody
  have hok : v.custodyVerifies 0 = true := by
    have hfull : v.logFull = false := (State.logFull_eq_false_iff v).mpr (by omega)
    simp [State.custodyVerifies, hmark', hmark, hauthority', hfull, Option.isSome_iff_ne_none, hauthority]
  have hverified := State.tollCloseCustody_verified hmetro hok (by omega)
  refine ⟨t, ht, ?_⟩
  rw [htoll, (State.tollCloseCustody_judges v 0).part TollUnit.sealClosed (fun _ _ _ _ _ _ _ _ _ => rfl)]
  exact ⟨hseal, hverified⟩

theorem sealLoopClosed_unverified (hbooted : s.toll.booted = true) (hopen : s.toll.sealClosed = false)
    (hcustody : s.toll.metro = .custody) (hmark : s.toll.verifyMark = false) :
    ∃ t, exec .sealLoopClosed s = .next t ∧ t.toll.sealClosed = true ∧ t.toll.metro = .unverified := by
  obtain ⟨t, _, ht, htoll, v, rfl, hseal, hmetro, hmark', -⟩ := sealLoopClosed_closes hbooted hopen hcustody
  have hno : v.custodyVerifies 0 = false := by simp [State.custodyVerifies, hmark', hmark]
  refine ⟨t, ht, ?_⟩
  rw [htoll, (State.tollCloseCustody_judges v 0).part TollUnit.sealClosed (fun _ _ _ _ _ _ _ _ _ => rfl)]
  exact ⟨hseal, (State.tollCloseCustody_unverified hmetro hno).1⟩

theorem thKeyPress_sealed (hbooted : s.toll.booted = true) (hfree : s.toll.keyHeld = false)
    (hclosed : s.toll.sealClosed = true) (hverified : s.toll.metro = .verified) :
    ∃ t, exec .thKeyPress s = .next t ∧
      t.toll.keyHeld = true ∧ t.toll.metro = .unverified ∧ t.toll.unvCause = s.toll.unvCause ||| 4 := by
  let u : State := { s.clear with toll := { s.toll with keyHeld := true } }
  obtain ⟨t, ht, htoll⟩ := exec_reaches_toll (s := s) (i := .thKeyPress) (u := u.tollCause 4 0o155006 0) rfl
    (by simp [hbooted, hfree, hclosed, u])
  obtain ⟨hjudges, hmetro, hcause⟩ := State.tollCause_of_verified (s := u) (bit := 4) (e := 0o155006) (e9 := 0) hverified
  refine ⟨t, ht, ?_⟩
  rw [htoll, hmetro, hcause, hjudges.part TollUnit.keyHeld (fun _ _ _ _ _ _ _ _ _ => rfl)]
  exact ⟨rfl, rfl, rfl⟩

theorem thKeyPress_holds (hbooted : s.toll.booted = true) (hfree : s.toll.keyHeld = false)
    (hopen : s.toll.sealClosed = false) (hmain : s.toll.onBackup = false) :
    ∃ t, exec .thKeyPress s = .next t ∧ t.toll = { s.toll with keyHeld := true, holdSince := some s.now } := by
  obtain ⟨t, ht, htoll⟩ := exec_reaches_toll (s := s) (i := .thKeyPress)
    (u := State.tollHold { s.clear with toll := { s.toll with keyHeld := true } }) rfl (by simp [hbooted, hfree, hopen])
  exact ⟨t, ht, by rw [htoll]; simp [State.tollHold, hopen, hmain]⟩

theorem thKeyRelease_releases :
    ∃ t, exec .thKeyRelease s = .next t ∧ t.toll = { s.toll with keyHeld := false, holdSince := none } :=
  exec_reaches_toll (s := s) (i := .thKeyRelease) rfl rfl

/-- Custody is timed afresh from a time on, for `len` cycles (R399). -/
def State.custodyTimed (s : State) (x len : Nat) : State :=
  let s := s.upTo x
  { s with toll := { s.toll with holdSince := none, custodyEnd := s.now + len } }

/-- A key held to a time opens custody, or extends it. -/
def State.custodyStep (s : State) (x len : Nat) : State :=
  if (s.custodyTimed x len).toll.metro = Metro.custody then s.custodyTimed x len
  else
    let s := s.custodyTimed x len
    let t := s.legalTime
    let s := { s with toll := { s.toll with verifyMark := false } }
    (s.metroBecomes t .custody (fun s => s.writeLog t 0o155007 0 (argE9 0))).settleLog t

/-- CUSTODY_OPEN for a hold of `hold` cycles. -/
def State.custodyHeld (s : State) (hold len : Nat) : State :=
  match s.toll.holdSince with
  | none => s
  | some since =>
    if s.toll.metro = Metro.halted then s
    else
      let s := s.upTo (since + hold)
      let s := { s with toll := { s.toll with holdSince := none, custodyEnd := s.now + len } }
      if s.toll.metro = Metro.custody then s
      else
        let t := s.legalTime
        let s := { s with toll := { s.toll with verifyMark := false } }
        (s.metroBecomes t .custody (fun s => s.writeLog t 0o155007 0 (argE9 0))).settleLog t

theorem State.custodyHeld_of_held {s : State} {x hold len : Nat} (hheld : s.toll.holdSince = some x)
    (hmetro : s.toll.metro ≠ .halted) : s.custodyHeld hold len = s.custodyStep (x + hold) len := by
  unfold State.custodyHeld
  rw [hheld]
  exact if_neg hmetro

theorem State.custodyTimed_now (s : State) (x len : Nat) : (s.custodyTimed x len).now = max s.now x := State.upTo_now ..

theorem State.custodyStep_opens (s : State) (x len : Nat) : State.Judges (s.custodyTimed x len) (s.custodyStep x len) ∧
    (s.custodyStep x len).toll.metro = .custody := by
  unfold State.custodyStep
  split
  · next h => exact ⟨.refl _, h⟩
  · dsimp only
    obtain ⟨hjudges, hmetro, -⟩ := State.metroBecomes_enters
      (s := { s.custodyTimed x len with toll := { (s.custodyTimed x len).toll with verifyMark := false } })
      (m := .custody) (t := (s.custodyTimed x len).legalTime)
      (entry := fun u => u.writeLog (s.custodyTimed x len).legalTime 0o155007 0 (argE9 0)) (fun u => State.writeLog_logs u ..)
    rw [State.settleLog_of_ne_verified (by rw [hmetro]; decide)]
    exact ⟨.trans (t := { s.custodyTimed x len with toll := { (s.custodyTimed x len).toll with verifyMark := false } }) rfl hjudges,
      hmetro⟩

theorem State.custodyStep_tells (s : State) (x len : Nat) : (s.custodyStep x len).toll.metro = .custody ∧
    (s.custodyStep x len).toll.holdSince = none ∧ (s.custodyStep x len).now = max s.now x ∧
    (s.custodyStep x len).toll.custodyEnd = (s.custodyStep x len).now + len := by
  obtain ⟨hjudges, hcustody⟩ := State.custodyStep_opens s x len
  rw [hjudges.now, hjudges.part TollUnit.holdSince (fun _ _ _ _ _ _ _ _ _ => rfl),
    hjudges.part TollUnit.custodyEnd (fun _ _ _ _ _ _ _ _ _ => rfl), hcustody]
  exact ⟨rfl, rfl, State.custodyTimed_now .., rfl⟩

theorem custodyOpen_opens {x : Nat} (hheld : s.toll.holdSince = some x) (hmetro : s.toll.metro ≠ .halted) :
    ∃ t, exec .custodyOpen s = .next t ∧
      t.toll.metro = .custody ∧ t.toll.holdSince = none ∧ t.now = max s.now (x + secs 2) ∧ t.toll.custodyEnd = t.now + secs 1800 := by
  obtain ⟨t, ht, hnow, htoll⟩ := exec_reaches_toll_later (s := s) (i := .custodyOpen)
    (f := fun s => s.custodyHeld (secs 2) (secs 1800)) rfl (State.custodyHeld_of_held (s := s.clear) hheld hmetro)
  have hopens := State.custodyStep_tells s.clear (x + secs 2) (secs 1800)
  rw [← hnow, ← htoll, State.clear_now] at hopens
  exact ⟨t, ht, hopens⟩

theorem custodyTimeout_ends (hbooted : s.toll.booted = true) (hcustody : s.toll.metro = .custody) :
    ∃ t, exec .custodyTimeout s = .next t ∧ t.toll.metro = .unverified ∧ t.now = max s.now s.toll.custodyEnd := by
  obtain ⟨t, ht, hnow, htoll⟩ := exec_reaches_toll_later (s := s) (i := .custodyTimeout)
    (u := (s.clear.upTo s.toll.custodyEnd).tollCloseCustody 1) rfl (by simp [hbooted, hcustody])
  have hmetro : (s.clear.upTo s.toll.custodyEnd).toll.metro = .custody := by rw [State.upTo_toll]; exact hcustody
  refine ⟨t, ht, ?_, ?_⟩
  · rw [htoll]
    exact (State.tollCloseCustody_unverified hmetro rfl).1
  · rw [hnow, (State.tollCloseCustody_judges _ 1).now, State.upTo_now, State.clear_now]

end

/-- Settles O38, one lemma for each event of the seal, the key and custody. -/
theorem sealKeyAndCustodyComplete : Obligations.SealKeyAndCustodyComplete :=
  ⟨fun _ hbooted hclosed hverified => sealLoopOpen_breaks hbooted hclosed hverified,
    fun _ hbooted hopen hcustody hmark hauthority hroom =>
      sealLoopClosed_verifies hbooted hopen hcustody hmark hauthority hroom,
    fun _ hbooted hopen hcustody hmark => sealLoopClosed_unverified hbooted hopen hcustody hmark,
    fun _ hbooted hfree hclosed hverified => thKeyPress_sealed hbooted hfree hclosed hverified,
    fun _ hbooted hfree hopen hmain => thKeyPress_holds hbooted hfree hopen hmain,
    fun _ => thKeyRelease_releases,
    fun _ _ hheld hmetro => custodyOpen_opens hheld hmetro,
    fun _ hbooted hcustody => custodyTimeout_ends hbooted hcustody⟩

end Sys2Proof.Machine

namespace Sys2Proof.Machine

/-! ## Fields of a command's arguments (Table 16.4) -/

theorem wordAt_drop (w : List Word) (k i : Nat) : wordAt (w.drop k) i = wordAt w (k + i) := by
  rw [wordAt, wordAt, List.getElem?_drop]

theorem setField_drop (w : List Word) (k i hi lo : Nat) : setField (w.drop k) i hi lo = setField w (k + i) hi lo := by
  rw [setField, setField, wordAt_drop]

theorem setWide_drop (w : List Word) (k i n : Nat) : setWide (w.drop k) i n = setWide w (k + i) n := by
  rw [setWide, setWide, List.drop_drop]

/-- What holds of the default, and of every entry, holds of what a table gives. -/
theorem tabGet_of_forall {α : Type} {P : α → Prop} {d : α} {t : Tab α} (hd : P d) (h : ∀ e ∈ t, P e.2) (k : Nat) :
    P (tabGet d t k) := by
  induction t with
  | nil => exact hd
  | cons e t ih =>
    rw [tabGet]
    split
    · exact h e List.mem_cons_self
    · exact ih fun x hx => h x (List.mem_cons_of_mem _ hx)

namespace State

/-! ## Metering at a close (R409, Table 16.8) -/

/-- Between two states records and entries may have been written, and intervals closed or opened: TIME stands, and so do the
settings that commands make. -/
def Meters (s t : State) : Prop :=
  t = { s with toll := { s.toll with
    metro := t.toll.metro, unvCause := t.toll.unvCause, flags := t.toll.flags, verifyMark := t.toll.verifyMark
    logSeq := t.toll.logSeq, chainLog := t.toll.chainLog, reports := t.toll.reports, logOverflow := t.toll.logOverflow
    recSeq := t.toll.recSeq, chainRec := t.toll.chainRec, ring := t.toll.ring, points := t.toll.points
    marked := t.toll.marked, closed := t.toll.closed, lateRun := t.toll.lateRun, badRun := t.toll.badRun
    changeDue := t.toll.changeDue, curStart := t.toll.curStart } }

namespace Meters

variable {s t u : State}

theorem refl (s : State) : Meters s s := rfl

theorem trans (h : Meters s t) (h' : Meters t u) : Meters s u := by
  calc u = _ := h'
    _ = _ := by rw [h]

theorem foldl {α : Type} {f : State → α → State} (hf : ∀ s x, Meters s (f s x)) (l : List α) (s : State) :
    Meters s (l.foldl f s) :=
  List.foldlRecOn l f (motive := Meters s) (refl s) (fun _ h x _ => h.trans (hf _ x))

theorem ite {c : Prop} [Decidable c] (ht : Meters s t) (hu : Meters s u) : Meters s (if c then t else u) := by
  split
  · exact ht
  · exact hu

theorem of_judges (h : Judges s t) : Meters s t := by
  calc t = _ := h
    _ = _ := by rw [h]

theorem now (h : Meters s t) : t.now = s.now := by rw [h]
theorem timeBase (h : Meters s t) : t.toll.timeBase = s.toll.timeBase := by rw [h]
theorem timeAt (h : Meters s t) : t.toll.timeAt = s.toll.timeAt := by rw [h]
theorem adjustedAt (h : Meters s t) : t.toll.adjustedAt = s.toll.adjustedAt := by rw [h]

end Meters

section
variable (s : State)

theorem tollLog_meters (t e point : Nat) (arg : List Word) : Meters s (s.tollLog t e point arg) := .of_judges (tollLog_judges ..)
theorem mapPoints_meters (f : TollPoint → TollPoint) : Meters s (s.mapPoints f) := rfl
theorem updPoint_meters (p : Nat) (v : TollPoint) : Meters s (s.updPoint p v) := rfl
theorem tollOpen_meters (start more : Nat) : Meters s (s.tollOpen start more) := rfl

/-- The record itself. -/
def recordWritten (t e imin flags : Nat) : State :=
  let seq := (s.toll.recSeq + 1) % 2 ^ 36
  let w := [BitVec.ofNat 18 e] ++ wide 2 seq ++ wide 2 t ++ [BitVec.ofNat 18 (s.e5Word (fld 13 6 flags))] ++ wide 2 imin ++
    wide 2 s.pointDigest ++ wide 2 s.toll.chainRec
  { s with toll := { s.toll with
    recSeq := seq, chainRec := shaTop 36 (shaWords w), reports := s.toll.reports ++ [{ isRecord := true, words := w }]
    ring := tabPut [] s.toll.ring (seq % 65536) w } }

/-- The oldest record gives way to it (R416). -/
def recordLost (t : Nat) : State :=
  let oldest := s.toll.reports.find? (fun r => r.isRecord)
  let s := { s with toll := { s.toll with reports := (oldest.map (fun r => s.toll.reports.erase r)).getD s.toll.reports } }
  (s.metroCause t 0 (fun s => s.writeLog t 0o155030 0 (argE9 (2 ^ 17)))).settleLog t

theorem writeRecord_eq (t e imin flags : Nat) : s.writeRecord t e imin flags =
    (if 65536 ≤ s.recUnacked then s.recordLost t else s).recordWritten t e imin flags := rfl

theorem recordLost_meters (t : Nat) : Meters s (s.recordLost t) := by
  have h (u : State) (hu : Meters s u) :
      Meters s ((u.metroCause t 0 (fun s => s.writeLog t 0o155030 0 (argE9 (2 ^ 17)))).settleLog t) :=
    hu.trans (.of_judges ((metroCause_judges fun v => writeLog_logs v ..).trans (settleLog_judges t)))
  exact h _ rfl

theorem writeRecord_meters (t e imin flags : Nat) : Meters s (s.writeRecord t e imin flags) := by
  rw [writeRecord_eq]
  exact (Meters.ite (recordLost_meters s t) (.refl s)).trans rfl

/-- What late sections and bad tags have been counted since the last close is logged (R414). -/
def runsLogged (t : Nat) : State :=
  let late : Nat := s.toll.lateRun
  let bad : Nat := s.toll.badRun
  let s := { s with toll := { s.toll with lateRun := 0, badRun := 0 } }
  let s := if late = 0 then s else s.tollLog t 0o155021 0 (argE9 (sat 18 late))
  if bad = 0 then s else s.tollLog t 0o155032 0 (argE9 (sat 18 bad))

theorem runsLogged_meters (t : Nat) : Meters s (s.runsLogged t) := by
  have h (u : State) (hu : Meters s u) (b : Prop) [Decidable b] (e : Nat) (arg : List Word) :
      Meters s (if b then u else u.tollLog t e 0 arg) := .ite hu (hu.trans (tollLog_meters ..))
  have hbegun : Meters s { s with toll := { s.toll with lateRun := 0, badRun := 0 } } := rfl
  unfold runsLogged
  exact h _ (h _ hbegun ..) ..

/-- The records of a close. -/
def recordsWritten (t more : Nat) : State :=
  let imin := s.curMin
  let s := s.mapPoints (fun p => p.close imin)
  let backup := if s.toll.onBackup then 0o200 else 0
  let s : State := s.toll.marked.foldl (fun (s : State) (m : Nat) =>
    s.writeRecord t 0o155020 m ((((s.toll.closed.find? (fun c => c.1 = m)).map Prod.snd).getD 0) ||| 0o100)) s
  let flags := s.toll.flags ||| more ||| backup
  let s := s.writeRecord t 0o155017 imin flags
  { s with toll := { s.toll with marked := [], closed := ((imin, flags) :: s.toll.closed).take 17 } }

theorem recordsWritten_meters (t more : Nat) : Meters s (s.recordsWritten t more) := by
  have hrecords (u : State) (l : List Nat) : Meters u (l.foldl (fun (s : State) (m : Nat) =>
      s.writeRecord t 0o155020 m ((((s.toll.closed.find? (fun c => c.1 = m)).map Prod.snd).getD 0) ||| 0o100)) u) :=
    .foldl (fun s _ => writeRecord_meters s ..) l u
  have hlast (u : State) (hu : Meters s u) (imin flags : Nat) (l : List (Nat × Nat)) : Meters s
      { u.writeRecord t 0o155017 imin flags with toll := { (u.writeRecord t 0o155017 imin flags).toll with marked := [], closed := l } } :=
    (hu.trans (writeRecord_meters ..)).trans rfl
  exact hlast _ ((mapPoints_meters s _).trans (hrecords ..)) ..

theorem tollClose_eq (t more : Nat) : s.tollClose t more = (s.recordsWritten t more).runsLogged t := rfl

theorem tollClose_meters (t more : Nat) : Meters s (s.tollClose t more) := by
  rw [tollClose_eq]
  exact (recordsWritten_meters ..).trans (runsLogged_meters ..)

/-- Sets that are due have been applied, calendars evaluated, and the new sets logged (step 2 of Table 16.8). -/
def setsApplied (t : Nat) (due : List Nat) : State :=
  due.foldl (fun s p =>
    let w := (s.point p).set
    s.tollLog t 0o155015 p (wide 2 (setVersion w) ++ wide 2 (shaTop 36 (setDigest w))))
    ((s.mapPoints (fun p => p.applied t)).mapPoints (fun p => p.switched t))

theorem setsApplied_meters (t : Nat) (due : List Nat) : Meters s (s.setsApplied t due) :=
  ((mapPoints_meters s _).trans (mapPoints_meters ..)).trans (.foldl (fun s _ => tollLog_meters s ..) due _)

theorem tollBoundary_meters (t more : Nat) : Meters s (s.tollBoundary t more) := by
  have hopened (u : State) (hu : Meters s u) (b : Bool) :
      Meters s (tollOpen { u with toll := { u.toll with changeDue := b } } t 0) := hu.trans rfl
  unfold tollBoundary
  dsimp only
  split
  · exact tollOpen_meters ..
  · exact hopened _ ((tollClose_meters s t _).trans (setsApplied_meters ..)) _

theorem tollReopen_meters (old new : Nat) : Meters s (s.tollReopen old new) :=
  (Meters.ite (tollClose_meters ..) (.refl s)).trans (tollOpen_meters ..)

end

/-! ## A request is answered (R401, R402) -/

section
variable {s : State}

theorem tollKeep_toll (m : Nat → Msg) : (s.tollKeep m).toll = { s.toll with
    thSeq := s.toll.thSeq % 262143 + 1, kept := s.toll.kept ++ [m (s.toll.thSeq % 262143 + 1)] } := by
  have h (u : State) (x : Msg) : (u.tollSend x).toll = u.toll := by rw [tollSend_transports u x]
  exact h _ _

theorem tollKeep_free (m : Nat → Msg) : (s.tollKeep m).free = s.free := by rw [tollKeep_speaks]

/-- A request that repeats none of those answered is acted on, and its result kept. -/
theorem tollRequest_of_new {m : Msg} {n : Nat} {run : State → State × Nat}
    (hnew : s.toll.results.any (fun e => decide (e.1 = m)) = false) :
    (s.tollRequest m n run).toll = { (run s).1.toll with results := ((m, (run s).2) :: (run s).1.toll.results).take 8 } ∧
      (s.tollRequest m n run).free = (run s).1.free := by
  have hnone : s.toll.results.find? (fun e => decide (e.1 = m)) = none := by
    rw [List.find?_eq_none]
    exact fun e he => by simpa using List.any_eq_false.mp hnew e he
  have hreply (u : State) (k r : Nat) : (u.tollReply k r).toll = u.toll ∧ (u.tollReply k r).free = u.free := by
    rw [tollReply, tollSend_transports]
    exact ⟨rfl, rfl⟩
  rw [tollRequest, hnone]
  exact hreply ..

theorem thAnswered_of_results {t : State} {m : Msg} {r : Nat} {l : List (Msg × Nat)} (h : t.toll.results = ((m, r) :: l).take 8) :
    t.thAnswered m r = true := by
  rw [thAnswered, h]
  exact decide_eq_true rfl

end

/-- A command is in its form, is new to the Tollhouse, and may be acted on (R401, R402, R418, Table 16.4). -/
structure CommandMet (s : State) (n : Nat) (w : List Word) (cmd args : Nat) (custody : Bool) (ok : List Word → Bool) : Prop where
  takes : s.thTakes n w = true
  code : cmdOf w = cmd
  length : w.length = args + 1
  form : setField w 0 11 0 = 0
  allowed : ok (w.drop 1) = true
  running : s.toll.metro ≠ .halted
  blank : s.toll.metro ≠ .blank ∨ cmd = 0o01
  custodial : custody = true → s.toll.metro = .custody ∧ s.logFull = false

section
variable {s u : State} {n cmd args : Nat} {w : List Word} {custody : Bool} {ok : List Word → Bool}
  {run : State → List Word → State × Nat}

/-- A command that may be acted on has its effect, and its result when that is DONE, or when it is none of the two that are
logged when refused. -/
theorem thCommand_of_met (h : s.CommandMet n w cmd args custody ok) (hu : u.toll = s.toll)
    (hresult : (run u (w.drop 1)).2 = 0 ∨ (cmd ≠ 0o04 ∧ cmd ≠ 0o10)) : u.thCommand cmd args custody ok run w = run u (w.drop 1) := by
  have hform : ¬ (!decide (cmdOf w = cmd) || !(decide (w.length = args + 1) && decide (setField w 0 11 0 = 0) &&
      ok (w.drop 1))) = true := by
    simp only [h.code, h.length, h.form, h.allowed]
    decide
  have hcustody : ¬ (custody && decide (s.toll.metro ≠ .custody)) = true := by
    simpa using fun hc => (h.custodial hc).1
  have hblank : ¬ (decide (s.toll.metro = .blank) && decide (cmd ≠ 0o01)) = true := by
    simpa using fun hm => h.blank.resolve_left (absurd hm)
  have hroom : ¬ (custody && u.logFull) = true := by
    have hsame : u.logFull = s.logFull := by rw [logFull, logFull, logUnacked, logUnacked, hu]
    simpa [hsame] using fun hc => (h.custodial hc).2
  have hquiet : ¬ (decide ((run u (w.drop 1)).2 ≠ 0) && (decide (cmdOf w = 0o04) || decide (cmdOf w = 0o10))) = true := by
    rw [h.code]
    obtain hr | ⟨h4, h8⟩ := hresult
    · rw [hr]
      exact Bool.false_ne_true
    · simp [h4, h8]
  unfold thCommand
  dsimp only
  rw [hu, if_neg h.running, if_neg hform, if_neg hcustody, if_neg hblank, if_neg hroom, if_neg hquiet]

/-- The Tollhouse stands, and so does the clock, as a command finds them. -/
def TollStands (s t : State) : Prop := t.toll = s.toll ∧ t.now = s.now ∧ t.free = s.free

theorem Takes.tollStands {w : Way} {c : MsgClass} {s u : State} (h : Takes w c s u) : TollStands s u := by
  rw [TollStands, h.transports]
  exact ⟨rfl, rfl, rfl⟩

/-- It is taken, acted on and answered. -/
theorem thServe_of_met (h : s.CommandMet n w cmd args custody ok)
    (hresult : ∀ u : State, TollStands s u → (run u (w.drop 1)).2 = 0 ∨ (cmd ≠ 0o04 ∧ cmd ≠ 0o10)) :
    ∃ u, Takes .thDown .legal s u ∧
      (s.thServe cmd args custody ok run).toll = { (run u (w.drop 1)).1.toll with
        results := ((.thCommand n w, (run u (w.drop 1)).2) :: (run u (w.drop 1)).1.toll.results).take 8 } ∧
      (s.thServe cmd args custody ok run).free = (run u (w.drop 1)).1.free := by
  have htakes := h.takes
  rw [thTakes, Bool.and_eq_true, Bool.not_eq_true'] at htakes
  obtain ⟨u, htake, hu⟩ := take_of_arrives (want := isThCommand cmd) htakes.1 (by simp [isThCommand, h.code])
  have hserve : s.thServe cmd args custody ok run =
      u.tollRequest (.thCommand n w) n (fun s => s.thCommand cmd args custody ok run w) := by rw [thServe, htake]
  obtain ⟨htoll, hfree⟩ := tollRequest_of_new (s := u) (m := .thCommand n w) (n := n)
    (run := fun s => s.thCommand cmd args custody ok run w) (by rw [hu.toll]; exact htakes.2)
  have hacted := thCommand_of_met (run := run) h hu.toll (hresult u hu.tollStands)
  rw [hserve, htoll, hfree, hacted]
  exact ⟨u, hu, rfl, rfl⟩

end
end State

/-! ## The commands (R397, R399, R401, R402, R406, R412, Table 16.4) -/

section
variable {s : State} {n cmd args : Nat} {w : List Word} {custody : Bool} {ok : List Word → Bool}
  {run : State → List Word → State × Nat}

theorem State.CommandMet.clear (h : s.CommandMet n w cmd args custody ok) : s.clear.CommandMet n w cmd args custody ok where
  takes := h.takes
  code := h.code
  length := h.length
  form := h.form
  allowed := h.allowed
  running := h.running
  blank := h.blank
  custodial := h.custodial

theorem exec_thServe {i : Instr} {ps : List Part} (hexec : exec i s = act ps s (fun s => s.thServe cmd args custody ok run))
    (hps : ps.contains .toll = true) (h : s.CommandMet n w cmd args custody ok)
    (hresult : ∀ u : State, State.TollStands s u → (run u (w.drop 1)).2 = 0 ∨ (cmd ≠ 0o04 ∧ cmd ≠ 0o10)) :
    ∃ t u, exec i s = .next t ∧ State.TollStands s u ∧ t.thAnswered (.thCommand n w) (run u (w.drop 1)).2 = true ∧
      t.toll = { (run u (w.drop 1)).1.toll with results := t.toll.results } ∧
      (ps.contains .free = true → t.free = (run u (w.drop 1)).1.free) := by
  obtain ⟨u, hu, htoll, hfree⟩ := State.thServe_of_met (run := run) h.clear hresult
  obtain ⟨t, ht, -, hsame⟩ := exec_reaches hexec rfl
  have htoll' := (hsame .toll (by decide) hps).trans htoll
  exact ⟨t, u, ht, hu.tollStands, State.thAnswered_of_results (congrArg TollUnit.results htoll'), by rw [htoll'],
    fun hf => (hsame .free (by decide) hf).trans hfree⟩

theorem State.TollStands.legalTime {u : State} (h : State.TollStands s u) : u.legalTime = s.legalTime :=
  State.legalTime_congr h.1 h.2.1

end

/-! ### Commands that read -/

section
variable {s : State} {n : Nat} {w : List Word}

/-- The form of a command that asks for no custody. -/
theorem State.commandMet_open {cmd args : Nat} {ok : List Word → Bool} (htakes : s.thTakes n w = true) (hcode : cmdOf w = cmd)
    (hlength : w.length = args + 1) (hform : setField w 0 11 0 = 0) (hok : ok (w.drop 1) = true) (hrunning : s.toll.metro ≠ .halted)
    (hblank : s.toll.metro ≠ .blank ∨ cmd = 0o01) : s.CommandMet n w cmd args false ok :=
  ⟨htakes, hcode, hlength, hform, hok, hrunning, hblank, fun h => absurd h (by decide)⟩

/-- The form of a command that does. -/
theorem State.commandMet_custody {cmd args : Nat} {ok : List Word → Bool} (htakes : s.thTakes n w = true) (hcode : cmdOf w = cmd)
    (hlength : w.length = args + 1) (hform : setField w 0 11 0 = 0) (hok : ok (w.drop 1) = true)
    (hcustody : s.toll.metro = .custody) (hroom : s.logFull = false) : s.CommandMet n w cmd args true ok :=
  ⟨htakes, hcode, hlength, hform, hok, by rw [hcustody]; decide, .inl (by rw [hcustody]; decide), fun _ => ⟨hcustody, hroom⟩⟩

theorem thReadIdent_reads (htakes : s.thTakes n w = true) (hcode : cmdOf w = 0o01) (hlength : w.length = 1)
    (hform : setField w 0 11 0 = 0) (hrunning : s.toll.metro ≠ .halted) :
    ∃ t, exec .thReadIdent s = .next t ∧
      t.thAnswered (.thCommand n w) 0 = true ∧ t.toll.thSeq = s.toll.thSeq % 262143 + 1 ∧
      t.toll.kept = s.toll.kept ++ [.windowWrite t.toll.thSeq 0 identityBlock] := by
  obtain ⟨t, u, ht, ⟨hu, -⟩, hanswered, htoll, -⟩ := exec_thServe (s := s) (i := .thReadIdent) rfl rfl
    (State.commandMet_open (ok := anyArgs) htakes hcode hlength hform rfl hrunning (.inr rfl)) (fun _ _ => .inl rfl)
  rw [State.tollKeep_toll, hu] at htoll
  exact ⟨t, ht, hanswered, by rw [htoll], by rw [htoll]⟩

theorem thReadPoint_reads (htakes : s.thTakes n w = true) (hcode : cmdOf w = 0o02) (hlength : w.length = 2)
    (hform : setField w 0 11 0 = 0) (hrunning : s.toll.metro ≠ .halted) (hblank : s.toll.metro ≠ .blank)
    (harg : setField w 1 17 12 = 0) :
    ∃ t, exec .thReadPoint s = .next t ∧
      t.thAnswered (.thCommand n w) 0 = true ∧ t.toll.kept = s.toll.kept ++
        [.windowWrite t.toll.thSeq 0o200 (pointPage (setField w 1 11 0) (s.point (setField w 1 11 0)))] := by
  obtain ⟨t, u, ht, ⟨hu, -⟩, hanswered, htoll, -⟩ := exec_thServe (s := s) (i := .thReadPoint) rfl rfl
    (State.commandMet_open (ok := fun a => setField a 0 17 12 = 0) htakes hcode hlength hform
      (by rw [setField_drop]; exact decide_eq_true harg) hrunning (.inl hblank)) (fun _ _ => .inl rfl)
  rw [State.tollKeep_toll, hu, State.point, hu, setField_drop] at htoll
  exact ⟨t, ht, hanswered, by rw [htoll]; rfl⟩

/-- The effect of READ-RECORD. -/
def State.recordRead (s : State) (a : List Word) : State × Nat :=
  let seq := setWide a 0 2
  let w := tabGet [] s.toll.ring (seq % 65536)
  if !true then (s.tollHalt 5, thHalted)
  else if w.isEmpty || setWide w 1 2 ≠ seq then (s, thBadValue)
  else
    let (sig, s) := s.tollSign w
    (s.tollKeep (fun n => .windowWrite n 0o200 (w ++ sig)), thDone)

theorem State.recordRead_of_stored {u : State} {a : List Word} (hrecord : tabGet [] u.toll.ring (setWide a 0 2 % 65536) ≠ [])
    (hseq : setWide (tabGet [] u.toll.ring (setWide a 0 2 % 65536)) 1 2 = setWide a 0 2) :
    u.recordRead a = ((u.tollSign (tabGet [] u.toll.ring (setWide a 0 2 % 65536))).2.tollKeep (fun n =>
      .windowWrite n 0o200 (tabGet [] u.toll.ring (setWide a 0 2 % 65536) ++
        (u.tollSign (tabGet [] u.toll.ring (setWide a 0 2 % 65536))).1)), thDone) := by
  have hfound : ¬ ((tabGet [] u.toll.ring (setWide a 0 2 % 65536)).isEmpty ||
      decide (setWide (tabGet [] u.toll.ring (setWide a 0 2 % 65536)) 1 2 ≠ setWide a 0 2)) = true := by simp [hrecord, hseq]
  unfold State.recordRead
  exact (if_neg (by decide)).trans (if_neg hfound)

theorem thReadRecord_reads (htakes : s.thTakes n w = true) (hcode : cmdOf w = 0o03) (hlength : w.length = 3)
    (hform : setField w 0 11 0 = 0) (hrunning : s.toll.metro ≠ .halted) (hblank : s.toll.metro ≠ .blank)
    (hrecord : tabGet [] s.toll.ring (setWide w 1 2 % 65536) ≠ [])
    (hseq : setWide (tabGet [] s.toll.ring (setWide w 1 2 % 65536)) 1 2 = setWide w 1 2) :
    ∃ t, exec (.thReadRecord true) s = .next t ∧
      t.thAnswered (.thCommand n w) 0 = true ∧ t.free = s.free + 1 ∧ t.toll.kept = s.toll.kept ++
        [.windowWrite t.toll.thSeq 0o200 (tabGet [] s.toll.ring (setWide w 1 2 % 65536) ++
          (s.tollSign (tabGet [] s.toll.ring (setWide w 1 2 % 65536))).1)] := by
  obtain ⟨t, u, ht, ⟨hu, -, hufree⟩, hanswered, htoll, hfree⟩ := exec_thServe (s := s) (i := .thReadRecord true)
    (run := State.recordRead) rfl rfl
    (State.commandMet_open (ok := anyArgs) htakes hcode hlength hform rfl hrunning (.inl hblank))
    (fun _ _ => .inr ⟨by decide, by decide⟩)
  have hfree := hfree rfl
  have hsign (l : List Word) : (u.tollSign l).1 = (s.tollSign l).1 := by rw [State.tollSign, State.tollSign, hufree]
  have hread := State.recordRead_of_stored (u := u) (a := w.drop 1) (by rwa [hu, setWide_drop]) (by rwa [hu, setWide_drop])
  rw [hread] at hanswered htoll hfree
  rw [setWide_drop, hu, hsign] at htoll
  rw [State.tollKeep_toll] at htoll
  rw [State.tollKeep_free] at hfree
  refine ⟨t, ht, hanswered, hfree.trans (congrArg (· + 1) hufree), ?_⟩
  rw [htoll]
  exact congrArg (fun v : TollUnit => v.kept ++ _) hu

/-! ### The time (R397) -/

/-- TIME is set, and the interval in force with it. -/
theorem State.setLegal_meters {s t : State} {x : Nat} (h : State.Meters (s.setLegal x) t) :
    t.toll.timeAt = s.now ∧ t.toll.timeBase = x ∧ t.toll.adjustedAt = s.toll.adjustedAt :=
  ⟨h.timeAt, h.timeBase, h.adjustedAt⟩

/-- The interval in force after TIME has been adjusted. -/
def State.adjustedInterval (s : State) (old : Nat) : State :=
  let new := s.legalTime
  if new < s.toll.curStart then s.tollReopen old new
  else if s.toll.curStart + s.intervalLen ≤ new then s.tollBoundary (s.toll.curStart + s.intervalLen) 0o4
  else s

theorem State.adjustedInterval_meters (s : State) (old : Nat) : State.Meters s (s.adjustedInterval old) :=
  .ite (State.tollReopen_meters ..) (.ite (State.tollBoundary_meters ..) (.refl s))

/-- The effect of ADJUST-TIME where it may be used, TIME ending at `top` cycles. -/
def State.timeAdjusted (s : State) (a : List Word) (day sec top : Nat) : State × Nat :=
  let late := match s.toll.adjustedAt with
    | some t => decide (t + day ≤ s.now)
    | none => true
  if !(late && (s.toll.metro = Metro.verified || s.toll.metro = Metro.unverified)) then (s, thLimit)
  else
    let v := ofTwos 18 (setField a 0 17 0)
    let old := s.legalTime
    let s := { s with toll := { s.toll with adjustedAt := some s.now } }.tollLog old 0o155013 0 [0, 0, 0, wordAt a 0]
    let s := s.setLegal (min ((s.legalCycles : Int) + v * (sec : Int)).toNat top)
    (s.adjustedInterval old, thDone)

/-- The adjustment is noted, and logged. -/
def State.adjustmentLogged (s : State) (a : List Word) : State :=
  { s with toll := { s.toll with adjustedAt := some s.now } }.tollLog s.legalTime 0o155013 0 [0, 0, 0, wordAt a 0]

theorem State.adjustmentLogged_stands (s : State) (a : List Word) : (s.adjustmentLogged a).toll.adjustedAt = some s.now ∧
    (s.adjustmentLogged a).now = s.now ∧ (s.adjustmentLogged a).legalCycles = s.legalCycles := by
  have hjudges : State.Judges { s with toll := { s.toll with adjustedAt := some s.now } } (s.adjustmentLogged a) :=
    State.tollLog_judges ..
  refine ⟨hjudges.part TollUnit.adjustedAt (fun _ _ _ _ _ _ _ _ _ => rfl), hjudges.now, ?_⟩
  rw [State.legalCycles, hjudges]
  rfl

theorem State.timeAdjusted_of_late {u : State} {a : List Word} {day sec top : Nat}
    (hlate : u.toll.adjustedAt.all (fun x => x + day ≤ u.now) = true)
    (hmetro : u.toll.metro = .verified ∨ u.toll.metro = .unverified) :
    (u.timeAdjusted a day sec top).2 = 0 ∧ (u.timeAdjusted a day sec top).1.toll.adjustedAt = some u.now ∧
      (u.timeAdjusted a day sec top).1.toll.timeAt = u.now ∧ (u.timeAdjusted a day sec top).1.toll.timeBase =
        min ((u.legalCycles : Int) + ofTwos 18 (setField a 0 17 0) * (sec : Int)).toNat top := by
  have hmay : ¬ (!((match u.toll.adjustedAt with
      | some t => decide (t + day ≤ u.now)
      | none => true) && (decide (u.toll.metro = .verified) || decide (u.toll.metro = .unverified)))) = true := by
    have hwaited : (match u.toll.adjustedAt with
        | some t => decide (t + day ≤ u.now)
        | none => true) = true := by
      cases h : u.toll.adjustedAt with
      | none => rfl
      | some t => simpa [h] using hlate
    obtain h | h := hmetro <;> simp [hwaited, h]
  obtain ⟨hadjusted, hnow, hcycles⟩ := State.adjustmentLogged_stands u a
  have heq : u.timeAdjusted a day sec top = (((u.adjustmentLogged a).setLegal
      (min (((u.adjustmentLogged a).legalCycles : Int) + ofTwos 18 (setField a 0 17 0) * (sec : Int)).toNat top)).adjustedInterval
        u.legalTime, thDone) := if_neg hmay
  rw [hcycles] at heq
  obtain ⟨hat, hbase, hkept⟩ := State.setLegal_meters (State.adjustedInterval_meters ((u.adjustmentLogged a).setLegal
    (min ((u.legalCycles : Int) + ofTwos 18 (setField a 0 17 0) * (sec : Int)).toNat top)) u.legalTime)
  rw [heq, hkept, hat, hbase, hadjusted, hnow]
  exact ⟨rfl, rfl, rfl, rfl⟩

theorem thAdjustTime_adjusts (htakes : s.thTakes n w = true) (hcode : cmdOf w = 0o04) (hlength : w.length = 2)
    (hform : setField w 0 11 0 = 0) (hleast : 1 ≤ (ofTwos 18 (setField w 1 17 0)).natAbs)
    (hmost : (ofTwos 18 (setField w 1 17 0)).natAbs ≤ 30)
    (hlate : s.toll.adjustedAt.all (fun x => x + secs 86400 ≤ s.now) = true)
    (hmetro : s.toll.metro = .verified ∨ s.toll.metro = .unverified) :
    ∃ t, exec .thAdjustTime s = .next t ∧
      t.thAnswered (.thCommand n w) 0 = true ∧ t.toll.adjustedAt = some s.now ∧ t.toll.timeAt = s.now ∧
      t.toll.timeBase = min ((s.legalCycles : Int) + ofTwos 18 (setField w 1 17 0) * (secs 1 : Int)).toNat (secs timeEnd) := by
  have hrunning : s.toll.metro ≠ .halted ∧ s.toll.metro ≠ .blank := by
    obtain h | h := hmetro <;> rw [h] <;> decide
  have hadjusts (u : State) (hu : State.TollStands s u) := State.timeAdjusted_of_late (u := u) (a := w.drop 1) (day := secs 86400)
    (sec := secs 1) (top := secs timeEnd) (by rw [hu.1, hu.2.1]; exact hlate) (by rw [hu.1]; exact hmetro)
  obtain ⟨t, u, ht, hstands, hanswered, htoll, -⟩ := exec_thServe (s := s) (i := .thAdjustTime)
    (run := fun s a => s.timeAdjusted a (secs 86400) (secs 1) (secs timeEnd)) rfl rfl
    (State.commandMet_open (ok := fun a => decide (1 ≤ (ofTwos 18 (setField a 0 17 0)).natAbs ∧
      (ofTwos 18 (setField a 0 17 0)).natAbs ≤ 30)) htakes hcode hlength hform
      (by rw [setField_drop]; exact decide_eq_true ⟨hleast, hmost⟩) hrunning.1 (.inl hrunning.2))
    (fun u hu => .inl (hadjusts u hu).1)
  obtain ⟨hdone, hadjusted, hat, hbase⟩ := hadjusts u hstands
  have hcycles : u.legalCycles = s.legalCycles := by rw [State.legalCycles, State.legalCycles, hstands.1, hstands.2.1]
  rw [hdone] at hanswered
  rw [setField_drop, hcycles] at hbase
  rw [hstands.2.1] at hadjusted hat
  refine ⟨t, ht, hanswered, ?_⟩
  rw [htoll]
  exact ⟨hadjusted, hat, hbase⟩

/-- The effect of SET-TIME. -/
def State.timeSet (s : State) (a : List Word) : State × Nat :=
  let y := 2000 + setField a 0 17 9
  let m := setField a 0 8 5
  let d := setField a 0 4 0
  let h := setField a 1 17 13
  let mi := setField a 1 12 7
  let sec := setField a 1 6 1
  if !validDate y m d h mi sec then (s, thBadDate)
  else
    let old := s.legalTime
    let new := timeOf y m d h mi sec
    let s := s.tollLog old 0o155012 0 ([BitVec.ofNat 18 (fld 17 12 0o10), 0] ++ wide 2 new)
    ((s.setLegal (secs new)).tollReopen old new, thDone)

theorem State.timeSet_of_valid {u : State} {a : List Word} (h : validDate (2000 + setField a 0 17 9) (setField a 0 8 5)
    (setField a 0 4 0) (setField a 1 17 13) (setField a 1 12 7) (setField a 1 6 1) = true) :
    (u.timeSet a).2 = 0 ∧ (u.timeSet a).1.toll.timeAt = u.now ∧ (u.timeSet a).1.toll.timeBase =
      secs (timeOf (2000 + setField a 0 17 9) (setField a 0 8 5) (setField a 0 4 0) (setField a 1 17 13) (setField a 1 12 7)
        (setField a 1 6 1)) := by
  unfold State.timeSet
  dsimp only
  rw [h]
  generalize timeOf (2000 + setField a 0 17 9) (setField a 0 8 5) (setField a 0 4 0) (setField a 1 17 13) (setField a 1 12 7)
    (setField a 1 6 1) = new
  have hlogged : State.Judges u (u.tollLog u.legalTime 0o155012 0 ([BitVec.ofNat 18 (fld 17 12 0o10), 0] ++ wide 2 new)) :=
    State.tollLog_judges ..
  generalize u.tollLog u.legalTime 0o155012 0 ([BitVec.ofNat 18 (fld 17 12 0o10), 0] ++ wide 2 new) = v at hlogged
  obtain ⟨hat, hbase, -⟩ := State.setLegal_meters (State.tollReopen_meters (v.setLegal (secs new)) u.legalTime new)
  exact ⟨rfl, hat.trans hlogged.now, hbase⟩

theorem thSetTime_sets (htakes : s.thTakes n w = true) (hcode : cmdOf w = 0o10) (hlength : w.length = 3)
    (hform : setField w 0 11 0 = 0) (hcustody : s.toll.metro = .custody) (hroom : s.logFull = false)
    (harg : setField w 2 0 0 = 0) (hdate : validDate (2000 + setField w 1 17 9) (setField w 1 8 5) (setField w 1 4 0)
      (setField w 2 17 13) (setField w 2 12 7) (setField w 2 6 1) = true) :
    ∃ t, exec .thSetTime s = .next t ∧
      t.thAnswered (.thCommand n w) 0 = true ∧ t.toll.timeAt = s.now ∧ t.toll.timeBase = secs (timeOf (2000 + setField w 1 17 9)
        (setField w 1 8 5) (setField w 1 4 0) (setField w 2 17 13) (setField w 2 12 7) (setField w 2 6 1)) := by
  have hsets (u : State) := State.timeSet_of_valid (u := u) (a := w.drop 1) (by simp only [setField_drop]; exact hdate)
  obtain ⟨t, u, ht, hstands, hanswered, htoll, -⟩ := exec_thServe (s := s) (i := .thSetTime) (run := State.timeSet) rfl rfl
    (State.commandMet_custody (ok := fun a => setField a 1 0 0 = 0) htakes hcode hlength hform
      (by rw [setField_drop]; exact decide_eq_true harg) hcustody hroom) (fun u _ => .inl (hsets u).1)
  obtain ⟨hdone, hat, hbase⟩ := hsets u
  simp only [setField_drop] at hbase
  rw [hdone] at hanswered
  rw [hstands.2.1] at hat
  refine ⟨t, ht, hanswered, ?_⟩
  rw [htoll]
  exact ⟨hat, hbase⟩

end

/-! ### Settings -/

section
variable {s : State} {n : Nat} {w : List Word}

/-- Peaks that are cleared stay cleared as that is logged. -/
theorem State.tollLog_points (s : State) (t e p : Nat) (arg : List Word) : (s.tollLog t e p arg).toll.points = s.toll.points :=
  (State.tollLog_judges ..).part TollUnit.points (fun _ _ _ _ _ _ _ _ _ => rfl)

/-- The effect of DEMAND-RESET. -/
def State.demandReset (s : State) (a : List Word) : State × Nat :=
  let p := setField a 0 11 0
  if setField a 0 17 17 = 1 then
    ((s.mapPoints (fun v => { v with peak := 0 })).tollLog s.legalTime 0o155027 0 (argE9 0o7777), thDone)
  else ((s.updPoint p { s.point p with peak := 0 }).tollLog s.legalTime 0o155027 p (argE9 p), thDone)

theorem State.demandReset_done (u : State) (a : List Word) : (u.demandReset a).2 = 0 := by
  unfold State.demandReset
  dsimp only
  split <;> rfl

theorem thDemandReset_one (htakes : s.thTakes n w = true) (hcode : cmdOf w = 0o05) (hlength : w.length = 2)
    (hform : setField w 0 11 0 = 0) (hrunning : s.toll.metro ≠ .halted) (hblank : s.toll.metro ≠ .blank)
    (harg : setField w 1 17 12 = 0) :
    ∃ t, exec .thDemandReset s = .next t ∧
      t.thAnswered (.thCommand n w) 0 = true ∧ (t.point (setField w 1 11 0)).peak = 0 ∧
      (t.point (setField w 1 11 0)).regs = (s.point (setField w 1 11 0)).regs := by
  have hbits : setField w 1 16 12 = 0 ∧ setField w 1 17 17 ≠ 1 := by
    simp only [setField, bits] at harg ⊢
    omega
  obtain ⟨t, u, ht, ⟨hu, -⟩, hanswered, htoll, -⟩ := exec_thServe (s := s) (i := .thDemandReset) (run := State.demandReset) rfl rfl
    (State.commandMet_open (ok := fun a => setField a 0 16 12 = 0) htakes hcode hlength hform
      (by rw [setField_drop]; exact decide_eq_true hbits.1) hrunning (.inl hblank)) (fun u _ => .inl (u.demandReset_done _))
  rw [State.demandReset_done] at hanswered
  have hone : (u.demandReset (w.drop 1)).1.toll.points =
      tabPut {} u.toll.points (setField w 1 11 0) { u.point (setField w 1 11 0) with peak := 0 } := by
    unfold State.demandReset
    simp only [setField_drop, Nat.add_zero]
    rw [if_neg hbits.2]
    exact State.tollLog_points ..
  have hpoint : t.point (setField w 1 11 0) = { s.point (setField w 1 11 0) with peak := 0 } := by
    rw [State.point, htoll]
    dsimp only
    rw [hone, tabGet_tabPut_same, State.point, State.point, hu]
  exact ⟨t, ht, hanswered, by rw [hpoint], by rw [hpoint]⟩

theorem thDemandReset_all (htakes : s.thTakes n w = true) (hcode : cmdOf w = 0o05) (hlength : w.length = 2)
    (hform : setField w 0 11 0 = 0) (hrunning : s.toll.metro ≠ .halted) (hblank : s.toll.metro ≠ .blank)
    (hall : setField w 1 17 17 = 1) (harg : setField w 1 16 12 = 0) :
    ∃ t, exec .thDemandReset s = .next t ∧ t.thAnswered (.thCommand n w) 0 = true ∧ ∀ p, (t.point p).peak = 0 := by
  obtain ⟨t, u, ht, -, hanswered, htoll, -⟩ := exec_thServe (s := s) (i := .thDemandReset) (run := State.demandReset) rfl rfl
    (State.commandMet_open (ok := fun a => setField a 0 16 12 = 0) htakes hcode hlength hform
      (by rw [setField_drop]; exact decide_eq_true harg) hrunning (.inl hblank)) (fun u _ => .inl (u.demandReset_done _))
  rw [State.demandReset_done] at hanswered
  have hpoints : (u.demandReset (w.drop 1)).1.toll.points = tabMap {} u.toll.points (fun _ v => { v with peak := 0 }) := by
    unfold State.demandReset
    simp only [setField_drop, Nat.add_zero]
    rw [if_pos hall]
    exact State.tollLog_points ..
  refine ⟨t, ht, hanswered, fun p => ?_⟩
  rw [State.point, htoll]
  dsimp only
  rw [hpoints]
  refine tabGet_of_forall (P := fun v : TollPoint => v.peak = 0) rfl (fun e he => ?_) p
  obtain ⟨x, -, hx⟩ := List.mem_map.mp (List.mem_of_mem_filter he)
  rw [← hx]

theorem thSetCal_sets (htakes : s.thTakes n w = true) (hcode : cmdOf w = 0o11) (hlength : w.length = 2)
    (hform : setField w 0 11 0 = 0) (hcustody : s.toll.metro = .custody) (hroom : s.logFull = false)
    (harg : (ofTwos 18 (setField w 1 17 0)).natAbs ≤ 20000) :
    ∃ t, exec .thSetCal s = .next t ∧
      t.thAnswered (.thCommand n w) 0 = true ∧ t.toll.cal = ofTwos 18 (setField w 1 17 0) := by
  obtain ⟨t, u, ht, -, hanswered, htoll, -⟩ := exec_thServe (s := s) (i := .thSetCal) rfl rfl
    (State.commandMet_custody (ok := fun a => decide ((ofTwos 18 (setField a 0 17 0)).natAbs ≤ 20000)) htakes hcode hlength hform
      (by rw [setField_drop]; exact decide_eq_true harg) hcustody hroom) (fun _ _ => .inl rfl)
  refine ⟨t, ht, hanswered, ?_⟩
  rw [htoll, ← setField_drop w 1 0]
  exact (State.tollLog_judges ..).part TollUnit.cal (fun _ _ _ _ _ _ _ _ _ => rfl)

theorem thSetInterval_sets (htakes : s.thTakes n w = true) (hcode : cmdOf w = 0o12) (hlength : w.length = 2)
    (hform : setField w 0 11 0 = 0) (hcustody : s.toll.metro = .custody) (hroom : s.logFull = false)
    (hzero : setField w 1 15 0 = 0) (hinterval : setField w 1 17 16 ≤ 2) (hnew : setField w 1 17 16 ≠ s.toll.interval) :
    ∃ t, exec .thSetInterval s = .next t ∧
      t.thAnswered (.thCommand n w) 0 = true ∧
      t.toll.pendInterval = some (setField w 1 17 16, (s.legalTime / 3600 + 1) * 3600) ∧ t.toll.interval = s.toll.interval := by
  obtain ⟨t, u, ht, hstands, hanswered, htoll, -⟩ := exec_thServe (s := s) (i := .thSetInterval) rfl rfl
    (State.commandMet_custody (ok := fun a => setField a 0 15 0 = 0 && decide (setField a 0 17 16 ≤ 2)) htakes hcode hlength hform
      (by simp only [setField_drop]; simp [hzero, hinterval]) hcustody hroom) (fun _ _ => .inl rfl)
  refine ⟨t, ht, hanswered, ?_, ?_⟩
  · rw [htoll]
    refine ((State.tollLog_judges ..).part TollUnit.pendInterval (fun _ _ _ _ _ _ _ _ _ => rfl)).trans ?_
    dsimp only
    rw [setField_drop, hstands.legalTime, hstands.1, if_neg hnew]
  · rw [htoll]
    exact ((State.tollLog_judges ..).part TollUnit.interval (fun _ _ _ _ _ _ _ _ _ => rfl)).trans
      (congrArg TollUnit.interval hstands.1 :)

/-! ### Keys and custody (R399, R412) -/

theorem thInstallAuthority_installs (htakes : s.thTakes n w = true) (hcode : cmdOf w = 0o13) (hlength : w.length = 30)
    (hform : setField w 0 11 0 = 0) (hcustody : s.toll.metro = .custody) (hroom : s.logFull = false)
    (hzero : setField w 1 17 8 = 0) :
    ∃ t, exec .thInstallAuthority s = .next t ∧
      t.thAnswered (.thCommand n w) 0 = true ∧ t.toll.authority = some (setWide w 1 29) := by
  obtain ⟨t, u, ht, -, hanswered, htoll, -⟩ := exec_thServe (s := s) (i := .thInstallAuthority) rfl rfl
    (State.commandMet_custody (ok := fun a => setField a 0 17 8 = 0) htakes hcode hlength hform
      (by rw [setField_drop]; exact decide_eq_true hzero) hcustody hroom) (fun _ _ => .inl rfl)
  refine ⟨t, ht, hanswered, ?_⟩
  rw [htoll, ← setWide_drop w 1 0]
  exact (State.tollLog_judges ..).part TollUnit.authority (fun _ _ _ _ _ _ _ _ _ => rfl)

/-- The effect of INSTALL-METER-KEY. -/
def State.meterKeyInstalled (s : State) (a : List Word) : State × Nat :=
  match openMeterKey (setWide a 0 29) (a.drop 29) with
  | some key => ({ s with toll := { s.toll with meterKey := some key } }.tollLog s.legalTime 0o155026 0 (argE9 1), thDone)
  | none => (s, thBadValue)

theorem thInstallMeterKey_installs (htakes : s.thTakes n w = true) (hcode : cmdOf w = 0o14) (hlength : w.length = 50)
    (hform : setField w 0 11 0 = 0) (hcustody : s.toll.metro = .custody) (hroom : s.logFull = false)
    (hzero : setField w 1 17 8 = 0) :
    ∃ t, exec .thInstallMeterKey s = .next t ∧
      (∀ key, openMeterKey (setWide w 1 29) (w.drop 30) = some key →
        t.thAnswered (.thCommand n w) 0 = true ∧ t.toll.meterKey = some key) ∧
      (openMeterKey (setWide w 1 29) (w.drop 30) = none →
        t.thAnswered (.thCommand n w) 4 = true ∧ t.toll.meterKey = s.toll.meterKey) := by
  obtain ⟨t, u, ht, ⟨hu, -⟩, hanswered, htoll, -⟩ := exec_thServe (s := s) (i := .thInstallMeterKey)
    (run := State.meterKeyInstalled) rfl rfl
    (State.commandMet_custody (ok := fun a => setField a 0 17 8 = 0) htakes hcode hlength hform
      (by rw [setField_drop]; exact decide_eq_true hzero) hcustody hroom) (fun _ _ => .inr ⟨by decide, by decide⟩)
  rw [State.meterKeyInstalled, setWide_drop, List.drop_drop] at hanswered htoll
  refine ⟨t, ht, fun key hkey => ?_, fun hnone => ?_⟩
  · rw [hkey] at hanswered htoll
    refine ⟨hanswered, ?_⟩
    rw [htoll]
    exact (State.tollLog_judges ..).part TollUnit.meterKey (fun _ _ _ _ _ _ _ _ _ => rfl)
  · rw [hnone] at hanswered htoll
    refine ⟨hanswered, ?_⟩
    rw [htoll]
    exact (congrArg TollUnit.meterKey hu :)

theorem thVerify_marks (htakes : s.thTakes n w = true) (hcode : cmdOf w = 0o15) (hlength : w.length = 1)
    (hform : setField w 0 11 0 = 0) (hcustody : s.toll.metro = .custody) (hroom : s.logFull = false) :
    ∃ t, exec .thVerify s = .next t ∧ t.thAnswered (.thCommand n w) 0 = true ∧ t.toll.verifyMark = true := by
  obtain ⟨t, u, ht, -, hanswered, htoll, -⟩ := exec_thServe (s := s) (i := .thVerify) rfl rfl
    (State.commandMet_custody (ok := anyArgs) htakes hcode hlength hform rfl hcustody hroom) (fun _ _ => .inl rfl)
  exact ⟨t, ht, hanswered, by rw [htoll]⟩

theorem thCloseCustody_closes (htakes : s.thTakes n w = true) (hcode : cmdOf w = 0o16) (hlength : w.length = 1)
    (hform : setField w 0 11 0 = 0) (hcustody : s.toll.metro = .custody) (hroom : s.logFull = false) :
    ∃ t, exec .thCloseCustody s = .next t ∧
      t.thAnswered (.thCommand n w) 0 = true ∧ t.toll.metro = .unverified ∧ t.toll.verifyMark = false := by
  obtain ⟨t, u, ht, ⟨hu, -⟩, hanswered, htoll, -⟩ := exec_thServe (s := s) (i := .thCloseCustody) rfl rfl
    (State.commandMet_custody (ok := anyArgs) htakes hcode hlength hform rfl hcustody hroom) (fun _ _ => .inl rfl)
  refine ⟨t, ht, hanswered, ?_⟩
  rw [htoll]
  exact State.tollCloseCustody_unverified (s := u) (by rw [hu]; exact hcustody) rfl

end

/-- Settles O39, one lemma for each command of the Tollhouse. -/
theorem tollhouseCommandsComplete : Obligations.TollhouseCommandsComplete :=
  ⟨fun _ _ _ htakes hcode hlength hform hrunning => thReadIdent_reads htakes hcode hlength hform hrunning,
    fun _ _ _ htakes hcode hlength hform hrunning hblank harg => thReadPoint_reads htakes hcode hlength hform hrunning hblank harg,
    fun _ _ _ htakes hcode hlength hform hrunning hblank hrecord hseq =>
      thReadRecord_reads htakes hcode hlength hform hrunning hblank hrecord hseq,
    fun _ _ _ htakes hcode hlength hform hleast hmost hlate hmetro =>
      thAdjustTime_adjusts htakes hcode hlength hform hleast hmost hlate hmetro,
    fun _ _ _ htakes hcode hlength hform hrunning hblank harg => thDemandReset_one htakes hcode hlength hform hrunning hblank harg,
    fun _ _ _ htakes hcode hlength hform hrunning hblank hall harg =>
      thDemandReset_all htakes hcode hlength hform hrunning hblank hall harg,
    fun _ _ _ htakes hcode hlength hform hcustody hroom harg hdate =>
      thSetTime_sets htakes hcode hlength hform hcustody hroom harg hdate,
    fun _ _ _ htakes hcode hlength hform hcustody hroom harg => thSetCal_sets htakes hcode hlength hform hcustody hroom harg,
    fun _ _ _ htakes hcode hlength hform hcustody hroom hzero hinterval hnew =>
      thSetInterval_sets htakes hcode hlength hform hcustody hroom hzero hinterval hnew,
    fun _ _ _ htakes hcode hlength hform hcustody hroom hzero =>
      thInstallAuthority_installs htakes hcode hlength hform hcustody hroom hzero,
    fun _ _ _ htakes hcode hlength hform hcustody hroom hzero =>
      thInstallMeterKey_installs htakes hcode hlength hform hcustody hroom hzero,
    fun _ _ _ htakes hcode hlength hform hcustody hroom => thVerify_marks htakes hcode hlength hform hcustody hroom,
    fun _ _ _ htakes hcode hlength hform hcustody hroom => thCloseCustody_closes htakes hcode hlength hform hcustody hroom⟩

end Sys2Proof.Machine

namespace Sys2Proof.Machine

/-! ## Parameter sets (R403) -/

section
variable {s u : State} {n : Nat} {w : List Word}

/-- What LEGAL_PARAMS does in a state (R403). -/
def State.paramsTaken (w : List Word) (s : State) : State × Nat :=
  if s.toll.metro = Metro.halted then (s, thHalted) else s.takeFragment (wordAt w 0) (w.drop 1)

theorem exec_legalParamsRx (harrives : s.arrives .thDown .legal (.legalParams n w) = true)
    (hnew : s.toll.results.any (fun e => decide (e.1 = .legalParams n w)) = false) :
    ∃ t u, exec .legalParamsRx s = .next t ∧ State.TollStands s u ∧ t.thAnswered (.legalParams n w) (u.paramsTaken w).2 = true ∧
      t.toll = { (u.paramsTaken w).1.toll with results := t.toll.results } := by
  obtain ⟨u, htake, hu⟩ := State.clear_take_of_arrives (want := isLegalParams) harrives rfl
  obtain ⟨t, ht, -, hsame⟩ := exec_reaches (s := s) (i := .legalParamsRx)
    (u := u.tollRequest (.legalParams n w) n (State.paramsTaken w)) rfl (by simp only [htake]; rfl)
  obtain ⟨hrequest, -⟩ := State.tollRequest_of_new (s := u) (m := .legalParams n w) (n := n) (run := State.paramsTaken w)
    (by rw [hu.toll]; exact hnew)
  have htoll := (hsame .toll (by decide) rfl).trans hrequest
  exact ⟨t, u, ht, hu.tollStands, State.thAnswered_of_results (congrArg TollUnit.results htoll), by rw [htoll]⟩

/-- The assembly of a point's set. -/
def State.putAssembly (s : State) (p : Nat) (a : Option Assembly) : State :=
  { s with toll := { s.toll with assembly := tabPut none s.toll.assembly p a } }

theorem State.putAssembly_read (s : State) (p : Nat) (a : Option Assembly) :
    tabGet none (s.putAssembly p a).toll.assembly p = a :=
  tabGet_tabPut_same ..

theorem State.takeFragment_first {p1 : Word} (hfirst : bits p1.toNat 5 3 = 0) (hmore : 0 < bits p1.toNat 2 0) (l : List Word) :
    s.takeFragment p1 l =
      (s.putAssembly (bits p1.toNat 17 6) (some { next := 1, last := bits p1.toNat 2 0, words := l }), thDone) := by
  unfold State.takeFragment
  dsimp only
  rw [hfirst]
  exact if_pos hmore

theorem State.takeFragment_lost {p1 : Word} (hlater : 0 < bits p1.toNat 5 3)
    (hnone : tabGet none s.toll.assembly (bits p1.toNat 17 6) = none) (l : List Word) :
    s.takeFragment p1 l = (s.putAssembly (bits p1.toNat 17 6) none).refuseSet (bits p1.toNat 17 6) 0 thFragment := by
  unfold State.takeFragment
  dsimp only
  rw [if_neg (Nat.ne_of_gt hlater), hnone]
  rfl

theorem legalParamsRx_begins {w0 : Word} (harrives : s.arrives .thDown .legal (.legalParams n (w0 :: w)) = true)
    (hnew : s.toll.results.any (fun e => decide (e.1 = .legalParams n (w0 :: w))) = false) (hrunning : s.toll.metro ≠ .halted)
    (hfirst : bits w0.toNat 5 3 = 0) (hmore : 0 < bits w0.toNat 2 0) :
    ∃ t, exec .legalParamsRx s = .next t ∧ t.thAnswered (.legalParams n (w0 :: w)) 0 = true ∧
      tabGet none t.toll.assembly (bits w0.toNat 17 6) = some { next := 1, last := bits w0.toNat 2 0, words := w } := by
  obtain ⟨t, u, ht, ⟨hu, -⟩, hanswered, htoll⟩ := exec_legalParamsRx harrives hnew
  have htaken : u.paramsTaken (w0 :: w) =
      (u.putAssembly (bits w0.toNat 17 6) (some { next := 1, last := bits w0.toNat 2 0, words := w }), thDone) := by
    rw [State.paramsTaken, hu, if_neg hrunning]
    exact State.takeFragment_first hfirst hmore w
  rw [htaken] at hanswered htoll
  have hassembly : t.toll.assembly = (u.putAssembly (bits w0.toNat 17 6)
    (some { next := 1, last := bits w0.toNat 2 0, words := w })).toll.assembly := (congrArg TollUnit.assembly htoll :)
  exact ⟨t, ht, hanswered, by rw [hassembly, State.putAssembly_read]⟩

theorem legalParamsRx_halted (harrives : s.arrives .thDown .legal (.legalParams n w) = true)
    (hnew : s.toll.results.any (fun e => decide (e.1 = .legalParams n w)) = false) (hhalted : s.toll.metro = .halted) :
    ∃ t, exec .legalParamsRx s = .next t ∧ t.thAnswered (.legalParams n w) 6 = true ∧ t.toll.assembly = s.toll.assembly := by
  obtain ⟨t, u, ht, ⟨hu, -⟩, hanswered, htoll⟩ := exec_legalParamsRx harrives hnew
  have htaken : u.paramsTaken w = (u, thHalted) := by rw [State.paramsTaken, hu, if_pos hhalted]
  rw [htaken] at hanswered htoll
  refine ⟨t, ht, hanswered, ?_⟩
  rw [htoll]
  exact (congrArg TollUnit.assembly hu :)

theorem legalParamsRx_lost {w0 : Word} (harrives : s.arrives .thDown .legal (.legalParams n (w0 :: w)) = true)
    (hnew : s.toll.results.any (fun e => decide (e.1 = .legalParams n (w0 :: w))) = false) (hrunning : s.toll.metro ≠ .halted)
    (hlater : 0 < bits w0.toNat 5 3) (hnone : tabGet none s.toll.assembly (bits w0.toNat 17 6) = none) :
    ∃ t, exec .legalParamsRx s = .next t ∧ t.thAnswered (.legalParams n (w0 :: w)) 0o13 = true ∧
      tabGet none t.toll.assembly (bits w0.toNat 17 6) = none := by
  obtain ⟨t, u, ht, ⟨hu, -⟩, hanswered, htoll⟩ := exec_legalParamsRx harrives hnew
  have htaken : u.paramsTaken (w0 :: w) = (u.putAssembly (bits w0.toNat 17 6) none).refuseSet (bits w0.toNat 17 6) 0 thFragment := by
    rw [State.paramsTaken, hu, if_neg hrunning]
    exact State.takeFragment_lost hlater (by rw [hu]; exact hnone) w
  rw [htaken] at hanswered htoll
  refine ⟨t, ht, hanswered, ?_⟩
  rw [htoll]
  have hkept := (State.tollLog_judges (s := u.putAssembly (bits w0.toNat 17 6) none) (u.putAssembly (bits w0.toNat 17 6) none).legalTime
    0o155016 (bits w0.toNat 17 6) (wide 2 0 ++ [0, BitVec.ofNat 18 thFragment])).part TollUnit.assembly
      (fun _ _ _ _ _ _ _ _ _ => rfl)
  exact (congrArg (tabGet none · (bits w0.toNat 17 6)) hkept).trans (State.putAssembly_read ..)

end

/-! ## The interval (R406, R415) -/

section
variable {s : State}

/-- The sets that a change of the interval makes stale are logged. -/
def State.staleLogged (s : State) (t : Nat) (l : List (Nat × Nat)) : State :=
  l.foldl (fun s e => s.tollLog t 0o155016 e.1 (wide 2 e.2 ++ [0, 0o10])) s

theorem State.staleLogged_judges (s : State) (t : Nat) (l : List (Nat × Nat)) : State.Judges s (s.staleLogged t l) :=
  List.foldlRecOn l _ (motive := State.Judges s) (.refl s) (fun _ h _ _ => h.trans (State.tollLog_judges ..))

theorem State.tollChange_changes (s : State) (code : Nat) : (s.tollChange code).toll.interval = code ∧
    (s.tollChange code).toll.pendInterval = none ∧ (s.tollChange code).toll.changeDue = false := by
  have hlogged (u : State) (t n : Nat) (arg : List Word) (l : List (Nat × Nat)) (hu : u.toll.interval = code ∧
      u.toll.pendInterval = none ∧ u.toll.changeDue = false) :
      ((u.tollLog t n 0 arg).staleLogged t l).toll.interval = code ∧
        ((u.tollLog t n 0 arg).staleLogged t l).toll.pendInterval = none ∧
        ((u.tollLog t n 0 arg).staleLogged t l).toll.changeDue = false := by
    have h := (State.tollLog_judges (s := u) t n 0 arg).trans (State.staleLogged_judges _ t l)
    rw [h.part TollUnit.interval (fun _ _ _ _ _ _ _ _ _ => rfl), h.part TollUnit.pendInterval (fun _ _ _ _ _ _ _ _ _ => rfl),
      h.part TollUnit.changeDue (fun _ _ _ _ _ _ _ _ _ => rfl)]
    exact hu
  exact hlogged _ _ _ _ _ ⟨rfl, rfl, rfl⟩

theorem intervalChangeApply_changes {code hour : Nat} (hbooted : s.toll.booted = true)
    (hpending : s.toll.pendInterval = some (code, hour)) (hdue : s.toll.changeDue = true) :
    ∃ t, exec .intervalChangeApply s = .next t ∧
      t.toll.interval = code ∧ t.toll.pendInterval = none ∧ t.toll.changeDue = false := by
  obtain ⟨t, ht, htoll⟩ := exec_reaches_toll (s := s) (i := .intervalChangeApply) (u := s.clear.tollChange code) rfl
    (by simp [hpending, hdue, hbooted])
  exact ⟨t, ht, by rw [htoll]; exact State.tollChange_changes ..⟩

theorem State.tollBoundary_curStart (s : State) (t more : Nat) : (s.tollBoundary t more).toll.curStart = t := by
  unfold State.tollBoundary
  dsimp only
  split <;> rfl

theorem intervalBoundary_opens (hbooted : s.toll.booted = true) (hruns : s.toll.stopped = false) (hdue : s.toll.changeDue = false)
    (hend : s.toll.curStart + s.intervalLen ≤ timeEnd) :
    ∃ t, exec .intervalBoundary s = .next t ∧
      t.toll.curStart = s.toll.curStart + s.intervalLen ∧
      t.now = max s.now (s.whenLegal (s.toll.curStart + s.intervalLen)) := by
  have hgoes : ¬ (!s.clear.toll.booted || s.clear.toll.stopped || s.clear.toll.changeDue ||
      decide (timeEnd < s.clear.toll.curStart + s.clear.intervalLen)) = true := by
    have hlate : ¬ timeEnd < s.toll.curStart + s.clear.intervalLen := Nat.not_lt.mpr hend
    simp [hbooted, hruns, hdue, hlate]
  obtain ⟨t, ht, hnow, htoll⟩ := exec_reaches_toll_later (s := s) (i := .intervalBoundary) rfl (if_neg hgoes)
  rw [(State.tollBoundary_meters ..).now, State.upTo_now] at hnow
  exact ⟨t, ht, by rw [htoll, State.tollBoundary_curStart]; rfl, hnow⟩

end

/-! ## Volume (R409 to R411) -/

section
variable {s : State}

theorem State.tollLog_point (s : State) (t e p q : Nat) (arg : List Word) : (s.tollLog t e p arg).point q = s.point q := by
  rw [State.point, State.point, State.tollLog_points]

/-- What an increase makes of its point. -/
theorem State.addVolume_point (s : State) (p reg n : Nat) : (s.addVolume p reg n true).point p = { s.point p with
    regs := tabPut 0 (s.point p).regs reg (min (tabGet 0 (s.point p).regs reg + n) regMax)
    cur := min ((s.point p).cur + n) regMax } := by
  have hput (v : TollPoint) : (s.updPoint p v).point p = v := tabGet_tabPut_same ..
  unfold State.addVolume
  dsimp only
  split
  · rw [State.tollLog_point, hput]
    rfl
  · rw [hput]
    rfl

theorem pulseCount_adds {input : Fin 8} {p : Nat} (hmetering : s.metering = true)
    (hpoint : s.pointsWith (fun w => setSource w = 1 && setInput w = input.val) = [p]) :
    ∃ t, exec (.pulseCount input) s = .next t ∧
      tabGet 0 (t.point p).regs (s.point p).tariff =
        min (tabGet 0 (s.point p).regs (s.point p).tariff + setConstant (s.point p).set) regMax ∧
      (t.point p).cur = min ((s.point p).cur + setConstant (s.point p).set) regMax := by
  have hmetering' : ¬ (!s.clear.metering) = true := by rw [show s.clear.metering = true from hmetering]; decide
  have hpoint' : s.clear.pointsWith (fun w => setSource w = 1 && setInput w = input.val) = [p] := hpoint
  obtain ⟨t, ht, htoll⟩ := exec_reaches_toll (s := s) (i := .pulseCount input)
    (u := s.clear.addVolume p (s.clear.point p).tariff (setConstant (s.clear.point p).set) true) rfl
    ((if_neg hmetering').trans (by rw [hpoint']; rfl))
  have hadded : t.point p = (s.clear.addVolume p (s.point p).tariff (setConstant (s.point p).set) true).point p :=
    (congrArg (fun v : TollUnit => tabGet {} v.points p) htoll :)
  rw [State.addVolume_point] at hadded
  exact ⟨t, ht, by rw [hadded]; exact tabGet_tabPut_same .., by rw [hadded]; rfl⟩

/-- A sample within the loop's range, and above the cut, adds its flow (R411). -/
theorem State.addSample_adds {code p : Nat} (hlow : 36 * 262144 ≤ 250 * code) (hhigh : 250 * code ≤ 210 * 262144)
    (hcut : setLowCut (s.point p).set * (16 * 262144) ≤ (25 * code - 4 * 262144) * 1000) :
    ((s.addSample code p).point p).fraction =
        ((s.point p).fraction + (25 * code - 4 * 262144) * setConstant (s.point p).set) % flowUnit ∧
      ((s.addSample code p).point p).cur = min ((s.point p).cur +
        ((s.point p).fraction + (25 * code - 4 * 262144) * setConstant (s.point p).set) / flowUnit) regMax := by
  have hrange : ¬ (250 * code < 36 * 262144 ∨ 210 * 262144 < 250 * code) :=
    not_or.mpr ⟨Nat.not_lt.mpr hlow, Nat.not_lt.mpr hhigh⟩
  unfold State.addSample
  dsimp only
  rw [if_neg hrange, if_neg (Nat.not_lt.mpr hcut)]
  generalize (s.point p).fraction + (25 * code - 4 * 262144) * setConstant (s.point p).set = sum
  generalize flowUnit = unit
  have hput (v : TollPoint) : (s.updPoint p v).point p = v := tabGet_tabPut_same ..
  rw [State.addVolume_point, hput]
  exact ⟨rfl, rfl⟩

theorem analogueSample_adds {input : Fin 4} {code : Word} {p : Nat} (hmetering : s.metering = true)
    (hmain : s.toll.onBackup = false) (hpoint : s.pointsWith (fun w => setSource w = 2 && setInput w = input.val) = [p])
    (hlow : 36 * 262144 ≤ 250 * code.toNat) (hhigh : 250 * code.toNat ≤ 210 * 262144)
    (hcut : setLowCut (s.point p).set * (16 * 262144) ≤ (25 * code.toNat - 4 * 262144) * 1000) :
    ∃ t, exec (.analogueSample input code) s = .next t ∧
      (t.point p).fraction =
        ((s.point p).fraction + (25 * code.toNat - 4 * 262144) * setConstant (s.point p).set) % flowUnit ∧
      (t.point p).cur = min ((s.point p).cur + ((s.point p).fraction +
        (25 * code.toNat - 4 * 262144) * setConstant (s.point p).set) / flowUnit) regMax := by
  have hgoes : ¬ (!s.clear.metering || s.clear.toll.onBackup) = true := by
    rw [show s.clear.metering = true from hmetering, State.clear_toll, hmain]
    decide
  have hpoint' : s.clear.pointsWith (fun w => setSource w = 2 && setInput w = input.val) = [p] := hpoint
  obtain ⟨t, ht, htoll⟩ := exec_reaches_toll (s := s) (i := .analogueSample input code) (u := s.clear.addSample code.toNat p) rfl
    ((if_neg hgoes).trans (by rw [hpoint']; rfl))
  have hadded : t.point p = (s.clear.addSample code.toNat p).point p :=
    (congrArg (fun v : TollUnit => tabGet {} v.points p) htoll :)
  exact ⟨t, ht, by rw [hadded]; exact State.addSample_adds (s := s.clear) hlow hhigh hcut⟩

end

/-! ## Sections of the stations (R414) -/

section
variable {s : State}

theorem meterSectionRx_waits {x y : Nat} {b : List Nat} (harrives : s.arrives .thDown .legal (.meterSection x y b) = true) :
    ∃ t, exec .meterSectionRx s = .next t ∧ t.toll.arrived = s.toll.arrived ++ [.meterSection x y b] := by
  obtain ⟨u, htake, hu⟩ := State.clear_take_of_arrives (want := isMeterSection) harrives rfl
  obtain ⟨t, ht, -, hsame⟩ := exec_reaches (s := s) (i := .meterSectionRx)
    (u := { u with toll := { u.toll with arrived := u.toll.arrived ++ [.meterSection x y b] } }) rfl (by simp only [htake])
  have htoll := hsame .toll (by decide) rfl
  refine ⟨t, ht, ?_⟩
  rw [htoll]
  exact congrArg (fun v : TollUnit => v.arrived ++ _) hu.toll

/-- Between two states no time passed, and no section came or was taken. -/
def State.SectionsWait (s t : State) : Prop := t.now = s.now ∧ t.toll.arrived = s.toll.arrived

namespace State.SectionsWait

variable {s t u : State}

theorem refl (s : State) : SectionsWait s s := ⟨rfl, rfl⟩

theorem trans (h : SectionsWait s t) (h' : SectionsWait t u) : SectionsWait s u := ⟨h'.1.trans h.1, h'.2.trans h.2⟩

theorem foldl {α : Type} {f : State → α → State} (hf : ∀ s x, SectionsWait s (f s x)) (l : List α) (s : State) :
    SectionsWait s (l.foldl f s) :=
  List.foldlRecOn l f (motive := SectionsWait s) (refl s) (fun _ h x _ => h.trans (hf _ x))

theorem ite {c : Prop} [Decidable c] (ht : SectionsWait s t) (hu : SectionsWait s u) : SectionsWait s (if c then t else u) := by
  split
  · exact ht
  · exact hu

theorem of_meters (h : Meters s t) : SectionsWait s t := ⟨h.now, by rw [h]⟩

end State.SectionsWait

theorem State.addVolume_wait (s : State) (p reg n : Nat) (current : Bool) : State.SectionsWait s (s.addVolume p reg n current) := by
  have hlog (u : State) (hu : State.SectionsWait s u) (c : Prop) [Decidable c] (t e : Nat) (arg : List Word) :
      State.SectionsWait s (if c then u.tollLog t e p arg else u) :=
    .ite (hu.trans (.of_meters (State.tollLog_meters ..))) hu
  exact hlog _ (.of_meters (State.updPoint_meters ..)) _ _ _ _

/-- The reading of an entry that passed checks 4 to 6. -/
def State.entryRead (s : State) (p dec mseq reading : Nat) (past : Option Nat) (v : TollPoint) : State :=
  let s := s.updPoint p { v with lastMseq := some mseq }
  match v.lastReading with
  | none => s.updPoint p { v with lastMseq := some mseq, lastReading := some reading }
  | some last =>
    if reading < last then s.tollLog s.legalTime 0o155022 p (argE9 2)
    else
      let s := s.updPoint p { v with lastMseq := some mseq, lastReading := some reading }
      if dec = s.curMin then s.addVolume p v.tariff (reading - last) true
      else
        let s := s.addVolume p (past.getD 0) (reading - last) false
        if s.toll.marked.contains dec then s
        else { s with toll := { s.toll with
          marked := s.toll.marked.filter (fun m => decide (m < dec)) ++ [dec] ++
            s.toll.marked.filter (fun m => decide (dec < m)) } }

theorem State.entryRead_wait (s : State) (p dec mseq reading : Nat) (past : Option Nat) (v : TollPoint) :
    State.SectionsWait s (s.entryRead p dec mseq reading past v) := by
  unfold State.entryRead
  split
  · exact .of_meters ((State.updPoint_meters ..).trans (State.updPoint_meters ..))
  · refine .ite (.of_meters ((State.updPoint_meters ..).trans (State.tollLog_meters ..))) ?_
    have hread : State.SectionsWait s _ := .of_meters ((State.updPoint_meters s p { v with lastMseq := some mseq }).trans
      (State.updPoint_meters _ p { v with lastMseq := some mseq, lastReading := some reading }))
    refine .ite (hread.trans (State.addVolume_wait ..)) ?_
    have hlate (u : State) (hu : State.SectionsWait s u) : State.SectionsWait s (if u.toll.marked.contains dec then u
        else { u with toll := { u.toll with
          marked := u.toll.marked.filter (fun m => decide (m < dec)) ++ [dec] ++ u.toll.marked.filter (fun m => decide (dec < m)) } }) :=
      .ite hu (hu.trans ⟨rfl, rfl⟩)
    exact hlate _ (hread.trans (State.addVolume_wait ..))

/-- Checks 4 to 6 on an entry, of which one may count it. -/
def State.entryJudged (s : State) (p reading dec mseq : Nat) : State :=
  let v := s.point p
  let len := intervalMin s.toll.interval
  let past := (v.history.find? (fun h => h.1 = dec)).map Prod.snd
  let before := decide (dec < s.toll.changedMin)
  let repeated := match v.lastMseq with
    | some m => decide (mseq ≤ m)
    | none => false
  if repeated then { s with toll := { s.toll with repeat_ := satInc 18 s.toll.repeat_ } }
  else if !before && (dec % len ≠ 0 || decide (s.curMin < dec)) then
    { s with toll := { s.toll with future := satInc 18 s.toll.future } }
  else if before || decide (setLateness v.set < (s.curMin - dec) / len) || (decide (dec < s.curMin) && past.isNone) then
    { s with toll := { s.toll with lateRefused := satInc 18 s.toll.lateRefused, lateRun := s.toll.lateRun + 1 } }
  else s.entryRead p dec mseq reading past v

theorem State.entryJudged_wait (s : State) (p reading dec mseq : Nat) :
    State.SectionsWait s (s.entryJudged p reading dec mseq) :=
  .ite ⟨rfl, rfl⟩ (.ite ⟨rfl, rfl⟩ (.ite ⟨rfl, rfl⟩ (State.entryRead_wait ..)))

theorem State.meterEntry_wait (s : State) (station : Nat) (b : List Nat) (i : Nat) :
    State.SectionsWait s (s.meterEntry station b i) := by
  unfold State.meterEntry
  dsimp only
  split
  · exact .refl s
  · next p _ _ =>
    have htamper (c : Prop) [Decidable c] : State.SectionsWait s (if c then
        (s.updPoint p { s.point p with tamperLogged := true }).tollLog s.legalTime 0o155031 p (argE9 station) else s) :=
      .ite (.of_meters ((State.updPoint_meters ..).trans (State.tollLog_meters ..))) (.refl s)
    exact (htamper _).trans (State.entryJudged_wait _ p _ _ _)

theorem State.meterSection_wait (s : State) (station : Nat) (b : List Nat) : State.SectionsWait s (s.meterSection station b) :=
  .ite (.refl s) (.ite ⟨rfl, rfl⟩ (.ite ⟨rfl, rfl⟩ (.ite ⟨rfl, rfl⟩
    (.trans (t := { s with toll := { s.toll with sectionsOk := satInc 36 s.toll.sectionsOk } }) ⟨rfl, rfl⟩
      (.foldl (fun _ _ => State.meterEntry_wait ..) ..)))))

/-- A tick takes every section that has arrived. -/
def State.arrivalsTaken (s : State) : State :=
  s.toll.arrived.foldl (fun s m => match m with
    | .meterSection station _ b => s.meterSection station b
    | _ => s) { s with toll := { s.toll with arrived := [] } }

theorem State.arrivalsTaken_wait (s : State) :
    State.SectionsWait { s with toll := { s.toll with arrived := [] } } s.arrivalsTaken :=
  .foldl (fun u m => by split; exacts [State.meterSection_wait .., .refl u]) ..

/-- A tick, at the time it comes. -/
def State.ticked (s : State) (x : Nat) : State := (s.upTo x).arrivalsTaken

theorem State.ticked_parts (s : State) (x : Nat) : (s.ticked x).toll.arrived = [] ∧ (s.ticked x).now = max s.now x := by
  obtain ⟨hstill, hempty⟩ := State.arrivalsTaken_wait (s.upTo x)
  exact ⟨hempty, hstill.trans (State.upTo_now s x)⟩

theorem meteringTick_takes (hbooted : s.toll.booted = true) :
    ∃ t, exec .meteringTick s = .next t ∧
      t.toll.arrived = [] ∧ t.now = max s.now ((s.now / (secs 1 / 32) + 1) * (secs 1 / 32)) := by
  have hgoes : ¬ (!s.clear.toll.booted) = true := by rw [State.clear_toll, hbooted]; decide
  obtain ⟨t, ht, hnow, htoll⟩ := exec_reaches_toll_later (s := s) (i := .meteringTick)
    (u := s.clear.ticked ((s.clear.now / (secs 1 / 32) + 1) * (secs 1 / 32))) rfl (if_neg hgoes)
  rw [State.clear_now] at hnow htoll
  generalize (s.now / (secs 1 / 32) + 1) * (secs 1 / 32) = x at hnow htoll ⊢
  obtain ⟨harrived, hclock⟩ := s.clear.ticked_parts x
  exact ⟨t, ht, (congrArg TollUnit.arrived htoll).trans harrived, hnow.trans hclock⟩

end

/-! ## Reports, the status block and the display (R419, R420, R427) -/

section
variable {s : State}

/-- The report at `i` is signed and kept. -/
def State.reportSigned (s : State) (i : Nat) (r : TollReport) : State :=
  let (sig, s) := s.tollSign r.words
  let n := s.toll.thSeq % 262143 + 1
  let s := { s with toll := { s.toll with reports := s.toll.reports.set i { r with signature := sig, seq := n } } }
  s.tollKeep (fun n => .logEntry n (r.words ++ sig))

theorem State.reportSigned_parts (s : State) (i : Nat) (r : TollReport) :
    (s.reportSigned i r).free = s.free + 1 ∧
      (s.reportSigned i r).toll.reports =
        s.toll.reports.set i { r with signature := (s.tollSign r.words).1, seq := s.toll.thSeq % 262143 + 1 } ∧
      (s.reportSigned i r).toll.kept =
        s.toll.kept ++ [.logEntry (s.toll.thSeq % 262143 + 1) (r.words ++ (s.tollSign r.words).1)] := by
  unfold State.reportSigned
  dsimp only
  rw [State.tollKeep_free, State.tollKeep_toll]
  exact ⟨rfl, rfl, rfl⟩

theorem findIdx?_unsigned {before rest : List TollReport} {r : TollReport}
    (hbefore : before.all (fun x => !x.signature.isEmpty) = true) (hr : r.signature = []) :
    (before ++ r :: rest).findIdx? (fun x => x.signature.isEmpty) = some before.length := by
  have hnone : before.findIdx? (fun x => x.signature.isEmpty) = none :=
    List.findIdx?_eq_none_iff.mpr fun x hx => by simpa using List.all_eq_true.mp hbefore x hx
  simp [List.findIdx?_append, hnone, List.findIdx?_cons, hr]

theorem reportSigned_signs {before rest : List TollReport} {r : TollReport} (hreports : s.toll.reports = before ++ r :: rest)
    (hbefore : before.all (fun x => !x.signature.isEmpty) = true) (hr : r.signature = []) (hvt : s.tollOnVt = true) :
    ∃ t, exec .reportSigned s = .next t ∧
      t.toll.reports = before ++ { r with signature := (s.tollSign r.words).1, seq := s.toll.thSeq % 262143 + 1 } :: rest ∧
      t.free = s.free + 1 ∧
      t.toll.kept = s.toll.kept ++ [.logEntry (s.toll.thSeq % 262143 + 1) (r.words ++ (s.tollSign r.words).1)] := by
  have hvt' : ¬ (!s.clear.tollOnVt) = true := by rw [show s.clear.tollOnVt = true from hvt]; decide
  obtain ⟨t, ht, -, hsame⟩ := exec_reaches (s := s) (i := .reportSigned) (u := s.clear.reportSigned before.length r) rfl (by
    have hfound : s.clear.toll.reports.findIdx? (fun x => x.signature.isEmpty) = some before.length := by
      rw [State.clear_toll, hreports]; exact findIdx?_unsigned hbefore hr
    have hget : s.clear.toll.reports[before.length]? = some r := by
      rw [State.clear_toll, hreports]; simp
    simp only [hfound, hget]
    exact if_neg hvt')
  obtain ⟨hfree, hreported, hkept⟩ := s.clear.reportSigned_parts before.length r
  refine ⟨t, ht, ?_, (hsame .free (by decide) rfl).trans hfree, (congrArg TollUnit.kept (hsame .toll (by decide) rfl)).trans hkept⟩
  calc t.toll.reports = (s.clear.reportSigned before.length r).toll.reports := congrArg TollUnit.reports (hsame .toll (by decide) rfl)
    _ = _ := hreported
    _ = (before ++ r :: rest).set before.length
        { r with signature := (s.tollSign r.words).1, seq := s.toll.thSeq % 262143 + 1 } := by rw [← hreports]; rfl
    _ = _ := by rw [List.set_append_right _ _ (Nat.le_refl _), Nat.sub_self, List.set_cons_zero]

/-- The status block is written. -/
def State.statusWritten (s : State) : State :=
  { s with toll := { s.toll with statusSent := statusKey s.statusBlock, statusAt := s.now } }.tollKeep
    (fun n => .windowWrite n 0o100 s.statusBlock)

theorem State.statusWritten_toll (s : State) : s.statusWritten.toll = { s.toll with
    statusSent := statusKey s.statusBlock, statusAt := s.now, thSeq := s.toll.thSeq % 262143 + 1
    kept := s.toll.kept ++ [.windowWrite (s.toll.thSeq % 262143 + 1) 0o100 s.statusBlock] } :=
  State.tollKeep_toll ..

theorem State.statusWritten_now (s : State) : s.statusWritten.now = s.now := by
  rw [State.statusWritten, State.tollKeep_speaks]

theorem State.clear_statusBlock (s : State) : s.clear.statusBlock = s.statusBlock := rfl

theorem statusWindowRefresh_changed (hopen : s.wayOpen .thUp = true) (hchanged : statusKey s.statusBlock ≠ s.toll.statusSent) :
    ∃ t, exec .statusWindowRefresh s = .next t ∧
      t.toll.statusSent = statusKey s.statusBlock ∧ t.toll.statusAt = s.now ∧
      t.toll.kept = s.toll.kept ++ [.windowWrite t.toll.thSeq 0o100 s.statusBlock] := by
  have hgoes : ¬ (!s.clear.wayOpen .thUp) = true := by rw [show s.clear.wayOpen .thUp = true from hopen]; decide
  have hchanged' : ¬ statusKey s.clear.statusBlock = s.clear.toll.statusSent := hchanged
  obtain ⟨t, ht, -, hsame⟩ := exec_reaches (s := s) (i := .statusWindowRefresh) (u := s.clear.statusWritten) rfl
    ((if_neg hgoes).trans (by rw [if_neg hchanged']; rfl))
  have htoll := (hsame .toll (by decide) rfl).trans (State.statusWritten_toll ..)
  rw [State.clear_statusBlock] at htoll
  exact ⟨t, ht, by rw [htoll], by rw [htoll]; rfl, by rw [htoll]; rfl⟩

/-- The status block is written when it is due. -/
def State.statusDue (s : State) (x : Nat) : State := (s.upTo x).statusWritten

theorem State.statusDue_parts (s : State) (x : Nat) : (s.statusDue x).now = max s.now x ∧
    (s.statusDue x).toll.statusAt = max s.now x ∧ (s.statusDue x).toll.kept.length = s.toll.kept.length + 1 := by
  refine ⟨(State.statusWritten_now _).trans (State.upTo_now ..), ?_, ?_⟩
  · rw [State.statusDue, State.statusWritten_toll]
    exact State.upTo_now ..
  · rw [State.statusDue, State.statusWritten_toll, State.upTo_toll]
    exact List.length_append

theorem statusWindowRefresh_due (hopen : s.wayOpen .thUp = true) (hsent : statusKey s.statusBlock = s.toll.statusSent) :
    ∃ t, exec .statusWindowRefresh s = .next t ∧
      t.now = max s.now (s.toll.statusAt + secs 1) ∧ t.toll.statusAt = t.now ∧ t.toll.kept.length = s.toll.kept.length + 1 := by
  have hgoes : ¬ (!s.clear.wayOpen .thUp) = true := by rw [show s.clear.wayOpen .thUp = true from hopen]; decide
  have hsent' : statusKey s.clear.statusBlock = s.clear.toll.statusSent := hsent
  have hreached := exec_reaches (s := s) (i := .statusWindowRefresh)
    (u := s.clear.statusDue (s.clear.toll.statusAt + secs 1)) rfl ((if_neg hgoes).trans (by rw [if_pos hsent']; rfl))
  rw [show s.clear.toll.statusAt = s.toll.statusAt by rw [State.clear_toll]] at hreached
  generalize s.toll.statusAt + secs 1 = x at hreached ⊢
  obtain ⟨t, ht, -, hsame⟩ := hreached
  have hnow : t.now = (s.clear.statusDue x).now := hsame .now (by decide) rfl
  have htoll : t.toll = (s.clear.statusDue x).toll := hsame .toll (by decide) rfl
  obtain ⟨hclock, hat, hlength⟩ := s.clear.statusDue_parts x
  rw [State.clear_now] at hclock hat
  exact ⟨t, ht, hnow.trans hclock, by rw [htoll, hat, hnow, hclock], (congrArg (·.kept.length) htoll).trans hlength⟩

theorem displayCycle_shows (hvt : s.tollOnVt = true) :
    ∃ t, exec .displayCycle s = .next t ∧ (∃ lines, Sent.display s.toll.metro.code s.legalTime lines ∈ t.sent) := by
  obtain ⟨t, ht, hsent, -⟩ := exec_reaches (s := s) (i := .displayCycle) rfl (if_pos (c := s.clear.tollOnVt = true) hvt)
  exact ⟨t, ht, _, by rw [hsent]; exact List.mem_append_right _ (List.mem_singleton_self _)⟩

end

/-- Settles O40: each event of metering in turn. -/
theorem meteringCompletes : Obligations.MeteringCompletes :=
  ⟨fun _ _ _ _ harrives hnew hrunning hfirst hmore => legalParamsRx_begins harrives hnew hrunning hfirst hmore,
    fun _ _ _ harrives hnew hhalted => legalParamsRx_halted harrives hnew hhalted,
    fun _ _ _ _ harrives hnew hrunning hlater hnone => legalParamsRx_lost harrives hnew hrunning hlater hnone,
    fun _ _ _ hbooted hpending hdue => intervalChangeApply_changes hbooted hpending hdue,
    fun _ _ _ hmetering hpoint => pulseCount_adds hmetering hpoint,
    fun _ _ _ _ hmetering hmain hpoint hlow hhigh hcut => analogueSample_adds hmetering hmain hpoint hlow hhigh hcut,
    fun _ _ _ _ harrives => meterSectionRx_waits harrives,
    fun _ hbooted => meteringTick_takes hbooted,
    fun _ hbooted hruns hdue hend => intervalBoundary_opens hbooted hruns hdue hend,
    fun _ _ _ _ hreports hbefore hr hvt => reportSigned_signs hreports hbefore hr hvt,
    fun _ hopen hchanged => statusWindowRefresh_changed hopen hchanged,
    fun _ hopen hsent => statusWindowRefresh_due hopen hsent,
    fun _ hvt => displayCycle_shows hvt⟩

end Sys2Proof.Machine

namespace Sys2Proof.Machine

/-! ## Messages of the legal class (R345 to R349) -/

namespace State

section
variable (s : State)

theorem refresh_chansMove (u : Nat) : ChansMove s (s.refresh u) := by
  rw [refresh_eq]
  exact .ite (.trans (t := s.refreshed u) rfl (pump_chansMove ..)) (.refl s)

/-- What a class holds, it holds after a further message. -/
theorem sendMsg_keeps_holds {w : Way} {c : MsgClass} {p : Msg → Bool} (m : Msg) (h : s.holds w c p = true) :
    (s.sendMsg w c m).holds w c p = true := by
  obtain ⟨x, hx, hp⟩ := List.any_eq_true.mp h
  rw [sendMsg, pump_holds, holds, chan_setChan_same]
  refine List.any_eq_true.mpr ⟨x, ?_, hp⟩
  rw [List.mem_append] at hx ⊢
  exact hx.imp_left (List.mem_append_left _)

theorem sendToTollhouse_keeps_holds {p : Msg → Bool} (m : Nat → Msg) (h : s.holds .down .legal p = true) :
    (s.sendToTollhouse m).holds .down .legal p = true := by
  unfold sendToTollhouse
  dsimp only
  split
  · exact sendMsg_keeps_holds _ _ h
  · exact h

/-- A message to the Tollhouse takes its number and waits for its answer: no more changes in the Causeway's unit. -/
theorem sendToTollhouse_cway (m : Nat → Msg) : (s.sendToTollhouse m).cway.th = s.cway.th ∧
    (s.sendToTollhouse m).cway.thLast = s.cway.thLast := by
  have h : ChansMove { s with cway := { s.cway with
      nextHostSeq := s.nextHostSeq % 262143 + 1, outstanding := s.cway.outstanding ++ [(s.nextHostSeq, m s.nextHostSeq)] } }
      (s.sendToTollhouse m) := .ite (sendMsg_chansMove ..) (.refl _)
  rw [show (s.sendToTollhouse m).cway = _ from h]
  exact ⟨rfl, rfl⟩

/-- The parameter sets follow what the legal class holds already. -/
theorem forwardParams_follow {p : Msg → Bool} (h : s.holds .down .legal p = true) :
    s.forwardParams.holds .down .legal p = true ∧ s.forwardParams.cway.th = s.cway.th ∧
      s.forwardParams.cway.thLast = s.cway.thLast := by
  unfold forwardParams
  split
  · exact ⟨h, rfl, rfl⟩
  · refine List.foldlRecOn _ _ (motive := fun t : State =>
      t.holds .down .legal p = true ∧ t.cway.th = s.cway.th ∧ t.cway.thLast = s.cway.thLast) ⟨h, rfl, rfl⟩ ?_
    intro t ⟨hholds, hth, hlast⟩ k _
    have hstep (u : State) (m : Nat → Msg) (hu : u.holds .down .legal p = true ∧ u.cway.th = s.cway.th ∧
        u.cway.thLast = s.cway.thLast) : (u.sendToTollhouse m).holds .down .legal p = true ∧
          (u.sendToTollhouse m).cway.th = s.cway.th ∧ (u.sendToTollhouse m).cway.thLast = s.cway.thLast :=
      ⟨u.sendToTollhouse_keeps_holds m hu.1, (u.sendToTollhouse_cway m).1.trans hu.2.1,
        (u.sendToTollhouse_cway m).2.trans hu.2.2⟩
    exact hstep _ _ (hstep t _ ⟨hholds, hth, hlast⟩)

theorem holdGo_transports : ∃ v : VergeUnit, v.thLink = s.verge.thLink ∧ Transports { s with verge := v } s.holdGo := by
  unfold holdGo
  split
  · refine ⟨{ s.verge with hold := [], msSent := satAdd 36 s.verge.msSent s.verge.hold.length }, rfl, ?_⟩
    exact List.foldlRecOn s.verge.hold _ (motive := Transports _) (.refl _) fun t h m _ => h.trans (sendMsg_transports ..)
  · exact ⟨s.verge, rfl, .refl s⟩

theorem holdGo_link : s.holdGo.toll = s.toll ∧ s.holdGo.verge.thLink = s.verge.thLink := by
  obtain ⟨v, hv, h⟩ := s.holdGo_transports
  rw [h]
  exact ⟨rfl, hv⟩

theorem reportKept_head {m : Msg} (i : Nat) (h : s.toll.kept.head? = some m) : (s.reportKept i).toll.kept.head? = some m := by
  unfold reportKept
  split
  · split
    · exact h
    · exact List.head?_append.trans (by rw [h]; rfl)
  · exact h

/-- TH_HELLO comes first. -/
theorem tollHello_head : s.tollHello.toll.kept.head? = some (.thHello (s.toll.thSeq % 262143 + 1) identityBlock) := by
  rw [tollHello_eq, keptSent_transports]
  exact List.foldlRecOn _ _ (motive := fun t : State =>
    t.toll.kept.head? = some (.thHello (s.toll.thSeq % 262143 + 1) identityBlock)) rfl (fun t h i _ => t.reportKept_head i h)

end

section
variable {s : State}

/-- An acknowledgement of the oldest message kept releases it alone. -/
theorem tollAck_first {m : Msg} {rest : List Msg} (hkept : s.toll.kept = m :: rest) : (s.tollAck (msgSeq m)).toll.kept = rest := by
  have hfound : s.toll.kept.findIdx? (fun x => decide (msgSeq x = msgSeq m)) = some 0 := by
    rw [hkept, List.findIdx?_cons]
    simp
  have hlogged (u : State) (c : Prop) [Decidable c] (hu : u.toll.kept = rest) : (if c then
      { u with toll := { u.toll with logOverflow := 0 } }.tollLog u.legalTime 0o155030 0 (argE9 u.toll.logOverflow) else u).toll.kept
        = rest := by
    split
    · exact ((tollLog_judges ..).part TollUnit.kept (fun _ _ _ _ _ _ _ _ _ => rfl)).trans hu
    · exact hu
  unfold tollAck
  rw [hfound]
  exact hlogged _ _ (by rw [hkept]; rfl)

end
end State

/-! ## Acknowledgements and the relay -/

section
variable {s : State}

theorem thAckRx_releases {n : Nat} {m : Msg} {rest : List Msg} (harrives : s.arrives .thDown .legal (.thAck n) = true)
    (hkept : s.toll.kept = m :: rest) (hseq : msgSeq m = n) : ∃ t, exec .thAckRx s = .next t ∧ t.toll.kept = rest := by
  obtain ⟨u, htake, hu⟩ := State.clear_take_of_arrives (want := isThAck) harrives rfl
  obtain ⟨t, ht, -, hsame⟩ := exec_reaches (s := s) (i := .thAckRx) (u := u.tollAck n) rfl (by simp only [htake])
  subst hseq
  exact ⟨t, ht, (congrArg TollUnit.kept (hsame .toll (by decide) rfl)).trans
    (State.tollAck_first (by rw [hu.toll]; exact hkept))⟩

theorem linkMessageRelay_down {m : Msg} (harrives : s.arrives .down .legal m = true) (htoll : s.isN = false) :
    ∃ t, exec (.linkMessageRelay true none .good) s = .next t ∧ t.holds .thDown .legal (fun x => decide (x = m)) = true := by
  obtain ⟨u, htake, hu⟩ := State.clear_take_of_arrives (want := fun _ => true) harrives rfl
  have hpart : ¬ u.isN = true := by
    rw [show u.isN = s.isN by rw [hu.transports]; rfl, htoll]
    decide
  obtain ⟨t, ht, -, hsame⟩ := exec_reaches (s := s) (i := .linkMessageRelay true none .good) (u := u.sendMsg .thDown .legal m) rfl
    (by simp only [if_true, htake, Bool.not_true, Bool.false_eq_true, if_false, if_neg hpart])
  refine ⟨t, ht, ?_⟩
  rw [State.holds, State.chan_congr (hsame .cway (by decide) rfl)]
  exact State.sendMsg_holds _ _ _ _ (decide_eq_true rfl)

theorem linkMessageRelay_up {m : Msg} (harrives : s.arrives .thUp .legal m = true) :
    ∃ t, exec (.linkMessageRelay false none .good) s = .next t ∧ t.holds .up .legal (fun x => decide (x = m)) = true := by
  obtain ⟨u, htake, -⟩ := State.clear_take_of_arrives (want := fun _ => true) harrives rfl
  obtain ⟨t, ht, -, hsame⟩ := exec_reaches (s := s) (i := .linkMessageRelay false none .good) (u := u.sendMsg .up .legal m) rfl
    (by simp only [Bool.false_eq_true, if_false, htake, Bool.not_false, if_true])
  refine ⟨t, ht, ?_⟩
  rw [State.holds, State.chan_congr (hsame .cway (by decide) rfl)]
  exact State.sendMsg_holds _ _ _ _ (decide_eq_true rfl)

theorem exec_linkMessageRelay_foreign {dir : Bool} {ty : BitVec 6} (hcross : mayCross dir ty.toNat = false)
    (hruns : s.vergeRuns = true) (htoll : s.isN = false) :
    ∃ t, exec (.linkMessageRelay dir (some ty) .good) s = .next t ∧
      t.cway = ((s.clear.vergeEvent 0o13 0o131007 ty.toNat).refresh 0o13).cway ∧
      t.verge = ((s.clear.vergeEvent 0o13 0o131007 ty.toNat).refresh 0o13).verge := by
  have hgoes : ¬ (mayCross dir ty.toNat || !s.clear.vergeRuns || s.clear.isN) = true := by
    rw [hcross, show s.clear.vergeRuns = s.vergeRuns from rfl, hruns, show s.clear.isN = s.isN from rfl, htoll]
    decide
  obtain ⟨t, ht, -, hsame⟩ := exec_reaches (s := s) (i := .linkMessageRelay dir (some ty) .good) rfl (if_neg hgoes)
  exact ⟨t, ht, hsame .cway (by decide) rfl, hsame .verge (by decide) rfl⟩

/-- A STATE_UPDATE of the metering hold that tells of a discarded TYPE. -/
def tellsDiscard (ty : Nat) : Msg → Bool
  | .stateUpdate u _ evs => decide (u = 0o13) && evs.contains (0o131007, ty)
  | _ => false

theorem linkMessageRelay_tells {dir : Bool} {ty : BitVec 6} (hcross : mayCross dir ty.toNat = false)
    (hruns : s.vergeRuns = true) (htoll : s.isN = false) (hlinked : s.linked = true) :
    ∃ t, exec (.linkMessageRelay dir (some ty) .good) s = .next t ∧
      t.holds .up .state (tellsDiscard ty.toNat) = true ∧ t.cway.thBlocked = s.cway.thBlocked := by
  obtain ⟨t, ht, hcway, -⟩ := exec_linkMessageRelay_foreign hcross hruns htoll
  have hopen : (s.clear.vergeEvent 0o13 0o131007 ty.toNat).wayOpen .up = true := by
    rw [show (s.clear.vergeEvent 0o13 0o131007 ty.toNat).wayOpen .up = (s.linked && s.vergeRuns) from rfl, hlinked, hruns]
    rfl
  refine ⟨t, ht, ?_, ?_⟩
  · rw [State.holds, State.chan_congr hcway]
    exact State.refresh_holds _ _ hopen fun more => by simp [tellsDiscard, State.unitEvents, State.vergeEvent]
  · rw [hcway, show ((s.clear.vergeEvent 0o13 0o131007 ty.toNat).refresh 0o13).cway = _ from State.refresh_chansMove ..]
    rfl

theorem linkMessageRelay_waits {dir : Bool} {ty : BitVec 6} (hcross : mayCross dir ty.toNat = false)
    (hruns : s.vergeRuns = true) (htoll : s.isN = false) (hlinked : s.linked = false) :
    ∃ t, exec (.linkMessageRelay dir (some ty) .good) s = .next t ∧
      t.verge.events = s.verge.events ++ [(0o13, 0o131007, ty.toNat)] ∧ t.cway = s.cway := by
  obtain ⟨t, ht, hcway, hverge⟩ := exec_linkMessageRelay_foreign hcross hruns htoll
  have hshut : ¬ (s.clear.vergeEvent 0o13 0o131007 ty.toNat).wayOpen .up = true := by
    rw [show (s.clear.vergeEvent 0o13 0o131007 ty.toNat).wayOpen .up = (s.linked && s.vergeRuns) from rfl, hlinked,
      Bool.false_and]
    decide
  rw [State.refresh_eq, if_neg hshut] at hcway hverge
  exact ⟨t, ht, by rw [hverge]; rfl, hcway⟩

/-! ## The link goes down and up -/

theorem thLinkHeartbeatTimeout_ends (hlink : s.verge.thLink = true) :
    ∃ t, exec .thLinkHeartbeatTimeout s = .next t ∧ t.verge.thLink = false ∧ t.chan .thUp .legal = {} := by
  obtain ⟨t, ht, -, hsame⟩ := exec_reaches (s := s) (i := .thLinkHeartbeatTimeout) rfl
    (if_pos (c := s.clear.verge.thLink = true) hlink)
  refine ⟨t, ht, ?_, ?_⟩
  · rw [show t.verge = _ from hsame .verge (by decide) rfl, State.refresh_verge]
    rfl
  · rw [State.chan_congr (hsame .cway (by decide) rfl), State.refresh_chan_other _ _ (by decide)]
    exact State.chan_setChan_same ..

/-- The Tollhouse link has come up, and nothing has crossed it yet. -/
def State.thLinkUp (s : State) : State :=
  let s := { s with verge := { s.verge with thLink := true } }
  let s := s.setChan .thDown .legal ((s.chan .thDown .legal).fresh (credit0 .thDown .legal))
  s.setChan .thUp .legal { credit := credit0 .thUp .legal }

theorem tollhouseLinkUp_greets (htoll : s.isN = false) (hlink : s.verge.thLink = false) (hvt : s.tollOnVt = true)
    (hruns : s.vergeRuns = true) :
    ∃ t, exec .tollhouseLinkUp s = .next t ∧ t.verge.thLink = true ∧
      t.toll.kept.head? = some (.thHello (s.toll.thSeq % 262143 + 1) identityBlock) := by
  have hgoes : ¬ (s.clear.isN || s.clear.verge.thLink || !s.clear.tollOnVt || !s.clear.vergeRuns) = true := by
    rw [show s.clear.isN = s.isN from rfl, htoll, show s.clear.verge = s.verge from rfl, hlink,
      show s.clear.tollOnVt = s.tollOnVt from rfl, hvt, show s.clear.vergeRuns = s.vergeRuns from rfl, hruns]
    decide
  obtain ⟨t, ht, -, hsame⟩ := exec_reaches (s := s) (i := .tollhouseLinkUp)
    (u := (((s.clear.thLinkUp.tollHello.pump .thDown .legal).holdGo).refresh 0o13)) rfl (if_neg hgoes)
  obtain ⟨hgoToll, hgoLink⟩ := (s.clear.thLinkUp.tollHello.pump .thDown .legal).holdGo_link
  refine ⟨t, ht, ?_, ?_⟩
  · rw [show t.verge = _ from hsame .verge (by decide) rfl, State.refresh_verge]
    refine hgoLink.trans ?_
    rw [State.pump_verge, State.tollHello_speaks]
    rfl
  · rw [show t.toll = _ from hsame .toll (by decide) rfl, State.refresh_toll, hgoToll, State.pump_transports]
    exact s.clear.thLinkUp.tollHello_head

end

/-! ## What the host takes (R347, R420, R447) -/

/-- Words are written at their places, and places that no word has stand. -/
theorem tabGet_foldl_put_other {l : List (Word × Nat)} {off i : Nat} (h : i ∉ l.map Prod.snd) (t : Tab Nat) :
    tabGet 0 (l.foldl (fun (t : Tab Nat) (e : Word × Nat) => tabPut 0 t (off + e.2) e.1.toNat) t) (off + i) =
      tabGet 0 t (off + i) := by
  induction l generalizing t with
  | nil => rfl
  | cons e l ih =>
    rw [List.map_cons, List.mem_cons, not_or] at h
    rw [List.foldl_cons, ih h.2, tabGet_tabPut_other _ _ _ (by omega)]

theorem tabGet_foldl_put {l : List (Word × Nat)} {off i : Nat} {x : Word} (hnodup : (l.map Prod.snd).Nodup) (h : (x, i) ∈ l)
    (t : Tab Nat) :
    tabGet 0 (l.foldl (fun (t : Tab Nat) (e : Word × Nat) => tabPut 0 t (off + e.2) e.1.toNat) t) (off + i) = x.toNat := by
  induction l generalizing t with
  | nil => exact absurd h (by simp)
  | cons e l ih =>
    rw [List.map_cons, List.nodup_cons] at hnodup
    obtain rfl | hl := List.mem_cons.mp h
    · rw [List.foldl_cons, tabGet_foldl_put_other hnodup.1, tabGet_tabPut_same]
    · rw [List.foldl_cons, ih hnodup.2 hl]

namespace State

section
variable {s : State}

theorem windowWrite_window {off i : Nat} {w : List Word} (hi : i ∈ List.range w.length) (hoff : off + i < 1024) :
    tabGet 0 (s.windowWrite off w).cway.window (off + i) = (wordAt w i).toNat := by
  have hlength := List.mem_range.mp hi
  have hword : wordAt w i = w[i] := by rw [wordAt, List.getElem?_eq_getElem hlength]; rfl
  rw [hword]
  refine tabGet_foldl_put ?_ (List.mem_filter.mpr ⟨?_, decide_eq_true hoff⟩) s.cway.window
  · have hsnd : (w.zip (List.range w.length)).map Prod.snd = List.range w.length :=
      List.map_snd_zip (by simp)
    have hnodup : ((w.zip (List.range w.length)).map Prod.snd).Nodup := by
      rw [hsnd]
      exact List.nodup_range
    exact (List.filter_sublist.map Prod.snd).nodup hnodup
  · exact List.mem_iff_getElem.mpr ⟨i, by simpa using hlength, by simp⟩

theorem settleLegal_cway (s : State) : s.settleLegal.cway = s.cway := by
  have h (l : List Nat) : (l.foldl (fun (s : State) (i : Nat) =>
      let n := s.alarmEntry i
      if n.state ≠ AlarmState.free && evClass n.event = 5 && s.legalCleared n.event then s.setAlarmEntry i (entryCleared n)
      else s) s).cway = s.cway :=
    foldl_keeps State.cway _ (fun u i => by dsimp only; split <;> rfl) l s
  exact (settleAlert_cway _).trans (h _)

/-- A message not yet taken is, with its number, and acknowledged. -/
theorem takeSeq_takes {n : Nat} {f : State → State} (hnew : s.cway.taken.contains n = false)
    (hf : ∀ u, (f u).cway.thLast = u.cway.thLast) :
    ∃ u : State, u = { s with cway := { s.cway with taken := (n :: s.cway.taken).take 16384, thLast := n } } ∧
      ChansMove (f u) (s.takeSeq n f) ∧ (s.takeSeq n f).cway.thLast = n ∧
      (s.takeSeq n f).holds .down .legal (fun m => decide (m = .thAck n)) = true := by
  refine ⟨_, rfl, ?_⟩
  rw [takeSeq, if_neg (by rw [hnew]; decide)]
  have hmove := sendMsg_chansMove (f { s with cway := { s.cway with taken := (n :: s.cway.taken).take 16384, thLast := n } })
    .down .legal (.thAck n)
  refine ⟨hmove, ?_, sendMsg_holds _ _ _ _ (decide_eq_true rfl)⟩
  rw [show (sendMsg _ _ _ _).cway = _ from hmove]
  exact hf _

/-- What a write of the legal window brings with it. -/
def windowTaken (off : Nat) (w : List Word) (s : State) : State :=
  let s := s.windowWrite off w
  if off ≤ 0o100 ∧ 0o100 < off + w.length then { s with cway := { s.cway with statusKnown := true } }.settleLegal else s

theorem windowTaken_cway (off : Nat) (w : List Word) (s : State) :
    (s.windowTaken off w).cway = { (s.windowWrite off w).cway with statusKnown := (s.windowTaken off w).cway.statusKnown } := by
  unfold windowTaken
  dsimp only
  split
  · rw [settleLegal_cway]
  · rfl

theorem takeReport_cway (s : State) (n : Nat) (w : List Word) :
    (s.takeReport n w).cway = { s.cway with
      reportCount := s.cway.reportCount + 1, reports := ((n :: w.map BitVec.toNat) :: s.cway.reports).take 16384
      window := (s.takeReport n w).cway.window } := by
  unfold takeReport
  dsimp only
  split <;> rfl

end
end State

section
variable {s : State}

theorem windowWriteRx_writes {n off : Nat} {w : List Word} (harrives : s.arrives .up .legal (.windowWrite n off w) = true)
    (hnew : s.cway.taken.contains n = false) :
    ∃ t, exec (.windowWriteRx .good) s = .next t ∧ t.cway.thLast = n ∧
      (∀ i ∈ List.range w.length, off + i < 1024 → tabGet 0 t.cway.window (off + i) = (wordAt w i).toNat) ∧
      t.holds .down .legal (fun m => decide (m = .thAck n)) = true := by
  obtain ⟨u, htake, hu⟩ := State.clear_take_of_arrives (want := isWindowWrite) harrives rfl
  obtain ⟨t, ht, -, hsame⟩ := exec_reaches (s := s) (i := .windowWriteRx .good) (u := u.takeSeq n (State.windowTaken off w)) rfl
    (by simp only [htake]; rfl)
  have hcway := hsame .cway (by decide) rfl
  obtain ⟨v, -, hmove, hlast, hholds⟩ := State.takeSeq_takes (s := u) (n := n) (f := State.windowTaken off w)
    (by rw [show u.cway.taken = s.cway.taken by rw [hu.transports]; rfl]; exact hnew)
    (fun v => by rw [State.windowTaken_cway]; rfl)
  refine ⟨t, ht, (congrArg CwayUnit.thLast hcway).trans hlast, fun i hi hoff => ?_, ?_⟩
  · rw [show t.cway = _ from hcway, show (u.takeSeq n (State.windowTaken off w)).cway = _ from hmove, State.windowTaken_cway]
    exact State.windowWrite_window hi hoff
  · rw [State.holds, State.chan_congr hcway]
    exact hholds

theorem logEntryRx_keeps {n : Nat} {w : List Word} (harrives : s.arrives .up .legal (.logEntry n w) = true)
    (hnew : s.cway.taken.contains n = false) :
    ∃ t, exec (.logEntryRx .good) s = .next t ∧ t.cway.thLast = n ∧ t.cway.reportCount = s.cway.reportCount + 1 ∧
      t.cway.reports.head? = some (n :: w.map BitVec.toNat) ∧
      t.holds .down .legal (fun m => decide (m = .thAck n)) = true := by
  obtain ⟨u, htake, hu⟩ := State.clear_take_of_arrives (want := isLogEntry) harrives rfl
  obtain ⟨t, ht, -, hsame⟩ := exec_reaches (s := s) (i := .logEntryRx .good) (u := u.takeSeq n (fun s => s.takeReport n w)) rfl
    (by simp only [htake])
  have hcway := hsame .cway (by decide) rfl
  obtain ⟨v, rfl, hmove, hlast, hholds⟩ := State.takeSeq_takes (s := u) (n := n) (f := fun s => s.takeReport n w)
    (by rw [show u.cway.taken = s.cway.taken by rw [hu.transports]; rfl]; exact hnew)
    (fun v => by rw [State.takeReport_cway])
  have hreport := (show t.cway = _ from hcway).trans hmove
  rw [State.takeReport_cway] at hreport
  refine ⟨t, ht, (congrArg CwayUnit.thLast hcway).trans hlast, ?_, by rw [hreport]; rfl, ?_⟩
  · rw [hreport, show s.cway.reportCount = u.cway.reportCount by rw [hu.transports]; rfl]
  · rw [State.holds, State.chan_congr hcway]
    exact hholds

/-- The host meets the Tollhouse again, and sends again what is not answered. -/
def State.thGreeted (s : State) (n : Nat) : State :=
  ({ s with cway := { s.cway with
    th := if s.isN then 2 else 1, taken := if n = 1 then [] else s.cway.taken } }.emitDev 0o130005).resendLegal

theorem State.thGreeted_chansMove (s : State) (n : Nat) : State.ChansMove { s with cway := { s.cway with
    th := if s.isN then 2 else 1, taken := if n = 1 then [] else s.cway.taken } } (s.thGreeted n) :=
  (State.ChansMove.of_cway (State.emitDev_cway ..)).trans (State.resendLegal_chansMove _)

theorem thHelloRx_greets {n : Nat} {w : List Word} (harrives : s.arrives .up .legal (.thHello n w) = true) (htoll : s.isN = false)
    (hnew : s.cway.taken.contains n = false) :
    ∃ t, exec (.thHelloRx .good) s = .next t ∧ t.cway.th = 1 ∧ t.cway.thLast = n ∧
      t.holds .down .legal (fun m => decide (m = .thAck n)) = true := by
  obtain ⟨u, htake, hu⟩ := State.clear_take_of_arrives (want := isThHello) harrives rfl
  obtain ⟨t, ht, -, hsame⟩ := exec_reaches (s := s) (i := .thHelloRx .good)
    (u := ((u.thGreeted n).takeSeq n (fun s => s.windowWrite 0 w)).forwardParams) rfl (by simp only [htake]; rfl)
  have hcway := hsame .cway (by decide) rfl
  have hgreeted := show (u.thGreeted n).cway = _ from u.thGreeted_chansMove n
  have hfresh : (u.thGreeted n).cway.taken.contains n = false := by
    rw [hgreeted, show u.cway.taken = s.cway.taken by rw [hu.transports]; rfl]
    show (if n = 1 then [] else s.cway.taken).contains n = false
    split
    · rfl
    · exact hnew
  obtain ⟨v, rfl, hmove, hlast, hholds⟩ := State.takeSeq_takes (f := fun s => s.windowWrite 0 w) hfresh (fun _ => rfl)
  obtain ⟨hheld, hth, hthLast⟩ := State.forwardParams_follow _ hholds
  refine ⟨t, ht, ?_, (congrArg CwayUnit.thLast hcway).trans (hthLast.trans hlast), ?_⟩
  · rw [show t.cway = _ from hcway, hth, show (State.takeSeq _ _ _).cway = _ from hmove]
    show (u.thGreeted n).cway.th = 1
    rw [hgreeted, show u.isN = s.isN by rw [hu.transports]; rfl, htoll]
    rfl
  · rw [State.holds, State.chan_congr hcway]
    exact hheld

theorem thReplyRx_answers {n x e : Nat} {k : Fin 32} {rest : List (Nat × Nat × Nat)}
    (harrives : s.arrives .up .legal (.thReply n x) = true) (hwaits : s.sp.thWaiting = (k.val, n, e) :: rest) :
    ∃ t, exec (.thReplyRx .good) s = .next t ∧
      t.answers (.operator k) 0o14 0 [BitVec.ofNat 18 n, BitVec.ofNat 18 (fld 17 12 x)] = true ∧
      t.cway.outstanding = s.cway.outstanding.filter (fun o => decide (o.1 ≠ n)) := by
  obtain ⟨u, htake, hu⟩ := State.clear_take_of_arrives (want := isThReply) harrives rfl
  have hfound : u.sp.thWaiting.find? (fun (w : Nat × Nat × Nat) => decide (w.2.1 = n)) = some (k.val, n, e) := by
    rw [show u.sp.thWaiting = s.sp.thWaiting by rw [hu.transports]; rfl, hwaits]
    simp
  let v : State := { u with
    cway := { u.cway with outstanding := u.cway.outstanding.filter (fun o => decide (o.1 ≠ n)) }
    sp := { u.sp with
      results := u.sp.results.map (fun (e : Nat × Option Nat) => if e.1 = n && e.2.isNone then (n, some x) else e)
      thWaiting := u.sp.thWaiting.erase (k.val, n, e) } }
  obtain ⟨t, ht, hsent, hsame⟩ := exec_reaches (s := s) (i := .thReplyRx .good)
    (u := v.respondLater (.operator k) 0o14 stDone [BitVec.ofNat 18 n, BitVec.ofNat 18 (fld 17 12 x)] []) rfl
    (by simp only [htake, hfound, Fin.ofNat_val_eq_self]; rfl)
  have hcway := hsame .cway (by decide) rfl
  refine ⟨t, ht, ?_, ?_⟩
  · rw [State.answers, hsent]
    exact (State.respondLater_responds (op := True) v _ _ _ _ _ (fun _ => trivial)).2
  · rw [show t.cway = _ from hcway, State.respondLater_cway,
      show v.cway.outstanding = u.cway.outstanding.filter (fun o => decide (o.1 ≠ n)) from rfl,
      show u.cway.outstanding = s.cway.outstanding by rw [hu.transports]; rfl]

theorem thCommandWaitTimeout_pends {n e : Nat} {session : Fin 32} {rest : List (Nat × Nat × Nat)}
    (hwaits : s.sp.thWaiting = (session.val, n, e) :: rest) :
    ∃ t, exec (.thCommandWaitTimeout session) s = .next t ∧
      t.answers (.operator session) 0o14 0o16 [BitVec.ofNat 18 n] = true ∧ t.now = max s.now e := by
  have hfound : s.clear.sp.thWaiting.find? (fun w => decide (w.1 = session.val)) = some (session.val, n, e) := by
    rw [show s.clear.sp = s.sp from rfl, hwaits]
    simp
  let v : State := ({ s.clear with sp := { s.sp with
    thWaiting := s.sp.thWaiting.erase (session.val, n, e) } } : State).upTo e
  obtain ⟨t, ht, hsent, hsame⟩ := exec_reaches (s := s) (i := .thCommandWaitTimeout session)
    (u := v.respondLater (.operator session) 0o14 stPending [BitVec.ofNat 18 n] []) rfl (by simp only [hfound]; rfl)
  obtain ⟨hmanages, hanswers⟩ := State.respondLater_responds (op := True) v (.operator session) 0o14 stPending
    [BitVec.ofNat 18 n] [] (fun _ => trivial)
  refine ⟨t, ht, ?_, (show t.now = _ from hsame .now (by decide) rfl).trans (hmanages.now.trans (State.upTo_now ..))⟩
  rw [State.answers, hsent]
  exact hanswers

end

/-- Settles O41: each message between the Tollhouse and the host in turn. -/
theorem legalMessagesComplete : Obligations.LegalMessagesComplete :=
  ⟨fun _ _ _ _ harrives hkept hseq => thAckRx_releases harrives hkept hseq,
    fun _ _ harrives htoll => linkMessageRelay_down harrives htoll,
    fun _ _ harrives => linkMessageRelay_up harrives,
    fun _ _ _ hcross hruns htoll hlinked => linkMessageRelay_tells hcross hruns htoll hlinked,
    fun _ _ _ hcross hruns htoll hlinked => linkMessageRelay_waits hcross hruns htoll hlinked,
    fun _ hlink => thLinkHeartbeatTimeout_ends hlink,
    fun _ htoll hlink hvt hruns => tollhouseLinkUp_greets htoll hlink hvt hruns,
    fun _ _ _ _ harrives hnew => windowWriteRx_writes harrives hnew,
    fun _ _ _ harrives hnew => logEntryRx_keeps harrives hnew,
    fun _ _ _ harrives htoll hnew => thHelloRx_greets harrives htoll hnew,
    fun _ _ _ _ _ _ harrives hwaits _ => thReplyRx_answers harrives hwaits,
    fun _ _ _ _ _ hwaits _ => thCommandWaitTimeout_pends hwaits⟩

end Sys2Proof.Machine

namespace Sys2Proof.Machine

/-! ## The queue of commands (notes/assumptions/1) -/

/-- Settles O49: the queue's front is what `step` matches on. -/
theorem stepRunsTheFrontCommand : Obligations.StepRunsTheFrontCommand := by
  intro c rest s
  rfl

/-- Settles O50. -/
theorem emptyQueueIdles : Obligations.EmptyQueueIdles := by
  intro s hempty
  rw [step, hempty]

/-! ## What the observers are told (notes/assumptions/12)

Whatever a command does, it ends in `State.tell`: Milepost counts, the Trip Recorder writes and freezes, and either may emit an
event that raises no alarm. `Told` is what that may come to; its consequences for the alarm unit, for Milepost and for the Trip
Recorder follow from it by induction. -/

/-- Between two states of Milepost only counts have changed. -/
def MileUnit.Counts (m n : MileUnit) : Prop :=
  n = { m with count := n.count, wraps := n.wraps, reported := n.reported, rx := n.rx, tx := n.tx, slots := n.slots }

theorem MileUnit.Counts.trans {m n o : MileUnit} (h : m.Counts n) (h' : n.Counts o) : m.Counts o := by
  calc o = _ := h'
    _ = _ := by rw [h]

/-- An event that raises no alarm, whatever alarm_POLICY says (R459). -/
def QuietEvent (e : Nat) : Prop := ∀ (a : AlarmUnit) (arg : Nat), evLatches a e arg = false

namespace State

/-- Between two states the Trip Recorder may have written records. -/
def Writes (s t : State) : Prop :=
  t = { s with trip := { s.trip with
    region := t.trip.region, chain := t.trip.chain, blockSeq := t.trip.blockSeq, blockTime := t.trip.blockTime, cur := t.trip.cur
    records := t.trip.records, lastTime := t.trip.lastTime, fill := t.trip.fill, fillAt := t.trip.fillAt, lost := t.trip.lost } }

namespace Writes

variable {s t u : State}

theorem refl (s : State) : Writes s s := rfl

theorem trans (h : Writes s t) (h' : Writes t u) : Writes s u := by
  calc u = _ := h'
    _ = _ := by rw [h]

theorem ite {c : Prop} [Decidable c] (ht : Writes s t) (hu : Writes s u) : Writes s (if c then t else u) := by
  split
  · exact ht
  · exact hu

theorem alarm (h : Writes s t) : t.alarm = s.alarm := by rw [h]
theorem mile (h : Writes s t) : t.mile = s.mile := by rw [h]
theorem notes (h : Writes s t) : t.notes = s.notes := by rw [h]
theorem state (h : Writes s t) : t.trip.state = s.trip.state := by rw [h]

end Writes

/-- What may follow from telling the observers; the Trip Recorder is stopped only where that is allowed (`stops`). -/
inductive Told (stops : Prop) (s : State) : State → Prop
  | refl : Told stops s s
  | free {t : State} (n : Nat) (h : Told stops s t) : Told stops s { t with free := n }
  | counts {t : State} (m : MileUnit) (hm : t.mile.Counts m) (h : Told stops s t) : Told stops s { t with mile := m }
  | record {t : State} (type : Nat) (content : List Nat) (h : Told stops s t) : Told stops s (t.record type content)
  | trigger {t : State} (cause event : Nat) (h : Told stops s t) : Told stops s (t.trigger cause event)
  | stop {t : State} (cause : Nat) (hstops : stops) (hactive : t.trip.state = .recording ∨ t.trip.state = .freezing)
      (h : Told stops s t) :
      Told stops s { t with trip := { t.trip with state := .frozen, cause := cause, cur := [], records := 0 } }
  | cleared {t : State} (h : Told stops s t) : Told stops s { t with notes := [] }
  | event {t : State} (e arg : Nat) (hquiet : QuietEvent e) (h : Told stops s t) : Told stops s (t.emitOwn e 0 0 arg)

namespace Told

variable {stops : Prop} {s t u : State}

theorem trans (h : Told stops s t) (h' : Told stops t u) : Told stops s u := by
  induction h' with
  | refl => exact h
  | free n _ ih => exact ih.free n
  | counts m hm _ ih => exact ih.counts m hm
  | record type content _ ih => exact ih.record type content
  | trigger cause event _ ih => exact ih.trigger cause event
  | stop cause hstops hactive _ ih => exact ih.stop cause hstops hactive
  | cleared _ ih => exact ih.cleared
  | event e arg hquiet _ ih => exact ih.event e arg hquiet

theorem foldl {α : Type} {f : State → α → State} {l : List α} (hf : ∀ t, ∀ x ∈ l, Told stops t (f t x)) (s : State) :
    Told stops s (l.foldl f s) :=
  List.foldlRecOn l f (motive := Told stops s) .refl (fun _ h x hx => h.trans (hf _ x hx))

theorem ite {c : Prop} [Decidable c] (ht : Told stops s t) (hu : Told stops s u) : Told stops s (if c then t else u) := by
  split
  · exact ht
  · exact hu

end Told

section
variable {stops : Prop} (s : State)

/-- The operator ring and its counts, as an event leaves them. -/
def ringTakes (r : List EventRec) (n k : Nat) : State := { s with alarm := { s.alarm with eventSeq := n, events := k, ring := r } }

/-- An event that raises no alarm joins the ring, and ALERT_N is settled. -/
theorem emitOwn_quiet {e : Nat} (hquiet : QuietEvent e) (arg : Nat) :
    ∃ r n k, (s.emitOwn e 0 0 arg).alarm = (s.ringTakes r n k).settleAlert.alarm := by
  unfold emitOwn emitOwnWith alarmAfter
  dsimp only
  rw [hquiet]
  exact ⟨_, _, _, rfl⟩

/-- Settling ALERT_N changes nothing else. -/
theorem settleAlert_alarm : s.settleAlert.alarm = { s.alarm with
    alertLow := s.settleAlert.alarm.alertLow, alertHold := s.settleAlert.alarm.alertHold } := by
  unfold settleAlert
  dsimp only
  split
  · split
    · rfl
    · split <;> rfl
  · split
    · rfl
    · split <;> rfl
  · rfl

/-! ### Milepost -/

theorem wrapAt_told (k : Nat) (event : Bool) : Told stops s (s.wrapAt k event) := by
  have hquiet : QuietEvent 0o171002 := fun _ _ => rfl
  have hwrap (l : List Nat) : Told stops s { s with mile := { s.mile with wraps := l } } := .counts _ rfl .refl
  have hboth (l l' : List Nat) : Told stops s { s with mile := { s.mile with wraps := l, reported := l' } } := .counts _ rfl .refl
  exact .ite ((hboth _ _).event _ _ hquiet) (hwrap _)

theorem addCount_told (k n : Nat) : Told stops s (s.addCount k n) := by
  have hwrap (u : State) (hu : Told stops s u) (k : Nat) (event : Bool) : Told stops s (u.wrapAt k event) :=
    hu.trans (wrapAt_told ..)
  have hcount (t : Tab Nat) : Told stops s { s with mile := { s.mile with count := t } } := .counts _ rfl .refl
  unfold addCount
  dsimp only
  refine .ite (hcount _) (.ite (.ite (hcount _) ?_) (hwrap _ (hcount _) ..))
  exact hwrap _ (hcount _) ..

theorem countOcc_told (b e measure n : Nat) : Told stops s (s.countOcc b e measure n) :=
  .ite .refl (.foldl (fun t _ _ => .ite (addCount_told t ..) .refl) s)

theorem tellMile_told (n : Note) : Told stops s (s.tellMile n) := by
  cases n with
  | occ => exact countOcc_told ..
  | event => exact countOcc_told ..
  | bytes rx p n => cases rx <;> exact .counts _ rfl .refl
  | slots => exact .counts _ rfl .refl
  | rcd | halt => exact .refl

/-- A counter over a span of time. -/
theorem countTime_told (t k w : Nat) : Told stops s (s.countTime t k w) := by
  have hfree (n : Nat) : Told stops s (({ s with free := s.free + 1 } : State).addCount k n) :=
    (Told.free _ .refl).trans (addCount_told ..)
  unfold countTime
  dsimp only
  refine .ite (.ite (hfree _) .refl) ?_
  split
  · exact .ite (addCount_told ..) .refl
  · exact hfree _

/-- While the clock moves on Milepost counts; frames' exempt time and the clock itself are all that changes beside. -/
theorem upTo_told (x : Nat) : ∃ t : State, Told stops s t ∧ s.upTo x = { t with tp := (s.upTo x).tp, now := (s.upTo x).now } := by
  by_cases hx : x ≤ s.now
  · exact ⟨s, .refl, by rw [upTo, if_pos hx]⟩
  · refine ⟨s.mile.sel.foldl (fun s c => s.countTime x c.1 c.2) s, .foldl (fun t c _ => countTime_told t ..) s, ?_⟩
    rw [upTo, if_neg hx]
    dsimp only
    unfold addExempt
    split <;> rfl

/-! ### The Trip Recorder -/

theorem halt_told (cause : Nat) (hstops : stops) : Told stops s (s.halt cause) := by
  have hquiet : QuietEvent 0o200003 := fun _ _ => rfl
  have hfreeze (c : Nat) (hactive : s.trip.state = .recording ∨ s.trip.state = .freezing) :
      Told stops s { s with trip := { s.trip with cause := c, cur := [], records := 0 } }.freezeNow :=
    (Told.stop c hstops hactive .refl).event _ _ hquiet
  unfold halt
  split
  · next hstate => exact hfreeze _ (.inl hstate)
  · next hstate => exact hfreeze _ (.inr hstate)
  · exact .refl

theorem tellTrip_told {n : Note} (hn : n = .halt → stops) : Told stops s (s.tellTrip n) := by
  cases n with
  | event w =>
    unfold tellTrip
    dsimp only
    split
    · exact .trigger _ _ .refl
    · exact .refl
  | halt => exact halt_told s 5 (hn rfl)
  | occ | bytes | slots | rcd => exact .refl

theorem recordRank_told (l : List Note) (rank : Nat) : Told stops s (s.recordRank l rank) := by
  refine .foldl (fun t n _ => ?_) s
  cases n with
  | rcd => exact .ite (.record _ _ .refl) .refl
  | _ => exact .refl

theorem endBlock_writes : Writes s s.endBlock := by
  have h (r : Tab (Option Nat)) (c n : Nat) : Writes s { s with trip := { s.trip with
      region := r, chain := c, blockSeq := n, cur := [], records := 0 } } := rfl
  exact h _ _ _

theorem putWords_writes (ws : List Nat) (n : Nat) : Writes s (s.putWords ws n) := by
  have hput (u : State) (hu : Writes s u) (c : Bool) (x : Nat) (l : List Nat) (a b : Nat) :
      Writes s { u with trip := { (if c then { u.trip with blockTime := x } else u.trip) with
        cur := l, records := a, lastTime := b } } := by
    split
    · exact hu.trans rfl
    · exact hu.trans rfl
  exact hput _ (.ite (.refl s) s.endBlock_writes) _ _ _ _ _

/-- A record changes nothing but the Trip Recorder, where it writes. -/
theorem record_writes (type : Nat) (content : List Nat) : Writes s (s.record type content) := by
  have hput (f g : Nat) (ws : List Nat) (n : Nat) :
      Writes s (({ s with trip := { s.trip with fill := f, fillAt := g } } : State).putWords ws n) :=
    .trans (t := { s with trip := { s.trip with fill := f, fillAt := g } }) rfl (putWords_writes ..)
  have hlost (n : Nat) : Writes s { s with trip := { s.trip with lost := n } } := rfl
  unfold record
  dsimp only
  exact .ite (.refl s) (.ite (hlost _) (hput ..))

/-- A trigger changes nothing but the Trip Recorder, and nothing at all unless it is recording. -/
theorem trigger_trip (cause event : Nat) : s.trigger cause event = { s with trip := (s.trigger cause event).trip } := by
  unfold trigger
  dsimp only
  split
  · rw [s.record_writes]
  · rfl

theorem trigger_of_not_recording {s : State} (h : s.trip.state ≠ .recording) (cause event : Nat) :
    s.trigger cause event = s := if_neg h

end

/-! ### What is kept -/

namespace Told

variable {stops : Prop} {s t : State}

/-- The Trip Recorder is stopped by no note that came without one. -/
theorem halts (h : Told stops s t) (hn : .halt ∈ t.notes) : .halt ∈ s.notes ∨ stops := by
  induction h with
  | refl => exact .inl hn
  | free _ _ ih | counts _ _ _ ih => exact ih hn
  | @record t type content _ ih =>
    rw [(t.record_writes ..).notes] at hn
    exact ih hn
  | @trigger t cause event _ ih =>
    rw [t.trigger_trip] at hn
    exact ih hn
  | stop _ _ _ _ ih => exact ih hn
  | cleared => exact absurd hn (by simp)
  | event e arg _ _ ih =>
    obtain hold | hnew := List.mem_append.mp (show _ ∈ _ ++ [Note.event e] from hn)
    · exact ih hold
    · exact absurd (List.mem_singleton.mp hnew) (by simp)

/-- Of the alarm unit the ring and ALERT_N may have changed: the entries stand. -/
theorem alarm (h : Told stops s t) : t.alarm = { s.alarm with
    eventSeq := t.alarm.eventSeq, events := t.alarm.events, ring := t.alarm.ring, alertLow := t.alarm.alertLow
    alertHold := t.alarm.alertHold } := by
  induction h with
  | refl => rfl
  | free _ _ ih | counts _ _ _ ih | stop _ _ _ _ ih | cleared _ ih => exact ih
  | record type content _ ih =>
    rw [(record_writes ..).alarm]
    exact ih
  | @trigger t cause event _ ih =>
    rw [t.trigger_trip]
    exact ih
  | @event t e arg hquiet _ ih =>
    obtain ⟨r, n, k, hring⟩ := t.emitOwn_quiet hquiet arg
    rw [hring, settleAlert_alarm, ringTakes, ih]

theorem entries (h : Told stops s t) : t.alarm.entries = s.alarm.entries := by rw [h.alarm]
theorem overflow (h : Told stops s t) : t.alarm.overflow = s.alarm.overflow := by rw [h.alarm]

/-- Of Milepost only counts have changed. -/
theorem mile (h : Told stops s t) : s.mile.Counts t.mile := by
  induction h with
  | refl => rfl
  | free _ _ ih | stop _ _ _ _ ih | cleared _ ih | event _ _ _ _ ih => exact ih
  | counts _ hm _ ih => exact ih.trans hm
  | record type content _ ih =>
    rw [(record_writes ..).mile]
    exact ih
  | @trigger t cause event _ ih =>
    rw [t.trigger_trip]
    exact ih

end Told

/-- The notes are told. -/
theorem tell_told {stops : Prop} (k : Nat) (s : State) (hn : .halt ∈ s.notes → stops) : Told stops s (tell k s) := by
  induction k generalizing s with
  | zero => exact .cleared .refl
  | succ k ih =>
    have hround (u : State) (hu : Told stops { s with notes := [] } u) :
        Told stops s (tell k (s.notes.foldl tellTrip (s.notes.foldl tellMile u))) := by
      have hmile : Told stops { s with notes := [] } (s.notes.foldl tellMile u) :=
        hu.trans (.foldl (fun t n _ => tellMile_told t n) u)
      have htrip : Told stops { s with notes := [] } (s.notes.foldl tellTrip (s.notes.foldl tellMile u)) :=
        hmile.trans (.foldl (fun t n hmem => tellTrip_told t (fun e => hn (e ▸ hmem))) _)
      refine (Told.cleared .refl).trans (htrip.trans (ih _ fun hhalt => ?_))
      obtain hold | hstops := htrip.halts hhalt
      · exact absurd hold (by simp)
      · exact hstops
    rw [tell]
    split
    · exact .refl
    · exact hround _ (.ite (.foldl (fun t r _ => recordRank_told t ..) _) .refl)

end State

end Sys2Proof.Machine

namespace Sys2Proof.Machine

/-! ## The observers after a command -/

section
variable {s u : State} {ps : List Part} {i : Instr} {f : State → State}

/-- The effect of a command, and what the observers are to be told of it. -/
def State.effect (ps : List Part) (s : State) (f : State → State) : State :=
  let t := State.taking ps s.clear (f s.clear)
  { t with notes := t.notes ++ (if t.recording then State.changes s.clear t else []) }

/-- The changes between two states are told by records alone. -/
theorem State.changes_no_halt (b s : State) : Note.halt ∉ State.changes b s := by
  simp [State.changes]

theorem State.effect_halt (h : Note.halt ∈ (s.effect ps f).notes) : Note.halt ∈ (f s.clear).notes := by
  obtain hold | hchange := List.mem_append.mp h
  · exact hold
  · split at hchange
    · exact (State.changes_no_halt _ _ hchange).elim
    · exact absurd hchange (by simp)

/-- Where no unit has changed that the journal follows, there is no change to tell. -/
theorem State.changes_eq_nil {b t : State} (hlanes : t.lanes = b.lanes) (hcway : t.cway = b.cway) (hjun : t.jun = b.jun)
    (htrng : t.trng = b.trng) (hstart : t.start = b.start) (hzheac : t.zheac = b.zheac) : State.changes b t = [] := by
  have hlane (n : Nat) : t.lane n = b.lane n := by rw [State.lane, State.lane, hlanes]
  simp [State.changes, hlane, hcway, hjun, htrng, hstart, hzheac]

/-- A command that changes the observers' own units alone, and tells them nothing, leaves these as its effect does. -/
theorem actState_of_silent (hnotes : (f s.clear).notes = []) : (actState [] s f).alarm = (f s.clear).alarm ∧
    (actState [] s f).mile = (f s.clear).mile ∧ (actState [] s f).trip = (f s.clear).trip := by
  have hsilent : (s.effect [] f).notes = [] := by
    refine List.append_eq_nil_iff.mpr ⟨hnotes, ?_⟩
    split
    · exact State.changes_eq_nil rfl rfl rfl rfl rfl rfl
    · rfl
  have htell : State.tell 1200 (s.effect [] f) = s.effect [] f := by
    rw [State.tell, hsilent]
    rfl
  refine ⟨(congrArg State.alarm htell :), (congrArg State.mile htell :), (congrArg State.trip htell :)⟩

/-- The observers after a command have been told of its effect. -/
theorem State.effect_told : State.Told (.halt ∈ (f s.clear).notes) (s.effect ps f) (State.tell 1200 (s.effect ps f)) :=
  State.tell_told _ _ State.effect_halt

/-- A command reaches its effect; the alarm entries stand from there on, and Milepost only counts. -/
theorem exec_reaches_observed (hexec : exec i s = act ps s f) (h : f s.clear = u) :
    ∃ t, exec i s = .next t ∧ t.sent = u.sent ∧ (∀ p, p ∉ observers → ps.contains p = true → u.same t p) ∧
      t.alarm.entries = u.alarm.entries ∧ t.alarm.overflow = u.alarm.overflow ∧ u.mile.Counts t.mile := by
  subst h
  have htold := State.effect_told (s := s) (ps := ps) (f := f)
  exact ⟨_, hexec, rfl, fun p ho hp => actState_same f hp ho, htold.entries, htold.overflow, htold.mile⟩

/-- A command answered at once: the response stays among what is sent. -/
theorem State.answers_of_sent {t : State} {c : Caller} {verb status : Nat} {words : List Word} (hsent : t.sent = u.sent)
    (h : u.answers c verb status words = true) : t.answers c verb status words = true := by
  rw [State.answers, hsent]
  exact h

end

/-! ## Live words of the operator (R443) -/

section
variable {s : State} {r : VerbCall} {address value : Nat} {w : State → WordWrite}

/-- The operator writes a word that takes the value. -/
theorem State.writeLive_of_takes {f : State → State} (hmay : s.mayAct r none = true) (hop : State.isOperator r.caller = true)
    (hw : w s = .takes f) :
    s.writeLive r address value w = (f s).respondLater r.caller 0o02 stDone [] [address, 1, value] := by
  unfold State.writeLive
  rw [hop, State.serve_of_mayAct hmay, hw]
  rfl

/-- One that is refused the value. -/
theorem State.writeLive_of_badValue (hmay : s.mayAct r none = true) (hop : State.isOperator r.caller = true)
    (hw : w s = .badValue) :
    s.writeLive r address value w = { s with sp := { s.sp with
      unusedWrites := satInc 36 s.sp.unusedWrites } }.respondLater r.caller 0o02 stBadValue [0] [address, 1, value] := by
  unfold State.writeLive
  rw [hop, State.serve_of_mayAct hmay, hw]
  rfl

/-- What a response leaves alone of what a write of Milepost or Waymark changed. -/
theorem State.respondLater_live (s : State) (c : Caller) (verb status : Nat) (words : List Word) (args : List Nat) :
    (s.respondLater c verb status words args).answers c verb status words = true ∧
      (s.respondLater c verb status words args).mile = s.mile ∧ (s.respondLater c verb status words args).way = s.way := by
  obtain ⟨hmanages, hanswers⟩ := State.respondLater_responds (op := True) s c verb status words args fun _ => trivial
  exact ⟨hanswers, by rw [hmanages.eq], by rw [hmanages.eq]⟩

/-- A word that takes the value: Milepost only counts from there on, and Waymark stands. -/
theorem exec_writeLive_takes {i : Instr} {ps : List Part} {f : State → State}
    (hexec : exec i s = act ps s (fun s => s.writeLive r address value w)) (hmay : s.mayAct r none = true)
    (hop : State.isOperator r.caller = true) (hw : w s.clear = .takes f) :
    ∃ t, exec i s = .next t ∧ t.answers r.caller 0o02 0 [] = true ∧ (f s.clear).mile.Counts t.mile ∧
      (ps.contains .way = true → t.way = (f s.clear).way) := by
  have hmay' : s.clear.mayAct r none = true := hmay
  obtain ⟨hanswers, hmile, hway⟩ := (f s.clear).respondLater_live r.caller 0o02 stDone [] [address, 1, value]
  obtain ⟨t, ht, hsent, hsame, -, -, hcounts⟩ := exec_reaches_observed hexec (State.writeLive_of_takes hmay' hop hw)
  rw [hmile] at hcounts
  exact ⟨t, ht, State.answers_of_sent hsent hanswers, hcounts, fun h => (hsame .way (by decide) h).trans hway⟩

/-- A word that is refused the value. -/
theorem exec_writeLive_badValue {i : Instr} {ps : List Part}
    (hexec : exec i s = act ps s (fun s => s.writeLive r address value w)) (hmay : s.mayAct r none = true)
    (hop : State.isOperator r.caller = true) (hw : w s.clear = .badValue) :
    ∃ t, exec i s = .next t ∧ t.answers r.caller 0o02 0o03 [0] = true ∧ s.mile.Counts t.mile := by
  have hmay' : s.clear.mayAct r none = true := hmay
  obtain ⟨hanswers, hmile, -⟩ := State.respondLater_live { s.clear with sp := { s.clear.sp with
    unusedWrites := satInc 36 s.clear.sp.unusedWrites } } r.caller 0o02 stBadValue [0] [address, 1, value]
  obtain ⟨t, ht, hsent, -, -, -, hcounts⟩ := exec_reaches_observed hexec (State.writeLive_of_badValue hmay' hop hw)
  rw [hmile] at hcounts
  exact ⟨t, ht, State.answers_of_sent hsent hanswers, hcounts⟩

end

/-! ## Waymark (R483 to R487) -/

section
variable {s : State} {r : VerbCall} {value : Word}

theorem wayDraw_settings (w : WayUnit) :
    (State.wayDraw w).en = w.en ∧ (State.wayDraw w).stopWhenFull = w.stopWhenFull ∧ (State.wayDraw w).set = w.set := by
  exact ⟨rfl, rfl, rfl⟩

theorem waymarkControlWrite_takes (hmay : s.mayAct r none = true) (hop : State.isOperator r.caller = true)
    (hrate : 2 ^ bits value.toNat 15 12 ≤ s.way.set.rate) :
    ∃ t, exec (.waymarkControlWrite r value) s = .next t ∧ t.answers r.caller 0o02 0 [] = true ∧
      t.way.en = value.toNat.testBit 17 ∧ t.way.stopWhenFull = value.toNat.testBit 16 ∧
      t.way.set = { s.way.set with dither := bits value.toNat 15 12 } := by
  have hdrawn (w : WayUnit) (b : Prop) [Decidable b] : (if b then State.wayDraw w else w).en = w.en ∧
      (if b then State.wayDraw w else w).stopWhenFull = w.stopWhenFull ∧ (if b then State.wayDraw w else w).set = w.set := by
    split
    · exact wayDraw_settings w
    · exact ⟨rfl, rfl, rfl⟩
  obtain ⟨t, ht, hanswers, -, hway⟩ := exec_writeLive_takes (i := .waymarkControlWrite r value) rfl hmay hop
    (if_neg (Nat.not_lt.mpr hrate))
  have hway := hway rfl
  obtain ⟨hen, hstop, hset⟩ := hdrawn { s.way with
    en := value.toNat.testBit 17, stopWhenFull := value.toNat.testBit 16
    set := { s.way.set with dither := bits value.toNat 15 12 } } ((value.toNat.testBit 17 && !s.way.en) = true)
  exact ⟨t, ht, hanswers, (congrArg WayUnit.en hway).trans hen, (congrArg WayUnit.stopWhenFull hway).trans hstop,
    (congrArg WayUnit.set hway).trans hset⟩

theorem waymarkRateWrite_takes (hmay : s.mayAct r none = true) (hop : State.isOperator r.caller = true) (hvalue : value ≠ 0)
    (hrate : 2 ^ s.way.set.dither ≤ value.toNat) :
    ∃ t, exec (.waymarkRateWrite r value) s = .next t ∧ t.answers r.caller 0o02 0 [] = true ∧
      t.way = { s.way with set := { s.way.set with rate := value.toNat } } := by
  have hzero : value.toNat ≠ 0 := fun h => hvalue (BitVec.eq_of_toNat_eq h)
  obtain ⟨t, ht, hanswers, -, hway⟩ := exec_writeLive_takes (i := .waymarkRateWrite r value) rfl hmay hop
    (if_neg (not_or.mpr ⟨hzero, Nat.not_lt.mpr hrate⟩))
  exact ⟨t, ht, hanswers, hway rfl⟩

theorem waymarkFilterWrite_takes (hmay : s.mayAct r none = true) (hop : State.isOperator r.caller = true)
    (hport : bits value.toNat 17 16 = 1 → bits value.toNat 13 0 < 16) (hlane : bits value.toNat 17 16 = 2 → bits value.toNat 13 0 < 18) :
    ∃ t, exec (.waymarkFilterWrite r value) s = .next t ∧ t.answers r.caller 0o02 0 [] = true ∧
      t.way = { s.way with set := { s.way.set with kind := bits value.toNat 17 16, val := bits value.toNat 13 0 } } := by
  have hinRange : ¬ ((bits value.toNat 17 16 = 1 ∧ 16 ≤ bits value.toNat 13 0) ∨
      (bits value.toNat 17 16 = 2 ∧ 18 ≤ bits value.toNat 13 0)) := by
    rintro (⟨hkind, hval⟩ | ⟨hkind, hval⟩)
    · exact absurd (hport hkind) (Nat.not_lt.mpr hval)
    · exact absurd (hlane hkind) (Nat.not_lt.mpr hval)
  obtain ⟨t, ht, hanswers, -, hway⟩ := exec_writeLive_takes (i := .waymarkFilterWrite r value) rfl hmay hop (if_neg hinRange)
  exact ⟨t, ht, hanswers, hway rfl⟩

theorem waymarkClear_empties (hmay : s.mayAct r none = true) (hop : State.isOperator r.caller = true) :
    ∃ t, exec (.waymarkClear r) s = .next t ∧ t.answers r.caller 0o02 0 [] = true ∧
      t.way = { s.way with wrIndex := 0, full := false, stopped := false } := by
  obtain ⟨t, ht, hanswers, -, hway⟩ := exec_writeLive_takes (i := .waymarkClear r) rfl hmay hop rfl
  exact ⟨t, ht, hanswers, hway rfl⟩

end

/-- Settles O45: one live word each. -/
theorem waymarkCommandsComplete : Obligations.WaymarkCommandsComplete :=
  ⟨fun _ _ _ hmay hop hrate => waymarkControlWrite_takes hmay hop hrate,
    fun _ _ _ hmay hop hvalue hrate => waymarkRateWrite_takes hmay hop hvalue hrate,
    fun _ _ _ hmay hop hport hlane => waymarkFilterWrite_takes hmay hop hport hlane,
    fun _ _ hmay hop => waymarkClear_empties hmay hop⟩

/-! ## Milepost (R473 to R481) -/

section
variable {s : State} {r : VerbCall} {block : Fin 36} {counter : Fin 32} {value : Word}

/-- A selection that is taken stands. -/
theorem writeSel_takes {b c v : Nat} (hfixed : fixedCounter b c = false)
    (hlisted : eventListed b (selEvent (fld 17 8 (v / 2 ^ 8))) = true) (hchain : selChain (fld 17 8 (v / 2 ^ 8)) = false) :
    ∃ f, State.writeSel b c v = .takes f ∧ ∀ s : State, (f s).mileSel (32 * b + c) = fld 17 8 (v / 2 ^ 8) := by
  unfold State.writeSel
  dsimp only
  rw [hfixed, hlisted, hchain, if_neg (by simp)]
  refine ⟨_, rfl, fun s => ?_⟩
  split
  · next hold => exact hold.symm
  · exact tabGet_tabPut_same ..

theorem milepostSelWrite_takes (hmay : s.mayAct r none = true) (hop : State.isOperator r.caller = true)
    (hfixed : fixedCounter block counter = false) (hlisted : eventListed block (selEvent (fld 17 8 (value.toNat / 2 ^ 8))) = true)
    (hchain : selChain (fld 17 8 (value.toNat / 2 ^ 8)) = false) :
    ∃ t, exec (.milepostSelWrite r block counter value) s = .next t ∧ t.answers r.caller 0o02 0 [] = true ∧
      t.mileSel (32 * block.val + counter.val) = fld 17 8 (value.toNat / 2 ^ 8) := by
  obtain ⟨f, hf, hsel⟩ := writeSel_takes hfixed hlisted hchain
  obtain ⟨t, ht, hanswers, hcounts, -⟩ := exec_writeLive_takes (i := .milepostSelWrite r block counter value) rfl hmay hop hf
  exact ⟨t, ht, hanswers, by rw [State.mileSel, hcounts]; exact hsel s.clear⟩

theorem milepostSelWrite_refuses (hmay : s.mayAct r none = true) (hop : State.isOperator r.caller = true)
    (hbad : fixedCounter block counter = true ∨ eventListed block (selEvent (fld 17 8 (value.toNat / 2 ^ 8))) = false) :
    ∃ t, exec (.milepostSelWrite r block counter value) s = .next t ∧ t.answers r.caller 0o02 0o03 [0] = true ∧
      t.mile.sel = s.mile.sel := by
  have hrefused : State.writeSel block counter value.toNat = .badValue := by
    unfold State.writeSel
    refine if_pos ?_
    obtain hfixed | hunlisted := hbad
    · rw [hfixed]
      rfl
    · rw [hunlisted]
      cases fixedCounter block counter <;> rfl
  obtain ⟨t, ht, hanswers, hcounts⟩ := exec_writeLive_badValue (i := .milepostSelWrite r block counter value) rfl hmay hop hrefused
  exact ⟨t, ht, hanswers, by rw [hcounts]⟩

theorem threshWrite_takes (hmay : s.mayAct r none = true) (hop : State.isOperator r.caller = true)
    (hfree : ¬ (16 ≤ block.val ∧ block.val ≤ 23 ∧ 16 ≤ counter.val)) :
    ∃ t, exec (.threshWrite r block counter value) s = .next t ∧ t.answers r.caller 0o02 0 [] = true ∧
      tabGet 0 t.mile.thresh (32 * block.val + counter.val) = value.toNat := by
  obtain ⟨t, ht, hanswers, hcounts, -⟩ := exec_writeLive_takes (i := .threshWrite r block counter value) rfl hmay hop
    (if_neg (c := fixedCounter block counter = true) (by simpa [fixedCounter] using hfree))
  exact ⟨t, ht, hanswers, by rw [hcounts]; exact tabGet_tabPut_same ..⟩

/-- A window that ends while RUN is 1 is copied, and the next begins. -/
theorem State.endWindow_begins {x : Nat} (hbegan : s.mile.began = some x) (short run : Bool) :
    (s.endWindow short run).mile.began = some s.now ∧ (s.endWindow short run).mile.run = run ∧
      (s.mile.run = true → (s.endWindow short run).mile.seq = s.mile.seq % 262143 + 1 ∧
        (s.endWindow short run).mile.copying.map (fun c => (c.seq, c.short)) = some (s.mile.seq % 262143 + 1, short)) := by
  unfold State.endWindow
  rw [hbegan]
  refine ⟨rfl, rfl, fun hrun => ?_⟩
  dsimp only
  rw [if_pos hrun, if_pos hrun]
  exact ⟨rfl, rfl⟩

/-- A window of the period ends, at a time. -/
def State.periodEnds (s : State) (x : Nat) : State := (s.upTo x).endCopy.endWindow false s.mile.run

theorem State.periodEnds_begins {x y : Nat} (hbegan : s.mile.began = some x) (hcopy : s.mile.copying = none)
    (hrun : s.mile.run = true) : (s.periodEnds y).now = max s.now y ∧ (s.periodEnds y).mile.began = some (max s.now y) ∧
      (s.periodEnds y).mile.seq = s.mile.seq % 262143 + 1 ∧
      (s.periodEnds y).mile.copying.map (fun c => (c.seq, c.short)) = some (s.mile.seq % 262143 + 1, false) := by
  obtain ⟨t, htold, hup⟩ := s.upTo_told (stops := True) y
  have hmile : s.mile.Counts (s.upTo y).mile := by rw [hup]; exact htold.mile
  have hstill : (s.upTo y).endCopy = s.upTo y := by
    unfold State.endCopy
    rw [show (s.upTo y).mile.copying = none by rw [hmile]; exact hcopy]
  have hnow (u : State) (short run : Bool) : (u.endWindow short run).now = u.now := by
    unfold State.endWindow
    split <;> rfl
  obtain ⟨hnew, -, hcopied⟩ := State.endWindow_begins (s := s.upTo y) (by rw [hmile]; exact hbegan) false s.mile.run
  obtain ⟨hseq, hsnap⟩ := hcopied (by rw [hmile]; exact hrun)
  rw [show (s.upTo y).mile.seq = s.mile.seq by rw [hmile]] at hseq hsnap
  unfold State.periodEnds
  rw [hstill]
  exact ⟨(hnow ..).trans (State.upTo_now ..), hnew.trans (congrArg some (State.upTo_now ..)), hseq, hsnap⟩

theorem windowBoundary_ends {x : Nat} (hbegan : s.mile.began = some x) (hcopy : s.mile.copying = none)
    (hrun : s.mile.run = true) :
    ∃ t, exec .windowBoundary s = .next t ∧ t.now = max s.now (x + us (100 * s.mile.winNow)) ∧ t.mile.began = some t.now ∧
      t.mile.seq = s.mile.seq % 262143 + 1 ∧
      t.mile.copying.map (fun c => (c.seq, c.short)) = some (s.mile.seq % 262143 + 1, false) := by
  have hreached := exec_reaches_observed (s := s) (i := .windowBoundary)
    (u := s.clear.periodEnds (x + us (100 * s.clear.mile.winNow))) rfl (by
      rw [show s.clear.mile.began = some x from hbegan]
      rfl)
  rw [show s.clear.mile.winNow = s.mile.winNow from rfl] at hreached
  generalize x + us (100 * s.mile.winNow) = y at hreached ⊢
  obtain ⟨t, ht, -, hsame, -, -, hcounts⟩ := hreached
  obtain ⟨hnow, hnew, hseq, hsnap⟩ := State.periodEnds_begins (s := s.clear) (y := y) hbegan hcopy hrun
  have hclock : t.now = max s.now y := (hsame .now (by decide) rfl : t.now = _).trans hnow
  refine ⟨t, ht, hclock, ?_, ?_, ?_⟩
  · rw [hclock, hcounts]; exact hnew
  · rw [hcounts]; exact hseq
  · rw [hcounts]; exact hsnap

theorem snapNow_snaps {x : Nat} (hmay : s.mayAct r none = true) (hop : State.isOperator r.caller = true)
    (hbegan : s.mile.began = some x) (hcopy : s.mile.copying = none) (hrun : s.mile.run = true) :
    ∃ t, exec (.snapNow r) s = .next t ∧ t.answers r.caller 0o02 0 [] = true ∧ t.mile.began = some s.now ∧
      t.mile.seq = s.mile.seq % 262143 + 1 ∧
      t.mile.copying.map (fun c => (c.seq, c.short)) = some (s.mile.seq % 262143 + 1, true) := by
  obtain ⟨t, ht, hanswers, hcounts, -⟩ := exec_writeLive_takes (i := .snapNow r) rfl hmay hop rfl
  have hboundary : s.clear.boundary .snapNow = s.clear.endWindow true s.mile.run :=
    if_neg (c := s.clear.mile.copying.isSome = true) (by rw [show s.clear.mile.copying = none from hcopy]; decide)
  rw [if_pos (by decide : Nat.testBit (2 ^ 17) 17 = true), hboundary] at hcounts
  obtain ⟨hnew, -, hcopied⟩ := State.endWindow_begins (s := s.clear) hbegan true s.mile.run
  obtain ⟨hseq, hsnap⟩ := hcopied hrun
  refine ⟨t, ht, hanswers, ?_, ?_, ?_⟩
  · rw [hcounts]; exact hnew
  · rw [hcounts]; exact hseq
  · rw [hcounts]; exact hsnap

theorem State.endWindow_run (s : State) (short run : Bool) : (s.endWindow short run).mile.run = run := by
  unfold State.endWindow
  split <;> rfl

theorem runWrite_takes {on : Bool} (hmay : s.mayAct r none = true) (hop : State.isOperator r.caller = true)
    (hcopy : s.mile.copying = none) (hlater : s.mile.later = []) :
    ∃ t, exec (.runWrite r on) s = .next t ∧ t.answers r.caller 0o02 0 [] = true ∧ t.mile.run = on := by
  obtain ⟨t, ht, hanswers, hcounts, -⟩ := exec_writeLive_takes (i := .runWrite r on) rfl hmay hop rfl
  have hbit : (flag 17 on).testBit 17 = on := by cases on <;> decide
  have hwritten : s.clear.runWritten = s.mile.run := by
    rw [State.runWritten, show s.clear.mile.later = [] from hlater]
    rfl
  refine ⟨t, ht, hanswers, ?_⟩
  rw [hcounts, hbit, hwritten]
  show (if on = s.mile.run then s.clear else s.clear.boundary (.run on)).mile.run = on
  split
  · next hsame => exact hsame.symm
  · rw [show s.clear.boundary (.run on) = s.clear.endWindow true on from
      if_neg (c := s.clear.mile.copying.isSome = true) (by rw [show s.clear.mile.copying = none from hcopy]; decide)]
    exact State.endWindow_run ..

theorem win100usWrite_takes (hmay : s.mayAct r none = true) (hop : State.isOperator r.caller = true) (hvalue : value ≠ 0) :
    ∃ t, exec (.win100usWrite r value) s = .next t ∧ t.answers r.caller 0o02 0 [] = true ∧ t.mile.win = value.toNat ∧
      t.mile.winNow = s.mile.winNow := by
  have hzero : value.toNat ≠ 0 := fun h => hvalue (BitVec.eq_of_toNat_eq h)
  obtain ⟨t, ht, hanswers, hcounts, -⟩ := exec_writeLive_takes (i := .win100usWrite r value) rfl hmay hop (if_neg hzero)
  exact ⟨t, ht, hanswers, by rw [hcounts], by rw [hcounts]; rfl⟩

/-- What the end of a copy does (R481). -/
def State.copyStep (s : State) : State :=
  if s.mile.copying.isNone then s
  else
    let s := s.endCopy
    match s.mile.later with
    | x :: rest =>
      let s := { s with mile := { s.mile with later := [] } }.boundary x
      rest.foldl State.boundary s
    | [] => s

theorem snapshotCopyDone_stores {c : Snapshot} (hcopy : s.mile.copying = some c) (hlater : s.mile.later = []) :
    ∃ t, exec .snapshotCopyDone s = .next t ∧
      t.mile = { s.mile with ring := tabPut none s.mile.ring (c.seq % 8) (some c), lastSeq := c.seq, copying := none } := by
  have hended : s.clear.endCopy = { s.clear with mile := { s.mile with
      ring := tabPut none s.mile.ring (c.seq % 8) (some c), lastSeq := c.seq, copying := none } } := by
    unfold State.endCopy
    rw [show s.clear.mile.copying = some c from hcopy]
    rfl
  have hstep : s.clear.copyStep = s.clear.endCopy := by
    unfold State.copyStep
    rw [if_neg (by rw [show s.clear.mile.copying = some c from hcopy]; simp), hended]
    dsimp only
    rw [hlater]
  have hexec : exec .snapshotCopyDone s = act [] s State.copyStep := rfl
  obtain ⟨-, hmile, -⟩ := actState_of_silent (s := s) (f := State.copyStep) (by rw [hstep, hended]; rfl)
  exact ⟨_, hexec, hmile.trans (by rw [hstep, hended])⟩

end

/-- Settles O44: one lemma for each command. -/
theorem milepostCommandsComplete : Obligations.MilepostCommandsComplete :=
  ⟨fun _ _ _ _ _ hmay hop hfixed hlisted hchain => milepostSelWrite_takes hmay hop hfixed hlisted hchain,
    fun _ _ _ _ _ hmay hop hbad => milepostSelWrite_refuses hmay hop hbad,
    fun _ _ _ _ _ hmay hop hfree => threshWrite_takes hmay hop hfree,
    fun _ _ hbegan hcopy hrun => windowBoundary_ends hbegan hcopy hrun,
    fun _ _ _ hmay hop hbegan hcopy hrun => snapNow_snaps hmay hop hbegan hcopy hrun,
    fun _ _ _ hmay hop hcopy hlater => runWrite_takes hmay hop hcopy hlater,
    fun _ _ _ hmay hop hvalue => win100usWrite_takes hmay hop hvalue,
    fun _ _ hcopy hlater => snapshotCopyDone_stores hcopy hlater⟩

end Sys2Proof.Machine

namespace Sys2Proof.Machine

/-! ## The operator is answered (R434 to R444)

A response may be the last of its session, which then closes, and it lets in what the session held back. `Replies` is what that may
come to; what it leaves alone follows by induction. -/

namespace State

/-- What may follow when a session of the operator is answered. -/
inductive Replies (s : State) : State → Prop
  | refl : Replies s s
  | sp {t : State} (v : SpUnit) (h : Replies s t) : Replies s { t with sp := v }
  | note {t : State} (n : Note) (hn : n ≠ .halt) (h : Replies s t) : Replies s (t.note n)
  | send {t : State} (m : Sent) (h : Replies s t) : Replies s (t.send m)
  | emitOwn {t : State} (e kind number arg : Nat) (hquiet : QuietEvent e) (h : Replies s t) :
      Replies s (t.emitOwn e kind number arg)
  | tenants {t : State} (v : Tab Tenant) (h : Replies s t) : Replies s { t with tenants := v }
  | destroy {t : State} (n : Nat) (h : Replies s t) : Replies s (t.destroySlot n)
  | image {t : State} (v : ImageUnit) (h : Replies s t) : Replies s { t with image := v }

namespace Replies

variable {s t u : State}

theorem trans (h : Replies s t) (h' : Replies t u) : Replies s u := by
  induction h' with
  | refl => exact h
  | sp v _ ih => exact ih.sp v
  | note n hn _ ih => exact ih.note n hn
  | send m _ ih => exact ih.send m
  | emitOwn e kind number arg hquiet _ ih => exact ih.emitOwn e kind number arg hquiet
  | tenants v _ ih => exact ih.tenants v
  | destroy n _ ih => exact ih.destroy n
  | image v _ ih => exact ih.image v

theorem ite {c : Prop} [Decidable c] (ht : Replies s t) (hu : Replies s u) : Replies s (if c then t else u) := by
  split
  · exact ht
  · exact hu

theorem emit {e : Nat} (hquiet : QuietEvent e) (kind number arg : Nat) (h : Replies s t) : Replies s (t.emit e kind number arg) :=
  (h.emitOwn e kind number arg hquiet).tenants _

end Replies

section
variable (s : State)

theorem frameOut_replies (port len : Nat) : Replies s (s.frameOut port len) :=
  .ite (.note _ nofun (.note _ nofun .refl)) (.note _ nofun .refl)

theorem setSession_replies (c : Caller) (v : Session) : Replies s (s.setSession c v) := by
  cases c with
  | operator | tenant => exact .sp _ .refl
  | plain => exact .refl

theorem abandonStaging_replies (n : Nat) : Replies s (s.abandonStaging n) := by
  have hquiet : QuietEvent 0o021007 := fun _ _ => rfl
  unfold abandonStaging
  split
  · exact .ite (.emitOwn _ _ _ _ hquiet (.image _ .refl)) .refl
  · exact .refl

theorem sessionEnded_replies (c : Caller) (v : Session) (cause : Nat) : Replies s (s.sessionEnded c v cause) := by
  have hquiet : QuietEvent 0o160002 := fun _ _ => rfl
  have hclosed (u w : SpUnit) (block code measure n : Nat) :
      Replies s { ({ s with sp := u } : State).occurs block code measure n with sp := w } :=
    .sp _ (.note _ nofun (.sp _ .refl))
  exact .ite ((hclosed ..).emit hquiet _ _ _) (hclosed ..)

variable {s} {c : Caller}

theorem sealFrame_replies {m : List Nat} {kind : Nat} {body : List Nat} {t : State}
    (h : s.sealFrame c kind body = some (m, t)) : Replies s t := by
  unfold sealFrame at h
  split at h
  · cases h
    exact setSession_replies ..
  · cases h

variable (s)

theorem sessionSealed_operator (hop : isOperator c = true) : s.sessionSealed c = s := by
  cases c with
  | operator => rfl
  | tenant | plain => exact absurd hop Bool.false_ne_true

theorem closeSession_replies (hop : isOperator c = true) (cause : Nat) : Replies s (s.closeSession c cause) := by
  have hunstaged (u : State) : Replies u (u.sessionUnstaged c) := by
    cases c with
    | operator n => exact abandonStaging_replies u n
    | tenant | plain => exact .refl
  rw [closeSession_eq]
  split
  · rw [sessionSealed_operator s hop]
    exact .ite .refl ((((setSession_replies ..).destroy _).trans (hunstaged _)).trans (sessionEnded_replies ..))
  · exact .refl

theorem settleSeq_replies (hop : isOperator c = true) : Replies s (s.settleSeq c) := by
  unfold settleSeq
  split
  · exact .ite (closeSession_replies s hop 3) .refl
  · exact .refl

theorem toPrincipal_replies (hop : isOperator c = true) (kind : Nat) (body : List Nat) :
    Replies s (s.toPrincipal c kind body) := by
  have hseal : Replies s (match s.sealFrame c kind body, s.session? c with
      | some (m, s), some v =>
        ((s.send (.mport (s.mportFrame v.peer m))).frameOut 17 (sessionFrame false body.length)).settleSeq c
      | _, _ => s) := by
    split
    · next hm _ =>
      exact (((sealFrame_replies hm).send _).trans (frameOut_replies ..)).trans (settleSeq_replies _ hop)
    · exact .refl
  cases c with
  | operator => exact hseal
  | tenant | plain => exact absurd hop Bool.false_ne_true

theorem respond_replies (hop : isOperator c = true) (verb status : Nat) (words : List Word) :
    Replies s (s.respond c verb status words) := by
  have hserved : Replies s (s.occur 35 0o001) := .note _ nofun .refl
  unfold respond
  dsimp only
  split
  · exact ((hserved.trans (setSession_replies ..)).send _).trans (toPrincipal_replies _ hop ..)
  · exact ((hserved.send _).send _).trans (frameOut_replies ..)

theorem takeRequest_replies (hop : isOperator c = true) (seq tag : Nat) (body : List Nat) :
    Replies s (s.takeRequest c seq tag body) := by
  have hquiet : QuietEvent 0o160001 := fun _ _ => rfl
  have hopened (v : Session) (b : Prop) [Decidable b] (kind number arg : Nat) : Replies s (if b then
      (s.setSession c v).emit 0o160001 kind number arg else s.setSession c v) :=
    .ite ((setSession_replies ..).emit hquiet _ _ _) (setSession_replies ..)
  unfold takeRequest
  split
  · exact .ite (hopened ..) ((hopened ..).trans (respond_replies _ hop ..))
  · exact .refl

theorem handleRequest_replies (hop : isOperator c = true) (seq tag : Nat) (body : List Nat) :
    Replies s (s.handleRequest c seq tag body) := by
  have htake := takeRequest_replies s hop seq tag body
  have hreplayed : Replies s ({ s with sp := { s.sp with replayed := satInc 18 s.sp.replayed } }.occur 35 0o002) :=
    .note _ nofun (.sp _ .refl)
  unfold handleRequest
  dsimp only
  split
  · exact .refl
  · refine .ite (.ite htake hreplayed) (.ite ?_ (.ite (.ite (.sp _ .refl) htake) hreplayed))
    split
    · exact (Replies.sp _ .refl).trans (toPrincipal_replies _ hop ..)
    · exact .refl

theorem takeHeld_replies (hop : isOperator c = true) (k : Nat) : Replies s (s.takeHeld c k) := by
  induction k generalizing s with
  | zero => exact .refl
  | succ k ih =>
    have hnext (f : HeldRequest) : Replies s
        (({ s with sp := { s.sp with held := s.sp.held.erase f } }.handleRequest c f.seq f.tag f.body).takeHeld c k) :=
      ((Replies.sp _ .refl).trans (handleRequest_replies _ hop ..)).trans (ih _)
    rw [takeHeld]
    cases s.sp.held.find? (fun f => decide (f.caller = c)) with
    | none => exact .refl
    | some f => exact .ite .refl (hnext f)

theorem respondLater_replies (hop : isOperator c = true) (verb status : Nat) (words : List Word) (args : List Nat) :
    Replies s (s.respondLater c verb status words args) := by
  have hrecorded (u : State) (hu : Replies s u) : Replies s (u.controlRecord c verb status args) := .note _ nofun hu
  exact (hrecorded _ (respond_replies s hop verb status words)).trans (takeHeld_replies _ hop _)

end

/-! ### What is kept -/

section
variable {s t : State}

/-- The Trip Recorder is stopped by no response. -/
theorem Replies.halts (h : Replies s t) (hn : .halt ∈ t.notes) : .halt ∈ s.notes := by
  have hadd {l : List Note} {n : Note} (hn : n ≠ .halt) (h : .halt ∈ l ++ [n]) : .halt ∈ l := by
    obtain hold | hnew := List.mem_append.mp h
    · exact hold
    · exact absurd (List.mem_singleton.mp hnew) hn.symm
  induction h with
  | refl => exact hn
  | sp _ _ ih | send _ _ ih | tenants _ _ ih | image _ _ ih => exact ih hn
  | note n hother _ ih => exact ih (hadd hother hn)
  | emitOwn _ _ _ _ _ _ ih => exact ih (hadd (n := .event _) nofun hn)
  | @destroy t n _ ih =>
    unfold destroySlot at hn
    dsimp only at hn
    split at hn
    · exact ih hn
    · split at hn
      · exact ih (hadd (n := .rcd ..) nofun (hadd (n := .event _) nofun hn))
      · exact ih (hadd (n := .occ ..) nofun (hadd (n := .rcd ..) nofun hn))

/-- Between two states no alarm was raised, and none ended; the register fails no other slot. -/
structure Calm (s t : State) : Prop where
  entries : t.alarm.entries = s.alarm.entries
  overflow : t.alarm.overflow = s.alarm.overflow
  defective : t.keys.defective = s.keys.defective

theorem Calm.trans {u : State} (h : Calm s t) (h' : Calm t u) : Calm s u :=
  ⟨h'.entries.trans h.entries, h'.overflow.trans h.overflow, h'.defective.trans h.defective⟩

theorem emitOwn_calm (s : State) {e : Nat} (hquiet : QuietEvent e) (kind number arg : Nat) :
    Calm s (s.emitOwn e kind number arg) := by
  have hring (u : State) : u.settleAlert.alarm.entries = u.alarm.entries ∧ u.settleAlert.alarm.overflow = u.alarm.overflow := by
    rw [settleAlert_alarm]
    exact ⟨rfl, rfl⟩
  unfold emitOwn emitOwnWith alarmAfter
  dsimp only
  rw [hquiet]
  exact ⟨(hring _).1, (hring _).2, rfl⟩

theorem destroySlot_calm (s : State) (hsound : s.keys.defective = []) (n : Nat) : Calm s (s.destroySlot n) := by
  have hgood : ¬ s.keys.defective.contains n = true := by rw [hsound]; simp
  unfold destroySlot
  dsimp only
  rw [if_neg hgood]
  split <;> exact ⟨rfl, rfl, rfl⟩

/-- Unless a slot of the register fails, the operator is answered with no alarm raised, and none ended. -/
theorem Replies.calm (h : Replies s t) (hsound : s.keys.defective = []) : Calm s t := by
  induction h with
  | refl => exact ⟨rfl, rfl, rfl⟩
  | sp _ _ ih | note _ _ _ ih | send _ _ ih | tenants _ _ ih | image _ _ ih => exact ih.trans ⟨rfl, rfl, rfl⟩
  | emitOwn _ _ _ _ hquiet _ ih => exact ih.trans (emitOwn_calm _ hquiet ..)
  | destroy n _ ih => exact ih.trans (destroySlot_calm _ (ih.defective.trans hsound) n)

end

/-! ## Acknowledgement (R463) -/

section
variable {s : State}

/-- What is not unacknowledged is as it was. -/
theorem entryAcked_of_acked {n : AlarmEntry} (h : entryUnack n = false) : entryAcked n = n := by
  unfold entryUnack at h
  unfold entryAcked
  cases hstate : n.state <;> simp_all

theorem setAlarmEntry_same (s : State) (i : Nat) (n : AlarmEntry) : (s.setAlarmEntry i n).alarmEntry i = n :=
  tabGet_tabPut_same ..

theorem setAlarmEntry_other (s : State) (n : AlarmEntry) {i j : Nat} (h : i ≠ j) :
    (s.setAlarmEntry i n).alarmEntry j = s.alarmEntry j :=
  tabGet_tabPut_other _ _ _ h

/-- Each entry of a list is acknowledged once. -/
theorem foldl_acked {l : List Nat} (hl : l.Nodup) (s : State) (j : Nat) :
    (l.foldl (fun s i => s.setAlarmEntry i (entryAcked (s.alarmEntry i))) s).alarmEntry j =
      if j ∈ l then entryAcked (s.alarmEntry j) else s.alarmEntry j := by
  induction l generalizing s with
  | nil => rfl
  | cons i l ih =>
    rw [List.nodup_cons] at hl
    rw [List.foldl_cons, ih hl.2]
    by_cases hj : i = j
    · subst hj
      rw [if_neg hl.1, if_pos List.mem_cons_self, setAlarmEntry_same]
    · have hmem : j ∈ i :: l ↔ j ∈ l := by rw [List.mem_cons, or_iff_right (Ne.symm hj)]
      simp only [setAlarmEntry_other _ _ hj, hmem]

theorem ackEntries_entry (s : State) {p : AlarmEntry → Bool} {i : Nat} (hi : i ∈ List.range 64) (hp : p (s.alarmEntry i) = true) :
    (s.ackEntries p).1.alarmEntry i = entryAcked (s.alarmEntry i) := by
  have hsettled (u : State) : u.settleAlert.alarmEntry i = u.alarmEntry i := by
    rw [alarmEntry, settleAlert_alarm]
    rfl
  have hnodup : ((List.range 64).filter (fun i => entryUnack (s.alarmEntry i) && p (s.alarmEntry i))).Nodup :=
    List.nodup_range.filter _
  refine (hsettled _).trans ((foldl_acked hnodup s i).trans ?_)
  by_cases hunack : entryUnack (s.alarmEntry i) = true
  · exact if_pos (List.mem_filter.mpr ⟨hi, by rw [hunack, hp]; rfl⟩)
  · rw [if_neg (by simp [hunack]), entryAcked_of_acked (by simpa using hunack)]

theorem ackEntries_keeps (s : State) (p : AlarmEntry → Bool) :
    (s.ackEntries p).1.alarm.overflow = s.alarm.overflow ∧ (s.ackEntries p).1.keys = s.keys := by
  have hfold (l : List Nat) : (l.foldl (fun s i => s.setAlarmEntry i (entryAcked (s.alarmEntry i))) s).alarm.overflow =
      s.alarm.overflow ∧ (l.foldl (fun s i => s.setAlarmEntry i (entryAcked (s.alarmEntry i))) s).keys = s.keys :=
    List.foldlRecOn l _ (motive := fun t : State => t.alarm.overflow = s.alarm.overflow ∧ t.keys = s.keys) ⟨rfl, rfl⟩
      (fun _ h _ _ => h)
  have hsettled (u : State) : u.settleAlert.alarm.overflow = u.alarm.overflow := by rw [settleAlert_alarm]
  exact ⟨(hsettled _).trans (hfold _).1, (hfold _).2⟩

end
end State

section
variable {s : State} {r : VerbCall}

/-- ALARM_ACK of the operator is served and answered; the entries are as it leaves them. -/
theorem exec_alarmAck {i : Instr} {args : List Nat} {run : State → Served}
    (hexec : exec i s = act [.once, .image, .keys, .tenants, .tp, .sp] s (fun s =>
      s.serve r 0o17 (State.isOperator r.caller) none args run))
    (hmay : s.mayAct r none = true) (hop : State.isOperator r.caller = true)
    (hsound : (run s.clear).st.keys.defective = []) :
    ∃ t, exec i s = .next t ∧ t.answers r.caller 0o17 (run s.clear).status (run s.clear).words = true ∧
      t.alarm.entries = (run s.clear).st.alarm.entries ∧ t.alarm.overflow = (run s.clear).st.alarm.overflow := by
  have hmay' : s.clear.mayAct r none = true := hmay
  have hcalm := ((run s.clear).st.respondLater_replies hop 0o17 (run s.clear).status (run s.clear).words args).calm hsound
  obtain ⟨-, hanswers⟩ := State.respondLater_responds (op := True) (run s.clear).st r.caller 0o17 (run s.clear).status
    (run s.clear).words args fun _ => trivial
  have hserve : s.clear.serve r 0o17 (State.isOperator r.caller) none args run =
      (run s.clear).st.respondLater r.caller 0o17 (run s.clear).status (run s.clear).words args := by
    rw [hop, State.serve_of_mayAct hmay']
  obtain ⟨t, ht, hsent, -, hentries, hoverflow, -⟩ := exec_reaches_observed hexec hserve
  exact ⟨t, ht, State.answers_of_sent hsent hanswers, hentries.trans hcalm.entries, hoverflow.trans hcalm.overflow⟩

/-- The entry that ALARM_ACK names is acknowledged. -/
def ackEntry (i : Nat) (s : State) : State :=
  let n := s.alarmEntry i
  let s := s.setAlarmEntry i (entryAcked n)
  { s with alarm := { s.alarm with acks := if entryUnack n then satInc 18 s.alarm.acks else s.alarm.acks } }.settleAlert

theorem ackEntry_entry (i : Nat) (s : State) : (ackEntry i s).alarm.entries =
    (s.setAlarmEntry i (entryAcked (s.alarmEntry i))).alarm.entries := by
  rw [ackEntry, State.settleAlert_alarm]

/-- ALARM_ACK in mode 0. -/
def ackNamed (i event kn : Nat) (s : State) : Served :=
  let n := s.alarmEntry i
  if i ≥ 64 then { st := s, status := stBadValue }
  else if n.state = AlarmState.free || n.event ≠ event || fld 17 14 n.kind + fld 13 0 n.number ≠ kn then
    { st := s, status := stStale }
  else { st := ackEntry i s, status := stDone, words := [if entryUnack n then 1 else 0] }

theorem alarmAckEntry_acknowledges {a0 : BitVec 16} {event kn : Word} (hmay : s.mayAct r none = true)
    (hop : State.isOperator r.caller = true) (hlow : a0.toNat < 64) (hused : (s.alarmEntry a0.toNat).state ≠ .free)
    (hevent : (s.alarmEntry a0.toNat).event = event.toNat)
    (hsubject : fld 17 14 (s.alarmEntry a0.toNat).kind + fld 13 0 (s.alarmEntry a0.toNat).number = kn.toNat)
    (hsound : s.keys.defective = []) :
    ∃ t, exec (.alarmAckEntry r a0 event kn) s = .next t ∧
      t.answers r.caller 0o17 0 [if entryUnack (s.alarmEntry a0.toNat) then 1 else 0] = true ∧
      t.alarmEntry a0.toNat = entryAcked (s.alarmEntry a0.toNat) := by
  have hserved : ackNamed a0.toNat event.toNat kn.toNat s.clear =
      { st := ackEntry a0.toNat s.clear, status := stDone, words := [if entryUnack (s.alarmEntry a0.toNat) then 1 else 0] } := by
    unfold ackNamed
    dsimp only
    rw [if_neg (Nat.not_le.mpr hlow), show s.clear.alarmEntry a0.toNat = s.alarmEntry a0.toNat from rfl,
      if_neg (by simp [hused, hevent, hsubject])]
  obtain ⟨t, ht, hanswers, hentries, -⟩ := exec_alarmAck (i := .alarmAckEntry r a0 event kn)
    (run := ackNamed a0.toNat event.toNat kn.toNat) rfl hmay hop (by rw [hserved]; exact hsound)
  rw [hserved] at hanswers hentries
  refine ⟨t, ht, hanswers, ?_⟩
  rw [State.alarmEntry, hentries, ackEntry_entry]
  exact State.setAlarmEntry_same s.clear ..

/-- ALARM_ACK in mode 1. -/
def ackClassed (a0 : BitVec 16) (s : State) : Served :=
  let c := bits a0.toNat 15 13
  if bits a0.toNat 12 0 ≠ 0 || c < 2 || c > 5 then { st := s, status := stBadValue }
  else s.ackServed (fun n => evClass n.event = c)

theorem ackClassed_of_form {a0 : BitVec 16} (hform : bits a0.toNat 12 0 = 0) (hlow : 2 ≤ bits a0.toNat 15 13)
    (hhigh : bits a0.toNat 15 13 ≤ 5) (s : State) :
    ackClassed a0 s = s.ackServed (fun n => evClass n.event = bits a0.toNat 15 13) := by
  refine if_neg ?_
  simp only [Bool.or_eq_true, decide_eq_true_eq]
  omega

theorem alarmAckClass_acknowledges {a0 : BitVec 16} (hmay : s.mayAct r none = true) (hop : State.isOperator r.caller = true)
    (hform : bits a0.toNat 12 0 = 0) (hlow : 2 ≤ bits a0.toNat 15 13) (hhigh : bits a0.toNat 15 13 ≤ 5)
    (hsound : s.keys.defective = []) :
    ∃ t, exec (.alarmAckClass r a0) s = .next t ∧
      t.answers r.caller 0o17 0 [BitVec.ofNat 18 ((List.range 64).filter (fun i => entryUnack (s.alarmEntry i) &&
        decide (evClass (s.alarmEntry i).event = bits a0.toNat 15 13))).length] = true ∧
      (∀ i ∈ List.range 64, evClass (s.alarmEntry i).event = bits a0.toNat 15 13 →
        t.alarmEntry i = entryAcked (s.alarmEntry i)) := by
  obtain ⟨-, hkeys⟩ := s.clear.ackEntries_keeps (fun n => evClass n.event = bits a0.toNat 15 13)
  have hserved := ackClassed_of_form hform hlow hhigh s.clear
  obtain ⟨t, ht, hanswers, hentries, -⟩ := exec_alarmAck (i := .alarmAckClass r a0) (run := ackClassed a0) rfl hmay hop
    (by rw [hserved]; exact (congrArg KeyUnit.defective hkeys).trans hsound)
  rw [hserved] at hanswers hentries
  refine ⟨t, ht, hanswers, fun i hi hclass => ?_⟩
  rw [State.alarmEntry, hentries]
  exact s.clear.ackEntries_entry (p := fun n => evClass n.event = bits a0.toNat 15 13) hi (decide_eq_true hclass)

/-- ALARM_ACK in mode 2. -/
def ackedAll (s : State) : Served := { s with alarm := { s.alarm with overflow := false } }.ackServed (fun _ => true)

theorem ackedAll_words (s : State) : (ackedAll s).words =
    [BitVec.ofNat 18 ((List.range 64).filter (fun i => entryUnack (s.alarmEntry i))).length] := by
  have hcount : (fun i => entryUnack (s.alarmEntry i) && true) = fun i => entryUnack (s.alarmEntry i) := by
    funext i
    exact Bool.and_true _
  rw [← hcount]
  rfl

theorem ackedAll_keeps (s : State) : (ackedAll s).st.alarm.overflow = false ∧ (ackedAll s).st.keys = s.keys :=
  State.ackEntries_keeps { s with alarm := { s.alarm with overflow := false } } (fun _ => true)

theorem ackedAll_entry (s : State) {i : Nat} (hi : i ∈ List.range 64) :
    (ackedAll s).st.alarmEntry i = entryAcked (s.alarmEntry i) :=
  State.ackEntries_entry { s with alarm := { s.alarm with overflow := false } } (p := fun _ => true) hi rfl

theorem alarmAckAll_acknowledges (hmay : s.mayAct r none = true) (hop : State.isOperator r.caller = true)
    (hsound : s.keys.defective = []) :
    ∃ t, exec (.alarmAckAll r) s = .next t ∧
      t.answers r.caller 0o17 0 [BitVec.ofNat 18 ((List.range 64).filter (fun i => entryUnack (s.alarmEntry i))).length] = true ∧
      t.alarm.overflow = false ∧ (∀ i ∈ List.range 64, t.alarmEntry i = entryAcked (s.alarmEntry i)) := by
  obtain ⟨hclear, hkeys⟩ := ackedAll_keeps s.clear
  obtain ⟨t, ht, hanswers, hentries, hoverflow⟩ := exec_alarmAck (i := .alarmAckAll r) (run := ackedAll) rfl hmay hop
    (by rw [hkeys]; exact hsound)
  rw [ackedAll_words] at hanswers
  refine ⟨t, ht, hanswers, hoverflow.trans hclear, fun i hi => ?_⟩
  rw [State.alarmEntry, hentries]
  exact ackedAll_entry s.clear hi

end

/-! ## ALERT_N (R462) -/

namespace State

section
variable {s t : State} {stops : Prop}

theorem alertCause_congr (h : t.alarm = { s.alarm with
    eventSeq := t.alarm.eventSeq, events := t.alarm.events, ring := t.alarm.ring, alertLow := t.alarm.alertLow
    alertHold := t.alarm.alertHold }) : t.alertCause = s.alertCause := by
  have halerts (n : AlarmEntry) : t.entryAlerts n = s.entryAlerts n := by
    unfold entryAlerts
    rw [h]
    rfl
  unfold alertCause
  simp only [halerts]
  rw [h]

theorem Told.alertCause (h : Told stops s t) : t.alertCause = s.alertCause := alertCause_congr h.alarm

theorem settleAlert_low (h : s.alertCause = true) : s.settleAlert.alarm.alertLow = true := by
  unfold settleAlert
  dsimp only
  rw [if_pos h]
  split <;> rfl

/-- ALERT_N stands high, and nothing is to bring it down. -/
structure AlertRests (s : State) : Prop where
  starts : s.start.outcome = .running ∨ s.start.outcome = .held
  cause : s.alertCause = false
  high : s.alarm.alertLow = false
  hold : s.alarm.alertHold = none

theorem settleAlert_rests (hstart : s.start.outcome = .running ∨ s.start.outcome = .held) (hcause : s.alertCause = false)
    (hold : s.alarm.alertHold.any (fun t => decide (s.now < t + ms 1)) = false) :
    s.settleAlert.alarm.alertLow = false ∧ s.settleAlert.alarm.alertHold = none := by
  unfold settleAlert
  dsimp only
  rw [if_neg (by rw [hcause]; decide), if_neg (by rw [hold]; decide)]
  obtain hrunning | hheld := hstart
  · rw [hrunning]
    exact ⟨rfl, rfl⟩
  · rw [hheld]
    exact ⟨rfl, rfl⟩

theorem Told.start (h : Told stops s t) : t.start = s.start := by
  induction h with
  | refl => rfl
  | free _ _ ih | counts _ _ _ ih | stop _ _ _ _ ih | cleared _ ih => exact ih
  | record type content _ ih => exact (record_start ..).trans ih
  | @trigger t cause event _ ih =>
    rw [t.trigger_trip]
    exact ih
  | event e arg _ _ ih => exact (emitOwn_start ..).trans ih

theorem AlertRests.congr (h : AlertRests s) (hstart : t.start = s.start) (halarm : t.alarm = s.alarm) : AlertRests t :=
  ⟨by rw [hstart]; exact h.starts, (alertCause_congr (by rw [halarm])).trans h.cause, by rw [halarm]; exact h.high,
    by rw [halarm]; exact h.hold⟩

/-- ALERT_N rests whatever the observers are told. -/
theorem AlertRests.told (h : AlertRests s) (htold : Told stops s t) : AlertRests t := by
  induction htold with
  | refl => exact h
  | free _ _ ih | counts _ _ _ ih | stop _ _ _ _ ih | cleared _ ih => exact ih.congr rfl rfl
  | record type content _ ih => exact ih.congr (record_start ..) (record_writes ..).alarm
  | @trigger t cause event _ ih => exact ih.congr (by rw [t.trigger_trip]) (by rw [t.trigger_trip])
  | @event t e arg hquiet _ ih =>
    obtain ⟨r, n, k, hring⟩ := t.emitOwn_quiet hquiet arg
    have hcause : (t.ringTakes r n k).alertCause = t.alertCause := alertCause_congr rfl
    obtain ⟨hhigh, hhold⟩ := settleAlert_rests (s := t.ringTakes r n k) ih.starts (hcause.trans ih.cause)
      (by rw [show (t.ringTakes r n k).alarm.alertHold = none from ih.hold]; rfl)
    exact ⟨by rw [emitOwn_start]; exact ih.starts,
      (Told.alertCause (stops := stops) (Told.refl.event e arg hquiet)).trans ih.cause, by rw [hring, hhigh], by rw [hring, hhold]⟩

/-- While a cause holds ALERT_N low it stays low. -/
theorem Told.low (h : Told stops s t) (hcause : s.alertCause = true) (hlow : s.alarm.alertLow = true) : t.alarm.alertLow = true := by
  induction h with
  | refl => exact hlow
  | free _ _ ih | counts _ _ _ ih | stop _ _ _ _ ih | cleared _ ih => exact ih
  | record type content _ ih =>
    rw [(record_writes ..).alarm]
    exact ih
  | @trigger t cause event _ ih =>
    rw [t.trigger_trip]
    exact ih
  | @event t e arg hquiet htold ih =>
    obtain ⟨r, n, k, hring⟩ := t.emitOwn_quiet hquiet arg
    rw [hring]
    exact settleAlert_low ((alertCause_congr rfl).trans (htold.alertCause.trans hcause))

/-- Without a cause the 1 ms low is never begun anew. -/
theorem settleAlert_hold (h : s.alertCause = false) :
    s.settleAlert.alarm.alertHold = s.alarm.alertHold ∨ s.settleAlert.alarm.alertHold = none := by
  unfold settleAlert
  dsimp only
  rw [if_neg (by rw [h]; decide)]
  split
  · split
    · exact .inl rfl
    · exact .inr rfl
  · split
    · exact .inl rfl
    · exact .inr rfl
  · exact .inl rfl

theorem Told.hold (h : Told stops s t) (hcause : s.alertCause = false) :
    t.alarm.alertHold = s.alarm.alertHold ∨ t.alarm.alertHold = none := by
  induction h with
  | refl => exact .inl rfl
  | free _ _ ih | counts _ _ _ ih | stop _ _ _ _ ih | cleared _ ih => exact ih
  | record type content _ ih =>
    rw [(record_writes ..).alarm]
    exact ih
  | @trigger t cause event _ ih =>
    rw [t.trigger_trip]
    exact ih
  | @event t e arg hquiet htold ih =>
    obtain ⟨r, n, k, hring⟩ := t.emitOwn_quiet hquiet arg
    have hnone : (t.ringTakes r n k).alertCause = false := (alertCause_congr rfl).trans (htold.alertCause.trans hcause)
    rw [hring]
    obtain hsame | hgone := settleAlert_hold hnone
    · rw [hsame]
      exact ih
    · exact .inr hgone

theorem upTo_hold (s : State) (x : Nat) (hcause : s.alertCause = false) :
    (s.upTo x).alarm.alertHold = s.alarm.alertHold ∨ (s.upTo x).alarm.alertHold = none := by
  obtain ⟨u, htold, hup⟩ := s.upTo_told (stops := True) x
  rw [show (s.upTo x).alarm = u.alarm by rw [hup]]
  exact htold.hold hcause

/-- ALERT_N is settled at a time. -/
def alertAt (s : State) (x : Nat) : State := (s.upTo x).settleAlert

theorem alertAt_told (s : State) (x : Nat) : (s.alertAt x).now = max s.now x ∧ (s.alertAt x).start = s.start ∧
    (s.alertAt x).alarm.entries = s.alarm.entries ∧ (s.alertAt x).alertCause = s.alertCause ∧
    (s.upTo x).alertCause = s.alertCause := by
  obtain ⟨u, htold, hup⟩ := s.upTo_told (stops := True) x
  have halarm : (s.upTo x).alarm = u.alarm := by rw [hup]
  have hcause : (s.upTo x).alertCause = s.alertCause := by
    rw [← htold.alertCause]
    exact alertCause_congr (by rw [halarm])
  refine ⟨s.upTo_now x, ?_, ?_, ?_, hcause⟩
  · rw [alertAt, settleAlert_start, upTo_elapses]
  · rw [alertAt, settleAlert_alarm]
    exact (congrArg AlarmUnit.entries halarm).trans htold.entries
  · rw [← hcause]
    refine alertCause_congr ?_
    rw [alertAt, settleAlert_alarm]

end
end State

section
variable {s : State}

/-- What the end of the 1 ms low does (R462). -/
def alertStep (s : State) : State :=
  match s.alarm.alertHold with
  | some t => s.alertAt (t + ms 1)
  | none => s

theorem alertStep_of_hold {x : Nat} (hhold : s.alarm.alertHold = some x) : alertStep s.clear = s.clear.alertAt (x + ms 1) := by
  unfold alertStep
  rw [show s.clear.alarm.alertHold = some x from hhold]

/-- What has to end by a time is over then. -/
theorem notDue {o : Option Nat} {d n y : Nat} (h : o.all (fun t => decide (t + d ≤ y)) = true) :
    o.any (fun t => decide (max n y < t + d)) = false := by
  cases o with
  | none => rfl
  | some t =>
    have hover : t + d ≤ y := of_decide_eq_true h
    exact decide_eq_false (by omega)

/-- ALERT_N after the command, settled at a time and told. -/
theorem alertTold {f : State → State} {y : Nat} (hf : f s.clear = s.clear.alertAt y) :
    (actState [.now, .free, .tp] s f).now = max s.now y ∧
      (actState [.now, .free, .tp] s f).alarm.entries = s.alarm.entries ∧
      (s.alertCause = true → (actState [.now, .free, .tp] s f).alarm.alertLow = true) ∧
      ((s.start.outcome = .running ∨ s.start.outcome = .held) → s.alertCause = false →
        s.alarm.alertHold.all (fun t => decide (t + ms 1 ≤ y)) = true →
        (actState [.now, .free, .tp] s f).alarm.alertLow = false ∧ (actState [.now, .free, .tp] s f).alarm.alertHold = none) := by
  have htold : State.Told True (s.effect [.now, .free, .tp] f) (State.tell 1200 (s.effect [.now, .free, .tp] f)) :=
    State.tell_told _ _ (fun _ => trivial)
  have hend : (actState [.now, .free, .tp] s f).alarm = (State.tell 1200 (s.effect [.now, .free, .tp] f)).alarm := rfl
  have hstart : (s.effect [.now, .free, .tp] f).start = s.start := rfl
  have halarm : (s.effect [.now, .free, .tp] f).alarm = (s.clear.alertAt y).alarm := (congrArg State.alarm hf :)
  obtain ⟨hclock, -, hentries, hsettled, hbefore⟩ := s.clear.alertAt_told y
  have hcause : (s.effect [.now, .free, .tp] f).alertCause = s.alertCause :=
    (State.alertCause_congr (by rw [halarm])).trans hsettled
  refine ⟨?_, ?_, fun hlow => ?_, fun hruns hnone hover => ?_⟩
  · exact (congrArg State.now hf :).trans hclock
  · rw [hend, htold.entries, halarm, hentries]
    rfl
  · rw [hend]
    exact htold.low (hcause.trans hlow) (by rw [halarm]; exact State.settleAlert_low (hbefore.trans hlow))
  · have hover' : (s.clear.upTo y).alarm.alertHold.any (fun t => decide ((s.clear.upTo y).now < t + ms 1)) = false := by
      rw [State.upTo_now]
      generalize ms 1 = d at hover ⊢
      obtain hsame | hgone := s.clear.upTo_hold y hnone
      · rw [hsame]
        exact notDue hover
      · rw [hgone]
        rfl
    obtain ⟨hhigh, hhold⟩ := State.settleAlert_rests (s := s.clear.upTo y)
      (by rw [State.upTo_elapses]; exact hruns) (hbefore.trans hnone) hover'
    have hrests : State.AlertRests (s.effect [.now, .free, .tp] f) :=
      ⟨by rw [hstart]; exact hruns, hcause.trans hnone, by rw [halarm]; exact hhigh, by rw [halarm]; exact hhold⟩
    obtain ⟨-, -, hhigh', hhold'⟩ := hrests.told htold
    exact ⟨hhigh', hhold'⟩

theorem alertHoldExpiry_rises {x : Nat} (hhold : s.alarm.alertHold = some x)
    (hstart : s.start.outcome = .running ∨ s.start.outcome = .held) (hcause : s.alertCause = false) :
    ∃ t, exec .alertHoldExpiry s = .next t ∧ t.now = max s.now (x + ms 1) ∧ t.alarm.entries = s.alarm.entries ∧
      t.alarm.alertLow = false ∧ t.alarm.alertHold = none := by
  obtain ⟨hnow, hentries, -, hrises⟩ := alertTold (alertStep_of_hold hhold)
  have hexec : exec .alertHoldExpiry s = act [.now, .free, .tp] s alertStep := rfl
  exact ⟨_, hexec, hnow, hentries, hrises hstart hcause (by rw [hhold]; simp)⟩

theorem alertHoldExpiry_stays {x : Nat} (hhold : s.alarm.alertHold = some x) (hcause : s.alertCause = true) :
    ∃ t, exec .alertHoldExpiry s = .next t ∧ t.now = max s.now (x + ms 1) ∧ t.alarm.entries = s.alarm.entries ∧
      t.alarm.alertLow = true := by
  obtain ⟨hnow, hentries, hlow, -⟩ := alertTold (alertStep_of_hold hhold)
  have hexec : exec .alertHoldExpiry s = act [.now, .free, .tp] s alertStep := rfl
  exact ⟨_, hexec, hnow, hentries, hlow hcause⟩

end

/-- Settles O43: one lemma for each command. -/
theorem alarmCommandsComplete : Obligations.AlarmCommandsComplete :=
  ⟨fun _ _ _ _ _ hmay hop hlow hused hevent hsubject hsound =>
      alarmAckEntry_acknowledges hmay hop hlow hused hevent hsubject hsound,
    fun _ _ _ hmay hop hform hlow hhigh hsound => alarmAckClass_acknowledges hmay hop hform hlow hhigh hsound,
    fun _ _ hmay hop hsound => alarmAckAll_acknowledges hmay hop hsound,
    fun _ _ hhold hstart hcause => alertHoldExpiry_rises hhold hstart hcause,
    fun _ _ hhold hcause => alertHoldExpiry_stays hhold hcause⟩

end Sys2Proof.Machine

namespace Sys2Proof.Machine
namespace State

/-! ## Faults of tenants (R216) -/

/-- Between two states no tenant's fault has another cause. -/
structure FaultsStand (s t : State) : Prop where
  cause : ∀ n, (t.tenant n).faultCause = (s.tenant n).faultCause

namespace FaultsStand

variable {s t u : State}

theorem refl (s : State) : FaultsStand s s := ⟨fun _ => rfl⟩

theorem trans (h : FaultsStand s t) (h' : FaultsStand t u) : FaultsStand s u :=
  ⟨fun n => (h'.cause n).trans (h.cause n)⟩

theorem of_tenants (h : t.tenants = s.tenants) : FaultsStand s t := ⟨fun n => by rw [tenant, tenant, h]⟩

theorem foldl {α : Type} {f : State → α → State} (hf : ∀ s x, FaultsStand s (f s x)) (l : List α) (s : State) :
    FaultsStand s (l.foldl f s) :=
  List.foldlRecOn l f (motive := FaultsStand s) (refl s) (fun _ h x _ => h.trans (hf _ x))

theorem ite {c : Prop} [Decidable c] (ht : FaultsStand s t) (hu : FaultsStand s u) : FaultsStand s (if c then t else u) := by
  split
  · exact ht
  · exact hu

end FaultsStand

section
variable (s : State)

theorem setTenant_faultsStand {t : Nat} {v : Tenant} (h : v.faultCause = (s.tenant t).faultCause) :
    FaultsStand s (s.setTenant t v) := by
  refine ⟨fun n => ?_⟩
  by_cases hn : t = n
  · subst hn
    rw [tenant_setTenant_same, h]
  · rw [tenant_setTenant_other s v hn]

theorem emit_faultsStand (e kind number arg : Nat) : FaultsStand s (s.emit e kind number arg) := by
  have hstored (u : State) (t e kind number arg : Nat) : FaultsStand u (u.storeRecord t e kind number arg) :=
    .ite (setTenant_faultsStand u rfl) (setTenant_faultsStand u rfl)
  have hcopied : FaultsStand s (s.copyToTenants e kind number (arg % 2 ^ 18)) :=
    .ite (.foldl (fun u _ => hstored u ..) _ s) (.refl s)
  exact hcopied.trans (.of_tenants rfl)

theorem sendFlow_tenants (n prios quanta : Nat) : (s.sendFlow n prios quanta).tenants = s.tenants := by
  have hframe (u : State) (port len : Nat) : (u.frameOut port len).tenants = u.tenants := by
    unfold frameOut
    dsimp only
    split <;> rfl
  unfold sendFlow
  split
  · exact hframe ..
  · rfl

theorem laneFlow_tenants (n : Nat) : (s.laneFlow n).tenants = s.tenants := by
  have hif (c : Prop) [Decidable c] (u : State) (a b : Nat) : (if c then u.sendFlow n a b else u).tenants = u.tenants := by
    split
    · exact sendFlow_tenants ..
    · rfl
  unfold laneFlow
  dsimp only
  split
  · split
    · rfl
    · exact sendFlow_tenants ..
  · split
    · split
      · rfl
      · exact (hif ..).trans (hif ..)
    · rfl

theorem flowAll_faultsStand : FaultsStand s s.flowAll :=
  .foldl (fun s n => .ite (.of_tenants (laneFlow_tenants s n)) (.refl s)) _ s

theorem markReleased_faultsStand (l : List Nat) (at_ : Option Nat) : FaultsStand s (s.markReleased l at_) :=
  .foldl (fun s q => .ite (.of_tenants (t := s.setQueue q { s.queue q with releasedAt := at_ }) rfl) (.refl s)) l s

theorem releaseDelays_faultsStand (t : Nat) : FaultsStand s (s.releaseDelays t) := by
  have hdelay (l : List Nat) (n : Note) : FaultsStand s (({ s with tp := { s.tp with delay := l } } : State).note n) :=
    .of_tenants rfl
  exact (hdelay ..).trans ((markReleased_faultsStand ..).trans (flowAll_faultsStand _))

theorem delayFalls_faultsStand (t c : Nat) : FaultsStand s (s.delayFalls t c) := by
  have hreleased (l : List Nat) : FaultsStand s { s.occur 25 0o010 with tp := { s.tp with delay := l } } := .of_tenants rfl
  unfold delayFalls
  exact .ite (((hreleased _).trans (.ite (.refl _) (markReleased_faultsStand ..))).trans (flowAll_faultsStand _)) (.refl s)

theorem wayEnd_faultsStand (q outPort : Nat) (f : QFrame) (prot : Bool) (outcome : Nat) :
    FaultsStand s (s.wayEnd q outPort f prot outcome) := by
  have hwrite (u : State) (e : List Nat) : FaultsStand u (u.wayWrite e) := by
    unfold wayWrite
    exact .ite (.ite (.of_tenants rfl) (.of_tenants rfl)) (.of_tenants rfl)
  have hbegun (n : Nat) (w : WayUnit) : FaultsStand s { s with free := n, way := w } := .of_tenants rfl
  unfold wayEnd
  split
  · exact (hbegun ..).trans (hwrite ..)
  · exact .refl s

theorem refuse_faultsStand (t q : Nat) : FaultsStand s (s.refuse t q rcTenantReset) := by
  have hcount (u : State) : FaultsStand u (u.refuseCount t q rcTenantReset) := by
    have hkey (v : State) (l : List (Nat × Nat × Nat)) : FaultsStand v { v with once := l } := .of_tenants rfl
    have honce (v : State) : FaultsStand v (v.emitOnceKey (32 * q + rcTenantReset) 0o071003 2 q rcTenantReset) :=
      .ite (.refl v) ((hkey ..).trans (emit_faultsStand ..))
    have hqueue : FaultsStand u (u.queueCounts q rcTenantReset) := .of_tenants rfl
    have htenant (v : State) : FaultsStand v (v.tenantCounts t rcTenantReset) := setTenant_faultsStand v rfl
    rw [refuseCount_eq, degrade_tenantReset]
    exact (hqueue.trans (htenant _)).trans (honce _)
  have hlane (n : Nat) (v : Lane) : FaultsStand s (s.setLane n v) := .of_tenants rfl
  unfold refuse
  dsimp only
  split
  · exact (hlane ..).trans (hcount _)
  · exact hcount s

theorem refuseTenant_faultsStand (t : Nat) : FaultsStand s (s.refuseTenant t rcTenantReset) := by
  refine .foldl (fun u q => ?_) _ s
  have hfold (l : List QFrame) (v : Queue) : FaultsStand u (l.foldl (fun s f =>
      (s.refuse t q rcTenantReset).wayEnd q (s.qEgress q) f (s.egressTrunk q) rcTenantReset) (u.setQueue q v)) :=
    .trans (t := u.setQueue q v) (.of_tenants rfl)
      (.foldl (fun w f => (refuse_faultsStand w t q).trans (wayEnd_faultsStand ..)) _ _)
  unfold refuseQueued
  exact .ite (hfold ..) ((hfold ..).trans (delayFalls_faultsStand ..))

/-- A reset that begins tells nothing new of the tenant's last fault. -/
theorem startReset_faultsStand (t trigger : Nat) : FaultsStand s (s.startReset t trigger) := by
  have hentered : FaultsStand s (s.tenEnter t .resetting (s.resetBegun t trigger)) := setTenant_faultsStand s rfl
  have hended (u : State) (e kind number : Nat) : FaultsStand u (u.endAlarm e kind number) := .of_tenants rfl
  have hfaulted (u : State) (b : Prop) [Decidable b] : FaultsStand u (if b then u.leaveFaulted t else u) :=
    .ite ((hended ..).trans (hended ..)) (.refl u)
  have hfenced (u : State) (b : Prop) [Decidable b] : FaultsStand u (if b then u.endAlarm 0o062006 1 t else u) :=
    .ite (hended ..) (.refl u)
  have hdiscard (u : State) (b : Prop) [Decidable b] : FaultsStand u (if b then u.refuseTenant t rcTenantReset else u) :=
    .ite (refuseTenant_faultsStand ..) (.refl u)
  rw [startReset_eq]
  exact hentered.trans (((hfaulted _ _).trans (hfenced _ _)).trans ((emit_faultsStand ..).trans
    ((hdiscard _ _).trans (releaseDelays_faultsStand ..))))

theorem startReset_state (t trigger : Nat) : ((s.startReset t trigger).tenant t).state = .resetting :=
  congrArg Tenant.state (startReset_stands s t trigger)

/-- The tenant is FAULTED, and that is told. -/
def faultEntered (t cause : Nat) : State :=
  (s.tenEnter t .faulted { s.tenant t with degCause := 0, faultCause := cause }).emit 0o062003 1 t cause

theorem faultEntered_parts (t cause : Nat) : ((s.faultEntered t cause).tenant t).faultCause = cause ∧
    ((s.faultEntered t cause).tenant t).state = .faulted ∧ (s.faultEntered t cause).now = s.now ∧
    (s.faultEntered t cause).tenAuto t = s.tenAuto t := by
  have hentered (u : State) (v : Tenant) : ((u.tenEnter t .faulted v).tenant t).faultCause = v.faultCause ∧
      ((u.tenEnter t .faulted v).tenant t).state = .faulted := by
    rw [tenEnter, tenant_setTenant_same]
    exact ⟨rfl, rfl⟩
  unfold faultEntered
  refine ⟨((emit_faultsStand ..).cause t).trans (hentered ..).1, ((emit_stands ..).state t).trans (hentered ..).2, ?_, ?_⟩
  · rw [emit_now]
    rfl
  · rw [tenAuto, tenAuto, cfg, cfg, inForce?, inForce?, emit_image, tenEnter_image]

theorem faultTenant_eq {s : State} {t cause : Nat} (hconf : s.configured t = true)
    (hstate : (s.tenant t).state = .healthy ∨ (s.tenant t).state = .degraded) : s.faultTenant t cause =
      if (s.faultEntered t cause).tenAuto t then (s.faultEntered t cause).startReset t 3 else s.faultEntered t cause := by
  unfold faultTenant
  dsimp only
  rw [if_neg (by rw [hconf]; decide)]
  split
  · rfl
  · rfl
  all_goals
    next hother =>
      rw [hother] at hstate
      exact absurd hstate (by decide)

/-- A HEALTHY or DEGRADED tenant is FAULTED; with AUTO_RESET its reset follows at once. -/
theorem faultTenant_faults {s : State} {t cause : Nat} (hconf : s.configured t = true)
    (hstate : (s.tenant t).state = .healthy ∨ (s.tenant t).state = .degraded) :
    ((s.faultTenant t cause).tenant t).faultCause = cause ∧
      ((s.faultTenant t cause).tenant t).state = (if s.tenAuto t then .resetting else .faulted) ∧
      (s.faultTenant t cause).now = s.now := by
  obtain ⟨hcause, hfaulted, hnow, hauto⟩ := s.faultEntered_parts t cause
  rw [faultTenant_eq hconf hstate, hauto]
  generalize s.faultEntered t cause = u at hcause hfaulted hnow
  split
  · exact ⟨((startReset_faultsStand u t 3).cause t).trans hcause, startReset_state u t 3, (startReset_declines u t 3).now.trans hnow⟩
  · exact ⟨hcause, hfaulted, hnow⟩

end
end State

/-! ## The progress monitor (R518 to R528) -/

section
variable {s : State}

/-- What the scan does with a queue's head frame that is past its bound (R522). -/
def boundExceeded (s : State) (t n late : Nat) : State := ((s.upTo late).emit 0o212001 1 t (fld 17 13 n + fld 12 9 t)).faultTenant t 2

theorem boundExceeded_faults {t n : Nat} (late : Nat) (hconf : s.configured t = true)
    (hstate : (s.tenant t).state = .healthy ∨ (s.tenant t).state = .degraded) :
    ((boundExceeded s t n late).tenant t).faultCause = 2 ∧
      ((boundExceeded s t n late).tenant t).state = (if s.tenAuto t then .resetting else .faulted) ∧
      (boundExceeded s t n late).now = max s.now late := by
  let u := (s.upTo late).emit 0o212001 1 t (fld 17 13 n + fld 12 9 t)
  have hpassed := s.upTo_elapses late
  have htenant : (u.tenant t).state = (s.tenant t).state := by
    refine ((State.emit_stands ..).state t).trans ?_
    rw [hpassed]
    rfl
  have himage : u.image = s.image := by
    rw [show u.image = (s.upTo late).image from State.emit_image .., hpassed]
  have hcfg (type inst i : Nat) : u.cfg type inst i = s.cfg type inst i := by
    rw [State.cfg, State.cfg, State.inForce?, State.inForce?, himage]
  have hconf' : u.configured t = true := by
    rw [State.configured, State.hasSection, State.inForce?, himage]
    exact hconf
  have hauto : u.tenAuto t = s.tenAuto t := by rw [State.tenAuto, State.tenAuto, hcfg]
  obtain ⟨hcause, hend, hnow⟩ := State.faultTenant_faults (s := u) (t := t) (cause := 2) hconf' (by rw [htenant]; exact hstate)
  rw [hauto] at hend
  exact ⟨hcause, hend, hnow.trans ((State.emit_now ..).trans (State.upTo_now ..))⟩

theorem configured_of_tenantOfQueue {q t : Nat} (h : s.tenantOfQueue q = some t) : s.configured t = true := by
  have hfound := List.find?_some h
  rw [Bool.and_eq_true] at hfound
  exact hfound.1

theorem progressBoundExceeded_faults {queue : Fin 16384} {f : QFrame} {u : Nat} (hheld : s.unitsHeld = false)
    (hhead : (s.queue queue).frames.head? = some f) (howner : s.tenantOfQueue queue = some u) (heligible : f.eligible = true)
    (hstate : (s.tenant u).state = .healthy ∨ (s.tenant u).state = .degraded) (hexempt : s.exemptNow u queue f = false) :
    ∃ t, exec (.progressBoundExceeded queue) s = .next t ∧ (t.tenant u).faultCause = 2 ∧
      (t.tenant u).state = (if s.tenAuto u then .resetting else .faulted) ∧
      t.now = max s.now (f.since + f.exempt + ns (s.boundTb u (s.qEgress queue)) + 1) := by
  have hreached := exec_reaches_unit (s := s) (i := .progressBoundExceeded queue)
    (u := boundExceeded s.clear u (s.clear.qEgress queue)
      (f.since + f.exempt + ns (s.clear.boundTb u (s.clear.qEgress queue)) + 1)) rfl hheld (by
      dsimp only
      rw [show (s.clear.queue queue).frames.head? = some f from hhead, show s.clear.tenantOfQueue queue = some u from howner]
      refine if_pos ?_
      rw [heligible, show s.clear.exemptNow u queue f = false from hexempt,
        show decide ((s.clear.tenant u).state = .healthy ∨ (s.clear.tenant u).state = .degraded) = true from decide_eq_true hstate]
      simp)
  rw [show s.clear.boundTb u (s.clear.qEgress queue) = s.boundTb u (s.qEgress queue) from rfl] at hreached
  generalize f.since + f.exempt + ns (s.boundTb u (s.qEgress queue)) + 1 = late at hreached ⊢
  obtain ⟨t, ht, hsame⟩ := hreached
  have htenants : t.tenant u = (boundExceeded s.clear u (s.clear.qEgress queue) late).tenant u :=
    by rw [State.tenant, show t.tenants = _ from hsame .tenants (by decide) rfl]; rfl
  obtain ⟨hcause, hend, hnow⟩ := boundExceeded_faults (s := s.clear) (n := s.clear.qEgress queue) late
    (configured_of_tenantOfQueue (s := s.clear) howner) hstate
  exact ⟨t, ht, by rw [htenants, hcause], by rw [htenants, hend]; rfl, (hsame .now (by decide) rfl : t.now = _).trans hnow⟩

/-- An event told where Milepost selects nothing and the Trip Recorder is off goes no further. -/
theorem State.tell_of_idle {e k : Nat} (hnotes : s.notes = [.event e]) (hsel : s.mile.sel = []) (hoff : s.trip.state = .off) :
    State.tell (k + 1) s = State.tell k { s with notes := [] } := by
  let u : State := { s with notes := [] }
  have hmile : u.tellMile (.event e) = u := by
    simp [State.tellMile, State.countOcc, State.counting, show u.mile.sel = [] from hsel]
  have htrip : u.tellTrip (.event e) = u := by
    unfold State.tellTrip
    dsimp only
    split
    · exact State.trigger_of_not_recording (by rw [show u.trip.state = .off from hoff]; decide) ..
    · rfl
  have hstill : u.recording = false := by rw [State.recording, show u.trip.state = .off from hoff]
  rw [State.tell, hnotes]
  show State.tell k (((if u.recording then _ else u).tellMile (.event e)).tellTrip (.event e)) = State.tell k u
  rw [hstill, if_neg (by decide), hmile, htrip]

/-- What an event makes of the alarm unit does not turn on what was told before. -/
theorem State.clear_alarmAfter (s : State) (e kind number arg : Nat) (ended : Bool) :
    s.clear.alarmAfter e kind number arg ended = s.alarmAfter e kind number arg ended := by
  have hraised (u : State) : u.clear.raiseAlarm e kind number (arg % 2 ^ 18) ended =
      (u.raiseAlarm e kind number (arg % 2 ^ 18) ended).clear := by
    unfold State.raiseAlarm
    simp only [show u.clear.findAlarm e kind number = u.findAlarm e kind number from rfl,
      show ∀ i, u.clear.alarmEntry i = u.alarmEntry i from fun _ => rfl]
    split <;> rfl
  have hlatched (u : State) (b : Bool) : (if b then u.clear.raiseAlarm e kind number (arg % 2 ^ 18) ended else u.clear).settleAlert.alarm =
      (if b then u.raiseAlarm e kind number (arg % 2 ^ 18) ended else u).settleAlert.alarm := by
    cases b
    · rfl
    · rw [if_pos rfl, if_pos rfl, hraised]
      rfl
  exact hlatched { s with alarm := _ } _

theorem fabricBoundExceeded_tells {cls : Fin 4} (hheld : s.unitsHeld = false) (hsel : s.mile.sel = []) (hoff : s.trip.state = .off) :
    ∃ t, exec (.fabricBoundExceeded cls) s = .next t ∧ s.onlyChanges t observers ∧
      t.alarm = s.alarmAfter 0o213002 0 0 (fld 17 16 cls.val) false := by
  let f : State → State := fun s => if s.unitsHeld then s else s.emitOwn 0o213002 0 0 (fld 17 16 cls.val)
  have hexec : exec (.fabricBoundExceeded cls) s = act [] s f := rfl
  have hemitted : f s.clear = s.clear.emitOwn 0o213002 0 0 (fld 17 16 cls.val) :=
    if_neg (c := s.clear.unitsHeld = true) (by rw [show s.clear.unitsHeld = s.unitsHeld from rfl, hheld]; decide)
  have hnotes : (s.effect [] f).notes = [.event 0o213002] := by
    have hstill : (State.taking [] s.clear (f s.clear)).recording = false := by
      rw [State.recording, hemitted, show (State.taking [] s.clear (s.clear.emitOwn 0o213002 0 0 (fld 17 16 cls.val))).trip.state =
        .off from hoff]
    rw [State.effect, hstill, hemitted]
    rfl
  have htold : State.tell 1200 (s.effect [] f) = { s.effect [] f with notes := [] } := by
    rw [State.tell_of_idle hnotes (by rw [State.effect, hemitted]; exact hsel) (by rw [State.effect, hemitted]; exact hoff), State.tell]
    rfl
  refine ⟨_, hexec, actState_onlyChanges [] s f, ?_⟩
  have heffect : (s.effect [] f).alarm = (f s.clear).alarm := rfl
  have hafter : (s.clear.emitOwn 0o213002 0 0 (fld 17 16 cls.val)).alarm = s.alarmAfter 0o213002 0 0 (fld 17 16 cls.val) false :=
    s.clear_alarmAfter ..
  exact (congrArg State.alarm htold :).trans (heffect.trans ((congrArg State.alarm hemitted).trans hafter))

/-- A hold that has lasted is reported. -/
def holdTold (s : State) (n y : Nat) : State :=
  let s := s.upTo y
  (s.setLane n { s.lane n with holdReported := true }).emitOwn 0o211003 0 0 (fld 17 14 n)

theorem holdTold_parts (s : State) (n y : Nat) : ((holdTold s n y).lane n).holdReported = true ∧ (holdTold s n y).now = max s.now y := by
  have hlane (u : State) (v : Lane) (e arg : Nat) : ((u.setLane n v).emitOwn e 0 0 arg).lane n = v := u.lane_setLane_same n v
  have hnow (u : State) (v : Lane) (e arg : Nat) : ((u.setLane n v).emitOwn e 0 0 arg).now = u.now := rfl
  unfold holdTold
  dsimp only
  rw [hlane, hnow, State.upTo_now]
  exact ⟨rfl, rfl⟩

theorem pauseMaxExceeded_reports {lane : Fin 16} {n x : Nat} (hheld : s.unitsHeld = false) (hlead : s.laneLead lane = some n)
    (hfrom : heldFrom (s.lane n) = some x) (hnew : (s.lane n).holdReported = false) :
    ∃ t, exec (.pauseMaxExceeded lane) s = .next t ∧ (t.lane n).holdReported = true ∧
      t.now = max s.now (x + ms (bits (s.cfg 0o006 0 3) 17 4)) := by
  have hreached := exec_reaches_unit (s := s) (i := .pauseMaxExceeded lane)
    (u := holdTold s.clear n (x + ms (bits (s.clear.cfg 0o006 0 3) 17 4))) rfl hheld (by
      rw [show s.clear.laneLead lane = some n from hlead]
      dsimp only
      rw [show heldFrom (s.clear.lane n) = some x from hfrom]
      exact if_neg (by rw [show (s.clear.lane n).holdReported = false from hnew]; decide))
  rw [show s.clear.cfg 0o006 0 3 = s.cfg 0o006 0 3 from rfl] at hreached
  generalize x + ms (bits (s.cfg 0o006 0 3) 17 4) = y at hreached ⊢
  obtain ⟨t, ht, hsame⟩ := hreached
  obtain ⟨hreported, hnow⟩ := holdTold_parts s.clear n y
  have hlane : t.lane n = (holdTold s.clear n y).lane n := by
    rw [State.lane, show t.lanes = _ from hsame .lanes (by decide) rfl]
    rfl
  exact ⟨t, ht, by rw [hlane, hreported], (hsame .now (by decide) rfl : t.now = _).trans hnow⟩

theorem requestPromotion_promotes {requester age conflicts : Nat} (hheld : s.unitsHeld = false)
    (hold : bits (s.cfg 0o006 0 0) 17 6 ≤ age ∨ 3 ≤ conflicts) :
    ∃ t, exec (.requestPromotion requester age conflicts) s = .next t ∧ (s.now - 2 * age, requester) ∈ t.promoted := by
  obtain ⟨t, ht, hsame⟩ := exec_reaches_unit (s := s) (i := .requestPromotion requester age conflicts) rfl hheld (if_pos hold)
  have hpromoted := hsame .promoted (by decide) rfl
  refine ⟨t, ht, ?_⟩
  rw [show t.promoted = _ from hpromoted]
  simp [promote]

end

/-- Settles O48: one lemma for each limit. -/
theorem progressMonitorCompletes : Obligations.ProgressMonitorCompletes :=
  ⟨fun _ _ _ _ hheld hhead howner heligible hstate hexempt =>
      progressBoundExceeded_faults hheld hhead howner heligible hstate hexempt,
    fun _ _ hheld hsel hoff => fabricBoundExceeded_tells hheld hsel hoff,
    fun _ _ _ _ hheld hlead hfrom hnew => pauseMaxExceeded_reports hheld hlead hfrom hnew,
    fun _ _ _ _ hheld hold => requestPromotion_promotes hheld hold⟩

end Sys2Proof.Machine

namespace Sys2Proof.Machine

/-! ## The held request that ends its session (R436, R445) -/

/-- Operator session 0 waits for the answer to a verb, and behind it stands a request with the session's last SEQ and an empty
body. -/
def heldAtLastSeq : State :=
  { start := { outcome := .running }
    keys := { slots := [(slotOperSession 0, { state := .valid })] }
    sp := { oper := [(0, { state := .opened, busy := true })]
            held := [{ caller := .operator 0, seq := 2 ^ 36 - 1, tag := 0, body := [] }] } }

/-- The answer to STAGE_OPEN lets the held request in; it has no form and is answered at once, and the session closes after its
last SEQ, which abandons the write it just opened. -/
theorem stageOpen_heldAtLastSeq_staging :
    ∃ t, exec (.stageOpen { caller := .operator 0, cond := none }) heldAtLastSeq = .next t ∧ t.image.staging = none :=
  ⟨_, rfl, by decide +kernel⟩

/-- Refutes O24 in its clause of STAGE_OPEN: `State.stays` speaks of the session as the verb finds it, not of the requests held
behind the verb. A held request with the last SEQ of the session is served in the same step, the session closes after it (R436), and
the staging write of a closed session does not stand. -/
theorem not_stagingComplete : ¬ Obligations.StagingComplete := by
  unfold Obligations.StagingComplete
  rintro ⟨hopen, -⟩
  obtain ⟨t, ht, -, -, hstaging⟩ := hopen 0 heldAtLastSeq (by decide) (by decide) rfl rfl (by decide)
  obtain ⟨t', ht', hnone⟩ := stageOpen_heldAtLastSeq_staging
  obtain rfl : t = t' := by simpa [ht] using ht'
  exact absurd (hstaging.symm.trans hnone) (by decide)

end Sys2Proof.Machine

namespace Sys2Proof.Machine

/-! ## The Trip Recorder after a command -/

/-- Between two states of the Trip Recorder it may have written records, and a run may have been triggered or stopped. -/
def TripUnit.Runs (v w : TripUnit) : Prop := w = { v with
  state := w.state, cause := w.cause, freezeEvent := w.freezeEvent, stopAt := w.stopAt, region := w.region, chain := w.chain
  blockSeq := w.blockSeq, blockTime := w.blockTime, cur := w.cur, records := w.records, lastTime := w.lastTime, fill := w.fill
  fillAt := w.fillAt, lost := w.lost }

theorem TripUnit.Runs.trans {u v w : TripUnit} (h : u.Runs v) (h' : v.Runs w) : u.Runs w := by
  calc w = _ := h'
    _ = _ := by rw [h]

namespace State

section
variable {s t : State}

theorem Writes.runs (h : Writes s t) : s.trip.Runs t.trip := by rw [h]; rfl

theorem record_of_resting (h : s.recording = false) (type : Nat) (content : List Nat) : s.record type content = s :=
  if_pos (by rw [h]; rfl)

theorem recording_of_resting (hrun : s.trip.state ≠ .recording) (hfreeze : s.trip.state ≠ .freezing) : s.recording = false := by
  unfold recording
  split
  · next h => exact absurd h hrun
  · next h => exact absurd h hfreeze
  · rfl

/-- A trigger while recording begins the freeze. -/
theorem trigger_freezes (hrun : s.trip.state = .recording) (cause event : Nat) :
    (s.trigger cause event).trip.state = .freezing ∧ (s.trigger cause event).trip.cause = cause ∧
      s.trip.Runs (s.trigger cause event).trip := by
  have hset (u : State) (n : Nat) (hu : Writes s u) : s.trip.Runs
      { u.trip with state := .freezing, cause := cause, freezeEvent := event, stopAt := n } := by
    rw [hu]
    rfl
  rw [show s.trigger cause event = _ from if_pos hrun]
  exact ⟨rfl, rfl, hset _ _ (record_writes ..)⟩

namespace Told

variable {stops : Prop}

theorem mono {stops' : Prop} (himp : stops → stops') (h : Told stops s t) : Told stops' s t := by
  induction h with
  | refl => exact .refl
  | free n _ ih => exact ih.free n
  | counts m hm _ ih => exact ih.counts m hm
  | record type content _ ih => exact ih.record type content
  | trigger cause event _ ih => exact ih.trigger cause event
  | stop cause hstop hactive _ ih => exact ih.stop cause (himp hstop) hactive
  | cleared _ ih => exact ih.cleared
  | event e arg hquiet _ ih => exact ih.event e arg hquiet

theorem runs (h : Told stops s t) : s.trip.Runs t.trip := by
  induction h with
  | refl => rfl
  | free _ _ ih | counts _ _ _ ih | cleared _ ih | event _ _ _ _ ih => exact ih
  | record type content _ ih => exact ih.trans (record_writes ..).runs
  | @trigger t cause event _ ih =>
    by_cases hrun : t.trip.state = .recording
    · exact ih.trans (trigger_freezes hrun cause event).2.2
    · rw [trigger_of_not_recording hrun]
      exact ih
  | stop _ _ _ _ ih => exact ih.trans rfl

/-- A freeze that no note stops goes on. -/
theorem freezing (h : Told stops s t) (hstops : ¬ stops) (hfreeze : s.trip.state = .freezing) :
    t.trip.state = .freezing ∧ t.trip.cause = s.trip.cause := by
  induction h with
  | refl => exact ⟨hfreeze, rfl⟩
  | free _ _ ih | counts _ _ _ ih | cleared _ ih | event _ _ _ _ ih => exact ih
  | record type content _ ih =>
    rw [record_writes]
    exact ih
  | trigger _ _ _ ih =>
    rw [trigger_of_not_recording (by rw [ih.1]; decide)]
    exact ih
  | stop _ hstop => exact absurd hstop hstops

/-- A Trip Recorder that neither records nor freezes stands. -/
theorem resting (h : Told stops s t) (hrun : s.trip.state ≠ .recording) (hfreeze : s.trip.state ≠ .freezing) :
    t.trip = s.trip := by
  induction h with
  | refl => rfl
  | free _ _ ih | counts _ _ _ ih | cleared _ ih | event _ _ _ _ ih => exact ih
  | record _ _ _ ih =>
    rw [record_of_resting (recording_of_resting (ih ▸ hrun) (ih ▸ hfreeze))]
    exact ih
  | trigger _ _ _ ih =>
    rw [trigger_of_not_recording (ih ▸ hrun)]
    exact ih
  | stop _ _ hactive _ ih =>
    rw [ih] at hactive
    exact (hactive.elim hrun hfreeze).elim

/-- A Trip Recorder that is on stays so. -/
theorem on (h : Told stops s t) (hon : s.trip.state ≠ .off) : t.trip.state ≠ .off := by
  induction h with
  | refl => exact hon
  | free _ _ ih | counts _ _ _ ih | cleared _ ih | event _ _ _ _ ih => exact ih
  | record _ _ _ ih =>
    rw [record_writes]
    exact ih
  | @trigger t cause event _ ih =>
    by_cases hrun : t.trip.state = .recording
    · rw [(trigger_freezes hrun cause event).1]
      decide
    · rw [trigger_of_not_recording hrun]
      exact ih
  | stop => nofun

end Told
end
end State

section
variable {s u : State} {ps : List Part} {i : Instr} {f : State → State}

/-- A command reaches its effect, and the Trip Recorder is told of it. -/
def State.ReachesRecorder (s u : State) (i : Instr) (ps : List Part) : Prop :=
  ∃ t, exec i s = .next t ∧ t.sent = u.sent ∧ (∀ p, p ∉ observers → ps.contains p = true → u.same t p) ∧
    ∃ v w, v.trip = u.trip ∧ w.trip = t.trip ∧ State.Told (.halt ∈ u.notes) v w

theorem exec_reaches_recorder (hexec : exec i s = act ps s f) (h : f s.clear = u) : s.ReachesRecorder u i ps := by
  subst h
  have htold := State.effect_told (s := s) (ps := ps) (f := f)
  exact ⟨_, hexec, rfl, fun p ho hp => actState_same f hp ho, s.effect ps f, State.tell 1200 (s.effect ps f), rfl, rfl, htold⟩

variable {r : VerbCall} {address value : Nat} {w : State → WordWrite} {g : State → State}

/-- The operator writes a live word, and is answered; the Trip Recorder is told, and the answer stops no run. -/
theorem exec_writeLive_recorder (hexec : exec i s = act ps s g) (hg : g s.clear = s.clear.writeLive r address value w)
    (hmay : s.mayAct r none = true) (hop : State.isOperator r.caller = true) (hw : w s.clear = .takes f) :
    ∃ t, exec i s = .next t ∧ t.answers r.caller 0o02 0 [] = true ∧
      ∃ v w, v.trip = (f s.clear).trip ∧ w.trip = t.trip ∧ State.Told (.halt ∈ (f s.clear).notes) v w := by
  have hmay' : s.clear.mayAct r none = true := hmay
  obtain ⟨hmanages, hanswers⟩ := State.respondLater_responds (op := True) (f s.clear) r.caller 0o02 stDone []
    [address, 1, value] fun _ => trivial
  have hreplies := State.respondLater_replies (f s.clear) hop 0o02 stDone [] [address, 1, value]
  obtain ⟨t, ht, hsent, -, v, w, hv, hw, htold⟩ := exec_reaches_recorder hexec (hg.trans (State.writeLive_of_takes hmay' hop hw))
  refine ⟨t, ht, State.answers_of_sent hsent hanswers, v, w, hv.trans (by rw [hmanages.eq]), hw, htold.mono hreplies.halts⟩

end

/-! ## Arming, freezing and the journal (R496 to R502) -/

section
variable {s : State}

theorem State.trigger_notes (s : State) (cause event : Nat) : (s.trigger cause event).notes = s.notes := by
  rw [State.trigger_trip]

/-- The operator's trigger, whatever ARM it leaves. -/
theorem exec_operatorTrigger {i : Instr} {ps : List Part} {r : VerbCall} {address value : Nat} {w : State → WordWrite}
    {f g : State → State} {arm : Bool} (hexec : exec i s = act ps s g) (hg : g s.clear = s.clear.writeLive r address value w)
    (hmay : s.mayAct r none = true) (hop : State.isOperator r.caller = true) (hrun : s.trip.state = .recording)
    (hw : w s.clear = .takes f) (hf : f s.clear = ({ s.clear with trip := { s.trip with arm := arm } } : State).trigger 3 0) :
    ∃ t, exec i s = .next t ∧ t.answers r.caller 0o02 0 [] = true ∧ t.trip.arm = arm ∧ t.trip.state = .freezing ∧
      t.trip.cause = 3 := by
  obtain ⟨t, ht, hanswers, v, x, hv, hx, htold⟩ := exec_writeLive_recorder hexec hg hmay hop hw
  rw [hf] at hv htold
  obtain ⟨hfreeze, hcause, hruns⟩ := State.trigger_freezes (s := { s.clear with trip := { s.trip with arm := arm } }) hrun 3 0
  obtain ⟨hstate, hcause'⟩ := htold.freezing (by rw [State.trigger_notes]; exact List.not_mem_nil)
    ((congrArg TripUnit.state hv).trans hfreeze)
  have harm : x.trip.arm = arm := by rw [htold.runs, hv, hruns]
  refine ⟨t, ht, hanswers, ?_⟩
  rw [← hx]
  exact ⟨harm, hstate, by rw [hcause', hv, hcause]⟩

theorem armOff_freezes {r : VerbCall} (hmay : s.mayAct r none = true) (hop : State.isOperator r.caller = true)
    (hrun : s.trip.state = .recording) :
    ∃ t, exec (.arm r false) s = .next t ∧ t.answers r.caller 0o02 0 [] = true ∧ t.trip.arm = false ∧
      t.trip.state = .freezing ∧ t.trip.cause = 3 :=
  exec_operatorTrigger (i := .arm r false) rfl rfl hmay hop hrun rfl rfl

theorem freezeNow_freezes {r : VerbCall} (hmay : s.mayAct r none = true) (hop : State.isOperator r.caller = true)
    (hrun : s.trip.state = .recording) :
    ∃ t, exec (.freezeNow r) s = .next t ∧ t.answers r.caller 0o02 0 [] = true ∧ t.trip.arm = s.trip.arm ∧
      t.trip.state = .freezing ∧ t.trip.cause = 3 :=
  exec_operatorTrigger (i := .freezeNow r) rfl rfl hmay hop hrun rfl rfl

/-- A base that is being captured (R496). -/
def State.baseBegun (s : State) : State := { s with free := s.free + 1, trip := { s.trip with capturedAt := s.now } }

theorem State.captureBase_writes (s : State) (atStart : Bool) :
    ∃ v n, Writes s.baseBegun v ∧ s.captureBase atStart = { v with trip := { v.trip with baseSeq := n } } := by
  have hrecords (type : Nat) (l : List (List Nat)) (u : State) : Writes u (l.foldl (fun s c => s.record type c) u) :=
    List.foldlRecOn l _ (motive := Writes u) (.refl u) (fun _ h c _ => h.trans (record_writes ..))
  have hends (u : State) (hu : Writes s.baseBegun u) (b : Bool) (n : Nat) : ∃ v n', Writes s.baseBegun v ∧
      (if b then { u with trip := { u.trip with baseSeq := n } } else u) = { v with trip := { v.trip with baseSeq := n' } } := by
    cases b with
    | true => exact ⟨u, n, hu, rfl⟩
    | false => exact ⟨u, u.trip.baseSeq, hu, rfl⟩
  unfold State.captureBase
  dsimp only
  exact hends _ ((record_writes ..).trans ((hrecords ..).trans ((hrecords ..).trans (record_writes ..)))) _ _

/-- A run that has begun (R499). -/
theorem State.startRun_begins (s : State) (atStart : Bool) : (s.startRun atStart).trip.state = .recording ∧
    (s.startRun atStart).trip.arm = s.trip.arm ∧ (s.startRun atStart).trip.run = (s.trip.run + 1) % 2 ^ 18 := by
  have hbegun (v : TripUnit) : ∀ w : State, w = ({ s with trip := v } : State).captureBase atStart →
      w.trip.state = v.state ∧ w.trip.arm = v.arm ∧ w.trip.run = v.run := by
    rintro w rfl
    obtain ⟨u, n, hwrites, hu⟩ := ({ s with trip := v } : State).captureBase_writes atStart
    rw [hu, hwrites]
    exact ⟨rfl, rfl, rfl⟩
  exact hbegun _ _ rfl

theorem armOn_begins {r : VerbCall} (hmay : s.mayAct r none = true) (hop : State.isOperator r.caller = true)
    (hstate : s.trip.state = .off ∨ s.trip.state = .frozen) (hmem : s.memReady = true) (hmode : s.tripMode = 1) :
    ∃ t, exec (.arm r true) s = .next t ∧ t.answers r.caller 0o02 0 [] = true ∧ t.trip.arm = true ∧
      t.trip.run = (s.trip.run + 1) % 2 ^ 18 ∧ t.trip.state ≠ .off := by
  have hw : s.clear.armOn = .takes (fun s => ({ s with trip := { s.trip with arm := true } } : State).startRun false) := by
    unfold State.armOn
    dsimp only
    rw [show s.clear.tripMode = 1 from hmode, show s.clear.memReady = true from hmem]
    obtain h | h := hstate
    · rw [show s.clear.trip.state = .off from h]
      rfl
    · rw [show s.clear.trip.state = .frozen from h]
      rfl
  obtain ⟨t, ht, hanswers, v, x, hv, hx, htold⟩ := exec_writeLive_recorder (i := .arm r true) rfl rfl hmay hop hw
  obtain ⟨hbegun, harm, hrun⟩ := State.startRun_begins ({ s.clear with trip := { s.trip with arm := true } } : State) false
  have hon : x.trip.state ≠ .off := htold.on (by rw [(congrArg TripUnit.state hv).trans hbegun]; decide)
  have harm' : x.trip.arm = true := by rw [htold.runs, hv]; exact harm
  have hrun' : x.trip.run = (s.trip.run + 1) % 2 ^ 18 := by rw [htold.runs, hv]; exact hrun
  refine ⟨t, ht, hanswers, ?_⟩
  rw [← hx]
  exact ⟨harm', hrun', hon⟩

theorem postBlocksWritten_stops (hstate : s.trip.state = .freezing) (hstop : s.trip.stopAt ≤ s.trip.blockSeq) :
    ∃ t, exec .postBlocksWritten s = .next t ∧ t.trip = { s.trip with state := .frozen, cur := [], records := 0 } := by
  obtain ⟨t, ht, -, -, v, x, hv, hx, htold⟩ := exec_reaches_recorder (s := s) (i := .postBlocksWritten) rfl
    (if_pos (c := (decide (s.clear.trip.state = TripState.freezing) &&
      decide (s.clear.trip.stopAt ≤ s.clear.trip.blockSeq)) = true) (by
        simp [State.clear, hstate, hstop]))
  have hfrozen : v.trip.state = .frozen := by rw [hv]; rfl
  have hstands := htold.resting (by rw [hfrozen]; decide) (by rw [hfrozen]; decide)
  exact ⟨t, ht, by rw [← hx, hstands, hv]; rfl⟩

theorem State.recording_of_state (h : s.trip.state = .recording) : s.recording = true := by
  unfold State.recording
  rw [h]

/-- A base is captured at a time (R496). -/
def State.baseAt (s : State) (y : Nat) : State := (s.upTo y).captureBase false

theorem State.baseAt_captures (s : State) (y : Nat) :
    (s.baseAt y).now = max s.now y ∧ (s.baseAt y).trip.capturedAt = max s.now y := by
  obtain ⟨v, n, hwrites, hbase⟩ := (s.upTo y).captureBase_writes false
  rw [State.baseAt, hbase, hwrites]
  exact ⟨State.upTo_now .., State.upTo_now ..⟩

/-- When the next base is due, and what BASE_CAPTURE does. -/
def State.baseDue (s : State) : Nat := s.trip.capturedAt + secs (bits (s.tripWord 1) 17 6)
def State.baseStep (s : State) : State :=
  if s.recording && s.tp.queues.all (fun e => decide (State.held e.2 .spill = 0)) then s.baseAt s.baseDue else s

theorem exec_baseCapture (s : State) : exec .baseCapture s = act [.now, .free, .tp] s State.baseStep := rfl

theorem State.baseStep_of_recording (hstate : s.trip.state = .recording)
    (hspill : s.tp.queues.all (fun e => decide (State.held e.2 .spill = 0)) = true) : s.baseStep = s.baseAt s.baseDue :=
  if_pos (by rw [State.recording_of_state hstate, hspill]; rfl)

theorem State.ReachesRecorder.base {y : Nat} (h : s.ReachesRecorder (s.clear.baseAt y) .baseCapture [.now, .free, .tp]) :
    ∃ t, exec .baseCapture s = .next t ∧ t.now = max s.now y ∧ t.trip.capturedAt = t.now := by
  obtain ⟨t, ht, -, hsame, v, x, hv, hx, htold⟩ := h
  obtain ⟨hnow, hcaptured⟩ := s.clear.baseAt_captures y
  have hclock : t.now = max s.now y := (hsame .now (by decide) rfl : t.now = _).trans hnow
  have hstands : t.trip.capturedAt = max s.now y := by
    rw [← hx, htold.runs, hv]
    exact hcaptured
  exact ⟨t, ht, hclock, hstands.trans hclock.symm⟩

theorem baseCapture_captures (hstate : s.trip.state = .recording)
    (hspill : s.tp.queues.all (fun e => decide (State.held e.2 .spill = 0)) = true) :
    ∃ t, exec .baseCapture s = .next t ∧ t.now = max s.now s.baseDue ∧ t.trip.capturedAt = t.now := by
  have hreached := exec_reaches_recorder (exec_baseCapture s) (State.baseStep_of_recording (s := s.clear) hstate hspill)
  rw [show s.clear.baseDue = s.baseDue from rfl] at hreached
  exact hreached.base

/-- A checkpoint is recorded at a time (R497). -/
def State.checkpointAt (s : State) (y : Nat) : State :=
  let s := s.upTo y
  let s := s.record 0o17 s.checkRecord
  { s with trip := { s.trip with checks := satInc 36 s.trip.checks, checkDue := s.trip.checkDue + ms (s.tripWord 2) } }

theorem checkpointCapture_checks (hstate : s.trip.state = .recording) :
    ∃ t, exec .checkpointCapture s = .next t ∧ t.now = max s.now s.trip.checkDue ∧
      t.trip.checks = satInc 36 s.trip.checks ∧ t.trip.checkDue = s.trip.checkDue + ms (s.tripWord 2) := by
  obtain ⟨t, ht, -, hsame, v, x, hv, hx, htold⟩ := exec_reaches_recorder (s := s) (i := .checkpointCapture)
    (u := s.clear.checkpointAt s.trip.checkDue) rfl
    (if_pos (c := s.clear.recording = true) (State.recording_of_state hstate))
  have helapses := State.upTo_elapses s.clear s.trip.checkDue
  have hwrites := State.record_writes (s.clear.upTo s.trip.checkDue) 0o17 (s.clear.upTo s.trip.checkDue).checkRecord
  have hchecked : (s.clear.checkpointAt s.trip.checkDue).now = max s.now s.trip.checkDue ∧
      (s.clear.checkpointAt s.trip.checkDue).trip.checks = satInc 36 s.trip.checks ∧
      (s.clear.checkpointAt s.trip.checkDue).trip.checkDue = s.trip.checkDue + ms (s.tripWord 2) := by
    unfold State.checkpointAt
    dsimp only
    rw [hwrites]
    refine ⟨State.upTo_now .., ?_, ?_⟩
    · show satInc 36 (s.clear.upTo s.trip.checkDue).trip.checks = _
      rw [helapses]
      rfl
    · show (s.clear.upTo s.trip.checkDue).trip.checkDue + ms ((s.clear.upTo s.trip.checkDue).tripWord 2) = _
      rw [helapses]
      rfl
  obtain ⟨hnow, hchecks, hdue⟩ := hchecked
  refine ⟨t, ht, (hsame .now (by decide) rfl : t.now = _).trans hnow, ?_⟩
  rw [← hx, htold.runs, hv]
  exact ⟨hchecks, hdue⟩

/-- Space for a GAP record returns (R498). -/
def State.gapEnd (s : State) : Nat := s.now + (s.stagedNow + 320 - 35 * 2 ^ 20 + 167) / 168

/-- A gap of `lost` records is recorded at a time (R498). -/
def State.gapAt (s : State) (lost y : Nat) : State :=
  let s := s.upTo y
  let s : State := { s with trip := { s.trip with lost := 0, gaps := satInc 18 s.trip.gaps } }
  (s.record 0o20 (wideWords 2 lost ++ [0])).emitOwn 0o201002 0 0 0

theorem State.gapAt_gaps (s : State) (lost y : Nat) : (s.gapAt lost y).trip.gaps = satInc 18 s.trip.gaps := by
  have hrecorded (u : State) (w : List Nat) : ((u.record 0o20 w).emitOwn 0o201002 0 0 0).trip.gaps = u.trip.gaps := by
    rw [State.record_writes]
    rfl
  have helapses : (s.upTo y).trip = s.trip := by rw [State.upTo_elapses s y]
  rw [← helapses]
  exact hrecorded _ _

/-- What GAP_RECORD does. -/
def State.gapStep (s : State) : State :=
  if s.recording && decide (s.trip.lost ≠ 0) then s.gapAt s.trip.lost s.gapEnd else s

theorem exec_gapRecord (s : State) : exec .gapRecord s = act [.now, .free, .tp] s State.gapStep := rfl

theorem State.gapStep_of_recording (hstate : s.trip.state = .recording) (hlost : s.trip.lost ≠ 0) :
    s.gapStep = s.gapAt s.trip.lost s.gapEnd :=
  if_pos (by rw [State.recording_of_state hstate, decide_eq_true hlost]; rfl)

theorem State.ReachesRecorder.gap {lost y : Nat} (h : s.ReachesRecorder (s.clear.gapAt lost y) .gapRecord [.now, .free, .tp]) :
    ∃ t, exec .gapRecord s = .next t ∧ t.trip.gaps = satInc 18 s.trip.gaps := by
  obtain ⟨t, ht, -, -, v, x, hv, hx, htold⟩ := h
  refine ⟨t, ht, ?_⟩
  rw [← hx, htold.runs, hv]
  exact s.clear.gapAt_gaps ..

theorem gapRecord_counts (hstate : s.trip.state = .recording) (hlost : s.trip.lost ≠ 0) :
    ∃ t, exec .gapRecord s = .next t ∧ t.trip.gaps = satInc 18 s.trip.gaps :=
  (exec_reaches_recorder (exec_gapRecord s) (State.gapStep_of_recording (s := s.clear) hstate hlost)).gap

/-! ## EXPORT of the journal (R448, R494) -/

/-- What EXPORT of the journal serves. -/
def State.exportServed (position : BitVec 36) (count : Word) (s : State) : Served :=
  if !decide (1 ≤ count.toNat ∧ count.toNat ≤ 640) then { st := s, status := stBadValue }
  else if s.mem.quarantined || s.start.memState = MemState.unavailable then { st := s, status := stWrongState }
  else
    let pos := position.toNat
    let oldest := 1792 * s.oldestBlock
    let last := 1792 * s.trip.blockSeq
    let gap := decide (pos < oldest)
    let start := if gap then oldest else pos
    let n := if start < last then min count.toNat (last - start) else 0
    let out := (List.range n).map (fun i => BitVec.ofNat 18 (s.journalWord (start + i)))
    { st := s, status := stDone
      words := ((wideWords 2 ((start + n) % 2 ^ 36)).map (BitVec.ofNat 18)) ++ [BitVec.ofNat 18 (flag 17 gap)] ++ out }

variable {r : VerbCall} {position : BitVec 36} {count : Word}

/-- From a position that is held, as many words as are asked for and stand there. -/
theorem State.exportServed_of_held (hlow : 1 ≤ count.toNat) (hhigh : count.toNat ≤ 640) (hmem : s.mem.quarantined = false)
    (havailable : s.start.memState ≠ .unavailable) (hheld : 1792 * s.oldestBlock ≤ position.toNat) {n : Nat}
    (hn : (if position.toNat < 1792 * s.trip.blockSeq then min count.toNat (1792 * s.trip.blockSeq - position.toNat) else 0) = n) :
    s.exportServed position count =
      { st := s, status := stDone, words := (wideWords 2 ((position.toNat + n) % 2 ^ 36)).map (BitVec.ofNat 18) ++ [0] ++
        (List.range n).map (fun i => BitVec.ofNat 18 (s.journalWord (position.toNat + i))) } := by
  subst hn
  unfold State.exportServed
  dsimp only
  rw [if_neg (by simp [hlow, hhigh]), if_neg (by simp [hmem, havailable]),
    decide_eq_false (Nat.not_lt.mpr hheld)]
  rfl

theorem exportJournal_answers (hmay : s.mayAct r none = true) (hop : State.isOperator r.caller = true) :
    ∃ t, exec (.exportJournal r position count) s = .next t ∧ t.answers r.caller 0o16
      (s.clear.exportServed position count).status (s.clear.exportServed position count).words = true := by
  obtain ⟨t, ht, hanswers, -⟩ := exec_serves (i := .exportJournal r position count) (run := State.exportServed position count)
    rfl hmay (by rw [hop]; rfl) rfl rfl
  exact ⟨t, ht, hanswers⟩

theorem exportJournal_atEnd (hmay : s.mayAct r none = true) (hop : State.isOperator r.caller = true) (hlow : 1 ≤ count.toNat)
    (hhigh : count.toNat ≤ 640) (hmem : s.mem.quarantined = false) (havailable : s.start.memState ≠ .unavailable)
    (hend : 1792 * s.trip.blockSeq ≤ position.toNat) :
    ∃ t, exec (.exportJournal r position count) s = .next t ∧
      t.answers r.caller 0o16 0 ((wideWords 2 position.toNat).map (BitVec.ofNat 18) ++ [0]) = true := by
  have hheld : 1792 * s.oldestBlock ≤ position.toNat :=
    le_trans (Nat.mul_le_mul_left _ (Nat.sub_le ..)) hend
  obtain ⟨t, ht, hanswers⟩ := exportJournal_answers (position := position) (count := count) hmay hop
  rw [State.exportServed_of_held (s := s.clear) hlow hhigh hmem havailable hheld (if_neg (Nat.not_lt.mpr hend)), Nat.add_zero,
    Nat.mod_eq_of_lt position.isLt] at hanswers
  exact ⟨t, ht, by simpa [stDone] using hanswers⟩

theorem exportJournal_held (hmay : s.mayAct r none = true) (hop : State.isOperator r.caller = true) (hlow : 1 ≤ count.toNat)
    (hhigh : count.toNat ≤ 640) (hmem : s.mem.quarantined = false) (havailable : s.start.memState ≠ .unavailable)
    (hheld : 1792 * s.oldestBlock ≤ position.toNat) (hend : position.toNat + count.toNat ≤ 1792 * s.trip.blockSeq) :
    ∃ t, exec (.exportJournal r position count) s = .next t ∧
      t.answers r.caller 0o16 0 ((wideWords 2 ((position.toNat + count.toNat) % 2 ^ 36)).map (BitVec.ofNat 18) ++ [0] ++
        (List.range count.toNat).map (fun i => BitVec.ofNat 18 (s.journalWord (position.toNat + i)))) = true := by
  have hcount : (if position.toNat < 1792 * s.trip.blockSeq then
      min count.toNat (1792 * s.trip.blockSeq - position.toNat) else 0) = count.toNat := by
    rw [if_pos (by omega)]
    omega
  obtain ⟨t, ht, hanswers⟩ := exportJournal_answers (position := position) (count := count) hmay hop
  rw [State.exportServed_of_held (s := s.clear) hlow hhigh hmem havailable hheld hcount] at hanswers
  exact ⟨t, ht, hanswers⟩

end

/-- Settles O46: a lemma for each command. -/
theorem tripCommandsComplete : Obligations.TripCommandsComplete :=
  ⟨fun _ _ hmay hop hstate hmem hmode => armOn_begins hmay hop hstate hmem hmode,
    fun _ _ hmay hop hrun => armOff_freezes hmay hop hrun,
    fun _ _ hmay hop hrun => freezeNow_freezes hmay hop hrun,
    fun _ hstate hstop => postBlocksWritten_stops hstate hstop,
    fun _ hstate hspill => baseCapture_captures hstate hspill,
    fun _ hstate => checkpointCapture_checks hstate,
    fun _ hstate hlost => gapRecord_counts hstate hlost,
    fun _ _ _ _ hmay hop hlow hhigh hmem havailable hend => exportJournal_atEnd hmay hop hlow hhigh hmem havailable hend,
    fun _ _ _ _ hmay hop hlow hhigh hmem havailable hheld hend =>
      exportJournal_held hmay hop hlow hhigh hmem havailable hheld hend⟩

end Sys2Proof.Machine

namespace Sys2Proof.Machine

/-! ## What traffic leaves alone of the Trip Recorder and of protected memory -/

namespace State

/-- Between two states the Trip Recorder and protected memory stand. -/
structure UnitsStand (s t : State) : Prop where
  trip : t.trip = s.trip
  mem : t.mem = s.mem

namespace UnitsStand

variable {s t u : State}

theorem refl (s : State) : UnitsStand s s := ⟨rfl, rfl⟩
theorem trans (h : UnitsStand s t) (h' : UnitsStand t u) : UnitsStand s u := ⟨h'.trip.trans h.trip, h'.mem.trans h.mem⟩
theorem of_declines (h : Declines s t) : UnitsStand s t := ⟨h.trip, by rw [h.eq]⟩
theorem of_manages {op : Prop} (h : Manages op s t) : UnitsStand s t := ⟨by rw [h.eq], by rw [h.eq]⟩

theorem ite {c : Prop} [Decidable c] (ht : UnitsStand s t) (hu : UnitsStand s u) : UnitsStand s (if c then t else u) := by
  split
  · exact ht
  · exact hu

theorem foldl {α : Type} {f : State → α → State} (hf : ∀ s x, UnitsStand s (f s x)) (l : List α) (s : State) :
    UnitsStand s (l.foldl f s) :=
  List.foldlRecOn l f (motive := UnitsStand s) (refl s) (fun _ h x _ => h.trans (hf _ x))

end UnitsStand

section
variable (s : State)

theorem degrade_unitsStand (t code : Nat) : UnitsStand s (s.degrade t code) := by
  unfold degrade
  dsimp only
  refine .ite (.refl s) ?_
  split
  · exact ⟨rfl, rfl⟩
  · exact ⟨rfl, rfl⟩
  · exact .refl s

theorem refuse_unitsStand (t q code : Nat) : UnitsStand s (s.refuse t q code) := by
  have hcounted (u : State) (v : Queue) (w : Tenant) : UnitsStand u ((u.setQueue q v).setTenant t w) := ⟨rfl, rfl⟩
  have hcount (u : State) : UnitsStand u (u.refuseCount t q code) :=
    (hcounted ..).trans ((UnitsStand.of_declines (emitOnceKey_declines ..)).trans (degrade_unitsStand ..))
  have hlane (n : Nat) (v : Lane) : UnitsStand s (s.setLane n v) := ⟨rfl, rfl⟩
  exact (UnitsStand.ite (hlane ..) (.refl s)).trans (hcount _)

theorem refuseQueued_unitsStand (t q code : Nat) (p : QFrame → Bool) : UnitsStand s (s.refuseQueued t q code p) := by
  have hfold (l : List QFrame) (s : State) : UnitsStand s
      (l.foldl (fun s f => (s.refuse t q code).wayEnd q (s.qEgress q) f (s.egressTrunk q) code) s) :=
    .foldl (fun s f => (refuse_unitsStand s t q code).trans (.of_declines (wayEnd_declines ..))) l s
  have hkept (v : Queue) : UnitsStand s (s.setQueue q v) := ⟨rfl, rfl⟩
  exact ((hkept _).trans (hfold ..)).trans (.ite (.refl _) (.of_declines (delayFalls_declines ..)))

theorem refuseLane_unitsStand (n : Nat) : UnitsStand s (s.refuseLane n) := by
  refine .foldl (fun s q => ?_) _ s
  split
  · exact refuseQueued_unitsStand ..
  · exact .refl s

theorem endFlight_unitsStand (q : Nat) : UnitsStand s (s.endFlight q) := by
  have hfreed (u : State) : UnitsStand u (u.freed q) := by
    unfold freed
    split
    · exact .of_declines (delayFalls_declines ..)
    · exact .refl u
  exact .trans (t := s.setQueue q _) ⟨rfl, rfl⟩ (hfreed _)

theorem cutFrame_unitsStand (n : Nat) : UnitsStand s (s.cutFrame n) := by
  have hline : UnitsStand s (s.lineCut n) := .ite ⟨rfl, rfl⟩ (.refl s)
  have hcut (c : Sched) (v : Lane) : UnitsStand s (((s.lineCut n).setSched n c).setLane n v) := hline.trans ⟨rfl, rfl⟩
  have hframe (u : State) (f : QFrame) : UnitsStand u (u.frameCut n f) :=
    .trans (t := if u.laneIsTrunk n then u.wasteSlots false n (slotsOf (u.laneLen n f.len)) else u) (.ite ⟨rfl, rfl⟩ (.refl u))
      (.ite ⟨rfl, rfl⟩ (.refl _))
  unfold cutFrame
  dsimp only
  split
  · split
    · split
      · exact (hcut ..).trans ((hframe ..).trans (endFlight_unitsStand ..))
      · exact (hcut ..).trans (endFlight_unitsStand ..)
    · exact (hcut ..).trans (.of_manages (op := True) (mgmtAdmit_manages ..))
  · exact .refl s

/-! ## Forced lanes (R505) -/

/-- A lane as its record leaves it. -/
def laneForced (n : Nat) (st : LaneState) (cause : Nat) : State :=
  let up := decide ((s.lane n).state = LaneState.up)
  let s := if up then s.cutFrame n else s
  let v := s.lane n
  s.laneEnter n st { v with
    cause := cause
    flaps := if up then satInc 18 v.flaps else v.flaps
    upSince := if st = LaneState.up then s.now else v.upSince
    holdUntil := if st = LaneState.hold then some s.now else if st = LaneState.training then v.holdUntil else none }

/-- What follows for the lane's owner and its frames. -/
def laneFollows (n : Nat) (was st : LaneState) (up held : Bool) (cause : Nat) : State :=
  let s := if up && decide (cause = 5) then s.emit 0o051004 5 n 0 else s
  match st with
  | .up => s.emit (if held then 0o050002 else 0o050001) 5 n 0
  | .damped => (s.emit 0o053005 5 n 0).refuseLane n
  | .down =>
    let s := if was = LaneState.damped then s.endAlarm 0o053005 5 n
      else if up || held then s.emit 0o051003 5 n 0 else s
    s.refuseLane n
  | .off | .training | .hold => s

theorem forceLane_of_other {n : Nat} {st : LaneState} (h : (s.lane n).state ≠ st) (cause : Nat) :
    ∃ up held, s.forceLane n st cause = (s.laneForced n st cause).laneFollows n (s.lane n).state st up held cause :=
  ⟨_, _, if_neg h⟩

theorem laneFollows_stands (n : Nat) (was st : LaneState) (up held : Bool) (cause : Nat) :
    LanesStand s (s.laneFollows n was st up held cause) ∧ UnitsStand s (s.laneFollows n was st up held cause) := by
  have hemit (u : State) (e k m a : Nat) : LanesStand u (u.emit e k m a) ∧ UnitsStand u (u.emit e k m a) :=
    ⟨emit_lanesStand .., ⟨rfl, rfl⟩⟩
  have hrefuse (u : State) : LanesStand u (u.refuseLane n) ∧ UnitsStand u (u.refuseLane n) :=
    ⟨refuseLane_lanesStand .., refuseLane_unitsStand ..⟩
  have hif (c : Prop) [Decidable c] (u v w : State) (hv : LanesStand u v ∧ UnitsStand u v)
      (hw : LanesStand u w ∧ UnitsStand u w) : LanesStand u (if c then v else w) ∧ UnitsStand u (if c then v else w) :=
    ⟨.ite hv.1 hw.1, .ite hv.2 hw.2⟩
  have hthen (u v w : State) (hv : LanesStand u v ∧ UnitsStand u v) (hw : LanesStand v w ∧ UnitsStand v w) :
      LanesStand u w ∧ UnitsStand u w := ⟨hv.1.trans hw.1, hv.2.trans hw.2⟩
  have hself (u : State) : LanesStand u u ∧ UnitsStand u u := ⟨.refl u, .refl u⟩
  have hended (u : State) : LanesStand u (u.endAlarm 0o053005 5 n) ∧ UnitsStand u (u.endAlarm 0o053005 5 n) :=
    ⟨.of_lanes rfl rfl rfl rfl, ⟨rfl, rfl⟩⟩
  have hcommand := hif (up && decide (cause = 5)) s _ _ (hemit s 0o051004 5 n 0) (hself s)
  cases st with
  | up => exact hthen _ _ _ hcommand (hemit ..)
  | damped => exact hthen _ _ _ hcommand (hthen _ _ _ (hemit ..) (hrefuse _))
  | down =>
    exact hthen _ _ _ hcommand (hthen _ _ _ (hif _ _ _ _ (hended _) (hif _ _ _ _ (hemit ..) (hself _))) (hrefuse _))
  | off | training | hold => exact hcommand

theorem forceLane_forces {n : Nat} {st : LaneState} (h : (s.lane n).state ≠ st) (cause : Nat) :
    ((s.forceLane n st cause).lane n).state = st ∧ ((s.forceLane n st cause).lane n).cause = cause ∧
      (s.forceLane n st cause).trip = s.trip := by
  obtain ⟨up, held, hforced⟩ := s.forceLane_of_other h cause
  obtain ⟨hlanes, htrip⟩ := (s.laneForced n st cause).laneFollows_stands n (s.lane n).state st up held cause
  have hcut : UnitsStand s (s.laneForced n st cause) := .trans (t := if decide ((s.lane n).state = LaneState.up) then
    s.cutFrame n else s) (.ite (cutFrame_unitsStand ..) (.refl s)) ⟨rfl, rfl⟩
  rw [hforced, hlanes.part Lane.state (fun _ => rfl), hlanes.part Lane.cause (fun _ => rfl), laneForced, lane_laneEnter]
  exact ⟨rfl, rfl, (hcut.trans htrip).trip⟩

end
end State

/-! ## GO (R504) -/

section
variable {s : State} {r : VerbCall}

theorem State.goSpan_clear (s : State) : s.clear.goSpan = s.goSpan := rfl

/-- The state of a replay that has begun. -/
structure TripUnit.Begins (v : TripUnit) (base : TripRec) (rest : List TripRec) (now : Nat) : Prop where
  state : v.state = .replaying
  result : v.result = 1
  reason : v.reason = 0
  time : v.replayTime = base.wide 8 3
  at_ : v.replayAt = now
  span : v.span = rest

theorem State.loadItem_now (s : State) (i : BaseItem) : (s.loadItem i).now = s.now := by
  have hunit (unit index value : Nat) : (s.setUnit unit index value).now = s.now := by
    unfold State.setUnit State.partnerEnter
    repeat' split
    all_goals rfl
  cases i with
  | state unit index value => exact hunit ..
  | _ => rfl

theorem State.loadQueued_now (s : State) (e : TripRec) : (s.loadQueued e).now = s.now := by
  unfold State.loadQueued
  dsimp only
  split <;> rfl

theorem State.loadBase_begins (s : State) (base : TripRec) (rest : List TripRec) :
    (s.loadBase base rest).trip.Begins base rest s.now := by
  have hitems (l : List BaseItem) (u : State) : (l.foldl State.loadItem u).now = u.now :=
    List.foldlRecOn l _ (motive := fun w : State => w.now = u.now) rfl (fun w h i _ => (w.loadItem_now i).trans h)
  have hqueued (l : List TripRec) (u : State) : (l.foldl State.loadQueued u).now = u.now :=
    List.foldlRecOn l _ (motive := fun w : State => w.now = u.now) rfl (fun w h e _ => (w.loadQueued_now e).trans h)
  exact ⟨rfl, rfl, rfl, rfl, (hqueued ..).trans (hitems ..), rfl⟩

/-- GO is answered, whatever it finds. -/
theorem exec_go (hmay : s.mayAct r none = true) (hop : State.isOperator r.caller = true) :
    ∃ t, exec (.go r) s = .next t ∧ t.answers r.caller 0o02 0 [] = true ∧
      ∃ v w, v.trip = s.clear.goServe.trip ∧ w.trip = t.trip ∧ State.Told (.halt ∈ s.clear.goServe.notes) v w :=
  exec_writeLive_recorder (i := .go r) (w := fun _ => .takes State.goServe) rfl rfl hmay hop rfl

theorem go_completes (hmay : s.mayAct r none = true) (hop : State.isOperator r.caller = true) :
    ∃ t, exec (.go r) s = .next t ∧ t.answers r.caller 0o02 0 [] = true ∧
      (∀ reason, s.goSpan = .inl reason → t.trip.result = 4 ∧ t.trip.reason = reason) ∧
      (∀ base rest, s.goSpan = .inr (base, rest) → t.trip.Begins base rest s.now) := by
  obtain ⟨t, ht, hanswers, v, w, hv, hw, htold⟩ := exec_go hmay hop
  refine ⟨t, ht, hanswers, fun reason hspan => ?_, fun base rest hspan => ?_⟩
  · have hrefused : s.clear.goServe.trip = { s.trip with result := 4, reason := reason } := by
      rw [State.goServe, s.goSpan_clear, hspan]
      rfl
    rw [← hw, htold.runs, hv, hrefused]
    exact ⟨rfl, rfl⟩
  · have hloaded : s.clear.goServe = s.clear.loadBase base rest := by rw [State.goServe, s.goSpan_clear, hspan]
    have hbegins := s.clear.loadBase_begins base rest
    rw [hloaded] at hv
    have hstate : v.trip.state = .replaying := (congrArg TripUnit.state hv).trans hbegins.state
    rw [← hw, htold.resting (by rw [hstate]; decide) (by rw [hstate]; decide), hv]
    exact hbegins

/-- Outside replay mode, and while a replay runs, GO finds no span. -/
theorem State.goSpan_of_unable (h : s.replayMode = false ∨ s.replaying = true) : s.goSpan = .inl 5 := by
  refine if_pos ?_
  obtain h | h := h
  · rw [h]
    rfl
  · rw [h, Bool.or_true]

end

/-! ## A recorded cycle (R505, R506) -/

section
variable {s : State}

/-- The time of the next recorded cycle, and the clock at it. -/
def State.cycleTime (s : State) : Nat :=
  match s.trip.span with
  | e :: _ => e.time
  | [] => s.trip.replayTime
def State.cycleAt (s : State) (time : Nat) : State :=
  let s : State := { s with trip := { s.trip with span := s.trip.span.dropWhile (fun e => decide (e.time = time)) } }
  s.upTo (s.trip.replayAt + (time - s.trip.replayTime))

/-- The replay ends with its last record. -/
def State.cycleEnds (s : State) : State := if s.trip.span.isEmpty && s.replaying then s.endReplay 2 0 else s

/-- What REPLAY_CYCLE does. -/
def State.cycleStep (s : State) : State :=
  if s.replaying then
    ((s.trip.span.takeWhile (fun e => decide (e.time = s.cycleTime))).foldl State.applyRecord (s.cycleAt s.cycleTime)).cycleEnds
  else s

theorem exec_replayCycle (s : State) : exec .replayCycle s = act [.now, .free, .once, .pins, .start, .image, .cus, .keys, .trng,
    .jun, .lanes, .tenants, .tp, .link, .zheac, .mem, .cway, .stn, .sp, .way] s State.cycleStep := rfl

/-- What the observers are told leaves a Trip Recorder that neither records nor freezes as the command does. -/
theorem State.ReachesRecorder.resting {u : State} {i : Instr} {ps : List Part} (h : s.ReachesRecorder u i ps)
    (hrun : u.trip.state ≠ .recording) (hfreeze : u.trip.state ≠ .freezing) :
    ∃ t, exec i s = .next t ∧ (∀ p, p ∉ observers → ps.contains p = true → u.same t p) ∧ t.trip = u.trip := by
  obtain ⟨t, ht, -, hsame, v, w, hv, hw, htold⟩ := h
  exact ⟨t, ht, hsame, by rw [← hw, htold.resting (by rwa [hv]) (by rwa [hv]), hv]⟩

/-- A cycle's time comes: the clock is all of it that the records find changed. -/
theorem State.cycleAt_stands (s : State) (time : Nat) :
    (s.cycleAt time).now = max s.now (s.trip.replayAt + (time - s.trip.replayTime)) ∧ (s.cycleAt time).lanes = s.lanes ∧
      (s.cycleAt time).trip = { s.trip with span := s.trip.span.dropWhile (fun e => decide (e.time = time)) } := by
  refine ⟨State.upTo_now .., ?_, ?_⟩
  · rw [State.cycleAt, State.upTo_elapses]
  · rw [State.cycleAt, State.upTo_elapses]

theorem State.replaying_state (h : s.replaying = true) : s.trip.state = .replaying := of_decide_eq_true h

/-- The replay has come to a record. -/
def State.positioned (s : State) (e : TripRec) : State := { s with trip := { s.trip with replayPos := e.block } }

theorem State.applyRecord_of_trigger {e : TripRec} (hreplay : s.replaying = true) (htype : e.type = 0o21) :
    s.applyRecord e = s.positioned e := by
  unfold State.applyRecord
  rw [hreplay, htype]
  rfl

theorem State.applyRecord_of_gap {e : TripRec} (hreplay : s.replaying = true) (htype : e.type = 0o20) :
    s.applyRecord e = (s.positioned e).endReplay 2 2 := by
  unfold State.applyRecord
  rw [hreplay, htype]
  rfl

theorem State.applyRecord_of_lane {e : TripRec} (hreplay : s.replaying = true) (htype : e.type = 0o06) :
    s.applyRecord e = (s.positioned e).forceLane (bits (e.r 1) 17 14) (laneStateOf (bits (e.r 1) 13 11)) (bits (e.r 1) 10 8) := by
  unfold State.applyRecord
  rw [hreplay, htype]
  rfl

/-- Once the replay has ended no record changes anything. -/
theorem State.applyRecords_of_ended (hended : s.replaying = false) (l : List TripRec) : l.foldl State.applyRecord s = s := by
  induction l with
  | nil => rfl
  | cons e l ih =>
    rw [List.foldl_cons, show s.applyRecord e = s from if_pos (by rw [hended]; rfl), ih]

/-- A cycle of one record. -/
theorem State.cycleStep_of_single {e : TripRec} {rest : List TripRec} (hreplay : s.replaying = true)
    (hspan : s.trip.span = e :: rest) (hlater : ∀ next ∈ rest.head?, next.time ≠ e.time) :
    s.cycleStep = ((s.cycleAt e.time).applyRecord e).cycleEnds ∧
      s.trip.span.dropWhile (fun x => decide (x.time = e.time)) = rest := by
  have htime : s.cycleTime = e.time := by rw [State.cycleTime, hspan]
  have hnone : rest.takeWhile (fun x => decide (x.time = e.time)) = [] ∧
      rest.dropWhile (fun x => decide (x.time = e.time)) = rest := by
    cases rest with
    | nil => exact ⟨rfl, rfl⟩
    | cons next rest => simp [hlater next rfl]
  refine ⟨?_, by simp [hspan, hnone.2]⟩
  rw [State.cycleStep, hreplay, htime, hspan]
  simp [hnone.1]

/-- The end of a cycle: records are left, or the replay has ended, or this was the last. -/
theorem State.cycleEnds_of_more (h : s.trip.span ≠ []) : s.cycleEnds = s :=
  if_neg (by simp [h])
theorem State.cycleEnds_of_ended (h : s.replaying = false) : s.cycleEnds = s :=
  if_neg (by simp [h])
theorem State.cycleEnds_of_last (hspan : s.trip.span = []) (hreplay : s.replaying = true) : s.cycleEnds = s.endReplay 2 0 :=
  if_pos (by simp [hspan, hreplay])

/-- The replay ends with a command. -/
theorem State.ReachesRecorder.ended {u : State} {i : Instr} {ps : List Part} (h : s.ReachesRecorder (u.endReplay 2 0) i ps)
    (hps : ps.contains .lanes = true) :
    ∃ t, exec i s = .next t ∧ t.trip = { u.trip with state := .replayDone, result := 2, reason := 0 } ∧
      ∀ n, t.lane n = u.lane n := by
  obtain ⟨t, ht, hsame, hstands⟩ := h.resting nofun nofun
  exact ⟨t, ht, hstands, State.lane_congr (s := u) (hsame .lanes (by decide) hps)⟩

/-- The record of a cycle is found by the replay unit as the cycle before left it, but for the clock. -/
theorem State.cycleAt_single {e : TripRec} {rest : List TripRec} (hreplay : s.replaying = true)
    (hdrop : s.trip.span.dropWhile (fun x => decide (x.time = e.time)) = rest) :
    (s.clear.cycleAt e.time).replaying = true ∧
      ((s.clear.cycleAt e.time).positioned e).trip = { s.trip with span := rest, replayPos := e.block } := by
  obtain ⟨-, -, htrip⟩ := s.clear.cycleAt_stands e.time
  have htrip : (s.clear.cycleAt e.time).trip = { s.trip with span := rest } := htrip.trans (by rw [← hdrop]; rfl)
  refine ⟨by rw [State.replaying, htrip]; exact hreplay, ?_⟩
  rw [State.positioned, htrip]

theorem replayCycle_of_trigger {e next : TripRec} {rest : List TripRec} (hreplay : s.replaying = true)
    (hspan : s.trip.span = e :: next :: rest) (hlater : next.time ≠ e.time) (htype : e.type = 0o21) :
    ∃ t, exec .replayCycle s = .next t ∧ t.now = max s.now (s.trip.replayAt + (e.time - s.trip.replayTime)) ∧
      t.trip = { s.trip with span := next :: rest, replayPos := e.block } := by
  obtain ⟨hstep, hdrop⟩ := State.cycleStep_of_single (s := s.clear) hreplay hspan (by simpa using hlater)
  obtain ⟨hnow, -, -⟩ := s.clear.cycleAt_stands e.time
  obtain ⟨hreplay', htrip⟩ := State.cycleAt_single hreplay hdrop
  rw [State.applyRecord_of_trigger hreplay' htype, State.cycleEnds_of_more (by rw [htrip]; simp)] at hstep
  have hstate : ((s.clear.cycleAt e.time).positioned e).trip.state = .replaying := State.replaying_state hreplay'
  obtain ⟨t, ht, hsame, hstands⟩ := (exec_reaches_recorder (exec_replayCycle s) hstep).resting
    (by rw [hstate]; decide) (by rw [hstate]; decide)
  exact ⟨t, ht, (hsame .now (by decide) rfl : t.now = _).trans hnow, hstands.trans htrip⟩

/-- The last record of a span ends its replay cleanly. -/
theorem replayCycle_of_last {e : TripRec} (hreplay : s.replaying = true) (hspan : s.trip.span = [e]) (htype : e.type = 0o21) :
    ∃ t, exec .replayCycle s = .next t ∧ t.trip.state = .replayDone ∧ t.trip.result = 2 ∧ t.trip.reason = 0 ∧
      t.trip.replayPos = e.block := by
  obtain ⟨hstep, hdrop⟩ := State.cycleStep_of_single (s := s.clear) hreplay hspan (by simp)
  obtain ⟨hreplay', htrip⟩ := State.cycleAt_single hreplay hdrop
  rw [State.applyRecord_of_trigger hreplay' htype, State.cycleEnds_of_last (s := (s.clear.cycleAt e.time).positioned e)
    (by rw [htrip]) hreplay'] at hstep
  obtain ⟨t, ht, hstands, -⟩ := (exec_reaches_recorder (exec_replayCycle s) hstep).ended rfl
  refine ⟨t, ht, ?_⟩
  rw [hstands]
  exact ⟨rfl, rfl, rfl, rfl⟩

theorem replayCycle_of_gap {e : TripRec} {rest : List TripRec} (hreplay : s.replaying = true)
    (hspan : s.trip.span = e :: rest) (htype : e.type = 0o20) :
    ∃ t, exec .replayCycle s = .next t ∧ t.trip.state = .replayDone ∧ t.trip.result = 2 ∧ t.trip.reason = 2 ∧
      t.trip.replayPos = e.block := by
  have htime : s.clear.cycleTime = e.time := by rw [State.cycleTime, show s.clear.trip.span = e :: rest from hspan]
  obtain ⟨hreplay', -⟩ := State.cycleAt_single (e := e) hreplay rfl
  have hended (u : State) : (u.endReplay 2 2).replaying = false := rfl
  have hstep : s.clear.cycleStep = ((s.clear.cycleAt e.time).positioned e).endReplay 2 2 := by
    rw [State.cycleStep, show s.clear.replaying = true from hreplay, if_pos rfl, htime,
      show s.clear.trip.span = e :: rest from hspan, List.takeWhile_cons_of_pos (by simp), List.foldl_cons,
      State.applyRecord_of_gap hreplay' htype, State.applyRecords_of_ended (hended _), State.cycleEnds_of_ended (hended _)]
  obtain ⟨t, ht, -, hstands⟩ := (exec_reaches_recorder (exec_replayCycle s) hstep).resting nofun nofun
  refine ⟨t, ht, ?_⟩
  rw [hstands]
  exact ⟨rfl, rfl, rfl, rfl⟩

theorem replayCycle_of_lane {e : TripRec} (hreplay : s.replaying = true) (hspan : s.trip.span = [e]) (htype : e.type = 0o06)
    (hother : (s.lane (bits (e.r 1) 17 14)).state ≠ laneStateOf (bits (e.r 1) 13 11)) :
    ∃ t, exec .replayCycle s = .next t ∧ (t.lane (bits (e.r 1) 17 14)).state = laneStateOf (bits (e.r 1) 13 11) ∧
      (t.lane (bits (e.r 1) 17 14)).cause = bits (e.r 1) 10 8 ∧ t.trip.state = .replayDone := by
  obtain ⟨hstep, hdrop⟩ := State.cycleStep_of_single (s := s.clear) hreplay hspan (by simp)
  obtain ⟨-, hlanes, -⟩ := s.clear.cycleAt_stands e.time
  obtain ⟨hreplay', htrip⟩ := State.cycleAt_single hreplay hdrop
  have hlane : ((s.clear.cycleAt e.time).positioned e).lane (bits (e.r 1) 17 14) = s.lane (bits (e.r 1) 17 14) :=
    State.lane_congr (s := s) (t := (s.clear.cycleAt e.time).positioned e) hlanes _
  obtain ⟨hstate, hcause, hforced⟩ := State.forceLane_forces ((s.clear.cycleAt e.time).positioned e)
    (st := laneStateOf (bits (e.r 1) 13 11)) (hlane.symm ▸ hother) (bits (e.r 1) 10 8)
  rw [State.applyRecord_of_lane hreplay' htype, State.cycleEnds_of_last (by rw [hforced, htrip])
    (by rw [State.replaying, hforced]; exact hreplay')] at hstep
  obtain ⟨t, ht, hstands, hlanes⟩ := (exec_reaches_recorder (exec_replayCycle s) hstep).ended rfl
  refine ⟨t, ht, ?_⟩
  rw [hlanes, hstands]
  exact ⟨hstate, hcause, rfl⟩

theorem replayCycle_of_none (hreplay : s.replaying = false) :
    ∃ t, exec .replayCycle s = .next t ∧ t.trip = s.trip ∧ t.now = s.now := by
  have hstep : s.clear.cycleStep = s.clear := if_neg (by rw [show s.clear.replaying = false from hreplay]; simp)
  have hsilent (u : State) (hu : u.notes = []) : State.tell 1200 u = u := by
    rw [State.tell, hu]
    rfl
  have hnotes (ps : List Part) : (s.effect ps State.cycleStep).notes = [] := by
    rw [State.effect, hstep]
    refine List.append_eq_nil_iff.mpr ⟨rfl, ?_⟩
    split
    · exact State.changes_eq_nil (ite_self _) (ite_self _) (ite_self _) (ite_self _) (ite_self _) (ite_self _)
    · rfl
  exact ⟨_, exec_replayCycle s, (congrArg State.trip (hsilent _ (hnotes _)) :).trans (congrArg State.trip hstep :),
    (actState_same (s := s) State.cycleStep (p := .now) rfl (by decide) : _ = _).trans (congrArg State.now hstep :)⟩

end

/-- Settles O47: GO, and one lemma for each kind of record. -/
theorem replayCompletes : Obligations.ReplayCompletes := by
  refine ⟨fun r s hmay hop => ?_, fun r s hmay hop hunable => ?_, fun e next rest s hreplay hspan hlater htype => ?_,
    fun e s hreplay hspan htype => replayCycle_of_last hreplay hspan htype,
    fun e rest s hreplay hspan htype => replayCycle_of_gap hreplay hspan htype,
    fun e s hreplay hspan htype hother => replayCycle_of_lane hreplay hspan htype hother,
    fun s hreplay => replayCycle_of_none hreplay⟩
  · obtain ⟨t, ht, hanswers, hrefused, hbegins⟩ := go_completes hmay hop
    exact ⟨t, ht, hanswers, hrefused, fun base rest hspan =>
      have h := hbegins base rest hspan
      ⟨h.state, h.result, h.reason, h.time, h.at_, h.span⟩⟩
  · obtain ⟨t, ht, hanswers, hrefused, -⟩ := go_completes hmay hop
    exact ⟨t, ht, hanswers, hrefused 5 (State.goSpan_of_unable hunable)⟩
  · obtain ⟨t, ht, hnow, htrip⟩ := replayCycle_of_trigger hreplay hspan hlater htype
    refine ⟨t, ht, hnow, ?_⟩
    rw [htrip]
    exact ⟨rfl, rfl, State.replaying_state hreplay⟩

end Sys2Proof.Machine

namespace Sys2Proof.Machine
namespace State

/-! ## Frames and stations leave protected memory alone (R236, R374 to R381) -/

section
variable (s : State)

theorem note_unitsStand (n : Note) : UnitsStand s (s.note n) := ⟨rfl, rfl⟩
theorem setTp_unitsStand (v : TurnpikeUnit) : UnitsStand s { s with tp := v } := ⟨rfl, rfl⟩
theorem setStn_unitsStand (v : StationUnit) : UnitsStand s { s with stn := v } := ⟨rfl, rfl⟩
theorem setQueue_unitsStand (q : Nat) (v : Queue) : UnitsStand s (s.setQueue q v) := ⟨rfl, rfl⟩
theorem setCtx_unitsStand (n : Nat) (v : StnCtx) : UnitsStand s (s.setCtx n v) := ⟨rfl, rfl⟩

theorem emitOnceKey_unitsStand (key e kind number arg : Nat) : UnitsStand s (s.emitOnceKey key e kind number arg) :=
  .of_declines (emitOnceKey_declines ..)

theorem refuseCount_unitsStand (t q code : Nat) : UnitsStand s (s.refuseCount t q code) := by
  have hcounted (v : Queue) (w : Tenant) : UnitsStand s ((s.setQueue q v).setTenant t w) := ⟨rfl, rfl⟩
  exact (hcounted ..).trans ((emitOnceKey_unitsStand ..).trans (degrade_unitsStand ..))

theorem delayRises_unitsStand (t c q : Nat) : UnitsStand s (s.delayRises t c q) := by
  have hreleased (u : State) (l : List Nat) (at_ : Option Nat) : UnitsStand u (u.markReleased l at_) :=
    .of_declines (markReleased_declines ..)
  have hasserted (v : Queue) : UnitsStand s ((s.delayAsserted t c).setQueue q v) :=
    (((note_unitsStand ..).trans (setTp_unitsStand ..)).trans (hreleased ..)).trans (setQueue_unitsStand ..)
  have htold (b : Bool) (u : State) (a : Nat) : UnitsStand u (if b then u.emit 0o070001 2 q a else u) :=
    .ite ⟨rfl, rfl⟩ (.refl u)
  exact .ite (.refl s) (((hasserted _).trans (htold ..)).trans (.of_declines (flowAll_declines _)))

theorem admitted_unitsStand (t q : Nat) (f : QFrame) (p : Place) : UnitsStand s (s.admitted t q f p) := by
  have hcharged (u : State) : UnitsStand u (u.chargePolicer t q f.len) := .ite (setTp_unitsStand ..) (.refl u)
  exact (note_unitsStand ..).trans ((hcharged _).trans (delayRises_unitsStand ..))

theorem admitTo_unitsStand (t q : Nat) (f : QFrame) (p : Place) (sampled trunk : Bool) :
    UnitsStand s (s.admitTo t q f p sampled trunk) := by
  have hsampled (u : State) : UnitsStand u
      (if sampled then { u with way := { u.way with inFlight := u.way.inFlight + 1 } } else u) := .ite ⟨rfl, rfl⟩ (.refl u)
  have hadmitting : UnitsStand s (s.admitting f p sampled) :=
    .trans (.ite (.refl s) (note_unitsStand ..)) (hsampled _)
  rw [admitTo_eq]
  exact (hadmitting.trans (setQueue_unitsStand ..)).trans (.ite (.refl _) (admitted_unitsStand ..))

theorem acceptSpill_unitsStand (t q k : Nat) : UnitsStand s (s.acceptSpill t q k) :=
  .ite (.refl s) ((setQueue_unitsStand ..).trans (.foldl (fun s f => admitted_unitsStand s t q f .spill) _ _))

theorem admitRefused_unitsStand (t q code : Nat) (f : QFrame) (sampled trunk : Bool) :
    UnitsStand s (s.admitRefused t q code f sampled trunk) := by
  have hcounted (u : State) : UnitsStand u
      (if code = rcQuota then u.occur 25 0o004 else if code = rcCeiling then u.occur 25 0o005 else u) :=
    .ite (note_unitsStand ..) (.ite (note_unitsStand ..) (.refl u))
  have hway (u : State) (outPort : Nat) (prot : Bool) : UnitsStand u (u.wayRefused sampled q outPort f trunk prot code) := by
    unfold wayRefused
    exact .ite (.trans (t := { u with free := u.free + 1 }) ⟨rfl, rfl⟩ (.of_declines (wayWrite_declines ..))) (.refl u)
  exact ((note_unitsStand ..).trans (hcounted _)).trans ((refuse_unitsStand ..).trans (hway ..))

theorem enter_unitsStand (t q : Nat) (f : QFrame) (trunk : Bool) : UnitsStand s (s.enter t q f trunk) := by
  have hsample (u : State) : UnitsStand u (u.waySample t f.ingress q).2 := by
    rw [waySample_eq]
    exact ⟨rfl, rfl⟩
  have hsampled := (acceptSpill_unitsStand s t q (s.spillDue q)).trans (hsample _)
  have hwanted (u : State) (b : Bool) : UnitsStand u (if b then u.emitOnce 0o071004 2 q 1 else u) :=
    .ite (emitOnceKey_unitsStand ..) (.refl u)
  refine hsampled.trans (.ite (admitRefused_unitsStand ..) (.ite (admitRefused_unitsStand ..)
    (.ite ?_ (.ite (admitRefused_unitsStand ..) ?_))))
  · exact .trans (t := countFieldAbsent _) ⟨rfl, rfl⟩ (admitRefused_unitsStand ..)
  · dsimp only
    split
    · exact (hwanted ..).trans (admitRefused_unitsStand ..)
    · exact admitTo_unitsStand ..

theorem classified_unitsStand (t port : Nat) (trunk : Bool) (data : List Nat) (entry : Option Nat) :
    UnitsStand s (s.classified t port trunk data entry) := by
  unfold classified
  dsimp only
  split
  · exact ((note_unitsStand ..).trans (note_unitsStand ..)).trans (refuse_unitsStand ..)
  · split
    · exact ((note_unitsStand ..).trans (note_unitsStand ..)).trans (refuse_unitsStand ..)
    · exact ((note_unitsStand ..).trans (note_unitsStand ..)).trans (enter_unitsStand ..)

theorem offer_unitsStand (t port : Nat) (trunk : Bool) (data : List Nat) : UnitsStand s (s.offer t port trunk data) := by
  unfold offer
  refine .ite (.refl s) ?_
  split
  · exact .ite (.ite ((setTp_unitsStand ..).trans (note_unitsStand ..)) (refuse_unitsStand ..)) (classified_unitsStand ..)
  · exact classified_unitsStand ..

theorem countNoTenant_unitsStand (port vlan : Nat) : UnitsStand s (s.countNoTenant port vlan) :=
  (setTp_unitsStand ..).trans (emitOnceKey_unitsStand ..)

/-! ### The host pipeline -/

theorem settleDirectory_unitsStand : UnitsStand s s.settleDirectory := by
  have hsettles (u : State) : UnitsStand u (u.takePending 0o021 0).settleApply := by
    have h := (takePending_settles u 0o021 0).trans (settleApply_settles _)
    exact ⟨by rw [h], by rw [h]⟩
  exact (setStn_unitsStand ..).trans (.ite (hsettles _) (.refl _))

theorem stnRefuse_unitsStand (code : Nat) : UnitsStand s (s.stnRefuse code) := by
  have hvp (u : State) : UnitsStand u (u.vpRefuse code) := by
    unfold vpRefuse
    split
    · exact refuseCount_unitsStand ..
    · exact .refl u
  exact (setStn_unitsStand ..).trans (hvp _)

theorem stnDone_unitsStand (port : Nat) (f : List Nat) (micFails : Bool) (forced : Option (Option Nat)) :
    UnitsStand s (s.stnDone port f micFails forced) := .ite (.refl s) ⟨rfl, rfl⟩

theorem ctxHandled_unitsStand (n : Nat) : UnitsStand s (s.ctxHandled n) := .ite ⟨rfl, rfl⟩ (.refl s)

theorem sendDown_unitsStand (key station port type seq : Nat) (text : List Nat) (queue : Option Nat) :
    UnitsStand s (s.sendDown key station port type seq text queue) := by
  have hsent (u : State) (m : Msg) : UnitsStand u (u.sendMsg .down .station m) :=
    have h := sendMsg_transports u .down .station m
    ⟨by rw [h], by rw [h]⟩
  exact (setCtx_unitsStand ..).trans (hsent _ _)

theorem sendSync_unitsStand (key station : Nat) (e : List Word) : UnitsStand s (s.sendSync key station e) := by
  unfold sendSync
  refine .ite (.refl s) ?_
  split
  · exact (setStn_unitsStand ..).trans (sendDown_unitsStand ..)
  · exact .refl s

theorem stnSuspect_unitsStand (station code : Nat) : UnitsStand s (s.stnSuspect station code) :=
  (stnRefuse_unitsStand ..).trans ((setCtx_unitsStand ..).trans (emitOnceKey_unitsStand ..))

theorem frameIn_unitsStand (port len : Nat) : UnitsStand s (s.frameIn port len) := .ite ⟨rfl, rfl⟩ ⟨rfl, rfl⟩

theorem stnAccept_unitsStand (e : List Word) (f text : List Nat) (forced : Option (Option Nat)) :
    UnitsStand s (s.stnAccept e f text forced) := by
  have hwritten (c : StnCtx) (v : StationUnit) (len : Nat) :
      UnitsStand s (({ s.setCtx (nfStation f) c with stn := v } : State).frameIn 16 len) :=
    .trans (t := ({ s.setCtx (nfStation f) c with stn := v } : State)) ⟨rfl, rfl⟩ (frameIn_unitsStand ..)
  unfold stnAccept
  dsimp only
  split
  · exact (hwritten ..).trans (offer_unitsStand ..)
  · exact (hwritten ..).trans (classified_unitsStand ..)
  · exact (hwritten ..).trans (countNoTenant_unitsStand ..)

theorem stnCheck_unitsStand (e : List Word) (port : Nat) (f : List Nat) (forced : Option (Option Nat)) (key : Nat) :
    UnitsStand s (s.stnCheck e port f forced key) := by
  unfold stnCheck
  dsimp only
  refine .ite ((ctxHandled_unitsStand ..).trans ((stnRefuse_unitsStand ..).trans (stnDone_unitsStand ..))) ?_
  split
  · exact (stnSuspect_unitsStand ..).trans (stnDone_unitsStand ..)
  · exact .ite ((stnDone_unitsStand ..).trans (stnAccept_unitsStand ..))
      (((stnDone_unitsStand ..).trans (stnSuspect_unitsStand ..)).trans (.ite (sendSync_unitsStand ..) (.refl _)))

theorem withKey_unitsStand (i : StnItem) {go : State → Nat → State} (hgo : ∀ u k, UnitsStand u (go u k)) :
    UnitsStand s (s.withKey i go) := by
  have hask (u : State) (n : Nat) : UnitsStand u (u.askStationKey n) := .ite ⟨rfl, rfl⟩ ⟨rfl, rfl⟩
  unfold withKey
  split
  · exact .trans (t := ((s.occur 32 0o001).occur 32 0o004).cacheTouch i.station) ⟨rfl, rfl⟩ (hgo ..)
  · exact ((note_unitsStand ..).trans (hask ..)).trans (setStn_unitsStand ..)

theorem stnUp_unitsStand (port : Nat) (f : List Nat) (forced : Option (Option Nat)) : UnitsStand s (s.stnUp port f forced) := by
  unfold stnUp
  split
  · exact (countNoTenant_unitsStand ..).trans (stnDone_unitsStand ..)
  · exact .ite ((stnRefuse_unitsStand ..).trans (stnDone_unitsStand ..))
      (withKey_unitsStand _ _ fun _ _ => .ite (setStn_unitsStand ..) (stnCheck_unitsStand ..))

theorem vpOut_unitsStand (t q : Nat) (f : QFrame) (code : Nat) : UnitsStand s (s.vpOut t q f code) :=
  (refuse_unitsStand ..).trans (.of_declines (wayEnd_declines ..))

theorem vpSend_unitsStand (q : Nat) (f : QFrame) (e : List Word) (key : Nat) : UnitsStand s (s.vpSend q f e key) := by
  unfold vpSend
  dsimp only
  split
  · exact vpOut_unitsStand ..
  · exact (((UnitsStand.of_declines (frameOut_declines ..)).trans (note_unitsStand ..)).trans (sendDown_unitsStand ..)).trans
      (.of_declines (wayEnd_declines ..))

theorem stnDown_unitsStand (q : Nat) (f : QFrame) : UnitsStand s (s.stnDown q f) := by
  unfold stnDown
  dsimp only
  refine .ite (.trans (t := s.countFieldAbsent) ⟨rfl, rfl⟩ (vpOut_unitsStand ..)) ?_
  split
  · exact vpOut_unitsStand ..
  · exact .ite (vpOut_unitsStand ..) (.ite (vpOut_unitsStand ..) (.ite ((ctxHandled_unitsStand ..).trans (vpOut_unitsStand ..))
      (.ite (vpOut_unitsStand ..)
        (withKey_unitsStand _ _ fun _ _ => .ite (setStn_unitsStand ..) (vpSend_unitsStand ..)))))

theorem pipelineServe_unitsStand (p : StnItem → Bool) : UnitsStand s (s.pipelineServe p) := by
  have hserve (u : State) (i : StnItem) : UnitsStand u (u.stnServe i) := by
    cases i with
    | up => exact stnUp_unitsStand ..
    | down => exact stnDown_unitsStand ..
  exact ((setStn_unitsStand ..).trans (.foldl hserve _ _)).trans (settleDirectory_unitsStand _)

theorem pipelineQuarantine_unitsStand : UnitsStand s s.pipelineQuarantine := by
  refine ((setStn_unitsStand ..).trans (.foldl (fun u i => ?_) _ _)).trans (settleDirectory_unitsStand _)
  cases i with
  | up => exact (stnRefuse_unitsStand ..).trans (stnDone_unitsStand ..)
  | down => exact vpOut_unitsStand ..

/-! ### Faults and resets of tenants -/

theorem startReset_unitsStand (t trigger : Nat) : UnitsStand s (s.startReset t trigger) :=
  .trans (t := s.tenEnter t .resetting (s.resetBegun t trigger)) ⟨rfl, rfl⟩ (.of_declines (startReset_declines ..))

theorem faultTenant_unitsStand (t cause : Nat) : UnitsStand s (s.faultTenant t cause) := by
  have hfaulted (v : Tenant) : UnitsStand s ((s.tenEnter t .faulted v).emit 0o062003 1 t cause) := ⟨rfl, rfl⟩
  unfold faultTenant
  dsimp only
  refine .ite (.refl s) ?_
  split
  · exact (hfaulted _).trans (.ite (startReset_unitsStand ..) (.refl _))
  · exact (hfaulted _).trans (.ite (startReset_unitsStand ..) (.refl _))
  all_goals exact ⟨rfl, rfl⟩

theorem finishReset_unitsStand (t : Nat) (r : TenReset) (fencedByEpoch : Bool) :
    UnitsStand s (s.finishReset t r fencedByEpoch) := by
  have hleft (u : State) (v : Tenant) (dur : Nat) : UnitsStand u (u.resetLeft t r fencedByEpoch v dur) := by
    have hentered (st : TenState) (w : Tenant) (e a : Nat) : UnitsStand u ((u.tenEnter t st w).emit e 1 t a) := ⟨rfl, rfl⟩
    exact (UnitsStand.ite (hentered ..) (hentered ..)).trans (.of_declines (endAlarm_declines ..))
  have hset (v : Tenant) : UnitsStand s (s.setTenant t v) := ⟨rfl, rfl⟩
  rw [finishReset_eq]
  exact ((hset _).trans (hleft ..)).trans (.ite (faultTenant_unitsStand ..) (.refl _))

end
end State

end Sys2Proof.Machine

namespace Sys2Proof.Machine

theorem mem_tabPut {α : Type} [DecidableEq α] {d v : α} {t : Tab α} {k : Nat} {e : Nat × α} (h : e ∈ tabPut d t k v) :
    e = (k, v) ∨ e ∈ t := by
  unfold tabPut at h
  dsimp only at h
  split at h
  · exact .inr (List.mem_of_mem_filter h)
  · exact (mem_tabInsert h).imp_right List.mem_of_mem_filter

theorem mem_tabMap {α : Type} [DecidableEq α] {d : α} {t : Tab α} {f : Nat → α → α} {e : Nat × α} (h : e ∈ tabMap d t f) :
    ∃ a ∈ t, e = (a.1, f a.1 a.2) := by
  obtain ⟨a, ha, rfl⟩ := List.mem_map.mp (List.mem_of_mem_filter h)
  exact ⟨a, ha, rfl⟩

/-- A line at which nothing waits. -/
structure DirLine.Rests (v : DirLine) : Prop where
  waiting : v.waiting = []
  evicting : v.evicting = false

namespace State

/-! ## A directory at rest (R320) -/

section
variable {s t : State}

theorem dirIdle_iff : s.dirIdle = true ↔ s.mem.backlog = [] ∧ ∀ e ∈ s.mem.dir, e.2.Rests := by
  simp only [dirIdle, Bool.and_eq_true, List.isEmpty_iff, List.all_eq_true, Bool.not_eq_true']
  exact and_congr_right fun _ => forall₂_congr fun _ _ => ⟨fun ⟨h, h'⟩ => ⟨h, h'⟩, fun ⟨h, h'⟩ => ⟨h, h'⟩⟩

theorem dirIdle_congr (hbacklog : t.mem.backlog = s.mem.backlog) (hdir : t.mem.dir = s.mem.dir) (h : s.dirIdle = true) :
    t.dirIdle = true := by
  rwa [dirIdle, hbacklog, hdir]

theorem dirLine_rests (h : s.dirIdle = true) (key : Nat) : (s.dirLine key).Rests :=
  tabGet_of_forall (p := DirLine.Rests) ⟨rfl, rfl⟩ (dirIdle_iff.mp h).2 key

theorem setDirLine_dirIdle (h : s.dirIdle = true) {key : Nat} {v : DirLine} (hv : v.Rests) :
    (s.setDirLine key v).dirIdle = true := by
  obtain ⟨hbacklog, hdir⟩ := dirIdle_iff.mp h
  refine dirIdle_iff.mpr ⟨hbacklog, fun e he => ?_⟩
  obtain rfl | he := mem_tabPut he
  · exact hv
  · exact hdir e he

/-- A change of every line that keeps them at rest keeps the directory so. -/
theorem tabMap_dirIdle {f : Nat → DirLine → DirLine} (h : s.dirIdle = true) (hbacklog : t.mem.backlog = s.mem.backlog)
    (hdir : t.mem.dir = tabMap {} s.mem.dir f) (hf : ∀ k v, v.Rests → (f k v).Rests) : t.dirIdle = true := by
  obtain ⟨hempty, hrests⟩ := dirIdle_iff.mp h
  refine dirIdle_iff.mpr ⟨hbacklog.trans hempty, fun e he => ?_⟩
  obtain ⟨a, ha, rfl⟩ := mem_tabMap (hdir ▸ he)
  exact hf _ _ (hrests a ha)

/-- Where nothing waits, there is nothing to serve. -/
theorem settleLines_of_idle (h : s.dirIdle = true) : s.settleLines = s := by
  obtain ⟨hbacklog, hdir⟩ := dirIdle_iff.mp h
  have hnone : s.mem.dir.filter (fun e => !e.2.waiting.isEmpty || e.2.evicting) = [] := by
    refine List.filter_eq_nil_iff.mpr fun e he => ?_
    obtain ⟨hwaiting, hevicting⟩ := hdir e he
    rw [hwaiting, hevicting]
    decide
  have hserve : s.serveAll = s := by rw [serveAll, hnone, List.foldl_nil]
  rw [settleLines, hserve, hbacklog]
  rfl

end

/-! ## The containment of a failed line (R322, R323) -/

/-- Between two states a failed line has been contained: the counts of failures, the counter lines and the count of group
re-encryptions stand, none of these has begun, and a directory at rest stays so. -/
structure Contained (s t : State) : Prop where
  fails : ∀ r, (t.region r).fails = (s.region r).fails
  failRegion : t.mem.failRegion = s.mem.failRegion
  failLevel : t.mem.failLevel = s.mem.failLevel
  failIndex : t.mem.failIndex = s.mem.failIndex
  eccUncorr : t.mem.eccUncorr = s.mem.eccUncorr
  lines : t.mem.lines = s.mem.lines
  reenc : t.mem.reenc = s.mem.reenc
  reencs : s.mem.reencs = [] → t.mem.reencs = []
  idle : s.dirIdle = true → t.dirIdle = true

namespace Contained

variable {s t u : State}

theorem trans (h : Contained s t) (h' : Contained t u) : Contained s u :=
  ⟨fun r => (h'.fails r).trans (h.fails r), h'.failRegion.trans h.failRegion, h'.failLevel.trans h.failLevel,
    h'.failIndex.trans h.failIndex, h'.eccUncorr.trans h.eccUncorr, h'.lines.trans h.lines, h'.reenc.trans h.reenc,
    fun hs => h'.reencs (h.reencs hs), fun hs => h'.idle (h.idle hs)⟩

theorem of_mem (h : t.mem = s.mem) : Contained s t :=
  ⟨fun r => by rw [region, region, h], by rw [h], by rw [h], by rw [h], by rw [h], by rw [h], by rw [h], fun hs => by rw [h, hs],
    dirIdle_congr (by rw [h]) (by rw [h])⟩

theorem refl (s : State) : Contained s s := .of_mem rfl

theorem ite {c : Prop} [Decidable c] (ht : Contained s t) (hu : Contained s u) : Contained s (if c then t else u) := by
  split
  · exact ht
  · exact hu

end Contained

section
variable (s : State)

theorem setRegion_contained (r : Nat) {v : Region} (h : v.fails = (s.region r).fails) : Contained s (s.setRegion r v) := by
  refine ⟨fun n => ?_, rfl, rfl, rfl, rfl, rfl, rfl, id, id⟩
  by_cases hn : r = n
  · subst hn
    rw [region, setRegion, tabGet_tabPut_same, h]
  · rw [region, setRegion, tabGet_tabPut_other _ _ _ hn]
    rfl

theorem stationTreeFails_contained : Contained s s.stationTreeFails := by
  have hclosed (u : State) : Contained u ((u.setRegion 16 { u.region 16 with closed := true }).emitOwn 0o123006 7 16 (memArg 16 0)) :=
    (setRegion_contained u 16 (v := { u.region 16 with closed := true }) rfl).trans (.of_mem rfl)
  exact (Contained.of_mem (pipelineQuarantine_unitsStand s).mem).trans
    (.ite (hclosed _) (setRegion_contained _ _ rfl))

theorem containFailure_contained (r k i : Nat) : Contained s (s.containFailure r k i) := by
  have habove : Contained s { s with mem := { s.mem with reencs := reencsAbove s.mem.reencs r k i } } :=
    ⟨fun _ => rfl, rfl, rfl, rfl, rfl, rfl, rfl, fun h => by rw [h]; rfl, id⟩
  have hbroken (u : State) : Contained u (if k = 0 then u else u.setRegion r { u.region r with broken := true }) :=
    .ite (.refl u) (setRegion_contained _ _ rfl)
  refine habove.trans (.ite ((hbroken _).trans (.of_mem (faultTenant_unitsStand ..).mem)) ?_)
  exact .ite (.of_mem rfl) (stationTreeFails_contained _)

theorem dropLineRequests_contained (r k i : Nat) : Contained s (s.dropLineRequests r k i) := by
  refine ⟨fun _ => rfl, rfl, rfl, rfl, rfl, rfl, rfl, id, fun h => tabMap_dirIdle
    (f := fun _ v => { v with waiting := v.waiting.filter (fun q => !needsLine q r k i) }) h rfl rfl fun _ v hv => ⟨?_, hv.evicting⟩⟩
  rw [hv.waiting]
  rfl

theorem quarantine_contained : Contained s s.quarantine :=
  .ite (.refl s) ⟨fun _ => rfl, rfl, rfl, rfl, rfl, rfl, rfl, id, id⟩

/-- The failure of a line is counted and named. -/
def failCounted (r k i : Nat) (ecc : Bool) : State :=
  let m := s.mem
  let s := { s with mem := { m with
    tagFails := if !ecc && decide (k = 0) then satInc 18 m.tagFails else m.tagFails
    ctrFails := if !ecc && decide (k ≠ 0) then satInc 18 m.ctrFails else m.ctrFails
    eccUncorr := if ecc then satInc 18 m.eccUncorr else m.eccUncorr
    failRegion := r, failLevel := k, failIndex := i } }
  let s := s.setRegion r { s.region r with fails := satInc 18 (s.region r).fails }
  (s.emitOwn (if ecc then 0o123003 else 0o124002) 7 r (memArg r k)).note (.rcd 6 0o10 (memRecord 1 r k ecc i 0))

/-- A security failure is remembered for 60 s, and the fourth puts memory in quarantine. -/
def failRemembered : State :=
  let l := s.mem.sec.filter (fun t => decide (s.now < t + secs 60)) ++ [s.now]
  let s := { s with mem := { s.mem with sec := l } }
  if l.length ≥ 4 then s.quarantine else s

theorem lineFails_eq (r k i : Nat) (ecc : Bool) : s.lineFails r k i ecc =
    if ecc then ((s.failCounted r k i ecc).containFailure r k i).dropLineRequests r k i
    else (((s.failCounted r k i ecc).containFailure r k i).dropLineRequests r k i).failRemembered := rfl

theorem failRemembered_contained : Contained s s.failRemembered := by
  have hsec (l : List Nat) : Contained s { s with mem := { s.mem with sec := l } } :=
    ⟨fun _ => rfl, rfl, rfl, rfl, rfl, rfl, rfl, id, id⟩
  exact (hsec _).trans (.ite (quarantine_contained _) (.refl _))

theorem lineFails_contained (r k i : Nat) (ecc : Bool) : Contained (s.failCounted r k i ecc) (s.lineFails r k i ecc) := by
  have hdropped := (containFailure_contained (s.failCounted r k i ecc) r k i).trans (dropLineRequests_contained _ r k i)
  rw [lineFails_eq]
  exact .ite hdropped (hdropped.trans (failRemembered_contained _))

end
end State

/-! ## Reads of lines (R322, R565) -/

section
variable {s : State} {region : Fin 17} {level : Fin 7} {index latency : Nat} {read : SdramLine}

/-- The read of a data line is an event of Milepost. -/
def State.readOccurs (s : State) (r k i : Nat) : State := if k = 0 then s.occur (s.blockOfLine r k i) 0o001 else s

/-- And one that took long is recorded. -/
def State.readNoted (s : State) (r k i latency : Nat) : State :=
  if us 1 < latency then (s.readOccurs r k i).note (.rcd 6 0o10 (State.memRecord 2 r k false i latency)) else s.readOccurs r k i

def State.readCounted (s : State) (r k i : Nat) (ecc : LineEcc) (latency : Nat) : State :=
  (s.countCorrected r k i ecc).readNoted r k i latency

/-- The line that was read is checked. -/
def State.readChecked (s : State) (r k i : Nat) (read : SdramLine) : State :=
  match s.trip.forced.find? (fun e => decide (e.1 = State.lineKey r k i)), s.lineRead r k i read with
  | some (key, ecc), _ =>
    { s with trip := { s.trip with forced := s.trip.forced.filter (fun e => decide (e.1 ≠ key)) } }.lineFails r k i ecc
  | none, some data => if k = 0 then s else s.walked r k i data
  | none, none => s.lineFails r k i (decide (read.ecc = LineEcc.uncorrectable))

def State.readStep (r k i : Nat) (read : SdramLine) (latency : Nat) (s : State) : State :=
  if s.memAccess r && s.hasLine r k i && !(s.region r).closed && decide (s.minorOver r k i ≠ 0) && s.readIssued r k i then
    (s.readCounted r k i read.ecc latency).readChecked r k i read
  else s

theorem exec_memoryReadComplete : exec (.memoryReadComplete region level index read latency) s =
    actUnit [.free, .once, .start, .image, .lanes, .tenants, .tp, .mem, .cway, .stn, .way, .promoted] s
      (State.readStep region.val level.val index read latency) := rfl

theorem State.readCounted_eq (s : State) (r k i : Nat) (ecc : LineEcc) (latency : Nat) : ∃ notes,
    s.readCounted r k i ecc latency =
      { s with mem := { s.mem with eccCorr := if ecc = .corrected then satInc 36 s.mem.eccCorr else s.mem.eccCorr }, notes := notes } := by
  have hnoted (u : State) : ∃ notes, u.readNoted r k i latency = { u with notes := notes } := by
    have hread : ∃ notes, u.readOccurs r k i = { u with notes := notes } := by
      unfold readOccurs
      split
      · exact ⟨_, rfl⟩
      · exact ⟨_, rfl⟩
    obtain ⟨_, hread⟩ := hread
    unfold readNoted
    rw [hread]
    split
    · exact ⟨_, rfl⟩
    · exact ⟨_, rfl⟩
  have hcorrected : ∃ notes, s.countCorrected r k i ecc =
      { s with mem := { s.mem with eccCorr := if ecc = .corrected then satInc 36 s.mem.eccCorr else s.mem.eccCorr }, notes := notes } := by
    unfold countCorrected
    split
    · exact ⟨_, rfl⟩
    · exact ⟨_, rfl⟩
  obtain ⟨_, hcounted⟩ := hcorrected
  obtain ⟨notes, hnoted⟩ := hnoted (s.countCorrected r k i ecc)
  exact ⟨notes, hnoted.trans (by rw [hcounted])⟩

section
variable {r k i : Nat}

/-- A read that is due is counted and checked, and no record decides it. -/
theorem State.readStep_of_due (h : s.readDue r k i = true) : ∃ u : State,
    State.readStep r k i read latency s.clear = u.readChecked r k i read ∧ u.trip.forced.all (fun e => decide (e.1 ≠ State.lineKey r k i))
      = true ∧ u.lineRead r k i read = s.lineRead r k i read ∧ u.mem = { s.mem with
        eccCorr := (if read.ecc = .corrected then satInc 36 s.mem.eccCorr else s.mem.eccCorr) } := by
  obtain ⟨hdue, hforced⟩ := Bool.and_eq_true_iff.mp h
  obtain ⟨notes, hcounted⟩ := s.clear.readCounted_eq r k i read.ecc latency
  refine ⟨_, (if_pos hdue).trans (congrArg (State.readChecked · r k i read) hcounted), hforced, rfl, rfl⟩

variable {u : State}

theorem State.readChecked_of_data (hforced : u.trip.forced.all (fun e => decide (e.1 ≠ State.lineKey r k i)) = true) {data : Nat}
    (hread : u.lineRead r k i read = some data) : u.readChecked r k i read = if k = 0 then u else u.walked r k i data := by
  have hnone : u.trip.forced.find? (fun e => decide (e.1 = State.lineKey r k i)) = none :=
    List.find?_eq_none.mpr fun e he => by simpa using List.all_eq_true.mp hforced e he
  unfold State.readChecked
  rw [hnone, hread]

theorem State.readChecked_of_none (hforced : u.trip.forced.all (fun e => decide (e.1 ≠ State.lineKey r k i)) = true)
    (hread : u.lineRead r k i read = none) :
    u.readChecked r k i read = u.lineFails r k i (decide (read.ecc = LineEcc.uncorrectable)) := by
  have hnone : u.trip.forced.find? (fun e => decide (e.1 = State.lineKey r k i)) = none :=
    List.find?_eq_none.mpr fun e he => by simpa using List.all_eq_true.mp hforced e he
  unfold State.readChecked
  rw [hnone, hread]

theorem State.enterCache_of_room {key : Nat} (h : u.mem.cached.length < cacheLines) :
    (u.enterCache key).2.mem.cached.contains key = true ∧ ∃ l, (u.enterCache key).2 = { u with mem := { u.mem with cached := l } } := by
  unfold State.enterCache
  dsimp only
  split
  · next hheld => exact ⟨hheld, _, rfl⟩
  · exact ⟨by simp, _, rfl⟩

/-- A counter line that has come is trusted, and no walk reads it any longer. -/
theorem State.walked_trusts {data : Nat} (hidle : u.dirIdle = true) (hroom : u.mem.cached.length < cacheLines) :
    (u.walked r k i data).ctrLine (State.lineKey r k i) = ctrOf data ∧
      (u.walked r k i data).mem.cached.contains (State.lineKey r k i) = true ∧
      (u.walked r k i data).mem.walks.contains (State.lineKey r k i) = false ∧ (u.walked r k i data).mem.regions = u.mem.regions := by
  obtain ⟨hheld, l, hentered⟩ := State.enterCache_of_room (key := State.lineKey r k i) (u := State.setCtrLine
    { u with mem := { u.mem with walks := u.mem.walks.filter (fun x => decide (x ≠ State.lineKey r k i)) } }
    (State.lineKey r k i) (ctrOf data)) hroom
  rw [show u.walked r k i data = _ from State.settleLines_of_idle (State.dirIdle_congr (s := u)
    (by rw [hentered]; rfl) (by rw [hentered]; rfl) hidle)]
  refine ⟨?_, hheld, ?_, ?_⟩
  · rw [hentered]
    exact tabGet_tabPut_same ..
  · rw [hentered]
    simp [State.setCtrLine]
  · rw [hentered]
    rfl

end

theorem memoryRead_counts {data : Nat} (hheld : s.unitsHeld = false) (hlevel : level.val = 0) (hdue : s.readDue region level index = true)
    (hread : s.lineRead region level index read = some data) :
    ∃ t, exec (.memoryReadComplete region level index read latency) s = .next t ∧ t.mem.regions = s.mem.regions ∧
      t.mem.eccCorr = (if read.ecc = .corrected then satInc 36 s.mem.eccCorr else s.mem.eccCorr) := by
  obtain ⟨u, hstep, hforced, hsame, hmem⟩ := State.readStep_of_due (read := read) (latency := latency) hdue
  rw [State.readChecked_of_data hforced (hsame.trans hread), if_pos hlevel] at hstep
  obtain ⟨t, ht, hpart⟩ := exec_reaches_unit exec_memoryReadComplete hheld hstep
  have htmem : t.mem = u.mem := hpart .mem (by decide) (by decide)
  rw [hmem] at htmem
  exact ⟨t, ht, by rw [htmem], by rw [htmem]⟩

theorem memoryRead_walks {data : Nat} (hheld : s.unitsHeld = false) (hlevel : level.val ≠ 0)
    (hdue : s.readDue region level index = true) (hidle : s.dirIdle = true) (hroom : s.mem.cached.length < cacheLines)
    (hread : s.lineRead region level index read = some data) :
    ∃ t, exec (.memoryReadComplete region level index read latency) s = .next t ∧
      t.ctrLine (State.lineKey region level index) = ctrOf data ∧ t.mem.cached.contains (State.lineKey region level index) = true ∧
      t.mem.walks.contains (State.lineKey region level index) = false ∧ t.mem.regions = s.mem.regions := by
  obtain ⟨u, hstep, hforced, hsame, hmem⟩ := State.readStep_of_due (read := read) (latency := latency) hdue
  rw [State.readChecked_of_data hforced (hsame.trans hread), if_neg hlevel] at hstep
  obtain ⟨t, ht, hpart⟩ := exec_reaches_unit exec_memoryReadComplete hheld hstep
  have htmem : t.mem = (u.walked region level index data).mem := hpart .mem (by decide) (by decide)
  obtain ⟨hline, hcached, hwalks, hregions⟩ := State.walked_trusts (u := u) (r := region.val) (k := level.val) (i := index)
    (data := data) (State.dirIdle_congr (by rw [hmem]) (by rw [hmem]) hidle) (by rw [hmem]; exact hroom)
  rw [hmem] at hregions
  refine ⟨t, ht, ?_⟩
  rw [State.ctrLine, htmem]
  exact ⟨hline, hcached, hwalks, hregions⟩

theorem memoryRead_fails (hheld : s.unitsHeld = false) (hdue : s.readDue region level index = true)
    (hread : s.lineRead region level index read = none) :
    ∃ t, exec (.memoryReadComplete region level index read latency) s = .next t ∧
      (t.region region).fails = satInc 18 (s.region region).fails ∧
      (t.mem.failRegion, t.mem.failLevel, t.mem.failIndex) = (region.val, level.val, index) ∧
      t.mem.eccUncorr = (if read.ecc = .uncorrectable then satInc 18 s.mem.eccUncorr else s.mem.eccUncorr) := by
  obtain ⟨u, hstep, hforced, hsame, hmem⟩ := State.readStep_of_due (read := read) (latency := latency) hdue
  rw [State.readChecked_of_none hforced (hsame.trans hread)] at hstep
  obtain ⟨t, ht, hpart⟩ := exec_reaches_unit exec_memoryReadComplete hheld hstep
  have htmem : t.mem = _ := hpart .mem (by decide) (by decide)
  have hcontained := u.lineFails_contained region.val level.val index (decide (read.ecc = LineEcc.uncorrectable))
  refine ⟨t, ht, ?_, ?_, ?_⟩
  · rw [State.region, htmem]
    refine (hcontained.fails region.val).trans ?_
    refine (congrArg Region.fails (tabGet_tabPut_same ..) :).trans ?_
    show satInc 18 (u.region region).fails = _
    rw [State.region, hmem]
    rfl
  · rw [htmem, hcontained.failRegion, hcontained.failLevel, hcontained.failIndex]
    rfl
  · rw [htmem, hcontained.eccUncorr]
    show (if decide (read.ecc = LineEcc.uncorrectable) = true then satInc 18 u.mem.eccUncorr else u.mem.eccUncorr) = _
    simp only [hmem, decide_eq_true_eq]

end
end Sys2Proof.Machine

namespace Sys2Proof.Machine

/-! ## Group re-encryption (R318) -/

namespace State

/-- Between two states counter lines and the count of group re-encryptions stand, none of these has begun, and a directory at rest
stays so. -/
structure LinesStand (s t : State) : Prop where
  lines : t.mem.lines = s.mem.lines
  reenc : t.mem.reenc = s.mem.reenc
  reencs : s.mem.reencs = [] → t.mem.reencs = []
  idle : s.dirIdle = true → t.dirIdle = true

theorem LinesStand.trans {s t u : State} (h : LinesStand s t) (h' : LinesStand t u) : LinesStand s u :=
  ⟨h'.lines.trans h.lines, h'.reenc.trans h.reenc, fun hs => h'.reencs (h.reencs hs), fun hs => h'.idle (h.idle hs)⟩

section
variable (s : State) {r k i : Nat}

theorem lineFails_linesStand (r k i : Nat) (ecc : Bool) : LinesStand s (s.lineFails r k i ecc) := by
  have hcontained := s.lineFails_contained r k i ecc
  exact .trans (t := s.failCounted r k i ecc) ⟨rfl, rfl, id, id⟩
    ⟨hcontained.lines, hcontained.reenc, hcontained.reencs, hcontained.idle⟩

theorem lineStore_unitsStand (r k i plain : Nat) : UnitsStand s (s.lineStore r k i plain) := by
  unfold lineStore
  dsimp only
  split
  · exact ⟨rfl, rfl⟩
  · exact .refl s

/-- What was given for a child of the group. -/
def siblingGiven (siblings : List (Fin 24 × SdramLine)) (m : Nat) : Option SdramLine :=
  (siblings.find? (fun f => decide (f.1.val = m))).map Prod.snd

/-- The children of the group whose minors are not 0, but for the one whose write began it. -/
def siblingsOf (v : CtrLine) (e : Reenc) : List Nat := (v.minors.map Prod.fst).filter (fun m => decide (m ≠ e.child))

/-- The plaintext of a child. -/
def siblingPlain (r k index : Nat) (siblings : List (Fin 24 × SdramLine)) (m : Nat) : Option Nat :=
  let plain := fun (m : Nat) => (siblingGiven siblings m).bind (s.lineRead r (k - 1) (24 * index + m))
  if k = 1 then plain m else
    if s.mem.cached.contains (State.lineKey r (k - 1) (24 * index + m)) then some (s.ctrPlain r (k - 1) (24 * index + m))
    else plain m

/-- The group's counter line under its next OVERFLOWS. -/
def regroupedLine (key : Nat) (e : Reenc) (bad : List Nat) : CtrLine :=
  let v := s.ctrLine key
  { overflows := v.overflows + 1
    minors := tabPut 0 (tabMap 0 v.minors (fun m _ => if bad.contains m then 0 else 1)) e.child 1 }

def regroupedDirty (r k index : Nat) (e : Reenc) (bad : List Nat) : State :=
  let s := s.setCtrLine (lineKey r k index) (s.regroupedLine (lineKey r k index) e bad)
  if k < regionDepth s.memBody r then s.setDirty (lineKey r k index) true else s

/-- The children are stored under it. -/
def regroupedStored (r k index : Nat) (e : Reenc) (others : List Nat) (own : Nat → Option Nat) : State :=
  let s := others.foldl (fun s m => match own m with
    | some data => s.lineStore r (k - 1) (24 * index + m) data
    | none => s) s
  let c := 24 * index + e.child
  s.lineStore r (k - 1) c (e.data.getD (s.ctrPlain r (k - 1) c))

/-- The re-encryption is counted. -/
def regroupedCounted (r k index : Nat) (e : Reenc) : State :=
  let s := { s with mem := { s.mem with
    reencs := s.mem.reencs.filter (fun d => decide (d ≠ e)), reenc := satInc 36 s.mem.reenc } }
  (s.setRegion r { s.region r with reenc := satInc 18 (s.region r).reenc }).occur (s.blockOfLine r k index) 0o005

/-- The group re-encrypted. -/
def regrouped (r k index : Nat) (e : Reenc) (others bad : List Nat) (own : Nat → Option Nat) : State :=
  ((s.regroupedDirty r k index e bad).regroupedStored r k index e others own).regroupedCounted r k index e

/-- The children that failed their checks. -/
def siblingsFail (r k index : Nat) (siblings : List (Fin 24 × SdramLine)) (bad : List Nat) : State :=
  bad.foldl (fun s m =>
    if s.memAccess r then s.lineFails r (k - 1) (24 * index + m)
      (decide ((siblingGiven siblings m).map SdramLine.ecc = some LineEcc.uncorrectable))
    else s) s

def reencEnds (r k index : Nat) (siblings : List (Fin 24 × SdramLine)) (e : Reenc) : State :=
  let own := s.siblingPlain r k index siblings
  let others := siblingsOf (s.ctrLine (State.lineKey r k index)) e
  let bad := others.filter (fun m => (own m).isNone)
  ((s.regrouped r k index e others bad own).siblingsFail r k index siblings bad).settleLines

def reencStep (r k index : Nat) (siblings : List (Fin 24 × SdramLine)) (s : State) : State :=
  match s.mem.reencs.find? (fun e => decide (e.region = r ∧ e.level = k ∧ e.index = index)) with
  | none => s
  | some e =>
    if !(siblingsOf (s.ctrLine (State.lineKey r k index)) e).all (fun m => (siblingGiven siblings m).isSome) then s
    else s.reencEnds r k index siblings e

theorem regroupedDirty_mem (r k index : Nat) (e : Reenc) (bad : List Nat) : ∃ dirty, (s.regroupedDirty r k index e bad).mem =
    { s.mem with
      lines := tabPut {} s.mem.lines (lineKey r k index) (s.regroupedLine (lineKey r k index) e bad)
      dirty := dirty } := by
  unfold regroupedDirty
  dsimp only
  split
  · exact ⟨_, rfl⟩
  · exact ⟨_, rfl⟩

theorem regroupedStored_unitsStand (r k index : Nat) (e : Reenc) (others : List Nat) (own : Nat → Option Nat) :
    UnitsStand s (s.regroupedStored r k index e others own) := by
  refine .trans (.foldl (fun u m => ?_) _ _) (lineStore_unitsStand ..)
  split
  · exact lineStore_unitsStand ..
  · exact .refl u

/-- The group's line takes its place, and its re-encryption is over. -/
theorem regrouped_lines (r k index : Nat) (e : Reenc) (others bad : List Nat) (own : Nat → Option Nat) :
    (s.regrouped r k index e others bad own).ctrLine (lineKey r k index) = s.regroupedLine (lineKey r k index) e bad ∧
    (s.regrouped r k index e others bad own).mem.reencs = s.mem.reencs.filter (fun d => decide (d ≠ e)) ∧
    (s.regrouped r k index e others bad own).mem.reenc = satInc 36 s.mem.reenc ∧
    (s.dirIdle = true → (s.regrouped r k index e others bad own).dirIdle = true) := by
  obtain ⟨d, hdirty⟩ := s.regroupedDirty_mem r k index e bad
  have hmem := (regroupedStored_unitsStand (s.regroupedDirty r k index e bad) r k index e others own).mem.trans hdirty
  have hcounted (u : State) : (u.regroupedCounted r k index e).mem.lines = u.mem.lines ∧
      (u.regroupedCounted r k index e).mem.reencs = u.mem.reencs.filter (fun d => decide (d ≠ e)) ∧
      (u.regroupedCounted r k index e).mem.reenc = satInc 36 u.mem.reenc ∧
      (u.dirIdle = true → (u.regroupedCounted r k index e).dirIdle = true) := ⟨rfl, rfl, rfl, id⟩
  obtain ⟨hlines, hreencs, hreenc, hidle⟩ := hcounted ((s.regroupedDirty r k index e bad).regroupedStored r k index e others own)
  rw [hmem] at hlines hreencs hreenc
  refine ⟨?_, hreencs, hreenc, fun h => hidle (dirIdle_congr (by rw [hmem]) (by rw [hmem]) h)⟩
  rw [ctrLine, regrouped, hlines]
  exact tabGet_tabPut_same ({} : CtrLine) (s.regroupedLine (lineKey r k index) e bad) s.mem.lines (lineKey r k index)

theorem siblingsFail_linesStand (r k index : Nat) (siblings : List (Fin 24 × SdramLine)) (bad : List Nat) :
    LinesStand s (s.siblingsFail r k index siblings bad) :=
  List.foldlRecOn bad _ (motive := LinesStand s) ⟨rfl, rfl, id, id⟩ fun u hu m _ => hu.trans (by
    split
    · exact lineFails_linesStand ..
    · exact ⟨rfl, rfl, id, id⟩)

theorem reencEnds_completes {index : Nat} {siblings : List (Fin 24 × SdramLine)} {e : Reenc} (hidle : s.dirIdle = true)
    (honly : s.mem.reencs = [e]) :
    (s.reencEnds r k index siblings e).mem.reencs = [] ∧
    ((s.reencEnds r k index siblings e).ctrLine (lineKey r k index)).overflows = (s.ctrLine (lineKey r k index)).overflows + 1 ∧
    tabGet 0 ((s.reencEnds r k index siblings e).ctrLine (lineKey r k index)).minors e.child = 1 ∧
    (s.reencEnds r k index siblings e).mem.reenc = satInc 36 s.mem.reenc := by
  have hnone : s.mem.reencs.filter (fun d => decide (d ≠ e)) = [] := by simp [honly]
  unfold reencEnds
  dsimp only
  generalize siblingsOf (s.ctrLine (lineKey r k index)) e = others
  generalize others.filter (fun m => (s.siblingPlain r k index siblings m).isNone) = bad
  obtain ⟨hline, hreencs, hreenc, hregrouped⟩ := s.regrouped_lines r k index e others bad (s.siblingPlain r k index siblings)
  have hfailed := siblingsFail_linesStand (s.regrouped r k index e others bad (s.siblingPlain r k index siblings)) r k index
    siblings bad
  rw [settleLines_of_idle (hfailed.idle (hregrouped hidle))]
  rw [ctrLine, hfailed.lines, hfailed.reenc, hreenc]
  refine ⟨hfailed.reencs (hreencs.trans hnone), ?_, ?_, rfl⟩
  · rw [show tabGet _ _ _ = _ from hline]
    rfl
  · rw [show tabGet _ _ _ = _ from hline]
    exact tabGet_tabPut_same 0 1 _ e.child

/-- A re-encryption that runs ends when all the children of its group have been read. -/
theorem reencStep_ends {index : Nat} {siblings : List (Fin 24 × SdramLine)} {e : Reenc} (honly : s.mem.reencs = [e])
    (hnamed : (e.region, e.level, e.index) = (r, k, index)) (hgiven : (s.ctrLine (lineKey r k index)).minors.all
      (fun m => decide (m.1 = e.child) || siblings.any (fun b => decide (b.1.val = m.1))) = true) :
    reencStep r k index siblings s = s.reencEnds r k index siblings e := by
  simp only [Prod.mk.injEq] at hnamed
  have hfind : s.mem.reencs.find? (fun e => decide (e.region = r ∧ e.level = k ∧ e.index = index)) = some e := by
    rw [honly, List.find?_cons_of_pos (by simpa using hnamed)]
  have hall : (siblingsOf (s.ctrLine (lineKey r k index)) e).all (fun m => (siblingGiven siblings m).isSome) = true := by
    refine List.all_eq_true.mpr fun m hm => ?_
    obtain ⟨hmem, hother⟩ := List.mem_filter.mp hm
    obtain ⟨a, ha, rfl⟩ := List.mem_map.mp hmem
    have hread := (Bool.or_eq_true_iff.mp (List.all_eq_true.mp hgiven a ha)).resolve_left (by simpa using hother)
    rw [siblingGiven, Option.isSome_map, List.find?_isSome]
    simpa using hread
  unfold reencStep
  rw [hfind]
  dsimp only
  rw [hall]
  rfl

end
end State

theorem exec_reencryptionComplete {region : Fin 17} {level : Fin 8} {index : Nat} {siblings : List (Fin 24 × SdramLine)} {s : State} :
    exec (.reencryptionComplete region level index siblings) s =
      actUnit [.free, .once, .start, .image, .lanes, .tenants, .tp, .mem, .cway, .stn, .way, .promoted] s
        (State.reencStep region.val level.val index siblings) := rfl

theorem reencryption_ends {region : Fin 17} {level : Fin 8} {index : Nat} {e : Reenc} {siblings : List (Fin 24 × SdramLine)}
    {s : State} (hheld : s.unitsHeld = false) (hidle : s.dirIdle = true) (honly : s.mem.reencs = [e])
    (hnamed : (e.region, e.level, e.index) = (region.val, level.val, index)) (hgiven : (s.ctrLine
      (State.lineKey region level index)).minors.all (fun m => decide (m.1 = e.child) || siblings.any (fun b => decide (b.1.val =
      m.1))) = true) :
    ∃ t, exec (.reencryptionComplete region level index siblings) s = .next t ∧ t.mem.reencs = [] ∧
      (t.ctrLine (State.lineKey region level index)).overflows = (s.ctrLine (State.lineKey region level index)).overflows + 1 ∧
      tabGet 0 (t.ctrLine (State.lineKey region level index)).minors e.child = 1 ∧ t.mem.reenc = satInc 36 s.mem.reenc := by
  obtain ⟨t, ht, hpart⟩ := exec_reaches_unit exec_reencryptionComplete hheld
    (s.clear.reencStep_ends (siblings := siblings) honly hnamed hgiven)
  have htmem : t.mem = _ := hpart .mem (by decide) (by decide)
  refine ⟨t, ht, ?_⟩
  rw [State.ctrLine, htmem]
  exact s.clear.reencEnds_completes hidle honly

end Sys2Proof.Machine

namespace Sys2Proof.Machine

/-! ## Region resets (R317) -/

namespace State

section
variable (s : State)

/-- The region's lines are gone; in quarantine they stand. -/
def regionEnds (r : Nat) : State :=
  (if s.mem.quarantined then s.setRegion r { s.region r with resetting := false } else s.clearRegion r ((s.region r).epoch + 1)).settleLines

/-- What waited for the region goes on. -/
def regionReleases (r : Nat) : State :=
  if r < 16 then
    match (s.tenant r).reset with
    | some t => if t.phase = ResetPhase.region then s.finishReset r t false else s
    | none => s
  else
    let s := if s.mem.quarantined then s else { s with stn := { s.stn with contexts := [], failedLine := none } }
    s.pipelineServe (fun i => (s.stationKey i.station).isSome)

def regionResetStep (r : Nat) (s : State) : State :=
  if !(s.region r).resetting || s.mem.reencs.any (fun e => decide (e.region = r)) then s
  else (s.regionEnds r).regionReleases r

theorem regionReleases_unitsStand (r : Nat) : UnitsStand s (s.regionReleases r) := by
  unfold regionReleases
  split
  · split
    · exact .ite (finishReset_unitsStand ..) (.refl s)
    · exact .refl s
  · exact .trans (.ite (.refl s) (setStn_unitsStand ..)) (pipelineServe_unitsStand ..)

variable {s} {r : Nat}

theorem regionEnds_of_quarantined (hidle : s.dirIdle = true) (h : s.mem.quarantined = true) :
    s.regionEnds r = s.setRegion r { s.region r with resetting := false } := by
  unfold regionEnds
  rw [if_pos h]
  exact settleLines_of_idle hidle

/-- A region that is cleared leaves the directory at rest. -/
theorem clearRegion_dirIdle (epoch : Nat) (h : s.dirIdle = true) : (s.clearRegion r epoch).dirIdle = true := by
  refine tabMap_dirIdle (f := fun k d => if keyRegion k = r then { waiting := d.waiting } else d) h rfl rfl fun _ v hv => ?_
  split
  · exact ⟨hv.waiting, rfl⟩
  · exact hv

theorem regionEnds_of_clear (hidle : s.dirIdle = true) (h : s.mem.quarantined = false) :
    s.regionEnds r = s.clearRegion r ((s.region r).epoch + 1) := by
  unfold regionEnds
  rw [if_neg (Bool.eq_false_iff.mp h)]
  exact settleLines_of_idle (clearRegion_dirIdle _ hidle)

/-- The reset is over, and but in quarantine it has raised EPOCH. -/
theorem regionEnds_region (hidle : s.dirIdle = true) : ((s.regionEnds r).region r).resetting = false ∧
    ((s.regionEnds r).region r).epoch = if s.mem.quarantined then (s.region r).epoch else (s.region r).epoch + 1 := by
  have hcleared (epoch : Nat) : (s.clearRegion r epoch).region r =
      (s.setRegion r { s.region r with epoch := epoch, resetting := false, broken := false }).region r := rfl
  cases h : s.mem.quarantined with
  | true =>
    rw [regionEnds_of_quarantined hidle h, region_setRegion_same]
    exact ⟨rfl, rfl⟩
  | false =>
    rw [regionEnds_of_clear hidle h, hcleared, region_setRegion_same]
    exact ⟨rfl, rfl⟩

theorem regionEnds_stands (hidle : s.dirIdle = true) : (s.regionEnds r).tenants = s.tenants ∧ (s.regionEnds r).keys = s.keys ∧
    (s.regionEnds r).stn = s.stn ∧ (s.regionEnds r).mem.quarantined = s.mem.quarantined := by
  cases h : s.mem.quarantined with
  | true =>
    rw [regionEnds_of_quarantined hidle h]
    exact ⟨rfl, rfl, rfl, h⟩
  | false =>
    rw [regionEnds_of_clear hidle h]
    exact ⟨rfl, rfl, rfl, h⟩

theorem regionReleases_of_tenant {t : TenReset} (hr : r < 16) (hreset : (s.tenant r).reset = some t) (hphase : t.phase = .region) :
    s.regionReleases r = s.finishReset r t false := by
  unfold regionReleases
  rw [if_pos hr, hreset]
  exact if_pos hphase

theorem settleDirectory_contexts : s.settleDirectory.stn.contexts = s.stn.contexts := by
  have hsettles (u : State) : (u.takePending 0o021 0).settleApply.stn = u.stn := by
    rw [show (u.takePending 0o021 0).settleApply = _ from (takePending_settles u 0o021 0).trans (settleApply_settles _)]
  unfold settleDirectory
  dsimp only
  split
  · rw [hsettles]
  · rfl

theorem pipelineServe_of_empty (h : s.stn.pipeline = []) (p : StnItem → Bool) :
    (s.pipelineServe p).stn.contexts = s.stn.contexts := by
  unfold pipelineServe
  rw [h]
  exact settleDirectory_contexts

theorem regionReleases_of_stations (hr : ¬ r < 16) (hquarantined : s.mem.quarantined = false) (hpipeline : s.stn.pipeline = []) :
    (s.regionReleases r).stn.contexts = [] := by
  unfold regionReleases
  rw [if_neg hr, if_neg (Bool.eq_false_iff.mp hquarantined)]
  exact pipelineServe_of_empty (s := { s with stn := { s.stn with contexts := [], failedLine := none } }) hpipeline _

/-- A reset that ends leaves the tenant HEALTHY, or FENCED where it fences. -/
theorem finishReset_leaves {t : TenReset} (hslot : (s.slot (slotMem r)).state ≠ .fault) :
    ((s.finishReset r t false).tenant r).reset = none ∧
      ((s.finishReset r t false).tenant r).state = if t.fences then .fenced else .healthy := by
  have hentered (u : State) (st : TenState) (v : Tenant) (e a : Nat) (hv : v.reset = none) :
      ((((u.tenEnter r st v).emit e 1 r a).endAlarm 0o062004 1 r).tenant r).reset = none ∧
        ((((u.tenEnter r st v).emit e 1 r a).endAlarm 0o062004 1 r).tenant r).state = st := by
    have hstands := (emit_stands (u.tenEnter r st v) e 1 r a).trans (.of_tenants (endAlarm_tenants _ 0o062004 1 r))
    rw [hstands.reset, hstands.state, tenEnter, tenant_setTenant_same]
    exact ⟨hv, rfl⟩
  have hkeys (u : State) (v : Tenant) (dur : Nat) : (u.resetLeft r t false v dur).keys = u.keys := by
    unfold resetLeft
    split
    · exact (endAlarm_keys ..).trans ((emit_keys ..).trans (setTenant_keys ..))
    · exact (endAlarm_keys ..).trans ((emit_keys ..).trans (setTenant_keys ..))
  have hleft (v : Tenant) (dur : Nat) (hv : v.reset = none) :
      (((s.setTenant r v).resetLeft r t false v dur).tenant r).reset = none ∧
      (((s.setTenant r v).resetLeft r t false v dur).tenant r).state = if t.fences then .fenced else .healthy := by
    unfold resetLeft
    rw [Bool.or_false]
    split
    · exact hentered _ _ _ _ _ hv
    · exact hentered _ _ _ _ _ hv
  rw [finishReset_eq]
  dsimp only
  rw [if_neg]
  · exact hleft _ _ rfl
  · intro hfault
    refine hslot ?_
    have h := of_decide_eq_true (Bool.and_eq_true_iff.mp hfault).1
    rwa [slot, hkeys] at h

end
end State

section
variable {region : Fin 17} {s : State}

theorem exec_regionResetComplete : exec (.regionResetComplete region) s =
    actUnit [.free, .once, .image, .keys, .lanes, .tenants, .tp, .mem, .cway, .stn, .way, .promoted] s
      (State.regionResetStep region.val) := rfl

/-- A region reset that nothing holds up ends. -/
theorem regionReset_ends (hheld : s.unitsHeld = false) (hidle : s.dirIdle = true) (hresetting : (s.region region).resetting = true)
    (hreencs : s.mem.reencs.any (fun e => decide (e.region = region.val)) = false) :
    ∃ t, exec (.regionResetComplete region) s = .next t ∧ (t.region region).resetting = false ∧
      (t.region region).epoch = (if s.mem.quarantined then (s.region region).epoch else (s.region region).epoch + 1) ∧
      t.tenants = ((s.clear.regionEnds region).regionReleases region).tenants ∧
      t.stn = ((s.clear.regionEnds region).regionReleases region).stn := by
  have hends : ¬ (!(s.region region).resetting || s.mem.reencs.any (fun e => decide (e.region = region.val))) = true := by
    rw [hresetting, hreencs]
    decide
  obtain ⟨t, ht, hpart⟩ := exec_reaches_unit exec_regionResetComplete hheld (if_neg hends)
  have hmem : t.mem = (s.clear.regionEnds region).mem :=
    (hpart .mem (by decide) (by decide) : _ = _).trans (State.regionReleases_unitsStand ..).mem
  obtain ⟨hover, hepoch⟩ := State.regionEnds_region (s := s.clear) (r := region) hidle
  refine ⟨t, ht, ?_, ?_, hpart .tenants (by decide) (by decide), hpart .stn (by decide) (by decide)⟩
  · rw [State.region, hmem]
    exact hover
  · rw [State.region, hmem]
    exact hepoch

theorem regionReset_of_tenant {r : TenReset} (hheld : s.unitsHeld = false) (hidle : s.dirIdle = true) (hregion : region.val < 16)
    (hresetting : (s.region region).resetting = true) (hreencs : s.mem.reencs.any (fun e => decide (e.region = region.val)) = false)
    (hquarantined : s.mem.quarantined = false) (hreset : (s.tenant region).reset = some r) (hphase : r.phase = .region)
    (hslot : (s.slot (slotMem region)).state ≠ .fault) :
    ∃ t, exec (.regionResetComplete region) s = .next t ∧ (t.region region).epoch = (s.region region).epoch + 1 ∧
      (t.region region).resetting = false ∧ (t.tenant region).reset = none ∧
      (t.tenant region).state = if r.fences then .fenced else .healthy := by
  obtain ⟨t, ht, hover, hepoch, htenants, -⟩ := regionReset_ends hheld hidle hresetting hreencs
  obtain ⟨hends, hkeys, -, -⟩ := State.regionEnds_stands (s := s.clear) (r := region) hidle
  have hfinish := State.regionReleases_of_tenant (s := s.clear.regionEnds region) hregion
    (by rw [State.tenant, hends]; exact hreset) hphase
  rw [hquarantined] at hepoch
  rw [hfinish] at htenants
  refine ⟨t, ht, hepoch, hover, ?_⟩
  rw [State.tenant, htenants]
  exact State.finishReset_leaves (by rw [State.slot, hkeys]; exact hslot)

theorem regionReset_of_stations (hheld : s.unitsHeld = false) (hidle : s.dirIdle = true) (hregion : ¬ region.val < 16)
    (hresetting : (s.region region).resetting = true) (hreencs : s.mem.reencs.any (fun e => decide (e.region = region.val)) = false)
    (hquarantined : s.mem.quarantined = false) (hpipeline : s.stn.pipeline = []) :
    ∃ t, exec (.regionResetComplete region) s = .next t ∧ (t.region region).epoch = (s.region region).epoch + 1 ∧
      (t.region region).resetting = false ∧ t.stn.contexts = [] := by
  obtain ⟨t, ht, hover, hepoch, -, hstn⟩ := regionReset_ends hheld hidle hresetting hreencs
  obtain ⟨-, -, hpipe, hquiet⟩ := State.regionEnds_stands (s := s.clear) (r := region) hidle
  rw [hquarantined] at hepoch
  refine ⟨t, ht, hepoch, hover, ?_⟩
  rw [hstn]
  exact State.regionReleases_of_stations hregion (hquiet.trans hquarantined) (by rw [hpipe]; exact hpipeline)

end
end Sys2Proof.Machine

namespace Sys2Proof.Machine

/-! ## Failures grow old (R328) -/

section
variable {s : State}

/-- The oldest failure is forgotten. -/
def State.secForgets (s : State) (y : Nat) (rest : List Nat) : State := { s.upTo y with mem := { s.mem with sec := rest } }

def State.secStep (s : State) : State :=
  match s.mem.sec with
  | t :: rest => s.secForgets (t + secs 60) rest
  | [] => s

theorem exec_sec60sExpiry (s : State) : exec .sec60sExpiry s = actUnit [.now, .free, .tp, .mem] s State.secStep := rfl

theorem State.secStep_of_cons {x : Nat} {rest : List Nat} (h : s.mem.sec = x :: rest) :
    s.secStep = s.secForgets (x + secs 60) rest := by
  unfold State.secStep
  rw [h]

theorem State.secForgets_parts (s : State) (y : Nat) (rest : List Nat) :
    (s.secForgets y rest).mem = { s.mem with sec := rest } ∧ (s.secForgets y rest).now = max s.now y := ⟨rfl, State.upTo_now ..⟩

theorem secExpiry_forgets {x : Nat} {rest : List Nat} (hheld : s.unitsHeld = false) (h : s.mem.sec = x :: rest) :
    ∃ t, exec .sec60sExpiry s = .next t ∧ t.mem = { s.mem with sec := rest } ∧ t.now = max s.now (x + secs 60) := by
  obtain ⟨t, ht, hpart⟩ := exec_reaches_unit (exec_sec60sExpiry s) hheld (State.secStep_of_cons (s := s.clear) h)
  obtain ⟨hmem, hnow⟩ := s.clear.secForgets_parts (x + secs 60) rest
  exact ⟨t, ht, (hpart .mem (by decide) (by decide) : _ = _).trans hmem, (hpart .now (by decide) (by decide) : _ = _).trans hnow⟩

end

/-! ## The DAP (R324, Table 13.9) -/

namespace State

section
variable (s : State)

/-- What the custody state lets the DAP reach. -/
def dapMay (r : Nat) (write : Option (BitVec 512)) : Bool :=
  match s.cus.startState with
  | .analysis => true
  | .field => decide (r = 18) && write.isNone
  | _ => false

/-- A refused access. -/
def dapBlocked : State :=
  let s := ({ s with mem := { s.mem with blocked := satInc 18 s.mem.blocked } }).send (.dap none)
  if s.cus.startState = LcState.field then s.emitOnce 0o124005 0 0 0 else s

def dapStep (r line : Nat) (write : Option (BitVec 512)) (raw : SdramLine) (s : State) : State :=
  if !s.dapMay r write then s.dapBlocked
  else if !s.memReady || s.mem.quarantined || decide (s.regionLines r ≤ line) then s.send (.dap none)
  else if r = 17 ∨ r = 18 then s.dapRaw r line (write.map BitVec.toNat) raw
  else s.dapTree r line (write.map BitVec.toNat) raw

theorem emitOnceKey_sent (key e kind number arg : Nat) : (s.emitOnceKey key e kind number arg).sent = s.sent := by
  unfold emitOnceKey
  dsimp only
  split
  · rfl
  · exact emit_sent ..

theorem dapBlocked_blocks : s.dapBlocked.mem = { s.mem with blocked := satInc 18 s.mem.blocked } ∧
    Sent.dap none ∈ s.dapBlocked.sent := by
  unfold dapBlocked
  dsimp only
  split
  · exact ⟨(emitOnceKey_unitsStand ..).mem, by rw [emitOnce, emitOnceKey_sent]; exact mem_send_sent ..⟩
  · exact ⟨rfl, mem_send_sent ..⟩

variable {s} {r line : Nat} {write : Option (BitVec 512)} {raw : SdramLine}

theorem dapStep_of_raw (hmay : s.dapMay r write = true) (hready : s.memReady = true)
    (hquarantined : s.mem.quarantined = false) (hline : line < s.regionLines r) (hr : r = 17 ∨ r = 18) :
    dapStep r line write raw s = s.dapRaw r line (write.map BitVec.toNat) raw := by
  unfold dapStep
  rw [hmay, hready, hquarantined, decide_eq_false (Nat.not_le.mpr hline), if_neg (by decide), if_neg (by decide), if_pos hr]

theorem dapStep_of_tree (hmay : s.dapMay r write = true) (hready : s.memReady = true)
    (hquarantined : s.mem.quarantined = false) (hline : line < s.regionLines r) (hr : r < 17) :
    dapStep r line write raw s = s.dapTree r line (write.map BitVec.toNat) raw := by
  unfold dapStep
  rw [hmay, hready, hquarantined, decide_eq_false (Nat.not_le.mpr hline), if_neg (by decide), if_neg (by decide),
    if_neg (by omega)]

theorem dapRaw_reads (hecc : raw.ecc ≠ .uncorrectable) (hheld : tabGet none s.trip.region line = none) :
    s.dapRaw r line none raw = s.send (.dap (some raw.data.toNat)) := by
  have hnone : (if r = 17 then tabGet none s.trip.region line else none) = none := by rw [hheld, ite_self]
  unfold dapRaw
  dsimp only
  rw [hnone, if_neg hecc]
  rfl

theorem dapRaw_writes (hr : r = 17) (data : Nat) : ∃ l, s.dapRaw r line (some data) raw =
    { s with trip := { s.trip with region := tabPut none s.trip.region line (some data) }, sent := l } ∧ Sent.dap (some 0) ∈ l := by
  unfold dapRaw
  dsimp only
  rw [if_pos hr]
  exact ⟨_, rfl, List.mem_append_right _ (List.mem_singleton.mpr rfl)⟩

theorem dapMay_of_analysis (h : s.cus.startState = .analysis) (w : Option (BitVec 512)) : s.dapMay r w = true := by
  unfold dapMay
  rw [h]

theorem dapMay_of_field (h : s.cus.startState = .field) (hr : r = 18) : s.dapMay r none = true := by
  unfold dapMay
  rw [h, hr]
  rfl

theorem dapMay_eq_false {w : Option (BitVec 512)} (hanalysis : s.cus.startState ≠ .analysis)
    (hfield : s.cus.startState = .field → r ≠ 18 ∨ w.isSome = true) : s.dapMay r w = false := by
  unfold dapMay
  split
  · next h => exact absurd h hanalysis
  · next h =>
    obtain hr | hw := hfield h
    · rw [decide_eq_false hr]
      rfl
    · rw [Option.isSome_iff_exists] at hw
      obtain ⟨data, rfl⟩ := hw
      exact Bool.and_false _
  · rfl

/-- What the engine gives for a line that was written. -/
theorem dapTree_reads (hresetting : (s.region r).resetting = false) (hminor : s.minorOver r 0 line ≠ 0) :
    Sent.dap (s.lineRead r 0 line raw) ∈ (s.dapTree r line none raw).sent := by
  have hread : (s.countCorrected r 0 line raw.ecc).lineRead r 0 line raw = s.lineRead r 0 line raw := by
    unfold countCorrected
    split
    · rfl
    · rfl
  unfold dapTree
  dsimp only
  rw [hresetting, decide_eq_false hminor, if_neg (by decide), hread]
  split
  · next h =>
    rw [h]
    exact mem_send_sent ..
  · next h =>
    rw [h]
    exact mem_send_sent ..

/-- A write, and a read of a line that was never written, are answered at once. -/
theorem dapTree_answers {w : Option Nat} (h : w = none → s.minorOver r 0 line = 0) :
    Sent.dap (some 0) ∈ (s.dapTree r line w raw).sent := by
  unfold dapTree
  cases w with
  | some data => exact mem_send_sent ..
  | none =>
    dsimp only
    rw [decide_eq_true (h rfl), Bool.or_true]
    exact mem_send_sent ..

end
end State

/-- A command that writes the Trip Recorder's own state alone, and tells the observers nothing, leaves it as its effect does. -/
theorem actState_trip_of_written {ps : List Part} {s : State} {f : State → State} {v : TripUnit} {l : List Sent}
    (h : f s.clear = { s.clear with trip := v, sent := l }) : (actState ps s f).trip = v := by
  have hkept {α : Type} {c : Bool} {x y : α} (h : x = y) : (if c then x else y) = y := by rw [h, ite_self]
  have hsilent : (s.effect ps f).notes = [] := by
    refine List.append_eq_nil_iff.mpr ⟨by rw [h]; rfl, ?_⟩
    split
    · exact State.changes_eq_nil (hkept (by rw [h])) (hkept (by rw [h])) (hkept (by rw [h])) (hkept (by rw [h])) (hkept (by rw [h]))
        (hkept (by rw [h]))
    · rfl
  have htell : State.tell 1200 (s.effect ps f) = s.effect ps f := by
    rw [State.tell, hsilent]
    rfl
  exact (congrArg State.trip htell :).trans (congrArg State.trip h :)

section
variable {region : Fin 19} {line : Nat} {write : Option (BitVec 512)} {raw : SdramLine} {s : State}

theorem exec_dapAccess : exec (.dapAccess region line write raw) s =
    act [.free, .once, .start, .image, .lanes, .tenants, .tp, .mem, .cway, .stn, .way, .promoted] s
      (State.dapStep region.val line write raw) := rfl

theorem dapAccess_reaches {u : State} (h : State.dapStep region.val line write raw s.clear = u) :
    ∃ t, exec (.dapAccess region line write raw) s = .next t ∧ t.sent = u.sent ∧ t.mem = u.mem := by
  obtain ⟨t, ht, hsent, hpart⟩ := exec_reaches exec_dapAccess h
  exact ⟨t, ht, hsent, hpart .mem (by decide) (by decide)⟩

theorem dapAccess_refused (hanalysis : s.cus.startState ≠ .analysis)
    (hfield : s.cus.startState = .field → region.val ≠ 18 ∨ write.isSome = true) :
    ∃ t, exec (.dapAccess region line write raw) s = .next t ∧ t.mem = { s.mem with blocked := satInc 18 s.mem.blocked } ∧
      Sent.dap none ∈ t.sent := by
  have hmay : s.clear.dapMay region.val write = false :=
    State.dapMay_eq_false hanalysis hfield
  obtain ⟨t, ht, hsent, hmem⟩ := dapAccess_reaches (raw := raw) (line := line)
    (if_pos (by rw [hmay]; rfl) : State.dapStep region.val line write raw s.clear = _)
  refine ⟨t, ht, ?_⟩
  rw [hsent, hmem]
  exact s.clear.dapBlocked_blocks

theorem dapAccess_raw (hmay : s.cus.startState = .field ∧ region.val = 18 ∨ s.cus.startState = .analysis ∧ 17 ≤ region.val)
    (hready : s.memReady = true) (hquarantined : s.mem.quarantined = false) (hline : line < s.regionLines region)
    (hecc : raw.ecc ≠ .uncorrectable) (hheld : tabGet none s.trip.region line = none) :
    ∃ t, exec (.dapAccess region line none raw) s = .next t ∧ Sent.dap (some raw.data.toNat) ∈ t.sent ∧ t.mem = s.mem := by
  have hallowed : s.clear.dapMay region.val none = true := by
    obtain ⟨hfield, hr⟩ | ⟨hanalysis, -⟩ := hmay
    · exact State.dapMay_of_field hfield hr
    · exact State.dapMay_of_analysis hanalysis none
  have hregion : region.val = 17 ∨ region.val = 18 := by omega
  obtain ⟨t, ht, hsent, hmem⟩ := dapAccess_reaches (s := s) (write := none)
    ((State.dapStep_of_raw (write := none) hallowed hready hquarantined hline hregion).trans (State.dapRaw_reads hecc hheld))
  refine ⟨t, ht, ?_⟩
  rw [hsent, hmem]
  exact ⟨State.mem_send_sent .., rfl⟩

theorem dapAccess_tree (hanalysis : s.cus.startState = .analysis) (hregion : region.val < 17) (hready : s.memReady = true)
    (hquarantined : s.mem.quarantined = false) (hline : line < s.regionLines region) :
    ∃ t, exec (.dapAccess region line write raw) s = .next t ∧
      t.sent = (s.clear.dapTree region line (write.map BitVec.toNat) raw).sent := by
  obtain ⟨t, ht, hsent, -⟩ := dapAccess_reaches (State.dapStep_of_tree (s := s.clear) (write := write)
    (State.dapMay_of_analysis hanalysis _) hready hquarantined hline hregion)
  exact ⟨t, ht, hsent⟩

/-- A write to region 17 stands in what the Trip Recorder holds of it. -/
theorem dapAccess_writes {data : BitVec 512} (hregion : region.val = 17) (hanalysis : s.cus.startState = .analysis)
    (hready : s.memReady = true) (hquarantined : s.mem.quarantined = false) (hline : line < s.regionLines region) :
    ∃ t, exec (.dapAccess region line (some data) raw) s = .next t ∧ tabGet none t.trip.region line = some data.toNat ∧
      Sent.dap (some 0) ∈ t.sent := by
  have hstep : State.dapStep region.val line (some data) raw s.clear = s.clear.dapRaw region.val line (some data.toNat) raw :=
    State.dapStep_of_raw (s := s.clear) (State.dapMay_of_analysis hanalysis _) hready hquarantined hline (.inl hregion)
  obtain ⟨l, hwritten, hsent⟩ := State.dapRaw_writes (s := s.clear) (line := line) (raw := raw) hregion data.toNat
  refine ⟨_, exec_dapAccess, ?_, ?_⟩
  · rw [actState_trip_of_written (hstep.trans hwritten)]
    exact tabGet_tabPut_same none (some data.toNat) s.trip.region line
  · rw [actState_sent, hstep, hwritten]
    exact hsent

end

/-- Settles O31: one lemma for each command. -/
theorem memoryChecksComplete : Obligations.MemoryChecksComplete := by
  refine ⟨fun region index latency data read s hheld hdue hread => memoryRead_counts hheld rfl hdue hread,
    fun region level index latency data read s hheld hlevel hdue hidle hroom hread =>
      memoryRead_walks hheld (fun h => hlevel (Fin.ext h)) hdue hidle hroom hread,
    fun region level index latency read s hheld hdue hread => memoryRead_fails hheld hdue hread,
    fun region level index e siblings s hheld hidle honly hnamed hgiven => reencryption_ends hheld hidle honly hnamed hgiven,
    fun s hheld hidle hresetting hreencs hquarantined hpipeline =>
      regionReset_of_stations hheld hidle (by decide) hresetting hreencs hquarantined hpipeline,
    fun region r s hheld hidle hregion hresetting hreencs hquarantined hreset hphase hslot =>
      regionReset_of_tenant hheld hidle hregion hresetting hreencs hquarantined hreset hphase hslot,
    fun region s hheld hidle hresetting hreencs hquarantined => ?_,
    fun x rest s hheld h => secExpiry_forgets hheld h,
    fun region line write raw s hanalysis hfield => dapAccess_refused hanalysis hfield,
    fun region line raw s hmay hready hquarantined hline hecc hheld => dapAccess_raw hmay hready hquarantined hline hecc hheld,
    fun line data raw s hanalysis hready hquarantined hline => dapAccess_writes rfl hanalysis hready hquarantined hline,
    fun region line raw s hanalysis hregion hready hquarantined hline hresetting hminor => ?_,
    fun region line write raw s hanalysis hregion hready hquarantined hline h => ?_⟩
  · obtain ⟨t, ht, hover, hepoch, -, -⟩ := regionReset_ends hheld hidle hresetting hreencs
    exact ⟨t, ht, hepoch.trans (if_pos hquarantined), hover⟩
  · obtain ⟨t, ht, hsent⟩ := dapAccess_tree (write := none) (raw := raw) hanalysis hregion hready hquarantined hline
    exact ⟨t, ht, hsent ▸ State.dapTree_reads (s := s.clear) hresetting hminor⟩
  · obtain ⟨t, ht, hsent⟩ := dapAccess_tree (write := write) (raw := raw) hanalysis hregion hready hquarantined hline
    exact ⟨t, ht, hsent ▸ State.dapTree_answers (s := s.clear) fun hnone => h (Option.map_eq_none_iff.mp hnone)⟩

end Sys2Proof.Machine

namespace Sys2Proof.Machine

/-! ## Snoops, answers and releases (R320, R321) -/

namespace State

section
variable (s : State)

/-- A release that crosses a snoop is counted. -/
def crossed (evicting : Bool) : State :=
  if evicting then { s with mem := { s.mem with crossings := satInc 18 s.mem.crossings } } else s

def snoopStep (engine r line : Nat) (evicting : Bool) (s : State) : State :=
  let key := State.lineKey r 1 line
  let v := s.dirLine key
  if v.snooped.contains engine then
    let s := (s.occur 31 0o004).occurs (27 + engine) 0o006 0 (if evicting then 1 else 0)
    let s := s.setDirLine key { v with
      snooped := v.snooped.filter (fun e => decide (e ≠ engine)), answers := v.answers ++ [(engine, evicting)] }
    (s.crossed evicting).settleLines
  else s

/-- A line whose copy has left an engine. -/
def holderLeaves (v : DirLine) (engine : Nat) : DirLine :=
  let holders := v.holders.filter (fun h => decide (h ≠ engine))
  { v with holders := holders, owned := v.owned && !holders.isEmpty }

def answerStep (engine r line : Nat) (s : State) : State :=
  let key := State.lineKey r 1 line
  let v := s.dirLine key
  match v.answers.find? (fun a => decide (a.1 = engine)) with
  | none => s
  | some a =>
    let v := { v with answers := v.answers.filter (fun b => decide (b.1 ≠ engine)) }
    if a.2 then s.setDirLine key v else (s.setDirLine key (holderLeaves v engine)).settleLines

def releaseStep (engine r line : Nat) (dirty : Bool) (s : State) : State :=
  let key := State.lineKey r 1 line
  let v := s.dirLine key
  if v.holders.contains engine then
    let s := s.setDirLine key (holderLeaves v engine)
    let s := if dirty && decide (1 < regionDepth s.memBody r) then s.setDirty key true else s
    s.settleLines
  else s

variable {s} {engine r line : Nat}

theorem setDirLine_serves {key : Nat} {v : DirLine} (hidle : s.dirIdle = true) (hv : v.Rests) :
    (s.setDirLine key v).settleLines = s.setDirLine key v := settleLines_of_idle (setDirLine_dirIdle hidle hv)

theorem crossed_parts (s : State) (evicting : Bool) : (s.crossed evicting).mem.dir = s.mem.dir ∧
    (s.crossed evicting).mem.backlog = s.mem.backlog ∧
    (s.crossed evicting).mem.crossings = if evicting then satInc 18 s.mem.crossings else s.mem.crossings := by
  cases evicting with
  | false => exact ⟨rfl, rfl, rfl⟩
  | true => exact ⟨rfl, rfl, rfl⟩

theorem snoopStep_answers {evicting : Bool} (hidle : s.dirIdle = true)
    (hsnooped : (s.dirLine (lineKey r 1 line)).snooped.contains engine = true) :
    ((snoopStep engine r line evicting s).dirLine (lineKey r 1 line)).answers =
      (s.dirLine (lineKey r 1 line)).answers ++ [(engine, evicting)] ∧
    (snoopStep engine r line evicting s).mem.crossings = if evicting then satInc 18 s.mem.crossings else s.mem.crossings := by
  obtain ⟨hwaiting, hevicting⟩ := dirLine_rests hidle (lineKey r 1 line)
  have hserved (u : State) (v : DirLine) (hu : u.dirIdle = true) (hv : v.Rests) :
      (((u.setDirLine (lineKey r 1 line) v).crossed evicting).settleLines.dirLine (lineKey r 1 line)).answers = v.answers ∧
        ((u.setDirLine (lineKey r 1 line) v).crossed evicting).settleLines.mem.crossings =
          if evicting then satInc 18 u.mem.crossings else u.mem.crossings := by
    obtain ⟨hdir, hbacklog, hcrossings⟩ := (u.setDirLine (lineKey r 1 line) v).crossed_parts evicting
    rw [settleLines_of_idle (dirIdle_congr hbacklog hdir (setDirLine_dirIdle hu hv)), dirLine, hdir]
    exact ⟨congrArg DirLine.answers (dirLine_setDirLine_same ..), hcrossings⟩
  unfold snoopStep
  dsimp only
  rw [if_pos hsnooped]
  exact hserved ((s.occur 31 0o004).occurs (27 + engine) 0o006 0 (if evicting then 1 else 0)) _ hidle ⟨hwaiting, hevicting⟩

/-- EVICTING leaves the holders: the release in flight is the copy. -/
theorem answerStep_of_evicting (hanswers : (s.dirLine (lineKey r 1 line)).answers = [(engine, true)]) :
    answerStep engine r line s = s.setDirLine (lineKey r 1 line) { s.dirLine (lineKey r 1 line) with answers := [] } := by
  unfold answerStep
  dsimp only
  rw [hanswers]
  simp

theorem answerStep_of_copy (hidle : s.dirIdle = true) (hanswers : (s.dirLine (lineKey r 1 line)).answers = [(engine, false)]) :
    answerStep engine r line s =
      s.setDirLine (lineKey r 1 line) (holderLeaves { s.dirLine (lineKey r 1 line) with answers := [] } engine) := by
  obtain ⟨hwaiting, hevicting⟩ := dirLine_rests hidle (lineKey r 1 line)
  have hserves := setDirLine_serves (key := lineKey r 1 line)
    (v := holderLeaves { s.dirLine (lineKey r 1 line) with answers := [] } engine) hidle ⟨hwaiting, hevicting⟩
  unfold answerStep
  dsimp only
  rw [hanswers]
  simpa using hserves

theorem releaseStep_leaves {dirty : Bool} (hidle : s.dirIdle = true) (hholds : engine ∈ (s.dirLine (lineKey r 1 line)).holders) :
    ((releaseStep engine r line dirty s).dirLine (lineKey r 1 line)).holders =
      (s.dirLine (lineKey r 1 line)).holders.filter (fun h => decide (h ≠ engine)) ∧
    (dirty = true → 1 < regionDepth s.memBody r → (releaseStep engine r line dirty s).mem.dirty.contains (lineKey r 1 line) = true) := by
  obtain ⟨hwaiting, hevicting⟩ := dirLine_rests hidle (lineKey r 1 line)
  have hleft : (s.setDirLine (lineKey r 1 line) (holderLeaves (s.dirLine (lineKey r 1 line)) engine)).dirIdle = true :=
    setDirLine_dirIdle hidle ⟨hwaiting, hevicting⟩
  have hdirtied (u : State) (hu : u.dirIdle = true) : (u.setDirty (lineKey r 1 line) true).dirIdle = true :=
    dirIdle_congr (s := u) rfl rfl hu
  have hholders := congrArg DirLine.holders
    (s.dirLine_setDirLine_same (lineKey r 1 line) (holderLeaves (s.dirLine (lineKey r 1 line)) engine))
  unfold releaseStep
  dsimp only
  rw [if_pos (List.contains_iff_mem.mpr hholds)]
  split
  · rw [settleLines_of_idle (hdirtied _ hleft)]
    exact ⟨hholders, fun _ _ => by simp [setDirty]⟩
  · next hclean =>
    rw [settleLines_of_idle hleft]
    exact ⟨hholders, fun hdirty hdepth => absurd (by rw [hdirty, decide_eq_true]; exacts [rfl, hdepth]) hclean⟩

end
end State

section
variable {engine : Fin 4} {region : Fin 17} {line : Nat} {s : State}

theorem exec_snoop {evicting : Bool} : exec (.snoop engine region line evicting) s =
    actUnit [.free, .once, .image, .lanes, .tenants, .tp, .mem, .cway, .stn, .way, .promoted] s
      (State.snoopStep engine.val region.val line evicting) := rfl

theorem exec_snoopAnswer : exec (.snoopAnswer engine region line) s =
    actUnit [.free, .once, .image, .lanes, .tenants, .tp, .mem, .cway, .stn, .way, .promoted] s
      (State.answerStep engine.val region.val line) := rfl

theorem exec_l0Release {dirty : Bool} : exec (.l0Release engine region line dirty) s =
    actUnit [.free, .once, .image, .lanes, .tenants, .tp, .mem, .cway, .stn, .way, .promoted] s
      (State.releaseStep engine.val region.val line dirty) := rfl

/-- A command of the memory unit reaches protected memory as its effect leaves it. -/
theorem exec_reaches_memory {i : Instr} {f : State → State} {ps : List Part} (hexec : exec i s = actUnit ps s f)
    (hheld : s.unitsHeld = false) (hps : ps.contains .mem = true) : ∃ t, exec i s = .next t ∧ t.mem = (f s.clear).mem := by
  obtain ⟨t, ht, hpart⟩ := exec_reaches_unit hexec hheld rfl
  exact ⟨t, ht, hpart .mem (by decide) hps⟩

theorem snoop_answers {evicting : Bool} (hheld : s.unitsHeld = false) (hidle : s.dirIdle = true)
    (hsnooped : (s.dirLine (State.lineKey region 1 line)).snooped.contains engine.val = true) :
    ∃ t, exec (.snoop engine region line evicting) s = .next t ∧ (t.dirLine (State.lineKey region 1 line)).answers =
      (s.dirLine (State.lineKey region 1 line)).answers ++ [(engine.val, evicting)] ∧
      t.mem.crossings = if evicting then satInc 18 s.mem.crossings else s.mem.crossings := by
  obtain ⟨t, ht, hmem⟩ := exec_reaches_memory exec_snoop hheld (by decide)
  refine ⟨t, ht, ?_⟩
  rw [State.dirLine, hmem]
  exact State.snoopStep_answers (s := s.clear) hidle hsnooped

theorem snoopAnswer_of_evicting (hheld : s.unitsHeld = false)
    (hanswers : (s.dirLine (State.lineKey region 1 line)).answers = [(engine.val, true)]) :
    ∃ t, exec (.snoopAnswer engine region line) s = .next t ∧ (t.dirLine (State.lineKey region 1 line)).answers = [] ∧
      (t.dirLine (State.lineKey region 1 line)).holders = (s.dirLine (State.lineKey region 1 line)).holders := by
  obtain ⟨t, ht, hmem⟩ := exec_reaches_memory exec_snoopAnswer hheld (by decide)
  rw [State.answerStep_of_evicting (s := s.clear) hanswers] at hmem
  have hput := s.clear.dirLine_setDirLine_same (State.lineKey region 1 line)
    { s.dirLine (State.lineKey region 1 line) with answers := [] }
  refine ⟨t, ht, ?_⟩
  rw [State.dirLine, hmem]
  exact ⟨(congrArg DirLine.answers hput :), (congrArg DirLine.holders hput :)⟩

theorem snoopAnswer_of_copy (hheld : s.unitsHeld = false) (hidle : s.dirIdle = true)
    (hanswers : (s.dirLine (State.lineKey region 1 line)).answers = [(engine.val, false)]) :
    ∃ t, exec (.snoopAnswer engine region line) s = .next t ∧ (t.dirLine (State.lineKey region 1 line)).answers = [] ∧
      (t.dirLine (State.lineKey region 1 line)).holders =
        (s.dirLine (State.lineKey region 1 line)).holders.filter (fun h => decide (h ≠ engine.val)) := by
  obtain ⟨t, ht, hmem⟩ := exec_reaches_memory exec_snoopAnswer hheld (by decide)
  rw [State.answerStep_of_copy (s := s.clear) hidle hanswers] at hmem
  have hput := s.clear.dirLine_setDirLine_same (State.lineKey region 1 line)
    (State.holderLeaves { s.dirLine (State.lineKey region 1 line) with answers := [] } engine.val)
  refine ⟨t, ht, ?_⟩
  rw [State.dirLine, hmem]
  exact ⟨(congrArg DirLine.answers hput :), (congrArg DirLine.holders hput :)⟩

theorem l0Release_leaves {dirty : Bool} (hheld : s.unitsHeld = false) (hidle : s.dirIdle = true)
    (hholds : engine.val ∈ (s.dirLine (State.lineKey region 1 line)).holders) :
    ∃ t, exec (.l0Release engine region line dirty) s = .next t ∧ (t.dirLine (State.lineKey region 1 line)).holders =
        (s.dirLine (State.lineKey region 1 line)).holders.filter (fun h => decide (h ≠ engine.val)) ∧
      (dirty = true → 1 < regionDepth s.memBody region → t.mem.dirty.contains (State.lineKey region 1 line) = true) := by
  obtain ⟨t, ht, hmem⟩ := exec_reaches_memory exec_l0Release hheld (by decide)
  refine ⟨t, ht, ?_⟩
  rw [State.dirLine, hmem]
  exact State.releaseStep_leaves (s := s.clear) hidle hholds

end
end Sys2Proof.Machine

namespace Sys2Proof.Machine

/-! ## Requests at the directory (R318, R320) -/

/-- The depth of a tree (R314). -/
theorem length_levelsFrom {c : Nat} : ∀ {fuel n : Nat} {l : List Nat}, levelsFrom c fuel n = some l → l.length ≤ fuel + 1
  | fuel + 1, n, l, h => by
    unfold levelsFrom at h
    dsimp only at h
    split at h
    · obtain rfl := Option.some.inj h
      show 2 ≤ fuel + 2
      omega
    · obtain ⟨l', hl', rfl⟩ := Option.map_eq_some_iff.mp h
      exact Nat.succ_le_succ (length_levelsFrom hl')

theorem regionDepth_le (b : List Word) (r : Nat) : regionDepth b r ≤ 7 := by
  have hlevels : ((regionLevels b r).getD []).length ≤ 8 := by
    unfold regionLevels
    split
    · exact Nat.zero_le _
    · cases h : levelsFrom (rootCount b r) 7 (16384 * regionMib b r) with
      | none => exact Nat.zero_le _
      | some l => exact length_levelsFrom h
  exact Nat.sub_le_of_le_add hlevels

namespace State

/-- Between two states lines may have entered the metadata cache, at most `n` of them; else protected memory stands, but for the
requesters served. -/
structure Fetches (n : Nat) (s t : State) : Prop where
  mem : t.mem = { s.mem with served := t.mem.served, cached := t.mem.cached }
  image : t.image = s.image
  cached : s.mem.cached ⊆ t.mem.cached
  length : t.mem.cached.length ≤ s.mem.cached.length + n

namespace Fetches

variable {n m : Nat} {s t u : State}

theorem trans (h : Fetches n s t) (h' : Fetches m t u) : Fetches (n + m) s u :=
  ⟨by rw [h'.mem, h.mem], h'.image.trans h.image, List.Subset.trans h.cached h'.cached, by
    have := h.length
    have := h'.length
    omega⟩

theorem of_mem {l : Tab Nat} (hmem : t.mem = { s.mem with served := l }) (himage : t.image = s.image) : Fetches 0 s t :=
  ⟨by rw [hmem], himage, by rw [hmem]; exact List.Subset.refl _, by rw [hmem]; exact Nat.le_refl _⟩

theorem enterCache {key : Nat} (h : s.mem.cached.length < cacheLines) : Fetches 1 s (s.enterCache key).2 := by
  unfold State.enterCache
  dsimp only
  split
  · exact ⟨rfl, rfl, List.Subset.refl _, Nat.le_succ _⟩
  · exact ⟨rfl, rfl, List.subset_append_left .., (List.length_append (bs := [key])).le⟩

theorem region (h : Fetches n s t) (r : Nat) : t.region r = s.region r := by rw [State.region, h.mem]; rfl
theorem ctrLine (h : Fetches n s t) (key : Nat) : t.ctrLine key = s.ctrLine key := by rw [State.ctrLine, h.mem]; rfl
theorem dirLine (h : Fetches n s t) (key : Nat) : t.dirLine key = s.dirLine key := by rw [State.dirLine, h.mem]; rfl
theorem memBody (h : Fetches n s t) : t.memBody = s.memBody := by
  rw [State.memBody, State.memBody, State.inForce?_congr h.image]

/-- A line that was on-chip still is. -/
theorem present (h : Fetches n s t) {r k i : Nat} (hs : s.present r k i = true) : t.present r k i = true := by
  rw [State.present, Bool.or_eq_true] at hs ⊢
  rw [h.memBody]
  exact hs.imp_right fun hc => List.contains_iff_mem.mpr (h.cached (List.contains_iff_mem.mp hc))

end Fetches

/-! ### The walk to a line -/

section
variable {s t : State} {r : Nat}

theorem missing_bounds : ∀ {n k i j x : Nat}, s.missing r n k i = some (j, x) → k ≤ j ∧ j < regionDepth s.memBody r
  | n + 1, k, i, j, x, h => by
    unfold missing at h
    split at h
    · cases h
    · next habsent =>
      split at h
      · next e he =>
        obtain rfl := Option.some.inj h
        obtain ⟨hlow, hhigh⟩ := missing_bounds he
        exact ⟨Nat.le_of_succ_le hlow, hhigh⟩
      · obtain ⟨rfl, rfl⟩ := Prod.mk.inj (Option.some.inj h)
        refine ⟨Nat.le_refl _, Nat.lt_of_not_le fun hdepth => habsent ?_⟩
        rw [present, decide_eq_true hdepth, Bool.true_or]

/-- Once the highest missing line has come, the highest that is missing is lower. -/
theorem missing_falls : ∀ {n k i j x j' x' : Nat}, s.missing r n k i = some (j, x) → t.present r j x = true →
    t.missing r n k i = some (j', x') → j' < j
  | n + 1, k, i, j, x, j', x', h, hcame, h' => by
    unfold missing at h h'
    split at h'
    · cases h'
    · next habsent =>
      split at h
      · cases h
      · split at h
        · next e he =>
          obtain rfl := Option.some.inj h
          split at h'
          · next e' he' =>
            obtain rfl := Option.some.inj h'
            exact missing_falls he hcame he'
          · obtain ⟨rfl, -⟩ := Prod.mk.inj (Option.some.inj h')
            exact (missing_bounds he).1
        · obtain ⟨rfl, rfl⟩ := Prod.mk.inj (Option.some.inj h)
          exact absurd hcame habsent

theorem enterCache_eq_of_room {key : Nat} (h : s.mem.cached.length < cacheLines) :
    s.enterCache key = (true, (s.enterCache key).2) := by
  unfold enterCache
  dsimp only
  split
  · rfl
  · rfl

theorem walkTo_of_present {k i : Nat} (h : s.present r k i = true) (fuel : Nat) : s.walkTo r k i (fuel + 1) = (true, s) := by
  unfold walkTo missing
  rw [if_pos h]

/-- While no counter line was ever written and the cache has room, a walk brings in what is missing at once. -/
theorem walkTo_fetches {k i : Nat} (fuel : Nat) (hlines : s.mem.lines = []) (hwalks : s.mem.walks = [])
    (hreencs : s.mem.reencs = []) (hroom : s.mem.cached.length + fuel < cacheLines)
    (hbound : ∀ j x, s.missing r 7 k i = some (j, x) → j < k + fuel) :
    (s.walkTo r k i (fuel + 1)).1 = true ∧ Fetches fuel s (s.walkTo r k i (fuel + 1)).2 := by
  induction fuel generalizing s with
  | zero =>
    unfold walkTo
    split
    · exact ⟨rfl, rfl, rfl, List.Subset.refl _, Nat.le_refl _⟩
    · next j x hmissing => exact absurd (hbound j x hmissing) (Nat.not_lt.mpr (missing_bounds hmissing).1)
  | succ fuel ih =>
    unfold walkTo
    split
    · exact ⟨rfl, rfl, rfl, List.Subset.refl _, Nat.le_add_right ..⟩
    · next j x hmissing =>
      have hj := hbound j x hmissing
      have hroom' : s.mem.cached.length < cacheLines := by omega
      have hfetched := Fetches.enterCache (key := lineKey r j x) hroom'
      have hmem := hfetched.mem
      have hcame : (s.enterCache (lineKey r j x)).2.present r j x = true := by
        rw [present, (enterCache_of_room hroom').1, Bool.or_true]
      have hlength := hfetched.length
      obtain ⟨hfound, hrest⟩ := ih (s := (s.enterCache (lineKey r j x)).2)
        (by rw [hmem]; exact hlines) (by rw [hmem]; exact hwalks) (by rw [hmem]; exact hreencs) (by omega)
        (fun j' x' h' => by
          have := missing_falls hmissing hcame h'
          omega)
      have hnone : (s.mem.walks.contains (lineKey r j x) || s.reencrypts r (j + 1) (x / 24)) = false := by
        rw [hwalks, reencrypts, hreencs]
        rfl
      have hminor : s.minorOver r j x = 0 := by
        rw [minorOver, ctrLine, hlines]
        rfl
      have hall := hfetched.trans hrest
      rw [Nat.add_comm] at hall
      dsimp only
      rw [hnone, if_neg Bool.false_ne_true, if_pos hminor, enterCache_eq_of_room hroom']
      exact ⟨hfound, hall⟩

end
end State
end Sys2Proof.Machine

namespace Sys2Proof.Machine

theorem length_filter_tabPut {α : Type} [DecidableEq α] {d v : α} (t : Tab α) (k : Nat) {p : Nat × α → Bool} (hv : p (k, v) = false) :
    ((tabPut d t k v).filter p).length ≤ (t.filter p).length := by
  have hinsert (t : Tab α) : (tabInsert k v t).filter p = t.filter p := by
    induction t with
    | nil => exact List.filter_cons_of_neg (by rw [hv]; decide)
    | cons e t ih =>
      unfold tabInsert
      split
      · exact List.filter_cons_of_neg (by rw [hv]; decide)
      · rw [List.filter_cons, List.filter_cons, ih]
  have hless : ((t.filter (fun e => decide (e.1 ≠ k))).filter p).length ≤ (t.filter p).length :=
    ((List.filter_sublist (p := fun e => decide (e.1 ≠ k))).filter p).length_le
  unfold tabPut
  dsimp only
  split
  · exact hless
  · rw [hinsert]
    exact hless

namespace State

section
variable {s t : State} {r i : Nat}

/-- A change of a line that keeps its holders leaves an engine its room. -/
theorem l0Room_setDirLine {key e : Nat} {v : DirLine} (hholders : v.holders = (s.dirLine key).holders)
    (h : s.l0Room (s.dirLine key) e = true) : (s.setDirLine key v).l0Room v e = true := by
  rw [l0Room, ← hholders] at h
  rw [l0Room]
  cases hheld : v.holders.contains e with
  | true => rfl
  | false =>
    rw [hheld, Bool.false_or, decide_eq_true_eq] at h
    rw [Bool.false_or, decide_eq_true_eq]
    exact Nat.lt_of_le_of_lt (length_filter_tabPut s.mem.dir key (p := fun d => d.2.holders.contains e) hheld) h

theorem serveDir_of_rests {fuel : Nat} (h : (s.dirLine (lineKey r 1 i)).Rests) : s.serveDir fuel r i = s := by
  cases fuel with
  | zero => rfl
  | succ fuel =>
    unfold serveDir
    dsimp only
    rw [h.evicting, if_neg Bool.false_ne_true, h.waiting]

/-- A line that one request waits for, and that may be given. -/
structure Waits (s : State) (r i : Nat) (q : MemReq) : Prop where
  waiting : (s.dirLine (lineKey r 1 i)).waiting = [q]
  evicting : (s.dirLine (lineKey r 1 i)).evicting = false
  open_ : (s.region r).resetting = false
  alone : s.mem.reencs = []

variable {q : MemReq} {w : State}

theorem serveDir_of_read {fuel : Nat} (h : s.Waits r i q) (hwalk : s.walkTo r 1 i 7 = (true, w)) (hread : q.write = none)
    (howned : (s.dirLine (lineKey r 1 i)).owned = false) (hroom : w.l0Room (s.dirLine (lineKey r 1 i)) (w.reqEngine q) = true) :
    serveDir (fuel + 1) r i s = serveDir fuel r i (w.setDirLine (lineKey r 1 i) { s.dirLine (lineKey r 1 i) with
      waiting := []
      holders := (s.dirLine (lineKey r 1 i)).holders.filter (fun h => decide (h ≠ w.reqEngine q)) ++ [w.reqEngine q] }) := by
  have hquiet : ((s.region r).resetting || s.reencrypts r 1 i) = false := by
    rw [h.open_, reencrypts, h.alone]
    rfl
  rw [serveDir]
  dsimp only
  rw [h.evicting, if_neg Bool.false_ne_true, h.waiting]
  dsimp only
  rw [hquiet, if_neg Bool.false_ne_true, hwalk]
  dsimp only
  rw [hread, howned, Bool.false_and, if_neg Bool.false_ne_true, hroom]
  rfl

theorem serveDir_of_write {fuel data : Nat} (h : s.Waits r i q) (hwalk : s.walkTo r 1 i 7 = (true, w)) (hwrite : q.write = some data)
    (halone : (s.dirLine (lineKey r 1 i)).holders.all (fun h => decide (h = w.reqEngine q)) = true)
    (hroom : w.l0Room (s.dirLine (lineKey r 1 i)) (w.reqEngine q) = true) :
    serveDir (fuel + 1) r i s = serveDir fuel r i ((w.setDirLine (lineKey r 1 i) { s.dirLine (lineKey r 1 i) with
      waiting := [], holders := [w.reqEngine q], owned := true }).raiseMinor r 1 i (q.line % 24) (some data)) := by
  have hquiet : ((s.region r).resetting || s.reencrypts r 1 i) = false := by
    rw [h.open_, reencrypts, h.alone]
    rfl
  have hothers : (s.dirLine (lineKey r 1 i)).holders.filter (fun h => decide (h ≠ w.reqEngine q)) = [] :=
    List.filter_eq_nil_iff.mpr fun h hh => by simpa using List.all_eq_true.mp halone h hh
  rw [serveDir]
  dsimp only
  rw [h.evicting, if_neg Bool.false_ne_true, h.waiting]
  dsimp only
  rw [hquiet, if_neg Bool.false_ne_true, hwalk]
  dsimp only
  rw [hwrite]
  dsimp only
  rw [hothers, hroom]
  rfl

/-- A minor below its end rises. -/
theorem raiseMinor_raises {m data : Nat} (h : tabGet 0 (s.ctrLine (lineKey r 1 i)).minors m < 2 ^ 18 - 1) :
    (s.raiseMinor r 1 i m (some data)).mem.dir = s.mem.dir ∧
    tabGet 0 ((s.raiseMinor r 1 i m (some data)).ctrLine (lineKey r 1 i)).minors m =
      tabGet 0 (s.ctrLine (lineKey r 1 i)).minors m + 1 := by
  have hdirty (u : State) : (if 1 < regionDepth u.memBody r then u.setDirty (lineKey r 1 i) true else u).mem.dir = u.mem.dir ∧
      (if 1 < regionDepth u.memBody r then u.setDirty (lineKey r 1 i) true else u).mem.lines = u.mem.lines := by
    split
    · exact ⟨rfl, rfl⟩
    · exact ⟨rfl, rfl⟩
  unfold raiseMinor
  dsimp only
  rw [if_neg (Nat.not_le.mpr h)]
  refine ⟨?_, ?_⟩
  · rw [(lineStore_unitsStand ..).mem]
    exact (hdirty _).1
  · rw [ctrLine, (lineStore_unitsStand ..).mem, (hdirty _).2, setCtrLine]
    dsimp only
    rw [tabGet_tabPut_same ({} : CtrLine), tabGet_tabPut_same]

theorem raiseMinor_regroups {m data : Nat} (hminor : tabGet 0 (s.ctrLine (lineKey r 1 i)).minors m = 2 ^ 18 - 1)
    (hoverflows : (s.ctrLine (lineKey r 1 i)).overflows < 2 ^ 40 - 1) :
    s.raiseMinor r 1 i m (some data) = { s with mem := { s.mem with
      reencs := s.mem.reencs ++ [{ region := r, level := 1, index := i, child := m, data := some data }] } } := by
  unfold raiseMinor
  dsimp only
  rw [if_pos (Nat.le_of_eq hminor.symm), if_neg (Nat.not_le.mpr hoverflows)]

/-! ### A request that its engine takes -/

variable (s q)

/-- A request is counted, and its requester remembered. -/
def takenCounted : State :=
  let b := 27 + s.reqEngine q
  let s := { s with mem := { s.mem with served := tabPut 0 s.mem.served (s.reqEngine q) q.requester } }
  let s := { s with promoted := s.promoted.filter (fun p => decide (p.2 ≠ q.requester)) }
  let s := (if q.write.isSome then s.occur b 0o002 else s).occur b 0o003
  let hit := s.present q.region 1 (q.line / 24)
  let s := if hit then s.occur 31 0o001 else (s.occur b 0o004).occur 31 0o002
  let levels := countBelow 7 (fun j => !s.present q.region (j + 1) (q.line / 24 ^ (j + 1)))
  if hit then s else s.occurs 31 0o005 levels 1

/-- And its tag line comes to the cache. -/
def taken : State := ((s.takenCounted q).enterCache (tagKey q.region 0 q.line)).2

theorem engineTakes_eq : s.engineTakes q =
    ((s.taken q).setDirLine (lineKey q.region 1 (q.line / 24))
      { (s.taken q).dirLine (lineKey q.region 1 (q.line / 24)) with
        waiting := ((s.taken q).dirLine (lineKey q.region 1 (q.line / 24))).waiting ++ [q] }).dirServe q.region (q.line / 24) := rfl

theorem takenCounted_fetches : Fetches 0 s (s.takenCounted q) := by
  have hif {c : Prop} [Decidable c] {u v w : State} (hv : Fetches 0 u v) (hw : Fetches 0 u w) : Fetches 0 u (if c then v else w) := by
    split
    · exact hv
    · exact hw
  have hthen {u v w : State} (hv : Fetches 0 u v) (hw : Fetches 0 v w) : Fetches 0 u w := hv.trans hw
  have hself (u : State) : Fetches 0 u u := .of_mem rfl rfl
  have hocc (u : State) (b c m n : Nat) : Fetches 0 u (u.occurs b c m n) := .of_mem rfl rfl
  have hserved (p : List (Nat × Nat)) : Fetches 0 s { s with
      mem := { s.mem with served := tabPut 0 s.mem.served (s.reqEngine q) q.requester }, promoted := p } := .of_mem rfl rfl
  exact hthen (hthen (hthen (hthen (hserved _) (hif (hocc ..) (hself _))) (hocc ..))
    (hif (hocc ..) (hthen (hocc ..) (hocc ..)))) (hif (hself _) (hocc ..))

variable {s q}

theorem taken_fetches (hroom : s.mem.cached.length < cacheLines) : Fetches 1 s (s.taken q) := by
  have hcounted := takenCounted_fetches s q
  have hlength := hcounted.length
  exact hcounted.trans (Fetches.enterCache (by omega))

theorem Fetches.l0Room {n : Nat} (h : Fetches n s t) (v : DirLine) (e : Nat) : t.l0Room v e = s.l0Room v e := by
  rw [State.l0Room, State.l0Room, l0Held, l0Held, h.mem]

theorem Fetches.reqEngine {n : Nat} (h : Fetches n s t) (q : MemReq) : t.reqEngine q = s.reqEngine q := by
  rw [State.reqEngine, State.reqEngine, h.memBody]

/-- A request whose line waits for nothing and can be given, once its path can be brought in at once. -/
structure Servable (s : State) (q : MemReq) : Prop where
  room : s.mem.cached.length < cacheLines
  rests : (s.dirLine (lineKey q.region 1 (q.line / 24))).Rests
  open_ : (s.region q.region).resetting = false
  alone : s.mem.reencs = []
  l0 : s.l0Room (s.dirLine (lineKey q.region 1 (q.line / 24))) (s.reqEngine q) = true
  path : ∀ u key v, Fetches 1 s u → ∃ w n, (u.setDirLine key v).walkTo q.region 1 (q.line / 24) 7 = (true, w) ∧
    Fetches n (u.setDirLine key v) w

/-- Its line, held with the request. -/
def heldAt (s : State) (q : MemReq) : State :=
  (s.taken q).setDirLine (lineKey q.region 1 (q.line / 24)) { s.dirLine (lineKey q.region 1 (q.line / 24)) with waiting := [q] }

theorem heldAt_dirLine : (s.heldAt q).dirLine (lineKey q.region 1 (q.line / 24)) =
    { s.dirLine (lineKey q.region 1 (q.line / 24)) with waiting := [q] } := dirLine_setDirLine_same ..

theorem heldAt_mem (h : Fetches 1 s (s.taken q)) : ∃ dir served cached,
    (s.heldAt q).mem = { s.mem with dir := dir, served := served, cached := cached } := by
  rw [heldAt, setDirLine, h.mem]
  exact ⟨_, _, _, rfl⟩

namespace Servable

theorem engineTakes (h : s.Servable q) : s.engineTakes q = serveDir 3 q.region (q.line / 24) (s.heldAt q) := by
  have hdir := (taken_fetches (q := q) h.room).dirLine (lineKey q.region 1 (q.line / 24))
  rw [engineTakes_eq, hdir, h.rests.waiting, List.nil_append]
  show serveDir (((s.heldAt q).dirLine _).waiting.length + 2) _ _ (s.heldAt q) = _
  rw [heldAt_dirLine]
  rfl

theorem waits (h : s.Servable q) : (s.heldAt q).Waits q.region (q.line / 24) q := by
  obtain ⟨dir, served, cached, hmem⟩ := heldAt_mem (taken_fetches (q := q) h.room)
  refine ⟨by rw [heldAt_dirLine], by rw [heldAt_dirLine]; exact h.rests.evicting, ?_, ?_⟩
  · rw [State.region, hmem]
    exact h.open_
  · rw [hmem]
    exact h.alone

/-- The path to the line comes in, and its engine has room for a copy. -/
theorem walks (h : s.Servable q) : ∃ w n, (s.heldAt q).walkTo q.region 1 (q.line / 24) 7 = (true, w) ∧ Fetches n (s.heldAt q) w ∧
    w.reqEngine q = s.reqEngine q ∧ w.l0Room ((s.heldAt q).dirLine (lineKey q.region 1 (q.line / 24))) (w.reqEngine q) = true := by
  have htaken := taken_fetches (q := q) h.room
  have hdir := htaken.dirLine (lineKey q.region 1 (q.line / 24))
  obtain ⟨w, n, hwalk, hfetched⟩ := h.path (s.taken q) (lineKey q.region 1 (q.line / 24))
    { s.dirLine (lineKey q.region 1 (q.line / 24)) with waiting := [q] } htaken
  have hengine : w.reqEngine q = s.reqEngine q := (hfetched.reqEngine q).trans (htaken.reqEngine q)
  refine ⟨w, n, hwalk, hfetched, hengine, ?_⟩
  rw [hengine, heldAt_dirLine, hfetched.l0Room]
  exact l0Room_setDirLine (s := s.taken q) (key := lineKey q.region 1 (q.line / 24)) (e := s.reqEngine q)
    (v := { s.dirLine (lineKey q.region 1 (q.line / 24)) with waiting := [q] }) (by rw [hdir])
    (by rw [hdir, htaken.l0Room]; exact h.l0)

/-- A read is granted beside the other readers. -/
theorem read (h : s.Servable q) (hread : q.write = none)
    (howned : (s.dirLine (lineKey q.region 1 (q.line / 24))).owned = false) :
    s.reqEngine q ∈ ((s.engineTakes q).dirLine (lineKey q.region 1 (q.line / 24))).holders ∧
      ((s.engineTakes q).dirLine (lineKey q.region 1 (q.line / 24))).waiting = [] := by
  obtain ⟨w, n, hwalk, -, hengine, hroom⟩ := h.walks
  have hput (v : DirLine) := w.dirLine_setDirLine_same (lineKey q.region 1 (q.line / 24)) v
  rw [h.engineTakes, serveDir_of_read h.waits hwalk hread (by rw [heldAt_dirLine]; exact howned) hroom, hengine,
    serveDir_of_rests ⟨by rw [hput], by rw [hput]; exact h.waits.evicting⟩, hput]
  exact ⟨List.mem_append_right _ (List.mem_singleton.mpr rfl), rfl⟩

/-- A write is granted to the engine that alone holds the line, which then owns it. -/
theorem write {data : Nat} (h : s.Servable q) (hwrite : q.write = some data) (halone :
    (s.dirLine (lineKey q.region 1 (q.line / 24))).holders.all (fun h => decide (h = s.reqEngine q)) = true) :
    ∃ (w : State) (v : DirLine), s.engineTakes q = serveDir 2 q.region (q.line / 24)
      ((w.setDirLine (lineKey q.region 1 (q.line / 24)) v).raiseMinor q.region 1 (q.line / 24) (q.line % 24) (some data)) ∧
    v.Rests ∧ v.holders = [s.reqEngine q] ∧ v.owned = true ∧ w.mem.lines = s.mem.lines ∧ w.mem.reencs = [] := by
  obtain ⟨w, n, hwalk, hfetched, hengine, hroom⟩ := h.walks
  obtain ⟨dir, served, cached, hmem⟩ := heldAt_mem (taken_fetches (q := q) h.room)
  have hserved := serveDir_of_write (fuel := 2) h.waits hwalk hwrite (by rw [heldAt_dirLine, hengine]; exact halone) hroom
  refine ⟨w, { (s.heldAt q).dirLine (lineKey q.region 1 (q.line / 24)) with
    waiting := [], holders := [w.reqEngine q], owned := true }, h.engineTakes.trans hserved, ⟨rfl, h.waits.evicting⟩, by rw [hengine], rfl, ?_, ?_⟩
  · rw [hfetched.mem, hmem]
  · rw [hfetched.mem, hmem]
    exact h.alone

/-- The minor of the line written rises. -/
theorem raises {data : Nat} (h : s.Servable q) (hwrite : q.write = some data) (halone :
    (s.dirLine (lineKey q.region 1 (q.line / 24))).holders.all (fun h => decide (h = s.reqEngine q)) = true)
    (hminor : tabGet 0 (s.ctrLine (lineKey q.region 1 (q.line / 24))).minors (q.line % 24) < 2 ^ 18 - 1) :
    ((s.engineTakes q).dirLine (lineKey q.region 1 (q.line / 24))).holders = [s.reqEngine q] ∧
    ((s.engineTakes q).dirLine (lineKey q.region 1 (q.line / 24))).owned = true ∧
    tabGet 0 ((s.engineTakes q).ctrLine (lineKey q.region 1 (q.line / 24))).minors (q.line % 24) =
      tabGet 0 (s.ctrLine (lineKey q.region 1 (q.line / 24))).minors (q.line % 24) + 1 := by
  obtain ⟨w, v, htakes, hrests, hholders, howned, hlines, -⟩ := h.write hwrite halone
  have hsame : (w.setDirLine (lineKey q.region 1 (q.line / 24)) v).ctrLine (lineKey q.region 1 (q.line / 24)) =
      s.ctrLine (lineKey q.region 1 (q.line / 24)) := congrArg (tabGet _ · _) hlines
  obtain ⟨hdir, hraised⟩ := raiseMinor_raises (s := w.setDirLine (lineKey q.region 1 (q.line / 24)) v) (r := q.region)
    (i := q.line / 24) (m := q.line % 24) (data := data) (by rw [hsame]; exact hminor)
  have hput := w.dirLine_setDirLine_same (lineKey q.region 1 (q.line / 24)) v
  have hline := (congrArg (tabGet ({} : DirLine) · (lineKey q.region 1 (q.line / 24))) hdir).trans hput
  rw [htakes, serveDir_of_rests (by rw [dirLine, hline]; exact hrests), hraised, hsame, dirLine, hline]
  exact ⟨hholders, howned, rfl⟩

/-- Past its end a group re-encryption begins. -/
theorem regroups {data : Nat} (h : s.Servable q) (hwrite : q.write = some data)
    (hholders : (s.dirLine (lineKey q.region 1 (q.line / 24))).holders = [])
    (hminor : tabGet 0 (s.ctrLine (lineKey q.region 1 (q.line / 24))).minors (q.line % 24) = 2 ^ 18 - 1)
    (hoverflows : (s.ctrLine (lineKey q.region 1 (q.line / 24))).overflows < 2 ^ 40 - 1) : (s.engineTakes q).mem.reencs =
      [{ region := q.region, level := 1, index := q.line / 24, child := q.line % 24, data := some data }] := by
  have hkept (u : State) (l : List Reenc) (hu : (u.dirLine (lineKey q.region 1 (q.line / 24))).Rests) :
      ({ u with mem := { u.mem with reencs := l } }.dirLine (lineKey q.region 1 (q.line / 24))).Rests := hu
  obtain ⟨w, v, htakes, hrests, -, -, hlines, hreencs⟩ := h.write hwrite (by rw [hholders]; rfl)
  have hsame : (w.setDirLine (lineKey q.region 1 (q.line / 24)) v).ctrLine (lineKey q.region 1 (q.line / 24)) =
      s.ctrLine (lineKey q.region 1 (q.line / 24)) := congrArg (tabGet _ · _) hlines
  have hput := w.dirLine_setDirLine_same (lineKey q.region 1 (q.line / 24)) v
  rw [htakes, raiseMinor_regroups (by rw [hsame]; exact hminor) (by rw [hsame]; exact hoverflows),
    serveDir_of_rests (hkept _ _ (by rw [hput]; exact hrests))]
  exact congrArg (· ++ _) hreencs

end Servable
end
end State
end Sys2Proof.Machine

namespace Sys2Proof.Machine

/-! ## DIRECTORY_REQUEST (R320) -/

namespace State

/-- The metadata cache may evict a line with the request. -/
def evicted (evict : Option (Fin 17 × Fin 7 × Nat)) (s : State) : State :=
  match evict with
  | none => s
  | some (er, ek, ei) => s.evictLine er ek ei

/-- The request of a region's master. -/
def masterRequest (s : State) (r line : Nat) (write : Option (BitVec 512)) : MemReq :=
  { region := r, line := line, write := write.map BitVec.toNat, requester := r, issued := s.now }

def requestStep (r line : Nat) (write : Option (BitVec 512)) (evict : Option (Fin 17 × Fin 7 × Nat)) (s : State) : State :=
  if s.memReady && !s.mem.quarantined && decide (line < levelLines s.memBody r 0) && !(s.region r).closed then
    (s.evicted evict).request ((s.evicted evict).masterRequest r line write)
  else s

section
variable {s : State} {r line : Nat} {write : Option (BitVec 512)}

/-- A request that its engine has a credit for, with none before it, is taken. -/
theorem requestStep_takes (hserved : s.lineServed r line = true) :
    requestStep r line write none s = s.engineTakes (s.masterRequest r line write) := by
  simp only [lineServed, Bool.and_eq_true] at hserved
  obtain ⟨⟨⟨⟨hdue, -⟩, -⟩, hbacklog⟩, hcredit⟩ := hserved
  have hfree : (s.hasCredit (s.reqEngine (s.masterRequest r line write)) 0 0 &&
      !s.mem.backlog.any (fun p => decide (s.reqEngine p = s.reqEngine (s.masterRequest r line write)))) = true := by
    rw [List.isEmpty_iff.mp hbacklog]
    exact Bool.and_eq_true_iff.mpr ⟨hcredit, rfl⟩
  have hopen : (s.memReady && !s.mem.quarantined && decide (line < levelLines s.memBody r 0) && !(s.region r).closed) = true := by
    simpa only [Bool.and_eq_true] using hdue
  exact (if_pos hopen).trans (if_pos hfree)

/-- The request that waits for nothing but its path. -/
theorem servable_of_path (hserved : s.lineServed r line = true) (hl1 : s.l1Idle r line = true)
    (hroom : s.mem.cached.length < cacheLines) (hpath : ∀ u key v, Fetches 1 s u →
      ∃ w n, (u.setDirLine key v).walkTo r 1 (line / 24) 7 = (true, w) ∧ Fetches n (u.setDirLine key v) w) :
    s.Servable (s.masterRequest r line write) := by
  simp only [lineServed, Bool.and_eq_true, Bool.not_eq_true'] at hserved
  obtain ⟨⟨⟨⟨-, hopen⟩, hreencs⟩, -⟩, -⟩ := hserved
  simp only [l1Idle, Bool.and_eq_true, Bool.not_eq_true'] at hl1
  obtain ⟨⟨hwaiting, hevicting⟩, hl0⟩ := hl1
  exact ⟨hroom, ⟨List.isEmpty_iff.mp hwaiting, hevicting⟩, hopen, List.isEmpty_iff.mp hreencs, hl0, hpath⟩

theorem servable_of_present (hserved : s.lineServed r line = true) (hl1 : s.l1Idle r line = true)
    (hroom : s.mem.cached.length < cacheLines) (hpresent : s.present r 1 (line / 24) = true) :
    s.Servable (s.masterRequest r line write) :=
  servable_of_path hserved hl1 hroom fun u key v hfetched => ⟨u.setDirLine key v, 0,
    walkTo_of_present (s := u.setDirLine key v) (hfetched.present hpresent) 6, .of_mem rfl rfl⟩

theorem servable_of_unwritten (hserved : s.lineServed r line = true) (hl1 : s.l1Idle r line = true) (hlines : s.mem.lines = [])
    (hwalks : s.mem.walks = []) (hroom : s.mem.cached.length + 8 ≤ cacheLines) : s.Servable (s.masterRequest r line write) := by
  have hreencs : s.mem.reencs = [] := by
    simp only [lineServed, Bool.and_eq_true] at hserved
    obtain ⟨⟨⟨-, hreencs⟩, -⟩, -⟩ := hserved
    exact List.isEmpty_iff.mp hreencs
  refine servable_of_path hserved hl1 (by omega) fun u key v hfetched => ?_
  have hmem := hfetched.mem
  have hlength := hfetched.length
  obtain ⟨hfound, hwalked⟩ := walkTo_fetches (s := u.setDirLine key v) (r := r) (k := 1) (i := line / 24) 6
    ((congrArg MemoryUnit.lines hmem).trans hlines) ((congrArg MemoryUnit.walks hmem).trans hwalks)
    ((congrArg MemoryUnit.reencs hmem).trans hreencs) (by show u.mem.cached.length + 6 < cacheLines; omega)
    (fun j x h => Nat.lt_of_lt_of_le (missing_bounds h).2 (regionDepth_le ..))
  exact ⟨_, 6, Prod.ext hfound rfl, hwalked⟩

/-- A clean counter line above level 1 leaves the cache at once. -/
theorem evictLine_of_clean {k i : Nat} (hk : 2 ≤ k) (hfree : s.parentFree r k i = true)
    (hclean : s.mem.dirty.contains (lineKey r k i) = false) : s.evictLine r k i = s.uncache (lineKey r k i) := by
  unfold evictLine
  dsimp only
  split
  · next habsent =>
    have hnot : lineKey r k i ∉ s.mem.cached := by
      rw [decide_eq_false (by omega), Bool.false_or, Bool.not_eq_true'] at habsent
      exact fun h => absurd (List.contains_iff_mem.mpr h) (Bool.eq_false_iff.mp habsent)
    have hsame : s.mem.cached.filter (fun x => decide (x ≠ lineKey r k i)) = s.mem.cached :=
      List.filter_eq_self.mpr fun x hx => decide_eq_true fun h => hnot (h ▸ hx)
    rw [uncache, hsame]
  · rw [if_neg (by omega)]
    unfold writeBack
    dsimp only
    exact if_neg (Bool.eq_false_iff.mp hclean)

theorem hasCredit_uncache (s : State) (key rx c level : Nat) : (s.uncache key).hasCredit rx c level = s.hasCredit rx c level := rfl

theorem request_waits {q : MemReq} (h : s.hasCredit (s.reqEngine q) 0 0 = false) :
    s.request q = { s with mem := { s.mem with backlog := s.mem.backlog ++ [q] } } := by
  unfold request
  rw [h, Bool.false_and]
  rfl

end
end State

section
variable {region : Fin 17} {line : Nat} {write : Option (BitVec 512)} {data : BitVec 512} {s : State}

theorem exec_directoryRequest {evict : Option (Fin 17 × Fin 7 × Nat)} : exec (.directoryRequest region line write evict) s =
    actUnit [.free, .once, .image, .lanes, .tenants, .tp, .mem, .cway, .stn, .way, .promoted] s
      (State.requestStep region.val line write evict) := rfl

/-- A request that is served reaches protected memory as its engine takes it. -/
theorem directoryRequest_taken (hheld : s.unitsHeld = false) (hserved : s.lineServed region line = true) :
    ∃ t, exec (.directoryRequest region line write none) s = .next t ∧
      t.mem = (s.clear.engineTakes (s.clear.masterRequest region line write)).mem := by
  obtain ⟨t, ht, hmem⟩ := exec_reaches_memory (exec_directoryRequest (evict := none) (write := write)) hheld (by decide)
  exact ⟨t, ht, hmem.trans (congrArg State.mem (State.requestStep_takes (s := s.clear) hserved))⟩

theorem directoryRequest_reads (hheld : s.unitsHeld = false) (hserved : s.lineServed region line = true)
    (hservable : s.clear.Servable (s.clear.masterRequest region line none))
    (howned : (s.dirLine (State.lineKey region 1 (line / 24))).owned = false) :
    ∃ t, exec (.directoryRequest region line none none) s = .next t ∧
      lineEngine s.memBody region line ∈ (t.dirLine (State.lineKey region 1 (line / 24))).holders ∧
      (t.dirLine (State.lineKey region 1 (line / 24))).waiting = [] := by
  obtain ⟨t, ht, hmem⟩ := directoryRequest_taken (write := none) hheld hserved
  refine ⟨t, ht, ?_⟩
  rw [State.dirLine, hmem]
  exact hservable.read rfl howned

theorem directoryRequest_writes (hheld : s.unitsHeld = false) (hserved : s.lineServed region line = true)
    (hl1 : s.l1Idle region line = true) (hpresent : s.present region 1 (line / 24) = true)
    (hroom : s.mem.cached.length < cacheLines) (halone : (s.dirLine (State.lineKey region 1 (line / 24))).holders.all
      (fun e => decide (e = lineEngine s.memBody region line)) = true)
    (hminor : tabGet 0 (s.ctrLine (State.lineKey region 1 (line / 24))).minors (line % 24) < 2 ^ 18 - 1) :
    ∃ t, exec (.directoryRequest region line (some data) none) s = .next t ∧
      (t.dirLine (State.lineKey region 1 (line / 24))).holders = [lineEngine s.memBody region line] ∧
      (t.dirLine (State.lineKey region 1 (line / 24))).owned = true ∧
      tabGet 0 (t.ctrLine (State.lineKey region 1 (line / 24))).minors (line % 24) =
        tabGet 0 (s.ctrLine (State.lineKey region 1 (line / 24))).minors (line % 24) + 1 := by
  obtain ⟨t, ht, hmem⟩ := directoryRequest_taken (write := some data) hheld hserved
  have hservable := State.servable_of_present (s := s.clear) (write := some data) hserved hl1 hroom hpresent
  refine ⟨t, ht, ?_⟩
  rw [State.dirLine, State.ctrLine, hmem]
  exact hservable.raises rfl halone hminor

theorem directoryRequest_regroups (hheld : s.unitsHeld = false) (hserved : s.lineServed region line = true)
    (hl1 : s.l1Idle region line = true) (hpresent : s.present region 1 (line / 24) = true)
    (hroom : s.mem.cached.length < cacheLines) (hholders : (s.dirLine (State.lineKey region 1 (line / 24))).holders = [])
    (hminor : tabGet 0 (s.ctrLine (State.lineKey region 1 (line / 24))).minors (line % 24) = 2 ^ 18 - 1)
    (hoverflows : (s.ctrLine (State.lineKey region 1 (line / 24))).overflows < 2 ^ 40 - 1) :
    ∃ t, exec (.directoryRequest region line (some data) none) s = .next t ∧
      t.mem.reencs.map (fun e => (e.region, e.level, e.index, e.child)) = [(region.val, 1, line / 24, line % 24)] := by
  obtain ⟨t, ht, hmem⟩ := directoryRequest_taken (write := some data) hheld hserved
  have hservable := State.servable_of_present (s := s.clear) (write := some data) hserved hl1 hroom hpresent
  refine ⟨t, ht, ?_⟩
  rw [hmem, hservable.regroups rfl hholders hminor hoverflows]
  rfl

/-- Without a credit the request waits for its engine, and the line named leaves the cache. -/
theorem directoryRequest_waits {er : Fin 17} {ek : Fin 7} {ei : Nat} (hheld : s.unitsHeld = false) (hready : s.memReady = true)
    (hquarantined : s.mem.quarantined = false) (hline : line < levelLines s.memBody region 0)
    (hopen : (s.region region).closed = false) (hcredit : s.hasCredit (lineEngine s.memBody region line) 0 0 = false)
    (hlevel : 2 ≤ ek.val) (hfree : s.parentFree er ek ei = true)
    (hclean : s.mem.dirty.contains (State.lineKey er ek ei) = false) :
    ∃ t, exec (.directoryRequest region line write (some (er, ek, ei))) s = .next t ∧
      t.mem.cached = s.mem.cached.filter (fun k => decide (k ≠ State.lineKey er ek ei)) ∧
      t.mem.backlog.map (fun q => (q.region, q.line)) = s.mem.backlog.map (fun q => (q.region, q.line)) ++ [(region.val, line)] ∧
      t.mem.dir = s.mem.dir := by
  obtain ⟨t, ht, hmem⟩ := exec_reaches_memory (exec_directoryRequest (evict := some (er, ek, ei)) (write := write)) hheld (by decide)
  have hdue : (s.memReady && !s.mem.quarantined && decide (line < levelLines s.memBody region 0) && !(s.region region).closed) =
      true := by
    rw [hready, hquarantined, decide_eq_true hline, hopen]
    rfl
  have hevicted : s.clear.evicted (some (er, ek, ei)) = s.clear.uncache (State.lineKey er ek ei) :=
    State.evictLine_of_clean (s := s.clear) hlevel hfree hclean
  have hstep : State.requestStep region.val line write (some (er, ek, ei)) s.clear = _ := if_pos hdue
  have hnone : (s.clear.uncache (State.lineKey er ek ei)).hasCredit (lineEngine s.memBody region line) 0 0 = false :=
    (s.clear.hasCredit_uncache ..).trans hcredit
  rw [hevicted, State.request_waits (q := (s.clear.uncache (State.lineKey er ek ei)).masterRequest region line write) hnone] at hstep
  refine ⟨t, ht, ?_⟩
  rw [hmem, hstep]
  exact ⟨rfl, by rw [List.map_append]; rfl, rfl⟩

end

/-- Settles O32: one lemma for each command, and for each kind of request. -/
theorem directoryCompletes : Obligations.DirectoryCompletes :=
  ⟨fun _ _ s hheld hserved hl1 hpresent hroom howned => directoryRequest_reads hheld hserved
      (State.servable_of_present (s := s.clear) hserved hl1 hroom hpresent) howned,
    fun _ _ s hheld hserved hl1 hlines hwalks hroom howned => directoryRequest_reads hheld hserved
      (State.servable_of_unwritten (s := s.clear) hserved hl1 hlines hwalks hroom) howned,
    fun _ _ _ _ hheld hserved hl1 hpresent hroom halone hminor =>
      directoryRequest_writes hheld hserved hl1 hpresent hroom halone hminor,
    fun _ _ _ _ hheld hserved hl1 hpresent hroom hholders hminor hoverflows =>
      directoryRequest_regroups hheld hserved hl1 hpresent hroom hholders hminor hoverflows,
    fun _ _ _ _ _ _ _ hheld hready hquarantined hline hopen hcredit hlevel hfree hclean =>
      directoryRequest_waits hheld hready hquarantined hline hopen hcredit hlevel hfree hclean,
    fun _ _ _ _ _ hheld hidle hsnooped => snoop_answers hheld hidle hsnooped,
    fun _ _ _ _ hheld hanswers => snoopAnswer_of_evicting hheld hanswers,
    fun _ _ _ _ hheld hidle hanswers => snoopAnswer_of_copy hheld hidle hanswers,
    fun _ _ _ _ _ hheld hidle hholds => l0Release_leaves hheld hidle hholds⟩

end Sys2Proof.Machine

namespace Sys2Proof.Machine
namespace State

/-! ## Frames that reach Signpost (R428 to R431) -/

section
variable {s : State} {lane : Option (Fin 16)} {bytes : List Byte} {p : Option Nat} {kind : Nat}

theorem frameIn_notes (s : State) (port len : Nat) : ∃ notes, s.frameIn port len = { s with notes := notes } := by
  unfold frameIn
  dsimp only
  split
  · exact ⟨_, rfl⟩
  · exact ⟨_, rfl⟩

/-- A management frame on a client lane goes to Signpost. -/
theorem clientFrame_of_mgmt {n t : Nat} {f : List Nat} (hgood : fcsGood f = true) (hlow : 64 ≤ f.length)
    (hhigh : f.length ≤ s.laneMaxFrame n) (htype : pairAt f 12 ≠ 0x8808) (hda : frameDa f = s.laneMac n)
    (hmgmt : s.mgmtTenant n f = some t) : ∃ notes, s.clientFrame n f = { s with notes := notes }.signpostFrame (some t) n f := by
  obtain ⟨notes, hin⟩ := s.frameIn_notes n f.length
  have hmax : ¬ f.length > ({ s with notes := notes }.note (.rcd (10 + n) 0o02 (frameRecord n f))).laneMaxFrame n :=
    Nat.not_lt.mpr hhigh
  have hmac : frameDa f = ({ s with notes := notes }.note (.rcd (10 + n) 0o02 (frameRecord n f))).laneMac n := hda
  have hsame : ({ s with notes := notes }.note (.rcd (10 + n) 0o02 (frameRecord n f))).mgmtTenant n f = some t := hmgmt
  refine ⟨(({ s with notes := notes }.note (.rcd (10 + n) 0o02 (frameRecord n f))).occur 24 0o003).notes, ?_⟩
  unfold clientFrame
  rw [hin, hgood, decide_eq_false (Nat.not_lt.mpr hlow)]
  dsimp only
  rw [if_pos rfl, if_neg (by decide), if_neg hmax, if_neg htype, if_pos hmac, hsame]
  rfl

/-- The frame of a path comes in, and is noted. -/
theorem principalRx_of_path {n : Nat} (h : s.spPath lane (bytesOf bytes) = some (p, n)) :
    ∃ notes, s.principalRx lane bytes = { s with notes := notes }.signpostFrame p n (bytesOf bytes) := by
  cases lane with
  | none =>
    simp only [spPath] at h
    split at h
    · next hpasses =>
      obtain ⟨rfl, rfl⟩ := Prod.mk.inj (Option.some.inj h)
      exact ⟨_, if_pos hpasses⟩
    · cases h
  | some l =>
    obtain ⟨m, hlead, h⟩ := Option.bind_eq_some_iff.mp h
    split at h
    · next hpasses =>
      obtain ⟨t, hmgmt, hpath⟩ := Option.map_eq_some_iff.mp h
      obtain ⟨rfl, rfl⟩ := Prod.mk.inj hpath
      simp only [Bool.and_eq_true, decide_eq_true_eq] at hpasses
      obtain ⟨⟨⟨hclient, hgood⟩, hlow, hhigh⟩, htype, hda⟩ := hpasses
      obtain ⟨notes, hframe⟩ := clientFrame_of_mgmt hgood hlow hhigh htype hda hmgmt
      refine ⟨notes, ?_⟩
      unfold principalRx clientRx
      dsimp only
      rw [hlead]
      dsimp only
      rw [if_pos (by simpa only [Bool.and_eq_true] using hclient), hframe]
    · cases h

/-- A well-formed message is taken by its KIND. -/
theorem principalRx_of_takes (h : s.spTakes lane bytes p kind = true) : ∃ notes n,
    s.principalRx lane bytes =
      if kind = 0o01 then { s with notes := notes }.takeOpen p n (frameSa (bytesOf bytes)) (spMessage p bytes)
      else if kind = 0o03 then { s with notes := notes }.takeRequestFrame p (spMessage p bytes)
      else { s with notes := notes }.takePlain (frameSa (bytesOf bytes)) (spMessage p bytes) := by
  simp only [spTakes, Bool.and_eq_true, decide_eq_true_eq] at h
  obtain ⟨⟨⟨hpath, hwaiting⟩, hform⟩, rfl⟩ := h
  obtain ⟨⟨q, n⟩, hfound, rfl⟩ := Option.map_eq_some_iff.mp hpath
  obtain ⟨notes, hframe⟩ := principalRx_of_path hfound
  have hlength : (bytesOf bytes).length = bytes.length := List.length_map ..
  have hfits : ¬ (decide (64 ≤ { s with notes := notes }.framesWaiting) ||
      !spFormOk q (bytesOf bytes).length (spMessage q bytes)) = true := by
    rw [hlength, hform, Bool.not_true, Bool.or_false, decide_eq_true_eq]
    exact Nat.not_le.mpr hwaiting
  exact ⟨notes, n, hframe.trans (if_neg hfits)⟩

/-! ## OPEN (R433, R451) -/

variable {n peer : Nat} {m : List Nat}

theorem takeOpen_of_locked (h : s.locked p = true) : s.takeOpen p n peer m = s.countOpenFail := if_pos h

theorem takeOpen_of_unverified (hlocked : s.locked p = false) (h : s.openVerifies p m = false) :
    s.takeOpen p n peer m = s.authFailed p :=
  (if_neg (Bool.eq_false_iff.mp hlocked)).trans (if_pos (by rw [Bool.not_eq_true']; exact h))

/-- A frame that does not verify counts in AUTH_FAILS, and may lock its path. -/
theorem authFailed_counts (s : State) (p : Option Nat) : ∃ failTimes locks,
    (s.authFailed p).sp = { s.sp with authFails := satInc 18 s.sp.authFails, failTimes := failTimes, locks := locks } := by
  have hemitted (u : State) (key e kind number arg : Nat) : (u.emitOnceKey key e kind number arg).sp = u.sp := by
    unfold emitOnceKey
    dsimp only
    split
    · rfl
    · rfl
  unfold authFailed
  dsimp only
  split
  · exact ⟨_, _, by rw [emit_sp, hemitted]; rfl⟩
  · exact ⟨_, _, by rw [hemitted]; rfl⟩

theorem session?_congr {t : State} (hoper : t.sp.oper = s.sp.oper) (hten : t.sp.ten = s.sp.ten) (c : Caller) :
    t.session? c = s.session? c := by
  cases c with
  | operator => exact congrArg (fun l => some (tabGet {} l _)) hoper
  | tenant => exact congrArg (fun l => some (tabGet {} l _)) hten
  | plain => rfl

/-! ## REQUEST (R434 to R437) -/

variable {v : Session} {c : Caller}

theorem expireSession_of_early (hsession : s.session? c = some v) (h : s.now < v.until_) : s.expireSession c = s := by
  unfold expireSession
  rw [hsession]
  exact if_neg (Nat.not_le.mpr h)

/-- A REQUEST whose TAG does not verify. -/
theorem takeRequestFrame_of_unverified (hsession : s.session? (frameCaller p m) = some v) (hidle : v.state ≠ .idle)
    (huntil : s.now < v.until_) (h : s.requestOpens p m = none) :
    s.takeRequestFrame p m = (s.occur 32 0o001).authFailed p := by
  unfold takeRequestFrame
  dsimp only
  rw [expireSession_of_early hsession huntil, hsession]
  dsimp only
  rw [if_neg hidle]
  split
  · rfl
  · next value hkey =>
    rw [requestOpens, show s.lookup (sessSlot (frameCaller p m)) = some value from hkey] at h
    refine if_pos fun htag => ?_
    rw [Option.bind_some, if_pos htag] at h
    cases h

/-- One that verifies keeps its session open, and meets it by its SEQ. -/
theorem takeRequestFrame_of_verified {body : List Nat} (hsession : s.session? (frameCaller p m) = some v) (hidle : v.state ≠ .idle)
    (huntil : s.now < v.until_) (h : s.requestOpens p m = some body) :
    s.takeRequestFrame p m = (if v.state = .opened then
        (s.occur 32 0o001).setSession (frameCaller p m) { v with until_ := s.now + secs s.sessionIdle }
      else s.occur 32 0o001).handleRequest (frameCaller p m) (spSeq m) (spTag m) body := by
  obtain ⟨value, hkey, hbody⟩ := Option.bind_eq_some_iff.mp h
  split at hbody
  · next htag =>
    obtain rfl := Option.some.inj hbody
    unfold takeRequestFrame
    dsimp only
    rw [expireSession_of_early hsession huntil, hsession]
    dsimp only
    rw [if_neg hidle, show (s.occur 32 0o001).lookup (sessSlot (frameCaller p m)) = some value from hkey]
    exact if_neg (not_not_intro htag)
  · cases hbody

end
end State
end Sys2Proof.Machine

namespace Sys2Proof.Machine
namespace State

/-! ## A REQUEST meets its session (R434 to R437) -/

section
variable {s : State} {c : Caller} {v : Session} {seq tag : Nat} {body : List Nat}

theorem frameCaller_ne_plain (p : Option Nat) (m : List Nat) : frameCaller p m ≠ .plain := by
  cases p with
  | none => exact nofun
  | some t => exact nofun

theorem handleRequest_of_opening (hsession : s.session? c = some v) (hstate : v.state = .opening) (hseq : seq = 1) :
    s.handleRequest c seq tag body = s.takeRequest c seq tag body := by
  unfold handleRequest
  rw [hsession]
  exact (if_pos hstate).trans (if_pos hseq)

theorem handleRequest_of_later (hsession : s.session? c = some v) (hstate : v.state = .opened) (hbusy : v.busy = false)
    (hseq : v.rxSeq < seq) : s.handleRequest c seq tag body = s.takeRequest c seq tag body := by
  unfold handleRequest
  rw [hsession]
  dsimp only
  rw [if_neg (by rw [hstate]; decide), if_neg (by omega), if_pos hseq, hbusy]
  rfl

/-- A SEQ below the last is a replay. -/
theorem handleRequest_of_earlier (hsession : s.session? c = some v) (hstate : v.state = .opened) (hseq : seq < v.rxSeq) :
    s.handleRequest c seq tag body = { s with sp := { s.sp with replayed := satInc 18 s.sp.replayed } }.occur 35 0o002 := by
  unfold handleRequest
  rw [hsession]
  dsimp only
  rw [if_neg (by rw [hstate]; decide), if_neg (by omega), if_neg (by omega)]

/-- A REQUEST that is taken leaves its session OPEN and busy. -/
theorem takeRequest_session (hcaller : c ≠ .plain) (hsession : s.session? c = some v) (hform : requestForm body = true) :
    (s.takeRequest c seq tag body).session? c = some { v with
      state := .opened, rxSeq := seq, rxTag := tag, busy := true, until_ := s.now + secs s.sessionIdle } := by
  have hemitted (u : State) (b : Prop) [Decidable b] (e k n a : Nat) : (if b then u.emit e k n a else u).session? c = u.session? c := by
    split
    · exact session?_congr (by rw [emit_sp]) (by rw [emit_sp]) c
    · rfl
  unfold takeRequest
  rw [hsession]
  dsimp only
  rw [if_pos hform, hemitted]
  exact setSession_same _ c _ hcaller

/-! ## PLAIN_REQUEST (R438) -/

variable {peer : Nat} {m : List Nat}

theorem takePlain_of_allowed (hallowed : s.plainAllowed (bits ((spBody (spText m)).headD 0) 17 12) = true)
    (hform : requestForm (spBody (spText m)) = true) :
    s.takePlain peer m = { s with sp := { s.sp with plainSeq := spSeq m, plainPeer := peer } } := by
  have hsame (u : SpUnit) (b : Nat) : { s with sp := u }.plainAllowed b = s.plainAllowed b := rfl
  unfold takePlain
  dsimp only
  rw [hsame, hallowed, Bool.not_true, if_neg Bool.false_ne_true, if_pos hform]

theorem frameOut_sp (s : State) (port len : Nat) : (s.frameOut port len).sp = s.sp := by
  unfold frameOut
  dsimp only
  split
  · rfl
  · rfl

/-- What a plain request may not do is answered so, and counted. -/
theorem takePlain_of_refused (peer : Nat) (hallowed : s.plainAllowed (bits ((spBody (spText m)).headD 0) 17 12) = false) :
    (s.takePlain peer m).answers .plain (bits ((spBody (spText m)).headD 0) 17 12) stNotPermitted [] = true ∧
      (s.takePlain peer m).sp.notPermitted = satInc 18 s.sp.notPermitted := by
  have hcounted (u : State) : (u.countNotPermitted .plain).sp.notPermitted = satInc 18 u.sp.notPermitted := by
    unfold countNotPermitted emitOnce emitOnceKey
    dsimp only
    split
    · rfl
    · rfl
  have hresponded (u : State) (verb status : Nat) : (u.respond .plain verb status []).sp = u.sp := frameOut_sp ..
  have hsame (u : SpUnit) (b : Nat) : { s with sp := u }.plainAllowed b = s.plainAllowed b := rfl
  have hstep : s.takePlain peer m =
      (countNotPermitted { s with sp := { s.sp with plainSeq := spSeq m, plainPeer := peer } } .plain).respond .plain
        (bits ((spBody (spText m)).headD 0) 17 12) stNotPermitted [] := by
    unfold takePlain
    dsimp only
    rw [hsame, hallowed, Bool.not_false, if_pos rfl]
  rw [hstep, hresponded, hcounted]
  exact ⟨(respond_responds (op := True) _ .plain _ stNotPermitted [] fun _ => trivial).2, rfl⟩

end
end State

section
variable {lane : Option (Fin 16)} {bytes : List Byte} {p : Option Nat} {v : Session} {body : List Nat} {s : State}

theorem exec_signpostOpen : exec (.signpostOpen lane bytes) s =
    act [.free, .once, .image, .keys, .trng, .lanes, .tenants, .tp, .cway, .sp, .way] s (fun s => s.principalRx lane bytes) := rfl

theorem exec_request : exec (.request lane bytes) s =
    act [.free, .once, .image, .keys, .trng, .lanes, .tenants, .tp, .cway, .sp, .way] s (fun s => s.principalRx lane bytes) := rfl

theorem exec_plainRequest : exec (.plainRequest lane bytes) s =
    act [.free, .once, .image, .keys, .trng, .lanes, .tenants, .tp, .cway, .sp, .way] s (fun s => s.principalRx lane bytes) := rfl

/-! ### OPEN -/

/-- An OPEN is taken on the state in which its frame has been noted. -/
theorem signpostOpen_taken (htakes : s.spTakes lane bytes p 0o01 = true) : ∃ notes n t,
    exec (.signpostOpen lane bytes) s = .next t ∧
    t.sp = ({ s.clear with notes := notes }.takeOpen p n (frameSa (bytesOf bytes)) (spMessage p bytes)).sp ∧
    t.keys = ({ s.clear with notes := notes }.takeOpen p n (frameSa (bytesOf bytes)) (spMessage p bytes)).keys ∧
    t.sent = ({ s.clear with notes := notes }.takeOpen p n (frameSa (bytesOf bytes)) (spMessage p bytes)).sent := by
  obtain ⟨notes, n, hrx⟩ := State.principalRx_of_takes (s := s.clear) htakes
  obtain ⟨t, ht, hsent, hpart⟩ := exec_reaches exec_signpostOpen (hrx.trans (if_pos rfl))
  exact ⟨notes, n, t, ht, hpart .sp (by decide) (by decide), hpart .keys (by decide) (by decide), hsent⟩

theorem signpostOpen_unverified (htakes : s.spTakes lane bytes p 0o01 = true) (hlocked : s.locked p = false)
    (hverifies : s.openVerifies p (spMessage p bytes) = false) :
    ∃ t, exec (.signpostOpen lane bytes) s = .next t ∧ t.sp.authFails = satInc 18 s.sp.authFails ∧ t.sp.oper = s.sp.oper ∧
      t.sp.ten = s.sp.ten := by
  obtain ⟨notes, n, t, ht, hsp, -, -⟩ := signpostOpen_taken htakes
  rw [State.takeOpen_of_unverified (s := { s.clear with notes := notes }) hlocked hverifies] at hsp
  obtain ⟨failTimes, locks, hcounts⟩ := { s.clear with notes := notes }.authFailed_counts p
  rw [hcounts] at hsp
  exact ⟨t, ht, by rw [hsp]; rfl, by rw [hsp]; rfl, by rw [hsp]; rfl⟩

theorem signpostOpen_locked (htakes : s.spTakes lane bytes p 0o01 = true) (hlocked : s.locked p = true) :
    ∃ t, exec (.signpostOpen lane bytes) s = .next t ∧ t.sp.openFails = satInc 18 s.sp.openFails ∧ t.sp.oper = s.sp.oper ∧
      t.sp.ten = s.sp.ten := by
  obtain ⟨notes, n, t, ht, hsp, -, -⟩ := signpostOpen_taken htakes
  rw [State.takeOpen_of_locked (s := { s.clear with notes := notes }) hlocked] at hsp
  exact ⟨t, ht, by rw [hsp]; rfl, by rw [hsp]; rfl, by rw [hsp]; rfl⟩

/-! ### REQUEST -/

theorem request_taken (htakes : s.spTakes lane bytes p 0o03 = true) : ∃ notes t,
    exec (.request lane bytes) s = .next t ∧
    t.sp = ({ s.clear with notes := notes }.takeRequestFrame p (spMessage p bytes)).sp := by
  obtain ⟨notes, n, hrx⟩ := State.principalRx_of_takes (s := s.clear) htakes
  obtain ⟨t, ht, -, hpart⟩ := exec_reaches exec_request (hrx.trans (if_neg (by decide)))
  exact ⟨notes, t, ht, (hpart .sp (by decide) (by decide) : _ = _).trans (congrArg State.sp (if_pos rfl))⟩

/-- A REQUEST that verifies meets its session in a state in which nothing but the session's time has changed. -/
theorem request_meets (htakes : s.spTakes lane bytes p 0o03 = true)
    (hsession : s.session? (State.frameCaller p (spMessage p bytes)) = some v) (hidle : v.state ≠ .idle) (huntil : s.now < v.until_)
    (hopens : s.requestOpens p (spMessage p bytes) = some body) : ∃ (u t : State) (until_ : Nat),
    exec (.request lane bytes) s = .next t ∧ t.sp = (u.handleRequest (State.frameCaller p (spMessage p bytes))
      (spSeq (spMessage p bytes)) (spTag (spMessage p bytes)) body).sp ∧
    u.session? (State.frameCaller p (spMessage p bytes)) = some { v with until_ := until_ } ∧ u.now = s.now ∧
    u.sessionIdle = s.sessionIdle ∧ u.sp.replayed = s.sp.replayed := by
  obtain ⟨notes, t, ht, hsp⟩ := request_taken htakes
  rw [State.takeRequestFrame_of_verified (s := { s.clear with notes := notes }) hsession hidle huntil hopens] at hsp
  have hcaller := State.frameCaller_ne_plain p (spMessage p bytes)
  split at hsp
  · have hset (w : State) (y : Session) : (w.setSession (State.frameCaller p (spMessage p bytes)) y).now = w.now ∧
        (w.setSession (State.frameCaller p (spMessage p bytes)) y).sessionIdle = w.sessionIdle ∧
        (w.setSession (State.frameCaller p (spMessage p bytes)) y).sp.replayed = w.sp.replayed := by
      generalize State.frameCaller p (spMessage p bytes) = c
      cases c with
      | operator | tenant | plain => exact ⟨rfl, rfl, rfl⟩
    obtain ⟨hnow, hidle, hreplayed⟩ := hset (({ s.clear with notes := notes } : State).occur 32 0o001) _
    exact ⟨_, t, _, ht, hsp, State.setSession_same _ _ _ hcaller, hnow, hidle, hreplayed⟩
  · exact ⟨_, t, v.until_, ht, hsp, hsession, rfl, rfl, rfl⟩

theorem request_opens {seq : Nat} (htakes : s.spTakes lane bytes p 0o03 = true)
    (hsession : s.session? (State.frameCaller p (spMessage p bytes)) = some v) (hidle : v.state ≠ .idle) (huntil : s.now < v.until_)
    (hopens : s.requestOpens p (spMessage p bytes) = some body) (hform : requestForm body = true)
    (hseq : spSeq (spMessage p bytes) = seq)
    (hmeets : v.state = .opening ∧ seq = 1 ∨ v.state = .opened ∧ v.busy = false ∧ v.rxSeq < seq) :
    ∃ t, exec (.request lane bytes) s = .next t ∧ t.session? (State.frameCaller p (spMessage p bytes)) = some
      { v with state := .opened, rxSeq := seq, rxTag := spTag (spMessage p bytes), busy := true,
               until_ := s.now + secs s.sessionIdle } := by
  obtain ⟨u, t, y, ht, hsp, hmet, hnow, hidle, -⟩ := request_meets htakes hsession hidle huntil hopens
  have hcaller := State.frameCaller_ne_plain p (spMessage p bytes)
  have htaken : u.handleRequest (State.frameCaller p (spMessage p bytes)) (spSeq (spMessage p bytes)) (spTag (spMessage p bytes)) body
      = u.takeRequest (State.frameCaller p (spMessage p bytes)) (spSeq (spMessage p bytes)) (spTag (spMessage p bytes)) body := by
    obtain ⟨hstate, hfirst⟩ | ⟨hstate, hbusy, hlater⟩ := hmeets
    · exact State.handleRequest_of_opening hmet hstate (hseq.trans hfirst)
    · exact State.handleRequest_of_later hmet hstate hbusy (hseq ▸ hlater)
  rw [htaken] at hsp
  refine ⟨t, ht, ?_⟩
  rw [State.session?_congr (congrArg SpUnit.oper hsp) (congrArg SpUnit.ten hsp), State.takeRequest_session hcaller hmet hform, hnow,
    hidle, hseq]

theorem request_replayed (htakes : s.spTakes lane bytes p 0o03 = true)
    (hsession : s.session? (State.frameCaller p (spMessage p bytes)) = some v) (hstate : v.state = .opened) (huntil : s.now < v.until_)
    (hopens : s.requestOpens p (spMessage p bytes) = some body) (hseq : spSeq (spMessage p bytes) < v.rxSeq) :
    ∃ t, exec (.request lane bytes) s = .next t ∧ t.sp.replayed = satInc 18 s.sp.replayed ∧
      (t.session? (State.frameCaller p (spMessage p bytes))).map (fun d => d.rxSeq) = some v.rxSeq := by
  obtain ⟨u, t, y, ht, hsp, hmet, -, -, hreplayed⟩ := request_meets htakes hsession (by rw [hstate]; decide) huntil hopens
  rw [State.handleRequest_of_earlier hmet hstate hseq] at hsp
  refine ⟨t, ht, ?_, ?_⟩
  · rw [hsp, ← hreplayed]
    rfl
  · rw [State.session?_congr (s := u) (congrArg SpUnit.oper hsp :) (congrArg SpUnit.ten hsp :), hmet]
    rfl

theorem request_unverified (htakes : s.spTakes lane bytes p 0o03 = true)
    (hsession : s.session? (State.frameCaller p (spMessage p bytes)) = some v) (hidle : v.state ≠ .idle) (huntil : s.now < v.until_)
    (hopens : s.requestOpens p (spMessage p bytes) = none) :
    ∃ t, exec (.request lane bytes) s = .next t ∧ t.sp.authFails = satInc 18 s.sp.authFails ∧
      t.session? (State.frameCaller p (spMessage p bytes)) = some v := by
  obtain ⟨notes, t, ht, hsp⟩ := request_taken htakes
  rw [State.takeRequestFrame_of_unverified (s := { s.clear with notes := notes }) hsession hidle huntil hopens] at hsp
  obtain ⟨failTimes, locks, hcounts⟩ := (({ s.clear with notes := notes } : State).occur 32 0o001).authFailed_counts p
  rw [hcounts] at hsp
  refine ⟨t, ht, by rw [hsp]; rfl, ?_⟩
  exact (State.session?_congr (s := s) (congrArg SpUnit.oper hsp :) (congrArg SpUnit.ten hsp :) _).trans hsession

/-! ### PLAIN_REQUEST (R438) -/

theorem plainRequest_taken (htakes : s.spTakes lane bytes none 0o07 = true) : ∃ notes t,
    exec (.plainRequest lane bytes) s = .next t ∧
    t.sp = ({ s.clear with notes := notes }.takePlain (frameSa (bytesOf bytes)) (spMessage none bytes)).sp ∧
    t.sent = ({ s.clear with notes := notes }.takePlain (frameSa (bytesOf bytes)) (spMessage none bytes)).sent := by
  obtain ⟨notes, n, hrx⟩ := State.principalRx_of_takes (s := s.clear) htakes
  obtain ⟨t, ht, hsent, hpart⟩ := exec_reaches exec_plainRequest ((hrx.trans (if_neg (by decide))).trans (if_neg (by decide)))
  exact ⟨notes, t, ht, hpart .sp (by decide) (by decide), hsent⟩

theorem plainRequest_allowed (htakes : s.spTakes lane bytes none 0o07 = true)
    (hallowed : s.plainAllowed (bits ((spBody (spText (spMessage none bytes))).headD 0) 17 12) = true)
    (hform : requestForm (spBody (spText (spMessage none bytes))) = true) :
    ∃ t, exec (.plainRequest lane bytes) s = .next t ∧
      t.sp = { s.sp with plainSeq := spSeq (spMessage none bytes), plainPeer := frameSa (bytesOf bytes) } := by
  obtain ⟨notes, t, ht, hsp, -⟩ := plainRequest_taken htakes
  exact ⟨t, ht, hsp.trans (congrArg State.sp (State.takePlain_of_allowed (s := { s.clear with notes := notes }) hallowed hform))⟩

theorem plainRequest_refused (htakes : s.spTakes lane bytes none 0o07 = true)
    (hallowed : s.plainAllowed (bits ((spBody (spText (spMessage none bytes))).headD 0) 17 12) = false) :
    ∃ t, exec (.plainRequest lane bytes) s = .next t ∧
      t.answers .plain (bits ((spBody (spText (spMessage none bytes))).headD 0) 17 12) 0o05 [] = true ∧
      t.sp.notPermitted = satInc 18 s.sp.notPermitted := by
  obtain ⟨notes, t, ht, hsp, hsent⟩ := plainRequest_taken htakes
  obtain ⟨hanswers, hcounts⟩ := State.takePlain_of_refused (s := { s.clear with notes := notes }) (frameSa (bytesOf bytes)) hallowed
  refine ⟨t, ht, ?_, ?_⟩
  · rw [State.answers, hsent]
    exact hanswers
  · rw [hsp]
    exact hcounts

end

/-! ### Sessions and locks whose time has come (R434, R451) -/

section
variable {c : Caller} {v : Session} {s : State}

theorem State.upTo_sp (s : State) (y : Nat) : (s.upTo y).sp = s.sp := by
  rw [show s.upTo y = _ from State.upTo_elapses s y]

def State.openingStep (c : Caller) (s : State) : State :=
  match s.session? c with
  | some v => if v.state = SessState.opening then (s.upTo v.until_).closeSession c 0 else s
  | none => s

def State.idleStep (c : Caller) (s : State) : State :=
  match s.session? c with
  | some v => if v.state = SessState.opened then (s.upTo v.until_).closeSession c 2 else s
  | none => s

def State.lockStep (p : Option Nat) (s : State) : State :=
  match s.sp.locks.find? (fun e => decide (e.1 = State.pathNo p)) with
  | some e => { s with sp := { s.sp with locks := s.sp.locks.erase e } }.upTo e.2
  | none => s

theorem exec_openingTimeout : exec (.openingTimeout c) s = act [.now, .free, .image, .keys, .tenants, .tp, .sp] s (State.openingStep c) :=
  rfl

theorem exec_sessionIdleTimeout : exec (.sessionIdleTimeout c) s =
    act [.now, .free, .image, .keys, .tenants, .tp, .sp] s (State.idleStep c) := rfl

theorem exec_authLockExpiry {tenant : Option (Fin 16)} : exec (.authLockExpiry tenant) s =
    act [.now, .free, .tp, .sp] s (State.lockStep (tenant.map Fin.val)) := rfl

theorem authLock_ends {tenant : Option (Fin 16)} {e : Nat} {rest : List (Nat × Nat)}
    (h : s.sp.locks = (State.pathNo (tenant.map Fin.val), e) :: rest) :
    ∃ t, exec (.authLockExpiry tenant) s = .next t ∧ t.sp.locks = rest ∧ t.now = max s.now e := by
  have hstep : State.lockStep (tenant.map Fin.val) s.clear = { s.clear with sp := { s.sp with locks := rest } }.upTo e := by
    unfold State.lockStep
    rw [show s.clear.sp.locks = _ from h, List.find?_cons_of_pos (by simp)]
    dsimp only
    rw [List.erase_cons_head]
    rfl
  obtain ⟨t, ht, -, hpart⟩ := exec_reaches exec_authLockExpiry hstep
  have hsp : t.sp = _ := hpart .sp (by decide) (by decide)
  have hnow : t.now = _ := hpart .now (by decide) (by decide)
  exact ⟨t, ht, congrArg SpUnit.locks (hsp.trans (State.upTo_sp ..)), hnow.trans (State.upTo_now ..)⟩

end
end Sys2Proof.Machine

namespace Sys2Proof.Machine
namespace State

/-! ## The end of a session (R434) -/

section
variable {s t : State} {c d : Caller} {v : Session}

theorem session?_setSession_other (s : State) (v : Session) (h : c ≠ d) : (s.setSession c v).session? d = s.session? d := by
  cases c with
  | plain => rfl
  | operator n =>
    cases d with
    | operator m => exact congrArg some (tabGet_tabPut_other _ _ _ fun hn => h (congrArg _ (Fin.ext hn)))
    | tenant | plain => rfl
  | tenant n =>
    cases d with
    | tenant m => exact congrArg some (tabGet_tabPut_other _ _ _ fun hn => h (congrArg _ (Fin.ext hn)))
    | operator | plain => rfl

theorem session?_of_sp (h : t.sp = s.sp) (c : Caller) : t.session? c = s.session? c := session?_congr (by rw [h]) (by rw [h]) c

theorem destroySlot_sp (s : State) (n : Nat) : (s.destroySlot n).sp = s.sp := by
  unfold destroySlot
  dsimp only
  split
  · rfl
  · split
    · rfl
    · rfl

theorem sessionUnstaged_sp (s : State) (c : Caller) : (s.sessionUnstaged c).sp = s.sp := by
  cases c with
  | operator n =>
    show (s.abandonStaging n).sp = s.sp
    unfold abandonStaging
    split
    · split
      · rfl
      · rfl
    · rfl
  | tenant | plain => rfl

theorem session?_sessionEnded (s : State) (v : Session) (cause : Nat) (d : Caller) :
    (s.sessionEnded c v cause).session? d = s.session? d := by
  have hgone (u w : SpUnit) (n : Note) (hu : u.oper = s.sp.oper) (hu' : u.ten = s.sp.ten) (hw : w.oper = u.oper) (hw' : w.ten = u.ten) :
      ({ ({ s with sp := u }.note n) with sp := w } : State).session? d = s.session? d :=
    session?_congr (hw.trans hu) (hw'.trans hu') d
  unfold sessionEnded
  dsimp only
  split
  · exact (session?_of_sp (emit_sp ..) d).trans (hgone _ _ _ rfl rfl rfl rfl)
  · exact hgone _ _ _ rfl rfl rfl rfl

theorem sealFrame_some {kind : Nat} {body m : List Nat} (h : s.sealFrame c kind body = some (m, t)) : ∃ v value,
    s.session? c = some v ∧ s.lookup (sessSlot c) = some value ∧ t = s.setSession c { v with txSeq := v.txSeq + 1 } := by
  unfold sealFrame at h
  split at h
  · next v value hsession hkey =>
    cases h
    exact ⟨v, value, hsession, hkey, rfl⟩
  · cases h

theorem session?_sealFrame_other {kind : Nat} {body m : List Nat} (h : s.sealFrame c kind body = some (m, t)) (hd : c ≠ d) :
    t.session? d = s.session? d := by
  obtain ⟨v, value, -, -, rfl⟩ := sealFrame_some h
  exact session?_setSession_other s _ hd

theorem tenantCaller_val (n : Fin 16) : tenantCaller n.val = .tenant n := congrArg Caller.tenant (Fin.ofNat_val_eq_self n)

theorem session?_sealWaiting_other (s : State) (n : Fin 16) (h : Caller.tenant n ≠ d) : (s.sealWaiting n).session? d = s.session? d := by
  refine foldl_keeps (fun a : List (Nat × MgmtItem) × State => a.2.session? d) _ (fun a e => ?_) s.tp.mgmtWait ([], s)
  split
  · split
    · split
      · next hsealed =>
        obtain ⟨⟨m, u⟩, hm, hf⟩ := Option.map_eq_some_iff.mp hsealed
        cases hf
        exact session?_sealFrame_other hm (by rwa [tenantCaller_val])
      · rfl
    · rfl
  · split
    · rfl
    · rfl
  · rfl

/-- The session that closes is IDLE again. -/
theorem closeSession_session (hsession : s.session? c = some v) (cause : Nat) :
    (s.closeSession c cause).session? c = some (if v.state = .idle then v else {}) := by
  have hcaller : c ≠ .plain := fun h => by
    rw [h] at hsession
    cases hsession
  rw [closeSession_eq, hsession]
  dsimp only
  split
  · exact hsession
  · rw [session?_sessionEnded, session?_of_sp (sessionUnstaged_sp ..), session?_of_sp (destroySlot_sp ..),
      setSession_same _ _ _ hcaller]

/-- And no other session closes with it. -/
theorem closeSession_session_other (s : State) (h : c ≠ d) (cause : Nat) : (s.closeSession c cause).session? d = s.session? d := by
  have hsealed : (s.sessionSealed c).session? d = s.session? d := by
    cases c with
    | tenant n => exact session?_sealWaiting_other s n h
    | operator | plain => rfl
  rw [closeSession_eq]
  split
  · split
    · rfl
    · rw [session?_sessionEnded, session?_of_sp (sessionUnstaged_sp ..), session?_of_sp (destroySlot_sp ..),
        session?_setSession_other _ _ h, hsealed]
  · rfl

theorem slotUse_sessSlot (c : Caller) : slotUse (sessSlot c) ≠ 0 := by
  cases c with
  | operator n => exact (by decide : ∀ n : Fin 32, slotUse (slotOperSession n) ≠ 0) n
  | tenant n => exact (by decide : ∀ n : Fin 16, slotUse (slotTenSession n) ≠ 0) n
  | plain => decide

/-- Its key is gone. -/
theorem closeSession_lookup (hsession : s.session? c = some v) (hstate : v.state ≠ .idle) (cause : Nat) :
    (s.closeSession c cause).lookup (sessSlot c) = none := by
  have hkey (u w : State) (h : w.keys = u.keys) : w.lookup (sessSlot c) = u.lookup (sessSlot c) := by
    rw [lookup, lookup, keyValid_congr h, slot_congr h]
  rw [closeSession_eq, hsession]
  dsimp only
  rw [if_neg hstate, hkey _ _ (sessionEnded_keys ..), hkey _ _ (sessionUnstaged_keys ..)]
  exact lookup_destroySlot _ _ (slotUse_sessSlot c)

theorem sessSlot_ne (hc : c ≠ .plain) (hd : d ≠ .plain) (h : c ≠ d) : sessSlot c ≠ sessSlot d := by
  cases c with
  | plain => exact absurd rfl hc
  | operator n =>
    cases d with
    | plain => exact absurd rfl hd
    | operator m =>
      exact fun hs => h (congrArg _ (Fin.ext (Nat.add_left_cancel hs)))
    | tenant m =>
      have := n.isLt
      simp only [sessSlot, slotOperSession, slotTenSession]
      omega
  | tenant n =>
    cases d with
    | plain => exact absurd rfl hd
    | tenant m => exact fun hs => h (congrArg _ (Fin.ext (Nat.add_left_cancel hs)))
    | operator m =>
      have := m.isLt
      simp only [sessSlot, slotOperSession, slotTenSession]
      omega

end
end State

section
variable {c : Caller} {v : Session} {s : State}

/-- A session whose time has come is IDLE again. -/
theorem upTo_closes (hsession : s.session? c = some v) (hstate : v.state ≠ .idle) (y cause : Nat) :
    ((s.upTo y).closeSession c cause).session? c = some {} ∧ ((s.upTo y).closeSession c cause).now = max s.now y := by
  have hsame : (s.upTo y).session? c = some v := (State.session?_of_sp (State.upTo_sp ..) c).trans hsession
  refine ⟨(State.closeSession_session hsame cause).trans (by rw [if_neg hstate]), ?_⟩
  rw [(State.closeSession_manages (op := True) (s.upTo y) c cause fun _ => trivial).eq]
  exact State.upTo_now ..

theorem openingTimeout_closes (hsession : s.session? c = some v) (hstate : v.state = .opening) :
    ∃ t, exec (.openingTimeout c) s = .next t ∧ t.session? c = some {} ∧ t.now = max s.now v.until_ := by
  have hstep : State.openingStep c s.clear = (s.clear.upTo v.until_).closeSession c 0 := by
    unfold State.openingStep
    rw [show s.clear.session? c = some v from hsession]
    exact if_pos hstate
  obtain ⟨t, ht, -, hpart⟩ := exec_reaches exec_openingTimeout hstep
  obtain ⟨hclosed, hnow⟩ := upTo_closes (s := s.clear) hsession (by rw [hstate]; decide) v.until_ 0
  exact ⟨t, ht, (State.session?_of_sp (hpart .sp (by decide) (by decide)) c).trans hclosed,
    (hpart .now (by decide) (by decide) : _ = _).trans hnow⟩

theorem idleTimeout_closes (hsession : s.session? c = some v) (hstate : v.state = .opened) :
    ∃ t, exec (.sessionIdleTimeout c) s = .next t ∧ t.session? c = some {} ∧ t.now = max s.now v.until_ := by
  have hstep : State.idleStep c s.clear = (s.clear.upTo v.until_).closeSession c 2 := by
    unfold State.idleStep
    rw [show s.clear.session? c = some v from hsession]
    exact if_pos hstate
  obtain ⟨t, ht, -, hpart⟩ := exec_reaches exec_sessionIdleTimeout hstep
  obtain ⟨hclosed, hnow⟩ := upTo_closes (s := s.clear) hsession (by rw [hstate]; decide) v.until_ 2
  exact ⟨t, ht, (State.session?_of_sp (hpart .sp (by decide) (by decide)) c).trans hclosed,
    (hpart .now (by decide) (by decide) : _ = _).trans hnow⟩

end
end Sys2Proof.Machine

namespace Sys2Proof.Machine
namespace State

/-! ## A session while management frames are built (R232, R436) -/

/-- Between two states a session and the slot of its key stand. -/
structure SessionKept (c : Caller) (s t : State) : Prop where
  session : t.session? c = s.session? c
  slot : t.slot (sessSlot c) = s.slot (sessSlot c)

namespace SessionKept

variable {c d : Caller} {s t u : State}

theorem refl (s : State) : SessionKept c s s := ⟨rfl, rfl⟩
theorem trans (h : SessionKept c s t) (h' : SessionKept c t u) : SessionKept c s u :=
  ⟨h'.session.trans h.session, h'.slot.trans h.slot⟩
theorem of_parts (hsp : t.sp = s.sp) (hkeys : t.keys = s.keys) : SessionKept c s t := ⟨session?_of_sp hsp c, slot_congr hkeys _⟩

theorem lookup (h : SessionKept c s t) : t.lookup (sessSlot c) = s.lookup (sessSlot c) := by
  rw [State.lookup, State.lookup, keyValid, keyValid, h.slot]

theorem setSession (hd : d ≠ c) (v : Session) : SessionKept c s (s.setSession d v) :=
  ⟨session?_setSession_other s v hd, slot_congr (setSession_keys ..) _⟩

theorem closeSession (hc : c ≠ .plain) (hd : d ≠ .plain) (h : d ≠ c) (cause : Nat) : SessionKept c s (s.closeSession d cause) :=
  ⟨closeSession_session_other s h cause, slot_closeSession_other s cause (sessSlot_ne hd hc h)⟩

theorem settleSeq (hc : c ≠ .plain) (hd : d ≠ .plain) (h : d ≠ c) : SessionKept c s (s.settleSeq d) := by
  unfold State.settleSeq
  split
  · split
    · exact closeSession hc hd h 3
    · exact .refl s
  · exact .refl s

end SessionKept

section
variable {c d : Caller} {s t : State} {v : Session}

/-- A frame of the session has been built: it has used the session's next SEQ. -/
structure SessionUsed (c : Caller) (v : Session) (s w : State) : Prop where
  before : s.session? c = some v
  key : s.lookup (sessSlot c) ≠ none
  after : w.session? c = some { v with txSeq := v.txSeq + 1 }
  slot : w.slot (sessSlot c) = s.slot (sessSlot c)

theorem sealFrame_used {kind : Nat} {body m : List Nat} (hc : c ≠ .plain) (h : s.sealFrame c kind body = some (m, t)) :
    ∃ v, SessionUsed c v s t := by
  obtain ⟨v, value, hsession, hkey, rfl⟩ := sealFrame_some h
  refine ⟨v, hsession, by rw [hkey]; exact Option.some_ne_none value, setSession_same _ _ _ hc, slot_congr (setSession_keys ..) _⟩

theorem sealFrame_kept {kind : Nat} {body m : List Nat} (h : s.sealFrame d kind body = some (m, t)) (hd : d ≠ c) :
    SessionKept c s t := by
  obtain ⟨v, value, -, -, rfl⟩ := sealFrame_some h
  exact .setSession hd _

/-- A frame that is built of a session, and what follows it, leaves another session alone, or uses this one. -/
theorem sealFrame_settles {kind : Nat} {body m : List Nat} (hc : c ≠ .plain) (hd : d ≠ .plain)
    (h : s.sealFrame d kind body = some (m, t)) {w : State} (hw : ∀ c, SessionKept c t w) :
    SessionKept c s (w.settleSeq d) ∨ ∃ v x, SessionUsed c v s x ∧ w.settleSeq d = x.settleSeq c := by
  by_cases hcd : d = c
  · subst hcd
    obtain ⟨v, hused⟩ := sealFrame_used hd h
    exact .inr ⟨v, w, ⟨hused.before, hused.key, (hw d).session.trans hused.after, (hw d).slot.trans hused.slot⟩, rfl⟩
  · exact .inl ((sealFrame_kept h hcd).trans ((hw c).trans (.settleSeq hc hd hcd)))

theorem tenantCaller_ne_plain (n : Nat) : tenantCaller n ≠ .plain := nofun

/-- So does a management frame. -/
theorem buildItem_session {n : Nat} {i : MgmtItem} {f : MgmtFrame} (hc : c ≠ .plain) (h : s.buildItem n i = some (f, t)) :
    SessionKept c s t ∨ ∃ v x, SessionUsed c v s x ∧ t = x.settleSeq c := by
  cases i with
  | session u kind body =>
    obtain ⟨⟨f', t'⟩, hm, hf⟩ := Option.map_eq_some_iff.mp h
    cases hf
    obtain ⟨⟨m, t''⟩, hsealed, hf⟩ := Option.map_eq_some_iff.mp hm
    cases hf
    exact sealFrame_settles hc (tenantCaller_ne_plain u) hsealed fun _ => .refl _
  | notify u =>
    obtain ⟨⟨m, t'⟩, hm, hf⟩ := Option.map_eq_some_iff.mp h
    cases hf
    unfold buildNotify at hm
    dsimp only at hm
    split at hm
    · cases hm
    · obtain ⟨⟨m', t''⟩, hsealed, hf⟩ := Option.map_eq_some_iff.mp hm
      cases hf
      have hbooked (x : State) (v : Tenant) (m : Sent) (c : Caller) :
          SessionKept c x (((x.setTenant u v).occur 35 0o004).send m) :=
        .of_parts (setTenant_sp x u v) (setTenant_keys x u v)
      exact sealFrame_settles hc (tenantCaller_ne_plain u) hsealed (hbooked _ _ _)
  | whole f' =>
    cases h
    exact .inl (.refl s)

theorem settleSeq_cases (hsession : s.session? c = some v) : s.settleSeq c = s ∨ s.settleSeq c = s.closeSession c 3 := by
  unfold settleSeq
  rw [hsession]
  dsimp only
  split
  · exact .inr rfl
  · exact .inl rfl

theorem frameOut_keys (s : State) (port len : Nat) : (s.frameOut port len).keys = s.keys := by
  unfold frameOut
  dsimp only
  split
  · rfl
  · rfl

/-! ## CLOSE (R434) -/

/-- The session is OPEN, or has closed with its last SEQ. -/
def EndsSoon (c : Caller) (s : State) : Prop :=
  (∃ v, s.session? c = some v ∧ v.state = .opened) ∨ s.session? c = some {} ∧ s.lookup (sessSlot c) = none

namespace EndsSoon

theorem of_kept (h : EndsSoon c s) (hkept : SessionKept c s t) : EndsSoon c t := by
  rw [EndsSoon, hkept.session, hkept.lookup]
  exact h

theorem of_used (h : EndsSoon c s) (hused : SessionUsed c v s t) : EndsSoon c (t.settleSeq c) := by
  obtain ⟨v', hv', hopened⟩ | ⟨-, hnone⟩ := h
  · obtain rfl := Option.some.inj (hused.before.symm.trans hv')
    obtain hsame | hclosed := settleSeq_cases hused.after
    · rw [hsame]
      exact .inl ⟨_, hused.after, hopened⟩
    · have hactive : { v with txSeq := v.txSeq + 1 }.state ≠ .idle := by
        rw [show Session.state _ = .opened from hopened]
        decide
      rw [hclosed]
      exact .inr ⟨(closeSession_session hused.after 3).trans (by rw [if_neg hactive]), closeSession_lookup hused.after hactive 3⟩
  · exact absurd hnone hused.key

theorem mgmtAdmit (hc : c ≠ .plain) (l : List (Nat × MgmtItem)) (h : EndsSoon c s) : EndsSoon c (s.mgmtAdmit l) := by
  induction l generalizing s with
  | nil => exact h
  | cons e l ih =>
    obtain ⟨n, i⟩ := e
    rw [State.mgmtAdmit]
    split
    · split
      · next f t hbuilt =>
        refine ih ?_
        obtain hkept | ⟨v, x, hused, rfl⟩ := buildItem_session hc hbuilt
        · exact h.of_kept (hkept.trans (.of_parts rfl rfl))
        · exact (h.of_used hused).of_kept (.of_parts rfl rfl)
      · exact ih h
    · exact h

theorem queueMgmt (hc : c ≠ .plain) (n : Nat) (i : MgmtItem) (h : EndsSoon c s) : EndsSoon c (s.queueMgmt n i) := by
  unfold State.queueMgmt
  split
  · exact h
  · exact mgmtAdmit hc _ h

theorem toPrincipal (hc : c ≠ .plain) (kind : Nat) (body : List Nat) (h : EndsSoon c s) : EndsSoon c (s.toPrincipal c kind body) := by
  cases c with
  | plain => exact absurd rfl hc
  | tenant n => exact queueMgmt hc _ _ h
  | operator n =>
    unfold State.toPrincipal
    dsimp only
    split
    · next m t v hsealed hsession =>
      obtain ⟨v', hused⟩ := sealFrame_used hc hsealed
      have hout : SessionKept (.operator n) t ((t.send (.mport (t.mportFrame v.peer m))).frameOut 17 (sessionFrame false body.length)) :=
        .of_parts (frameOut_sp ..) (frameOut_keys ..)
      exact h.of_used ⟨hused.before, hused.key, hout.session.trans hused.after, hout.slot.trans hused.slot⟩
    · exact h

theorem respond (hc : c ≠ .plain) (verb status : Nat) (words : List Word) (hsession : s.session? c = some v)
    (hstate : v.state = .opened) : EndsSoon c (s.respond c verb status words) := by
  unfold State.respond
  dsimp only
  rw [show (s.occur 35 0o001).session? c = some v from hsession]
  exact toPrincipal hc _ _ (.inl ⟨_, setSession_same _ _ _ hc, hstate⟩)

/-- The session closes. -/
theorem closes (h : EndsSoon c s) (cause : Nat) : (s.closeSession c cause).session? c = some {} := by
  obtain ⟨v, hsession, hopened⟩ | ⟨hsession, -⟩ := h
  · rw [closeSession_session hsession, if_neg (by rw [hopened]; decide)]
  · exact closeSession_session hsession cause

end EndsSoon
end

/-- CLOSE is answered, and its session closes. -/
def closeStep (r : VerbCall) (s : State) : State :=
  if s.callerOpen r.caller then
    let d := s.serveWith r (r.caller ≠ Caller.plain) none (fun s => { st := s, status := stDone })
    let s := (d.st.respond r.caller 0o21 d.status []).controlRecord r.caller 0o21 d.status []
    if d.status = stDone then s.closeSession r.caller 1 else s
  else { s with sp := { s.sp with sessionMiss := satInc 18 s.sp.sessionMiss } }.occur 35 0o002

end State

section
variable {r : VerbCall} {s : State}

theorem exec_close : exec (.close r) s = act [.once, .image, .keys, .tenants, .tp, .sp] s (State.closeStep r) := rfl

theorem State.closeStep_of_mayAct (hcaller : r.caller ≠ .plain) (hmay : s.mayAct r none = true) : State.closeStep r s =
    ((s.respond r.caller 0o21 stDone []).controlRecord r.caller 0o21 stDone []).closeSession r.caller 1 := by
  obtain ⟨hopen, hcond⟩ := Bool.and_eq_true_iff.mp hmay
  have hserved : s.serveWith r (r.caller ≠ Caller.plain) none (fun s => { st := s, status := stDone }) =
      { st := s, status := stDone } := by
    unfold State.serveWith
    rw [if_pos (by simpa using hcaller), of_decide_eq_true hcond]
  unfold State.closeStep
  rw [if_pos hopen, hserved]
  exact if_pos rfl

theorem close_closes (hcaller : r.caller ≠ .plain) (hmay : s.mayAct r none = true) :
    ∃ t, exec (.close r) s = .next t ∧ t.answers r.caller 0o21 0 [] = true ∧ t.session? r.caller = some {} := by
  obtain ⟨t, ht, hsent, hpart⟩ := exec_reaches exec_close (State.closeStep_of_mayAct (s := s.clear) hcaller hmay)
  obtain ⟨-, hanswers⟩ := State.respond_responds (op := True) s.clear r.caller 0o21 stDone [] fun _ => trivial
  have hafter := (State.note_manages (op := True) (s.clear.respond r.caller 0o21 stDone []) _).trans
    (State.closeSession_manages ((s.clear.respond r.caller 0o21 stDone []).controlRecord r.caller 0o21 stDone []) r.caller 1
      fun _ => trivial)
  obtain ⟨v, hsession, hstate⟩ : ∃ v, s.clear.session? r.caller = some v ∧ v.state = .opened := by
    have hopen := (Bool.and_eq_true_iff.mp hmay).1
    unfold State.callerOpen at hopen
    split at hopen
    · next v hv => exact ⟨v, hv, of_decide_eq_true hopen⟩
    · next hnone =>
      cases hc : r.caller with
      | plain => exact absurd hc hcaller
      | operator | tenant =>
        rw [hc] at hnone
        cases hnone
  have hends : State.EndsSoon r.caller ((s.clear.respond r.caller 0o21 stDone []).controlRecord r.caller 0o21 stDone []) :=
    (State.EndsSoon.respond hcaller 0o21 stDone [] hsession hstate).of_kept (.of_parts rfl rfl)
  refine ⟨t, ht, ?_, (State.session?_of_sp (hpart .sp (by decide) (by decide)) _).trans (hends.closes 1)⟩
  rw [State.answers, hsent]
  exact hafter.answers hanswers

end
end Sys2Proof.Machine

namespace Sys2Proof.Machine

/-- Values of distinct numbers are among those listed. -/
theorem sum_tabGet_le {α : Type} {d : α} {f : α → Nat} (hd : f d = 0) (t : Tab α) (K : Finset Nat) :
    ∑ k ∈ K, f (tabGet d t k) ≤ (t.map (fun e => f e.2)).sum := by
  induction t generalizing K with
  | nil => simp [tabGet, hd]
  | cons e t ih =>
    obtain ⟨j, v⟩ := e
    have hrest : ∑ k ∈ K.erase j, f (tabGet d ((j, v) :: t) k) = ∑ k ∈ K.erase j, f (tabGet d t k) :=
      Finset.sum_congr rfl fun k hk => by rw [tabGet, if_neg (Finset.ne_of_mem_erase hk).symm]
    rw [List.map_cons, List.sum_cons]
    by_cases hj : j ∈ K
    · rw [← Finset.add_sum_erase K _ hj, hrest, tabGet, if_pos rfl]
      exact Nat.add_le_add_left (ih _) _
    · rw [Finset.erase_eq_of_notMem hj] at hrest
      rw [hrest]
      exact (ih K).trans (Nat.le_add_left ..)

namespace State

/-! ## The management pool while frames are built (R232) -/

section
variable {s t : State}

theorem sealWaiting_lanes (s : State) (n : Nat) : (s.sealWaiting n).tp.lanes = s.tp.lanes := by
  have hsealed {c : Caller} {kind : Nat} {body m : List Nat} {u w : State} (h : u.sealFrame c kind body = some (m, w)) :
      w.tp = u.tp := by
    obtain ⟨v, value, -, -, rfl⟩ := sealFrame_some h
    cases c with
    | operator | tenant | plain => rfl
  refine foldl_keeps (fun a : List (Nat × MgmtItem) × State => a.2.tp.lanes) _ (fun a e => ?_) s.tp.mgmtWait ([], s)
  split
  · split
    · split
      · next h =>
        obtain ⟨⟨m, u⟩, hm, hf⟩ := Option.map_eq_some_iff.mp h
        cases hf
        exact congrArg TurnpikeUnit.lanes (hsealed hm)
      · rfl
    · rfl
  · split
    · rfl
    · rfl
  · rfl

/-- Cells that lanes of a set hold. -/
def laneCells (K : Finset Nat) (s : State) : Nat := ∑ k ∈ K, mgmtCells (s.sched k)

theorem laneCells_le (K : Finset Nat) (s : State) : laneCells K s ≤ s.mgmtHeld :=
  sum_tabGet_le (d := ({} : Sched)) (f := mgmtCells) rfl s.tp.lanes K

theorem laneCells_congr (K : Finset Nat) (h : t.tp.lanes = s.tp.lanes) : laneCells K t = laneCells K s :=
  Finset.sum_congr rfl fun k _ => by rw [sched, sched, h]

/-- A frame that joins the queue of a lane takes its cells. -/
theorem laneCells_join {K : Finset Nat} {n : Nat} (hn : n ∈ K) (s : State) (f : MgmtFrame) :
    laneCells K (s.setSched n { s.sched n with mgmt := (s.sched n).mgmt ++ [f] }) = laneCells K s + cellsOf f.len := by
  have hrest : ∑ k ∈ K.erase n, mgmtCells ((s.setSched n { s.sched n with mgmt := (s.sched n).mgmt ++ [f] }).sched k) =
      ∑ k ∈ K.erase n, mgmtCells (s.sched k) :=
    Finset.sum_congr rfl fun k hk => by rw [sched_setSched_other s _ (Finset.ne_of_mem_erase hk).symm]
  have hjoined : mgmtCells { s.sched n with mgmt := (s.sched n).mgmt ++ [f] } = mgmtCells (s.sched n) + cellsOf f.len := by
    simp only [mgmtCells, List.map_append, List.map_cons, List.map_nil, List.sum_append, List.sum_cons, List.sum_nil]
    omega
  rw [laneCells, laneCells, ← Finset.add_sum_erase K _ hn, ← Finset.add_sum_erase K _ hn, hrest, sched_setSched_same, hjoined]
  omega

variable {c : Caller} {v w : Session}

theorem setSession_tp (s : State) (c : Caller) (v : Session) : (s.setSession c v).tp = s.tp := by cases c <;> rfl

theorem closeSession_lanes (s : State) (c : Caller) (cause : Nat) : (s.closeSession c cause).tp.lanes = s.tp.lanes := by
  have hsealed : (s.sessionSealed c).tp.lanes = s.tp.lanes := by
    cases c with
    | tenant u => exact sealWaiting_lanes s u
    | operator | plain => rfl
  have hdestroyed (u : State) (n : Nat) : (u.destroySlot n).tp = u.tp := by
    unfold destroySlot
    dsimp only
    split
    · rfl
    · split
      · rfl
      · rfl
  have hunstaged (u : State) : (u.sessionUnstaged c).tp = u.tp := by
    cases c with
    | operator n =>
      change (u.abandonStaging n).tp = u.tp
      unfold abandonStaging
      split
      · split
        · rfl
        · rfl
      · rfl
    | tenant | plain => rfl
  have hended (u : State) (v : Session) : (u.sessionEnded c v cause).tp = u.tp := by
    unfold sessionEnded
    dsimp only
    split
    · exact emit_tp ..
    · rfl
  rw [closeSession_eq]
  split
  · split
    · rfl
    · rw [hended, hunstaged, hdestroyed, setSession_tp, hsealed]
  · rfl

theorem settleSeq_lanes (s : State) (c : Caller) : (s.settleSeq c).tp.lanes = s.tp.lanes := by
  unfold settleSeq
  split
  · split
    · exact closeSession_lanes ..
    · rfl
  · rfl

/-- A session far from the end of its SEQ goes on. -/
theorem settleSeq_of_low (hsession : s.session? c = some v) (htx : v.txSeq < 2 ^ 36) (hrx : v.rxSeq + 1 < 2 ^ 36) :
    s.settleSeq c = s := by
  unfold settleSeq
  rw [hsession]
  dsimp only
  exact if_neg (by omega)

theorem sealFrame_tp {kind : Nat} {body m : List Nat} (h : s.sealFrame c kind body = some (m, t)) : t.tp = s.tp := by
  obtain ⟨v, value, -, -, rfl⟩ := sealFrame_some h
  exact setSession_tp ..

theorem buildItem_lanes {n : Nat} {i : MgmtItem} {f : MgmtFrame} (h : s.buildItem n i = some (f, t)) : t.tp.lanes = s.tp.lanes := by
  cases i with
  | session u kind body =>
    obtain ⟨⟨f', t'⟩, hm, hf⟩ := Option.map_eq_some_iff.mp h
    cases hf
    obtain ⟨⟨m, t''⟩, hsealed, hf⟩ := Option.map_eq_some_iff.mp hm
    cases hf
    exact (settleSeq_lanes ..).trans (congrArg TurnpikeUnit.lanes (sealFrame_tp hsealed))
  | notify u =>
    obtain ⟨⟨m, t'⟩, hm, hf⟩ := Option.map_eq_some_iff.mp h
    cases hf
    unfold buildNotify at hm
    dsimp only at hm
    split at hm
    · cases hm
    · obtain ⟨⟨m', t''⟩, hsealed, hf⟩ := Option.map_eq_some_iff.mp hm
      cases hf
      have hbooked (x : State) (v : Tenant) (m : Sent) : (((x.setTenant u v).occur 35 0o004).send m).tp = x.tp := setTenant_tp x u v
      exact (settleSeq_lanes ..).trans (congrArg TurnpikeUnit.lanes ((hbooked ..).trans (sealFrame_tp hsealed)))
  | whole f' =>
    cases h
    rfl

theorem spFrame_length (da sa : Nat) (vlan : Option Nat) (etype : Nat) (m : List Nat) : 60 ≤ (spFrame da sa vlan etype m).length := by
  unfold spFrame withFcs padTo
  simp only [List.length_append, List.length_replicate]
  omega

theorem tenantFrame_length (s : State) (u lane da kind : Nat) (m : List Nat) :
    60 ≤ ({ kind := kind, bytes := s.tenantFrame u lane da m } : MgmtFrame).len := by
  rw [MgmtFrame.len, tenantFrame]
  dsimp only
  exact spFrame_length _ _ _ _ _

/-- A frame that is built of a session holds bytes. -/
theorem buildItem_length {n : Nat} {i : MgmtItem} {f : MgmtFrame} (h : s.buildItem n i = some (f, t)) :
    i = .whole f ∧ t = s ∨ 60 ≤ f.len := by
  cases i with
  | session u kind body =>
    obtain ⟨⟨f', t'⟩, hm, hf⟩ := Option.map_eq_some_iff.mp h
    cases hf
    obtain ⟨⟨m, t''⟩, -, hf⟩ := Option.map_eq_some_iff.mp hm
    cases hf
    exact .inr (tenantFrame_length ..)
  | notify u =>
    obtain ⟨⟨m, t'⟩, hm, hf⟩ := Option.map_eq_some_iff.mp h
    cases hf
    unfold buildNotify at hm
    dsimp only at hm
    split at hm
    · cases hm
    · obtain ⟨⟨m', t''⟩, -, hf⟩ := Option.map_eq_some_iff.mp hm
      cases hf
      exact .inr (tenantFrame_length ..)
  | whole f' =>
    cases h
    exact .inl ⟨rfl, rfl⟩

/-! ## A session that opens, while management frames are built (R232, R433) -/

/-- The session stands with its key, and its SEQ has moved no further than the cells that the lanes hold. -/
structure OpensWith (c : Caller) (w : Session) (g : Slot) (K : Finset Nat) (s : State) : Prop where
  session : ∃ x ≤ 1 + laneCells K s, s.session? c = some { w with txSeq := x }
  slot : s.slot (sessSlot c) = g

namespace OpensWith

variable {g : Slot} {K : Finset Nat}

theorem of_kept (h : OpensWith c w g K s) (hkept : SessionKept c s t) (hcells : laneCells K s ≤ laneCells K t) :
    OpensWith c w g K t := by
  obtain ⟨⟨x, hx, hsession⟩, hslot⟩ := h
  exact ⟨⟨x, by omega, hkept.session.trans hsession⟩, hkept.slot.trans hslot⟩

/-- The frame that is built while the pool has room joins its lane. -/
theorem joins {n : Nat} {i : MgmtItem} {f : MgmtFrame} (hc : c ≠ .plain) (hrx : w.rxSeq = 0) (hn : n ∈ K) (hroom : s.mgmtHeld ≤ 512)
    (h : OpensWith c w g K s) (hbuilt : s.buildItem n i = some (f, t)) :
    OpensWith c w g K (t.setSched n { t.sched n with mgmt := (t.sched n).mgmt ++ [f] }) := by
  have hcells : laneCells K (t.setSched n { t.sched n with mgmt := (t.sched n).mgmt ++ [f] }) = laneCells K s + cellsOf f.len := by
    rw [laneCells_join hn, laneCells_congr K (buildItem_lanes hbuilt)]
  have hjoined : SessionKept c t (t.setSched n { t.sched n with mgmt := (t.sched n).mgmt ++ [f] }) := .of_parts rfl rfl
  have hkept (hst : SessionKept c s t) := h.of_kept (hst.trans hjoined) (by omega)
  obtain ⟨-, rfl⟩ | hlen := buildItem_length hbuilt
  · exact hkept (.refl _)
  · obtain hst | ⟨v, u, hused, rfl⟩ := buildItem_session hc hbuilt
    · exact hkept hst
    · obtain ⟨⟨x, hx, hsession⟩, hslot⟩ := h
      obtain rfl := Option.some.inj (hused.before.symm.trans hsession)
      have hlow : x ≤ 513 := hx.trans (Nat.add_le_add_left ((laneCells_le K s).trans hroom) 1)
      have hgoes : u.settleSeq c = u := settleSeq_of_low hused.after
        (show x + 1 < 2 ^ 36 by omega) (show w.rxSeq + 1 < 2 ^ 36 by omega)
      have hcell : 1 ≤ cellsOf f.len := by
        rw [cellsOf]
        omega
      rw [hgoes] at hjoined hcells ⊢
      exact ⟨⟨x + 1, by omega, hjoined.session.trans hused.after⟩, hjoined.slot.trans (hused.slot.trans hslot)⟩

theorem mgmtAdmit (hc : c ≠ .plain) (hrx : w.rxSeq = 0) (l : List (Nat × MgmtItem)) (hl : ∀ e ∈ l, e.1 ∈ K)
    (h : OpensWith c w g K s) : OpensWith c w g K (s.mgmtAdmit l) := by
  induction l generalizing s with
  | nil => exact h.of_kept (.of_parts rfl rfl) le_rfl
  | cons e l ih =>
    obtain ⟨n, i⟩ := e
    have hrest := fun e he => hl e (List.mem_cons_of_mem _ he)
    rw [State.mgmtAdmit]
    split
    · next hroom =>
      split
      · next f t hbuilt => exact ih hrest (h.joins hc hrx (hl _ List.mem_cons_self) (by omega) hbuilt)
      · exact ih hrest h
    · exact h.of_kept (.of_parts rfl rfl) le_rfl

end OpensWith

/-- A session that has begun to open stands while a frame is queued. -/
theorem queueMgmt_opens (hc : c ≠ .plain) (n : Nat) (i : MgmtItem) (hsession : s.session? c = some w) (htx : w.txSeq ≤ 1)
    (hrx : w.rxSeq = 0) :
    (∃ x, (s.queueMgmt n i).session? c = some { w with txSeq := x }) ∧ (s.queueMgmt n i).slot (sessSlot c) = s.slot (sessSlot c) := by
  unfold queueMgmt
  split
  · exact ⟨⟨w.txSeq, hsession⟩, rfl⟩
  · obtain ⟨⟨x, -, hafter⟩, hslot⟩ := OpensWith.mgmtAdmit (s := s) (g := s.slot (sessSlot c))
      (K := ((s.tp.mgmtWait ++ [(n, i)]).map Prod.fst).toFinset) hc hrx (s.tp.mgmtWait ++ [(n, i)])
      (fun e he => List.mem_toFinset.mpr (List.mem_map_of_mem he)) ⟨⟨w.txSeq, by omega, hsession⟩, rfl⟩
    exact ⟨⟨x, hafter⟩, hslot⟩

end
end State
end Sys2Proof.Machine

namespace Sys2Proof.Machine
namespace State

/-! ## The key of a session that opens (R145, R433) -/

section
variable {s : State} {c : Caller} {v w : Session}

/-- The destroy of a slot in order is over once it has verified. -/
theorem slot_destroySlot_state {n : Nat} (huse : slotUse n ≠ 0) (hfault : (s.slot n).state ≠ .fault)
    (hdefective : s.keys.defective.contains n = false) : ((s.destroySlot n).slot n).state = .destroyed := by
  have hset : ((s.destroySlot n).slot n) = (s.setSlot n (destroyed (s.slot n))).slot n := by
    unfold destroySlot
    dsimp only
    rw [if_neg hfault, hdefective, if_neg Bool.false_ne_true]
    exact slot_of_keys (by rfl) (by rfl) n
  rw [hset, slot_setSlot_same _ _ _ huse, destroyed, if_neg hfault]

/-- An OPEN that closes its session before has the session's slot for its key. -/
theorem closeSession_installs (hfault : (s.slot (sessSlot c)).state ≠ .fault) (hregister : s.registerDestroying = false)
    (hready : (∃ v, s.session? c = some v ∧ v.state = .idle) ∨ s.keys.defective.contains (sessSlot c) = false) (cause : Nat) :
    ((s.closeSession c cause).destroyEnded (sessSlot c)).canInstall (sessSlot c) = true := by
  have hslot : ((s.closeSession c cause).slot (sessSlot c)).state ≠ .fault := by
    have hkeys : ((s.sessionSealed c).setSession c {}).keys = s.keys := (setSession_keys ..).trans (sessionSealed_keys s c)
    rw [closeSession_eq]
    split
    · next v hv =>
      split
      · exact hfault
      · next hstate =>
        obtain ⟨v', hv', hidle⟩ | hdefective := hready
        · exact absurd (Option.some.inj (hv'.symm.trans hv) ▸ hidle) hstate
        · rw [slot_congr (sessionEnded_keys ..), slot_congr (sessionUnstaged_keys ..), slot_destroySlot_state (slotUse_sessSlot c)
            (by rw [slot_congr hkeys]; exact hfault) (by rw [hkeys]; exact hdefective)]
          decide
    · exact hfault
  have hfree : ((s.closeSession c cause).destroyEnded (sessSlot c)).slotDestroying (sessSlot c) = false := by
    refine List.any_eq_false.mpr fun e he => ?_
    have hother := of_decide_eq_true (List.mem_filter.mp he).2
    simp [hother]
  have hcus : (s.closeSession c cause).cus = s.cus := by rw [(closeSession_manages (op := True) s c cause fun _ => trivial).eq]
  have hidle : ((s.closeSession c cause).destroyEnded (sessSlot c)).registerDestroying = false := by
    rw [registerDestroying, show ((s.closeSession c cause).destroyEnded (sessSlot c)).cus = s.cus from hcus]
    exact hregister
  have hinstalls : (((s.closeSession c cause).destroyEnded (sessSlot c)).slot (sessSlot c)).state ≠ .fault := hslot
  rw [canInstall, hfree, hidle, decide_eq_true hinstalls]
  rfl

/-! ## OPEN is answered (R433) -/

variable {p : Option Nat} {value lane peer np nd : Nat}

/-- The answer to an OPEN leaves the session as it is but for its SEQ. -/
theorem openReply_opens (hc : c ≠ .plain) (hkey : s.lookup (principalSlot p) = some value) (hsession : s.session? c = some w)
    (htx : w.txSeq ≤ 1) (hrx : w.rxSeq = 0) (lane peer status number np nd : Nat) :
    (∃ x, (s.openReply p lane peer status number np nd).session? c = some { w with txSeq := x }) ∧
      (s.openReply p lane peer status number np nd).slot (sessSlot c) = s.slot (sessSlot c) ∧
      Sent.openReply p peer status number ∈ (s.openReply p lane peer status number np nd).sent := by
  have htold : Sent.openReply p peer status number ∈ (s.send (.openReply p peer status number)).sent :=
    List.mem_append_right _ (List.mem_singleton_self _)
  unfold openReply
  rw [hkey]
  dsimp only
  cases p with
  | none =>
    dsimp only
    refine ⟨⟨w.txSeq, (session?_of_sp (frameOut_sp ..) c).trans hsession⟩, slot_congr (frameOut_keys ..) _, ?_⟩
    exact (frameOut_manages (op := True) _ _ _).sent.subset (List.mem_append_left _ htold)
  | some t =>
    dsimp only
    obtain ⟨hafter, hslot⟩ := queueMgmt_opens (s := s.send (.openReply (some t) peer status number)) hc lane _ hsession htx hrx
    exact ⟨hafter, hslot, (queueMgmt_manages (op := True) _ _ _).sent.subset htold⟩

/-- The session that an OPEN of a path takes. -/
def openPlace (s : State) : Option Nat → Option Caller
  | none => s.operFree.head?.map (fun n => Caller.operator (Fin.ofNat 32 n))
  | some t => some (tenantCaller t)

theorem openDone_of_place (hplace : s.openPlace p = some c) (hkey : s.lookup (principalSlot p) = some value)
    (hinstalls : ((s.closeSession c 5).destroyEnded (sessSlot c)).canInstall (sessSlot c) = true) :
    ∃ key, s.openDone p lane peer np nd = ((((s.closeSession c 5).destroyEnded (sessSlot c)).installKey (sessSlot c) key).setSession c
      { state := .opening, peer := peer, lane := lane, until_ := ((s.closeSession c 5).destroyEnded (sessSlot c)).now + secs 1 }).openReply
        p lane peer stDone (callerNumber c) np nd := by
  refine ⟨slotValue (sessionKey (slotKey value) np nd c), ?_⟩
  cases p with
  | none =>
    unfold openDone
    dsimp only
    rw [show s.operFree.head?.map _ = some c from hplace, hkey]
    dsimp only
    rw [hinstalls]
    exact if_neg Bool.false_ne_true
  | some t =>
    obtain rfl := Option.some.inj hplace
    unfold openDone
    dsimp only
    rw [hkey]
    dsimp only
    rw [hinstalls]
    exact if_neg Bool.false_ne_true

/-- The session opens under its key, and its path is told. -/
theorem openDone_opens (hc : c ≠ .plain) (hplace : s.openPlace p = some c) (hkey : s.lookup (principalSlot p) = some value)
    (hprincipal : sessSlot c ≠ principalSlot p)
    (hinstalls : ((s.closeSession c 5).destroyEnded (sessSlot c)).canInstall (sessSlot c) = true) :
    (∃ v, (s.openDone p lane peer np nd).session? c = some v ∧ v.state = .opening ∧ v.until_ = s.now + secs 1) ∧
      (s.openDone p lane peer np nd).keyValid (sessSlot c) = true ∧
      Sent.openReply p peer stDone (callerNumber c) ∈ (s.openDone p lane peer np nd).sent := by
  obtain ⟨key, hdone⟩ := openDone_of_place (lane := lane) (peer := peer) (np := np) (nd := nd) hplace hkey hinstalls
  generalize hclosed : (s.closeSession c 5).destroyEnded (sessSlot c) = u at hinstalls hdone
  have hnow : u.now = s.now := by
    rw [← hclosed]
    exact (congrArg State.now (closeSession_manages (op := True) s c 5 fun _ => trivial).eq :)
  have hprincipalSlot : u.slot (principalSlot p) = s.slot (principalSlot p) := by
    rw [← hclosed]
    exact slot_closeSession_other s 5 hprincipal
  generalize hopening : ({ state := .opening, peer := peer, lane := lane, until_ := u.now + secs 1 } : Session) = w at hdone
  have hslots (n : Nat) : ((u.installKey (sessSlot c) key).setSession c w).slot n = (u.installKey (sessSlot c) key).slot n :=
    slot_congr (setSession_keys ..) n
  have hkept : ((u.installKey (sessSlot c) key).setSession c w).lookup (principalSlot p) = some value := by
    rw [← hkey, lookup, lookup, keyValid, keyValid, hslots, slot_installKey_other _ _ hprincipal, hprincipalSlot]
  obtain ⟨⟨x, hsession⟩, hslot, hsent⟩ := openReply_opens hc hkept (setSession_same _ _ _ hc)
    (by rw [← hopening]) (by rw [← hopening]) lane peer stDone (callerNumber c) np nd
  rw [hdone]
  refine ⟨⟨_, hsession, ?_, ?_⟩, ?_, hsent⟩
  · rw [← hopening]
  · rw [← hopening, hnow]
  · rw [keyValid, hslot, hslots, slot_installKey _ _ _ (slotUse_sessSlot c) hinstalls]
    rfl

/-- What verifies does so under the principal key. -/
theorem openVerifies_key {m : List Nat} (h : s.openVerifies p m = true) : ∃ value, s.lookup (principalSlot p) = some value := by
  unfold openVerifies at h
  split at h
  · next value hkey => exact ⟨value, hkey⟩
  · cases h

/-- An OPEN that verifies, with its nonce to be had at once and a session to be had, opens it. -/
theorem takeOpen_of_verified {m : List Nat} {n : Nat} (hlocked : s.locked p = false) (hverifies : s.openVerifies p m = true)
    (hbody : openBodyOk (spBody (spText m)) = true) (hserves : s.drbgServes = true) (hplace : s.openPlace p = some c) :
    ∃ trng nd, s.takeOpen p n peer m = { s with trng := trng }.openDone p n peer (openNonce (spBody (spText m))) nd := by
  have hwaiting : s.operWaiting = 0 := by
    obtain ⟨-, hempty⟩ := Bool.and_eq_true_iff.mp hserves
    rw [operWaiting, List.isEmpty_iff.mp hempty]
    rfl
  have hroom : ¬ (p.isNone && decide (s.operFree.length ≤ s.operWaiting)) = true := by
    cases p with
    | none =>
      obtain ⟨k, hk, -⟩ := Option.map_eq_some_iff.mp hplace
      cases hfree : s.operFree with
      | nil =>
        rw [hfree] at hk
        cases hk
      | cons k l => simp [hwaiting]
    | some t => simp
  have hgranted (d : Consumer) : s.entropyAsk d = (.granted (s.draw d.bits).1, { s with trng := (s.draw d.bits).2.trng }) := by
    rw [← draw_eq]
    exact if_pos hserves
  refine ⟨(s.draw (Consumer.opening p n peer (openNonce (spBody (spText m)))).bits).2.trng,
    (s.draw (Consumer.opening p n peer (openNonce (spBody (spText m)))).bits).1, ?_⟩
  have hgood : ¬ (!s.openVerifies p m) = true := by rw [hverifies]; decide
  have hform : ¬ (!openBodyOk (spBody (spText m))) = true := by rw [hbody]; decide
  refine (if_neg (Bool.eq_false_iff.mp hlocked)).trans ((if_neg hgood).trans ((if_neg hform).trans ((if_neg hroom).trans ?_)))
  rw [hgranted]

end
end State

section
variable {lane : Option (Fin 16)} {bytes : List Byte} {p : Option Nat} {c : Caller} {s : State}

theorem signpostOpen_opens (htakes : s.spTakes lane bytes p 0o01 = true) (hlocked : s.locked p = false)
    (hverifies : s.openVerifies p (spMessage p bytes) = true) (hbody : openBodyOk (spBody (spText (spMessage p bytes))) = true)
    (hserves : s.drbgServes = true) (hplace : s.openPlace p = some c) (hc : c ≠ .plain)
    (hprincipal : State.sessSlot c ≠ State.principalSlot p) (hfault : (s.slot (State.sessSlot c)).state ≠ .fault)
    (hregister : s.registerDestroying = false)
    (hready : (∃ v, s.session? c = some v ∧ v.state = .idle) ∨ s.keys.defective.contains (State.sessSlot c) = false) :
    ∃ t, exec (.signpostOpen lane bytes) s = .next t ∧
      (∃ v, t.session? c = some v ∧ v.state = .opening ∧ v.until_ = s.now + secs 1) ∧ t.keyValid (State.sessSlot c) = true ∧
      Sent.openReply p (frameSa (bytesOf bytes)) stDone (State.callerNumber c) ∈ t.sent := by
  obtain ⟨notes, n, t, ht, hsp, hkeys, hsent⟩ := signpostOpen_taken htakes
  obtain ⟨trng, nd, htaken⟩ := State.takeOpen_of_verified (s := { s.clear with notes := notes }) (n := n)
    (peer := frameSa (bytesOf bytes)) hlocked hverifies hbody hserves hplace
  obtain ⟨value, hkey⟩ := State.openVerifies_key hverifies
  have hinstalls := State.closeSession_installs (s := { s.clear with notes := notes, trng := trng }) hfault hregister hready 5
  obtain ⟨⟨v, hsession, hopening⟩, hvalid, htold⟩ := State.openDone_opens (s := { s.clear with notes := notes, trng := trng })
    (lane := n) (peer := frameSa (bytesOf bytes)) (np := openNonce (spBody (spText (spMessage p bytes)))) (nd := nd)
    hc hplace hkey hprincipal hinstalls
  rw [htaken] at hsp hkeys hsent
  exact ⟨t, ht, ⟨v, (State.session?_of_sp hsp c).trans hsession, hopening⟩, (State.keyValid_congr hkeys _).trans hvalid,
    hsent ▸ htold⟩

end
end Sys2Proof.Machine

namespace Sys2Proof.Machine

section
variable {lane : Option (Fin 16)} {bytes : List Byte} {s : State}

/-- An operator takes the lowest free session. -/
theorem signpostOpen_operator {n : Nat} {rest : List Nat} (htakes : s.spTakes lane bytes none 0o01 = true)
    (hlocked : s.locked none = false) (hverifies : s.openVerifies none (spMessage none bytes) = true)
    (hbody : openBodyOk (spBody (spText (spMessage none bytes))) = true) (hserves : s.drbgServes = true)
    (hfree : s.operFree = n :: rest) (hn : n < 32) (hinstalls : s.canInstall (slotOperSession n) = true) :
    ∃ t, exec (.signpostOpen lane bytes) s = .next t ∧
      (tabGet {} t.sp.oper n).state = .opening ∧ (tabGet {} t.sp.oper n).until_ = s.now + secs 1 ∧
      t.keyValid (slotOperSession n) = true ∧ Sent.openReply none (frameSa (bytesOf bytes)) 0 n ∈ t.sent := by
  have hfin : Fin.ofNat 32 n = ⟨n, hn⟩ := Fin.ext (Nat.mod_eq_of_lt hn)
  have hplace : s.openPlace none = some (.operator ⟨n, hn⟩) := by
    rw [State.openPlace, hfree, ← hfin]
    rfl
  have hidle : (tabGet {} s.sp.oper n).state = .idle := by
    have hmem : n ∈ s.operFree := by rw [hfree]; exact List.mem_cons_self
    exact of_decide_eq_true (List.mem_filter.mp hmem).2
  simp only [State.canInstall, Bool.and_eq_true, decide_eq_true_eq, Bool.not_eq_true'] at hinstalls
  obtain ⟨⟨hfault, -⟩, hregister⟩ := hinstalls
  have hprincipal : State.sessSlot (.operator ⟨n, hn⟩) ≠ State.principalSlot none := by
    simp only [State.sessSlot, State.principalSlot, slotOperSession, slotOperator]
    omega
  obtain ⟨t, ht, ⟨v, hsession, hopening, huntil⟩, hvalid, hsent⟩ := signpostOpen_opens htakes hlocked hverifies hbody hserves
    hplace nofun hprincipal hfault hregister (.inl ⟨_, rfl, hidle⟩)
  obtain rfl := Option.some.inj hsession
  exact ⟨t, ht, hopening, huntil, hvalid, hsent⟩

/-- A tenant takes the tenant's own. -/
theorem signpostOpen_tenant {u : Nat} (htakes : s.spTakes lane bytes (some u) 0o01 = true) (hlocked : s.locked (some u) = false)
    (hverifies : s.openVerifies (some u) (spMessage (some u) bytes) = true)
    (hbody : openBodyOk (spBody (spText (spMessage (some u) bytes))) = true) (hserves : s.drbgServes = true) (hu : u < 16)
    (hfault : (s.slot (slotTenSession u)).state ≠ .fault) (hdefective : s.keys.defective.contains (slotTenSession u) = false)
    (hregister : s.registerDestroying = false) :
    ∃ t, exec (.signpostOpen lane bytes) s = .next t ∧
      (tabGet {} t.sp.ten u).state = .opening ∧ (tabGet {} t.sp.ten u).until_ = s.now + secs 1 ∧
      t.keyValid (slotTenSession u) = true ∧ Sent.openReply (some u) (frameSa (bytesOf bytes)) 0 u ∈ t.sent := by
  have hplace : s.openPlace (some u) = some (.tenant ⟨u, hu⟩) := congrArg some (State.tenantCaller_val ⟨u, hu⟩)
  have hprincipal : State.sessSlot (.tenant ⟨u, hu⟩) ≠ State.principalSlot (some u) := by
    simp only [State.sessSlot, State.principalSlot, slotTenSession, slotTenantKey]
    omega
  obtain ⟨t, ht, ⟨v, hsession, hopening, huntil⟩, hvalid, hsent⟩ := signpostOpen_opens htakes hlocked hverifies hbody hserves
    hplace nofun hprincipal hfault hregister (.inr hdefective)
  obtain rfl := Option.some.inj hsession
  exact ⟨t, ht, hopening, huntil, hvalid, hsent⟩

variable {p : Option Nat} {v : Session} {body : List Nat}

/-- A REQUEST of an OPEN session with a later SEQ leaves it busy. -/
theorem request_later (htakes : s.spTakes lane bytes p 0o03 = true)
    (hsession : s.session? (State.frameCaller p (spMessage p bytes)) = some v) (hstate : v.state = .opened) (huntil : s.now < v.until_)
    (hopens : s.requestOpens p (spMessage p bytes) = some body) (hbusy : v.busy = false)
    (hseq : v.rxSeq < spSeq (spMessage p bytes)) (hform : requestForm body = true) :
    ∃ t, exec (.request lane bytes) s = .next t ∧ t.session? (State.frameCaller p (spMessage p bytes)) = some
      { v with rxSeq := spSeq (spMessage p bytes), rxTag := spTag (spMessage p bytes), busy := true,
               until_ := s.now + secs s.sessionIdle } := by
  obtain ⟨t, ht, h⟩ := request_opens htakes hsession (by rw [hstate]; decide) huntil hopens hform rfl (.inr ⟨hstate, hbusy, hseq⟩)
  rw [← hstate] at h
  exact ⟨t, ht, h⟩

/-- The first one of a session that opens makes it OPEN and busy. -/
theorem request_first (htakes : s.spTakes lane bytes p 0o03 = true)
    (hsession : s.session? (State.frameCaller p (spMessage p bytes)) = some v) (hstate : v.state = .opening) (huntil : s.now < v.until_)
    (hopens : s.requestOpens p (spMessage p bytes) = some body) (hseq : spSeq (spMessage p bytes) = 1)
    (hform : requestForm body = true) :
    ∃ t, exec (.request lane bytes) s = .next t ∧
      (t.session? (State.frameCaller p (spMessage p bytes))).map (fun d => (d.state, d.busy, d.rxSeq)) = some (.opened, true, 1) := by
  obtain ⟨t, ht, h⟩ := request_opens htakes hsession (by rw [hstate]; decide) huntil hopens hform hseq (.inl ⟨hstate, rfl⟩)
  refine ⟨t, ht, ?_⟩
  rw [h]
  rfl

end

/-- Settles O35: an OPEN that verifies installs the session's key, and the frames that are built beside its answer leave the
session far from the end of its SEQ (a frame takes a cell of the management pool); every other clause is one branch of its
receiver. -/
theorem sessionsComplete : Obligations.SessionsComplete :=
  ⟨fun _ _ _ _ _ => signpostOpen_operator, fun _ _ _ _ => signpostOpen_tenant, fun _ _ _ _ => signpostOpen_unverified,
    fun _ _ _ _ => signpostOpen_locked, fun _ _ _ _ _ _ => request_later, fun _ _ _ _ _ _ => request_first,
    fun _ _ _ _ _ _ => request_replayed, fun _ _ _ _ _ => request_unverified, fun _ _ _ => plainRequest_allowed,
    fun _ _ _ => plainRequest_refused, fun _ _ _ => openingTimeout_closes, fun _ _ _ => idleTimeout_closes,
    fun tenant _ _ _ h => authLock_ends (h.trans (by cases tenant <;> rfl)), fun _ _ => close_closes⟩

end Sys2Proof.Machine
